-- ==== Sys2Proof/Word.lean ====
section
/-! DEFINITION. The words of the machine: bytes, 64-bit register words, vector registers, queue entries. -/

namespace Sys2Proof

/-- A byte. -/
abbrev Byte := BitVec 8
/-- A scalar register (Table TL-1). -/
abbrev W32 := BitVec 32
/-- A register of a page, and a global address (Table MD-7). -/
abbrev W64 := BitVec 64
/-- A vector register (Table TL-1). -/
abbrev Vec := BitVec 256
/-- A queue entry of 64 B (Table TL-1). -/
abbrev Entry := BitVec 512

/-- Bits `lo` to `lo + w - 1` of a number. -/
def bits (v lo w : Nat) : Nat := (v / 2 ^ lo) % 2 ^ w

/-- Division rounded up. -/
def ceilDiv (a b : Nat) : Nat := (a + b - 1) / b

/-- A Bool as a bit. -/
def b2n (b : Bool) : Nat := if b then 1 else 0

/-- A number read as two's complement in `w` bits. -/
def toSigned (v w : Nat) : Int := if v % 2 ^ w < 2 ^ (w - 1) then (v % 2 ^ w : Nat) else ((v % 2 ^ w : Nat) : Int) - 2 ^ w

/-- The two's complement bits of an integer in `w` bits. -/
def ofSigned (v : Int) (w : Nat) : Nat := (v % ((2 ^ w : Nat) : Int)).toNat

end Sys2Proof
end

