-- ==== Sys2Proof/Syntax.lean ====
section
/-! DEFINITION. The commands of the block, one constructor of `Instr` for each row of the opcode table, and the
operands they carry. -/

namespace Sys2Proof

/-- The outcome of the SECDED check of an access: no error, every error corrected, an uncorrectable error. [entry 7 DESIGN CHOICE] -/
inductive Ecc | clean | corrected | bad
  deriving DecidableEq, Repr

/-- The common fields of an instruction: guard predicate and its negation (Table IS-1). -/
structure Guard where
  gp : BitVec 3 := 0
  gn : BitVec 1 := 0
  deriving DecidableEq, Repr

/-- Format F fields (Table IS-3). With `i` 1 the immediate takes the place of RB, RC, TS and SCALE. -/
structure FArgs where
  rd : BitVec 5 := 0
  ra : BitVec 5 := 0
  kind : BitVec 1 := 0
  i : BitVec 1 := 0
  t : BitVec 4 := 0
  rb : BitVec 5 := 0
  rc : BitVec 5 := 0
  ts : BitVec 4 := 0
  scale : BitVec 8 := 0
  imm : BitVec 32 := 0
  deriving DecidableEq, Repr

/-- Format M fields (Table IS-5). -/
structure MArgs where
  r : BitVec 5 := 0
  rb : BitVec 5 := 0
  sz : BitVec 3 := 0
  space : BitVec 2 := 0
  h : BitVec 6 := 0
  q : BitVec 3 := 0
  off : BitVec 20 := 0
  deriving DecidableEq, Repr

/-- Format Q fields (Table IS-7). -/
structure QArgs where
  r : BitVec 5 := 0
  qn : BitVec 3 := 0
  side : BitVec 1 := 0
  rb : BitVec 5 := 0
  off : BitVec 20 := 0
  deriving DecidableEq, Repr

/-- Format X fields (Table IS-9). -/
structure XArgs where
  acc : BitVec 2 := 0
  wb : BitVec 1 := 0
  fa : BitVec 3 := 0
  fb : BitVec 3 := 0
  za : BitVec 1 := 0
  dq : BitVec 1 := 0
  qa : BitVec 3 := 0
  rb : BitVec 5 := 0
  stride : BitVec 7 := 0
  qo : BitVec 3 := 0
  t : BitVec 4 := 0
  scale : BitVec 8 := 0
  row : BitVec 4 := 0
  spm : BitVec 2 := 0
  spb : BitVec 1 := 0
  deriving DecidableEq, Repr

/-- Format C fields (Table IS-11). -/
structure CArgs where
  rc : BitVec 5 := 0
  csrc : BitVec 1 := 0
  rn : BitVec 5 := 0
  target : BitVec 13 := 0
  count : BitVec 24 := 0
  deriving DecidableEq, Repr

/-- Format S fields (Table IS-13). -/
structure SArgs where
  rd : BitVec 5 := 0
  ra : BitVec 5 := 0
  rb : BitVec 5 := 0
  rc : BitVec 5 := 0
  rop : BitVec 3 := 0
  fv : BitVec 1 := 0
  h : BitVec 6 := 0
  sd : BitVec 3 := 0
  deriving DecidableEq, Repr

/-- Who reads or writes a latch (R55): PF0, partition `n` through its VF, or tile `t` through its PART page. -/
inductive Owner
  | pf0
  | part (n : Nat)
  | tile (t : Nat)
  deriving DecidableEq, Repr

/-- A range that a repair copy could not read (R75, R142): the desk, or bench rows, of a logical tile. -/
structure LostRange where
  tile : Nat
  desk : Bool
  first : Nat
  last : Nat
  deriving DecidableEq, Repr

/-- A request at the desk or bench arbiter (R132, R136). [entry 97 PRESUMED] -/
structure Req where
  /-- Requester: 0 core, 1 to 3 the paths of the matrix unit, 8 to 15 stream engines, 16 router, 17 scrub, 18 refresh,
  19 row operations. -/
  who : Nat
  /-- What it accesses. Of a stream engine: 0 data, 1 list, 2 ring, each through the captured handle; of a path of the
  matrix unit: 0 an operand in the desk, 1 a row of B through B_H (R209); of the core: 0 a load or store, 1 a fetch. -/
  via : Nat := 0
  /-- Tile-local address. -/
  addr : Nat
  len : Nat
  write : Bool
  data : Nat
  /-- Cycles it has waited. -/
  age : Nat := 0
  deriving DecidableEq, Repr

/-- The instructions of the TAP (R376). -/
inductive TapInstr | bypass | idcode | boundary | debug
  deriving DecidableEq, Repr

/-- Where a packet stands: in the router of a tile, at the west rim of a row, at the north or south rim of a
column, at a span port. -/
inductive Loc
  | tile (t : Nat)
  | west (y : Nat)
  | north (x : Nat)
  | south (x : Nat)
  | span (p : Nat)
  deriving DecidableEq, Repr

/-- What an Ethernet frame that arrives on a port is (R269): a request that the port answers itself, for an address;
a UDP datagram, PTP or NVMe/TCP, which go on; anything else. -/
inductive EthKind
  | arp (addr : Nat)
  | nd (addr : Nat)
  | echo4 (addr : Nat)
  | echo6 (addr : Nat)
  | arpReply (addr mac : Nat)
  | ndReply (addr mac : Nat)
  | datagram
  | ptp
  | nvme
  | other
  deriving DecidableEq, Repr

/-- A UDP datagram: its tag, addresses, ports, payload bytes and the payload, lowest byte first. -/
structure Dgram where
  vid : Option Nat := none
  ipv6 : Bool := false
  srcIp : Nat
  srcUdp : Nat
  dstUdp : Nat
  len : Nat
  data : Nat
  deriving DecidableEq, Repr

/-- A packet (Table FB-2). -/
structure Packet where
  /-- Header word 0: the destination global address. -/
  dst : Nat
  /-- TYPE: 0 WRITE, 1 READ, 2 RESP, 3 QPUSH, 4 MWRITE. -/
  ty : Nat
  rsp : Bool := false
  esc : Bool := false
  phase : Bool := false
  ord : Bool := true
  len : Nat := 0
  srcX : Nat := 0
  srcY : Nat := 0
  srcMod : Nat := 0
  rq : Nat := 0
  tree : Nat := 0
  err : Bool := false
  part : Nat := 0
  payload : Nat := 0
  loc : Loc
  /-- Entered through this span port (R25), if it did. -/
  via : Option Nat := none
  /-- Physical edge address, where the translation was made before the packet left (R152). -/
  pa : Option Nat := none
  /-- The input port of the router whose buffer holds it: 0 N, 1 E, 2 S, 3 W, 4 where it entered the network (R170). -/
  inp : Nat := 4
  /-- The mesh count of its plain at which it entered that buffer. -/
  since : Nat := 0
  /-- It has met a full spill area (R179). -/
  full : Bool := false
  /-- The stream engine of the source tile and the number of the transfer that it serves (R168, R193). -/
  eng : Option (Nat × Nat) := none
  /-- The host DMA descriptor whose NOTIFY entry it brings: partition, queue, ring index (R202). -/
  dma : Option (Nat × Nat × Nat) := none
  deriving DecidableEq, Repr

/-- What a flit that arrives on a span link says of the other direction: the last sequence number received, and whether the
peer asks for a replay (R182). -/
structure SpanAck where
  seq : Nat
  replay : Bool := false
  deriving DecidableEq, Repr

/-- How a PTP message came: its domain, over IPv6 or IPv4, and by peer delay or delay request-response (R243). -/
structure PtpHead where
  domain : Nat
  v6 : Bool := false
  p2p : Bool := false
  deriving DecidableEq, Repr

/-- The result of the self-test of the backup sequencer, and the time at which the control block has come up. -/
structure SelfTest where
  pass : Bool := true
  at_ : Nat
  deriving DecidableEq, Repr

/-- The commands of the block: one constructor for each row of the opcode table. [entries 7 DESIGN CHOICE, 132 DESIGN CHOICE] -/
inductive Instr
  /-- A write to a register that has no row of its own takes effect at the write, or changes the shadow of a staged field (R47). -/
  | registerWrite (f off : Nat) (v : BitVec 64)
  /-- A read of an RC register returns its value and clears it to its reset value, unless CNT_FREEZE holds a capture (R6). -/
  | rcRegisterRead (f off : Nat)
  /-- A BAR register access that is not a naturally aligned 64-bit access completes with the write discarded or the read returning zero, and a fault is recorded on HST (R7). -/
  | misalignedRegisterAccess (f off bytes : Nat) (write : Bool)
  /-- A PAGE_CTRL write that changes CNT_FREEZE either captures every RC counter of the page or discards the capture (R32). -/
  | cntFreezeWrite (f page : Nat) (v : BitVec 64)
  /-- Writing NumVFs in the SR-IOV capability creates or removes VFs; partitions run either way (R34). -/
  | sriovNumvfsWrite (n : Nat) (msix : List Nat)
  /-- A host access through the PF0 or VF tile aperture reads or writes the windowed tile-local address, or is handled as an unassigned offset (R35). -/
  | apertureAccess (f b bytes : Nat) (write : Option (BitVec 64)) (ecc : Ecc)
  /-- A write to HST.APERTURE or PART.APERTURE moves the window for every aperture access received after the write completes (R37). -/
  | apertureWrite (f : Nat) (part : Option Nat) (v : BitVec 64)
  /-- A function-level reset of VF k acts as a partition reset of partition k - 1 (R40). -/
  | vfFunctionLevelReset (k : Nat)
  /-- A PF0 function-level reset returns the PF0 configuration, the PF0 MSI-X table and the HST registers to reset values and advances the PF0 latch epoch (R40). -/
  | managementReset
  /-- PART.CMD = START takes a STOPPED partition with a live image to RUNNING or DEGRADED and arms its timetable entries, or is rejected (R43). -/
  | start (f n : Nat)
  /-- PART.CMD = STOP takes a PAUSED or DRAINED partition to STOPPED, or is rejected (R43). -/
  | stop (f n : Nat)
  /-- PART.CMD = DRAIN takes a partition to DRAINING, where job-start entries stop and running jobs finish (R44). -/
  | drain (f n : Nat)
  /-- PART.CMD = RESUME takes a PAUSED or DRAINED partition to RUNNING or DEGRADED, or is rejected (R43). -/
  | resume (f n : Nat)
  /-- PART.CMD = PAUSE takes a RUNNING or DEGRADED partition to PAUSED, or is rejected (R43). -/
  | pause (f n : Nat)
  /-- PART.CMD = RESET advances epochs, stops tiles and queues, disarms seam pages, discards own shadows and enters RESETTING (R46). -/
  | partitionReset (f n : Nat)
  /-- A partition reset finishes and the partition enters STOPPED or EMPTY within 50 ms (R46). -/
  | partitionResetComplete (n : Nat)
  /-- When no job, queue entry, stream transfer or host DMA remains, the partition moves from DRAINING to DRAINED (R45). -/
  | drainComplete (n : Nat)
  /-- After DRAIN_LIMIT microseconds without completion, the partition raises DRAIN_TIMEOUT and stays DRAINING (R45). -/
  | drainTimeout (n at_ : Nat)
  /-- A write to a staged field changes the shadow and is placed before or after a seam capture by its arrival (R51). -/
  | stagedFieldWrite (f off : Nat) (v : BitVec 64)
  /-- STAGE_CTRL.COMMIT arms the page after the checks of R52; it applies at once if the partition is EMPTY, STOPPED or DRAINED (R49). -/
  | commit (f page : Nat) (v : BitVec 64)
  /-- STAGE_CTRL.DISCARD disarms the page and copies the live values into the shadow (R396). -/
  | discard (f page : Nat) (v : BitVec 64)
  /-- The captured pages apply within 4 us, set APPLIED, advance APPLY_COUNT and return to CLEAN, and held commits then arm (R50). -/
  | seamApplyComplete (n g : Nat)
  /-- A read of a latch is an acquire attempt that takes a FREE or BROKEN latch, or returns the current owner (R54). -/
  | latchAcquire (who : Owner) (k : Nat)
  /-- A write with RELEASE = 1 from the owner frees the latch; a release from anyone else is counted and ignored (R57). -/
  | latchRelease (who : Owner) (k : Nat)
  /-- A write with FORCE = 1 from PF0 makes a held latch BROKEN (R57). -/
  | latchForce (who : Owner) (k : Nat)
  /-- A write to MOD.RESET with the key performs a module reset (R358). -/
  | moduleResetWrite (v : BitVec 64) (at_ : Nat)
  /-- Assertion of PERST# performs a module reset, held during a backup and absorbed during a cold start (R358). -/
  | perstAssert (at_ : Nat)
  /-- Release of PERST# lets PCIe train at the later of step 3 of Table RS-2 and 60 ms after the release (R391). -/
  | perstRelease (at_ : Nat)
  /-- The PCIe link reaches L0, which starts the 1,000 ms minimum before READY (R391). -/
  | pcieLinkL0 (speed width : Nat) (flit : Bool) (at_ : Nat)
  /-- A pass flit that fails its CRC is replayed from the replay window, and differing lanes gain error counts (R69). -/
  | passCrcFailure (p edge link dir plane rim : Nat) (bad : List (Nat × Nat)) (at_ : Nat)
  /-- At the next mesh epoch tick a failed lane is replaced by a spare, the link stalls briefly, and the change is journalled (R69). -/
  | laneReplacement (p : Nat)
  /-- A tile's core, matrix unit, router or stream engine fails and raises a hardware fault with a minimum of FENCE_TILE (R336). -/
  | hardwareFaultDetect (t unit : Nat)
  /-- The Keeper computes the new map of the plain and requests a pause (R72). -/
  | respareMapComputed (p : Nat)
  /-- Tasks stop, matrix queues complete, streams halt and flits are delivered, and the plain enters PAUSED (R76). -/
  | plainQuiesced (p at_ : Nat)
  /-- The intent record with the new map is programmed into the journal zone (R80). -/
  | respareIntentProgrammed (p : Nat)
  /-- One tile or row copy moves the complete state of a logical tile onto the vacated site or row (R74). -/
  | respareCopyStep (p : Nat) (lost : List LostRange)
  /-- Lost image ranges are refilled from the image store, and other lost ranges are recorded in REPR.LOST (R75). -/
  | respareRefillComplete (p at_ : Nat)
  /-- The routers are loaded from the moved state and the plain returns to ACTIVE (R76). -/
  | plainResume (p at_ : Nat)
  /-- The commit record is programmed and REPR.JOURNAL.SEQ advances (R80). -/
  | respareCommitProgrammed (p : Nat)
  /-- REPR.CMD = RESPARE runs the re-spare sequence on the named site, or is refused (R83). -/
  | respare (f p x y : Nat)
  /-- REPR.CMD = RETIRE_ROW runs the re-spare sequence to retire the named row, or is refused (R83). -/
  | retireRow (f p y : Nat)
  /-- REPR.CMD = RETEST starts the built-in self-test of a bypassed, retired or fenced site (R84). -/
  | retest (f p x y : Nat)
  /-- The self-test ends within 200 ms and marks the site CLEARED, or gives TEST_FAILED (R84). -/
  | retestComplete (p : Nat) (pass : Bool)
  /-- REPR.CMD = COMPUTE_FENCE compute-fences the plain unless it is full-fenced (R83). -/
  | computeFence (f p : Nat)
  /-- REPR.CMD = FULL_FENCE full-fences the plain (R83). -/
  | fullFence (f p : Nat)
  /-- REPR.CMD = UNFENCE lifts the plain's fence by a plain reset when its preconditions hold (R83). -/
  | unfence (f p : Nat)
  /-- REPR.CMD = LANE_RESPARE replaces the named lane with a spare of its group (R83). -/
  | laneRespare (f p edge link dir plane group lane : Nat)
  /-- The core fetches one group of four instructions into the instruction buffer as a narrow desk request (R398). -/
  | instructionFetch (t g : Nat) (ecc : List Ecc)
  /-- The core selects the next READY task, urgent first and then round-robin, or idles (R89). -/
  | taskDispatch (t : Nat)
  /-- A BLOCKED task becomes READY within 2 tile cycles after the cause of its block clears (R88). -/
  | taskUnblock (t k : Nat)
  /-- A write to ENABLE disables a task at once or at its next end, yield or block, or places it in WAITING (R92). -/
  | taskEnableWrite (t k : Nat) (en : Bool)
  /-- A write to TILE.CTRL.RUN lets tasks fire or stops the core, and setting it loads the circuit credit counts (R164). -/
  | tileRunWrite (t : Nat) (run : Bool)
  /-- A word that does not decode raises ILLEGAL_INSTRUCTION whatever its guard (R110). -/
  | illegalInstruction (t : Nat) (w : BitVec 64)
  /-- Adds RA and RB modulo 2^w (R113). -/
  | add (t : Nat) (g : Guard) (a : FArgs)
  /-- Subtracts RB from RA modulo 2^w (R113). -/
  | sub (t : Nat) (g : Guard) (a : FArgs)
  /-- Writes the low w bits of RA × RB (R113). -/
  | mul (t : Nat) (g : Guard) (a : FArgs)
  /-- Writes the high w bits of the 2w-bit product, signed or unsigned by T (R112). -/
  | mulh (t : Nat) (g : Guard) (a : FArgs)
  /-- Writes RA AND RB (R112). -/
  | and (t : Nat) (g : Guard) (a : FArgs)
  /-- Writes RA OR RB (R112). -/
  | or (t : Nat) (g : Guard) (a : FArgs)
  /-- Writes RA XOR RB (R112). -/
  | xor (t : Nat) (g : Guard) (a : FArgs)
  /-- Writes RA AND NOT RB (R112). -/
  | andn (t : Nat) (g : Guard) (a : FArgs)
  /-- Shifts RA left by RB mod w (R112). -/
  | shl (t : Nat) (g : Guard) (a : FArgs)
  /-- Shifts RA right by RB mod w, arithmetic or logical by T (R112). -/
  | shr (t : Nat) (g : Guard) (a : FArgs)
  /-- Writes the lesser of RA and RB by T (R112). -/
  | min (t : Nat) (g : Guard) (a : FArgs)
  /-- Writes the greater of RA and RB by T (R112). -/
  | max (t : Nat) (g : Guard) (a : FArgs)
  /-- Writes the absolute value of RA, leaving the least signed value unchanged (R112). -/
  | abs (t : Nat) (g : Guard) (a : FArgs)
  /-- Copies RB or IMM to RD (R112). -/
  | mov (t : Nat) (g : Guard) (a : FArgs)
  /-- Adds with clamping to T and sets SATURATE when it clamps (R113). -/
  | adds (t : Nat) (g : Guard) (a : FArgs)
  /-- Subtracts with clamping to T and sets SATURATE when it clamps (R113). -/
  | subs (t : Nat) (g : Guard) (a : FArgs)
  /-- Floating-point addition rounded once to nearest even (R114). -/
  | fadd (t : Nat) (g : Guard) (a : FArgs)
  /-- Floating-point subtraction rounded once to nearest even (R114). -/
  | fsub (t : Nat) (g : Guard) (a : FArgs)
  /-- Floating-point multiplication rounded once to nearest even (R114). -/
  | fmul (t : Nat) (g : Guard) (a : FArgs)
  /-- Fused multiply-add with an exact product and one rounding (R114). -/
  | fma (t : Nat) (g : Guard) (a : FArgs)
  /-- Writes the lesser operand, NaN if either is NaN, ordering -0 below +0 (R114). -/
  | fmin (t : Nat) (g : Guard) (a : FArgs)
  /-- Writes the greater operand, NaN if either is NaN, ordering -0 below +0 (R114). -/
  | fmax (t : Nat) (g : Guard) (a : FArgs)
  /-- Inverts the sign bit of RA (R114). -/
  | fneg (t : Nat) (g : Guard) (a : FArgs)
  /-- Clears the sign bit of RA (R114). -/
  | fabs (t : Nat) (g : Guard) (a : FArgs)
  /-- Writes predicate RD with RA = RB (R115). -/
  | cmpeq (t : Nat) (g : Guard) (a : FArgs)
  /-- Writes predicate RD with RA ≠ RB (R115). -/
  | cmpne (t : Nat) (g : Guard) (a : FArgs)
  /-- Writes predicate RD with RA < RB (R115). -/
  | cmplt (t : Nat) (g : Guard) (a : FArgs)
  /-- Writes predicate RD with RA ≤ RB (R115). -/
  | cmple (t : Nat) (g : Guard) (a : FArgs)
  /-- Selects RA where predicate RC is true and RB elsewhere (R116). -/
  | sel (t : Nat) (g : Guard) (a : FArgs)
  /-- Converts RA from TS to T, scaled by 2^s, with the rounding and saturation rules (R117). -/
  | cvt (t : Nat) (g : Guard) (a : FArgs)
  /-- Sums the included elements of a vector by pairwise levels into a scalar (R118). -/
  | redadd (t : Nat) (g : Guard) (a : FArgs)
  /-- Writes the greatest included element of a vector into a scalar (R118). -/
  | redmax (t : Nat) (g : Guard) (a : FArgs)
  /-- Broadcasts the low w bits of a scalar to every element of a vector (R112). -/
  | vbcast (t : Nat) (g : Guard) (a : FArgs)
  /-- Extracts element IMM of a vector into a scalar, widened by T (R112). -/
  | vext (t : Nat) (g : Guard) (a : FArgs)
  /-- Inserts the low w bits of a scalar into element IMM of a vector (R112). -/
  | vins (t : Nat) (g : Guard) (a : FArgs)
  /-- Writes predicate RA AND RB (R115). -/
  | pand (t : Nat) (g : Guard) (a : FArgs)
  /-- Writes predicate RA OR RB (R115). -/
  | por (t : Nat) (g : Guard) (a : FArgs)
  /-- Writes predicate RA XOR RB (R115). -/
  | pxor (t : Nat) (g : Guard) (a : FArgs)
  /-- Writes predicate NOT RA (R115). -/
  | pnot (t : Nat) (g : Guard) (a : FArgs)
  /-- Copies all 32 bits of a scalar into a predicate (R115). -/
  | pfroms (t : Nat) (g : Guard) (a : FArgs)
  /-- Copies all 32 bits of a predicate into a scalar (R115). -/
  | sfromp (t : Nat) (g : Guard) (a : FArgs)
  /-- Loads a register or pair from tile-local or shelf-handle memory at EA (R119). -/
  | ld (t : Nat) (g : Guard) (a : MArgs) (ecc : Ecc)
  /-- Stores a register or pair to tile-local or shelf-handle memory at EA (R119). -/
  | st (t : Nat) (g : Guard) (a : MArgs) (ecc : Ecc)
  /-- Posts a packet-plane write of 4 B to 64 B to a global or handle address (R121). -/
  | put (t : Nat) (g : Guard) (a : MArgs)
  /-- Issues a packet-plane read whose reply enters input queue Q (R121). -/
  | get (t : Nat) (g : Guard) (a : MArgs)
  /-- Pops the head entry of a queue into a scalar (R122). -/
  | pops (t : Nat) (g : Guard) (a : QArgs)
  /-- Pops the head entry of a queue into a vector pair (R122). -/
  | popv (t : Nat) (g : Guard) (a : QArgs)
  /-- Pops the head entry of a queue into 64 B of desk (R122). -/
  | popd (t : Nat) (g : Guard) (a : QArgs)
  /-- Consumes and discards the head entry of a queue (R122). -/
  | skip (t : Nat) (g : Guard) (a : QArgs)
  /-- Pushes an entry built from a scalar into an output queue (R122). -/
  | pushs (t : Nat) (g : Guard) (a : QArgs)
  /-- Pushes an entry built from a vector pair into an output queue (R122). -/
  | pushv (t : Nat) (g : Guard) (a : QArgs)
  /-- Pushes 64 B of desk into an output queue (R122). -/
  | pushd (t : Nat) (g : Guard) (a : QArgs) (ecc : Ecc)
  /-- Returns the entries held or free in a queue without blocking (R122). -/
  | qcnt (t : Nat) (g : Guard) (a : QArgs)
  /-- Queues a load of 512 B into a weight buffer from desk or queue (R123). -/
  | mldw (t : Nat) (g : Guard) (a : XArgs)
  /-- Queues a dense matrix multiply-accumulate of 16 A rows into an accumulator (R97). -/
  | mma (t : Nat) (g : Guard) (a : XArgs)
  /-- Queues a gang multiply using the binding in TILE.GANG (R106). -/
  | mmag (t : Nat) (g : Guard) (a : XArgs)
  /-- Queues a sparse multiply in sparse × dense or sparse × sparse form (R207). -/
  | mmas (t : Nat) (g : Guard) (a : XArgs)
  /-- Queues zeroing of every element of an accumulator (R125). -/
  | mza (t : Nat) (g : Guard) (a : XArgs)
  /-- Queues a write of a vector pair into one accumulator row (R125). -/
  | mwra (t : Nat) (g : Guard) (a : XArgs)
  /-- Queues conversion of an accumulator and its store to desk or an output queue (R124). -/
  | msta (t : Nat) (g : Guard) (a : XArgs)
  /-- Reads one accumulator row into a vector pair once queued writes to it complete (R125). -/
  | mrda (t : Nat) (g : Guard) (a : XArgs)
  /-- A queued matrix operation starts on its path when the previous one on that path is done and no conflict remains (R125). -/
  | matrixOpStart (t n : Nat)
  /-- The matrix unit processes one A row once it has arrived (R97). -/
  | matrixRow (t i : Nat) (ecc : Ecc)
  /-- A gang tile takes an A row and partial row, forwards the row, and pushes or accumulates the partial sum (R106). -/
  | mmagRow (t : Nat)
  /-- A matrix operation completes in issue order and leaves the issue queue (R98). -/
  | matrixOpComplete (t : Nat)
  /-- A sparse × sparse output row and its terminator are pushed to QO in row order (R212). -/
  | mmasRowPush (t : Nat)
  /-- Does nothing (R94). -/
  | nop (t : Nat) (g : Guard) (a : CArgs)
  /-- Ends the firing and returns the task to WAITING (R87). -/
  | tend (t : Nat) (g : Guard) (a : CArgs)
  /-- Yields, returning the task to READY or WAITING to resume after the yield (R87). -/
  | tyield (t : Nat) (g : Guard) (a : CArgs)
  /-- Enters a counted loop, or skips it when the count is 0 (R126). -/
  | loop (t : Nat) (g : Guard) (a : CArgs)
  /-- Decrements the loop counter and branches back, or falls through (R126). -/
  | lend (t : Nat) (g : Guard) (a : CArgs)
  /-- Sets the program counter to TARGET (R127). -/
  | jmp (t : Nat) (g : Guard) (a : CArgs)
  /-- Reads the tile's logical X, Y and module number into a scalar (R109). -/
  | rdid (t : Nat) (g : Guard) (a : SArgs)
  /-- Reads TILE.CYCLES into a scalar pair (R109). -/
  | rdcyc (t : Nat) (g : Guard) (a : SArgs)
  /-- Returns the global address of a resolved handle at an offset (R144). -/
  | haddr (t : Nat) (g : Guard) (a : SArgs)
  /-- Returns the generation count of a resolved handle (R144). -/
  | hgen (t : Nat) (g : Guard) (a : SArgs)
  /-- Starts a stream descriptor after the checks of R185 (R184). -/
  | sstart (t : Nat) (g : Guard) (a : SArgs)
  /-- Takes a running or halted stream to STOPPING (R184). -/
  | sstop (t : Nat) (g : Guard) (a : SArgs)
  /-- Reads the state word of a stream descriptor (R184). -/
  | sstat (t : Nat) (g : Guard) (a : SArgs)
  /-- Starts a bench row operation COPY, FILL, AND, OR, XOR, NOT or MAJ (R128). -/
  | row (t : Nat) (g : Guard) (a : SArgs)
  /-- A row operation finishes its verify, array and reseal phases and releases its subarray pairs (R140). -/
  | rowOpComplete (t i : Nat) (corr : Bool) (badSrc : Option Nat)
  /-- The desk arbiter grants a waiting request by tier and bank, and the access is performed with ECC (R132). -/
  | deskRequestGrant (t : Nat) (reqs : List Req) (ecc : List (Nat × Ecc))
  /-- The bench column path grants a waiting request, and the access completes after its latency (R136). -/
  | benchRequestGrant (t : Nat) (reqs : List Req) (ecc : List (Nat × Ecc))
  /-- Every 65,536 tile cycles the scrubber reads one 64 B desk unit (R135). -/
  | deskScrub (t : Nat) (ecc : Ecc)
  /-- One refresh step refreshes one row in each subarray and closes every open row (R138). -/
  | benchRefreshStep (t : Nat)
  /-- A junction reading above 85 °C halves the refresh interval (R138). -/
  | refreshIntervalHalve (p : Nat) (temp : Int)
  /-- After 1 s at or below 83 °C the refresh interval returns to 242.4 us (R138). -/
  | refreshIntervalRestore (p : Nat) (temp : Int)
  /-- A failing bench row is mapped onto a redundant row in a repair pause, or the bench becomes unusable (R142). -/
  | benchRowReplacement (t row : Nat) (lost : List Nat)
  /-- The patrol scrub covers all edge memory every 24 h, counting and recording errors (R150). -/
  | edgePatrolScrub (ces : Nat) (ues : List Nat)
  /-- A write to PEPT.ENTRY changes the shadow of the selected entry, up to 4,096 differing entries (R152). -/
  | peptEntryWrite (f n : Nat) (v : BitVec 64)
  /-- A write to PEPT.PAGE_IN makes a non-resident page resident at once, or is refused (R153). -/
  | pageIn (f n : Nat) (v : BitVec 64)
  /-- A write to EDGE.WINn sets the window and empties the partition's translation cache, or is discarded (R155). -/
  | edgeWindowWrite (n : Nat) (v : BitVec 64)
  /-- Every 256 rounds a plain takes an epoch tick, switching to a committed slot-table bank (R166). -/
  | meshEpochTick (p : Nat)
  /-- After 48 rounds of settling, circuit sources resume injecting (R167). -/
  | bankSettlingEnd (p : Nat)
  /-- A write to a slot-table entry reaches the inactive bank, and a write to the active bank is discarded (R166). -/
  | slotTableWrite (t b o i : Nat) (v : BitVec 64)
  /-- A write to QBINDk binds or unbinds a queue, or is refused (R163). -/
  | qbindWrite (t k : Nat) (v : BitVec 64)
  /-- A source queue with credit sends its head entry in its slot and decrements its credits (R164). -/
  | circuitFlitInject (t k slot : Nat) (bf16 : Bool)
  /-- A router forwards an arriving circuit flit by the active bank, or drops it as an orphan (R161). -/
  | circuitFlitForward (i : Nat)
  /-- A circuit flit on output L enters the sink input queue (R163). -/
  | circuitFlitDeliver (i : Nat)
  /-- A returned credit reaches the source queue and increments its count (R164). -/
  | creditReturn (t k : Nat)
  /-- A packet moves to the next router when the whole packet fits there (R170). -/
  | packetHop (i dir : Nat)
  /-- A packet that has waited ESC_WAIT cycles moves to COL (R170). -/
  | packetEscape (i : Nat)
  /-- A WRITE packet writes its payload at the destination, or is refused (R168). -/
  | write (i : Nat) (ecc : Ecc)
  /-- A READ packet returns a RESP of LEN bytes, with ERR on error or refusal (R168). -/
  | read (i : Nat) (ecc : Ecc)
  /-- A RESP packet enters its reply queue once every entry fits (R168). -/
  | resp (i : Nat)
  /-- A QPUSH packet enters its target queue as one entry once there is room (R168). -/
  | packetQpush (i : Nat)
  /-- A multicast write is copied to the outputs of its tree and written at each leaf (R173). -/
  | mwrite (i : Nat) (ecc : Ecc)
  /-- The Keeper loads the detour table into every MESH page after a full fence (R174); `tree` is the spanning tree that it
takes: a plain, and the edge toward its parent (0 N, 1 E, 2 S, 3 W); a root has no pair. -/
  | detourTableLoaded (tree : List (Nat × Nat))
  /-- When the stall window expires with data waiting and no firing, a deadlock is declared and full queues spill (R177). -/
  | stallDeclare (n at_ : Nat)
  /-- The bench refills an extended queue from its spill area, oldest first (R178). -/
  | spillRefill (t k : Nat)
  /-- A span flit is accepted, dropped as a duplicate, or dropped with a replay request (R182). -/
  | spanFlitReceive (p : Nat) (crcOk : Bool) (seq : Nat) (ack : SpanAck) (pkt : Option Packet)
  /-- With no acknowledgement for REPLAY_TO_NS the sender replays from the oldest unacknowledged flit (R182). -/
  | spanReplayTimeout (p : Nat)
  /-- A trained span link goes down, raising SPAN_DOWN and making its routed modules unreachable (R182). -/
  | spanLinkDown (p : Nat)
  /-- A span port trains and sets STATUS.UP (R183). -/
  | spanLinkUp (p lanes peer : Nat)
  /-- A write to SPN0.NODE sets the module number, or is discarded unless every partition is EMPTY, STOPPED or DRAINED (R183). -/
  | spanNodeWrite (f : Nat) (v : BitVec 64)
  /-- STREAM_CMD with OP = START starts a descriptor, or sets HOST_REFUSED (R184). -/
  | streamCmdStart (t d : Nat)
  /-- STREAM_CMD with OP = STOP takes a stream to STOPPING (R184). -/
  | streamCmdStop (t d : Nat)
  /-- The stream engine pops an entry of 16 indices from IDXQ (R187). -/
  | streamIndexPop (t d : Nat)
  /-- A stream translates and issues its next transfer when outstanding count and destination room allow (R189). -/
  | streamTransferIssue (t d : Nat) (ecc : Ecc) (at_ : Nat)
  /-- A transfer's data lands or its write is acknowledged, advancing the stream towards DONE, IDLE or a cyclic restart (R189). -/
  | streamTransferComplete (t d i : Nat) (ecc : Ecc)
  /-- When a ring slot is full and landed, a notify entry is pushed into NQ once there is room (R190). -/
  | streamRingNotify (t d : Nat)
  /-- The stream engine pops an entry from RQ and frees the oldest notified slot (R190). -/
  | streamRingCredit (t d : Nat)
  /-- A halted stream posts a halt record to PSTR, merging by page or waiting while PSTR is full (R195). -/
  | streamHaltPost (t d at_ : Nat)
  /-- A read of PSTR.HALT_POP returns and removes the oldest halt record (R195). -/
  | haltPop (f n : Nat)
  /-- A write to PSTR.RESUME makes halted streams on a page, or all, check their page again (R196). -/
  | pstrResume (f n : Nat) (v : BitVec 64) (at_ : Nat)
  /-- A halted stream finding its page translated and resident returns to RUNNING within 2 us (R196). -/
  | streamResume (t d at_ : Nat)
  /-- A stream halted longer than HALT_LIMIT raises STREAM_HALT_TIMEOUT (R197). -/
  | streamHaltTimeout (t d at_ : Nat)
  /-- A write to QTAIL offers new host DMA descriptors to the queue (R201). -/
  | pqTailWrite (f n j : Nat) (v : BitVec 64)
  /-- A write to QCFG enables a queue or restarts a stopped queue at QHEAD (R203). -/
  | pqQcfgWrite (f n j : Nat) (v : BitVec 64)
  /-- A queue fetches a descriptor and starts its transfer, up to 4 in flight (R201). -/
  | hostDmaDescriptorStart (n j : Nat) (w0 w1 w2 w3 : BitVec 64) (hostData : Nat) (hostErr : Bool) (ecc : Ecc)
  /-- A NOTIFY QPUSH is sent after a descriptor's data is written (R202). -/
  | hostDmaNotify (n j i : Nat)
  /-- A completed descriptor is written back in ring order with its status, and its interrupt raised (R201). -/
  | hostDmaWriteback (n j : Nat)
  /-- PSW.CMD = DILATE turns OCC into INFL with the footprint (R219). -/
  | dilate (f n : Nat)
  /-- PSW.CMD = INIT sets goal costs to 0 and all others to 0xFFFF (R220). -/
  | init (f n : Nat)
  /-- PSW.CMD = RUN spreads cost-to-go in rounds until convergence or ROUND_LIMIT (R220). -/
  | run (f n : Nat)
  /-- PSW.CMD = REPAIR updates INFL and COST around a changed rectangle (R224). -/
  | repair (f n : Nat)
  /-- PSW.CMD = EXTRACT writes a least-cost path from START to edge memory (R223). -/
  | extract (f n : Nat)
  /-- PSW.CMD = CHECK tests a stored path against INFL (R223). -/
  | check (f n : Nat)
  /-- PSW.CMD = ABORT stops every engine within one round (R225). -/
  | abort (f n : Nat)
  /-- A sweep engine pops a boundary message from QIN as it arrives (R218). -/
  | sweepMessagePop (t : Nat)
  /-- A grid tile runs or skips a round once it holds every neighbour's previous message (R221). -/
  | sweepRound (t : Nat)
  /-- A sweep command ends, setting STATE and RESULT and raising PSW's event (R226). -/
  | sweepCommandEnd (n : Nat)
  /-- IMG.CMD = GO starts a cold or warm image load, or refuses it (R230). -/
  | imgGo (f : Nat)
  /-- IMG.CMD = ABORT ends the load with ABORTED within 1 ms (R241). -/
  | imgAbort (f : Nat)
  /-- The prologue is read and checked in order, rejecting the load or starting placement (R230). -/
  | imgPrologueChecked (p len : Nat) (started : List Nat)
  /-- A fetched shard is checked and placed, or fetched again up to SHARD_RETRY times (R236). -/
  | imgShardArrive (i data len : Nat) (ok stored : Bool)
  /-- An NVMe/TCP Read with no completion in 2 s counts as a failed shard fetch (R234). -/
  | nvmeReadTimeout (i : Nat)
  /-- A failed NVMe/TCP connection attempt is counted, and three in a row end the load with SOURCE_FAILED (R234). -/
  | nvmeConnectFail
  /-- Every record is placed and the image store slot complete, and the load reaches DONE (R237). -/
  | imgLoadDone
  /-- An upstream module serves a targeted resend of one shard from its image store slot (R239). -/
  | imgResendRequest (m i : Nat)
  /-- A peer's load outcome advances PEERS_DONE or PEERS_FAILED (R239). -/
  | imgPeerReport (m : Nat) (ok : Bool)
  /-- A PTP message disciplines module time by a step or a slew (R243). -/
  | ptpMessageReceive (port : Nat) (head : PtpHead) (offset : Int) (state rate at_ : Nat)
  /-- Loss of PTP lock puts PTP_STATUS in HOLDOVER (R243). -/
  | ptpHoldoverEntry (at_ : Nat)
  /-- An accepted input edge changes the timebase position by its mode (R245). -/
  | timebaseEdge (edges : List Nat) (stable at_ : Nat)
  /-- A rising edge on SRC_Z latches the position in TBn_INDEX (R248). -/
  | indexPulse (z stable at_ : Nat)
  /-- Every 10 us each timebase records its position in its history and updates VELOCITY (R250). -/
  | historySample (at_ : Nat)
  /-- A persisting receiver fault or missing edges for ENC_TIMEOUT_US declare loss (R252). -/
  | encoderLoss (b at_ : Nat)
  /-- After COAST_MS of coasting the timebase enters LOST and its open items close (R253). -/
  | coastExpiry (b at_ : Nat)
  /-- Every microsecond the timetable fires up to 64 due entries per partition (R258). -/
  | timetableService (n at_ : Nat)
  /-- A loaded trigger's leading edge starts when the interpolated position reaches its due position (R260). -/
  | triggerPulseStart (n e : Nat) (item : Option Nat) (at_ : Nat)
  /-- A trigger pulse ends after WIDTH × 100 ns (R260). -/
  | triggerPulseEnd (o at_ : Nat)
  /-- A write to PTT.REARM arms an absolute entry at once with N = POS (R256). -/
  | rearm (f n : Nat) (v : BitVec 64)
  /-- A write to TBS.QUERY_TIME maps a module time to a position on the selected timebase (R251). -/
  | queryTime (f : Nat) (v : BitVec 64)
  /-- A write to TBn_ADJUST adds to the position as a forward jump (R265). -/
  | adjust (f b : Nat) (v : BitVec 64)
  /-- A port answers ARP, neighbour discovery and echo itself, passes sessions, PTP and NVMe on, and drops the rest (R269). -/
  | ethFrameReceive (p bytes : Nat) (k : EthKind) (fcsOk : Bool) (fecFixed fecBad : Nat)
  /-- An Ethernet link goes up or down, raising the port's event (R268). -/
  | ethLinkChange (p : Nat) (up : Bool) (lanes : Nat)
  /-- A write to PRT.CFG.MODE retrains the link at once (R268). -/
  | prtModeWrite (f p : Nat) (v : BitVec 64)
  /-- A datagram is classified to an ingress session and written into its frame ring slot (R270). -/
  | ingressPacket (p : Nat) (d : Dgram) (from_ at_ : Nat)
  /-- FRAME_TIMEOUT_US without a packet ends the current frame (R273). -/
  | frameTimeout (i at_ : Nat)
  /-- A doorbell PUT to PLG.SUBMIT makes the ledger read the record from the tile (R278). -/
  | ledgerSubmit (i : Nat) (ecc : Ecc)
  /-- The ledger checks the record, accepts it with a SEQ or refuses it, and pushes the acceptance entry (R279). -/
  | ledgerAccept (n at_ : Nat)
  /-- A released record is sent as LDP DATA when the window and shaper allow (R282). -/
  | ldpSend (e at_ : Nat)
  /-- A valid ACK removes each held record it names; an invalid one is dropped (R283). -/
  | ldpAck (e port srcIp srcUdp dstUdp len data : Nat)
  /-- A record without an ACK after RTO_US is sent again with RETRANSMIT and a doubled timer (R284). -/
  | ldpRetransmitTimeout (e seq at_ : Nat)
  /-- A record held beyond AGE_LIMIT_MS raises PARTNER_SILENT once per session (R284). -/
  | partnerSilent (e at_ : Nat)
  /-- Every microsecond each bucket gains RATE / 10^6 tokens, capped at BURST (R287). -/
  | shaperRefill (at_ : Nat)
  /-- A write to RATE keeps the tokens and debt and refills at the new rate (R288). -/
  | shaperRateWrite (f e : Nat) (v : BitVec 64)
  /-- A write to BURST clips positive tokens and keeps debt (R288). -/
  | shaperBurstWrite (f e : Nat) (v : BitVec 64)
  /-- SES.FORGIVE clears a session's debt (R288). -/
  | forgive (f : Nat) (v : BitVec 64)
  /-- A write to LDG.POOL sets the ledger pool, or is discarded with CFG_REFUSED (R277). -/
  | ledgerPoolWrite (f : Nat) (v : BitVec 64)
  /-- A write to PLG.CAPACITY sets the partition's slots, or is discarded with CFG_REFUSED (R277). -/
  | ledgerCapacityWrite (f n : Nat) (v : BitVec 64)
  /-- The input below 46 V for 20 us enters SLOW, raises SUPPLY_LOW and stops charging (R290). -/
  | supplyLow (mv at_ : Nat)
  /-- The input at or above 47 V for 10 ms ends the low condition (R290). -/
  | supplyLowEnd (mv at_ : Nat)
  /-- The input below 42 V for 200 us isolates it, the pack carries the module, and a backup starts (R300). -/
  | powerFail (mv at_ : Nat)
  /-- The input above 58 V for 100 us raises OVERVOLT (R290). -/
  | overvolt (mv at_ : Nat)
  /-- The input at or below 58 V for 10 ms ends the overvoltage condition (R290). -/
  | overvoltEnd (mv at_ : Nat)
  /-- The input above 61 V for 100 us is isolated and handled as a power-fail (R290). -/
  | overvoltIsolate (mv at_ : Nat)
  /-- The input returns to 46 V during a backup, so the module restarts after the commit (R304). -/
  | supplyRestored (mv at_ : Nat)
  /-- Droop above the next threshold raises the plain's stretch step within 2 mesh cycles (R291). -/
  | droopStepUp (p mv at_ : Nat)
  /-- Droop 10 mV below the current threshold for RELEASE_US lowers the stretch step (R291). -/
  | droopStepDown (p mv at_ : Nat)
  /-- A plain at MAX_STEP longer than LIMIT_MS raises PLAIN_DROOP (R292). -/
  | plainDroop (p at_ : Nat)
  /-- A write to PWR.CTRL sets FORCE_SLOW and CHARGE_EN (R293). -/
  | pwrCtrlWrite (f : Nat) (v : BitVec 64)
  /-- Every millisecond the W2 evaluates the arming conditions and updates ARMED (R294). -/
  | armEvaluate (energy est at_ : Nat)
  /-- Every 24 h and at start the Keeper measures pack capacity and may raise PACK_WORN (R296). -/
  | packCapacityMeasure (cap at_ : Nat)
  /-- A cell imbalance, over-temperature or charger failure isolates the pack and disarms the W2 (R296). -/
  | packFault
  /-- Opening the pack latch isolates and bleeds the pack and counts as PACK_FAULT (R384). -/
  | packLatchOpen
  /-- After an apply changing HANDLE_BUDGET or geometry, the partition's handle keeps are recounted within 10 ms (R298). -/
  | keepRecount (n : Nat)
  /-- The freeze completes within 1 ms and the keep data is captured as it stands (R301). -/
  | backupFreezeComplete (at_ : Nat)
  /-- Unneeded blocks power off and the module is in HELD (R301). -/
  | backupHeld (at_ : Nat)
  /-- The open record is programmed and the older backup slot retired (R316). -/
  | backupOpenRecord (at_ : Nat)
  /-- The keep data is written to the slot in 14 + 2 stripes (R317). -/
  | backupWriteComplete (fails at_ : Nat)
  /-- The commit record is programmed, and the module powers down or restarts (R301). -/
  | backupCommit (energy at_ : Nat)
  /-- The pack empties before the commit, so no backup is committed (R303). -/
  | packEnergyExhausted (at_ : Nat)
  /-- A restore step finishes writing back the system part, ledgers, ranges, image or handle keeps (R306). -/
  | restorePhaseComplete (phase n : Nat) (lost : List Nat) (rebuilt at_ : Nat)
  /-- When every partition is restored and the W2 is armed, all leave RESTORING in one step (R306). -/
  | restoreExit (energy at_ : Nat)
  /-- A write to CHST.RELEASE with the key retires every committed backup slot (R334). -/
  | chstRelease (f : Nat) (v : BitVec 64)
  /-- A write to CHST.UTAIL offers new user-zone descriptors to the ring (R322). -/
  | chestUtailWrite (f : Nat) (v : BitVec 64)
  /-- A write to UCFG enables the ring or restarts a stopped ring at UHEAD (R322). -/
  | chestUcfgWrite (f : Nat) (v : BitVec 64)
  /-- An ERASE descriptor journals an intent and erases a user block in the chosen mode (R321). -/
  | chestErase (w0 w1 w2 w3 : BitVec 64) (pass : Bool)
  /-- A PROGRAM descriptor writes pages at or above NEXT_PAGE, or ends with NOT_BLANK (R323). -/
  | chestProgram (w0 w1 w2 w3 : BitVec 64) (data : Nat) (hostErr pass : Bool)
  /-- A READ descriptor reads a page through the read-retry ladder (R326). -/
  | chestRead (w0 w1 w2 w3 : BitVec 64) (step : Option Nat) (corrected bits_ : Nat) (hostErr : Bool)
  /-- An INFO descriptor writes a block's erase count, state, mode and NEXT_PAGE (R321). -/
  | chestInfo (w0 w1 w2 w3 : BitVec 64) (hostErr : Bool)
  /-- A user-zone descriptor is written back in ring order with its result (R322). -/
  | chestWriteback
  /-- A background erase of a retired backup slot or freed image slot completes (R316). -/
  | chestBackgroundEraseComplete (image : Bool) (k fails stripes : Nat)
  /-- A journal or image store page needing shift 5 or above is rewritten to a fresh block (R326). -/
  | chestRefreshRewrite (steps corrected : Nat)
  /-- A write to ZONE.USER_BLOCKS moves the user-zone boundary, or sets ZONE_REFUSED (R325). -/
  | chestZoneWrite (f : Nat) (v : BitVec 64) (clash : Bool)
  /-- FW_CMD = UPDATE checks a Keeper firmware image and writes it into the inactive slot (R330). -/
  | fwUpdate (f : Nat)
  /-- An update step of checking, erasing, programming, verifying or activating finishes (R331). -/
  | fwUpdateStepComplete (pro len : Nat) (ok : Bool)
  /-- FW_CMD = RESTART restarts the Keeper so the new slot boots on trial (R329). -/
  | fwRestart (f : Nat)
  /-- 60 s after restart the new firmware writes a selector word with TRIAL = 0 (R329). -/
  | fwTrialConfirm (at_ : Nat)
  /-- The 500 ms watchdog expires and the Keeper restarts (R332). -/
  | keeperWatchdogExpiry (at_ : Nat)
  /-- The two Keeper cores disagree, raising KEEPER_LOCKSTEP and restarting the Keeper (R357). -/
  | keeperLockstepError (at_ : Nat)
  /-- Keeper firmware runs again and deferred repairs, detours and Chest commands proceed (R357). -/
  | keeperUp (ok0 ok1 unwrap copyA copyB : Bool) (at_ : Nat)
  /-- Writing FAULT_MORE.CLEAR clears the collector's first record (R340). -/
  | faultClear (f page : Nat)
  /-- A FAULT_REACT write on an unstaged page takes effect, or is discarded with REACT_REFUSED (R344). -/
  | faultReactWrite (f page : Nat) (v : BitVec 64)
  /-- A write to FLT.SRC_REACT sets a source's override, or is refused with OVR_REFUSED (R345). -/
  | faultOverrideWrite (f : Nat) (v : BitVec 64)
  /-- After QUIET_MS without a severe fault, a FAULTED or degraded partition recovers, or becomes sticky (R349). -/
  | partitionRecovery (n at_ : Nat)
  /-- Writing 1 to PFLT.STATUS.STICKY clears it and lets the partition leave FAULTED (R351). -/
  | stickyClear (f n : Nat)
  /-- Writing 1 to FLT.STATUS.HALTED clears the module halt (R351). -/
  | haltedClear (f : Nat)
  /-- The 54 V input held at 46 V for 100 ms releases the Keeper and starts the module from OFF (R352). -/
  | coldStart (mv rtc at_ : Nat)
  /-- The control block comes up and the early pages become READY (R359). -/
  | controlBlockUp (r : SelfTest)
  /-- Every 40 ms a group of four plains powers up, receives its map and zeroes memory (R359). -/
  | plainGroupPowerUp (g : Nat) (fails : List Nat) (at_ : Nat)
  /-- The passes are trained and every plain begins round 0 together (R158). -/
  | passTrainingComplete (at_ : Nat)
  /-- Edge memory is trained and zeroed, and SERDES are ready (R359). -/
  | edgeTrainingComplete (fails : List Nat) (at_ : Nat)
  /-- The Keeper loads the K fields of the plain, edge, port, span and partition pages (R359). -/
  | kFieldsLoaded (at_ : Nat)
  /-- Every page becomes READY and MOD.STATUS.READY sets, followed by a restore if one is pending (R360). -/
  | moduleReady (rtc at_ : Nat)
  /-- MOD.PSTATE.REQ = IDLE-HOLD gates the plain clocks, or is refused (R362). -/
  | idleHoldRequest (f : Nat)
  /-- MOD.PSTATE.REQ = BENCH-RETAIN with the key starts entry to BENCH-RETAIN, or is refused (R364). -/
  | benchRetainRequest (f : Nat) (key : BitVec 16)
  /-- MOD.PSTATE.REQ = RUN leaves IDLE-HOLD or exits BENCH-RETAIN (R362). -/
  | runRequest (f at_ : Nat)
  /-- Spill homes are copied and everything except self-refresh, Keeper and control block powers down (R365). -/
  | benchRetainEntered (at_ : Nat)
  /-- The plains are ungated in groups and the W2 returns to RUN within 2 ms (R362). -/
  | idleHoldExitComplete (at_ : Nat)
  /-- The DOE mailbox answers a DOE Discovery request (R371). -/
  | doeDiscovery (index : Nat)
  /-- The SPDM responder answers GET_VERSION and starts a connection (R371). -/
  | getVersion
  /-- The SPDM responder reports its capabilities (R371). -/
  | getCapabilities
  /-- The SPDM responder agrees P-384 and SHA-384, or answers ERROR (R371). -/
  | negotiateAlgorithms (p384 sha384 : Bool)
  /-- The SPDM responder returns the certificate chain digests (R371). -/
  | getDigests
  /-- The SPDM responder returns the slot 0 certificate chain (R370). -/
  | getCertificate (slot off len : Nat)
  /-- The SPDM responder signs a CHALLENGE with the identity key (R371). -/
  | spdmChallenge (slot transcript : Nat)
  /-- The SPDM responder captures every measurement in one step and signs the response (R372). -/
  | getMeasurements (index : Nat) (signed : Bool) (transcript : Nat)
  /-- A request outside the subset, or any request while the Keeper is down, is answered with ERROR (R371). -/
  | spdmUnsupportedRequest
  /-- A write to SEC.REKEY with the key draws new Chest keys and starts erasing the backup zone and image store (R374). -/
  | rekey (f : Nat) (v : BitVec 64)
  /-- The re-key erase finishes within 120 s and REKEYING clears (R374). -/
  | rekeyComplete (at_ : Nat)
  /-- IMGKEY_CMD = PROGRAM stores a P-384 key in an EMPTY slot, or is refused (R375). -/
  | imgkeyProgram (f slot : Nat)
  /-- IMGKEY_CMD = REVOKE with the key blows the slot's revocation fuse (R375). -/
  | imgkeyRevoke (f slot : Nat) (key : BitVec 16)
  /-- JTAG_CMD = CHALLENGE draws a nonce and enters CHALLENGED, unless locked out (R377). -/
  | jtagChallenge (f at_ : Nat)
  /-- JTAG_CMD = VERIFY checks the signed response and unlocks to SCOPE, or counts a failure (R377). -/
  | jtagVerify (f scope at_ : Nat)
  /-- JTAG_CMD = RELOCK returns the TAP to LOCKED (R378). -/
  | jtagRelock (f : Nat)
  /-- A nonce expires 60 s after CHALLENGE (R377). -/
  | jtagNonceExpiry (at_ : Nat)
  /-- An OPEN, SHORT or CM condition lasting 10 us sets the receiver fault (R386). -/
  | rxFaultDetect (i : Nat) (vid vcm : Int) (at_ : Nat)
  /-- A receiver fault clears after 10 us without its condition (R386). -/
  | rxFaultClear (i : Nat) (vid vcm : Int) (at_ : Nat)
  /-- A plain's junction at WARN_C for 10 ms raises THERMAL_WARN (R393). -/
  | thermalWarn (p : Nat) (temp : Int) (at_ : Nat)
  /-- A plain's junction at CRIT_C for 1 ms raises THERMAL_CRIT, at least compute-fencing the plain (R393). -/
  | thermalCrit (p : Nat) (temp : Int) (at_ : Nat)
  /-- A plain's junction at 115 °C for 10 us full-fences the plain by hardware (R393). -/
  | thermalHardwareTrip (p : Nat) (temp : Int) (at_ : Nat)
  /-- Flow below FLOW_MIN for 2 s raises COOLANT_FLOW (R393). -/
  | coolantFlow (flow inlet outlet drop at_ : Nat)
  /-- Inlet above INLET_MAX_C for 10 s raises COOLANT_TEMP (R393). -/
  | coolantTemp (flow inlet outlet drop at_ : Nat)
  /-- A thermal or coolant fault clears after its condition is absent for 1 s (R393). -/
  | thermalFaultClear (p : Option Nat) (temp : Int) (flow inlet outlet drop at_ : Nat)
  /-- SMBus command 0x01 returns status bytes (R390). -/
  | smbusStatus
  /-- SMBus command 0x02 returns SEC.ID_HASH (R390). -/
  | smbusIdHash
  /-- SMBus command 0x03 returns supply and pack figures (R390). -/
  | smbusSupply
  /-- SMBus command 0x04 returns the hottest junction of each plain (R390). -/
  | smbusTemps
  /-- SMBus command 0x05 returns PWR.COOLANT (R390). -/
  | smbusCoolant
  /-- SMBus command 0x06 returns FLT.FAULT_FIRST and FAULT_MORE (R390). -/
  | smbusFault
  /-- A read of the Alert Response Address releases ALERT# and returns the module address (R390). -/
  | smbusAlertResponse (adr : Nat)
  /-- Any other SMBus command code is answered with NACK (R390). -/
  | smbusUnknownCommand (code : Nat)
  /-- The input returns to 42 V or above less than 200 us after falling below it, so no power-fail occurs and PWR.LOW_DIPS advances (R290). -/
  | supplyDipEnd (lowest mv at_ : Nat)
  /-- Closing the pack latch completes the interlock loop, so the Keeper stops isolating the pack and the latch-open PACK_FAULT condition ends (R384). -/
  | packLatchClose
  /-- VIO appears or disappears, making the management contacts high-impedance and JTAG and SMBus silent, or live again (R381). -/
  | vioChange (present : Bool)
  /-- An instruction shifted into the TAP through TCK, or a change on TRST#, is accepted or refused according to the JTAG lock state (R376). -/
  | jtagTapInstruction (i : Option TapInstr) (trst : Bool)
  /-- An uncorrectable PCIe error is logged and the port-class fault PCIE_ERROR is raised on HST (R336). -/
  | pcieError
  /-- An ONFI channel stops answering and the Chest-class fault CHANNEL_FAIL is raised on CHST (R336). -/
  | channelFail (c : Nat)
  /-- A management reset finishes within 100 ms and PF0 is usable again (R352). -/
  | managementResetComplete
  deriving DecidableEq, Repr

end Sys2Proof
end

