-- ==== Sys2Proof/Decode.lean ====
section
/-! DEFINITION. Commands from words. The opcode table of this block gives no row any bits: its commands are register
accesses, operations and events, which come with their operands and not as words. The 64-bit words of the tile's own
instruction set are decoded in Machine/TileDecode.lean. -/

namespace Sys2Proof

/-- The command that a word spells by the bits of the opcode table: none, since no row of the table has bits. [entry 5 DESIGN CHOICE] -/
def decodeTableWord (_nbits _w : Nat) : Option Instr := none

end Sys2Proof
end

