-- ==== Sys2Proof/Machine/Crc.lean ====
section
/-! DEFINITION. Bytes of a number and the CRC-32C of datagrams, journal records and images (00 "Conventions"). -/

namespace Sys2Proof.Machine

/-- The `n` low bytes of a number, lowest first. -/
def bytesOf : Nat → Nat → List Nat
  | _, 0 => []
  | v, n + 1 => v % 256 :: bytesOf (v / 256) n

/-- A number from its bytes, lowest first. -/
def ofBytes : List Nat → Nat
  | [] => 0
  | b :: bs => b % 256 + 256 * ofBytes bs

/-- `n` steps of the reflected Castagnoli polynomial. -/
def crcSteps : Nat → Nat → Nat
  | 0, c => c
  | n + 1, c => crcSteps n (if c % 2 = 1 then c / 2 ^^^ 0x82F63B78 else c / 2)

/-- The CRC register after some bytes. -/
def crcFrom : Nat → List Nat → Nat
  | c, [] => c
  | c, b :: bs => crcFrom (crcSteps 8 (c ^^^ b % 256)) bs

/-- CRC-32C over bytes. -/
def crc32c (bs : List Nat) : Nat := crcFrom 0xFFFFFFFF bs ^^^ 0xFFFFFFFF

end Sys2Proof.Machine
end

