-- ==== Sys2Proof/Config.lean ====
section
/-! DEFINITION. What an implementation fixes and the spec leaves open: uninterpreted constants. -/

namespace Sys2Proof

/-- The values that the spec leaves open, drawn one after another. [entry 9 DESIGN CHOICE] -/
opaque Config.freeValue : Nat → Nat

/-- What the Keeper holds from manufacture for a register field that the spec gives no value (Reset column K), by field. [entry 13 DESIGN CHOICE] -/
opaque Config.kValue : Nat → Nat

/-- SHA-384 of a string of bytes: length, and the bytes, lowest first. [entry 96 DESIGN CHOICE] -/
opaque Config.sha384 : Nat → Nat → Nat

/-- Whether (r, s) is an ECDSA P-384 signature of a hash under a public key (X + 2^384 × Y), and whether a point lies on
P-384. [entry 96 DESIGN CHOICE] -/
opaque Config.ecdsaOk : Nat → Nat → Nat → Nat → Bool
/-- [entry 96 DESIGN CHOICE] -/
opaque Config.onCurve : Nat → Bool

/-- The signature (r + 2^384 × s) that the module makes with its identity key over a transcript (R369, R371). [entry 96 DESIGN CHOICE] -/
opaque Config.identitySign : Nat → Nat

/-- The bytes of measurement index 3, whose layout the spec does not give: fuses, JTAG state, key slot states, KEY_OK (R372). [entry 120 DEDUCED] -/
opaque Config.securityState : Nat → Nat → Nat → Nat → Nat

/-- The Risomas debug key (R377). -/
opaque Config.debugKey : Nat

/-- The certificate chain of slot 0 (R370): length and bytes. -/
opaque Config.certLen : Nat
/-- [entry 96 DESIGN CHOICE] -/
opaque Config.certChain : Nat

end Sys2Proof
end

