-- ==== Sys2Proof/Machine/Store.lean ====
section
/-! DEFINITION. Sparse tables of plain data in one canonical form: keys strictly rising, and no entry equal to what
an unlisted key reads as. Registers, tile registers, queues and memory are held in them. -/

namespace Sys2Proof.Machine

/-- A sparse table. -/
abbrev SMap (α : Type) := List (Nat × α)

/-- The entry listed for a key. -/
def sget? {α : Type} : SMap α → Nat → Option α
  | [], _ => none
  | (k, v) :: m, key => if k = key then some v else sget? m key

/-- The value at a key; `d` is what an unlisted key reads as. -/
def sget {α : Type} (d : α) (m : SMap α) (key : Nat) : α := (sget? m key).getD d

/-- The table with the key's entry removed. -/
def sdel {α : Type} : SMap α → Nat → SMap α
  | [], _ => []
  | (k, v) :: m, key => if k = key then sdel m key else (k, v) :: sdel m key

/-- The table with the key's entry set, keeping the order. -/
def sins {α : Type} : SMap α → Nat → α → SMap α
  | [], key, x => [(key, x)]
  | (k, v) :: m, key, x =>
    if k = key then (key, x) :: m else if key < k then (key, x) :: (k, v) :: m else (k, v) :: sins m key x

/-- The table with the value at a key set; the value that an unlisted key reads as removes the entry. -/
def sset {α : Type} [DecidableEq α] (d : α) (m : SMap α) (key : Nat) (x : α) : SMap α :=
  if x = d then sdel m key else sins m key x

/-- The keys rise strictly, from `lo` on. -/
def risesFrom {α : Type} : Nat → SMap α → Bool
  | _, [] => true
  | lo, (k, _) :: m => decide (lo ≤ k) && risesFrom (k + 1) m

/-- The table without the keys from `a` up to but not including `b`. -/
def sclear {α : Type} (m : SMap α) (a b : Nat) : SMap α := m.filter fun e => decide (e.1 < a) || decide (b ≤ e.1)

/-- The part of a table with keys from `a` up to but not including `b`. -/
def srange {α : Type} (m : SMap α) (a b : Nat) : SMap α := m.filter fun e => decide (a ≤ e.1) && decide (e.1 < b)

end Sys2Proof.Machine
end

