-- ==== Sys2Proof/Machine/RegTable.lean ====
section
/-! DEFINITION. Every register field of the register tables of chapters 02 to 19, with its place, width, access
code (Table SC-3), whether it is staged, and its Reset column (F: the fused value; K: 0, the value before the
Keeper loads it, R33; a dash: 0, for a write-only field holds nothing). -/

namespace Sys2Proof.Machine

/-- Access codes of Table SC-3. -/
inductive Acc | rw | ro | wo | w1c | w1s | rc | rws
  deriving DecidableEq, Repr

/-- The page tags of Table SC-4, and the tile page. -/
inductive PageKind
  | mod | hst | flt | pwr | keep | chst | sec | tbs | lat | img | edge | ldg | prt | spn | ses | pln | mesh | repr | drp | part | pq | ptt | plg | psw | pstl | pstr | pept | pks | pflt | tile
  deriving DecidableEq, Repr

/-- One field of a register table: the offset in its page, the strides and counts of an indexed register, the
lowest bit, the width, the access code, whether it is staged, the reset value. -/
structure RegField where
  base : Nat
  dims : List (Nat × Nat)
  lo : Nat
  w : Nat
  acc : Acc
  staged : Bool
  reset : Nat
  deriving DecidableEq, Repr

/-- Whether a distance from the base is one of the places of an indexed register. -/
def dimsHit : Nat → List (Nat × Nat) → Bool
  | rel, [] => rel == 0
  | rel, (st, c) :: ds => decide (rel / st < c) && dimsHit (rel % st) ds

/-- Whether the field lies in the register at the offset. -/
def RegField.hits (f : RegField) (rel : Nat) : Bool := decide (f.base ≤ rel) && dimsHit (rel - f.base) f.dims

/-- The fields of MOD, part 1 (CS-18, RS-5). -/
def modFields : List RegField := [
  ⟨0x100, [], 0, 8, .ro, false, 0xa2⟩,
  ⟨0x100, [], 8, 8, .ro, false, 0xb1⟩,
  ⟨0x100, [], 16, 8, .ro, false, 0xb1⟩,
  ⟨0x100, [], 24, 8, .ro, false, 0xc0⟩,
  ⟨0x100, [], 32, 16, .ro, false, 0⟩,
  ⟨0x100, [], 48, 8, .ro, false, 2⟩,
  ⟨0x108, [], 0, 1, .ro, false, 0⟩,
  ⟨0x108, [], 1, 1, .ro, false, 0⟩,
  ⟨0x108, [], 2, 1, .ro, false, 0⟩,
  ⟨0x108, [], 3, 1, .ro, false, 0⟩,
  ⟨0x108, [], 4, 1, .ro, false, 0⟩,
  ⟨0x110, [], 0, 1, .wo, false, 0⟩,
  ⟨0x110, [], 48, 16, .wo, false, 0⟩,
  ⟨0x118, [], 0, 64, .rw, false, 0⟩,
  ⟨0x120, [], 0, 2, .rw, false, 0⟩,
  ⟨0x120, [], 2, 1, .w1c, false, 0⟩,
  ⟨0x120, [], 4, 3, .ro, false, 0⟩,
  ⟨0x120, [], 48, 16, .wo, false, 0⟩,
  ⟨0x128, [], 0, 3, .ro, false, 0⟩,
  ⟨0x128, [], 16, 16, .ro, false, 0⟩,
  ⟨0x128, [], 32, 32, .ro, false, 0⟩]

/-- The fields of HST, part 1 (CS-19). -/
def hstFields : List RegField := [
  ⟨0x100, [], 0, 9, .rw, false, 0⟩,
  ⟨0x100, [], 9, 9, .rw, false, 0⟩,
  ⟨0x100, [], 18, 8, .rw, false, 0⟩,
  ⟨0x108, [], 0, 26, .ro, false, 0⟩,
  ⟨0x108, [], 26, 4, .ro, false, 0⟩,
  ⟨0x108, [], 30, 1, .ro, false, 0⟩,
  ⟨0x108, [], 31, 5, .ro, false, 0⟩,
  ⟨0x110, [], 0, 16, .ro, false, 0⟩,
  ⟨0x110, [], 16, 16, .ro, false, 0⟩,
  ⟨0x118, [], 0, 4, .ro, false, 0⟩,
  ⟨0x118, [], 4, 5, .ro, false, 0⟩,
  ⟨0x118, [], 9, 1, .ro, false, 0⟩]

/-- The fields of FLT, part 1 (FL-6). -/
def fltFields : List RegField := [
  ⟨0x100, [], 0, 3, .rw, false, 0⟩,
  ⟨0x108, [], 0, 26, .ro, false, 0⟩,
  ⟨0x108, [], 26, 26, .ro, false, 0⟩,
  ⟨0x110, [], 0, 64, .ro, false, 0⟩,
  ⟨0x118, [], 0, 16, .rw, false, 0⟩,
  ⟨0x120, [], 0, 4, .rw, false, 0⟩,
  ⟨0x120, [], 4, 1, .rw, false, 0⟩,
  ⟨0x120, [], 8, 4, .ro, false, 0⟩,
  ⟨0x120, [], 12, 1, .ro, false, 0⟩,
  ⟨0x128, [], 0, 1, .w1c, false, 0⟩,
  ⟨0x128, [], 1, 1, .w1c, false, 0⟩,
  ⟨0x128, [], 2, 1, .w1c, false, 0⟩,
  ⟨0x200, [(8, 0xc)], 0, 32, .rc, false, 0⟩,
  ⟨0x260, [], 0, 32, .rc, false, 0⟩]

/-- The fields of PWR, part 1 (EL-6, HU-7). -/
def pwrFields : List RegField := [
  ⟨0x100, [], 0, 2, .ro, false, 0⟩,
  ⟨0x100, [], 2, 1, .ro, false, 0⟩,
  ⟨0x100, [], 3, 1, .ro, false, 0⟩,
  ⟨0x100, [], 4, 1, .ro, false, 0⟩,
  ⟨0x100, [], 5, 1, .ro, false, 0⟩,
  ⟨0x100, [], 8, 3, .ro, false, 0⟩,
  ⟨0x108, [], 0, 1, .rw, false, 0⟩,
  ⟨0x108, [], 1, 1, .rw, false, 1⟩,
  ⟨0x110, [], 0, 16, .ro, false, 0⟩,
  ⟨0x110, [], 16, 16, .rc, false, 0⟩,
  ⟨0x118, [], 0, 16, .ro, false, 0⟩,
  ⟨0x118, [], 16, 16, .ro, false, 0⟩,
  ⟨0x118, [], 32, 16, .ro, false, 0⟩,
  ⟨0x120, [], 0, 40, .ro, false, 0x6000000⟩,
  ⟨0x128, [], 0, 16, .ro, false, 0⟩,
  ⟨0x130, [], 0, 32, .rc, false, 0⟩,
  ⟨0x138, [], 0, 32, .rc, false, 0⟩,
  ⟨0x140, [], 0, 32, .ro, false, 0⟩,
  ⟨0x148, [], 0, 16, .ro, false, 0⟩,
  ⟨0x148, [], 16, 8, .ro, false, 0⟩,
  ⟨0x148, [], 24, 8, .ro, false, 0⟩,
  ⟨0x148, [], 32, 16, .ro, false, 0⟩,
  ⟨0x150, [], 0, 16, .rw, false, 0xfa⟩,
  ⟨0x150, [], 16, 8, .rw, false, 0x2a⟩]

/-- The fields of KEEP, part 1 (HU-9). -/
def keepFields : List RegField := [
  ⟨0x100, [], 0, 1, .ro, false, 0⟩,
  ⟨0x100, [], 1, 1, .ro, false, 0⟩,
  ⟨0x108, [], 0, 32, .rc, false, 0⟩,
  ⟨0x110, [], 0, 3, .ro, false, 0⟩,
  ⟨0x118, [], 0, 2, .ro, false, 0⟩,
  ⟨0x118, [], 2, 1, .ro, false, 0⟩,
  ⟨0x118, [], 24, 40, .ro, false, 0⟩,
  ⟨0x120, [], 0, 32, .ro, false, 0⟩,
  ⟨0x120, [], 32, 16, .ro, false, 0⟩,
  ⟨0x128, [], 0, 3, .ro, false, 0⟩,
  ⟨0x128, [], 3, 1, .ro, false, 0⟩,
  ⟨0x128, [], 16, 16, .ro, false, 0⟩,
  ⟨0x128, [], 32, 16, .ro, false, 0⟩,
  ⟨0x130, [], 0, 32, .rc, false, 0⟩,
  ⟨0x138, [], 0, 16, .ro, false, 0⟩,
  ⟨0x140, [(0x10, 0x10)], 0, 4, .ro, false, 0⟩,
  ⟨0x140, [(0x10, 0x10)], 4, 2, .ro, false, 0⟩,
  ⟨0x140, [(0x10, 0x10)], 6, 1, .ro, false, 0⟩,
  ⟨0x148, [(0x10, 0x10)], 0, 64, .ro, false, 0⟩]

/-- The fields of CHST, part 1 (CH-8). -/
def chstFields0 : List RegField := [
  ⟨0x100, [], 0, 1, .ro, false, 0⟩,
  ⟨0x100, [], 1, 1, .ro, false, 0⟩,
  ⟨0x100, [], 2, 1, .w1c, false, 0⟩,
  ⟨0x100, [], 3, 1, .ro, false, 0⟩,
  ⟨0x100, [], 4, 1, .ro, false, 0⟩,
  ⟨0x108, [], 0, 13, .rw, false, 0⟩,
  ⟨0x108, [], 16, 29, .ro, false, 0⟩,
  ⟨0x110, [(8, 2)], 0, 3, .ro, false, 0⟩,
  ⟨0x110, [(8, 2)], 8, 24, .ro, false, 0⟩,
  ⟨0x110, [(8, 2)], 32, 32, .ro, false, 0⟩,
  ⟨0x120, [], 0, 1, .wo, false, 0⟩,
  ⟨0x120, [], 48, 16, .wo, false, 0⟩,
  ⟨0x128, [], 0, 64, .rw, false, 0⟩,
  ⟨0x130, [], 0, 1, .rw, false, 0⟩,
  ⟨0x130, [], 1, 1, .rw, false, 0⟩,
  ⟨0x130, [], 8, 4, .rw, false, 4⟩,
  ⟨0x138, [], 0, 16, .rw, false, 0⟩,
  ⟨0x140, [], 0, 16, .ro, false, 0⟩,
  ⟨0x140, [], 16, 1, .ro, false, 0⟩,
  ⟨0x140, [], 17, 1, .ro, false, 0⟩,
  ⟨0x140, [], 24, 8, .ro, false, 0⟩,
  ⟨0x148, [], 0, 16, .ro, false, 0⟩,
  ⟨0x148, [], 16, 16, .ro, false, 0⟩,
  ⟨0x148, [], 32, 16, .ro, false, 0⟩,
  ⟨0x150, [], 0, 64, .rc, false, 0⟩,
  ⟨0x158, [], 0, 32, .rc, false, 0⟩,
  ⟨0x160, [], 0, 32, .rc, false, 0⟩,
  ⟨0x168, [], 0, 32, .rc, false, 0⟩,
  ⟨0x168, [], 32, 32, .rc, false, 0⟩,
  ⟨0x200, [], 0, 64, .rw, false, 0⟩]

/-- The fields of CHST, part 2 (CH-8). -/
def chstFields1 : List RegField := [
  ⟨0x208, [], 0, 4, .rw, false, 0⟩,
  ⟨0x210, [], 0, 2, .wo, false, 0⟩,
  ⟨0x218, [], 0, 3, .ro, false, 0⟩,
  ⟨0x218, [], 8, 8, .ro, false, 0⟩,
  ⟨0x220, [(8, 2)], 0, 2, .ro, false, 0⟩,
  ⟨0x220, [(8, 2)], 2, 1, .ro, false, 0⟩,
  ⟨0x220, [(8, 2)], 16, 16, .ro, false, 0⟩]

/-- The fields of CHST. -/
def chstFields : List RegField := chstFields0 ++ chstFields1

/-- The fields of SEC, part 1 (ID-4). -/
def secFields : List RegField := [
  ⟨0x100, [(8, 6)], 0, 64, .ro, false, 0⟩,
  ⟨0x130, [], 0, 1, .ro, false, 0⟩,
  ⟨0x130, [], 1, 1, .ro, false, 0⟩,
  ⟨0x130, [], 4, 4, .ro, false, 0⟩,
  ⟨0x138, [], 0, 32, .ro, false, 0⟩,
  ⟨0x140, [], 0, 2, .ro, false, 0⟩,
  ⟨0x140, [], 4, 2, .ro, false, 0⟩,
  ⟨0x140, [], 6, 1, .ro, false, 0⟩,
  ⟨0x148, [], 0, 2, .wo, false, 0⟩,
  ⟨0x148, [], 4, 2, .wo, false, 0⟩,
  ⟨0x150, [(8, 6)], 0, 64, .ro, false, 0⟩,
  ⟨0x180, [(8, 0xc)], 0, 64, .wo, false, 0⟩,
  ⟨0x1e0, [], 0, 1, .ro, false, 0⟩,
  ⟨0x1e8, [], 0, 1, .wo, false, 0⟩,
  ⟨0x1e8, [], 48, 16, .wo, false, 0⟩,
  ⟨0x1f0, [], 0, 2, .wo, false, 0⟩,
  ⟨0x1f0, [], 4, 2, .wo, false, 0⟩,
  ⟨0x1f0, [], 48, 16, .wo, false, 0⟩,
  ⟨0x1f8, [], 0, 1, .w1c, false, 0⟩,
  ⟨0x1f8, [], 2, 8, .ro, false, 0⟩,
  ⟨0x200, [(0x60, 4), (8, 6)], 0, 64, .rw, false, 0⟩,
  ⟨0x230, [(0x60, 4), (8, 6)], 0, 64, .rw, false, 0⟩]

/-- The fields of TBS, part 1 (TB-6). -/
def tbsFields0 : List RegField := [
  ⟨0x100, [], 0, 1, .rw, false, 0⟩,
  ⟨0x100, [], 1, 3, .rw, false, 0⟩,
  ⟨0x100, [], 4, 1, .rw, false, 0⟩,
  ⟨0x100, [], 5, 1, .rw, false, 0⟩,
  ⟨0x100, [], 8, 8, .rw, false, 0⟩,
  ⟨0x100, [], 16, 32, .rw, false, 0x3e8⟩,
  ⟨0x108, [], 0, 3, .ro, false, 0⟩,
  ⟨0x108, [], 32, 32, .ro, false, 0⟩,
  ⟨0x110, [], 0, 64, .ro, false, 0⟩,
  ⟨0x118, [], 0, 32, .rc, false, 0⟩,
  ⟨0x120, [], 0, 3, .rw, false, 0⟩,
  ⟨0x128, [], 0, 64, .wo, false, 0⟩,
  ⟨0x130, [], 0, 48, .ro, false, 0⟩,
  ⟨0x130, [], 48, 3, .ro, false, 0⟩,
  ⟨0x200, [(0x80, 8)], 0, 3, .rw, true, 0⟩,
  ⟨0x200, [(0x80, 8)], 4, 3, .rw, true, 0⟩,
  ⟨0x200, [(0x80, 8)], 8, 3, .rw, true, 0⟩,
  ⟨0x200, [(0x80, 8)], 11, 1, .rw, true, 0⟩,
  ⟨0x200, [(0x80, 8)], 12, 1, .rw, true, 0⟩,
  ⟨0x200, [(0x80, 8)], 13, 1, .rw, true, 0⟩,
  ⟨0x200, [(0x80, 8)], 16, 8, .rw, false, 5⟩,
  ⟨0x208, [(0x80, 8)], 0, 24, .rw, true, 0x100⟩,
  ⟨0x210, [(0x80, 8)], 0, 40, .rw, true, 0⟩,
  ⟨0x218, [(0x80, 8)], 0, 24, .rw, false, 0x186a0⟩,
  ⟨0x218, [(0x80, 8)], 24, 1, .rw, false, 1⟩,
  ⟨0x218, [(0x80, 8)], 32, 16, .rw, false, 0⟩,
  ⟨0x218, [(0x80, 8)], 48, 10, .rw, false, 0x64⟩,
  ⟨0x220, [(0x80, 8)], 0, 64, .ro, false, 0⟩,
  ⟨0x228, [(0x80, 8)], 0, 64, .ro, false, 0⟩,
  ⟨0x230, [(0x80, 8)], 0, 3, .ro, false, 0⟩]

/-- The fields of TBS, part 2 (EL-7, TB-6). -/
def tbsFields1 : List RegField := [
  ⟨0x230, [(0x80, 8)], 3, 1, .ro, false, 0⟩,
  ⟨0x230, [(0x80, 8)], 4, 1, .ro, false, 0⟩,
  ⟨0x230, [(0x80, 8)], 5, 1, .w1c, false, 0⟩,
  ⟨0x238, [(0x80, 8)], 0, 48, .ro, false, 0⟩,
  ⟨0x240, [(0x80, 8)], 0, 47, .wo, false, 0⟩,
  ⟨0x248, [(0x80, 8)], 0, 32, .rc, false, 0⟩,
  ⟨0x248, [(0x80, 8)], 32, 32, .rc, false, 0⟩,
  ⟨0x600, [(8, 8)], 0, 4, .rw, false, 0⟩,
  ⟨0x600, [(8, 8)], 4, 1, .rw, false, 0⟩,
  ⟨0x600, [(8, 8)], 5, 1, .rw, false, 0⟩,
  ⟨0x640, [(8, 8)], 0, 32, .rc, false, 0⟩,
  ⟨0x640, [(8, 8)], 32, 32, .rc, false, 0⟩,
  ⟨0x250, [(0x80, 8)], 0, 1, .rw, false, 1⟩,
  ⟨0x250, [(0x80, 8)], 1, 1, .ro, false, 0⟩,
  ⟨0x250, [(0x80, 8)], 2, 1, .ro, false, 0⟩,
  ⟨0x250, [(0x80, 8)], 3, 1, .ro, false, 0⟩,
  ⟨0x250, [(0x80, 8)], 16, 16, .ro, false, 0⟩,
  ⟨0x250, [(0x80, 8)], 32, 16, .ro, false, 0⟩]

/-- The fields of TBS. -/
def tbsFields : List RegField := tbsFields0 ++ tbsFields1

/-- The fields of LAT, part 1 (CS-21). -/
def latFields : List RegField := [
  ⟨0x900, [(0x20, 0x10), (8, 4)], 0, 64, .rw, false, 0⟩,
  ⟨0xb08, [], 0, 64, .ro, false, 0⟩,
  ⟨0xb10, [], 0, 32, .rc, false, 0⟩,
  ⟨0xb18, [], 0, 32, .rc, false, 0⟩,
  ⟨0xb00, [], 0, 8, .rw, false, 0⟩]

/-- The fields of IMG, part 1 (IM-9). -/
def imgFields0 : List RegField := [
  ⟨0x100, [], 0, 4, .rw, false, 3⟩,
  ⟨0x100, [], 4, 1, .rw, false, 0⟩,
  ⟨0x108, [], 0, 4, .rw, false, 0⟩,
  ⟨0x108, [], 4, 2, .rw, false, 0⟩,
  ⟨0x108, [], 6, 2, .rw, false, 0⟩,
  ⟨0x108, [], 8, 6, .rw, false, 0⟩,
  ⟨0x110, [], 0, 2, .wo, false, 0⟩,
  ⟨0x118, [], 0, 3, .ro, false, 0⟩,
  ⟨0x118, [], 8, 8, .ro, false, 0⟩,
  ⟨0x118, [], 16, 32, .ro, false, 0⟩,
  ⟨0x120, [], 0, 32, .ro, false, 0⟩,
  ⟨0x120, [], 32, 32, .ro, false, 0⟩,
  ⟨0x128, [], 0, 32, .rc, false, 0⟩,
  ⟨0x130, [], 0, 64, .rw, false, 0⟩,
  ⟨0x138, [], 0, 32, .rw, false, 0⟩,
  ⟨0x140, [], 0, 3, .rw, false, 0⟩,
  ⟨0x140, [], 3, 1, .rw, false, 0⟩,
  ⟨0x140, [], 4, 12, .rw, false, 0⟩,
  ⟨0x140, [], 16, 16, .rw, false, 0x1144⟩,
  ⟨0x140, [], 32, 1, .rw, false, 1⟩,
  ⟨0x140, [], 33, 1, .rw, false, 1⟩,
  ⟨0x140, [], 36, 3, .rw, false, 3⟩,
  ⟨0x140, [], 39, 1, .rw, false, 0⟩,
  ⟨0x140, [], 40, 1, .rw, false, 0⟩,
  ⟨0x148, [(8, 2)], 0, 64, .rw, false, 0⟩,
  ⟨0x158, [], 0, 32, .rw, false, 0⟩,
  ⟨0x160, [], 0, 64, .rw, false, 0⟩,
  ⟨0x168, [], 0, 64, .rw, false, 0⟩,
  ⟨0x170, [], 0, 10, .rw, false, 0⟩,
  ⟨0x178, [], 0, 5, .rw, false, 0⟩]

/-- The fields of IMG, part 2 (IM-9). -/
def imgFields1 : List RegField := [
  ⟨0x178, [], 8, 13, .ro, false, 0⟩,
  ⟨0x178, [], 24, 13, .ro, false, 0⟩,
  ⟨0x180, [(8, 0x10)], 0, 10, .rw, false, 0⟩,
  ⟨0x200, [], 0, 16, .rw, true, 0⟩,
  ⟨0x280, [(8, 0x10)], 0, 3, .ro, false, 0⟩,
  ⟨0x280, [(8, 0x10)], 4, 3, .ro, false, 0⟩,
  ⟨0x280, [(8, 0x10)], 8, 1, .ro, false, 0⟩,
  ⟨0x280, [(8, 0x10)], 16, 8, .ro, false, 0⟩,
  ⟨0x280, [(8, 0x10)], 24, 8, .ro, false, 0⟩,
  ⟨0x400, [(8, 0x20)], 0, 64, .rw, false, 0⟩,
  ⟨0x500, [(8, 0x20)], 0, 64, .rw, false, 0⟩,
  ⟨0x600, [], 0, 8, .ro, false, 0⟩,
  ⟨0x600, [], 8, 16, .ro, false, 0⟩,
  ⟨0x608, [], 0, 64, .ro, false, 0⟩,
  ⟨0x610, [], 0, 64, .ro, false, 0⟩]

/-- The fields of IMG. -/
def imgFields : List RegField := imgFields0 ++ imgFields1

/-- The fields of EDGE, part 1 (ME-7). -/
def edgeFields : List RegField := [
  ⟨0x100, [], 0, 8, .ro, false, 0⟩,
  ⟨0x100, [], 8, 1, .w1c, false, 0⟩,
  ⟨0x108, [], 0, 18, .ro, false, 0x23fe0⟩,
  ⟨0x110, [], 0, 64, .rc, false, 0⟩,
  ⟨0x118, [], 0, 64, .rc, false, 0⟩,
  ⟨0x120, [], 0, 32, .rc, false, 0⟩,
  ⟨0x128, [], 0, 39, .ro, false, 0⟩,
  ⟨0x128, [], 63, 1, .w1c, false, 0⟩,
  ⟨0x200, [(8, 0x10)], 0, 18, .rw, false, 0⟩,
  ⟨0x200, [(8, 0x10)], 18, 18, .rw, false, 0⟩,
  ⟨0x200, [(8, 0x10)], 36, 1, .rw, false, 0⟩]

/-- The fields of LDG, part 1 (PT-8). -/
def ldgFields : List RegField := [
  ⟨0x100, [], 0, 18, .rw, false, 0⟩,
  ⟨0x100, [], 18, 8, .rw, false, 0⟩,
  ⟨0x108, [], 0, 24, .ro, false, 0⟩,
  ⟨0x110, [], 0, 1, .w1c, false, 0⟩,
  ⟨0x110, [], 1, 1, .ro, false, 0⟩,
  ⟨0x118, [], 0, 21, .ro, false, 0⟩]

/-- The fields of PRT, part 1 (PT-6). -/
def prtFields : List RegField := [
  ⟨0x100, [], 0, 2, .rw, false, 0⟩,
  ⟨0x100, [], 16, 14, .rw, false, 0x5ee⟩,
  ⟨0x108, [], 0, 48, .ro, false, 0⟩,
  ⟨0x110, [], 0, 32, .rw, false, 0⟩,
  ⟨0x110, [], 32, 6, .rw, false, 0⟩,
  ⟨0x118, [(8, 2)], 0, 64, .rw, false, 0⟩,
  ⟨0x128, [], 0, 8, .rw, false, 0⟩,
  ⟨0x130, [], 0, 32, .rw, false, 0⟩,
  ⟨0x138, [(8, 2)], 0, 64, .rw, false, 0⟩,
  ⟨0x148, [], 0, 1, .ro, false, 0⟩,
  ⟨0x148, [], 1, 4, .ro, false, 0⟩,
  ⟨0x150, [], 0, 64, .rc, false, 0⟩,
  ⟨0x158, [], 0, 64, .rc, false, 0⟩,
  ⟨0x160, [], 0, 32, .rc, false, 0⟩,
  ⟨0x168, [], 0, 32, .rc, false, 0⟩,
  ⟨0x170, [], 0, 64, .rc, false, 0⟩,
  ⟨0x178, [], 0, 32, .rc, false, 0⟩]

/-- The fields of SPN, part 1 (FB-7). -/
def spnFields : List RegField := [
  ⟨0x100, [], 0, 1, .ro, false, 0⟩,
  ⟨0x100, [], 1, 8, .ro, false, 0⟩,
  ⟨0x100, [], 9, 1, .ro, false, 0⟩,
  ⟨0x100, [], 10, 10, .ro, false, 0⟩,
  ⟨0x108, [], 0, 16, .rw, false, 0x7d0⟩,
  ⟨0x110, [], 0, 4, .rw, false, 0⟩,
  ⟨0x110, [], 4, 1, .rw, false, 0⟩,
  ⟨0x118, [], 0, 64, .rc, false, 0⟩,
  ⟨0x120, [], 0, 64, .rc, false, 0⟩,
  ⟨0x128, [], 0, 32, .rc, false, 0⟩,
  ⟨0x130, [], 0, 32, .rc, false, 0⟩,
  ⟨0x138, [], 0, 32, .rc, false, 0⟩,
  ⟨0x180, [], 0, 10, .rw, false, 0⟩,
  ⟨0x400, [(8, 0x80)], 0, 64, .rw, false, 0xffffffffffffffff⟩]

/-- The fields of SES, part 1 (PT-7). -/
def sesFields : List RegField := [
  ⟨0x100, [], 0, 12, .rw, false, 0⟩,
  ⟨0x108, [], 0, 32, .ro, false, 0⟩,
  ⟨0x110, [], 0, 32, .ro, false, 0⟩,
  ⟨0x118, [], 0, 32, .ro, false, 0⟩,
  ⟨0x120, [], 0, 32, .ro, false, 0⟩,
  ⟨0x128, [], 0, 32, .ro, false, 0⟩,
  ⟨0x140, [], 0, 12, .rw, false, 0⟩,
  ⟨0x148, [], 0, 32, .ro, false, 0⟩,
  ⟨0x150, [], 0, 32, .ro, false, 0⟩,
  ⟨0x158, [], 0, 32, .ro, false, 0⟩,
  ⟨0x160, [], 0, 32, .ro, false, 0⟩,
  ⟨0x168, [], 0, 32, .ro, false, 0⟩,
  ⟨0x170, [], 0, 10, .ro, false, 0⟩,
  ⟨0x178, [], 0, 21, .ro, false, 0⟩,
  ⟨0x180, [], 0, 32, .ro, false, 0⟩,
  ⟨0x1c0, [], 0, 12, .wo, false, 0⟩,
  ⟨0x1c8, [], 0, 1, .w1c, false, 0⟩,
  ⟨0x1c8, [], 1, 1, .w1c, false, 0⟩,
  ⟨0x1c8, [], 16, 12, .ro, false, 0⟩,
  ⟨0x1c8, [], 32, 12, .ro, false, 0⟩]

/-- The fields of PLN, part 1 (RP-4). -/
def plnFields : List RegField := [
  ⟨0x100, [], 0, 3, .ro, false, 4⟩,
  ⟨0x100, [], 3, 1, .ro, false, 0⟩,
  ⟨0x100, [], 8, 4, .ro, false, 0⟩,
  ⟨0x100, [], 12, 1, .ro, false, 0⟩,
  ⟨0x100, [], 16, 13, .ro, false, 0⟩,
  ⟨0x108, [], 0, 8, .ro, false, 0⟩,
  ⟨0x108, [], 8, 2, .ro, false, 0⟩,
  ⟨0x108, [], 10, 2, .ro, false, 0⟩,
  ⟨0x108, [], 12, 8, .ro, false, 0⟩,
  ⟨0x110, [], 0, 16, .rc, false, 0⟩,
  ⟨0x118, [], 0, 32, .ro, false, 0⟩,
  ⟨0x118, [], 32, 32, .ro, false, 0⟩,
  ⟨0x200, [(8, 0x40)], 0, 64, .ro, false, 0⟩]

/-- The fields of MESH, part 1 (FB-5). -/
def meshFields : List RegField := [
  ⟨0x100, [], 0, 16, .rw, false, 0x40⟩,
  ⟨0x108, [], 0, 1, .rw, true, 0⟩,
  ⟨0x108, [], 8, 1, .ro, false, 0⟩,
  ⟨0x108, [], 9, 1, .ro, false, 0⟩,
  ⟨0x110, [], 0, 4, .ro, false, 0⟩,
  ⟨0x110, [], 4, 4, .ro, false, 0⟩,
  ⟨0x110, [], 8, 1, .ro, false, 0⟩,
  ⟨0x110, [], 9, 1, .w1c, false, 0⟩,
  ⟨0x118, [], 0, 48, .ro, false, 0⟩,
  ⟨0x120, [], 0, 32, .ro, false, 0⟩,
  ⟨0x128, [], 0, 32, .rc, false, 0⟩,
  ⟨0x130, [], 0, 32, .rc, false, 0⟩,
  ⟨0x138, [], 0, 32, .rc, false, 0⟩,
  ⟨0x140, [], 0, 64, .rc, false, 0⟩,
  ⟨0x148, [], 0, 64, .rc, false, 0⟩,
  ⟨0x400, [(8, 0x40)], 0, 3, .ro, false, 0⟩,
  ⟨0x400, [(8, 0x40)], 3, 3, .ro, false, 0⟩,
  ⟨0x400, [(8, 0x40)], 6, 1, .ro, false, 0⟩]

/-- The fields of REPR, part 1 (RP-5). -/
def reprFields0 : List RegField := [
  ⟨0x100, [], 0, 1, .rw, false, 1⟩,
  ⟨0x100, [], 1, 1, .rw, false, 1⟩,
  ⟨0x100, [], 2, 1, .rw, false, 1⟩,
  ⟨0x100, [], 8, 4, .rw, false, 4⟩,
  ⟨0x108, [], 0, 4, .wo, false, 0⟩,
  ⟨0x108, [], 4, 7, .wo, false, 0⟩,
  ⟨0x108, [], 11, 7, .wo, false, 0⟩,
  ⟨0x108, [], 18, 2, .wo, false, 0⟩,
  ⟨0x108, [], 20, 6, .wo, false, 0⟩,
  ⟨0x108, [], 26, 1, .wo, false, 0⟩,
  ⟨0x108, [], 27, 1, .wo, false, 0⟩,
  ⟨0x108, [], 28, 4, .wo, false, 0⟩,
  ⟨0x108, [], 32, 7, .wo, false, 0⟩,
  ⟨0x110, [], 0, 1, .ro, false, 0⟩,
  ⟨0x110, [], 4, 4, .ro, false, 0⟩,
  ⟨0x110, [], 8, 4, .ro, false, 0⟩,
  ⟨0x118, [], 0, 32, .ro, false, 0⟩,
  ⟨0x118, [], 32, 1, .ro, false, 0⟩,
  ⟨0x118, [], 33, 1, .ro, false, 0⟩,
  ⟨0x120, [], 0, 1, .w1c, false, 0⟩,
  ⟨0x120, [], 1, 6, .ro, false, 0⟩,
  ⟨0x120, [], 7, 6, .ro, false, 0⟩,
  ⟨0x120, [], 13, 1, .ro, false, 0⟩,
  ⟨0x120, [], 14, 11, .ro, false, 0⟩,
  ⟨0x120, [], 25, 11, .ro, false, 0⟩,
  ⟨0x120, [], 36, 16, .ro, false, 0⟩,
  ⟨0x140, [(8, 4)], 0, 3, .ro, false, 0⟩,
  ⟨0x140, [(8, 4)], 8, 8, .ro, false, 0⟩,
  ⟨0x140, [(8, 4)], 16, 1, .ro, false, 0⟩,
  ⟨0x140, [(8, 4)], 17, 1, .ro, false, 0⟩]

/-- The fields of REPR, part 2 (RP-5). -/
def reprFields1 : List RegField := [
  ⟨0x140, [(8, 4)], 18, 1, .ro, false, 0⟩,
  ⟨0x160, [(8, 4)], 0, 32, .rc, false, 0⟩,
  ⟨0x180, [], 0, 2, .rw, false, 0⟩,
  ⟨0x180, [], 2, 6, .rw, false, 0⟩,
  ⟨0x180, [], 8, 1, .rw, false, 0⟩,
  ⟨0x180, [], 9, 1, .rw, false, 0⟩,
  ⟨0x180, [], 10, 4, .rw, false, 0⟩,
  ⟨0x188, [], 0, 3, .ro, false, 0⟩,
  ⟨0x188, [], 3, 8, .ro, false, 0⟩,
  ⟨0x188, [], 11, 7, .ro, false, 0⟩,
  ⟨0x200, [(8, 0x42)], 0, 7, .ro, false, 0⟩,
  ⟨0x200, [(8, 0x42)], 7, 1, .ro, false, 0⟩,
  ⟨0x200, [(8, 0x42)], 8, 7, .ro, false, 0⟩,
  ⟨0x200, [(8, 0x42)], 15, 1, .ro, false, 0⟩,
  ⟨0x200, [(8, 0x42)], 16, 1, .ro, false, 0⟩,
  ⟨0x200, [(8, 0x42)], 17, 1, .ro, false, 0⟩,
  ⟨0x200, [(8, 0x42)], 18, 6, .ro, false, 0⟩,
  ⟨0x200, [(8, 0x42)], 24, 1, .ro, false, 0⟩,
  ⟨0x200, [(8, 0x42)], 25, 1, .ro, false, 0⟩,
  ⟨0x200, [(8, 0x42)], 26, 1, .ro, false, 0⟩,
  ⟨0x200, [(8, 0x42)], 27, 1, .ro, false, 0⟩]

/-- The fields of REPR. -/
def reprFields : List RegField := reprFields0 ++ reprFields1

/-- The fields of DRP, part 1 (EL-5, HU-8). -/
def drpFields : List RegField := [
  ⟨0x100, [], 0, 8, .rw, false, 0x1e⟩,
  ⟨0x100, [], 8, 3, .rw, false, 4⟩,
  ⟨0x100, [], 16, 16, .rw, false, 0x14⟩,
  ⟨0x100, [], 32, 16, .rw, false, 0x64⟩,
  ⟨0x108, [], 0, 3, .ro, false, 0⟩,
  ⟨0x108, [], 8, 8, .ro, false, 0⟩,
  ⟨0x110, [], 0, 32, .rc, false, 0⟩,
  ⟨0x118, [], 0, 32, .rc, false, 0⟩,
  ⟨0x120, [], 0, 3, .rc, false, 0⟩,
  ⟨0x120, [], 8, 8, .rc, false, 0⟩,
  ⟨0x128, [], 0, 8, .ro, false, 0⟩,
  ⟨0x128, [], 8, 8, .rc, false, 0⟩,
  ⟨0x130, [], 0, 8, .rw, false, 0x5f⟩,
  ⟨0x130, [], 8, 8, .rw, false, 0x69⟩]

/-- The fields of PART, part 1 (CS-20). -/
def partFields : List RegField := [
  ⟨0x100, [], 0, 4, .wo, false, 0⟩,
  ⟨0x108, [], 0, 4, .ro, false, 0⟩,
  ⟨0x108, [], 4, 1, .ro, false, 1⟩,
  ⟨0x108, [], 5, 1, .w1c, false, 0⟩,
  ⟨0x108, [], 6, 1, .ro, false, 0⟩,
  ⟨0x108, [], 8, 4, .ro, false, 0⟩,
  ⟨0x110, [], 0, 3, .rws, true, 0⟩,
  ⟨0x110, [], 4, 3, .rws, true, 0⟩,
  ⟨0x110, [], 8, 4, .rws, true, 0⟩,
  ⟨0x110, [], 12, 4, .rws, true, 0⟩,
  ⟨0x118, [], 0, 32, .rw, false, 0x186a0⟩,
  ⟨0x120, [], 0, 16, .ro, false, 0⟩,
  ⟨0x128, [], 0, 9, .rw, false, 0⟩,
  ⟨0x128, [], 9, 9, .rw, false, 0⟩,
  ⟨0x128, [], 18, 11, .rw, false, 0⟩]

/-- The fields of PQ, part 1 (ST-9). -/
def pqFields : List RegField := [
  ⟨0x100, [(0x20, 0x10)], 0, 64, .rw, false, 0⟩,
  ⟨0x108, [(0x20, 0x10)], 0, 1, .rw, false, 0⟩,
  ⟨0x108, [(0x20, 0x10)], 1, 1, .rw, false, 0⟩,
  ⟨0x108, [(0x20, 0x10)], 2, 1, .rw, false, 0⟩,
  ⟨0x108, [(0x20, 0x10)], 8, 4, .rw, false, 4⟩,
  ⟨0x110, [(0x20, 0x10)], 0, 16, .rw, false, 0⟩,
  ⟨0x118, [(0x20, 0x10)], 0, 16, .ro, false, 0⟩,
  ⟨0x118, [(0x20, 0x10)], 16, 1, .ro, false, 0⟩,
  ⟨0x118, [(0x20, 0x10)], 24, 8, .ro, false, 0⟩,
  ⟨0x300, [], 0, 16, .ro, false, 0⟩,
  ⟨0x308, [], 0, 32, .rc, false, 0⟩,
  ⟨0x310, [], 0, 32, .rc, false, 0⟩,
  ⟨0x318, [], 0, 64, .rc, false, 0⟩,
  ⟨0x320, [], 0, 64, .rc, false, 0⟩]

/-- The fields of PTT, part 1 (TB-7). -/
def pttFields : List RegField := [
  ⟨0x100, [], 0, 10, .rw, false, 0⟩,
  ⟨0x128, [], 0, 48, .ro, false, 0⟩,
  ⟨0x128, [], 48, 1, .ro, false, 0⟩,
  ⟨0x128, [], 49, 1, .ro, false, 0⟩,
  ⟨0x128, [], 50, 1, .ro, false, 0⟩,
  ⟨0x130, [], 0, 32, .ro, false, 0⟩,
  ⟨0x138, [], 0, 10, .wo, false, 0⟩,
  ⟨0x140, [], 0, 13, .ro, false, 0⟩,
  ⟨0x140, [], 32, 32, .ro, false, 0⟩,
  ⟨0x148, [], 0, 32, .rc, false, 0⟩,
  ⟨0x150, [], 0, 32, .rc, false, 0⟩,
  ⟨0x158, [], 0, 32, .rc, false, 0⟩,
  ⟨0x160, [], 0, 32, .rc, false, 0⟩,
  ⟨0x168, [], 0, 32, .rc, false, 0⟩,
  ⟨0x170, [], 0, 32, .rc, false, 0⟩,
  ⟨0x178, [], 0, 64, .rc, false, 0⟩,
  ⟨0x180, [], 0, 64, .ro, false, 0⟩]

/-- The fields of PLG, part 1 (PT-9). -/
def plgFields : List RegField := [
  ⟨0x100, [], 0, 1, .rws, false, 0⟩,
  ⟨0x100, [], 32, 21, .rws, false, 0⟩,
  ⟨0x108, [], 0, 21, .rws, false, 0⟩,
  ⟨0x108, [], 24, 12, .rws, false, 0x40⟩,
  ⟨0x110, [], 0, 16, .wo, false, 0⟩,
  ⟨0x110, [], 16, 2, .wo, false, 0⟩,
  ⟨0x110, [], 20, 3, .wo, false, 0⟩,
  ⟨0x110, [], 23, 1, .wo, false, 0⟩,
  ⟨0x118, [], 0, 21, .ro, false, 0⟩,
  ⟨0x120, [], 0, 21, .ro, false, 0⟩,
  ⟨0x128, [], 0, 32, .rc, false, 0⟩,
  ⟨0x130, [], 0, 32, .rc, false, 0⟩,
  ⟨0x138, [], 0, 32, .rc, false, 0⟩,
  ⟨0x140, [], 0, 32, .rc, false, 0⟩]

/-- The fields of PSW, part 1 (SW-2). -/
def pswFields : List RegField := [
  ⟨0x100, [], 0, 9, .rw, false, 0⟩,
  ⟨0x100, [], 9, 9, .rw, false, 0⟩,
  ⟨0x100, [], 18, 10, .rw, false, 0⟩,
  ⟨0x100, [], 28, 10, .rw, false, 0⟩,
  ⟨0x108, [], 0, 11, .rw, false, 0⟩,
  ⟨0x108, [], 12, 3, .rw, false, 0⟩,
  ⟨0x108, [], 16, 3, .rw, false, 0⟩,
  ⟨0x108, [], 20, 1, .rw, false, 1⟩,
  ⟨0x110, [], 0, 8, .rw, false, 5⟩,
  ⟨0x110, [], 8, 8, .rw, false, 7⟩,
  ⟨0x118, [], 0, 7, .rw, false, 0⟩,
  ⟨0x118, [], 8, 7, .rw, false, 0⟩,
  ⟨0x120, [], 0, 4, .wo, false, 0⟩,
  ⟨0x128, [], 0, 16, .rw, false, 0⟩,
  ⟨0x128, [], 16, 16, .rw, false, 0⟩,
  ⟨0x130, [], 0, 16, .rw, false, 0⟩,
  ⟨0x130, [], 16, 16, .rw, false, 0⟩,
  ⟨0x138, [], 0, 16, .rw, false, 0⟩,
  ⟨0x138, [], 16, 16, .rw, false, 0⟩,
  ⟨0x140, [], 0, 40, .rw, false, 0⟩,
  ⟨0x148, [], 0, 24, .rw, false, 0x10000⟩,
  ⟨0x150, [], 0, 4, .ro, false, 0⟩,
  ⟨0x150, [], 8, 4, .ro, false, 0⟩,
  ⟨0x150, [], 12, 1, .w1c, false, 0⟩,
  ⟨0x150, [], 13, 1, .w1c, false, 0⟩,
  ⟨0x158, [], 0, 32, .ro, false, 0⟩,
  ⟨0x160, [], 0, 32, .rw, false, 0x186a0⟩,
  ⟨0x168, [], 0, 24, .ro, false, 0⟩,
  ⟨0x168, [], 24, 24, .ro, false, 0⟩,
  ⟨0x170, [], 0, 32, .rc, false, 0⟩]

/-- The fields of PSTL, part 1 (FB-6). -/
def pstlFields : List RegField := [
  ⟨0x100, [], 0, 5, .rw, true, 0x14⟩,
  ⟨0x108, [], 0, 1, .ro, false, 0⟩,
  ⟨0x108, [], 1, 1, .ro, false, 0⟩,
  ⟨0x108, [], 2, 1, .ro, false, 0⟩,
  ⟨0x110, [], 0, 32, .ro, false, 0⟩,
  ⟨0x118, [], 0, 32, .rc, false, 0⟩,
  ⟨0x120, [], 0, 32, .rc, false, 0⟩,
  ⟨0x128, [], 0, 64, .ro, false, 0⟩,
  ⟨0x130, [], 0, 9, .ro, false, 0⟩,
  ⟨0x130, [], 9, 9, .ro, false, 0⟩,
  ⟨0x130, [], 18, 1, .w1c, false, 0⟩]

/-- The fields of PSTR, part 1 (ST-8). -/
def pstrFields : List RegField := [
  ⟨0x100, [], 0, 1, .rw, false, 1⟩,
  ⟨0x108, [], 0, 1, .ro, false, 0⟩,
  ⟨0x108, [], 1, 1, .w1c, false, 0⟩,
  ⟨0x108, [], 8, 8, .ro, false, 0⟩,
  ⟨0x110, [], 0, 19, .rc, false, 0⟩,
  ⟨0x110, [], 19, 1, .rc, false, 0⟩,
  ⟨0x110, [], 20, 1, .rc, false, 0⟩,
  ⟨0x110, [], 21, 9, .rc, false, 0⟩,
  ⟨0x110, [], 30, 9, .rc, false, 0⟩,
  ⟨0x110, [], 39, 3, .rc, false, 0⟩,
  ⟨0x110, [], 42, 16, .rc, false, 0⟩,
  ⟨0x110, [], 63, 1, .rc, false, 0⟩,
  ⟨0x118, [], 0, 64, .ro, false, 0⟩,
  ⟨0x120, [], 0, 19, .wo, false, 0⟩,
  ⟨0x120, [], 20, 1, .wo, false, 0⟩,
  ⟨0x128, [], 0, 32, .rw, false, 0xc350⟩,
  ⟨0x130, [], 0, 22, .ro, false, 0⟩,
  ⟨0x138, [], 0, 32, .rc, false, 0⟩,
  ⟨0x140, [], 0, 32, .rc, false, 0⟩,
  ⟨0x148, [], 0, 32, .ro, false, 0⟩]

/-- The fields of PEPT, part 1 (ME-8). -/
def peptFields : List RegField := [
  ⟨0x100, [], 0, 19, .rw, false, 0⟩,
  ⟨0x110, [], 0, 13, .ro, false, 0⟩,
  ⟨0x110, [], 16, 1, .w1c, false, 0⟩,
  ⟨0x118, [], 0, 1, .w1c, false, 0⟩,
  ⟨0x120, [], 0, 19, .wo, false, 0⟩,
  ⟨0x120, [], 20, 18, .wo, false, 0⟩,
  ⟨0x128, [], 0, 32, .rc, false, 0⟩,
  ⟨0x130, [], 0, 32, .rc, false, 0⟩,
  ⟨0x138, [], 0, 32, .rc, false, 0⟩,
  ⟨0x140, [], 0, 32, .rc, false, 0⟩]

/-- The fields of PKS, part 1 (HU-10). -/
def pksFields : List RegField := [
  ⟨0x100, [], 0, 40, .rw, true, 0⟩,
  ⟨0x108, [], 0, 40, .ro, false, 0⟩,
  ⟨0x110, [], 0, 41, .ro, false, 0⟩,
  ⟨0x118, [], 0, 1, .w1c, false, 0⟩,
  ⟨0x118, [], 16, 16, .ro, false, 0⟩,
  ⟨0x120, [], 0, 40, .ro, false, 0⟩,
  ⟨0x200, [(0x10, 0x10)], 0, 40, .rw, true, 0⟩,
  ⟨0x200, [(0x10, 0x10)], 63, 1, .rw, true, 0⟩,
  ⟨0x208, [(0x10, 0x10)], 0, 41, .rw, true, 0⟩]

/-- The fields of PFLT, part 1 (FL-7). -/
def pfltFields : List RegField := [
  ⟨0x100, [], 0, 16, .rws, false, 0x7d0⟩,
  ⟨0x100, [], 16, 8, .rws, false, 4⟩,
  ⟨0x100, [], 32, 8, .rws, false, 0x3c⟩,
  ⟨0x100, [], 40, 3, .rws, false, 0⟩,
  ⟨0x108, [], 0, 1, .w1c, false, 0⟩,
  ⟨0x108, [], 4, 4, .ro, false, 0⟩,
  ⟨0x108, [], 8, 4, .ro, false, 0⟩,
  ⟨0x108, [], 16, 32, .ro, false, 0⟩,
  ⟨0x110, [], 0, 32, .ro, false, 0⟩,
  ⟨0x118, [], 0, 52, .ro, false, 0⟩,
  ⟨0x120, [], 0, 64, .ro, false, 0⟩]

/-- The fields of TILE, part 1 (TL-6). -/
def tileFields0 : List RegField := [
  ⟨0x100, [], 0, 1, .rw, false, 0⟩,
  ⟨0x108, [], 0, 3, .ro, false, 0⟩,
  ⟨0x108, [], 4, 4, .ro, false, 0⟩,
  ⟨0x108, [], 8, 1, .ro, false, 0⟩,
  ⟨0x108, [], 9, 4, .ro, false, 0⟩,
  ⟨0x110, [], 0, 16, .ro, false, 0⟩,
  ⟨0x118, [], 0, 1, .w1c, false, 0⟩,
  ⟨0x118, [], 1, 1, .w1c, false, 0⟩,
  ⟨0x118, [], 2, 1, .w1c, false, 0⟩,
  ⟨0x118, [], 3, 1, .w1c, false, 0⟩,
  ⟨0x120, [], 0, 64, .ro, false, 0⟩,
  ⟨0x128, [], 0, 32, .rc, false, 0⟩,
  ⟨0x130, [], 0, 32, .rc, false, 0⟩,
  ⟨0x138, [], 0, 32, .rc, false, 0⟩,
  ⟨0x140, [], 0, 32, .rc, false, 0⟩,
  ⟨0x148, [], 0, 3, .rw, false, 0⟩,
  ⟨0x148, [], 3, 1, .rw, false, 0⟩,
  ⟨0x148, [], 4, 3, .rw, false, 0⟩,
  ⟨0x148, [], 7, 1, .rw, false, 0⟩,
  ⟨0x148, [], 8, 3, .rw, false, 0⟩,
  ⟨0x148, [], 11, 1, .rw, false, 0⟩,
  ⟨0x148, [], 12, 3, .rw, false, 0⟩,
  ⟨0x148, [], 15, 2, .rw, false, 0⟩,
  ⟨0x200, [(0x10, 0x10)], 0, 13, .rw, false, 0⟩,
  ⟨0x200, [(0x10, 0x10)], 16, 8, .rw, false, 0⟩,
  ⟨0x200, [(0x10, 0x10)], 24, 8, .rw, false, 0⟩,
  ⟨0x200, [(0x10, 0x10)], 32, 6, .rw, false, 1⟩,
  ⟨0x200, [(0x10, 0x10)], 40, 1, .rw, false, 0⟩,
  ⟨0x200, [(0x10, 0x10)], 41, 1, .rw, false, 0⟩,
  ⟨0x208, [(0x10, 0x10)], 0, 3, .ro, false, 0⟩]

/-- The fields of TILE, part 2 (FB-4, ST-7, TL-6). -/
def tileFields1 : List RegField := [
  ⟨0x208, [(0x10, 0x10)], 3, 5, .ro, false, 0⟩,
  ⟨0x208, [(0x10, 0x10)], 16, 13, .ro, false, 0⟩,
  ⟨0x208, [(0x10, 0x10)], 32, 32, .ro, false, 0⟩,
  ⟨0x300, [(8, 0x10)], 0, 8, .ro, false, 0⟩,
  ⟨0x300, [(8, 0x10)], 8, 8, .ro, false, 0⟩,
  ⟨0x400, [(8, 0x10)], 0, 2, .rw, false, 0⟩,
  ⟨0x400, [(8, 0x10)], 2, 7, .rw, false, 0⟩,
  ⟨0x400, [(8, 0x10)], 9, 1, .rw, false, 0⟩,
  ⟨0x400, [(8, 0x10)], 10, 8, .rw, false, 0⟩,
  ⟨0x400, [(8, 0x10)], 18, 2, .rw, false, 0⟩,
  ⟨0x400, [(8, 0x10)], 20, 1, .w1c, false, 0⟩,
  ⟨0x480, [(8, 8)], 0, 7, .rw, false, 0⟩,
  ⟨0x480, [(8, 8)], 8, 7, .ro, false, 0⟩,
  ⟨0x4c0, [(8, 8)], 0, 32, .rc, false, 0⟩,
  ⟨0x4c0, [(8, 8)], 32, 32, .rc, false, 0⟩,
  ⟨0x500, [(8, 8)], 0, 11, .ro, false, 0⟩,
  ⟨0x800, [(0x240, 2), (0x40, 9), (8, 8)], 0, 64, .rw, false, 0⟩,
  ⟨0xd00, [(8, 8)], 0, 64, .rw, false, 0⟩,
  ⟨0x600, [(0x20, 8)], 0, 2, .rw, false, 0⟩,
  ⟨0x600, [(0x20, 8)], 2, 1, .rw, false, 0⟩,
  ⟨0x600, [(0x20, 8)], 3, 1, .rw, false, 0⟩,
  ⟨0x600, [(0x20, 8)], 4, 1, .rw, false, 0⟩,
  ⟨0x600, [(0x20, 8)], 8, 6, .rw, false, 0⟩,
  ⟨0x600, [(0x20, 8)], 14, 6, .rw, false, 0⟩,
  ⟨0x600, [(0x20, 8)], 20, 1, .rw, false, 0⟩,
  ⟨0x600, [(0x20, 8)], 21, 3, .rw, false, 0⟩,
  ⟨0x600, [(0x20, 8)], 24, 3, .rw, false, 0⟩,
  ⟨0x600, [(0x20, 8)], 27, 3, .rw, false, 0⟩,
  ⟨0x600, [(0x20, 8)], 30, 3, .rw, false, 0⟩,
  ⟨0x600, [(0x20, 8)], 33, 6, .rw, false, 0⟩]

/-- The fields of TILE, part 3 (SP-5, ST-7). -/
def tileFields2 : List RegField := [
  ⟨0x600, [(0x20, 8)], 40, 7, .rw, false, 1⟩,
  ⟨0x600, [(0x20, 8)], 48, 2, .rw, false, 2⟩,
  ⟨0x608, [(0x20, 8)], 0, 32, .rw, false, 0⟩,
  ⟨0x608, [(0x20, 8)], 32, 16, .rw, false, 1⟩,
  ⟨0x610, [(0x20, 8)], 0, 40, .rw, false, 0⟩,
  ⟨0x610, [(0x20, 8)], 40, 24, .rw, false, 0⟩,
  ⟨0x618, [(0x20, 8)], 0, 16, .rw, false, 0⟩,
  ⟨0x618, [(0x20, 8)], 16, 16, .rw, false, 0⟩,
  ⟨0x700, [(8, 8)], 0, 3, .ro, false, 0⟩,
  ⟨0x700, [(8, 8)], 3, 1, .ro, false, 0⟩,
  ⟨0x700, [(8, 8)], 4, 1, .ro, false, 0⟩,
  ⟨0x700, [(8, 8)], 5, 1, .w1c, false, 0⟩,
  ⟨0x700, [(8, 8)], 6, 1, .w1c, false, 0⟩,
  ⟨0x700, [(8, 8)], 8, 7, .ro, false, 0⟩,
  ⟨0x740, [(8, 8)], 0, 32, .ro, false, 0⟩,
  ⟨0x740, [(8, 8)], 32, 24, .ro, false, 0⟩,
  ⟨0x780, [(8, 8)], 0, 40, .ro, false, 0⟩,
  ⟨0x7c0, [], 0, 3, .wo, false, 0⟩,
  ⟨0x7c0, [], 4, 2, .wo, false, 0⟩,
  ⟨0xe00, [], 0, 13, .rw, false, 0x100⟩,
  ⟨0xe00, [], 16, 6, .rw, false, 0⟩,
  ⟨0xe00, [], 32, 24, .rw, false, 0⟩,
  ⟨0xe08, [], 0, 32, .rc, false, 0⟩,
  ⟨0xe10, [], 0, 64, .rc, false, 0⟩,
  ⟨0xe18, [], 0, 32, .rc, false, 0⟩,
  ⟨0xe20, [], 0, 64, .rc, false, 0⟩]

/-- The fields of TILE. -/
def tileFields : List RegField := tileFields0 ++ tileFields1 ++ tileFields2

/-- The fields of each page. -/
def pageFields : PageKind → List RegField
  | .mod => modFields
  | .hst => hstFields
  | .flt => fltFields
  | .pwr => pwrFields
  | .keep => keepFields
  | .chst => chstFields
  | .sec => secFields
  | .tbs => tbsFields
  | .lat => latFields
  | .img => imgFields
  | .edge => edgeFields
  | .ldg => ldgFields
  | .prt => prtFields
  | .spn => spnFields
  | .ses => sesFields
  | .pln => plnFields
  | .mesh => meshFields
  | .repr => reprFields
  | .drp => drpFields
  | .part => partFields
  | .pq => pqFields
  | .ptt => pttFields
  | .plg => plgFields
  | .psw => pswFields
  | .pstl => pstlFields
  | .pstr => pstrFields
  | .pept => peptFields
  | .pks => pksFields
  | .pflt => pfltFields
  | .tile => tileFields

/-- The fields whose Reset column reads K or F (R33): page, base and lowest bit. -/
def keeperFields : List (PageKind × Nat × Nat) := [
  (.mod, 0x100, 0),
  (.mod, 0x100, 8),
  (.mod, 0x100, 16),
  (.mod, 0x100, 24),
  (.mod, 0x100, 32),
  (.mod, 0x100, 48),
  (.pln, 0x108, 0),
  (.pln, 0x108, 8),
  (.pln, 0x108, 10),
  (.pln, 0x108, 12),
  (.repr, 0x118, 0),
  (.repr, 0x118, 32),
  (.repr, 0x118, 33),
  (.repr, 0x140, 0),
  (.repr, 0x140, 8),
  (.repr, 0x140, 17),
  (.repr, 0x140, 18),
  (.repr, 0x188, 0),
  (.repr, 0x200, 0),
  (.repr, 0x200, 7),
  (.repr, 0x200, 8),
  (.repr, 0x200, 15),
  (.repr, 0x200, 16),
  (.repr, 0x200, 17),
  (.repr, 0x200, 18),
  (.repr, 0x200, 24),
  (.repr, 0x200, 25),
  (.repr, 0x200, 26),
  (.mesh, 0x400, 0),
  (.mesh, 0x400, 3)] ++ [
  (.mesh, 0x400, 6),
  (.tbs, 0x110, 0),
  (.prt, 0x108, 0),
  (.ldg, 0x108, 0),
  (.pwr, 0x118, 16),
  (.pwr, 0x140, 0),
  (.keep, 0x100, 1),
  (.keep, 0x118, 0),
  (.keep, 0x118, 2),
  (.keep, 0x118, 24),
  (.keep, 0x120, 0),
  (.keep, 0x120, 32),
  (.keep, 0x128, 0),
  (.keep, 0x128, 3),
  (.keep, 0x128, 16),
  (.keep, 0x128, 32),
  (.keep, 0x138, 0),
  (.keep, 0x140, 0),
  (.keep, 0x140, 4),
  (.keep, 0x140, 6),
  (.keep, 0x148, 0),
  (.chst, 0x100, 0),
  (.chst, 0x100, 3),
  (.chst, 0x100, 4),
  (.chst, 0x108, 16),
  (.chst, 0x110, 0),
  (.chst, 0x110, 8),
  (.chst, 0x110, 32),
  (.chst, 0x148, 0),
  (.chst, 0x148, 16)] ++ [
  (.chst, 0x148, 32),
  (.chst, 0x220, 0),
  (.chst, 0x220, 2),
  (.chst, 0x220, 16),
  (.flt, 0x120, 8),
  (.flt, 0x120, 12),
  (.mod, 0x128, 0),
  (.mod, 0x128, 16),
  (.mod, 0x128, 32),
  (.sec, 0x100, 0),
  (.sec, 0x130, 0),
  (.sec, 0x130, 1),
  (.sec, 0x130, 4),
  (.sec, 0x1f8, 2)]

/-- The offset of partition page `i` of partition `n` (Table CS-7). -/
def partPage (n i : Nat) : Nat := 0x300000 + n * 0x10000 + i * 0x1000
/-- The offset of plain page `i` of plain `p` (Table CS-7). -/
def plainPage (p i : Nat) : Nat := 0x200000 + p * 0x4000 + i * 0x1000
/-- The key of the tile page of tile `t` = y × 512 + x, which no BAR offset reaches (04 "Registers"). -/
def tilePage (t : Nat) : Nat := 0x100000000 + t * 0x1000

/-- The page that an offset lies in: its tag, instance and the offset within the page (Table CS-7, Table SC-4). -/
def pageAt (off : Nat) : Option (PageKind × Nat × Nat) :=
  let rel := off % 0x1000
  if off < 0xC000 then
    match off / 0x1000 with
    | 0 => some (.mod, 0, rel)
    | 1 => some (.hst, 0, rel)
    | 2 => some (.flt, 0, rel)
    | 3 => some (.pwr, 0, rel)
    | 4 => some (.keep, 0, rel)
    | 5 => some (.chst, 0, rel)
    | 6 => some (.sec, 0, rel)
    | 7 => some (.tbs, 0, rel)
    | 8 => some (.lat, 0, rel)
    | 9 => some (.img, 0, rel)
    | 10 => some (.edge, 0, rel)
    | 11 => some (.ldg, 0, rel)
    | _ => none
  else if off < 0x10000 then none
  else if off < 0x18000 then some (.prt, (off - 0x10000) / 0x1000, rel)
  else if off < 0x1E000 then some (.spn, (off - 0x18000) / 0x1000, rel)
  else if off < 0x100000 then none
  else if off < 0x101000 then some (.ses, 0, rel)
  else if off < 0x200000 then none
  else if off < 0x300000 then
    let p := (off - 0x200000) / 0x4000
    match ((off - 0x200000) / 0x1000) % 4 with
    | 0 => some (.pln, p, rel)
    | 1 => some (.mesh, p, rel)
    | 2 => some (.repr, p, rel)
    | _ => some (.drp, p, rel)
  else if off < 0x400000 then
    let n := (off - 0x300000) / 0x10000
    match ((off - 0x300000) / 0x1000) % 16 with
    | 0 => some (.part, n, rel)
    | 1 => some (.pq, n, rel)
    | 2 => some (.ptt, n, rel)
    | 3 => some (.plg, n, rel)
    | 4 => some (.psw, n, rel)
    | 5 => some (.pstl, n, rel)
    | 6 => some (.pstr, n, rel)
    | 7 => some (.pept, n, rel)
    | 8 => some (.pks, n, rel)
    | 9 => some (.pflt, n, rel)
    | _ => none
  else if off < 0x100000000 then none
  else if off < 0x100000000 + 262144 * 0x1000 then some (.tile, (off - 0x100000000) / 0x1000, rel)
  else none

/-- A register field: the offset of its register, its lowest bit, its width. -/
structure Fk where
  off : Nat
  lo : Nat
  w : Nat
  deriving DecidableEq, Repr

/-- The key of a field in the field store. -/
def Fk.key (k : Fk) : Nat := k.off * 64 + k.lo

/-- The fields of the register at an offset. -/
def fieldsAt (off : Nat) : List RegField :=
  match pageAt off with
  | some (kd, _, rel) => (pageFields kd).filter (·.hits rel)
  | none => []

/-- The default reaction of a class (Table FL-5). -/
def defaultReact (c : Nat) : Nat := if c = 0 then 0 else 1

/-- The field holds a fused value or one that the Keeper loads. -/
def keepLoaded (off : Nat) (f : RegField) : Bool :=
  match pageAt off with
  | some (kd, _, _) => keeperFields.any fun x => x.1 == kd && x.2.1 == f.base && x.2.2 == f.lo
  | none => false

/-- What a key of the field store reads as when nothing has been stored: the Reset column; each FAULT_REACT field of a
page header resets to the default of its class (Table FL-5). [entry 12 DEDUCED] -/
def keyReset (key : Nat) : Nat :=
  if (key / 64) % 0x1000 = 0x38 then
    (if (pageAt (key / 64)).isSome ∧ key % 64 < 48 then defaultReact (key % 64 / 4) else 0)
  else match (fieldsAt (key / 64)).find? (fun f => f.lo == key % 64) with
  | some f => f.reset
  | none => 0

end Sys2Proof.Machine
end

