-- ==== Sys2Proof/Machine/RegNames.lean ====
section
/-! DEFINITION. The name of every register field, PAGE_REGISTER_FIELD as the register tables of chapters 02 to 19
spell it; the arguments are the instance of the page and the index of an indexed register. -/

namespace Sys2Proof.Machine

/-! ### MOD -/
def MOD_REV_MODULE_REV : Fk := ⟨0x0 + 0x100, 0, 8⟩
def MOD_REV_LOGIC_STEP : Fk := ⟨0x0 + 0x100, 8, 8⟩
def MOD_REV_BENCH_STEP : Fk := ⟨0x0 + 0x100, 16, 8⟩
def MOD_REV_KEEPER_STEP : Fk := ⟨0x0 + 0x100, 24, 8⟩
def MOD_REV_KEEPER_FW : Fk := ⟨0x0 + 0x100, 32, 16⟩
def MOD_REV_FAMILY : Fk := ⟨0x0 + 0x100, 48, 8⟩
def MOD_STATUS_READY : Fk := ⟨0x0 + 0x108, 0, 1⟩
def MOD_STATUS_KEEPER_UP : Fk := ⟨0x0 + 0x108, 1, 1⟩
def MOD_STATUS_WARM : Fk := ⟨0x0 + 0x108, 2, 1⟩
def MOD_STATUS_BACKUP_ACTIVE : Fk := ⟨0x0 + 0x108, 3, 1⟩
def MOD_STATUS_RESET_HELD : Fk := ⟨0x0 + 0x108, 4, 1⟩
def MOD_RESET_GO : Fk := ⟨0x0 + 0x110, 0, 1⟩
def MOD_RESET_KEY : Fk := ⟨0x0 + 0x110, 48, 16⟩
def MOD_SCRATCH_VALUE : Fk := ⟨0x0 + 0x118, 0, 64⟩
def MOD_PSTATE_REQ : Fk := ⟨0x0 + 0x120, 0, 2⟩
def MOD_PSTATE_REFUSED : Fk := ⟨0x0 + 0x120, 2, 1⟩
def MOD_PSTATE_REASON : Fk := ⟨0x0 + 0x120, 4, 3⟩
def MOD_PSTATE_KEY : Fk := ⟨0x0 + 0x120, 48, 16⟩
def MOD_LAST_START_CAUSE : Fk := ⟨0x0 + 0x128, 0, 3⟩
def MOD_LAST_START_READY_MS : Fk := ⟨0x0 + 0x128, 16, 16⟩
def MOD_LAST_START_L0_MS : Fk := ⟨0x0 + 0x128, 32, 32⟩

/-! ### HST -/
def HST_APERTURE_X : Fk := ⟨0x1000 + 0x100, 0, 9⟩
def HST_APERTURE_Y : Fk := ⟨0x1000 + 0x100, 9, 9⟩
def HST_APERTURE_BASE : Fk := ⟨0x1000 + 0x100, 18, 8⟩
def HST_BAD_ACCESS_OFFSET : Fk := ⟨0x1000 + 0x108, 0, 26⟩
def HST_BAD_ACCESS_BYTES : Fk := ⟨0x1000 + 0x108, 26, 4⟩
def HST_BAD_ACCESS_WRITE : Fk := ⟨0x1000 + 0x108, 30, 1⟩
def HST_BAD_ACCESS_FUNC : Fk := ⟨0x1000 + 0x108, 31, 5⟩
def HST_VF_STATE_VF_EXISTS : Fk := ⟨0x1000 + 0x110, 0, 16⟩
def HST_VF_STATE_VF_RESETTING : Fk := ⟨0x1000 + 0x110, 16, 16⟩
def HST_LINK_SPEED : Fk := ⟨0x1000 + 0x118, 0, 4⟩
def HST_LINK_WIDTH : Fk := ⟨0x1000 + 0x118, 4, 5⟩
def HST_LINK_FLIT : Fk := ⟨0x1000 + 0x118, 9, 1⟩

/-! ### FLT -/
def FLT_CTRL_TB : Fk := ⟨0x2000 + 0x100, 0, 3⟩
def FLT_FIRST_PAGE_OFFSET : Fk := ⟨0x2000 + 0x108, 0, 26⟩
def FLT_FIRST_PAGE_TILE : Fk := ⟨0x2000 + 0x108, 26, 26⟩
def FLT_FIRST_TIME_NS : Fk := ⟨0x2000 + 0x110, 0, 64⟩
def FLT_SRC_SEL_CODE : Fk := ⟨0x2000 + 0x118, 0, 16⟩
def FLT_SRC_REACT_REACT : Fk := ⟨0x2000 + 0x120, 0, 4⟩
def FLT_SRC_REACT_OVR_EN : Fk := ⟨0x2000 + 0x120, 4, 1⟩
def FLT_SRC_REACT_MIN : Fk := ⟨0x2000 + 0x120, 8, 4⟩
def FLT_SRC_REACT_EXISTS : Fk := ⟨0x2000 + 0x120, 12, 1⟩
def FLT_STATUS_OVR_REFUSED : Fk := ⟨0x2000 + 0x128, 0, 1⟩
def FLT_STATUS_HALTED : Fk := ⟨0x2000 + 0x128, 1, 1⟩
def FLT_STATUS_REACT_REFUSED : Fk := ⟨0x2000 + 0x128, 2, 1⟩
def FLT_CLASS_COUNT_COUNT (k : Nat) : Fk := ⟨0x2000 + 0x200 + 8 * k, 0, 32⟩
def FLT_MASKED_COUNT : Fk := ⟨0x2000 + 0x260, 0, 32⟩

/-! ### PWR -/
def PWR_STATUS_SUPPLY : Fk := ⟨0x3000 + 0x100, 0, 2⟩
def PWR_STATUS_SLOW : Fk := ⟨0x3000 + 0x100, 2, 1⟩
def PWR_STATUS_ARMED : Fk := ⟨0x3000 + 0x100, 3, 1⟩
def PWR_STATUS_CHARGING : Fk := ⟨0x3000 + 0x100, 4, 1⟩
def PWR_STATUS_PACK_OK : Fk := ⟨0x3000 + 0x100, 5, 1⟩
def PWR_STATUS_STATE : Fk := ⟨0x3000 + 0x100, 8, 3⟩
def PWR_CTRL_FORCE_SLOW : Fk := ⟨0x3000 + 0x108, 0, 1⟩
def PWR_CTRL_CHARGE_EN : Fk := ⟨0x3000 + 0x108, 1, 1⟩
def PWR_SUPPLY_MV_NOW : Fk := ⟨0x3000 + 0x110, 0, 16⟩
def PWR_SUPPLY_MV_MIN : Fk := ⟨0x3000 + 0x110, 16, 16⟩
def PWR_PACK_ENERGY_J : Fk := ⟨0x3000 + 0x118, 0, 16⟩
def PWR_PACK_CAPACITY_J : Fk := ⟨0x3000 + 0x118, 16, 16⟩
def PWR_PACK_ARM_NEED_J : Fk := ⟨0x3000 + 0x118, 32, 16⟩
def PWR_KEEP_BYTES_S : Fk := ⟨0x3000 + 0x120, 0, 40⟩
def PWR_ARM_TIME_SECONDS : Fk := ⟨0x3000 + 0x128, 0, 16⟩
def PWR_SLOW_ENTRIES_COUNT : Fk := ⟨0x3000 + 0x130, 0, 32⟩
def PWR_LOW_DIPS_COUNT : Fk := ⟨0x3000 + 0x138, 0, 32⟩
def PWR_POWER_FAILS_COUNT : Fk := ⟨0x3000 + 0x140, 0, 32⟩
def PWR_COOLANT_FLOW : Fk := ⟨0x3000 + 0x148, 0, 16⟩
def PWR_COOLANT_INLET_C : Fk := ⟨0x3000 + 0x148, 16, 8⟩
def PWR_COOLANT_OUTLET_C : Fk := ⟨0x3000 + 0x148, 24, 8⟩
def PWR_COOLANT_DROP_KPA : Fk := ⟨0x3000 + 0x148, 32, 16⟩
def PWR_COOLANT_LIMITS_FLOW_MIN : Fk := ⟨0x3000 + 0x150, 0, 16⟩
def PWR_COOLANT_LIMITS_INLET_MAX_C : Fk := ⟨0x3000 + 0x150, 16, 8⟩

/-! ### KEEP -/
def KEEP_FW_RUNNING : Fk := ⟨0x4000 + 0x100, 0, 1⟩
def KEEP_FW_SLOT : Fk := ⟨0x4000 + 0x100, 1, 1⟩
def KEEP_WDOG_RESTARTS_COUNT : Fk := ⟨0x4000 + 0x108, 0, 32⟩
def KEEP_SEQ_STATE : Fk := ⟨0x4000 + 0x110, 0, 3⟩
def KEEP_BACKUP_RESULT : Fk := ⟨0x4000 + 0x118, 0, 2⟩
def KEEP_BACKUP_UNARMED : Fk := ⟨0x4000 + 0x118, 2, 1⟩
def KEEP_BACKUP_BYTES : Fk := ⟨0x4000 + 0x118, 24, 40⟩
def KEEP_BACKUP_COST_TIME_US : Fk := ⟨0x4000 + 0x120, 0, 32⟩
def KEEP_BACKUP_COST_ENERGY_J : Fk := ⟨0x4000 + 0x120, 32, 16⟩
def KEEP_RESTORE_RESULT : Fk := ⟨0x4000 + 0x128, 0, 3⟩
def KEEP_RESTORE_PENDING : Fk := ⟨0x4000 + 0x128, 3, 1⟩
def KEEP_RESTORE_WARM_MASK : Fk := ⟨0x4000 + 0x128, 16, 16⟩
def KEEP_RESTORE_COLD_MASK : Fk := ⟨0x4000 + 0x128, 32, 16⟩
def KEEP_REBUILT_COUNT : Fk := ⟨0x4000 + 0x130, 0, 32⟩
def KEEP_LOST_COUNT_COUNT : Fk := ⟨0x4000 + 0x138, 0, 16⟩
def KEEP_LOST_PART (k : Nat) : Fk := ⟨0x4000 + 0x140 + 0x10 * k, 0, 4⟩
def KEEP_LOST_KIND (k : Nat) : Fk := ⟨0x4000 + 0x140 + 0x10 * k, 4, 2⟩
def KEEP_LOST_VALID (k : Nat) : Fk := ⟨0x4000 + 0x140 + 0x10 * k, 6, 1⟩
def KEEP_ADDR (k : Nat) : Fk := ⟨0x4000 + 0x148 + 0x10 * k, 0, 64⟩

/-! ### CHST -/
def CHST_STATUS_KEY_OK : Fk := ⟨0x5000 + 0x100, 0, 1⟩
def CHST_STATUS_SLOT_READY : Fk := ⟨0x5000 + 0x100, 1, 1⟩
def CHST_STATUS_ZONE_REFUSED : Fk := ⟨0x5000 + 0x100, 2, 1⟩
def CHST_STATUS_JOURNAL_A_OK : Fk := ⟨0x5000 + 0x100, 3, 1⟩
def CHST_STATUS_JOURNAL_B_OK : Fk := ⟨0x5000 + 0x100, 4, 1⟩
def CHST_ZONE_USER_BLOCKS : Fk := ⟨0x5000 + 0x108, 0, 13⟩
def CHST_ZONE_IMAGE_FREE : Fk := ⟨0x5000 + 0x108, 16, 29⟩
def CHST_BSLOT_STATE (k : Nat) : Fk := ⟨0x5000 + 0x110 + 8 * k, 0, 3⟩
def CHST_BSLOT_STRIPES (k : Nat) : Fk := ⟨0x5000 + 0x110 + 8 * k, 8, 24⟩
def CHST_BSLOT_SEQ (k : Nat) : Fk := ⟨0x5000 + 0x110 + 8 * k, 32, 32⟩
def CHST_RELEASE_GO : Fk := ⟨0x5000 + 0x120, 0, 1⟩
def CHST_RELEASE_KEY : Fk := ⟨0x5000 + 0x120, 48, 16⟩
def CHST_UBASE_ADDR : Fk := ⟨0x5000 + 0x128, 0, 64⟩
def CHST_UCFG_EN : Fk := ⟨0x5000 + 0x130, 0, 1⟩
def CHST_UCFG_IRQ_EN : Fk := ⟨0x5000 + 0x130, 1, 1⟩
def CHST_UCFG_LOG2_SIZE : Fk := ⟨0x5000 + 0x130, 8, 4⟩
def CHST_UTAIL_TAIL : Fk := ⟨0x5000 + 0x138, 0, 16⟩
def CHST_UHEAD_HEAD : Fk := ⟨0x5000 + 0x140, 0, 16⟩
def CHST_UHEAD_STOPPED : Fk := ⟨0x5000 + 0x140, 16, 1⟩
def CHST_UHEAD_BUSY : Fk := ⟨0x5000 + 0x140, 17, 1⟩
def CHST_UHEAD_LAST_ERR : Fk := ⟨0x5000 + 0x140, 24, 8⟩
def CHST_WEAR_MAX : Fk := ⟨0x5000 + 0x148, 0, 16⟩
def CHST_WEAR_MEAN : Fk := ⟨0x5000 + 0x148, 16, 16⟩
def CHST_WEAR_BAD_BLOCKS : Fk := ⟨0x5000 + 0x148, 32, 16⟩
def CHST_CORRECTED_COUNT : Fk := ⟨0x5000 + 0x150, 0, 64⟩
def CHST_RETRIES_COUNT : Fk := ⟨0x5000 + 0x158, 0, 32⟩
def CHST_UNCORRECTABLE_COUNT : Fk := ⟨0x5000 + 0x160, 0, 32⟩
def CHST_NAND_FAILS_PROGRAM : Fk := ⟨0x5000 + 0x168, 0, 32⟩
def CHST_NAND_FAILS_ERASE : Fk := ⟨0x5000 + 0x168, 32, 32⟩
def CHST_FW_LIST_ADDR : Fk := ⟨0x5000 + 0x200, 0, 64⟩
def CHST_FW_CHUNKS_COUNT : Fk := ⟨0x5000 + 0x208, 0, 4⟩
def CHST_FW_CMD_OP : Fk := ⟨0x5000 + 0x210, 0, 2⟩
def CHST_FW_STATUS_STATE : Fk := ⟨0x5000 + 0x218, 0, 3⟩
def CHST_FW_STATUS_RESULT : Fk := ⟨0x5000 + 0x218, 8, 8⟩
def CHST_FW_SLOT_STATE (k : Nat) : Fk := ⟨0x5000 + 0x220 + 8 * k, 0, 2⟩
def CHST_FW_SLOT_TRIAL (k : Nat) : Fk := ⟨0x5000 + 0x220 + 8 * k, 2, 1⟩
def CHST_FW_SLOT_VERSION (k : Nat) : Fk := ⟨0x5000 + 0x220 + 8 * k, 16, 16⟩

/-! ### SEC -/
def SEC_ID_HASH_HASH (k : Nat) : Fk := ⟨0x6000 + 0x100 + 8 * k, 0, 64⟩
def SEC_FUSE_STATE_JTAG_LOCK : Fk := ⟨0x6000 + 0x130, 0, 1⟩
def SEC_FUSE_STATE_DEBUG_KEY_SET : Fk := ⟨0x6000 + 0x130, 1, 1⟩
def SEC_FUSE_STATE_REVOKED : Fk := ⟨0x6000 + 0x130, 4, 4⟩
def SEC_MEAS_SEQ_COUNT : Fk := ⟨0x6000 + 0x138, 0, 32⟩
def SEC_JTAG_STATE_STATE : Fk := ⟨0x6000 + 0x140, 0, 2⟩
def SEC_JTAG_STATE_FAILS : Fk := ⟨0x6000 + 0x140, 4, 2⟩
def SEC_JTAG_STATE_LOCKOUT : Fk := ⟨0x6000 + 0x140, 6, 1⟩
def SEC_JTAG_CMD_OP : Fk := ⟨0x6000 + 0x148, 0, 2⟩
def SEC_JTAG_CMD_SCOPE : Fk := ⟨0x6000 + 0x148, 4, 2⟩
def SEC_JTAG_NONCE_NONCE (k : Nat) : Fk := ⟨0x6000 + 0x150 + 8 * k, 0, 64⟩
def SEC_JTAG_RESP_SIG (k : Nat) : Fk := ⟨0x6000 + 0x180 + 8 * k, 0, 64⟩
def SEC_STATUS_REKEYING : Fk := ⟨0x6000 + 0x1e0, 0, 1⟩
def SEC_REKEY_GO : Fk := ⟨0x6000 + 0x1e8, 0, 1⟩
def SEC_REKEY_KEY : Fk := ⟨0x6000 + 0x1e8, 48, 16⟩
def SEC_IMGKEY_CMD_OP : Fk := ⟨0x6000 + 0x1f0, 0, 2⟩
def SEC_IMGKEY_CMD_SLOT : Fk := ⟨0x6000 + 0x1f0, 4, 2⟩
def SEC_IMGKEY_CMD_KEY : Fk := ⟨0x6000 + 0x1f0, 48, 16⟩
def SEC_IMGKEY_STATUS_REFUSED : Fk := ⟨0x6000 + 0x1f8, 0, 1⟩
def SEC_IMGKEY_STATUS_STATES : Fk := ⟨0x6000 + 0x1f8, 2, 8⟩
def SEC_IMGKEY_X_X (k j : Nat) : Fk := ⟨0x6000 + 0x200 + 0x60 * k + 8 * j, 0, 64⟩
def SEC_IMGKEY_Y_Y (k j : Nat) : Fk := ⟨0x6000 + 0x230 + 0x60 * k + 8 * j, 0, 64⟩

/-! ### TBS -/
def TBS_PTP_CTRL_EN : Fk := ⟨0x7000 + 0x100, 0, 1⟩
def TBS_PTP_CTRL_PORT : Fk := ⟨0x7000 + 0x100, 1, 3⟩
def TBS_PTP_CTRL_P2P : Fk := ⟨0x7000 + 0x100, 4, 1⟩
def TBS_PTP_CTRL_IPV6 : Fk := ⟨0x7000 + 0x100, 5, 1⟩
def TBS_PTP_CTRL_DOMAIN : Fk := ⟨0x7000 + 0x100, 8, 8⟩
def TBS_PTP_CTRL_STEP_LIMIT_US : Fk := ⟨0x7000 + 0x100, 16, 32⟩
def TBS_PTP_STATUS_STATE : Fk := ⟨0x7000 + 0x108, 0, 3⟩
def TBS_PTP_STATUS_OFFSET : Fk := ⟨0x7000 + 0x108, 32, 32⟩
def TBS_TIME_NS : Fk := ⟨0x7000 + 0x110, 0, 64⟩
def TBS_STEPS_COUNT : Fk := ⟨0x7000 + 0x118, 0, 32⟩
def TBS_QUERY_TB : Fk := ⟨0x7000 + 0x120, 0, 3⟩
def TBS_QUERY_TIME_NS : Fk := ⟨0x7000 + 0x128, 0, 64⟩
def TBS_QUERY_RESULT_POS : Fk := ⟨0x7000 + 0x130, 0, 48⟩
def TBS_QUERY_RESULT_STATUS : Fk := ⟨0x7000 + 0x130, 48, 3⟩
def TBS_TB_CFG_MODE (k : Nat) : Fk := ⟨0x7000 + 0x200 + 0x80 * k, 0, 3⟩
def TBS_TB_CFG_SRC_B (k : Nat) : Fk := ⟨0x7000 + 0x200 + 0x80 * k, 4, 3⟩
def TBS_TB_CFG_SRC_Z (k : Nat) : Fk := ⟨0x7000 + 0x200 + 0x80 * k, 8, 3⟩
def TBS_TB_CFG_Z_EN (k : Nat) : Fk := ⟨0x7000 + 0x200 + 0x80 * k, 11, 1⟩
def TBS_TB_CFG_DIR_EN (k : Nat) : Fk := ⟨0x7000 + 0x200 + 0x80 * k, 12, 1⟩
def TBS_TB_CFG_DIR_INV (k : Nat) : Fk := ⟨0x7000 + 0x200 + 0x80 * k, 13, 1⟩
def TBS_TB_CFG_FILTER (k : Nat) : Fk := ⟨0x7000 + 0x200 + 0x80 * k, 16, 8⟩
def TBS_TB_STEP_STEP (k : Nat) : Fk := ⟨0x7000 + 0x208 + 0x80 * k, 0, 24⟩
def TBS_TB_RATE_RATE (k : Nat) : Fk := ⟨0x7000 + 0x210 + 0x80 * k, 0, 40⟩
def TBS_TB_LOSS_ENC_TIMEOUT_US (k : Nat) : Fk := ⟨0x7000 + 0x218 + 0x80 * k, 0, 24⟩
def TBS_TB_LOSS_STILL_OK (k : Nat) : Fk := ⟨0x7000 + 0x218 + 0x80 * k, 24, 1⟩
def TBS_TB_LOSS_COAST_MS (k : Nat) : Fk := ⟨0x7000 + 0x218 + 0x80 * k, 32, 16⟩
def TBS_TB_LOSS_VEL_WIN (k : Nat) : Fk := ⟨0x7000 + 0x218 + 0x80 * k, 48, 10⟩
def TBS_TB_POS_POS (k : Nat) : Fk := ⟨0x7000 + 0x220 + 0x80 * k, 0, 64⟩
def TBS_TB_VEL_VELOCITY (k : Nat) : Fk := ⟨0x7000 + 0x228 + 0x80 * k, 0, 64⟩
def TBS_TB_STATUS_STATE (k : Nat) : Fk := ⟨0x7000 + 0x230 + 0x80 * k, 0, 3⟩
def TBS_TB_STATUS_REVERSE (k : Nat) : Fk := ⟨0x7000 + 0x230 + 0x80 * k, 3, 1⟩
def TBS_TB_STATUS_RX_FAULT (k : Nat) : Fk := ⟨0x7000 + 0x230 + 0x80 * k, 4, 1⟩
def TBS_TB_STATUS_INDEX_VALID (k : Nat) : Fk := ⟨0x7000 + 0x230 + 0x80 * k, 5, 1⟩
def TBS_TB_INDEX_POS (k : Nat) : Fk := ⟨0x7000 + 0x238 + 0x80 * k, 0, 48⟩
def TBS_TB_ADJUST_ADD (k : Nat) : Fk := ⟨0x7000 + 0x240 + 0x80 * k, 0, 47⟩
def TBS_TB_ERRORS_QUAD_ERRORS (k : Nat) : Fk := ⟨0x7000 + 0x248 + 0x80 * k, 0, 32⟩
def TBS_TB_ERRORS_GLITCHES (k : Nat) : Fk := ⟨0x7000 + 0x248 + 0x80 * k, 32, 32⟩
def TBS_TO_CFG_OWNER (k : Nat) : Fk := ⟨0x7000 + 0x600 + 8 * k, 0, 4⟩
def TBS_TO_CFG_OWN_EN (k : Nat) : Fk := ⟨0x7000 + 0x600 + 8 * k, 4, 1⟩
def TBS_TO_CFG_POLARITY (k : Nat) : Fk := ⟨0x7000 + 0x600 + 8 * k, 5, 1⟩
def TBS_TO_COUNT_PULSES (k : Nat) : Fk := ⟨0x7000 + 0x640 + 8 * k, 0, 32⟩
def TBS_TO_COUNT_OVERLAPS (k : Nat) : Fk := ⟨0x7000 + 0x640 + 8 * k, 32, 32⟩
def TBS_TB_RX_TERM_EN (k : Nat) : Fk := ⟨0x7000 + 0x250 + 0x80 * k, 0, 1⟩
def TBS_TB_RX_OPEN (k : Nat) : Fk := ⟨0x7000 + 0x250 + 0x80 * k, 1, 1⟩
def TBS_TB_RX_SHORT (k : Nat) : Fk := ⟨0x7000 + 0x250 + 0x80 * k, 2, 1⟩
def TBS_TB_RX_CM (k : Nat) : Fk := ⟨0x7000 + 0x250 + 0x80 * k, 3, 1⟩
def TBS_TB_RX_VID_MV (k : Nat) : Fk := ⟨0x7000 + 0x250 + 0x80 * k, 16, 16⟩
def TBS_TB_RX_VCM_MV (k : Nat) : Fk := ⟨0x7000 + 0x250 + 0x80 * k, 32, 16⟩

/-! ### LAT -/
def LAT_GRANT_GRANT (k j : Nat) : Fk := ⟨0x8000 + 0x900 + 0x20 * k + 8 * j, 0, 64⟩
def LAT_PEEK_STATE : Fk := ⟨0x8000 + 0xb08, 0, 64⟩
def LAT_BROKEN_COUNT : Fk := ⟨0x8000 + 0xb10, 0, 32⟩
def LAT_DENIED_COUNT : Fk := ⟨0x8000 + 0xb18, 0, 32⟩
def LAT_PEEK_SEL_LATCH : Fk := ⟨0x8000 + 0xb00, 0, 8⟩

/-! ### IMG -/
def IMG_CTRL_SHARD_RETRY : Fk := ⟨0x9000 + 0x100, 0, 4⟩
def IMG_CTRL_REQUIRE_SIG : Fk := ⟨0x9000 + 0x100, 4, 1⟩
def IMG_LOAD_PART : Fk := ⟨0x9000 + 0x108, 0, 4⟩
def IMG_LOAD_KIND : Fk := ⟨0x9000 + 0x108, 4, 2⟩
def IMG_LOAD_SRC : Fk := ⟨0x9000 + 0x108, 6, 2⟩
def IMG_LOAD_READER : Fk := ⟨0x9000 + 0x108, 8, 6⟩
def IMG_CMD_OP : Fk := ⟨0x9000 + 0x110, 0, 2⟩
def IMG_STATUS_STATE : Fk := ⟨0x9000 + 0x118, 0, 3⟩
def IMG_STATUS_RESULT : Fk := ⟨0x9000 + 0x118, 8, 8⟩
def IMG_STATUS_SHARD : Fk := ⟨0x9000 + 0x118, 16, 32⟩
def IMG_PROGRESS_DONE : Fk := ⟨0x9000 + 0x120, 0, 32⟩
def IMG_PROGRESS_TOTAL : Fk := ⟨0x9000 + 0x120, 32, 32⟩
def IMG_RETRIES_COUNT : Fk := ⟨0x9000 + 0x128, 0, 32⟩
def IMG_HOST_LIST_ADDR : Fk := ⟨0x9000 + 0x130, 0, 64⟩
def IMG_HOST_CHUNKS_COUNT : Fk := ⟨0x9000 + 0x138, 0, 32⟩
def IMG_NET_PORT : Fk := ⟨0x9000 + 0x140, 0, 3⟩
def IMG_NET_IPV6 : Fk := ⟨0x9000 + 0x140, 3, 1⟩
def IMG_NET_VID : Fk := ⟨0x9000 + 0x140, 4, 12⟩
def IMG_NET_TCP_PORT : Fk := ⟨0x9000 + 0x140, 16, 16⟩
def IMG_NET_HDGST : Fk := ⟨0x9000 + 0x140, 32, 1⟩
def IMG_NET_DDGST : Fk := ⟨0x9000 + 0x140, 33, 1⟩
def IMG_NET_IOQ : Fk := ⟨0x9000 + 0x140, 36, 3⟩
def IMG_NET_LBA_4K : Fk := ⟨0x9000 + 0x140, 39, 1⟩
def IMG_NET_VLAN_EN : Fk := ⟨0x9000 + 0x140, 40, 1⟩
def IMG_TARGET_IP_ADDR (k : Nat) : Fk := ⟨0x9000 + 0x148 + 8 * k, 0, 64⟩
def IMG_NSID_NSID : Fk := ⟨0x9000 + 0x158, 0, 32⟩
def IMG_SLBA_LBA : Fk := ⟨0x9000 + 0x160, 0, 64⟩
def IMG_NLB_BLOCKS : Fk := ⟨0x9000 + 0x168, 0, 64⟩
def IMG_SPAN_FROM_MODULE : Fk := ⟨0x9000 + 0x170, 0, 10⟩
def IMG_PEERS_CNT : Fk := ⟨0x9000 + 0x178, 0, 5⟩
def IMG_PEERS_PEERS_DONE : Fk := ⟨0x9000 + 0x178, 8, 13⟩
def IMG_PEERS_PEERS_FAILED : Fk := ⟨0x9000 + 0x178, 24, 13⟩
def IMG_PEER_MODULE (k : Nat) : Fk := ⟨0x9000 + 0x180 + 8 * k, 0, 10⟩
def IMG_COPY_SEL_SEL : Fk := ⟨0x9000 + 0x200, 0, 16⟩
def IMG_PCOPY_A_STATE (k : Nat) : Fk := ⟨0x9000 + 0x280 + 8 * k, 0, 3⟩
def IMG_PCOPY_B_STATE (k : Nat) : Fk := ⟨0x9000 + 0x280 + 8 * k, 4, 3⟩
def IMG_PCOPY_OLD_BUSY (k : Nat) : Fk := ⟨0x9000 + 0x280 + 8 * k, 8, 1⟩
def IMG_PCOPY_A_SLOT (k : Nat) : Fk := ⟨0x9000 + 0x280 + 8 * k, 16, 8⟩
def IMG_PCOPY_B_SLOT (k : Nat) : Fk := ⟨0x9000 + 0x280 + 8 * k, 24, 8⟩
def IMG_SUBNQN_BYTES (k : Nat) : Fk := ⟨0x9000 + 0x400 + 8 * k, 0, 64⟩
def IMG_HOSTNQN_BYTES (k : Nat) : Fk := ⟨0x9000 + 0x500 + 8 * k, 0, 64⟩
def IMG_IMAGE_INFO_DEVICE : Fk := ⟨0x9000 + 0x600, 0, 8⟩
def IMG_IMAGE_INFO_VERSION : Fk := ⟨0x9000 + 0x600, 8, 16⟩
def IMG_PLACEMENT_ID : Fk := ⟨0x9000 + 0x608, 0, 64⟩
def IMG_WEIGHTS_ID : Fk := ⟨0x9000 + 0x610, 0, 64⟩

/-! ### EDGE -/
def EDGE_STATUS_TRAINED : Fk := ⟨0xa000 + 0x100, 0, 8⟩
def EDGE_STATUS_WIN_REFUSED : Fk := ⟨0xa000 + 0x100, 8, 1⟩
def EDGE_CAPACITY_USABLE_PAGES : Fk := ⟨0xa000 + 0x108, 0, 18⟩
def EDGE_READ_STRIPES_COUNT : Fk := ⟨0xa000 + 0x110, 0, 64⟩
def EDGE_WRITE_STRIPES_COUNT : Fk := ⟨0xa000 + 0x118, 0, 64⟩
def EDGE_CE_COUNT_COUNT : Fk := ⟨0xa000 + 0x120, 0, 32⟩
def EDGE_UE_ADDR_PA : Fk := ⟨0xa000 + 0x128, 0, 39⟩
def EDGE_UE_ADDR_VALID : Fk := ⟨0xa000 + 0x128, 63, 1⟩
def EDGE_WIN_BASE (k : Nat) : Fk := ⟨0xa000 + 0x200 + 8 * k, 0, 18⟩
def EDGE_WIN_LIMIT (k : Nat) : Fk := ⟨0xa000 + 0x200 + 8 * k, 18, 18⟩
def EDGE_WIN_EN (k : Nat) : Fk := ⟨0xa000 + 0x200 + 8 * k, 36, 1⟩

/-! ### LDG -/
def LDG_POOL_BASE : Fk := ⟨0xb000 + 0x100, 0, 18⟩
def LDG_POOL_PAGES : Fk := ⟨0xb000 + 0x100, 18, 8⟩
def LDG_INCARNATION_COUNT : Fk := ⟨0xb000 + 0x108, 0, 24⟩
def LDG_STATUS_CFG_REFUSED : Fk := ⟨0xb000 + 0x110, 0, 1⟩
def LDG_STATUS_ARMED : Fk := ⟨0xb000 + 0x110, 1, 1⟩
def LDG_FREE_SLOTS : Fk := ⟨0xb000 + 0x118, 0, 21⟩

/-! ### PRT -/
def PRT_CFG_MODE (p : Nat) : Fk := ⟨0x10000 + p * 0x1000 + 0x100, 0, 2⟩
def PRT_CFG_MTU (p : Nat) : Fk := ⟨0x10000 + p * 0x1000 + 0x100, 16, 14⟩
def PRT_MAC_ADDR (p : Nat) : Fk := ⟨0x10000 + p * 0x1000 + 0x108, 0, 48⟩
def PRT_IPV4_ADDR (p : Nat) : Fk := ⟨0x10000 + p * 0x1000 + 0x110, 0, 32⟩
def PRT_IPV4_PREFIX (p : Nat) : Fk := ⟨0x10000 + p * 0x1000 + 0x110, 32, 6⟩
def PRT_IPV6_ADDR (p k : Nat) : Fk := ⟨0x10000 + p * 0x1000 + 0x118 + 8 * k, 0, 64⟩
def PRT_IPV6_PREFIX_LEN (p : Nat) : Fk := ⟨0x10000 + p * 0x1000 + 0x128, 0, 8⟩
def PRT_GW4_ADDR (p : Nat) : Fk := ⟨0x10000 + p * 0x1000 + 0x130, 0, 32⟩
def PRT_GW6_ADDR (p k : Nat) : Fk := ⟨0x10000 + p * 0x1000 + 0x138 + 8 * k, 0, 64⟩
def PRT_STATUS_LINK_UP (p : Nat) : Fk := ⟨0x10000 + p * 0x1000 + 0x148, 0, 1⟩
def PRT_STATUS_LANES (p : Nat) : Fk := ⟨0x10000 + p * 0x1000 + 0x148, 1, 4⟩
def PRT_RX_FRAMES_COUNT (p : Nat) : Fk := ⟨0x10000 + p * 0x1000 + 0x150, 0, 64⟩
def PRT_TX_FRAMES_COUNT (p : Nat) : Fk := ⟨0x10000 + p * 0x1000 + 0x158, 0, 64⟩
def PRT_UNMATCHED_COUNT (p : Nat) : Fk := ⟨0x10000 + p * 0x1000 + 0x160, 0, 32⟩
def PRT_FCS_ERRORS_COUNT (p : Nat) : Fk := ⟨0x10000 + p * 0x1000 + 0x168, 0, 32⟩
def PRT_FEC_CORRECTED_COUNT (p : Nat) : Fk := ⟨0x10000 + p * 0x1000 + 0x170, 0, 64⟩
def PRT_FEC_UNCORRECTED_COUNT (p : Nat) : Fk := ⟨0x10000 + p * 0x1000 + 0x178, 0, 32⟩

/-! ### SPN -/
def SPN_STATUS_UP (p : Nat) : Fk := ⟨0x18000 + p * 0x1000 + 0x100, 0, 1⟩
def SPN_STATUS_LANES (p : Nat) : Fk := ⟨0x18000 + p * 0x1000 + 0x100, 1, 8⟩
def SPN_STATUS_REPLAYING (p : Nat) : Fk := ⟨0x18000 + p * 0x1000 + 0x100, 9, 1⟩
def SPN_STATUS_PEER (p : Nat) : Fk := ⟨0x18000 + p * 0x1000 + 0x100, 10, 10⟩
def SPN_LINK_REPLAY_TO_NS (p : Nat) : Fk := ⟨0x18000 + p * 0x1000 + 0x108, 0, 16⟩
def SPN_EDGE_MAP_PART (p : Nat) : Fk := ⟨0x18000 + p * 0x1000 + 0x110, 0, 4⟩
def SPN_EDGE_MAP_EN (p : Nat) : Fk := ⟨0x18000 + p * 0x1000 + 0x110, 4, 1⟩
def SPN_FLITS_TX_COUNT (p : Nat) : Fk := ⟨0x18000 + p * 0x1000 + 0x118, 0, 64⟩
def SPN_FLITS_RX_COUNT (p : Nat) : Fk := ⟨0x18000 + p * 0x1000 + 0x120, 0, 64⟩
def SPN_REPLAYS_COUNT (p : Nat) : Fk := ⟨0x18000 + p * 0x1000 + 0x128, 0, 32⟩
def SPN_CRC_ERRORS_COUNT (p : Nat) : Fk := ⟨0x18000 + p * 0x1000 + 0x130, 0, 32⟩
def SPN_DUP_DROPS_COUNT (p : Nat) : Fk := ⟨0x18000 + p * 0x1000 + 0x138, 0, 32⟩
def SPN_NODE_MODULE (p : Nat) : Fk := ⟨0x18000 + p * 0x1000 + 0x180, 0, 10⟩
def SPN_ROUTE_VALUE (p k : Nat) : Fk := ⟨0x18000 + p * 0x1000 + 0x400 + 8 * k, 0, 64⟩

/-! ### SES -/
def SES_ISEL_SES : Fk := ⟨0x100000 + 0x100, 0, 12⟩
def SES_I_FRAMES_COUNT : Fk := ⟨0x100000 + 0x108, 0, 32⟩
def SES_I_INCOMPLETE_COUNT : Fk := ⟨0x100000 + 0x110, 0, 32⟩
def SES_I_DROPPED_COUNT : Fk := ⟨0x100000 + 0x118, 0, 32⟩
def SES_I_BADFMT_COUNT : Fk := ⟨0x100000 + 0x120, 0, 32⟩
def SES_I_LAST_FRAME_SEQ : Fk := ⟨0x100000 + 0x128, 0, 32⟩
def SES_ESEL_SES : Fk := ⟨0x100000 + 0x140, 0, 12⟩
def SES_E_SENT_COUNT : Fk := ⟨0x100000 + 0x148, 0, 32⟩
def SES_E_RETX_COUNT : Fk := ⟨0x100000 + 0x150, 0, 32⟩
def SES_E_ACKED_COUNT : Fk := ⟨0x100000 + 0x158, 0, 32⟩
def SES_E_DUP_ACKS_COUNT : Fk := ⟨0x100000 + 0x160, 0, 32⟩
def SES_E_BAD_ACKS_COUNT : Fk := ⟨0x100000 + 0x168, 0, 32⟩
def SES_E_OUTSTANDING_COUNT : Fk := ⟨0x100000 + 0x170, 0, 10⟩
def SES_E_HELD_COUNT : Fk := ⟨0x100000 + 0x178, 0, 21⟩
def SES_E_TOKENS_BYTES : Fk := ⟨0x100000 + 0x180, 0, 32⟩
def SES_FORGIVE_SES : Fk := ⟨0x100000 + 0x1c0, 0, 12⟩
def SES_STATUS_DUP_KEY : Fk := ⟨0x100000 + 0x1c8, 0, 1⟩
def SES_STATUS_SHAPER_REFUSED : Fk := ⟨0x100000 + 0x1c8, 1, 1⟩
def SES_STATUS_KEY_SES : Fk := ⟨0x100000 + 0x1c8, 16, 12⟩
def SES_STATUS_SHAPER_SES : Fk := ⟨0x100000 + 0x1c8, 32, 12⟩

/-! ### PLN -/
def PLN_STATE_STATE (p : Nat) : Fk := ⟨plainPage p 0 + 0x100, 0, 3⟩
def PLN_STATE_REPAIR_PENDING (p : Nat) : Fk := ⟨plainPage p 0 + 0x100, 3, 1⟩
def PLN_STATE_PART (p : Nat) : Fk := ⟨plainPage p 0 + 0x100, 8, 4⟩
def PLN_STATE_ASSIGNED (p : Nat) : Fk := ⟨plainPage p 0 + 0x100, 12, 1⟩
def PLN_STATE_FENCED_TILES (p : Nat) : Fk := ⟨plainPage p 0 + 0x100, 16, 13⟩
def PLN_SPARES_SPARE_SITES (p : Nat) : Fk := ⟨plainPage p 0 + 0x108, 0, 8⟩
def PLN_SPARES_SPARE_ROWS (p : Nat) : Fk := ⟨plainPage p 0 + 0x108, 8, 2⟩
def PLN_SPARES_RETIRED_ROWS (p : Nat) : Fk := ⟨plainPage p 0 + 0x108, 10, 2⟩
def PLN_SPARES_BYPASSED_SITES (p : Nat) : Fk := ⟨plainPage p 0 + 0x108, 12, 8⟩
def PLN_PAUSE_COUNT_COUNT (p : Nat) : Fk := ⟨plainPage p 0 + 0x110, 0, 16⟩
def PLN_PAUSE_TIME_LAST_US (p : Nat) : Fk := ⟨plainPage p 0 + 0x118, 0, 32⟩
def PLN_PAUSE_TIME_MAX_US (p : Nat) : Fk := ⟨plainPage p 0 + 0x118, 32, 32⟩
def PLN_FENCED (p k : Nat) : Fk := ⟨plainPage p 0 + 0x200 + 8 * k, 0, 64⟩

/-! ### MESH -/
def MESH_CTRL_ESC_WAIT (p : Nat) : Fk := ⟨plainPage p 1 + 0x100, 0, 16⟩
def MESH_BANK_SEL (p : Nat) : Fk := ⟨plainPage p 1 + 0x108, 0, 1⟩
def MESH_BANK_LIVE (p : Nat) : Fk := ⟨plainPage p 1 + 0x108, 8, 1⟩
def MESH_BANK_SETTLING (p : Nat) : Fk := ⟨plainPage p 1 + 0x108, 9, 1⟩
def MESH_STATUS_ELASTIC (p : Nat) : Fk := ⟨plainPage p 1 + 0x110, 0, 4⟩
def MESH_STATUS_GATED (p : Nat) : Fk := ⟨plainPage p 1 + 0x110, 4, 4⟩
def MESH_STATUS_DETOUR_VALID (p : Nat) : Fk := ⟨plainPage p 1 + 0x110, 8, 1⟩
def MESH_STATUS_ACTIVE_WRITE (p : Nat) : Fk := ⟨plainPage p 1 + 0x110, 9, 1⟩
def MESH_ROUND_COUNT (p : Nat) : Fk := ⟨plainPage p 1 + 0x118, 0, 48⟩
def MESH_TICKS_COUNT (p : Nat) : Fk := ⟨plainPage p 1 + 0x120, 0, 32⟩
def MESH_ORPHANS_COUNT (p : Nat) : Fk := ⟨plainPage p 1 + 0x128, 0, 32⟩
def MESH_ESCAPES_COUNT (p : Nat) : Fk := ⟨plainPage p 1 + 0x130, 0, 32⟩
def MESH_GATE_WAITS_COUNT (p : Nat) : Fk := ⟨plainPage p 1 + 0x138, 0, 32⟩
def MESH_CIRC_FLITS_COUNT (p : Nat) : Fk := ⟨plainPage p 1 + 0x140, 0, 64⟩
def MESH_PKT_FLITS_COUNT (p : Nat) : Fk := ⟨plainPage p 1 + 0x148, 0, 64⟩
def MESH_DETOUR_UP_DIR (p k : Nat) : Fk := ⟨plainPage p 1 + 0x400 + 8 * k, 0, 3⟩
def MESH_DETOUR_DOWN_DIR (p k : Nat) : Fk := ⟨plainPage p 1 + 0x400 + 8 * k, 3, 3⟩
def MESH_DETOUR_UP_IS_DOWN (p k : Nat) : Fk := ⟨plainPage p 1 + 0x400 + 8 * k, 6, 1⟩

/-! ### REPR -/
def REPR_CTRL_AUTO_RESPARE (p : Nat) : Fk := ⟨plainPage p 2 + 0x100, 0, 1⟩
def REPR_CTRL_AUTO_ROW_RETIRE (p : Nat) : Fk := ⟨plainPage p 2 + 0x100, 1, 1⟩
def REPR_CTRL_AUTO_LANE (p : Nat) : Fk := ⟨plainPage p 2 + 0x100, 2, 1⟩
def REPR_CTRL_LANE_ERR_LIMIT (p : Nat) : Fk := ⟨plainPage p 2 + 0x100, 8, 4⟩
def REPR_CMD_OP (p : Nat) : Fk := ⟨plainPage p 2 + 0x108, 0, 4⟩
def REPR_CMD_PHYS_X (p : Nat) : Fk := ⟨plainPage p 2 + 0x108, 4, 7⟩
def REPR_CMD_PHYS_Y (p : Nat) : Fk := ⟨plainPage p 2 + 0x108, 11, 7⟩
def REPR_CMD_EDGE (p : Nat) : Fk := ⟨plainPage p 2 + 0x108, 18, 2⟩
def REPR_CMD_LINK (p : Nat) : Fk := ⟨plainPage p 2 + 0x108, 20, 6⟩
def REPR_CMD_DIR (p : Nat) : Fk := ⟨plainPage p 2 + 0x108, 26, 1⟩
def REPR_CMD_PLANE (p : Nat) : Fk := ⟨plainPage p 2 + 0x108, 27, 1⟩
def REPR_CMD_GROUP (p : Nat) : Fk := ⟨plainPage p 2 + 0x108, 28, 4⟩
def REPR_CMD_LANE (p : Nat) : Fk := ⟨plainPage p 2 + 0x108, 32, 7⟩
def REPR_CMD_STATUS_BUSY (p : Nat) : Fk := ⟨plainPage p 2 + 0x110, 0, 1⟩
def REPR_CMD_STATUS_RESULT (p : Nat) : Fk := ⟨plainPage p 2 + 0x110, 4, 4⟩
def REPR_CMD_STATUS_LAST_OP (p : Nat) : Fk := ⟨plainPage p 2 + 0x110, 8, 4⟩
def REPR_JOURNAL_SEQ (p : Nat) : Fk := ⟨plainPage p 2 + 0x118, 0, 32⟩
def REPR_JOURNAL_INTENT_OPEN (p : Nat) : Fk := ⟨plainPage p 2 + 0x118, 32, 1⟩
def REPR_JOURNAL_JOURNAL_REBUILT (p : Nat) : Fk := ⟨plainPage p 2 + 0x118, 33, 1⟩
def REPR_LOST_VALID (p : Nat) : Fk := ⟨plainPage p 2 + 0x120, 0, 1⟩
def REPR_LOST_X (p : Nat) : Fk := ⟨plainPage p 2 + 0x120, 1, 6⟩
def REPR_LOST_Y (p : Nat) : Fk := ⟨plainPage p 2 + 0x120, 7, 6⟩
def REPR_LOST_DESK (p : Nat) : Fk := ⟨plainPage p 2 + 0x120, 13, 1⟩
def REPR_LOST_FIRST_ROW (p : Nat) : Fk := ⟨plainPage p 2 + 0x120, 14, 11⟩
def REPR_LOST_LAST_ROW (p : Nat) : Fk := ⟨plainPage p 2 + 0x120, 25, 11⟩
def REPR_LOST_MORE (p : Nat) : Fk := ⟨plainPage p 2 + 0x120, 36, 16⟩
def REPR_PASS_SPARE_MIN (p k : Nat) : Fk := ⟨plainPage p 2 + 0x140 + 8 * k, 0, 3⟩
def REPR_PASS_GROUPS_DEGRADED (p k : Nat) : Fk := ⟨plainPage p 2 + 0x140 + 8 * k, 8, 8⟩
def REPR_PASS_LINK_LOST (p k : Nat) : Fk := ⟨plainPage p 2 + 0x140 + 8 * k, 16, 1⟩
def REPR_PASS_RIM (p k : Nat) : Fk := ⟨plainPage p 2 + 0x140 + 8 * k, 17, 1⟩
def REPR_PASS_PRESENT (p k : Nat) : Fk := ⟨plainPage p 2 + 0x140 + 8 * k, 18, 1⟩
def REPR_REPLAYS (p k : Nat) : Fk := ⟨plainPage p 2 + 0x160 + 8 * k, 0, 32⟩
def REPR_LANE_SEL_EDGE (p : Nat) : Fk := ⟨plainPage p 2 + 0x180, 0, 2⟩
def REPR_LANE_SEL_LINK (p : Nat) : Fk := ⟨plainPage p 2 + 0x180, 2, 6⟩
def REPR_LANE_SEL_DIR (p : Nat) : Fk := ⟨plainPage p 2 + 0x180, 8, 1⟩
def REPR_LANE_SEL_PLANE (p : Nat) : Fk := ⟨plainPage p 2 + 0x180, 9, 1⟩
def REPR_LANE_SEL_GROUP (p : Nat) : Fk := ⟨plainPage p 2 + 0x180, 10, 4⟩
def REPR_LANE_INFO_SPARES (p : Nat) : Fk := ⟨plainPage p 2 + 0x188, 0, 3⟩
def REPR_LANE_INFO_ERRORS (p : Nat) : Fk := ⟨plainPage p 2 + 0x188, 3, 8⟩
def REPR_LANE_INFO_WORST (p : Nat) : Fk := ⟨plainPage p 2 + 0x188, 11, 7⟩
def REPR_ROW_BYP0 (p k : Nat) : Fk := ⟨plainPage p 2 + 0x200 + 8 * k, 0, 7⟩
def REPR_ROW_BYP0_VALID (p k : Nat) : Fk := ⟨plainPage p 2 + 0x200 + 8 * k, 7, 1⟩
def REPR_ROW_BYP1 (p k : Nat) : Fk := ⟨plainPage p 2 + 0x200 + 8 * k, 8, 7⟩
def REPR_ROW_BYP1_VALID (p k : Nat) : Fk := ⟨plainPage p 2 + 0x200 + 8 * k, 15, 1⟩
def REPR_ROW_RETIRED (p k : Nat) : Fk := ⟨plainPage p 2 + 0x200 + 8 * k, 16, 1⟩
def REPR_ROW_SPARE_ROW (p k : Nat) : Fk := ⟨plainPage p 2 + 0x200 + 8 * k, 17, 1⟩
def REPR_ROW_LOGICAL_ROW (p k : Nat) : Fk := ⟨plainPage p 2 + 0x200 + 8 * k, 18, 6⟩
def REPR_ROW_BYP0_FIELD (p k : Nat) : Fk := ⟨plainPage p 2 + 0x200 + 8 * k, 24, 1⟩
def REPR_ROW_BYP1_FIELD (p k : Nat) : Fk := ⟨plainPage p 2 + 0x200 + 8 * k, 25, 1⟩
def REPR_ROW_RETIRE_FIELD (p k : Nat) : Fk := ⟨plainPage p 2 + 0x200 + 8 * k, 26, 1⟩
def REPR_ROW_CLEARED (p k : Nat) : Fk := ⟨plainPage p 2 + 0x200 + 8 * k, 27, 1⟩

/-! ### DRP -/
def DRP_CTRL_THRESH_MV (p : Nat) : Fk := ⟨plainPage p 3 + 0x100, 0, 8⟩
def DRP_CTRL_MAX_STEP (p : Nat) : Fk := ⟨plainPage p 3 + 0x100, 8, 3⟩
def DRP_CTRL_RELEASE_US (p : Nat) : Fk := ⟨plainPage p 3 + 0x100, 16, 16⟩
def DRP_CTRL_LIMIT_MS (p : Nat) : Fk := ⟨plainPage p 3 + 0x100, 32, 16⟩
def DRP_STATUS_STEP (p : Nat) : Fk := ⟨plainPage p 3 + 0x108, 0, 3⟩
def DRP_STATUS_DROOP_MV (p : Nat) : Fk := ⟨plainPage p 3 + 0x108, 8, 8⟩
def DRP_STRETCHES_COUNT (p : Nat) : Fk := ⟨plainPage p 3 + 0x110, 0, 32⟩
def DRP_STRETCH_US_TIME (p : Nat) : Fk := ⟨plainPage p 3 + 0x118, 0, 32⟩
def DRP_PEAK_STEP (p : Nat) : Fk := ⟨plainPage p 3 + 0x120, 0, 3⟩
def DRP_PEAK_DROOP_MV (p : Nat) : Fk := ⟨plainPage p 3 + 0x120, 8, 8⟩
def DRP_TEMP_NOW_C (p : Nat) : Fk := ⟨plainPage p 3 + 0x128, 0, 8⟩
def DRP_TEMP_MAX_C (p : Nat) : Fk := ⟨plainPage p 3 + 0x128, 8, 8⟩
def DRP_THERMAL_WARN_C (p : Nat) : Fk := ⟨plainPage p 3 + 0x130, 0, 8⟩
def DRP_THERMAL_CRIT_C (p : Nat) : Fk := ⟨plainPage p 3 + 0x130, 8, 8⟩

/-! ### PART -/
def PART_CMD_CMD (n : Nat) : Fk := ⟨partPage n 0 + 0x100, 0, 4⟩
def PART_STATE_STATE (n : Nat) : Fk := ⟨partPage n 0 + 0x108, 0, 4⟩
def PART_STATE_DRAIN_DONE (n : Nat) : Fk := ⟨partPage n 0 + 0x108, 4, 1⟩
def PART_STATE_CMD_REJECTED (n : Nat) : Fk := ⟨partPage n 0 + 0x108, 5, 1⟩
def PART_STATE_MOD_READY (n : Nat) : Fk := ⟨partPage n 0 + 0x108, 6, 1⟩
def PART_STATE_LAST_CMD (n : Nat) : Fk := ⟨partPage n 0 + 0x108, 8, 4⟩
def PART_GEOM_X0 (n : Nat) : Fk := ⟨partPage n 0 + 0x110, 0, 3⟩
def PART_GEOM_Y0 (n : Nat) : Fk := ⟨partPage n 0 + 0x110, 4, 3⟩
def PART_GEOM_W (n : Nat) : Fk := ⟨partPage n 0 + 0x110, 8, 4⟩
def PART_GEOM_H (n : Nat) : Fk := ⟨partPage n 0 + 0x110, 12, 4⟩
def PART_DRAIN_LIMIT_MICROSECONDS (n : Nat) : Fk := ⟨partPage n 0 + 0x118, 0, 32⟩
def PART_EPOCH_EPOCH (n : Nat) : Fk := ⟨partPage n 0 + 0x120, 0, 16⟩
def PART_APERTURE_X (n : Nat) : Fk := ⟨partPage n 0 + 0x128, 0, 9⟩
def PART_APERTURE_Y (n : Nat) : Fk := ⟨partPage n 0 + 0x128, 9, 9⟩
def PART_APERTURE_BASE (n : Nat) : Fk := ⟨partPage n 0 + 0x128, 18, 11⟩

/-! ### PQ -/
def PQ_QBASE_ADDR (n k : Nat) : Fk := ⟨partPage n 1 + 0x100 + 0x20 * k, 0, 64⟩
def PQ_QCFG_EN (n k : Nat) : Fk := ⟨partPage n 1 + 0x108 + 0x20 * k, 0, 1⟩
def PQ_QCFG_IRQ_EN (n k : Nat) : Fk := ⟨partPage n 1 + 0x108 + 0x20 * k, 1, 1⟩
def PQ_QCFG_PHYS (n k : Nat) : Fk := ⟨partPage n 1 + 0x108 + 0x20 * k, 2, 1⟩
def PQ_QCFG_LOG2_SIZE (n k : Nat) : Fk := ⟨partPage n 1 + 0x108 + 0x20 * k, 8, 4⟩
def PQ_QTAIL_TAIL (n k : Nat) : Fk := ⟨partPage n 1 + 0x110 + 0x20 * k, 0, 16⟩
def PQ_QHEAD_HEAD (n k : Nat) : Fk := ⟨partPage n 1 + 0x118 + 0x20 * k, 0, 16⟩
def PQ_QHEAD_STOPPED (n k : Nat) : Fk := ⟨partPage n 1 + 0x118 + 0x20 * k, 16, 1⟩
def PQ_QHEAD_LAST_ERR (n k : Nat) : Fk := ⟨partPage n 1 + 0x118 + 0x20 * k, 24, 8⟩
def PQ_ACTIVE_BUSY (n : Nat) : Fk := ⟨partPage n 1 + 0x300, 0, 16⟩
def PQ_DONE_COUNT_COUNT (n : Nat) : Fk := ⟨partPage n 1 + 0x308, 0, 32⟩
def PQ_ERR_COUNT_COUNT (n : Nat) : Fk := ⟨partPage n 1 + 0x310, 0, 32⟩
def PQ_BYTES_IN_COUNT (n : Nat) : Fk := ⟨partPage n 1 + 0x318, 0, 64⟩
def PQ_BYTES_OUT_COUNT (n : Nat) : Fk := ⟨partPage n 1 + 0x320, 0, 64⟩

/-! ### PTT -/
def PTT_SEL_ENTRY (n : Nat) : Fk := ⟨partPage n 2 + 0x100, 0, 10⟩
def PTT_ESTATE_NEXT (n : Nat) : Fk := ⟨partPage n 2 + 0x128, 0, 48⟩
def PTT_ESTATE_ARMED (n : Nat) : Fk := ⟨partPage n 2 + 0x128, 48, 1⟩
def PTT_ESTATE_BELOW (n : Nat) : Fk := ⟨partPage n 2 + 0x128, 49, 1⟩
def PTT_ESTATE_SPENT (n : Nat) : Fk := ⟨partPage n 2 + 0x128, 50, 1⟩
def PTT_EFIRES_COUNT (n : Nat) : Fk := ⟨partPage n 2 + 0x130, 0, 32⟩
def PTT_REARM_ENTRY (n : Nat) : Fk := ⟨partPage n 2 + 0x138, 0, 10⟩
def PTT_ITEMS_OPEN (n : Nat) : Fk := ⟨partPage n 2 + 0x140, 0, 13⟩
def PTT_ITEMS_NEXT_ITEM (n : Nat) : Fk := ⟨partPage n 2 + 0x140, 32, 32⟩
def PTT_SLIPS_COUNT (n : Nat) : Fk := ⟨partPage n 2 + 0x148, 0, 32⟩
def PTT_LATE_COUNT (n : Nat) : Fk := ⟨partPage n 2 + 0x150, 0, 32⟩
def PTT_LATE_SLOWED_COUNT (n : Nat) : Fk := ⟨partPage n 2 + 0x158, 0, 32⟩
def PTT_JOBS_SKIPPED_COUNT (n : Nat) : Fk := ⟨partPage n 2 + 0x160, 0, 32⟩
def PTT_TRIG_DROPPED_COUNT (n : Nat) : Fk := ⟨partPage n 2 + 0x168, 0, 32⟩
def PTT_ITEM_OVERFLOW_COUNT (n : Nat) : Fk := ⟨partPage n 2 + 0x170, 0, 32⟩
def PTT_FIRES_COUNT (n : Nat) : Fk := ⟨partPage n 2 + 0x178, 0, 64⟩
def PTT_LAST_FIRE_TIME (n : Nat) : Fk := ⟨partPage n 2 + 0x180, 0, 64⟩

/-! ### PLG -/
def PLG_CTRL_UNARMED (n : Nat) : Fk := ⟨partPage n 3 + 0x100, 0, 1⟩
def PLG_CTRL_HIGH_MARK (n : Nat) : Fk := ⟨partPage n 3 + 0x100, 32, 21⟩
def PLG_CAPACITY_RECORDS (n : Nat) : Fk := ⟨partPage n 3 + 0x108, 0, 21⟩
def PLG_CAPACITY_LATE_RESERVE (n : Nat) : Fk := ⟨partPage n 3 + 0x108, 24, 12⟩
def PLG_SUBMIT_ADDR (n : Nat) : Fk := ⟨partPage n 3 + 0x110, 0, 16⟩
def PLG_SUBMIT_UNITS (n : Nat) : Fk := ⟨partPage n 3 + 0x110, 16, 2⟩
def PLG_SUBMIT_RQ (n : Nat) : Fk := ⟨partPage n 3 + 0x110, 20, 3⟩
def PLG_SUBMIT_REPLY (n : Nat) : Fk := ⟨partPage n 3 + 0x110, 23, 1⟩
def PLG_OCCUPANCY_RECORDS (n : Nat) : Fk := ⟨partPage n 3 + 0x118, 0, 21⟩
def PLG_HIGH_WATER_RECORDS (n : Nat) : Fk := ⟨partPage n 3 + 0x120, 0, 21⟩
def PLG_ACCEPTED_COUNT (n : Nat) : Fk := ⟨partPage n 3 + 0x128, 0, 32⟩
def PLG_REFUSED_COUNT (n : Nat) : Fk := ⟨partPage n 3 + 0x130, 0, 32⟩
def PLG_LATE_LOST_COUNT (n : Nat) : Fk := ⟨partPage n 3 + 0x138, 0, 32⟩
def PLG_REMOVED_COUNT (n : Nat) : Fk := ⟨partPage n 3 + 0x140, 0, 32⟩

/-! ### PSW -/
def PSW_GRID_X0 (n : Nat) : Fk := ⟨partPage n 4 + 0x100, 0, 9⟩
def PSW_GRID_Y0 (n : Nat) : Fk := ⟨partPage n 4 + 0x100, 9, 9⟩
def PSW_GRID_W (n : Nat) : Fk := ⟨partPage n 4 + 0x100, 18, 10⟩
def PSW_GRID_H (n : Nat) : Fk := ⟨partPage n 4 + 0x100, 28, 10⟩
def PSW_LAYOUT_BASE_ROW (n : Nat) : Fk := ⟨partPage n 4 + 0x108, 0, 11⟩
def PSW_LAYOUT_QIN (n : Nat) : Fk := ⟨partPage n 4 + 0x108, 12, 3⟩
def PSW_LAYOUT_QOUT (n : Nat) : Fk := ⟨partPage n 4 + 0x108, 16, 3⟩
def PSW_LAYOUT_EDGE_BLOCKED (n : Nat) : Fk := ⟨partPage n 4 + 0x108, 20, 1⟩
def PSW_STEP_STEP_S (n : Nat) : Fk := ⟨partPage n 4 + 0x110, 0, 8⟩
def PSW_STEP_STEP_D (n : Nat) : Fk := ⟨partPage n 4 + 0x110, 8, 8⟩
def PSW_FOOT_RADIUS_S (n : Nat) : Fk := ⟨partPage n 4 + 0x118, 0, 7⟩
def PSW_FOOT_RADIUS_D (n : Nat) : Fk := ⟨partPage n 4 + 0x118, 8, 7⟩
def PSW_CMD_OP (n : Nat) : Fk := ⟨partPage n 4 + 0x120, 0, 4⟩
def PSW_RECT_LO_X (n : Nat) : Fk := ⟨partPage n 4 + 0x128, 0, 16⟩
def PSW_RECT_LO_Y (n : Nat) : Fk := ⟨partPage n 4 + 0x128, 16, 16⟩
def PSW_RECT_HI_X (n : Nat) : Fk := ⟨partPage n 4 + 0x130, 0, 16⟩
def PSW_RECT_HI_Y (n : Nat) : Fk := ⟨partPage n 4 + 0x130, 16, 16⟩
def PSW_START_X (n : Nat) : Fk := ⟨partPage n 4 + 0x138, 0, 16⟩
def PSW_START_Y (n : Nat) : Fk := ⟨partPage n 4 + 0x138, 16, 16⟩
def PSW_PATH_VA (n : Nat) : Fk := ⟨partPage n 4 + 0x140, 0, 40⟩
def PSW_PATH_MAX_ENTRIES (n : Nat) : Fk := ⟨partPage n 4 + 0x148, 0, 24⟩
def PSW_STATUS_STATE (n : Nat) : Fk := ⟨partPage n 4 + 0x150, 0, 4⟩
def PSW_STATUS_RESULT (n : Nat) : Fk := ⟨partPage n 4 + 0x150, 8, 4⟩
def PSW_STATUS_COST_CAPPED (n : Nat) : Fk := ⟨partPage n 4 + 0x150, 12, 1⟩
def PSW_STATUS_GOAL_BLOCKED (n : Nat) : Fk := ⟨partPage n 4 + 0x150, 13, 1⟩
def PSW_ROUNDS_COUNT (n : Nat) : Fk := ⟨partPage n 4 + 0x158, 0, 32⟩
def PSW_ROUND_LIMIT_ROUNDS (n : Nat) : Fk := ⟨partPage n 4 + 0x160, 0, 32⟩
def PSW_OUTCOME_PATH_LEN (n : Nat) : Fk := ⟨partPage n 4 + 0x168, 0, 24⟩
def PSW_OUTCOME_INDEX (n : Nat) : Fk := ⟨partPage n 4 + 0x168, 24, 24⟩
def PSW_SKIPS_COUNT (n : Nat) : Fk := ⟨partPage n 4 + 0x170, 0, 32⟩

/-! ### PSTL -/
def PSTL_WINDOW_LOG2 (n : Nat) : Fk := ⟨partPage n 5 + 0x100, 0, 5⟩
def PSTL_STATUS_WATCHING (n : Nat) : Fk := ⟨partPage n 5 + 0x108, 0, 1⟩
def PSTL_STATUS_FROZEN (n : Nat) : Fk := ⟨partPage n 5 + 0x108, 1, 1⟩
def PSTL_STATUS_EXTENDED (n : Nat) : Fk := ⟨partPage n 5 + 0x108, 2, 1⟩
def PSTL_QUIET_CYCLES (n : Nat) : Fk := ⟨partPage n 5 + 0x110, 0, 32⟩
def PSTL_EVENTS_COUNT (n : Nat) : Fk := ⟨partPage n 5 + 0x118, 0, 32⟩
def PSTL_SPILLED_COUNT (n : Nat) : Fk := ⟨partPage n 5 + 0x120, 0, 32⟩
def PSTL_LAST_TIME_TIME (n : Nat) : Fk := ⟨partPage n 5 + 0x128, 0, 64⟩
def PSTL_FULL_TILE_X (n : Nat) : Fk := ⟨partPage n 5 + 0x130, 0, 9⟩
def PSTL_FULL_TILE_Y (n : Nat) : Fk := ⟨partPage n 5 + 0x130, 9, 9⟩
def PSTL_FULL_TILE_VALID (n : Nat) : Fk := ⟨partPage n 5 + 0x130, 18, 1⟩

/-! ### PSTR -/
def PSTR_CTRL_AUTO_RESUME (n : Nat) : Fk := ⟨partPage n 6 + 0x100, 0, 1⟩
def PSTR_STATUS_PENDING (n : Nat) : Fk := ⟨partPage n 6 + 0x108, 0, 1⟩
def PSTR_STATUS_OVERFLOW (n : Nat) : Fk := ⟨partPage n 6 + 0x108, 1, 1⟩
def PSTR_STATUS_DEPTH (n : Nat) : Fk := ⟨partPage n 6 + 0x108, 8, 8⟩
def PSTR_HALT_POP_VPN (n : Nat) : Fk := ⟨partPage n 6 + 0x110, 0, 19⟩
def PSTR_HALT_POP_REASON (n : Nat) : Fk := ⟨partPage n 6 + 0x110, 19, 1⟩
def PSTR_HALT_POP_WRITE (n : Nat) : Fk := ⟨partPage n 6 + 0x110, 20, 1⟩
def PSTR_HALT_POP_X (n : Nat) : Fk := ⟨partPage n 6 + 0x110, 21, 9⟩
def PSTR_HALT_POP_Y (n : Nat) : Fk := ⟨partPage n 6 + 0x110, 30, 9⟩
def PSTR_HALT_POP_SD (n : Nat) : Fk := ⟨partPage n 6 + 0x110, 39, 3⟩
def PSTR_HALT_POP_WAITERS (n : Nat) : Fk := ⟨partPage n 6 + 0x110, 42, 16⟩
def PSTR_HALT_POP_VALID (n : Nat) : Fk := ⟨partPage n 6 + 0x110, 63, 1⟩
def PSTR_HALT_HEAD_VALUE (n : Nat) : Fk := ⟨partPage n 6 + 0x118, 0, 64⟩
def PSTR_RESUME_VPN (n : Nat) : Fk := ⟨partPage n 6 + 0x120, 0, 19⟩
def PSTR_RESUME_ALL (n : Nat) : Fk := ⟨partPage n 6 + 0x120, 20, 1⟩
def PSTR_HALT_LIMIT_MICROSECONDS (n : Nat) : Fk := ⟨partPage n 6 + 0x128, 0, 32⟩
def PSTR_HALTED_COUNT (n : Nat) : Fk := ⟨partPage n 6 + 0x130, 0, 22⟩
def PSTR_HALTS_COUNT (n : Nat) : Fk := ⟨partPage n 6 + 0x138, 0, 32⟩
def PSTR_RESUMES_COUNT (n : Nat) : Fk := ⟨partPage n 6 + 0x140, 0, 32⟩
def PSTR_LONGEST_MICROSECONDS (n : Nat) : Fk := ⟨partPage n 6 + 0x148, 0, 32⟩

/-! ### PEPT -/
def PEPT_SEL_VPN (n : Nat) : Fk := ⟨partPage n 7 + 0x100, 0, 19⟩
def PEPT_CHANGES_COUNT (n : Nat) : Fk := ⟨partPage n 7 + 0x110, 0, 13⟩
def PEPT_CHANGES_LIST_FULL (n : Nat) : Fk := ⟨partPage n 7 + 0x110, 16, 1⟩
def PEPT_STATUS_PAGE_IN_REFUSED (n : Nat) : Fk := ⟨partPage n 7 + 0x118, 0, 1⟩
def PEPT_PAGE_IN_VPN (n : Nat) : Fk := ⟨partPage n 7 + 0x120, 0, 19⟩
def PEPT_PAGE_IN_PPN (n : Nat) : Fk := ⟨partPage n 7 + 0x120, 20, 18⟩
def PEPT_MISSES_COUNT (n : Nat) : Fk := ⟨partPage n 7 + 0x128, 0, 32⟩
def PEPT_NONRESIDENT_COUNT (n : Nat) : Fk := ⟨partPage n 7 + 0x130, 0, 32⟩
def PEPT_UNTRANSLATED_COUNT (n : Nat) : Fk := ⟨partPage n 7 + 0x138, 0, 32⟩
def PEPT_WINDOW_VIOL_COUNT (n : Nat) : Fk := ⟨partPage n 7 + 0x140, 0, 32⟩

/-! ### PKS -/
def PKS_HANDLE_BUDGET_BYTES (n : Nat) : Fk := ⟨partPage n 8 + 0x100, 0, 40⟩
def PKS_HANDLE_BYTES_BYTES (n : Nat) : Fk := ⟨partPage n 8 + 0x108, 0, 40⟩
def PKS_EDGE_BYTES_BYTES (n : Nat) : Fk := ⟨partPage n 8 + 0x110, 0, 41⟩
def PKS_STATUS_OVER (n : Nat) : Fk := ⟨partPage n 8 + 0x118, 0, 1⟩
def PKS_STATUS_EXCLUDED (n : Nat) : Fk := ⟨partPage n 8 + 0x118, 16, 16⟩
def PKS_UNREACH_BYTES_BYTES (n : Nat) : Fk := ⟨partPage n 8 + 0x120, 0, 40⟩
def PKS_RANGE_VA (n k : Nat) : Fk := ⟨partPage n 8 + 0x200 + 0x10 * k, 0, 40⟩
def PKS_RANGE_EN (n k : Nat) : Fk := ⟨partPage n 8 + 0x200 + 0x10 * k, 63, 1⟩
def PKS_LENGTH (n k : Nat) : Fk := ⟨partPage n 8 + 0x208 + 0x10 * k, 0, 41⟩

/-! ### PFLT -/
def PFLT_CTRL_QUIET_MS (n : Nat) : Fk := ⟨partPage n 9 + 0x100, 0, 16⟩
def PFLT_CTRL_RECOVERY_LIMIT (n : Nat) : Fk := ⟨partPage n 9 + 0x100, 16, 8⟩
def PFLT_CTRL_RECOVERY_WINDOW_S (n : Nat) : Fk := ⟨partPage n 9 + 0x100, 32, 8⟩
def PFLT_CTRL_TB (n : Nat) : Fk := ⟨partPage n 9 + 0x100, 40, 3⟩
def PFLT_STATUS_STICKY (n : Nat) : Fk := ⟨partPage n 9 + 0x108, 0, 1⟩
def PFLT_STATUS_CAUSE (n : Nat) : Fk := ⟨partPage n 9 + 0x108, 4, 4⟩
def PFLT_STATUS_RECENT (n : Nat) : Fk := ⟨partPage n 9 + 0x108, 8, 4⟩
def PFLT_STATUS_QUIET_LEFT_US (n : Nat) : Fk := ⟨partPage n 9 + 0x108, 16, 32⟩
def PFLT_RECOVERIES_COUNT (n : Nat) : Fk := ⟨partPage n 9 + 0x110, 0, 32⟩
def PFLT_FIRST_PAGE_VALUE (n : Nat) : Fk := ⟨partPage n 9 + 0x118, 0, 52⟩
def PFLT_FIRST_TIME_NS (n : Nat) : Fk := ⟨partPage n 9 + 0x120, 0, 64⟩

/-! ### TILE -/
def TILE_CTRL_RUN (t : Nat) : Fk := ⟨tilePage t + 0x100, 0, 1⟩
def TILE_STATUS_STATE (t : Nat) : Fk := ⟨tilePage t + 0x108, 0, 3⟩
def TILE_STATUS_CUR_TASK (t : Nat) : Fk := ⟨tilePage t + 0x108, 4, 4⟩
def TILE_STATUS_CUR_VALID (t : Nat) : Fk := ⟨tilePage t + 0x108, 8, 1⟩
def TILE_STATUS_MQ_DEPTH (t : Nat) : Fk := ⟨tilePage t + 0x108, 9, 4⟩
def TILE_EPOCH_EPOCH (t : Nat) : Fk := ⟨tilePage t + 0x110, 0, 16⟩
def TILE_FLAGS_INVALID (t : Nat) : Fk := ⟨tilePage t + 0x118, 0, 1⟩
def TILE_FLAGS_OVERFLOW (t : Nat) : Fk := ⟨tilePage t + 0x118, 1, 1⟩
def TILE_FLAGS_SATURATE (t : Nat) : Fk := ⟨tilePage t + 0x118, 2, 1⟩
def TILE_FLAGS_UNDERFLOW (t : Nat) : Fk := ⟨tilePage t + 0x118, 3, 1⟩
def TILE_CYCLES_COUNT (t : Nat) : Fk := ⟨tilePage t + 0x120, 0, 64⟩
def TILE_FIRES_COUNT (t : Nat) : Fk := ⟨tilePage t + 0x128, 0, 32⟩
def TILE_BLOCKS_COUNT (t : Nat) : Fk := ⟨tilePage t + 0x130, 0, 32⟩
def TILE_IDLE_CYCLES_COUNT (t : Nat) : Fk := ⟨tilePage t + 0x138, 0, 32⟩
def TILE_MATRIX_ROWS_COUNT (t : Nat) : Fk := ⟨tilePage t + 0x140, 0, 32⟩
def TILE_GANG_AIN (t : Nat) : Fk := ⟨tilePage t + 0x148, 0, 3⟩
def TILE_GANG_AFWD (t : Nat) : Fk := ⟨tilePage t + 0x148, 3, 1⟩
def TILE_GANG_AOUT (t : Nat) : Fk := ⟨tilePage t + 0x148, 4, 3⟩
def TILE_GANG_PIN_SRC (t : Nat) : Fk := ⟨tilePage t + 0x148, 7, 1⟩
def TILE_GANG_PIN (t : Nat) : Fk := ⟨tilePage t + 0x148, 8, 3⟩
def TILE_GANG_POUT_DST (t : Nat) : Fk := ⟨tilePage t + 0x148, 11, 1⟩
def TILE_GANG_POUT (t : Nat) : Fk := ⟨tilePage t + 0x148, 12, 3⟩
def TILE_GANG_ACC (t : Nat) : Fk := ⟨tilePage t + 0x148, 15, 2⟩
def TILE_TASK_CFG_ENTRY (t k : Nat) : Fk := ⟨tilePage t + 0x200 + 0x10 * k, 0, 13⟩
def TILE_TASK_CFG_IN_MASK (t k : Nat) : Fk := ⟨tilePage t + 0x200 + 0x10 * k, 16, 8⟩
def TILE_TASK_CFG_OUT_MASK (t k : Nat) : Fk := ⟨tilePage t + 0x200 + 0x10 * k, 24, 8⟩
def TILE_TASK_CFG_QUANTUM (t k : Nat) : Fk := ⟨tilePage t + 0x200 + 0x10 * k, 32, 6⟩
def TILE_TASK_CFG_URGENT (t k : Nat) : Fk := ⟨tilePage t + 0x200 + 0x10 * k, 40, 1⟩
def TILE_TASK_CFG_ENABLE (t k : Nat) : Fk := ⟨tilePage t + 0x200 + 0x10 * k, 41, 1⟩
def TILE_TASK_STATE_STATE (t k : Nat) : Fk := ⟨tilePage t + 0x208 + 0x10 * k, 0, 3⟩
def TILE_TASK_STATE_WAIT_ON (t k : Nat) : Fk := ⟨tilePage t + 0x208 + 0x10 * k, 3, 5⟩
def TILE_TASK_STATE_PC (t k : Nat) : Fk := ⟨tilePage t + 0x208 + 0x10 * k, 16, 13⟩
def TILE_TASK_STATE_FIRES (t k : Nat) : Fk := ⟨tilePage t + 0x208 + 0x10 * k, 32, 32⟩
def TILE_QSTAT_COUNT (t k : Nat) : Fk := ⟨tilePage t + 0x300 + 8 * k, 0, 8⟩
def TILE_QSTAT_DEPTH (t k : Nat) : Fk := ⟨tilePage t + 0x300 + 8 * k, 8, 8⟩
def TILE_QBIND_KIND (t k : Nat) : Fk := ⟨tilePage t + 0x400 + 8 * k, 0, 2⟩
def TILE_QBIND_DEPTH (t k : Nat) : Fk := ⟨tilePage t + 0x400 + 8 * k, 2, 7⟩
def TILE_QBIND_STALL_IGN (t k : Nat) : Fk := ⟨tilePage t + 0x400 + 8 * k, 9, 1⟩
def TILE_QBIND_BASE (t k : Nat) : Fk := ⟨tilePage t + 0x400 + 8 * k, 10, 8⟩
def TILE_QBIND_PACK (t k : Nat) : Fk := ⟨tilePage t + 0x400 + 8 * k, 18, 2⟩
def TILE_QBIND_REFUSED (t k : Nat) : Fk := ⟨tilePage t + 0x400 + 8 * k, 20, 1⟩
def TILE_QCRED_CREDIT_INIT (t k : Nat) : Fk := ⟨tilePage t + 0x480 + 8 * k, 0, 7⟩
def TILE_QCRED_CREDITS (t k : Nat) : Fk := ⟨tilePage t + 0x480 + 8 * k, 8, 7⟩
def TILE_QPACK_SAT (t k : Nat) : Fk := ⟨tilePage t + 0x4c0 + 8 * k, 0, 32⟩
def TILE_QPACK_RAW (t k : Nat) : Fk := ⟨tilePage t + 0x4c0 + 8 * k, 32, 32⟩
def TILE_QSPILL_ENTRIES (t k : Nat) : Fk := ⟨tilePage t + 0x500 + 8 * k, 0, 11⟩
def TILE_SLOT_SLOT (t k j i : Nat) : Fk := ⟨tilePage t + 0x800 + 0x240 * k + 0x40 * j + 8 * i, 0, 64⟩
def TILE_TREE_MASK (t k : Nat) : Fk := ⟨tilePage t + 0xd00 + 8 * k, 0, 64⟩
def TILE_CFG_MODE (t k : Nat) : Fk := ⟨tilePage t + 0x600 + 0x20 * k, 0, 2⟩
def TILE_CFG_DIR (t k : Nat) : Fk := ⟨tilePage t + 0x600 + 0x20 * k, 2, 1⟩
def TILE_CFG_CYCLIC (t k : Nat) : Fk := ⟨tilePage t + 0x600 + 0x20 * k, 3, 1⟩
def TILE_CFG_RING (t k : Nat) : Fk := ⟨tilePage t + 0x600 + 0x20 * k, 4, 1⟩
def TILE_CFG_DATA_H (t k : Nat) : Fk := ⟨tilePage t + 0x600 + 0x20 * k, 8, 6⟩
def TILE_CFG_LIST_H (t k : Nat) : Fk := ⟨tilePage t + 0x600 + 0x20 * k, 14, 6⟩
def TILE_CFG_IDX_SRC (t k : Nat) : Fk := ⟨tilePage t + 0x600 + 0x20 * k, 20, 1⟩
def TILE_CFG_IDXQ (t k : Nat) : Fk := ⟨tilePage t + 0x600 + 0x20 * k, 21, 3⟩
def TILE_CFG_QD (t k : Nat) : Fk := ⟨tilePage t + 0x600 + 0x20 * k, 24, 3⟩
def TILE_CFG_NQ (t k : Nat) : Fk := ⟨tilePage t + 0x600 + 0x20 * k, 27, 3⟩
def TILE_CFG_RQ (t k : Nat) : Fk := ⟨tilePage t + 0x600 + 0x20 * k, 30, 3⟩
def TILE_CFG_RING_H (t k : Nat) : Fk := ⟨tilePage t + 0x600 + 0x20 * k, 33, 6⟩
def TILE_CFG_OUTSTANDING (t k : Nat) : Fk := ⟨tilePage t + 0x600 + 0x20 * k, 40, 7⟩
def TILE_CFG_XFER (t k : Nat) : Fk := ⟨tilePage t + 0x600 + 0x20 * k, 48, 2⟩
def TILE_COUNT_TOTAL (t k : Nat) : Fk := ⟨tilePage t + 0x608 + 0x20 * k, 0, 32⟩
def TILE_COUNT_ELEM (t k : Nat) : Fk := ⟨tilePage t + 0x608 + 0x20 * k, 32, 16⟩
def TILE_BASE_BASE (t k : Nat) : Fk := ⟨tilePage t + 0x610 + 0x20 * k, 0, 40⟩
def TILE_BASE_STRIDE (t k : Nat) : Fk := ⟨tilePage t + 0x610 + 0x20 * k, 40, 24⟩
def TILE_RINGCFG_SLOT_UNITS (t k : Nat) : Fk := ⟨tilePage t + 0x618 + 0x20 * k, 0, 16⟩
def TILE_RINGCFG_SLOTS (t k : Nat) : Fk := ⟨tilePage t + 0x618 + 0x20 * k, 16, 16⟩
def TILE_STREAM_STATE_STATE (t k : Nat) : Fk := ⟨tilePage t + 0x700 + 8 * k, 0, 3⟩
def TILE_STREAM_STATE_REASON (t k : Nat) : Fk := ⟨tilePage t + 0x700 + 8 * k, 3, 1⟩
def TILE_STREAM_STATE_GEN_STALE (t k : Nat) : Fk := ⟨tilePage t + 0x700 + 8 * k, 4, 1⟩
def TILE_STREAM_STATE_CFG_REFUSED (t k : Nat) : Fk := ⟨tilePage t + 0x700 + 8 * k, 5, 1⟩
def TILE_STREAM_STATE_HOST_REFUSED (t k : Nat) : Fk := ⟨tilePage t + 0x700 + 8 * k, 6, 1⟩
def TILE_STREAM_STATE_INFLIGHT (t k : Nat) : Fk := ⟨tilePage t + 0x700 + 8 * k, 8, 7⟩
def TILE_POS_ITEM (t k : Nat) : Fk := ⟨tilePage t + 0x740 + 8 * k, 0, 32⟩
def TILE_POS_UNITS_DONE (t k : Nat) : Fk := ⟨tilePage t + 0x740 + 8 * k, 32, 24⟩
def TILE_HALT_VA_VA (t k : Nat) : Fk := ⟨tilePage t + 0x780 + 8 * k, 0, 40⟩
def TILE_STREAM_CMD_SD (t : Nat) : Fk := ⟨tilePage t + 0x7c0, 0, 3⟩
def TILE_STREAM_CMD_OP (t : Nat) : Fk := ⟨tilePage t + 0x7c0, 4, 2⟩
def TILE_SPARSE_CLEAVE_LEN (t : Nat) : Fk := ⟨tilePage t + 0xe00, 0, 13⟩
def TILE_SPARSE_B_H (t : Nat) : Fk := ⟨tilePage t + 0xe00, 16, 6⟩
def TILE_SPARSE_BROWS (t : Nat) : Fk := ⟨tilePage t + 0xe00, 32, 24⟩
def TILE_SP_OPS_COUNT (t : Nat) : Fk := ⟨tilePage t + 0xe08, 0, 32⟩
def TILE_SP_PRESENT_COUNT (t : Nat) : Fk := ⟨tilePage t + 0xe10, 0, 64⟩
def TILE_SP_CLEAVED_COUNT (t : Nat) : Fk := ⟨tilePage t + 0xe18, 0, 32⟩
def TILE_SP_MERGE_COUNT (t : Nat) : Fk := ⟨tilePage t + 0xe20, 0, 64⟩

end Sys2Proof.Machine
end

