-- ==== Sys2Proof/Machine/State.lean ====
section
/-! DEFINITION. The state of the module, as plain data: the field store that holds every register field, the state
that no register shows, memory, what the part has put out, and the queue of waiting commands. -/

namespace Sys2Proof.Machine

/-- Why the model stops with a fault. No constructor: the spec gives every command an effect, and a fault record of the
W2 (R338) is an effect on the state and no stop. -/
inductive Fault
  deriving DecidableEq, Repr

/-- Why the model refuses a command. -/
inductive Refusal
  /-- The command has no meaning in the model; raised by an arm of `exec` alone. Safe: the model stops. -/
  | notModelled (mnemonic : String)
  deriving DecidableEq, Repr

/-! ## The tile (chapters 04 to 10) -/

/-- One of the 16 tasks of a tile: what Table TL-1 keeps per task, and the configuration that the current firing
captured (R92). -/
structure Task where
  /-- p1 to p7, keyed 1 to 7; an unlisted predicate reads 0. -/
  preds : SMap W32 := []
  /-- ENTRY as the current firing took it. -/
  entry : Nat := 0
  /-- IN_MASK as the current firing took it. -/
  inMask : Nat := 0
  /-- OUT_MASK as the current firing took it. -/
  outMask : Nat := 0
  /-- QUANTUM as the current firing took it. -/
  quantum : Nat := 1
  /-- URGENT as the current firing took it. -/
  urgent : Bool := false
  /-- The accumulator that a block with WAIT_ON 17 waits for. -/
  waitAcc : Nat := 0
  /-- The task resumes inside its firing, at its PC, when it next runs (R87, R88). -/
  mid : Bool := false
  /-- ENABLE was written 0 while the task ran (R92). -/
  disablePending : Bool := false
  /-- ENABLE was written 1 after that, while the task still ran (R92). -/
  reenable : Bool := false
  deriving DecidableEq, Repr

/-- The operations of the matrix issue queue (Table IS-10). -/
inductive MKind | mldw | mma | mmag | mmas | mza | mwra | msta
  deriving DecidableEq, Repr

/-- An operation in the matrix issue queue (R98, R125), with its operands as taken at issue. -/
structure MOp where
  kind : MKind
  task : Nat
  acc : Nat := 0
  wb : Nat := 0
  fa : Nat := 0
  fb : Nat := 0
  za : Bool := false
  dq : Bool := false
  qa : Nat := 0
  base : Nat := 0
  stride : Nat := 0
  qo : Nat := 0
  ty : Nat := 0
  scale : Int := 0
  row : Nat := 0
  spm : Nat := 0
  spb : Bool := false
  /-- The vector pair of MWRA, read at issue. -/
  data : Entry := 0
  /-- TILE.GANG or TILE.SPARSE as captured at issue. -/
  bind : Nat := 0
  /-- The place of handle B_H, as resolved at issue (R209): tile-local base and length. -/
  bBase : Nat := 0
  bLen : Nat := 0
  /-- WIDE_PRI of B_H, the tier of the B reads (R209). -/
  bWide : Bool := false
  /-- The index of the instruction that issued it (R91). -/
  pc : Nat := 0
  /-- The operation has started on its path. -/
  started : Bool := false
  /-- Rows, units or entries already processed. -/
  done : Nat := 0
  /-- Every row has been processed. -/
  finished : Bool := false
  /-- The entry whose second A row has yet to be processed (R123). -/
  held : Option Entry := none
  /-- Entries of the A group that MMAS has popped and not yet used (R206). -/
  buf : List Entry := []
  /-- Output entries of a sparse × sparse operation that have yet to be pushed (R212). -/
  outs : List Entry := []
  deriving DecidableEq, Repr

/-- A group of four instructions in the instruction buffer (R398). -/
structure IGroup where
  /-- Group `g` is the desk bytes 32 × g to 32 × g + 31. -/
  g : Nat
  /-- The instructions, the first in the low 64 bits, as they were fetched. -/
  words : Nat := 0
  /-- Words that hold an uncorrectable error, one bit each (R134). -/
  marks : Nat := 0
  deriving DecidableEq, Repr

/-- A resolved handle (R144): its place (1 desk, 2 bench, 3 edge), base, length and WIDE_PRI. -/
structure Handle where
  place : Nat := 0
  base : Nat := 0
  len : Nat := 0
  wide : Bool := false
  /-- The entry it was resolved to, and that entry's generation count. -/
  entry : Nat := 0
  gen : Nat := 0
  deriving DecidableEq, Repr

/-- An outstanding stream transfer (R188 to R191). -/
structure Xfer where
  /-- Its number, which its packet carries. -/
  id : Nat := 0
  /-- Memory key of the first byte. -/
  key : Nat
  /-- Length in bytes. -/
  len : Nat
  write : Bool
  /-- The data of a WRITE transfer, and of a READ transfer once memory has answered. -/
  data : Nat := 0
  /-- Position of its first byte in the data of the stream, counted from the start. -/
  pos : Nat := 0
  /-- Edge memory has answered its READ packet, or taken its WRITE packet. -/
  came : Bool := false
  landed : Bool := false
  /-- Bytes of the stream's data at which words delivered as zero start (R198). -/
  poison : List Nat := []
  /-- It carries the end of the stream's last item. -/
  last : Bool := false
  deriving DecidableEq, Repr

/-- One of the eight stream engines of a tile: what Table ST-7 does not show (R184 to R199). -/
structure Stream where
  dataH : Handle := {}
  listH : Handle := {}
  ringH : Handle := {}
  xfers : List Xfer := []
  /-- Byte offset and length in units of the current item, once known, and its bytes already issued. -/
  curOff : Nat := 0
  curUnits : Nat := 0
  curKnown : Bool := false
  curDone : Nat := 0
  /-- The first bytes of an entry of which the rest has yet to land, or the bytes of the entry popped last that the next
  transfer of a WRITE stream carries: their number and value. -/
  part : Nat × Nat := (0, 0)
  /-- Indices held, popped from IDXQ or read from the list (R187). -/
  idx : List Nat := []
  /-- Entries of the list, or indices, consumed so far, padding included. -/
  taken : Nat := 0
  /-- Bytes of the stream issued since the start, and those of them that have landed in order. -/
  next : Nat := 0
  landed : Nat := 0
  /-- Slots notified, and slots returned, since the start (R190). -/
  notified : Nat := 0
  returned : Nat := 0
  /-- Bytes of a ring stream, counted since the start, at which words zeroed under R198 start. -/
  poisonAt : List Nat := []
  /-- A notify entry waits for NQ (R190). -/
  notifyWait : Bool := false
  /-- The halt post waits for room in PSTR (R195). -/
  postWait : Bool := false
  /-- A full PSTR turned the post away; it is posted again below 64 records (R195). -/
  postFull : Bool := false
  /-- A check of the page is due (R196). -/
  recheck : Bool := false
  /-- It ran when the partition's weight copy last flipped, and has not started or wrapped since (R238). -/
  old : Bool := false
  /-- The halted access was a write. -/
  haltWrite : Bool := false
  /-- Time at which the halt began, ns. -/
  haltAt : Nat := 0
  /-- STREAM_HALT_TIMEOUT has been raised for this halt (R197). -/
  haltTimed : Bool := false
  deriving DecidableEq, Repr

/-- A row operation that the bench interface runs (R128, R139 to R141). -/
structure RowOp where
  op : Nat
  fv : Bool
  dst : Nat
  a : Nat
  b : Nat
  c : Nat
  deriving DecidableEq, Repr

/-- A shelf entry (Tables ME-4 and ME-5) with the pending copy of word 1 (R143). -/
structure Shelf where
  w0 : Nat := 0
  w1 : Nat := 0
  pend : Nat := 0
  /-- The entry is honoured as a handle keep, or it was excluded (R298). -/
  hon : Bool := false
  excl : Bool := false
  deriving DecidableEq, Repr

/-- The circuit source of an entry, to which its credit returns (R164): the source tile and queue, and the sinks of the
route that it took. -/
structure Origin where
  src : Nat
  srcQ : Nat
  sinks : List (Nat × Nat) := []
  deriving DecidableEq, Repr

/-- An entry of an input queue: its data, where its credit returns, and for an entry of a circuit the tile that sent it
with the sweep command whose message it belongs to (0: none). [entry 149 DESIGN CHOICE] -/
structure QEnt where
  data : Entry
  src : Option Origin := none
  sender : Option (Nat × Nat) := none
  deriving DecidableEq, Repr

/-- What the operation that pushed an entry says of its type (R107, R181): nothing, BF16, another type, a partial row. -/
inductive EType | unknown | bf16 | other | partialRow
  deriving DecidableEq, Repr

/-- An entry of an output queue, with the sweep command whose message it belongs to (0: none). [entry 149 DESIGN CHOICE] -/
structure OEnt where
  data : Entry
  ty : EType := .unknown
  cmd : Nat := 0
  deriving DecidableEq, Repr

/-- The sweep engine of a tile (R218 to R224). -/
structure SweepEng where
  /-- 0 at rest, 1 dilating, 2 gathering the minimum of REPAIR, 3 in rounds, 4 finished, 5 initialising, 6 to begin a
  dilation, 7 to begin the rounds, 8 waiting for the grid's minimum. -/
  phase : Nat := 0
  /-- Half-steps or rounds finished. -/
  round : Nat := 0
  /-- The dilation of a tile outside the repair set, which leaves its INFL as it was. -/
  keep : Bool := false
  /-- The bitmap being dilated, and INFL before REPAIR: bit j × 128 + i for cell (i, j). -/
  bm : Nat := 0
  infl0 : Nat := 0
  /-- Entries of its messages that wait for room in QOUT. -/
  outbox : List OEnt := []
  /-- Entries of messages that have not arrived whole, by source tile. -/
  pops : SMap (List Entry) := []
  /-- Whole cost messages whose row waits until no row operation holds the pair, by direction, oldest first. -/
  inbox : List (Nat × List Entry) := []
  /-- Messages held: direction (0 N, 1 E, 2 S, 3 W; 4 more for a bitmap, 8 more for a minimum) and round. -/
  held : List (Nat × Nat) := []
  /-- Bitmap lines, REPORT bits, minima, and whether the costs are those of the round before: keyed direction × 2 + round
  parity. -/
  lines : SMap Nat := []
  reports : SMap Nat := []
  mins : SMap Nat := []
  eqs : SMap Bool := []
  /-- A cost changed in the last round. -/
  changed : Bool := false
  /-- REPAIR left the tile's cells and its INFL as they were (R224). -/
  kept : Bool := false
  deriving DecidableEq, Repr

/-- The state of a tile that its page does not show (Table TL-1). -/
structure Tile where
  /-- s1 to s31. -/
  sregs : SMap W32 := []
  /-- v0 to v15. -/
  vregs : SMap Vec := []
  tasks : SMap Task := []
  /-- Accumulator elements, keyed a × 256 + m × 16 + n: FP32 patterns. -/
  acc : SMap W32 := []
  /-- Weight buffers wb0 and wb1, 512 B each. -/
  wb : SMap (BitVec 4096) := []
  inq : SMap (List QEnt) := []
  outq : SMap (List OEnt) := []
  /-- Entries of each extended input queue in the spill area (R177 to R179). -/
  spill : SMap (List QEnt) := []
  /-- The task selected, and the task that last ran (R89). -/
  cur : Option Nat := none
  last : Nat := 15
  mq : List MOp := []
  streams : SMap Stream := []
  /-- The instruction buffer: at most 16 groups, most recently used first (R398). -/
  ibuf : List IGroup := []
  rowOps : List RowOp := []
  /-- Open row of each subarray. -/
  openRow : SMap Nat := []
  deskWait : List Req := []
  benchWait : List Req := []
  /-- Desk banks that the second cycle of a read-modify-write occupies (R131), one bit each. -/
  busyBanks : Nat := 0
  /-- Bench rows recorded as giving an uncorrectable error (R141, R142). -/
  failRows : List Nat := []
  /-- Corrected errors of bench rows in the last second (R142): row, time. -/
  ceRows : List (Nat × Nat) := []
  /-- The requester last granted in each tier (R132). -/
  rrDesk : SMap Nat := []
  rrBench : SMap Nat := []
  shelf : SMap Shelf := []
  sweep : SweepEng := {}
  /-- The next desk unit to scrub (R135), and the next physical row to refresh (R138). -/
  scrubAt : Nat := 0
  refreshAt : Nat := 0
  /-- The tile clock count of the plain at the last tile reset (TILE.CYCLES counts from it). -/
  cycBase : Nat := 0
  /-- The tile's router is the fault of its fence (R73). -/
  routerBad : Bool := false
  deriving DecidableEq, Repr

/-! ## The mesh (chapter 07) -/

/-- A circuit flit in flight (R161 to R166). -/
structure Flit where
  /-- The tile whose router holds it, and the input it came in on (0 N, 1 E, 2 S, 3 W, 4 XN, 5 XE, 6 XS, 7 XW). -/
  at_ : Nat
  inp : Nat
  /-- The slot in which it arrived. -/
  slot : Nat
  /-- Parity of the tick count at injection (R166). -/
  par : Bool
  entries : List OEnt
  origin : Origin
  /-- The sink queue, once output L has taken it. -/
  sink : Option Nat := none
  /-- It has met a full spill area (R179). -/
  full : Bool := false
  deriving DecidableEq, Repr

/-- A credit on its way back to a circuit source (R164): where it returns, and the sink that gave it. -/
structure Credit where
  origin : Origin
  snk : Nat
  snkQ : Nat
  deriving DecidableEq, Repr

/-- One span port: link retry (R182). -/
structure Span where
  txSeq : Nat := 0
  rxSeq : Nat := 0
  /-- Unacknowledged flits, oldest first: sequence number and payload. -/
  unacked : List (Nat × Nat) := []
  /-- Replays in a row without progress. -/
  replays : Nat := 0
  /-- Time from which the acknowledgement that is due has been waited for. -/
  since : Nat := 0
  deriving DecidableEq, Repr

/-! ## Plains (chapter 03) -/

/-- A bypass of one physical site: column, and whether it was made in the field. -/
structure Byp where
  col : Nat
  field : Bool
  deriving DecidableEq, Repr

/-- A lane of a pass: edge, link, direction, plane, group, lane. -/
structure Lane where
  edge : Nat
  link : Nat
  dir : Nat
  plane : Nat
  group : Nat
  lane : Nat
  deriving DecidableEq, Repr

/-- The map of a plain (R61 to R63, R79). -/
structure PMap where
  /-- Bypassed columns of each physical row. -/
  byp : SMap (List Byp) := []
  /-- Retired rows, with the field mark. -/
  retired : List Byp := []
  /-- Failed lanes. -/
  lanes : List Lane := []
  deriving DecidableEq, Repr

/-- What a repair changes: a site bypassed, a row retired (by physical column and row), bench rows replaced. -/
inductive RepairKind
  | site (px py : Nat)
  | row (py : Nat)
  | bench
  deriving DecidableEq, Repr

/-- A repair in progress (Table RP-2). -/
structure Repair where
  kinds : List RepairKind := []
  /-- 1 commanded, 2 map computed, 3 paused, 4 intent programmed, 5 copying, 6 refilled, 7 resumed. -/
  phase : Nat := 1
  newMap : PMap
  /-- Copies done. -/
  copies : Nat := 0
  /-- Fenced tiles repaired here. -/
  tiles : List Nat := []
  /-- Lost ranges found while copying. -/
  lost : List LostRange := []
  /-- Time at which the plain paused, and PLN.STATE to which it returns. -/
  pausedAt : Nat := 0
  back : Nat := 0
  /-- A partition reset waits for the pause to end (R354). -/
  reset : Bool := false
  deriving DecidableEq, Repr

/-- The state of a plain that its pages do not show. [entry 129 DESIGN CHOICE] -/
structure Plain where
  map : PMap := {}
  /-- The manufacture part of the map, in fuses (R79). -/
  fuse : PMap := {}
  /-- The newest programmed intent record that has no commit (R80). -/
  intent : Option PMap := none
  /-- Physical sites (column, row) that passed RETEST (R84). -/
  cleared : List (Nat × Nat) := []
  /-- Site under test. -/
  testing : Option (Nat × Nat) := none
  /-- Redundant bench rows in use (R142), keyed (physical row × 66 + column) × 8 + subarray. -/
  redundant : SMap Nat := []
  /-- Lane errors of the last second (R69), with their times. -/
  laneErr : List (Lane × List Nat) := []
  /-- Failed lanes that no spare replaces yet. -/
  lanePend : List Lane := []
  /-- Lost links (R70): edge, link, plane. -/
  lostLinks : List (Nat × Nat × Nat) := []
  repair : Option Repair := none
  /-- Fenced tiles that wait for the next pause (R77). -/
  waitFence : List Nat := []
  /-- Time at which the last pause ended; 0 before any (R77). -/
  resumedAt : Nat := 0
  /-- Tile clock cycles counted (R158, TILE.CYCLES), and mesh cycles into the current round. -/
  tileCyc : Nat := 0
  meshSub : Nat := 0
  /-- A committed MESH page waits for the tick (R166). -/
  bankPend : Bool := false
  /-- The bank before the last tick that switched. -/
  prevBank : Nat := 0
  /-- The first round after the settling of R167; 0 outside it. -/
  settle : Nat := 0
  /-- The plain's clocks run at half rate, as they took it up at a round boundary (R158). -/
  slow : Bool := false
  /-- A plain reset waits for a partition reset to complete (R353). -/
  resetWait : Bool := false
  /-- The full fence waits for the detour tables (R174). -/
  detourWait : Bool := false
  /-- Stretch: time since which the step is at MAX_STEP, and whether PLAIN_DROOP was raised for it (R292). -/
  maxSince : Option Nat := none
  /-- Droop readings, latest first: time and mV; one that a later reading reaches is left out (R291). -/
  droops : List (Nat × Nat) := []
  /-- Time to which STRETCH_US has counted, while the step is 1 or above. -/
  stretchAt : Nat := 0
  droopRaised : Bool := false
  /-- Conditions that stand: THERMAL_WARN, THERMAL_CRIT (R393). -/
  warn : Bool := false
  crit : Bool := false
  /-- The refresh interval is halved (R138). -/
  fastRefresh : Bool := false
  /-- When the first of the latest readings of 83 °C or below was taken (R138). -/
  coolFrom : Option Nat := none
  deriving DecidableEq, Repr

/-! ## Partitions, staging, latches, functions (chapters 02, 08, 10, 16) -/

/-- A hardware latch (R54, Table CS-17): 0 FREE, 1 held, 2 BROKEN; the owner's kind (1 PF0, 2 partition, 3 tile),
partition, column, row, and its epoch at the acquire. -/
structure Latch where
  st : Nat := 0
  kind : Nat := 0
  part : Nat := 0
  x : Nat := 0
  y : Nat := 0
  epoch : Nat := 0
  deriving DecidableEq, Repr

/-- A captured group of pages whose apply is in progress (R50, R51). -/
structure Apply where
  part : Nat
  group : Nat
  /-- Page offsets and the captured shadows of each. -/
  pages : List (Nat × SMap Nat)
  /-- Pages with a DISCARD, and pages with a COMMIT, received at the capture or later. -/
  heldDiscard : List Nat := []
  heldCommit : List Nat := []
  deriving DecidableEq, Repr

/-- A halt record of PSTR (Table ST-8). -/
structure Halt where
  vpn : Nat
  reason : Nat
  write : Bool
  tile : Nat
  sd : Nat
  waiters : Nat := 0
  deriving DecidableEq, Repr

/-- A host DMA descriptor in flight (Table ST-5, R201). -/
structure Dma where
  /-- Ring index of the descriptor. -/
  index : Nat
  /-- Word 3 as fetched. -/
  w3 : Nat
  irq : Bool
  status : Nat
  /-- The NOTIFY push is done, or none is asked. -/
  notified : Bool
  /-- The packet of the NOTIFY push has been sent. -/
  sent : Bool := false
  deriving DecidableEq, Repr

/-- The sweep that PSW runs (R216 to R227). -/
structure Sweep where
  op : Nat := 0
  /-- STATE in which CHECK was written. -/
  before : Nat := 0
  /-- The result that the command's end will set. -/
  result : Nat := 0
  done : Bool := false
  /-- Consecutive rounds whose REPORT was 0 at the north-west tile (R222). -/
  quiet : Nat := 0
  /-- The command's number among those of the partition's PSW, from 1. -/
  id : Nat := 0
  deriving DecidableEq, Repr

/-! ## Time by position, sessions, ledgers (chapters 12 and 13) -/

/-- A sample of a position history (R250). -/
structure Sample where
  time : Nat
  pos : Int
  coast : Bool := false
  lost : Bool := false
  gap : Bool := false
  deriving DecidableEq, Repr

/-- A stretch of a position between two edges: where and when it began, the step of its edge, and the interval over which it
interpolates (0: it holds). -/
structure Seg where
  pos : Int
  base : Nat
  step : Int
  gapNs : Nat
  deriving DecidableEq, Repr

/-- A timebase: what TBS does not show (R244 to R253). Positions are in 1/256 counts. [entry 129 DESIGN CHOICE] -/
structure Tb where
  /-- Position at the last edge; in mode 5 at module time `baseM`, and while coasting at `base`. -/
  pos : Int := 0
  /-- Time of that edge or of the loss from which the position is computed. -/
  base : Nat := 0
  /-- Module time of the apply that set mode 5 or its RATE (Table TB-1). -/
  baseM : Int := 0
  /-- VELOCITY when the coasting began (R253). -/
  coastVel : Int := 0
  /-- Interval between the last two edges, ns; 0 before two edges. -/
  gapNs : Nat := 0
  /-- Signed step of the last edge. -/
  step : Int := 0
  /-- The last two edges moved in the same direction. -/
  same : Bool := false
  /-- Samples, newest first. -/
  hist : List Sample := []
  /-- The next sample is flagged GAP. -/
  mark : Bool := false
  /-- Time since which a receiver fault of input TBn stands (R252, R386). -/
  rxFrom : Option Nat := none
  /-- Time from which missing edges count (R252). -/
  quietFrom : Nat := 0
  /-- The stretches before the last edge, newest first, as far back as a slip is told apart (R258). [entry 68 DEDUCED] -/
  trail : List Seg := []
  /-- Times of the quadrature errors of the last millisecond (R246). -/
  quad : List Nat := []
  deriving DecidableEq, Repr

/-- A trigger output (R260): active until a time. -/
structure Pulse where
  active : Bool := false
  ends : Nat := 0
  deriving DecidableEq, Repr

/-- The runtime state of a timetable entry (R256, Table TB-7). -/
structure EntryRt where
  due : Int := 0
  armed : Bool := false
  below : Bool := false
  spent : Bool := false
  fires : Nat := 0
  /-- Time of a forward crossing that has yet to be served. -/
  crossed : Option Nat := none
  /-- The pulse of that crossing has started (R260). -/
  started : Bool := false
  /-- Position to which a jump went past further due positions while that crossing waited (R265). -/
  jumped : Option Int := none
  deriving DecidableEq, Repr

/-- An open item (R255). -/
structure Item where
  num : Nat
  anchor : Nat
  pos : Int
  /-- Relative entries that have fired or dropped for it. -/
  done : List Nat := []
  /-- Relative entries whose due position the timebase has been below while the item is open (R257). -/
  below : List Nat := []
  /-- Times of crossings that have yet to be served, by relative entry. -/
  crossed : SMap Nat := []
  /-- TRIGGER entries whose pulse has started. -/
  started : List Nat := []
  /-- DEADLINE entries whose lead check is made, and those with a LATE verdict. -/
  lead : List Nat := []
  late : List Nat := []
  /-- Egress sessions with an accepted, and with an acknowledged, record of the item. -/
  accepted : List Nat := []
  acked : List Nat := []
  /-- Tile to which its job token went. -/
  job : Option Nat := none
  /-- A condition of R263 held since then. -/
  slowed : Bool := false
  /-- Tainted under R74. -/
  tainted : Bool := false
  deriving DecidableEq, Repr

/-- A doorbell whose record the ledger has read and has yet to check (R278). -/
structure Sub where
  tile : Nat
  units : Nat
  rq : Nat
  reply : Bool
  /-- The doorbell names no place of the desk that R278 allows. -/
  bad : Bool
  data : Nat
  deriving DecidableEq, Repr

/-- A record of a ledger (R278 to R286). -/
structure Rec where
  eses : Nat
  kind : Nat
  item : Nat
  seq : Nat
  len : Nat
  payload : Nat
  time : Nat
  unarmed : Bool := false
  /-- Its place in the order of release, once released. -/
  rel : Option Nat := none
  /-- Time of acceptance, sends so far, time of the last, and its timer in µs (R284). -/
  born : Nat := 0
  sends : Nat := 0
  lastSend : Nat := 0
  rto : Nat := 0
  /-- It is to be sent again. -/
  again : Bool := false
  deriving DecidableEq, Repr

/-- A frame of an ingress session (R273, R275). -/
structure Frame where
  seq : Nat
  /-- RTP timestamp or FRAME field. -/
  key : Nat
  /-- Byte ranges that have arrived: start and length. -/
  got : List (Nat × Nat) := []
  /-- Module times of the arrival of the start of the first and of the end of the last packet; CAPTURE_TIME. -/
  first : Nat := 0
  last : Nat := 0
  sent : Option Nat := none
  /-- Time of the last packet. -/
  seen : Nat := 0
  /-- The rule of R276: 0 as usual, 1 in the fallback partition, 2 UNPROCESSED, 3 offered to no job; the partition whose
  edge space takes it. -/
  mode : Nat := 0
  part : Nat := 0
  /-- It was counted in I_DROPPED whole. -/
  dropped : Bool := false
  /-- A packet of it was not written (R274). -/
  broken : Bool := false
  deriving DecidableEq, Repr

/-- A complete frame that may be offered to jobs. -/
structure Done where
  seq : Nat
  pos : Int
  time : Nat
  /-- Partition to whose JOB entries it is offered. -/
  part : Nat
  deriving DecidableEq, Repr

/-- An ingress session: what SES shows, and its frames. -/
structure Ingress where
  frames : Nat := 0
  incomplete : Nat := 0
  dropped : Nat := 0
  badfmt : Nat := 0
  /-- The last extended sequence number, and the packets lost by it (R271). [entry 153 DESIGN CHOICE] -/
  ext : Option Nat := none
  lost : Nat := 0
  last : Nat := 0
  next : Nat := 0
  cur : Option Frame := none
  /-- Complete frames, newest first. -/
  done : List Done := []
  deriving DecidableEq, Repr

/-- An egress session: what SES shows, and its shaper. -/
structure Egress where
  sent : Nat := 0
  retx : Nat := 0
  acked : Nat := 0
  dups : Nat := 0
  bads : Nat := 0
  /-- Tokens in 1/65,536 byte. -/
  tokens : Int := 0
  /-- Records accepted in this incarnation. -/
  count : Nat := 0
  /-- PARTNER_SILENT has been raised since the last valid ACK (R284). -/
  silent : Bool := false
  deriving DecidableEq, Repr

/-- The state of a partition that its pages do not show. [entry 129 DESIGN CHOICE] -/
structure Part where
  /-- Halt records of PSTR, oldest first (R195). -/
  halts : List Halt := []
  /-- Virtual pages in the translation cache, most recent first (R401). -/
  tcache : List Nat := []
  /-- Host DMA descriptors in flight, by queue, in ring order (R201). -/
  dma : SMap (List Dma) := []
  sweep : Option Sweep := none
  /-- Sweep commands that PSW has begun. -/
  sweepSeq : Nat := 0
  /-- Times of the recoveries kept (R350), newest first. -/
  recoveries : List Nat := []
  /-- Time from which the quiet period runs (R349). -/
  quietFrom : Nat := 0
  /-- The partition entered DEGRADED through DEGRADE_PARTITION (R349). -/
  degraded : Bool := false
  /-- Time at which the drain began (R45), and whether DRAIN_TIMEOUT was raised for it. -/
  drainFrom : Nat := 0
  drainRaised : Bool := false
  /-- Routes suspended under R175 that wait for new routes to be placed and committed. -/
  routeSusp : Bool := false
  /-- The stall watch (R177): time counted since the last firing, up to the moment from which it counts on, if it does. -/
  quiet : Nat := 0
  watchFrom : Option Nat := none
  /-- Runtime state of the timetable entries, open items in ITEM order (R254 to R257). -/
  rt : SMap EntryRt := []
  items : List Item := []
  /-- Items and sessions released by EMIT: records accepted later are sent on acceptance (R259). -/
  emitted : List (Nat × Nat) := []
  /-- The handle keeps are to be counted again (R298). -/
  recount : Bool := false
  /-- Doorbells that wait for the check, oldest first (R278). -/
  subs : List Sub := []
  /-- Records held, oldest first, and the next place in the order of release (R282). -/
  ledger : List Rec := []
  relNext : Nat := 0
  deriving DecidableEq, Repr

/-- The PCIe side: link, PERST#, SR-IOV, MSI-X (R34, R38, R40, R352, R358). -/
structure Pcie where
  perst : Bool := true
  l0 : Bool := false
  numVfs : Nat := 0
  /-- VFs with MSI-X enabled. -/
  vfMsix : List Nat := []
  /-- VFs whose function-level reset has not been reported complete (R40). -/
  vfReset : List Nat := []
  /-- A management reset runs (R352). -/
  mgmtReset : Bool := false
  /-- PF0's PCIe configuration beyond NumVFs, and its MSI-X table: words that differ from their reset values, by word index
  (R40). -/
  cfg : SMap Nat := []
  msixTable : SMap Nat := []
  deriving DecidableEq, Repr

/-- A reset held under R41 until the backup ends. -/
inductive HeldReset
  | module (cause : Nat)
  | mgmt
  | part (n : Nat) (flr : Bool)
  deriving DecidableEq, Repr


/-! ### The Keeper, the Chest and the start (chapters 11, 14, 15, 17, 18) -/

/-- A region of the keep data (R317): kind 0 ledger, 1 edge range, 2 handle keep (Table HU-9). -/
structure Region where
  kind : Nat
  part : Nat
  /-- VA of the range, or global address of the handle's base. -/
  addr : Nat
  /-- It lies in a full-fenced plain (R299). -/
  unreach : Bool := false
  /-- Its length in bytes. -/
  len : Nat := 0
  /-- Its bytes, by memory key. -/
  cells : List Host.Cell := []
  deriving DecidableEq, Repr

/-- What a backup holds (Table HU-2). -/
structure Snap where
  seq : Nat := 0
  /-- Register fields of the system part. -/
  fld : SMap Nat := []
  tbs : SMap Tb := []
  ing : SMap Ingress := []
  egr : SMap Egress := []
  parts : SMap Part := []
  latches : SMap Latch := []
  /-- The slot of the image that placed each partition, plus 1, and what the measurements cover. -/
  cold : SMap Nat := []
  coldPro : SMap Nat := []
  copyPro : SMap Nat := []
  regions : List Region := []
  deriving DecidableEq, Repr

/-- A backup that runs (Table HU-3). -/
structure Backup where
  /-- 1 freezing, 2 frozen, 3 HELD, 4 open record programmed, 5 written. -/
  phase : Nat := 1
  /-- Time of the power-fail, and PACK.ENERGY_J at it. -/
  from_ : Nat
  energy : Nat
  slot : Nat := 0
  snap : Snap := {}
  /-- D. -/
  bytes : Nat := 0
  /-- The input has returned to 46 V or above (R304). -/
  restored : Bool := false
  deriving DecidableEq, Repr

/-- A warm restore that runs (Table HU-4). -/
structure Restore where
  snap : Snap
  /-- Last step of Table HU-4 that is done for the whole module: 1, 2 or 3. -/
  step : Nat := 1
  /-- Partitions that entered RESTORING, those whose live copy is reloaded, those whose handle keeps are written, and
  those that come up cold. -/
  parts : List Nat
  loaded : List Nat := []
  kept : List Nat := []
  cold : List Nat := []
  /-- Ledgers that were emptied, and ranges or handles that were lost. -/
  lost : List Region := []
  deriving DecidableEq, Repr

/-- An image, or a slot of the image store (R237, R320): the prologue and the shards, lowest byte first. [entry 129 DESIGN CHOICE] -/
structure Stored where
  plen : Nat := 0
  pro : Nat := 0
  shards : SMap Nat := []
  complete : Bool := false
  /-- A stripe that cannot be rebuilt. -/
  unreadable : Bool := false
  /-- Blocks reserved. -/
  blocks : Nat := 0
  /-- It was freed and waits for its erase. -/
  freed : Bool := false
  deriving DecidableEq, Repr

/-- The weight copies of a partition: their states, the slots that back them, the live copy, and the slot of the image
that placed it. -/
structure Copies where
  a : Nat := 0
  b : Nat := 0
  slotA : Nat := 0
  slotB : Nat := 0
  sel : Nat := 0
  cold : Option Nat := none
  deriving DecidableEq, Repr

/-- Where the W2 connects for an image: Ethernet port, VLAN, address, TCP port, names, digests and I/O queues (R234). -/
structure NvmeTarget where
  port : Nat
  vlan : Option Nat
  v6 : Bool
  ip : Nat
  tcp : Nat
  subnqn : Nat
  hostnqn : Nat
  hdgst : Bool
  ddgst : Bool
  queues : Nat
  deriving DecidableEq, Repr

/-- The image load that runs (R231 to R241). -/
structure Load where
  part : Nat
  warm : Bool
  src : Nat
  reader : Nat
  /-- Copy that the load builds: 0 A, 1 B. -/
  copy : Nat
  /-- Image store slot that it fills. -/
  slot : Nat := 0
  /-- The prologue is accepted. -/
  placing : Bool := false
  /-- Shards accepted, in index order, and attempts that failed on the next one. -/
  got : Nat := 0
  tries : Nat := 0
  /-- Sections in file order that are not placed whole, and the file offset of the next record. -/
  secs : List (Nat × Nat × Nat × Nat × Nat) := []
  pos : Nat := 0
  /-- The partition's copies before a cold load. -/
  prev : Copies := {}
  /-- PART_CFG pages that it has written. -/
  cfg : List Nat := []
  /-- Every record is placed, and the plains whose epoch tick has made bank 0 live since (R231, step 3). -/
  placed : Bool := false
  zeroed : List Nat := []
  /-- Connection attempts that failed in a row (R234). -/
  conns : Nat := 0
  deriving DecidableEq, Repr

/-- A user block of the Chest (R321, R323): state 0 ERASED, 1 IN_USE, 2 BAD, 3 ERASE_UNKNOWN, 4 UNKNOWN. -/
structure UBlock where
  st : Nat := 4
  pslc : Bool := false
  next : Nat := 0
  /-- Erases, in tenths of a TLC erase (R327). -/
  wear : Nat := 0
  pages : SMap Nat := []
  /-- What a page without an entry holds is not known. -/
  lost : Bool := true
  deriving DecidableEq, Repr

/-- A user-zone descriptor performed and not yet written back (Table CH-4). -/
structure UDesc where
  index : Nat
  w1 : Nat
  addr : Nat
  /-- Word 3 as it will be written back. -/
  w3 : Nat
  deriving DecidableEq, Repr

/-- A selector word of the Keeper's NOR (15 "Keeper firmware"). -/
structure Sel where
  seq : Nat
  slot : Nat
  trial : Bool
  ok : Bool := true
  deriving DecidableEq, Repr

/-- The Chest and the NOR (chapter 15). -/
structure Chest where
  /-- Contents of the two backup slots. -/
  snaps : SMap Snap := []
  /-- Wear of the backup slots' blocks, in tenths. -/
  bwear : SMap Nat := []
  user : SMap UBlock := []
  ring : List UDesc := []
  /-- Ring index of the next descriptor to start. -/
  fetch : Nat := 0
  /-- Image store slots. -/
  imgs : SMap Stored := []
  /-- Channels that have stopped answering. -/
  dead : List Nat := []
  /-- Prologues of the firmware slots, and the selector sectors. -/
  fwPro : SMap Nat := []
  sels : SMap Sel := []
  /-- The update that runs: step of Table CH-6, 0 none; the image's prologue, its version; the target slot. -/
  fwStep : Nat := 0
  fwNew : Nat := 0
  fwVer : Nat := 0
  fwSlot : Nat := 0
  /-- Time of the restart that booted a slot on trial. -/
  trialFrom : Nat := 0
  /-- The slot that runs, and the supervisor's latch of a watchdog expiry as the cause of a restart (R329). -/
  fwRun : Nat := 0
  wdog : Bool := false
  deriving DecidableEq, Repr

/-- An SPDM request that the responder has in its subset (Table ID-1). [entry 97 PRESUMED] -/
inductive SpdmReply
  | discovery (index vendor type next : Nat)
  | version (l : List Nat)
  | capabilities
  | algorithms
  | digests (slotMask digest : Nat)
  | certificate (offset len remaining data : Nat)
  | challengeAuth (sig : Nat)
  | measurements (values : List (Nat × Nat)) (sig : Nat)
  | unsupported
  | busy
  | unexpected
  | invalid
  deriving DecidableEq, Repr

/-- The Keeper, the supply and the start. -/
structure Keeper where
  /-- Values of the fields that the Keeper keeps (Reset column K, and the fuses of SEC), by field key. -/
  nv : SMap Nat := []
  /-- Start: 0 OFF, 1 Keeper or control block starting, 2 control block up, 3 plains powering up, 4 passes trained, 5 edge
  memory trained, 6 K fields loaded, 7 READY. -/
  phase : Nat := 0
  /-- CAUSE of MOD.LAST_START, time from which the start runs, groups of plains powered, time of L0. -/
  cause : Nat := 0
  startAt : Nat := 0
  groups : Nat := 0
  l0At : Option Nat := none
  /-- Time of the last PERST# release. -/
  perstAt : Nat := 0
  /-- Benches were kept through this start (R365). -/
  benchKept : Bool := false
  /-- Supply: below 46 V; a dip below 42 V that was no power-fail, until the input has come back; above 58 V; the input is
  isolated. -/
  low : Bool := false
  dip : Bool := false
  overV : Bool := false
  isolated : Bool := false
  /-- Pack: fault condition, latch open. -/
  packBad : Bool := false
  latchOpen : Bool := false
  /-- The hardware backup sequencer has passed the self-test of this start (R294). -/
  seqOk : Bool := false
  /-- Power states: IDLE-HOLD, leaving IDLE-HOLD, BENCH-RETAIN, entering BENCH-RETAIN, HELD. -/
  idle : Bool := false
  idleExit : Bool := false
  bench : Bool := false
  benchEntry : Bool := false
  held : Bool := false
  /-- A reset that arrived during the entry to BENCH-RETAIN, with its CAUSE (R365). -/
  benchReset : Option Nat := none
  /-- Commands that wait for RUN, in order of arrival (R43, R362): partition and command, 7 for a function-level reset; 16 for
  IMG, with 0 for GO and 2 for ABORT. -/
  deferred : List (Nat × Nat) := []
  /-- Shelf entries recorded at the entry to BENCH-RETAIN: tile, handle, word 0, word 1 (R365). -/
  spilled : List (Nat × Nat × Nat × Nat) := []
  backup : Option Backup := none
  restore : Option Restore := none
  /-- A backup ended before its commit (R303), and its next start has yet to report it. -/
  torn : Bool := false
  load : Option Load := none
  /-- Partitions whose previous image is to be reloaded after a cold load that aborted, with the copies as they stood
  (R241). -/
  reloads : SMap Copies := []
  /-- Receiving modules that have yet to report, each with the slot that serves it, oldest first; the slot of the last load;
  resends by (slot × 2^32 + module) × 2^32 + shard (R239). -/
  peers : List (Nat × Nat) := []
  peerSlot : Nat := 0
  resends : SMap Nat := []
  /-- Slot of the image whose cold load placed each partition, plus 1. -/
  coldSlot : SMap Nat := []
  /-- Prologue of the image whose cold load placed each partition, and of the image that wrote each copy (n × 2 + copy),
  with its length in the low 32 bits (R372). -/
  coldPro : SMap Nat := []
  copyPro : SMap Nat := []
  /-- Image keys, X + 2^384 × Y, by slot (R375). -/
  imgKeys : SMap Nat := []
  /-- The wrapped Chest key does not unwrap (R315). -/
  foreign : Bool := false
  /-- JTAG: the live nonce and the time of its CHALLENGE, TRST# high, the instruction in the TAP (R376, R377, R389). -/
  nonce : Option (Nat × Nat) := none
  trst : Bool := false
  tap : TapInstr := .idcode
  /-- SPDM connection: 0 none, 1 version, 2 capabilities, 3 algorithms agreed (R371). -/
  spdm : Nat := 0
  /-- VIO is present; ALERT# is asserted (R381, R390). -/
  vio : Bool := false
  alert : Bool := false
  /-- Coolant conditions that stand (R393). -/
  flowBad : Bool := false
  hotInlet : Bool := false
  deriving DecidableEq, Repr
/-- What the part puts out. [entry 10 DESIGN CHOICE] -/
inductive Outp
  /-- An MSI-X message: function (0 PF0, k for VF k) and vector (R38). -/
  | irq (fn vec : Nat)
  /-- The data of a host register or aperture read. -/
  | rdata (v : Nat)
  /-- The data that a granted desk or bench read returns to its requester. -/
  | grant (t who data : Nat) (bad : Bool)
  /-- A write to host memory: bus address, length in bytes, data. -/
  | hostWrite (addr len data : Nat)
  /-- A flit or a replay request that a span port sends. -/
  | spanFlit (p seq ack payload : Nat)
  | spanReplayReq (p expected : Nat)
  /-- A trigger output is driven high or low (R260). -/
  | trigger (o : Nat) (high : Bool)
  /-- An LDP DATA datagram of an egress session, to the MAC address of its next hop, `len` bytes (Table PT-2). -/
  | ldp (eses hop len data : Nat)
  /-- A port asks for the MAC address of a next hop, by ARP or neighbour discovery (R269). -/
  | hopAsk (p : Nat) (v6 : Bool) (addr : Nat)
  /-- A port answers ARP, neighbour discovery or an echo by itself. -/
  | ethReply (p : Nat) (k : EthKind)
  /-- A function-level reset of VF k is reported complete (R40, R353). -/
  | flrDone (k : Nat)
  /-- A shard goes to a receiving module over the span links, or again as a targeted resend (R239). -/
  | peerPrologue (m : Nat)
  | peerShard (m shard : Nat)
  /-- A receiver asks its upstream module for a shard, and reports the outcome of its load (R239). -/
  | resendAsk (m shard : Nat)
  | loadReport (m : Nat) (ok : Bool)
  /-- The W2 reads host memory as PF0 bus master, connects to an NVMe/TCP controller, and reads blocks of a namespace there
  (R233, R234). -/
  | hostRead (addr len : Nat)
  | nvmeConnect (c : NvmeTarget)
  | nvmeRead (nsid lba blocks : Nat)
  /-- What the DOE mailbox answers (R371). -/
  | doe (r : SpdmReply)
  /-- The bytes of an SMBus Block Read, lowest first; an address answered; NACK (R390). -/
  | smbus (len data : Nat)
  | smbusAddr (a : Nat)
  | smbusNack
  /-- The TAP takes an instruction, or refuses it (R376). -/
  | tap (i : TapInstr) (taken : Bool)
  /-- The module powers down (Table RS-3). -/
  | off
  deriving DecidableEq, Repr

/-- The whole machine. -/
structure State where
  /-- Every register field, by `Fk.key`; an unlisted field reads its Reset column. -/
  fld : SMap Nat
  /-- Shadows of staged fields, listed where they differ from the live value (R47). -/
  shd : SMap Nat
  /-- RC counters captured by CNT_FREEZE (R32). -/
  cap : SMap Nat
  /-- Desk and bench bytes of tile t at t × 2^32 + local address, physical edge bytes at 2^60 + PA; an unlisted
  byte reads 0, as the start writes zeros (Table RS-2). -/
  mem : List Host.Cell
  /-- Aligned words known to hold an uncorrectable error, by key / 8. -/
  eccBad : SMap Unit
  /-- Time in ns, as the reference oscillator counts it (R242); module time is this plus `ptpOff` and what is slewed. -/
  time : Nat
  /-- Time up to which the clocks of the plains have been counted. [entry 3 DESIGN CHOICE] -/
  clockAt : Nat
  ptpOff : Int
  /-- Next hops resolved: MAC address by (address × 2 + IPv6) × 8 + port (R269); time up to which the shapers are refilled
  (R287). -/
  hops : SMap Nat
  shaperAt : Nat
  /-- Time of the last PTP message taken, the correction that is being slewed since, and its rate in ppm (R243). -/
  ptpLast : Nat
  ptpSlew : Int
  ptpRate : Nat
  tiles : SMap Tile
  plains : SMap Plain
  parts : SMap Part
  latches : SMap Latch
  /-- The latch epoch of PF0 (R55). -/
  pf0Epoch : Nat
  flits : List Flit
  credits : List Credit
  net : List Packet
  /-- The number of the last stream transfer to edge memory; the model's own. -/
  xferSeq : Nat
  spans : SMap Span
  applies : List Apply
  pcie : Pcie
  /-- Timebases, accepted levels of inputs TB0 to TB7, trigger outputs (chapter 12). -/
  tbs : SMap Tb
  levels : Nat
  outs : SMap Pulse
  /-- Sessions (chapter 13). -/
  ing : SMap Ingress
  egr : SMap Egress
  heldResets : List HeldReset
  /-- The Keeper, the Chest (chapters 11, 14, 15, 17, 18, 19). -/
  keeper : Keeper
  chest : Chest
  /-- Counter that free values are drawn with; the model's own. -/
  freeCtr : Nat
  /-- What the part has put out, newest first; the model's own record. -/
  out : List Outp
  /-- The commands that wait, first in first out; the model's own queue. -/
  pending : List Instr
  deriving DecidableEq, Repr

/-- What the Keeper of a module that has never started holds: a full pack, erased backup slots, intact journal copies and
Chest key, firmware in slot 0, fuses blown for delivery. DESIGN CHOICE: the spec gives no such values. [entry 14 DESIGN CHOICE] -/
def Keeper.fresh : Keeper :=
  { nv := ([(PWR_PACK_CAPACITY_J, 5645), (CHST_STATUS_KEY_OK, 1), (CHST_STATUS_JOURNAL_A_OK, 1), (CHST_STATUS_JOURNAL_B_OK, 1),
      (CHST_BSLOT_STRIPES 0, 65536), (CHST_BSLOT_STRIPES 1, 65536), (CHST_FW_SLOT_STATE 0, 2), (SEC_FUSE_STATE_JTAG_LOCK, 1),
      (SEC_FUSE_STATE_DEBUG_KEY_SET, 1)] : List (Fk × Nat)).foldl (fun m p => sins m p.1.key p.2) [] }

/-- The module without power: every register field at its Reset column, plains OFF, nothing in memory, no command waiting
(Table RS-3). [entries 6 DEDUCED, 11 DESIGN CHOICE] -/
def State.reset : State :=
  { fld := [], shd := [], cap := [], mem := [], eccBad := [], time := 0, clockAt := 0, ptpOff := 0, ptpLast := 0, ptpSlew := 0, ptpRate := 0, hops := [], shaperAt := 0, tiles := []
    plains := [], parts := [], latches := [], pf0Epoch := 0, flits := [], credits := [], net := [], xferSeq := 0, spans := [], applies := []
    pcie := {}, tbs := [], levels := 0, outs := [], ing := [], egr := [], heldResets := [], keeper := Keeper.fresh
    chest := { sels := [(0, { seq := 0, slot := 0, trial := false })] }, freeCtr := 0, out := [], pending := [] }

end Sys2Proof.Machine
end

