-- ==== Sys2Proof/Machine/Ops.lean ====
section
/-! DEFINITION. The named operations over the state: register fields, page headers, shadows, memory, tiles, plains
and partitions, interrupts, module time. Every meaning is written over these. -/

namespace Sys2Proof.Machine

/-! ### Register fields -/

/-- The live value of a register field. -/
def State.rf (s : State) (k : Fk) : Nat := sget (keyReset k.key) s.fld k.key

/-- A register field set to a value, clipped to its width. -/
def State.wf (s : State) (k : Fk) (v : Nat) : State :=
  { s with fld := sset (keyReset k.key) s.fld k.key (v % 2 ^ k.w) }

/-- A one-bit field as a Bool. -/
def State.rb (s : State) (k : Fk) : Bool := s.rf k == 1

/-- A counter advanced, wrapping at its width. -/
def State.bump (s : State) (k : Fk) (n : Nat := 1) : State := s.wf k (s.rf k + n)

/-- A counter advanced, saturating at its width. -/
def State.sat (s : State) (k : Fk) (n : Nat := 1) : State := s.wf k (min (s.rf k + n) (2 ^ k.w - 1))

/-- Register fields set in turn. -/
def State.wfs (s : State) (l : List (Fk × Nat)) : State := l.foldl (fun s p => s.wf p.1 p.2) s

/-- Every field of the pages from offset `a` up to `b` back at its Reset column. -/
def State.clearPages (s : State) (a b : Nat) : State :=
  { s with fld := sclear s.fld (a * 64) (b * 64), shd := sclear s.shd (a * 64) (b * 64),
           cap := sclear s.cap (a * 64) (b * 64) }

/-! ### Page headers (Tables CS-1 to CS-6, CS-13, CS-14, FL-2, FL-3) -/

def hCTRL_ENABLE (pg : Nat) : Fk := ⟨pg + 0x10, 0, 1⟩
def hCTRL_CNT_FREEZE (pg : Nat) : Fk := ⟨pg + 0x10, 1, 1⟩
def hCTRL_SHADOW_VIEW (pg : Nat) : Fk := ⟨pg + 0x10, 2, 1⟩
def hCTRL_STAGE_IRQ (pg : Nat) : Fk := ⟨pg + 0x10, 3, 1⟩
/-- BLOCK_CTRL, which every page holds as it is written; bit 0 of it is LATE_IRQ on PTT (12 "Registers"). -/
def hCTRL_BLOCK (pg : Nat) : Fk := ⟨pg + 0x10, 32, 32⟩
def hSTATUS_READY (pg : Nat) : Fk := ⟨pg + 0x18, 0, 1⟩
def hSTATUS_FAULT_VALID (pg : Nat) : Fk := ⟨pg + 0x18, 1, 1⟩
def hFIRST_CODE (pg : Nat) : Fk := ⟨pg + 0x20, 0, 16⟩
def hFIRST_REACT (pg : Nat) : Fk := ⟨pg + 0x20, 16, 4⟩
def hFIRST_TIME (pg : Nat) : Fk := ⟨pg + 0x20, 20, 44⟩
def hMORE_COUNT (pg : Nat) : Fk := ⟨pg + 0x28, 0, 16⟩
def hMORE_POS (pg : Nat) : Fk := ⟨pg + 0x28, 16, 40⟩
def hMORE_TB (pg : Nat) : Fk := ⟨pg + 0x28, 56, 3⟩
def hMORE_POS_VALID (pg : Nat) : Fk := ⟨pg + 0x28, 59, 1⟩
def hMORE_OVERFLOW (pg : Nat) : Fk := ⟨pg + 0x28, 63, 1⟩
/-- FAULT_MASK: bits 11:0. -/
def hMASK (pg : Nat) : Fk := ⟨pg + 0x30, 0, 12⟩
/-- FAULT_REACT, the field of class `c` (R343). -/
def hREACT (pg c : Nat) : Fk := ⟨pg + 0x38, 4 * c, 4⟩
def hSTAGE_GROUP (pg : Nat) : Fk := ⟨pg + 0x40, 0, 4⟩
def hSTAGE_PART (pg : Nat) : Fk := ⟨pg + 0x40, 4, 4⟩
/-- COMMIT, which reads 1 while the page is ARMED. -/
def hSTAGE_ARMED (pg : Nat) : Fk := ⟨pg + 0x40, 8, 1⟩
def hST_APPLIED (pg : Nat) : Fk := ⟨pg + 0x48, 3, 1⟩
def hST_REFUSED (pg : Nat) : Fk := ⟨pg + 0x48, 4, 1⟩
def hST_REASON (pg : Nat) : Fk := ⟨pg + 0x48, 5, 3⟩
def hST_APPLY_COUNT (pg : Nat) : Fk := ⟨pg + 0x48, 16, 16⟩

/-- The least and the most severe reaction that a class permits (Table FL-5). -/
def reactRange (c : Nat) : Nat × Nat := if c = 0 then (0, 1) else if c = 7 ∨ c = 9 ∨ c = 10 then (1, 8) else (0, 8)

/-- PAGE_CAPS.HAS_STAGED (Table CS-4): the pages with staged fields. -/
def hasStaged : PageKind → Bool
  | .part | .mesh | .pstl | .img | .tbs | .ptt | .pept | .pks | .ses => true
  | _ => false

/-- PAGE_CAPS.HAS_FAULT (Table CS-4): the pages that Table FL-1 names as sources, with PFLT, PQ, PSW and FLT. -/
def hasFault : PageKind → Bool
  | .hst | .flt | .pwr | .keep | .chst | .tbs | .img | .edge | .prt | .spn | .pln | .mesh | .repr | .drp
  | .part | .pq | .ptt | .plg | .psw | .pstl | .pstr | .pks | .pflt | .tile => true
  | _ => false

/-- Whether the page is a partition page (VF_VISIBLE). -/
def isPartPage : PageKind → Bool
  | .part | .pq | .ptt | .plg | .psw | .pstl | .pstr | .pept | .pks | .pflt => true
  | _ => false

/-- PAGE_ID.BLOCK (Table CS-3). -/
def blockCode : PageKind → Nat
  | .mod => 0x1 | .hst => 0x2 | .flt => 0x3 | .pwr => 0x4 | .keep => 0x5 | .chst => 0x6 | .sec => 0x7 | .tbs => 0x8
  | .lat => 0x9 | .img => 0xA | .edge => 0xB | .ldg => 0xC | .prt => 0x10 | .spn => 0x11 | .ses => 0x12
  | .pln => 0x20 | .mesh => 0x21 | .repr => 0x22 | .drp => 0x23 | .part => 0x30 | .pq => 0x31 | .ptt => 0x32
  | .plg => 0x33 | .psw => 0x34 | .pstl => 0x35 | .pstr => 0x36 | .pept => 0x37 | .pks => 0x38 | .pflt => 0x39
  | .tile => 0x40

/-- The first offset of the page that an offset lies in. -/
def pageBase (off : Nat) : Nat := off / 0x1000 * 0x1000

/-- Offsets of the module pages. -/
def pgMOD : Nat := 0x0
def pgHST : Nat := 0x1000
def pgFLT : Nat := 0x2000
def pgPWR : Nat := 0x3000
def pgKEEP : Nat := 0x4000
def pgCHST : Nat := 0x5000
def pgSEC : Nat := 0x6000
def pgTBS : Nat := 0x7000
def pgLAT : Nat := 0x8000
def pgIMG : Nat := 0x9000
def pgEDGE : Nat := 0xA000
def pgLDG : Nat := 0xB000
def pgPRT (p : Nat) : Nat := 0x10000 + p * 0x1000
def pgSPN (p : Nat) : Nat := 0x18000 + p * 0x1000
def pgSES : Nat := 0x100000

/-! ### Shadows (R47) -/

/-- The shadow of a staged field. -/
def State.sh (s : State) (k : Fk) : Nat := (sget? s.shd k.key).getD (s.rf k)

/-- A field of a page has been captured by a seam whose apply is in progress: its live value is about to change (R51). -/
def State.captured (s : State) (key : Nat) : Bool :=
  s.applies.any fun a => a.pages.any fun p => (sget? p.2 key).isSome

/-- The shadow of a staged field set; listed where it differs from the live value, and in any case while a captured value
is to take the live value's place, so that the write outlasts the apply (R51). -/
def State.wsh (s : State) (k : Fk) (v : Nat) : State :=
  { s with shd := if s.captured k.key then sins s.shd k.key (v % 2 ^ k.w) else sset (s.rf k) s.shd k.key (v % 2 ^ k.w) }

/-- A staged field set live and in its shadow. -/
def State.wboth (s : State) (k : Fk) (v : Nat) : State :=
  { s.wf k v with shd := sdel (s.wf k v).shd k.key }

/-! ### The Keeper and the Chest -/

def State.updKeeper (s : State) (f : Keeper → Keeper) : State := { s with keeper := f s.keeper }
def State.updChest (s : State) (f : Chest → Chest) : State := { s with chest := f s.chest }

/-! ### Tiles, plains, partitions -/

def tileX (t : Nat) : Nat := t % 512
def tileY (t : Nat) : Nat := t / 512
/-- The tile at a logical column and row. -/
def tileAt (x y : Nat) : Nat := y * 512 + x
/-- The plain of a logical tile (01 "Grid"). -/
def plainOf (t : Nat) : Nat := (tileY t / 64) * 8 + tileX t / 64
/-- Local column and row of a logical tile in its plain. -/
def localX (t : Nat) : Nat := tileX t % 64
def localY (t : Nat) : Nat := tileY t % 64
/-- The logical tile of a plain at a local column and row. -/
def tileIn (p lx ly : Nat) : Nat := tileAt (p % 8 * 64 + lx) (p / 8 * 64 + ly)

/-- The logical tiles of a plain. -/
def tilesOf (p : Nat) : List Nat := (List.range 4096).map fun i => tileIn p (i % 64) (i / 64)

/-- [entry 15 DESIGN CHOICE] -/
def Tile.reset : Tile := {}
def State.tile (s : State) (t : Nat) : Tile := sget Tile.reset s.tiles t
def State.setTile (s : State) (t : Nat) (x : Tile) : State := { s with tiles := sset Tile.reset s.tiles t x }
def State.updTile (s : State) (t : Nat) (f : Tile → Tile) : State := s.setTile t (f (s.tile t))

def State.plain (s : State) (p : Nat) : Plain := sget {} s.plains p
def State.setPlain (s : State) (p : Nat) (x : Plain) : State := { s with plains := sset {} s.plains p x }
def State.updPlain (s : State) (p : Nat) (f : Plain → Plain) : State := s.setPlain p (f (s.plain p))

def State.part (s : State) (n : Nat) : Part := sget {} s.parts n
def State.setPart (s : State) (n : Nat) (x : Part) : State := { s with parts := sset {} s.parts n x }
def State.updPart (s : State) (n : Nat) (f : Part → Part) : State := s.setPart n (f (s.part n))

/-- STRETCH_US counts the time at step 1 or above, up to now. [entry 90 DEDUCED] -/
def State.stretchTo (s : State) (p : Nat) : State :=
  if s.rf (DRP_STATUS_STEP p) = 0 then s
  else
    let us := (s.time - (s.plain p).stretchAt) / 1000
    (s.bump (DRP_STRETCH_US_TIME p) us).updPlain p fun q => { q with stretchAt := q.stretchAt + us * 1000 }

/-- Whether partition `n`'s live geometry holds plain `p` (R42). -/
def State.geomHas (s : State) (n p : Nat) : Bool :=
  let x0 := s.rf (PART_GEOM_X0 n); let y0 := s.rf (PART_GEOM_Y0 n)
  decide (x0 ≤ p % 8) && decide (p % 8 < x0 + s.rf (PART_GEOM_W n)) &&
    decide (y0 ≤ p / 8) && decide (p / 8 < y0 + s.rf (PART_GEOM_H n))

/-- The partition that owns a plain. -/
def State.plainPart (s : State) (p : Nat) : Option Nat := (List.range 16).find? fun n => s.geomHas n p
/-- The partition that owns a tile. -/
def State.tilePart (s : State) (t : Nat) : Option Nat := s.plainPart (plainOf t)
/-- The plains of a partition. -/
def State.plainsOf (s : State) (n : Nat) : List Nat := (List.range 64).filter (s.geomHas n)
/-- Whether the partition is empty. -/
def State.emptyGeom (s : State) (n : Nat) : Bool := s.rf (PART_GEOM_W n) == 0 || s.rf (PART_GEOM_H n) == 0

/-- Partition states (Table CS-11). -/
def psEMPTY : Nat := 0
def psSTOPPED : Nat := 1
def psRUNNING : Nat := 2
def psDRAINING : Nat := 3
def psDRAINED : Nat := 4
def psPAUSED : Nat := 5
def psFAULTED : Nat := 6
def psDEGRADED : Nat := 7
def psRESETTING : Nat := 8
def psRESTORING : Nat := 9

def State.pst (s : State) (n : Nat) : Nat := s.rf (PART_STATE_STATE n)

/-- EMPTY, STOPPED or DRAINED: the states in which drain-required changes are taken. -/
def State.quietPart (s : State) (n : Nat) : Bool :=
  let st := s.pst n
  st == psEMPTY || st == psSTOPPED || st == psDRAINED

/-- Every partition is EMPTY, STOPPED or DRAINED. -/
def State.allQuiet (s : State) : Bool := (List.range 16).all s.quietPart

/-- PLN.STATE.STATE. -/
def State.plnState (s : State) (p : Nat) : Nat := s.rf (PLN_STATE_STATE p)

/-- The stall watch of a partition is frozen (R177). -/
def State.watchFrozen (s : State) (n : Nat) : Bool :=
  !(s.pst n == psRUNNING || s.pst n == psDEGRADED) || (List.range 64).any (fun p => s.plnState p == 1) ||
    decide (0 < s.rf (PSTR_HALTED_COUNT n))

/-- Time that the stall watch has counted since the last firing (R177). -/
def State.quietNs (s : State) (n : Nat) : Nat :=
  (s.part n).quiet + (match (s.part n).watchFrom with
    | some a => s.time - a
    | none => 0)

/-- The stall watch stops where it has become frozen and counts on where it no longer is; neither loses or adds a moment (R177). -/
def State.watchSync (s : State) (n : Nat) : State :=
  match (s.part n).watchFrom, s.watchFrozen n with
  | some _, true => s.updPart n fun q => { q with quiet := s.quietNs n, watchFrom := none }
  | none, false => s.updPart n fun q => { q with watchFrom := some s.time }
  | _, _ => s

/-- The stall watch counts from now: a task fired, or a deadlock was declared (R177, Table FB-3). -/
def State.watchRestart (s : State) (n : Nat) : State :=
  s.updPart n fun q => { q with quiet := 0, watchFrom := q.watchFrom.map fun _ => s.time }

/-- The stall watches of all partitions follow a plain that has paused or resumed. -/
def State.watchSyncAll (s : State) : State := (List.range 16).foldl State.watchSync s

/-- A partition enters a state; DRAIN_DONE follows (R45). -/
def State.setPst (s : State) (n st : Nat) : State :=
  ((s.wf (PART_STATE_STATE n) st).wf (PART_STATE_DRAIN_DONE n)
    (b2n (st == psEMPTY || st == psSTOPPED || st == psDRAINED))).watchSync n

/-- A tile is fenced when its bit is set in PLN.FENCED. -/
def State.fenced (s : State) (t : Nat) : Bool :=
  (s.rf (PLN_FENCED (plainOf t) (localY t))).testBit (localX t)
/-- The fence level of a plain: PLN.STATE, or that to which a paused plain returns. -/
def State.plnLevel (s : State) (p : Nat) : Nat :=
  if s.plnState p = 1 then ((s.plain p).repair.map (·.back)).getD 0 else s.plnState p
/-- The plain across edge `e` (0 N, 1 E, 2 S, 3 W). -/
def acrossEdge (p e : Nat) : Option Nat :=
  match e with
  | 0 => if 8 ≤ p then some (p - 8) else none
  | 1 => if p % 8 < 7 then some (p + 1) else none
  | 2 => if p < 56 then some (p + 8) else none
  | _ => if 0 < p % 8 then some (p - 1) else none

/-- A plain is quiescing or paused for a re-spare (Table RP-2, steps 3 to 6), so that credits and packets that would take
traffic into it are withheld (R76, R176). -/
def State.pausing (s : State) (p : Nat) : Bool :=
  s.plnState p == 1 || (match (s.plain p).repair with
    | some r => r.phase == 2
    | none => false)

/-- Mesh cycles of a plain since round 0, at its own count (R158). -/
def State.meshAt (s : State) (p : Nat) : Nat := s.rf (MESH_ROUND_COUNT p) * 32 + (s.plain p).meshSub

/-- The plain's clocks run: it is ACTIVE or compute-fenced, and neither gated nor before its passes are trained. -/
def State.clocked (s : State) (p : Nat) : Bool :=
  (s.plnState p == 0 || s.plnState p == 2) && !decide (2 ≤ s.rf PWR_STATUS_STATE) && decide (4 ≤ s.keeper.phase)

/-- The neighbours that gate a plain: clocked plains of its partition beside it (R159, R160). -/
def State.gates (s : State) (p : Nat) : List Nat :=
  ((List.range 4).filterMap (acrossEdge p)).filter fun r =>
    s.clocked r && (s.plainPart p).isSome && s.plainPart r == s.plainPart p

/-! ### Maps of a plain (R61 to R65) -/

def PMap.rowRetired (m : PMap) (r : Nat) : Bool := m.retired.any (·.col == r)
def PMap.bypOf (m : PMap) (r : Nat) : List Byp := sget [] m.byp r
def PMap.bypassed (m : PMap) (r c : Nat) : Bool := (m.bypOf r).any (·.col == c)
/-- Physical rows that carry logical rows, north to south (R61). -/
def PMap.rows (m : PMap) : List Nat := ((List.range 66).filter fun r => !m.rowRetired r).take 64
/-- Sites of a physical row that carry logical columns, west to east (R62). -/
def PMap.cols (m : PMap) (r : Nat) : List Nat := ((List.range 66).filter fun c => !m.bypassed r c).take 64
/-- A physical row carries a logical row. -/
def PMap.mapped (m : PMap) (r : Nat) : Bool := m.rows.contains r
/-- The physical site (column, row) of local logical position (i, j). -/
def PMap.site (m : PMap) (i j : Nat) : Nat × Nat :=
  let r := m.rows.getD j 0
  ((m.cols r).getD i 0, r)
/-- The logical position carried by a physical site, if any. -/
def PMap.logical (m : PMap) (c r : Nat) : Option (Nat × Nat) :=
  match m.rows.idxOf? r with
  | some j => ((m.cols r).idxOf? c).map fun i => (i, j)
  | none => none
/-- Spare sites of the plain (R65). -/
def PMap.spareSites (m : PMap) : Nat := (m.rows.map fun r => 2 - (m.bypOf r).length).sum
/-- Spare rows of the plain (R65). -/
def PMap.spareRows (m : PMap) : Nat := 2 - m.retired.length

/-- A map with a bypass, or a retirement, made in the field. -/
def PMap.addByp (m : PMap) (c r : Nat) : PMap :=
  let l := m.bypOf r
  let b : Byp := { col := c, field := true }
  { m with byp := sset [] m.byp r ((l.filter fun x => decide (x.col < c)) ++ b :: l.filter fun x => decide (c < x.col)) }
def PMap.addRetired (m : PMap) (r : Nat) : PMap := { m with retired := m.retired ++ [{ col := r, field := true }] }

/-- The physical site (column, row) of a logical tile. -/
def State.siteOf (s : State) (t : Nat) : Nat × Nat := (s.plain (plainOf t)).map.site (localX t) (localY t)

/-- A plain is compute-fenced or full-fenced (R71). -/
def State.plainFenced (s : State) (p : Nat) : Bool := s.plnLevel p == 2 || s.plnLevel p == 3
/-- A partition has a fenced plain, or a suspended route (R175). -/
def State.partImpaired (s : State) (n : Nat) : Bool :=
  (s.plainsOf n).any s.plainFenced || (s.part n).routeSusp

/-- The module is in IDLE-HOLD, BENCH-RETAIN or HELD: plain clocks gated or off (Table RS-3). -/
def State.gated (s : State) : Bool := decide (2 ≤ s.rf PWR_STATUS_STATE)

/-- A backup runs: nothing new starts and timebases stand (R301). -/
def State.frozen (s : State) : Bool := s.rb MOD_STATUS_BACKUP_ACTIVE

/-- The tile is powered and clocked: its plain is ACTIVE, and it is not fenced (Table RP-1, Table RS-3). -/
def State.tileOn (s : State) (t : Nat) : Bool :=
  s.plnState (plainOf t) == 0 && !s.fenced t && !s.gated

/-- The tile's core, matrix unit and streams run: it is on, and no backup has stopped it (R301). -/
def State.tileLive (s : State) (t : Nat) : Bool := s.tileOn t && !s.frozen

/-- The clock of a tile's memories runs: its plain is neither PAUSED, full-fenced nor OFF, and is clocked. -/
def State.memClocked (s : State) (t : Nat) : Bool :=
  (s.plnState (plainOf t) == 0 || s.plnState (plainOf t) == 2) && !s.gated

/-- The tile's router runs: the plain is neither PAUSED, full-fenced nor OFF, and is clocked. -/
def State.routerLive (s : State) (t : Nat) : Bool :=
  (s.plnState (plainOf t) == 0 || s.plnState (plainOf t) == 2) && !s.gated && !(s.tile t).routerBad

/-- Tasks fire in the partition: RUNNING, DEGRADED, DRAINING or DRAINED (Table CS-11). [entry 28 DEDUCED] -/
def State.tasksFire (s : State) (n : Nat) : Bool :=
  let st := s.pst n
  st == psRUNNING || st == psDEGRADED || st == psDRAINING || st == psDRAINED

/-- The module number (R22). -/
def State.modNum (s : State) : Nat := s.rf (SPN_NODE_MODULE 0)

/-- A backup runs, or a partition is RESTORING: no reaction above INTERRUPT (R346). -/
def State.holdReact (s : State) : Bool :=
  s.rb MOD_STATUS_BACKUP_ACTIVE || (List.range 16).any fun n => s.pst n == psRESTORING

/-! ### Emissions and interrupts -/

/-- [entry 10 DESIGN CHOICE] -/
def State.emit (s : State) (o : Outp) : State := { s with out := o :: s.out }

/-- The PF0 vector of a page (Table CS-9); the VF vector of a partition page is `partVector`. -/
def pf0Vector (kd : PageKind) (inst : Nat) : Nat :=
  match kd with
  | .flt => 0 | .pwr | .keep => 1 | .chst => 2 | .img => 3 | .tbs => 4 | .ldg => 5 | .lat => 6
  | .mod | .hst | .sec | .edge => 7
  | .prt => 8 + inst | .spn => 16 + inst
  | .pln | .mesh | .repr | .drp => 22 + inst / 8
  | .ses => 63
  | _ => 32 + inst

/-- The VF vector of a partition page (Table CS-10); PQ gives its first (R39). -/
def partVector : PageKind → Nat
  | .part => 0 | .pflt => 1 | .pq => 2 | .ptt => 18 | .plg => 19 | .psw => 20 | .pstl => 21 | .pstr => 22
  | .pept => 23 | _ => 24

/-- An interrupt of partition `n`: to the VF vector while VF n + 1 exists with MSI-X enabled, else to the PF0
summary vector (R38). -/
def State.irqPart (s : State) (n vec : Nat) : State :=
  if n + 1 ≤ s.pcie.numVfs ∧ n + 1 ∈ s.pcie.vfMsix then s.emit (.irq (n + 1) vec) else s.emit (.irq 0 (32 + n))

/-- The interrupt of a page (R38). Tables CS-9 and CS-10 name no vector for a tile page or for SES, so none goes out
for them. -/
def State.irqPage (s : State) (pg : Nat) : State :=
  match pageAt pg with
  | some (.tile, _, _) => s
  | some (.ses, _, _) => s
  | some (kd, inst, _) => if isPartPage kd then s.irqPart inst (partVector kd) else s.emit (.irq 0 (pf0Vector kd inst))
  | none => s

/-! ### Module time -/

/-- Time becomes the moment at which an event occurs; it never steps back. [entry 65 DEDUCED] -/
def State.at (s : State) (t : Nat) : State := { s with time := max s.time t }

/-- What is slewed of an offset at a time: at the rate of the servo, at most 500 ppm (R243). [entry 64 DEDUCED] -/
def State.ptpCorr (s : State) (t : Nat) : Int :=
  let c : Int := (min s.ptpSlew.natAbs ((t - s.ptpLast) * s.ptpRate / 1000000) : Nat)
  if s.ptpSlew < 0 then -c else c

/-- Module time, before it wraps, at a time of the reference oscillator (R242, R243). -/
def State.mtimeInt (s : State) (t : Nat) : Int := (t : Int) + s.ptpOff + s.ptpCorr t
def State.mtimeAt (s : State) (t : Nat) : Nat := (s.mtimeInt t).toNat % 2 ^ 64
/-- Module time now. -/
def State.mtime (s : State) : Nat := s.mtimeAt s.time

/-- The slew ends with what it has corrected so far. -/
def State.ptpSettle (s : State) : State :=
  { s with ptpOff := s.ptpOff + s.ptpCorr s.time, ptpLast := s.time, ptpSlew := 0, ptpRate := 0 }

/-! ### Free values -/

/-- A fresh free value of `w` bits: an uninterpreted constant of Config at a counter that the draw advances. [entry 9 DESIGN CHOICE] -/
def State.draw (s : State) (w : Nat) : Nat × State :=
  (Config.freeValue s.freeCtr % 2 ^ w, { s with freeCtr := s.freeCtr + 1 })

/-! ### Memory -/

/-- The memory key of a tile-local address. -/
def tkey (t a : Nat) : Nat := t * 0x100000000 + a
/-- The memory key of a physical edge byte. -/
def ekey (pa : Nat) : Nat := 2 ^ 60 + pa

/-- One byte of memory; an unlisted byte is zero, as the start leaves it (Table RS-2). [entry 11 DESIGN CHOICE] -/
def State.byte (s : State) (k : Nat) : Byte := sget 0 s.mem k

/-- `n` bytes from a key, little-endian. -/
def State.rdMem (s : State) : Nat → Nat → Nat
  | _, 0 => 0
  | k, n + 1 => (s.byte k).toNat + 256 * s.rdMem (k + 1) n

/-- The memory with `n` bytes from a key set to a little-endian value. -/
def memWr : List Host.Cell → Nat → Nat → Nat → List Host.Cell
  | m, _, 0, _ => m
  | m, k, n + 1, v => memWr (sset 0 m k (BitVec.ofNat 8 v)) (k + 1) n (v / 256)

/-- `n` bytes from a key set; a write of a whole aligned word ends the error mark of that word. -/
def State.wrMem (s : State) (k n v : Nat) : State :=
  { s with mem := memWr s.mem k n v,
           eccBad := s.eccBad.filter fun e => !(decide (k ≤ e.1 * 8) && decide (e.1 * 8 + 8 ≤ k + n)) }

/-- The aligned words that `n` bytes from a key touch. -/
def wordsOf (k n : Nat) : List Nat := (List.range ((k % 8 + n + 7) / 8)).map (k / 8 + ·)

/-- A word among them is known to hold an uncorrectable error. -/
def State.hasBad (s : State) (k n : Nat) : Bool := (wordsOf k n).any fun w => (sget? s.eccBad w).isSome

/-- The key at which the first word of a range that holds an uncorrectable error starts; that of the range where none
does. -/
def State.firstBad (s : State) (k n : Nat) : Nat :=
  match (wordsOf k n).find? fun w => (sget? s.eccBad w).isSome with
  | some w => 8 * w
  | none => k

/-- The first word of a range marked uncorrectable. -/
def State.markBad (s : State) (k : Nat) : State := { s with eccBad := sins s.eccBad (k / 8) () }

/-- The outcome of a read's check: the error marks of memory, joined with what the array gives now. -/
def State.eccOf (s : State) (k n : Nat) (e : Ecc) : Ecc := if s.hasBad k n then .bad else e

/-- Memory in its canonical form: keys strictly rising, and no byte equal to what an unlisted key reads as. -/
def Memory.wf (m : List Host.Cell) : Bool := risesFrom 0 m && m.all fun c => c.2 != 0

/-! ### The tile-local map (Table MD-9) -/

/-- The ranges of the tile-local map. -/
inductive Area | desk | shelf | page | bench | spill | none
  deriving DecidableEq, Repr

/-- The range that a tile-local address lies in. -/
def areaOf (a : Nat) : Area :=
  if a < 0xC000 then .desk
  else if 0x100000 ≤ a ∧ a < 0x100400 then .shelf
  else if 0x200000 ≤ a ∧ a < 0x201000 then .page
  else if 0x40000000 ≤ a ∧ a < 0x403F0000 then .bench
  else if 0x403F0000 ≤ a ∧ a < 0x40400000 then .spill
  else .none

/-- The memory key of a bench row. -/
def rowKey (t r : Nat) : Nat := tkey t (0x40000000 + r * 0x800)

/-! ### Latches (R54, R55) -/

def State.latch (s : State) (k : Nat) : Latch := sget {} s.latches k
def State.setLatch (s : State) (k : Nat) (l : Latch) : State := { s with latches := sset {} s.latches k l }

/-- Every held latch that satisfies a test becomes BROKEN (R55) (R56). -/
def State.breakLatches (s : State) (p : Latch → Bool) : State :=
  { s with latches := s.latches.map fun e => if e.2.st == 1 && p e.2 then (e.1, { e.2 with st := 2 }) else e }

/-- PF0's epoch advances (R55). -/
def State.epochPf0 (s : State) : State :=
  ({ s with pf0Epoch := (s.pf0Epoch + 1) % 65536 } : State).breakLatches fun l => l.kind == 1

/-- A partition's epoch advances (R46, R55). -/
def State.epochPart (s : State) (n : Nat) : State :=
  (s.bump (PART_EPOCH_EPOCH n)).breakLatches fun l => l.kind == 2 && l.part == n

/-- A tile's epoch advances (R55). [entry 63 DEDUCED] -/
def State.epochTile (s : State) (t : Nat) : State :=
  (s.bump (TILE_EPOCH_EPOCH t)).breakLatches fun l => l.kind == 3 && l.x == tileX t && l.y == tileY t

/-! ### Positions (R244, R245, R247) -/

def State.tb (s : State) (n : Nat) : Tb := sget {} s.tbs n
def State.setTb (s : State) (n : Nat) (x : Tb) : State := { s with tbs := sset {} s.tbs n x }

/-- A position that has saturated at its limits (R244). -/
def posClip (v : Int) : Int := max (-(2 ^ 47)) (min (2 ^ 47 - 1) v)

/-- VELOCITY of a timebase, position units per second (R249). [entry 67 DEDUCED] -/
def State.tbVel (s : State) (n : Nat) : Int := toSigned (s.rf (TBS_TB_VEL_VELOCITY n)) 64

/-- The position of a timebase before it saturates: interpolated between edges, counted from module time in mode 5, or
coasted for at most COAST_MS (R245, R247, R253). -/
def State.tbRaw (s : State) (n : Nat) : Int :=
  let x := s.tb n
  let st := s.rf (TBS_TB_STATUS_STATE n)
  let e := s.time - x.base
  if s.frozen then x.pos
  else if st = 2 then x.pos + x.coastVel * (min e (s.rf (TBS_TB_LOSS_COAST_MS n) * 1000000) : Nat) / 1000000000
  else if st ≠ 1 then x.pos
  else if s.rf (TBS_TB_CFG_MODE n) = 5 then
    x.pos + (s.mtimeInt s.time - x.baseM) * s.rf (TBS_TB_RATE_RATE n) / 1000000000
  else if x.same ∧ x.gapNs ≠ 0 ∧ e ≤ 4 * x.gapNs then
    let m := x.step.natAbs * min (e * 256) (255 * x.gapNs) / (256 * x.gapNs)
    if x.step < 0 then x.pos - m else x.pos + m
  else x.pos

/-- The position of a timebase. -/
def State.tbPos (s : State) (n : Nat) : Int := posClip (s.tbRaw n)

/-- One of the conditions that make a later LATE verdict SLOWED has begun in some partitions (R263). -/
def State.markSlowed (s : State) (ps : List Nat) : State :=
  ps.foldl (fun s n => s.updPart n fun p =>
    { p with items := p.items.map fun i => if i.job.isSome then { i with slowed := true } else i }) s

/-! ### Small helpers -/

/-- A fold over a list of numbers. -/
def State.forEach (s : State) (l : List Nat) (f : State → Nat → State) : State := l.foldl f s

/-- The list without its `i`-th member. -/
def eraseAt {α : Type} (l : List α) (i : Nat) : List α := l.take i ++ l.drop (i + 1)

/-- The list with its `i`-th member changed. -/
def modifyAt {α : Type} (l : List α) (i : Nat) (f : α → α) : List α :=
  match l[i]? with
  | some x => l.take i ++ f x :: l.drop (i + 1)
  | none => l

end Sys2Proof.Machine
end

