-- ==== Sys2Proof/Machine/Copies.lean ====
section
/-! DEFINITION. The weight copies of a partition, the image store slots that back them, and how a load ends (11 R237, R238,
R239, R241). A full fence ends a load, so these come before the fences. -/

namespace Sys2Proof.Machine

/-- The state of a weight copy, and the slot that backs it. -/
def State.copyState (s : State) (n c : Nat) : Nat := if c = 0 then s.rf (IMG_PCOPY_A_STATE n) else s.rf (IMG_PCOPY_B_STATE n)
def State.copySlot (s : State) (n c : Nat) : Nat := if c = 0 then s.rf (IMG_PCOPY_A_SLOT n) else s.rf (IMG_PCOPY_B_SLOT n)
def copyStateK (n c : Nat) : Fk := if c = 0 then IMG_PCOPY_A_STATE n else IMG_PCOPY_B_STATE n
def copySlotK (n c : Nat) : Fk := if c = 0 then IMG_PCOPY_A_SLOT n else IMG_PCOPY_B_SLOT n
/-- The live copy selector of a partition. -/
def State.copyLive (s : State) (n : Nat) : Nat := bits (s.rf IMG_COPY_SEL_SEL) n 1
/-- A partition has a live image (R43). -/
def State.hasImage (s : State) (n : Nat) : Bool := s.copyState n (s.copyLive n) == 3
/-- A cold load of the partition runs (R231). -/
def State.coldLoading (s : State) (n : Nat) : Bool :=
  match s.keeper.load with
  | some l => !l.warm && l.part == n
  | none => false

/-- The copies of a partition. -/
def State.copies (s : State) (n : Nat) : Copies :=
  { a := s.copyState n 0, b := s.copyState n 1, slotA := s.copySlot n 0, slotB := s.copySlot n 1, sel := s.copyLive n
    cold := (sget? s.keeper.coldSlot n).map (· - 1) }

/-- The live copy selector of a partition set directly, without staging. -/
def State.setSel (s : State) (n c : Nat) : State :=
  let put := fun v => v - bits v n 1 * 2 ^ n + c % 2 * 2 ^ n
  let sh := s.sh IMG_COPY_SEL_SEL
  (s.wf IMG_COPY_SEL_SEL (put (s.rf IMG_COPY_SEL_SEL))).wsh IMG_COPY_SEL_SEL (put sh)

/-- The slot of the image that placed a partition. [entry 93 DEDUCED] -/
def State.setCold (s : State) (n : Nat) (k : Option Nat) : State :=
  s.updKeeper fun x => { x with coldSlot := match k with
    | some v => sins x.coldSlot n (v + 1)
    | none => sdel x.coldSlot n }

/-- The slots that an image before a cold load rests on. -/
def Copies.slots (c : Copies) : List Nat := c.cold.toList ++ [c.slotA, c.slotB]

/-- A slot backs a copy of some partition (R237), or a load, a reload or a peer still needs it. -/
def State.slotUsed (s : State) (k : Nat) : Bool :=
  ((List.range 16).any fun n =>
    (List.range 2).any (fun c => (s.copyState n c == 2 || s.copyState n c == 3) && s.copySlot n c == k)) ||
  (match s.keeper.load with
   | some l => l.slot == k || (!l.warm && l.placing && l.prev.slots.contains k)
   | none => false) ||
  (s.keeper.reloads.any fun (e : Nat × Copies) => e.2.slots.contains k) || s.keeper.peers.any (·.2 == k)

/-- Slots that back nothing any more are freed (R237); their blocks wait for the erase (R320). -/
def State.freeSlots (s : State) : State :=
  (s.updChest fun x => { x with imgs := x.imgs.map fun e => if s.slotUsed e.1 then e else (e.1, { e.2 with freed := true }) }).updKeeper
    fun x => { x with coldSlot := x.coldSlot.filter fun (e : Nat × Nat) => s.slotUsed (e.2 - 1) }

/-- The copies of a partition put back as they stood, which a backup leaves to the restore. -/
def State.putCopies (s : State) (n : Nat) (c : Copies) : State :=
  (((s.wfs [(IMG_PCOPY_A_STATE n, c.a), (IMG_PCOPY_B_STATE n, c.b), (IMG_PCOPY_A_SLOT n, c.slotA),
    (IMG_PCOPY_B_SLOT n, c.slotB)]).setSel n c.sel).setCold n c.cold)

/-- A load that was received from another module reports its outcome there (R239). -/
def State.loadReport (s : State) (l : Load) (ok : Bool) : State :=
  if l.src = 2 then s.emit (.loadReport (s.rf IMG_SPAN_FROM_MODULE) ok) else s

/-- A load ends with an abort code (R236, R237, R241): the copy of a warm load is INVALID, and after a cold load the previous
image is to be reloaded, or nothing is left. The fault and the interrupt are the caller's. [entry 93 DEDUCED] -/
def State.imgEnd (s : State) (l : Load) (code : Nat) : State :=
  let s1 := (s.updKeeper fun x => { x with load := none }).wfs [(IMG_STATUS_STATE, 4), (IMG_STATUS_RESULT, code)]
  let s2 :=
    if !l.placing then s1
    else if l.warm then s1.wf (copyStateK l.part l.copy) 4
    else if (if l.prev.sel = 0 then l.prev.a else l.prev.b) ≠ 3 then (s1.putCopies l.part {}).setSel l.part 0
    else if s1.frozen then s1.putCopies l.part l.prev
    else s1.updKeeper fun x => { x with reloads := sins x.reloads l.part l.prev }
  (if l.placing then s2.freeSlots else s2.updChest fun x => { x with imgs := sdel x.imgs l.slot }).loadReport l false

/-- The plain that a fence stops carries the load: the code that ends it (R241). -/
def State.loadOn (s : State) (l : Load) (p : Nat) : Option Nat :=
  if p = l.reader then some 15 else if s.geomHas l.part p then some 14 else none

/-- A plain is full-fenced: a load that it carries ends. Answers the fault that this raises (R241). -/
def State.fenceLoad (s : State) (p : Nat) : State × List (Nat × Nat × Option Nat) :=
  match s.keeper.load with
  | some l => match s.loadOn l p with
    | some c => ((s.imgEnd l c).irqPage pgIMG, [(0xB000 + c, pgIMG, none)])
    | none => (s, [])
  | none => (s, [])

end Sys2Proof.Machine
end

