-- ==== Sys2Proof/Machine/FaultOps.lean ====
section
/-! DEFINITION. Faults as chapter 16 gives them: sources, attribution, first-fault latching, masks, reactions, and the
fences and partition states that the reactions reach. -/

namespace Sys2Proof.Machine

/-- The minimum reaction of a source (Table FL-1). -/
def faultMin (code : Nat) : Nat :=
  if 0x1020 ≤ code ∧ code ≤ 0x1023 then 2 else if code = 0x9002 then 4 else 0

/-- The sources of Table FL-1. [entry 62 DESIGN CHOICE] -/
def faultCodes : List Nat :=
  [0x0001, 0x0002, 0x0003, 0x0004, 0x1001, 0x1002, 0x1003, 0x1004, 0x1005, 0x1006, 0x1007, 0x1008, 0x1009, 0x100A,
   0x100B, 0x100C, 0x100D, 0x100E, 0x1010, 0x1011, 0x1012, 0x1013, 0x1014, 0x1015, 0x1016, 0x1020, 0x1021, 0x1022,
   0x1023, 0x2001, 0x2002, 0x3001, 0x3002, 0x3003, 0x4001, 0x4002, 0x4003, 0x4004, 0x4005, 0x4006, 0x4007] ++
  [0x5001, 0x5002, 0x5003, 0x6001, 0x6002, 0x6003, 0x6004, 0x6005, 0x6006, 0x7001, 0x7002, 0x7003, 0x8001, 0x8002,
   0x8003, 0x8004, 0x8005, 0x8006, 0x8007, 0x9001, 0x9002, 0x9003, 0x9004, 0xA001, 0xA002, 0xA003, 0xA004, 0xA005,
   0xB001, 0xB002, 0xB003, 0xB004, 0xB005, 0xB006, 0xB00B, 0xB00C, 0xB00D, 0xB00E, 0xB00F, 0xB010, 0xB011, 0xB012]

/-- The class of a fault code (R335). -/
def faultClass (code : Nat) : Nat := code / 0x1000 % 16

/-- The override of a source in FLT (R345): REACT and OVR_EN, kept for each code. -/
def ovrREACT (code : Nat) : Fk := ⟨0x20000000 + code * 8, 0, 4⟩
def ovrEN (code : Nat) : Fk := ⟨0x20000000 + code * 8, 4, 1⟩

/-- The partitions to which a fault is attributed (R341); `ppn` is the physical page of an EDGE_UE. -/
def State.attributed (s : State) (code pg : Nat) (ppn : Option Nat) : List Nat :=
  match pageAt pg with
  | some (.tile, t, _) => (s.tilePart t).toList
  | some (.edge, _, _) =>
    match ppn with
    | some q =>
      if code = 0x5001 then
        (List.range 16).filter fun n =>
          s.rb (EDGE_WIN_EN n) && decide (s.rf (EDGE_WIN_BASE n) ≤ q) && decide (q ≤ s.rf (EDGE_WIN_LIMIT n))
      else []
    | none => []
  | some (kd, inst, _) =>
    if isPartPage kd then [inst]
    else if kd = .pln ∨ kd = .mesh ∨ kd = .repr ∨ kd = .drp then (s.plainPart inst).toList
    else []
  | none => []

/-- Whether a reaction applies to a source on a page (Table FL-4). -/
def reactApplies (code pg r : Nat) (parts : List Nat) : Bool :=
  match pageAt pg with
  | some (kd, _, _) =>
    let plain := kd = .pln ∨ kd = .mesh ∨ kd = .repr ∨ kd = .drp
    if r ≤ 1 ∨ r = 8 then true
    else if r = 2 then decide (kd = .tile)
    else if r = 3 then decide ((kd = .repr ∧ code = 0x2002) ∨ kd = .mesh)
    else if r ≤ 5 then decide (kd = .tile ∨ plain)
    else decide (r ≤ 7) && !parts.isEmpty
  | none => false

/-- The most severe applicable reaction at or below the selected one (R345, step 2). -/
def applicable (code pg : Nat) (parts : List Nat) : Nat → Nat
  | 0 => 0
  | r + 1 => if reactApplies code pg (r + 1) parts then r + 1 else applicable code pg parts r

/-- The reaction applied to an unmasked fault, before R346 (R345). -/
def State.selectReact (s : State) (code pg : Nat) (parts : List Nat) : Nat :=
  let sel := if s.rb (ovrEN code) then s.rf (ovrREACT code) else s.rf (hREACT pg (faultClass code))
  max (applicable code pg parts (min sel 8)) (faultMin code)

/-- The bit of a class in a page's mask (R342). -/
def State.maskedOn (s : State) (code pg : Nat) : Bool := (s.rf (hMASK pg)).testBit (faultClass code)

/-- ALERT# is asserted (R390). -/
def State.setAlert (s : State) : State := { s with keeper := { s.keeper with alert := true } }

/-- A record offered to a collector (R338) (R339). -/
def State.latchFault (s : State) (code pg src tb r : Nat) : State :=
  if s.rb (hSTATUS_FAULT_VALID pg) then (s.sat (hMORE_COUNT pg)).wf (hMORE_OVERFLOW pg) 1
  else
    let valid := s.rf (TBS_TB_STATUS_STATE tb) == 1 || s.rf (TBS_TB_STATUS_STATE tb) == 2
    let s1 := s.wfs [(hFIRST_CODE pg, code), (hFIRST_REACT pg, r), (hFIRST_TIME pg, s.mtime / 256),
      (hMORE_COUNT pg, 0), (hMORE_OVERFLOW pg, 0), (hMORE_TB pg, tb), (hMORE_POS_VALID pg, b2n valid),
      (hMORE_POS pg, if valid then ofSigned (s.tbPos tb) 48 / 256 else 0), (hSTATUS_FAULT_VALID pg, 1)]
    let tilePg := match pageAt src with
      | some (.tile, t, _) => some t
      | _ => none
    let page := match tilePg with
      | some t => (0x3FFFFFF, tileX t + 512 * tileY t)
      | none => (src, 0)
    match pageAt pg with
    | some (.flt, _, _) =>
      ((s1.wfs [(FLT_FIRST_PAGE_OFFSET, page.1), (FLT_FIRST_PAGE_TILE, page.2), (FLT_FIRST_TIME_NS, s.mtime)]).irqPage pg).setAlert
    | some (.pflt, n, _) =>
      s1.wfs [(PFLT_FIRST_PAGE_VALUE n, page.1 + 2 ^ 26 * page.2), (PFLT_FIRST_TIME_NS n, s.mtime)]
    | _ => s1

/-- A collector takes the record unless it masks the class (R342). -/
def State.offer (s : State) (code pg src tb r : Nat) : State :=
  if s.maskedOn code pg then s.bump FLT_MASKED_COUNT else s.latchFault code pg src tb r

/-! ### Partition states (R343, R347) -/

/-- A partition enters FAULTED or DEGRADED for a cause of Table FL-7, which raises PFLT's event. -/
def State.enterFault (s : State) (n st cause : Nat) : State :=
  ((s.setPst n st).wf (PFLT_STATUS_CAUSE n) cause).irqPart n 1

/-- PAUSE_PARTITION (R347). -/
def State.reactPause (s : State) (n : Nat) : State :=
  if s.pst n = psRUNNING ∨ s.pst n = psDEGRADED then
    (s.updPart n fun p => { p with degraded := false }).enterFault n psFAULTED 1
  else s

/-- DEGRADE_PARTITION (R347). -/
def State.reactDegrade (s : State) (n : Nat) : State :=
  if s.pst n = psRUNNING then (s.updPart n fun p => { p with degraded := true }).enterFault n psDEGRADED 2 else s

/-- A fence of one of its plains takes a RUNNING partition to DEGRADED (R347). -/
def State.reactFence (s : State) (n : Nat) : State :=
  if s.pst n = psRUNNING then (s.updPart n fun p => { p with degraded := false }).enterFault n psDEGRADED 3 else s

/-- HALT_MODULE (R343). -/
def State.haltModule (s : State) : State :=
  ((s.wf FLT_STATUS_HALTED 1).irqPage pgFLT).forEach (List.range 16) fun s n =>
    if 2 ≤ s.pst n ∧ s.pst n ≤ 7 then ((s.enterFault n psFAULTED 4).wf (PFLT_STATUS_STICKY n) 1).irqPart n 1 else s

/-! ### Fences (Table RP-1) -/

/-- A sweep of the partition whose grid holds a tile ends with FENCED (R227). -/
def State.sweepFenced (s : State) (n : Nat) (hit : Nat → Bool) : State :=
  match (s.part n).sweep with
  | some w =>
    let x0 := s.rf (PSW_GRID_X0 n); let y0 := s.rf (PSW_GRID_Y0 n)
    let gw := s.rf (PSW_GRID_W n); let gh := s.rf (PSW_GRID_H n)
    if (List.range (gw * gh)).any (fun i => hit (tileAt (x0 + i % gw) (y0 + i / gw))) then
      s.updPart n fun p => { p with sweep := some { w with result := 12, done := true } }
    else s
  | none => s

/-- The open items whose frame job had a task on a tile: tainted where the job's token went to that tile; of the others
with a running job the spec does not say which had one, so a free value does (R74). [entry 61 DESIGN CHOICE] -/
def State.taint (s : State) (n t : Nat) : State :=
  let r := (s.part n).items.foldl (fun (p : List Item × State) i =>
    if i.job = some t then (p.1 ++ [{ i with tainted := true }], p.2)
    else if i.job.isSome then
      let d := p.2.draw 1
      (p.1 ++ [{ i with tainted := i.tainted || d.1 == 1 }], d.2)
    else (p.1 ++ [i], p.2)) ([], s)
  r.2.updPart n fun p => { p with items := r.1 }

/-- A tile is fenced: its bit sets, its site is no longer CLEARED (R84), its epoch advances, a sweep over it ends, and with AUTO_RESPARE the repair of R72
is asked for, in the running pause when its copies have not begun (R77). -/
def State.fenceTile (s : State) (t : Nat) : State :=
  let p := plainOf t
  if s.fenced t then s
  else
    let k := PLN_FENCED p (localY t)
    let s1 := ((s.wf k (s.rf k ||| 2 ^ localX t)).bump (PLN_STATE_FENCED_TILES p)).epochTile t
    let s1 := s1.updPlain p fun q => { q with cleared := q.cleared.erase (s.siteOf t) }
    let s2 := match s1.tilePart t with
      | some n => (s1.sweepFenced n (· == t)).taint n t
      | none => s1
    if s2.rb (REPR_CTRL_AUTO_RESPARE p) then s2.updPlain p fun q => { q with waitFence := q.waitFence ++ [t] } else s2

/-- The tile pages that hold a field, with their tiles. -/
def State.usedTiles (s : State) : List Nat :=
  let a : List Nat := s.fld.filterMap fun (e : Nat × Nat) =>
    if 0x100000000 * 64 ≤ e.1 ∧ e.1 < (0x100000000 + 262144 * 0x1000) * 64 then
      some ((e.1 / 64 - 0x100000000) / 0x1000) else none
  let b : List Nat := s.tiles.map fun (e : Nat × Tile) => e.1
  (a ++ b).eraseDups

/-- The slot-table entry of bank `b`, output `o`, slot `k` (Table FB-1). -/
def State.slotEntry (s : State) (t b o k : Nat) : Nat := bits (s.rf (TILE_SLOT_SLOT t b o (k / 4))) (16 * (k % 4)) 16

/-- The neighbour of a tile on an output: 0 N, 1 E, 2 S, 3 W, 4 XN, 5 XE, 6 XS, 7 XW (express: 8 tiles). -/
def neighbour (t o : Nat) : Option Nat :=
  let d := if o < 4 then 1 else 8
  let x := tileX t; let y := tileY t
  match o % 4 with
  | 0 => if d ≤ y then some (tileAt x (y - d)) else none
  | 1 => if x + d < 512 then some (tileAt (x + d) y) else none
  | 2 => if y + d < 512 then some (tileAt x (y + d)) else none
  | _ => if d ≤ x then some (tileAt (x - d) y) else none

/-- The input on which a flit sent through output `o` arrives. -/
def oppInput (o : Nat) : Nat := if o < 4 then (o + 2) % 4 else 4 + (o - 4 + 2) % 4

/-- Whether an entry of output `o` at tile `t` counts as VALID (R161). -/
def State.slotValid (s : State) (t o e : Nat) : Bool :=
  let inp := bits e 1 4
  e % 2 == 1 && decide (inp ≤ 8) && inp != o && !(inp == 8 && o == 8) &&
  (if o = 8 then true
   else match neighbour t o with
     | some u => (s.tilePart t).isSome && s.tilePart u == s.tilePart t
     | none => false)

/-- The tiles that a circuit route passes and its sinks (tile, queue), traced through the live bank of each plain from inputs
that hold a flit in a slot; `fuel` bounds the hops. -/
def State.traceRoute (s : State) : Nat → List (Nat × Nat × Nat) → List Nat × List (Nat × Nat)
  | 0, _ => ([], [])
  | _, [] => ([], [])
  | fuel + 1, (t, inp, slot) :: rest =>
    let k := (slot + 1) % 32
    let b := s.rf (MESH_BANK_LIVE (plainOf t))
    let outs := (List.range 9).filter fun o =>
      let e := s.slotEntry t b o k
      s.slotValid t o e && bits e 1 4 == inp
    let next := outs.filterMap fun o => if o = 8 then none else (neighbour t o).map fun u => (u, oppInput o, k)
    let snk := if outs.contains 8 then [(t, bits (s.slotEntry t b 8 k) 5 3)] else []
    let r := s.traceRoute fuel (next ++ rest)
    (t :: r.1, snk ++ r.2)

/-- The tiles and the sinks of the route of source queue `k` of tile `t`. -/
def State.routeOf (s : State) (t k : Nat) : List Nat × List (Nat × Nat) :=
  let b := s.rf (MESH_BANK_LIVE (plainOf t))
  let heads := (List.range 32).flatMap fun slot =>
    (List.range 8).filterMap fun o =>
      let e := s.slotEntry t b o slot
      if s.slotValid t o e && bits e 1 4 == 8 && bits e 5 3 == k then (neighbour t o).map fun u => (u, oppInput o, slot)
      else none
  let r := s.traceRoute 4096 heads
  (t :: r.1, r.2.eraseDups)

/-- The circuit routes that pass through a plain are suspended: source credits become 0 (R175). -/
def State.suspendRoutes (s : State) (p : Nat) : State :=
  s.usedTiles.foldl (fun s t =>
    s.forEach (List.range 8) fun s k =>
      if s.rf (TILE_QBIND_KIND t (8 + k)) = 1 ∧ (s.routeOf t k).1.any (fun u => plainOf u == p) then
        let s1 := s.wf (TILE_QCRED_CREDITS t k) 0
        match s1.tilePart t with
        | some n => s1.updPart n fun q => { q with routeSusp := true }
        | none => s1
      else s) s

/-- A plain is compute-fenced (`lvl` 2) or full-fenced (3): its level rises (at its resume while it is PAUSED), its partition is DEGRADED, a full fence
suspends the routes, asks for detour tables and ends a load that the plain carries (R241). Answers the faults that it raises (R71). [entries 56 DEDUCED, 63 DEDUCED] -/
def State.fencePlain (s : State) (p lvl : Nat) : State × List (Nat × Nat × Option Nat) :=
  let cur := s.plnLevel p
  if cur = 4 ∨ cur = 3 ∨ (cur = 2 ∧ lvl = 2) then (s, [])
  else
    let s1 := if s.plnState p = 1 then
        s.updPlain p fun q => { q with repair := q.repair.map fun r => { r with back := lvl } }
      else s.wf (PLN_STATE_STATE p) lvl
    let s2 := if lvl = 3 then (s1.suspendRoutes p).updPlain p fun q => { q with detourWait := true } else s1
    let s3 := match s2.plainPart p with
      | some n => (s2.sweepFenced n fun t => plainOf t == p).reactFence n
      | none => s2
    let r := if lvl = 3 then s3.fenceLoad p else (s3, [])
    (r.1, (if lvl = 3 then 0x3002 else 0x3001, plainPage p 0, none) :: r.2)

/-! ### Raising a fault -/

/-- The reaction of a fault, applied (R343), with the faults that it raises in turn. [entry 62 DESIGN CHOICE] -/
def State.applyReact (s : State) (pg r : Nat) (parts : List Nat) : State × List (Nat × Nat × Option Nat) :=
  let s1 := if 2 ≤ r then
      s.forEach parts fun s n => s.updPart n fun p => { p with quietFrom := s.time }
    else s
  let where_ : Option Nat × Option Nat := match pageAt pg with
    | some (.tile, t, _) => (some t, some (plainOf t))
    | some (.pln, p, _) => (none, some p)
    | some (.mesh, p, _) => (none, some p)
    | some (.repr, p, _) => (none, some p)
    | some (.drp, p, _) => (none, some p)
    | _ => (none, none)
  match r with
  | 2 => match where_.1 with
    | some t => (s1.fenceTile t, [])
    | none => (s1, [])
  | 4 => match where_.2 with
    | some p => s1.fencePlain p 2
    | none => (s1, [])
  | 5 => match where_.2 with
    | some p => s1.fencePlain p 3
    | none => (s1, [])
  | 6 => (s1.forEach parts State.reactPause, [])
  | 7 => (s1.forEach parts State.reactDegrade, [])
  | 8 => (s1.haltModule, [])
  | _ => (s1, [])

/-- One fault: counted, offered to its page, to PFLT of each partition it is attributed to and to FLT, and reacted to
(R338 to R346). -/
def State.raise1 (s : State) (code pg : Nat) (ppn : Option Nat) : State × List (Nat × Nat × Option Nat) :=
  let parts := s.attributed code pg ppn
  let s1 := s.bump (FLT_CLASS_COUNT_COUNT (faultClass code))
  let masked := s1.maskedOn code pg
  let r0 := if masked then faultMin code else s1.selectReact code pg parts
  let r := if s1.holdReact then min r0 1 else r0
  let tb := match parts.head? with
    | some n => s1.rf (PFLT_CTRL_TB n)
    | none => s1.rf FLT_CTRL_TB
  let s2 := s1.offer code pg pg tb r
  let s3 := s2.forEach (parts.filter fun n => partPage n 9 != pg) fun s n =>
    s.offer code (partPage n 9) pg (s.rf (PFLT_CTRL_TB n)) r
  let s4 := if pg = pgFLT then s3 else s3.offer code pgFLT pg tb r
  let s5 := if 1 ≤ r ∧ !masked then s4.irqPage pg else s4
  s5.applyReact pg r parts

/-- Faults raised in order, with those that their reactions raise. -/
def State.raiseAll : Nat → State → List (Nat × Nat × Option Nat) → State
  | 0, s, _ => s
  | _, s, [] => s
  | fuel + 1, s, f :: fs =>
    let r := s.raise1 f.1 f.2.1 f.2.2
    State.raiseAll fuel r.1 (fs ++ r.2)

/-- A fault is raised on a page. -/
def State.raise (s : State) (code pg : Nat) : State := State.raiseAll 16 s [(code, pg, none)]

/-- EDGE_UE is raised, recording the address (R150). -/
def State.raiseEdgeUE (s : State) (pa : Nat) : State :=
  let s1 := if s.rb EDGE_UE_ADDR_VALID then s else (s.wf EDGE_UE_ADDR_PA pa).wf EDGE_UE_ADDR_VALID 1
  State.raiseAll 16 s1 [(0x5001, pgEDGE, some (pa / 0x200000))]

/-- A plain is fenced, and its fault raised. -/
def State.doFence (s : State) (p lvl : Nat) : State :=
  let r := s.fencePlain p lvl
  State.raiseAll 16 r.1 r.2

/-- A fault on a tile page. -/
def State.raiseTile (s : State) (t code : Nat) : State := s.raise code (tilePage t)

end Sys2Proof.Machine
end

