-- ==== Sys2Proof/Machine/Flags.lean ====
section
/-! DEFINITION. Number formats (Table TL-4), exact arithmetic and rounding (R97, R100 to R104, R397), conversions
(R102, R117, Table TL-5), and the flags that they set (R103, R113, R114). -/

namespace Sys2Proof.Machine

/-- The four sticky number flags of TILE.FLAGS (R103). -/
structure NFlags where
  inv : Bool := false
  ov : Bool := false
  sat : Bool := false
  un : Bool := false
  deriving DecidableEq, Repr

/-- Two sets of flags joined. -/
def NFlags.or (a b : NFlags) : NFlags := ⟨a.inv || b.inv, a.ov || b.ov, a.sat || b.sat, a.un || b.un⟩

/-- The flags of TILE.FLAGS set. -/
def State.setFlags (s : State) (t : Nat) (f : NFlags) : State :=
  let s1 := if f.inv then s.wf (TILE_FLAGS_INVALID t) 1 else s
  let s2 := if f.ov then s1.wf (TILE_FLAGS_OVERFLOW t) 1 else s1
  let s3 := if f.sat then s2.wf (TILE_FLAGS_SATURATE t) 1 else s2
  if f.un then s3.wf (TILE_FLAGS_UNDERFLOW t) 1 else s3

/-- A floating-point value: NaN, an infinity, or sign and magnitude m × 2^e. -/
inductive FVal
  | nan
  | inf (neg : Bool)
  | fin (neg : Bool) (m : Nat) (e : Int)
  deriving DecidableEq, Repr

/-- A floating-point format: exponent bits, mantissa bits, bias, and whether it is E4M3 (no infinity). -/
structure Fmt where
  eb : Nat
  mb : Nat
  bias : Nat
  e4m3 : Bool := false
  deriving DecidableEq, Repr

def fFP32 : Fmt := ⟨8, 23, 127, false⟩
def fBF16 : Fmt := ⟨8, 7, 127, false⟩
def fFP16 : Fmt := ⟨5, 10, 15, false⟩
def fE4M3 : Fmt := ⟨4, 3, 7, true⟩
def fE5M2 : Fmt := ⟨5, 2, 15, false⟩

/-- The width of a format. -/
def Fmt.width (f : Fmt) : Nat := 1 + f.eb + f.mb
/-- The NaN that the W2 writes (Table TL-4). -/
def Fmt.nanBits (f : Fmt) : Nat :=
  if f.e4m3 then 0x7F else (2 ^ f.eb - 1) * 2 ^ f.mb + 2 ^ (f.mb - 1)
/-- The infinity of a format. -/
def Fmt.infBits (f : Fmt) (neg : Bool) : Nat := (if neg then 2 ^ (f.eb + f.mb) else 0) + (2 ^ f.eb - 1) * 2 ^ f.mb
/-- The largest finite value of a format (Table TL-4). -/
def Fmt.maxBits (f : Fmt) (neg : Bool) : Nat :=
  (if neg then 2 ^ (f.eb + f.mb) else 0) + (if f.e4m3 then 0x7E else (2 ^ f.eb - 2) * 2 ^ f.mb + (2 ^ f.mb - 1))

/-- The value of a bit pattern (R100). -/
def Fmt.unpack (f : Fmt) (v : Nat) : FVal :=
  let neg := v.testBit (f.eb + f.mb)
  let ex := bits v f.mb f.eb
  let man := v % 2 ^ f.mb
  if f.e4m3 then
    (if ex = 15 ∧ man = 7 then .nan
     else if ex = 0 then .fin neg man (1 - (f.bias : Int) - f.mb)
     else .fin neg (man + 2 ^ f.mb) ((ex : Int) - f.bias - f.mb))
  else if ex = 2 ^ f.eb - 1 then (if man = 0 then .inf neg else .nan)
  else if ex = 0 then .fin neg man (1 - (f.bias : Int) - f.mb)
  else .fin neg (man + 2 ^ f.mb) ((ex : Int) - f.bias - f.mb)

/-- m / 2^d rounded to nearest, ties to even. -/
def rneShift (m d : Nat) : Nat :=
  let q := m / 2 ^ d
  let r := m % 2 ^ d
  if 2 * r > 2 ^ d ∨ (2 * r = 2 ^ d ∧ q % 2 = 1) then q + 1 else q

/-- A magnitude m × 2^e rounded to nearest even in a format as if its exponent range were unbounded above (R397):
the mantissa and the exponent of its last place. -/
def Fmt.roundMag (f : Fmt) (m : Nat) (e : Int) : Nat × Int :=
  let top := (Nat.log2 m : Int) + e
  let q := max top (1 - (f.bias : Int)) - f.mb
  if q ≤ e then (m * 2 ^ (e - q).toNat, q) else (rneShift m (q - e).toNat, q)

/-- A value rounded into a format, with the flags of Table TL-5 and R114: beyond the largest finite, an infinity with
OVERFLOW, or for E4M3 the largest finite with SATURATE. -/
def Fmt.pack (f : Fmt) : FVal → Nat × NFlags
  | .nan => (f.nanBits, {})
  | .inf neg => if f.e4m3 then (f.maxBits neg, { sat := true }) else (f.infBits neg, {})
  | .fin neg m e =>
    let sgn := if neg then 2 ^ (f.eb + f.mb) else 0
    if m = 0 then (sgn, {})
    else
      let r := f.roundMag m e
      let mm := if 2 ^ (f.mb + 1) ≤ r.1 then r.1 / 2 else r.1
      let q := if 2 ^ (f.mb + 1) ≤ r.1 then r.2 + 1 else r.2
      if mm = 0 then (sgn, { un := true })
      else if mm < 2 ^ f.mb then (sgn + mm, {})
      else
        let ex := q + f.mb + f.bias
        let maxEx : Int := if f.e4m3 then 15 else 2 ^ f.eb - 2
        if ex > maxEx ∨ (f.e4m3 ∧ ex = 15 ∧ mm = 15) then
          (if f.e4m3 then (f.maxBits neg, { sat := true }) else (f.infBits neg, { ov := true }))
        else (sgn + ex.toNat * 2 ^ f.mb + (mm - 2 ^ f.mb), {})

/-- A value scaled by 2^s, exactly (R102). -/
def FVal.scale : FVal → Int → FVal
  | .fin neg m e, k => .fin neg m (e + k)
  | v, _ => v

/-- The sign reversed. -/
def FVal.neg : FVal → FVal
  | .nan => .nan
  | .inf n => .inf (!n)
  | .fin n m e => .fin (!n) m e

def FVal.isNan : FVal → Bool
  | .nan => true
  | _ => false

/-- The signed integer m × 2^(e - lo), for e at least `lo`. -/
def alignInt (neg : Bool) (m : Nat) (e lo : Int) : Int :=
  let v : Int := ((m * 2 ^ (e - lo).toNat : Nat) : Int)
  if neg then -v else v

/-- The exact sum; opposite infinities give NaN and INVALID; an exact zero is +0 unless both are −0 (R101). -/
def FVal.add : FVal → FVal → FVal × NFlags
  | .nan, _ => (.nan, {})
  | _, .nan => (.nan, {})
  | .inf a, .inf b => if a = b then (.inf a, {}) else (.nan, { inv := true })
  | .inf a, _ => (.inf a, {})
  | _, .inf b => (.inf b, {})
  | .fin a m e, .fin b n k =>
    let lo := min e k
    let v := alignInt a m e lo + alignInt b n k lo
    if v = 0 then (.fin (a && b) 0 0, {}) else (.fin (decide (v < 0)) v.natAbs lo, {})

/-- The exact product; infinity × 0 gives NaN and INVALID (R101). A zero product has the sign that the signs of its
operands give, of integers too. [entry 141 DESIGN CHOICE] -/
def FVal.mul : FVal → FVal → FVal × NFlags
  | .nan, _ => (.nan, {})
  | _, .nan => (.nan, {})
  | .inf a, .inf b => (.inf (a != b), {})
  | .inf a, .fin b m _ => if m = 0 then (.nan, { inv := true }) else (.inf (a != b), {})
  | .fin a m _, .inf b => if m = 0 then (.nan, { inv := true }) else (.inf (a != b), {})
  | .fin a m e, .fin b n k => (.fin (a != b) (m * n) (e + k), {})

/-- The order of two values that are not NaN, with −0 equal to +0. -/
def FVal.cmp : FVal → FVal → Ordering
  | .nan, _ => .eq
  | _, .nan => .eq
  | .inf a, .inf b => if a = b then .eq else if a then .lt else .gt
  | .inf a, _ => if a then .lt else .gt
  | _, .inf b => if b then .gt else .lt
  | .fin a m e, .fin b n k => compare (alignInt a m e (min e k)) (alignInt b n k (min e k))

/-- The order with −0 below +0, as FMIN and FMAX take it (R114). -/
def FVal.cmpZ (a b : FVal) : Ordering :=
  match a.cmp b with
  | .eq => match a, b with
    | .fin x _ _, .fin y _ _ => if x = y then .eq else if x then .lt else .gt
    | _, _ => .eq
  | o => o

/-- A value rounded to FP32, as a value again. -/
def rn32 (v : FVal) : FVal × NFlags :=
  let r := fFP32.pack v
  (fFP32.unpack r.1, r.2)

/-- RN(a + b) in FP32. -/
def addRn32 (a b : FVal) : FVal × NFlags :=
  let r := a.add b
  let q := rn32 r.1
  (q.1, r.2.or q.2)

/-- One level of the pairwise sum; a last odd value passes to the next level unchanged (R104, R211). -/
def pairLevel : List FVal → List FVal × NFlags
  | a :: b :: l =>
    let r := addRn32 a b
    let q := pairLevel l
    (r.1 :: q.1, r.2.or q.2)
  | l => (l, {})

/-- The pairwise sum by levels (R104); `fuel` bounds the levels. -/
def pairSum : Nat → List FVal → FVal × NFlags
  | _, [] => (.fin false 0 0, {})
  | _, [v] => (v, {})
  | 0, v :: _ => (v, {})
  | fuel + 1, l =>
    let r := pairLevel l
    let q := pairSum fuel r.1
    (q.1, r.2.or q.2)

/-! ### Types (Table IS-2) -/

/-- Element bits of a type code; 0 for a reserved code. -/
def tyBits (t : Nat) : Nat :=
  match t with
  | 0 | 1 | 11 | 12 => 8
  | 2 | 3 | 9 | 10 => 16
  | 4 | 5 | 8 => 32
  | 6 => 4
  | _ => 0

/-- The floating-point format of a type code. -/
def tyFmt (t : Nat) : Option Fmt :=
  match t with
  | 8 => some fFP32
  | 9 => some fBF16
  | 10 => some fFP16
  | 11 => some fE4M3
  | 12 => some fE5M2
  | _ => none

/-- A signed integer type. -/
def tySigned (t : Nat) : Bool := t == 0 || t == 2 || t == 4 || t == 6

/-- The integer value of an element of an integer type. -/
def tyInt (t v : Nat) : Int := if tySigned t then toSigned v (tyBits t) else ((v % 2 ^ tyBits t : Nat) : Int)

/-- The least and greatest value of an integer type. -/
def tyRange (t : Nat) : Int × Int :=
  if tySigned t then (-(2 ^ (tyBits t - 1) : Int), 2 ^ (tyBits t - 1) - 1) else (0, 2 ^ tyBits t - 1)

/-- The value of an element of any type. -/
def tyVal (t v : Nat) : FVal :=
  match tyFmt t with
  | some f => f.unpack v
  | none => let i := tyInt t v; .fin (decide (i < 0)) i.natAbs 0

/-- A finite value rounded to an integer, ties to even. -/
def roundInt (neg : Bool) (m : Nat) (e : Int) : Int :=
  let v : Nat := if 0 ≤ e then m * 2 ^ e.toNat else rneShift m (-e).toNat
  if neg then -(v : Int) else v

/-- A value converted into an integer type: rounded, then clamped (Table TL-5). -/
def toIntType (t : Nat) : FVal → Nat × NFlags
  | .nan => (0, { inv := true })
  | .inf neg => (ofSigned (if neg then (tyRange t).1 else (tyRange t).2) (tyBits t), { sat := true })
  | .fin neg m e =>
    let v := roundInt neg m e
    let r := tyRange t
    if v < r.1 then (ofSigned r.1 (tyBits t), { sat := true })
    else if r.2 < v then (ofSigned r.2 (tyBits t), { sat := true })
    else (ofSigned v (tyBits t), {})

/-- The conversion of an element from type `ts` to type `t`, scaled by 2^s (R102, R117). To FP32 it rounds and flags as an
FP32 operation does: infinity with OVERFLOW, a signed zero with UNDERFLOW, infinity as it is. [entry 142 DESIGN CHOICE] -/
def cvtElem (ts t : Nat) (s : Int) (v : Nat) : Nat × NFlags :=
  let x := (tyVal ts v).scale s
  match tyFmt t with
  | some f => f.pack x
  | none => toIntType t x

/-! ### Element operations (Table IS-4) -/

/-- A result clamped to the type (R113). -/
def clampInt (t : Nat) (v : Int) : Nat × NFlags :=
  let r := tyRange t
  if v < r.1 then (ofSigned r.1 (tyBits t), { sat := true })
  else if r.2 < v then (ofSigned r.2 (tyBits t), { sat := true })
  else (ofSigned v (tyBits t), {})

def elAdd (t a b : Nat) : Nat × NFlags := ((a + b) % 2 ^ tyBits t, {})
def elSub (t a b : Nat) : Nat × NFlags := ((a % 2 ^ tyBits t + 2 ^ tyBits t - b % 2 ^ tyBits t) % 2 ^ tyBits t, {})
def elMul (t a b : Nat) : Nat × NFlags := ((a * b) % 2 ^ tyBits t, {})
/-- The high bits of the 2w-bit product. -/
def elMulh (t a b : Nat) : Nat × NFlags :=
  (ofSigned (tyInt t a * tyInt t b / (2 ^ tyBits t : Int)) (tyBits t), {})
def elAnd (_t a b : Nat) : Nat × NFlags := (a &&& b, {})
def elOr (_t a b : Nat) : Nat × NFlags := (a ||| b, {})
def elXor (_t a b : Nat) : Nat × NFlags := (a ^^^ b, {})
def elAndn (t a b : Nat) : Nat × NFlags := (a &&& (b ^^^ (2 ^ tyBits t - 1)), {})
def elShl (t a b : Nat) : Nat × NFlags := ((a * 2 ^ (b % tyBits t)) % 2 ^ tyBits t, {})
/-- Arithmetic for a signed type, logical for an unsigned one. -/
def elShr (t a b : Nat) : Nat × NFlags := (ofSigned (tyInt t a / (2 ^ (b % tyBits t) : Int)) (tyBits t), {})
def elMin (t a b : Nat) : Nat × NFlags := (if tyInt t b < tyInt t a then b else a, {})
def elMax (t a b : Nat) : Nat × NFlags := (if tyInt t a < tyInt t b then b else a, {})
/-- The least signed value stays unchanged. -/
def elAbs (t a : Nat) : Nat × NFlags := (ofSigned (Int.natAbs (tyInt t a) : Int) (tyBits t), {})
def elAdds (t a b : Nat) : Nat × NFlags := clampInt t (tyInt t a + tyInt t b)
def elSubs (t a b : Nat) : Nat × NFlags := clampInt t (tyInt t a - tyInt t b)

/-- An exact result rounded once into the type (R114). -/
def elRound (t : Nat) (r : FVal × NFlags) : Nat × NFlags :=
  match tyFmt t with
  | some f => let p := f.pack r.1; (p.1, r.2.or p.2)
  | none => (0, {})

def elFadd (t a b : Nat) : Nat × NFlags := elRound t ((tyVal t a).add (tyVal t b))
def elFsub (t a b : Nat) : Nat × NFlags := elRound t ((tyVal t a).add (tyVal t b).neg)
def elFmul (t a b : Nat) : Nat × NFlags := elRound t ((tyVal t a).mul (tyVal t b))
/-- RN(a × b + c) with an exact product; a NaN operand gives NaN and no INVALID (R101). -/
def elFma (t a b c : Nat) : Nat × NFlags :=
  if (tyVal t a).isNan || (tyVal t b).isNan || (tyVal t c).isNan then elRound t (.nan, {})
  else
    let p := (tyVal t a).mul (tyVal t b)
    let q := p.1.add (tyVal t c)
    elRound t (q.1, p.2.or q.2)
def elFmin (t a b : Nat) : Nat × NFlags :=
  if (tyVal t a).isNan || (tyVal t b).isNan then elRound t (.nan, {})
  else (if (tyVal t b).cmpZ (tyVal t a) = .lt then b else a, {})
def elFmax (t a b : Nat) : Nat × NFlags :=
  if (tyVal t a).isNan || (tyVal t b).isNan then elRound t (.nan, {})
  else (if (tyVal t a).cmpZ (tyVal t b) = .lt then b else a, {})
def elFneg (t a : Nat) : Nat × NFlags := (a ^^^ 2 ^ (tyBits t - 1), {})
def elFabs (t a : Nat) : Nat × NFlags := (a % 2 ^ (tyBits t - 1), {})

/-- Comparison by type (R115): equal, less. A NaN makes both false. -/
def elCmp (t a b : Nat) : Bool × Bool :=
  match tyFmt t with
  | some f =>
    let x := f.unpack a; let y := f.unpack b
    if x.isNan || y.isNan then (false, false) else (x.cmp y == .eq, x.cmp y == .lt)
  | none => (tyInt t a == tyInt t b, decide (tyInt t a < tyInt t b))

def elCmpEq (t a b : Nat) : Bool := (elCmp t a b).1
def elCmpNe (t a b : Nat) : Bool := !(elCmp t a b).1
def elCmpLt (t a b : Nat) : Bool := (elCmp t a b).2
def elCmpLe (t a b : Nat) : Bool := (elCmp t a b).1 || (elCmp t a b).2

end Sys2Proof.Machine
end

