-- ==== Sys2Proof/Machine/Operands.lean ====
section
/-! DEFINITION. What a tile instruction reads and writes: registers and predicates (R85), guards (R94, R95), the
operand forms of each format and which fields decode (R110 to R112, R116 to R119, R399), handles (R144), queues
(R86, R88, R90, R122), and the issue of an instruction with its checks, blocks and faults (R88, R91, R130). -/

namespace Sys2Proof.Machine

/-! ### Registers -/

/-- A scalar register; s0 reads zero (R85). -/
def Tile.sreg (x : Tile) (r : Nat) : W32 := if r = 0 then 0 else sget 0 x.sregs r
/-- A scalar register written; a write to s0 is discarded (R85). -/
def Tile.wsreg (x : Tile) (r : Nat) (v : W32) : Tile := if r = 0 then x else { x with sregs := sset 0 x.sregs r v }
def Tile.vreg (x : Tile) (r : Nat) : Vec := sget 0 x.vregs r
def Tile.wvreg (x : Tile) (r : Nat) (v : Vec) : Tile := { x with vregs := sset 0 x.vregs r v }
def Tile.task (x : Tile) (k : Nat) : Task := sget {} x.tasks k
def Tile.setTask (x : Tile) (k : Nat) (v : Task) : Tile := { x with tasks := sset {} x.tasks k v }
/-- A predicate of a task; p0 reads all ones (R85). -/
def Tile.pred (x : Tile) (k r : Nat) : W32 := if r = 0 then BitVec.allOnes 32 else sget 0 (x.task k).preds r
/-- A predicate written; a write to p0 is discarded (R85). -/
def Tile.wpred (x : Tile) (k r : Nat) (v : W32) : Tile :=
  if r = 0 then x else x.setTask k { x.task k with preds := sset 0 (x.task k).preds r v }

/-- A scalar pair as one number, low register first. -/
def Tile.spair (x : Tile) (r : Nat) : Nat := (x.sreg r).toNat + 2 ^ 32 * (x.sreg (r + 1)).toNat
def Tile.wspair (x : Tile) (r : Nat) (v : Nat) : Tile :=
  (x.wsreg r (BitVec.ofNat 32 v)).wsreg (r + 1) (BitVec.ofNat 32 (v / 2 ^ 32))
/-- A vector pair as an entry, low register first. -/
def Tile.vpair (x : Tile) (r : Nat) : Nat := (x.vreg r).toNat + 2 ^ 256 * (x.vreg (r + 1)).toNat
def Tile.wvpair (x : Tile) (r : Nat) (v : Nat) : Tile :=
  (x.wvreg r (BitVec.ofNat 256 v)).wvreg (r + 1) (BitVec.ofNat 256 (v / 2 ^ 256))

/-- The guard of an instruction as a predicate value, negated when GN is 1 (Table IS-1). -/
def Tile.guard (x : Tile) (k : Nat) (g : Guard) : Nat :=
  let p := (x.pred k g.gp.toNat).toNat
  if g.gn = 1 then p ^^^ (2 ^ 32 - 1) else p

/-! ### Elements of a vector -/

/-- Element `e` of width `w`. -/
def elGet (v w e : Nat) : Nat := bits v (e * w) w
/-- Element `e` of width `w` replaced. -/
def elSet (v w e x : Nat) : Nat := v - elGet v w e * 2 ^ (e * w) + (x % 2 ^ w) * 2 ^ (e * w)

/-- A vector built over `old` element by element: elements whose predicate bit at their lowest byte is false keep their
value, are not computed and set no flag (R95). -/
def vecMap (g w old : Nat) (f : Nat → Nat × NFlags) : Nat → Nat × NFlags
  | 0 => (old, {})
  | n + 1 =>
    let r := vecMap g w old f n
    if g.testBit (n * w / 8) then (elSet r.1 w n (f n).1, r.2.or (f n).2) else r

/-- Predicate bits built over `old`: each guarded element's result goes to every bit of its bytes (R115). -/
def predMap (g w old : Nat) (f : Nat → Bool) : Nat → Nat
  | 0 => old
  | n + 1 =>
    let r := predMap g w old f n
    if g.testBit (n * w / 8) then elSet r (w / 8) n (if f n then 2 ^ (w / 8) - 1 else 0) else r

/-! ### Format F: which fields an opcode uses (R110, R112, R116 to R118) -/

/-- What a register field of a format F opcode names: nothing (must be zero), a register by KIND, a scalar, a vector, a
predicate, a slice. -/
inductive Role | none | x | s | v | p | slice
  deriving DecidableEq, Repr

/-- The types that an F opcode permits (R112). -/
inductive TyClass | int | flt | any | cvt | pred
  deriving DecidableEq, Repr

/-- How an F opcode uses its fields; `imm` 0: no immediate form, 1: both forms, 2: immediate form only. -/
structure FSpec where
  rd : Role
  ra : Role
  rb : Role
  rc : Role
  imm : Nat
  cls : TyClass

def fsInt2 : FSpec := ⟨.x, .x, .x, .none, 1, .int⟩
def fsInt1 : FSpec := ⟨.x, .x, .none, .none, 0, .int⟩
def fsMov : FSpec := ⟨.x, .none, .x, .none, 1, .any⟩
def fsFlt2 : FSpec := ⟨.x, .x, .x, .none, 1, .flt⟩
def fsFlt1 : FSpec := ⟨.x, .x, .none, .none, 0, .flt⟩
def fsFma : FSpec := ⟨.x, .x, .x, .x, 0, .flt⟩
def fsCmp : FSpec := ⟨.p, .x, .x, .none, 1, .any⟩
def fsSel : FSpec := ⟨.x, .x, .x, .p, 0, .any⟩
def fsCvt : FSpec := ⟨.x, .x, .slice, .slice, 0, .cvt⟩
def fsRed : FSpec := ⟨.s, .v, .none, .p, 0, .any⟩
def fsBcast : FSpec := ⟨.v, .s, .none, .none, 0, .any⟩
def fsVext : FSpec := ⟨.s, .v, .none, .none, 2, .any⟩
def fsVins : FSpec := ⟨.v, .s, .none, .none, 2, .any⟩
def fsPred2 : FSpec := ⟨.p, .p, .p, .none, 1, .pred⟩
def fsPnot : FSpec := ⟨.p, .p, .none, .none, 0, .pred⟩
def fsPfroms : FSpec := ⟨.p, .s, .none, .none, 0, .pred⟩
def fsSfromp : FSpec := ⟨.s, .p, .none, .none, 0, .pred⟩

/-- A register field names what its role allows. -/
def roleOk (vec : Bool) (r : Role) (v : Nat) : Bool :=
  match r with
  | .none => v == 0
  | .x => !vec || decide (v < 16)
  | .s => true
  | .v => decide (v < 16)
  | .p => decide (v < 8)
  | .slice => if vec then decide (v < 8) else v == 0

/-- A type code permitted by the class with KIND. -/
def typeOk (c : TyClass) (vec : Bool) (t : Nat) : Bool :=
  match c with
  | .int => if vec then decide (t ≤ 5) else t == 4 || t == 5
  | .flt => if vec then decide (8 ≤ t ∧ t ≤ 10) else t == 8
  | .any => if vec then decide (t ≤ 5) || decide (8 ≤ t ∧ t ≤ 10) else t == 4 || t == 5 || t == 8
  | .cvt => decide (t ≤ 6) || decide (8 ≤ t ∧ t ≤ 12)
  | .pred => t == 0

/-- The element count of a vector CVT (R117). -/
def cvtCount (t ts : Nat) : Nat := 256 / max (tyBits t) (tyBits ts)

/-- Whether an F word decodes (R110). [entry 17 DEDUCED] Where an opcode always names a vector (VBCAST, VEXT, VINS, REDADD,
REDMAX), KIND 0 decodes with the types that a scalar instruction may have, and has the effect of KIND 1. [entry 143 DESIGN
CHOICE] -/
def fDecodes (sp : FSpec) (a : FArgs) : Bool :=
  let vec := a.kind == 1
  let t := a.t.toNat; let ts := a.ts.toNat
  (sp.cls != .pred || !vec) && typeOk sp.cls vec t &&
  roleOk vec sp.rd a.rd.toNat && roleOk vec sp.ra a.ra.toNat &&
  (if a.i = 1 then
     decide (1 ≤ sp.imm) && (sp.imm != 2 || decide (a.imm.toNat < 256 / tyBits t))
   else
     sp.imm != 2 && roleOk vec sp.rb a.rb.toNat && roleOk vec sp.rc a.rc.toNat &&
     (if sp.cls = .cvt then
        typeOk .cvt vec ts &&
        (!vec || (decide ((a.rb.toNat + 1) * cvtCount t ts ≤ 256 / tyBits ts) &&
                  decide ((a.rc.toNat + 1) * cvtCount t ts ≤ 256 / tyBits t)))
      else ts == 0 && a.scale == 0))

/-! ### Handles (R144 to R146) -/

def Tile.shelfAt (x : Tile) (h : Nat) : Shelf := sget {} x.shelf h

def Shelf.place (e : Shelf) : Nat := bits e.w0 0 2
def Shelf.keep (e : Shelf) : Bool := e.w0.testBit 2
def Shelf.pair (e : Shelf) : Bool := e.w0.testBit 3
def Shelf.spill (e : Shelf) : Bool := e.w0.testBit 4
def Shelf.wide (e : Shelf) : Bool := e.w0.testBit 5
def Shelf.ab (e : Shelf) : Bool := e.w0.testBit 6
def Shelf.pairH (e : Shelf) : Nat := bits e.w0 8 6
def Shelf.gen (e : Shelf) : Nat := bits e.w0 16 16
def Shelf.length (e : Shelf) : Nat := bits e.w0 32 32
def Shelf.base (e : Shelf) : Nat := if e.place = 3 then bits e.w1 0 40 else bits e.w1 0 32
def Shelf.spillRow (e : Shelf) : Nat := bits e.w1 32 11

/-- The live copy selector of the partition that holds a tile (R144, R238). [entry 39 DEDUCED] -/
def State.copySel (s : State) (t : Nat) : Bool :=
  match s.tilePart t with
  | some n => (s.rf IMG_COPY_SEL_SEL).testBit n
  | none => false

/-- The entry that handle `h` resolves to under a live copy selector, or none when resolution fails (R144). -/
def State.resolveIdx (s : State) (t h : Nat) (sel : Bool) : Option Nat :=
  let x := s.tile t
  let e := x.shelfAt h
  let r : Option Nat :=
    if !e.pair then some h
    else if e.ab = sel then some h
    else
      let o := x.shelfAt e.pairH
      if o.pair && o.pairH == h && o.ab != e.ab then some e.pairH else none
  match r with
  | some i => if (x.shelfAt i).place = 0 then none else some i
  | none => none

/-- The resolved handle, under a copy selector and under that of the tile's partition. [entry 39 DEDUCED] -/
def State.resolveWith (s : State) (t h : Nat) (sel : Bool) : Option Handle :=
  (s.resolveIdx t h sel).map fun i =>
    let e := (s.tile t).shelfAt i
    { place := e.place, base := e.base, len := e.length, wide := e.wide, entry := i, gen := e.gen }

def State.resolve (s : State) (t h : Nat) : Option Handle := s.resolveWith t h (s.copySel t)

/-- The global address of byte `o` of a resolved handle (R146, Table MD-8). -/
def State.handleGlobal (s : State) (t : Nat) (h : Handle) (o : Nat) : Nat :=
  if h.place = 3 then 2 ^ 62 + s.modNum * 2 ^ 52 + (h.base + o)
  else s.modNum * 2 ^ 52 + tileY t * 2 ^ 43 + tileX t * 2 ^ 34 + (h.base + o)

/-! ### Queues -/

/-- Depth of a queue: 0 to 7 for q0 to q7, 8 to 15 for o0 to o7. -/
def State.qDepth (s : State) (t k : Nat) : Nat :=
  if s.rf (TILE_QBIND_KIND t k) = 0 then 0 else s.rf (TILE_QBIND_DEPTH t k)
def Tile.inQ (x : Tile) (k : Nat) : List QEnt := sget [] x.inq k
def Tile.outE (x : Tile) (k : Nat) : List OEnt := sget [] x.outq k
def Tile.outQ (x : Tile) (k : Nat) : List Entry := (x.outE k).map (·.data)
def Tile.spillQ (x : Tile) (k : Nat) : List QEnt := sget [] x.spill k
/-- Free entries of an input queue. -/
def State.inRoom (s : State) (t k : Nat) : Nat := s.qDepth t k - ((s.tile t).inQ k).length
/-- Free entries of an output queue. -/
def State.outRoom (s : State) (t k : Nat) : Nat := s.qDepth t (8 + k) - ((s.tile t).outQ k).length

/-- Task states (Table TL-2). -/
def State.taskSt (s : State) (t k : Nat) : Nat := s.rf (TILE_TASK_STATE_STATE t k)

/-- The firing condition of R86 over a configuration. -/
def State.fits (s : State) (t inM outM q : Nat) : Bool :=
  (List.range 8).all (fun j => !inM.testBit j || decide (q ≤ ((s.tile t).inQ j).length)) &&
  (List.range 8).all (fun j => !outM.testBit j || decide (q ≤ s.outRoom t j))

/-- The firing condition of a WAITING task: a task that yielded keeps the configuration of its firing (R87, R92). -/
def State.firable (s : State) (t k : Nat) : Bool :=
  let x := (s.tile t).task k
  if x.mid then s.fits t x.inMask x.outMask x.quantum
  else s.fits t (s.rf (TILE_TASK_CFG_IN_MASK t k)) (s.rf (TILE_TASK_CFG_OUT_MASK t k))
    (max 1 (s.rf (TILE_TASK_CFG_QUANTUM t k)))

/-- Tasks of the tile may fire: RUN is 1, the tile is live, and its partition's tasks fire. [entry 28 DEDUCED] -/
def State.mayFire (s : State) (t : Nat) : Bool :=
  s.rb (TILE_CTRL_RUN t) && s.tileLive t &&
  (match s.tilePart t with
   | some n => s.tasksFire n
   | none => false)

/-- WAITING tasks whose firing condition holds become READY, with the configuration that the firing takes (R86, R92). [entry 26 DEDUCED] -/
def State.promote (s : State) (t : Nat) : State :=
  if s.mayFire t then
    s.forEach (List.range 16) fun s k =>
      if s.taskSt t k = 1 ∧ s.firable t k then
        (s.wf (TILE_TASK_STATE_STATE t k) 2).updTile t fun x =>
          if (x.task k).mid then x
          else x.setTask k { x.task k with
            entry := s.rf (TILE_TASK_CFG_ENTRY t k), inMask := s.rf (TILE_TASK_CFG_IN_MASK t k)
            outMask := s.rf (TILE_TASK_CFG_OUT_MASK t k), quantum := max 1 (s.rf (TILE_TASK_CFG_QUANTUM t k))
            urgent := s.rb (TILE_TASK_CFG_URGENT t k) }
      else s
  else s

/-- An entry joins an input queue; one for an extended queue goes to the spill area after its spilled entries
(Table FB-3, step 4). -/
def State.pushIn (s : State) (t k : Nat) (e : QEnt) : State :=
  let s1 := s.updTile t fun x =>
    if (x.spillQ k).isEmpty then { x with inq := sset [] x.inq k (x.inQ k ++ [e]) }
    else { x with spill := sset [] x.spill k (x.spillQ k ++ [e]) }
  s1.promote t

/-- Whether `n` entries for input queue `k` find room: in the queue, or in the spill area while it is extended. -/
def State.roomIn (s : State) (t k n : Nat) : Bool :=
  if ((s.tile t).spillQ k).isEmpty then decide (n ≤ s.inRoom t k)
  else decide (((s.tile t).spill.map fun e => e.2.length).sum + n ≤ 1024)

/-- The head entry leaves an input queue; its credit starts back to the source (R164). -/
def State.popIn (s : State) (t k : Nat) : State :=
  let s1 : State := match ((s.tile t).inQ k).head?.bind (·.src) with
    | some o => { s with credits := s.credits ++ [{ origin := o, snk := t, snkQ := k }] }
    | none => s
  s1.updTile t fun x => { x with inq := sset [] x.inq k (x.inQ k).tail }

/-- An entry joins an output queue, with what its operation says of its type (R107). -/
def State.pushOutE (s : State) (t k : Nat) (e : OEnt) : State :=
  s.updTile t fun x => { x with outq := sset [] x.outq k (x.outE k ++ [e]) }
def State.pushOut (s : State) (t k : Nat) (e : Entry) (ty : EType := .unknown) : State :=
  s.pushOutE t k { data := e, ty := ty }

/-- `n` head entries leave an output queue. -/
def State.popOut (s : State) (t k n : Nat) : State :=
  (s.updTile t fun x => { x with outq := sset [] x.outq k ((x.outE k).drop n) }).promote t

/-- The head entry of an input queue. -/
def State.headIn (s : State) (t k : Nat) : Option Entry := ((s.tile t).inQ k).head?.map (·.data)

/-! ### Issue of an instruction -/

/-- What an instruction that passed its guard does: it completes and the next one follows, it continues at an index, it
ends its firing in the state given, it faults at issue with a code, it blocks with a WAIT_ON code (plus 32 times the
accumulator for code 17), or it waits on an
interlock without a task switch (R129). -/
inductive Issue
  | done (s : State)
  | jump (s : State) (pc : Nat)
  | leave (s : State)
  | fault (code : Nat)
  /-- A fault whose check advanced counters of the state given. -/
  | faultIn (s : State) (code : Nat)
  | block (wait : Nat)
  | wait

/-- The core selects no task any more. -/
def State.deselect (s : State) (t k : Nat) : State := s.updTile t fun x => { x with cur := none, last := k }

/-- A disable that waited for the task to end, yield or block takes effect (R92); else the state is the one given. -/
def State.leaveTask (s : State) (t k st : Nat) (mid : Bool) : State :=
  let x := (s.tile t).task k
  let st' := if x.disablePending then (if x.reenable then 1 else 0) else st
  let s1 := (s.wf (TILE_TASK_STATE_STATE t k) st').updTile t fun y =>
    y.setTask k { x with mid := mid && !x.disablePending, disablePending := false, reenable := false }
  (s1.deselect t k).promote t

/-- A tile-class fault stops the task, its program counter on the instruction (R91, R130). A disable that was pending is
dropped: the task stays FAULTED until ENABLE is written 0 and then 1. [entry 140 DESIGN CHOICE] -/
def State.taskFault (s : State) (t k code : Nat) : State :=
  let s1 := (s.wf (TILE_TASK_STATE_STATE t k) 5).updTile t fun y =>
    y.setTask k { y.task k with disablePending := false, reenable := false }
  (s1.deselect t k).raiseTile t code

/-- The running task of a tile whose core can issue: selected, RUNNING, RUN at 1, the tile live. -/
def State.running (s : State) (t : Nat) : Option Nat :=
  if s.rb (TILE_CTRL_RUN t) && s.tileLive t then
    match (s.tile t).cur with
    | some k => if s.taskSt t k = 3 then some k else none
    | none => none
  else none

/-- The word at the program counter is marked damaged in the instruction buffer (R134). -/
def Tile.damaged (x : Tile) (pc : Nat) : Bool := x.ibuf.any fun e => e.g == pc / 4 && e.marks.testBit (pc % 4)

/-- A group of the instruction buffer becomes the most recently used one (R398). -/
def Tile.useGroup (x : Tile) (g : Nat) : Tile :=
  { x with ibuf := x.ibuf.filter (·.g == g) ++ x.ibuf.filter (·.g != g) }

/-- The program counter of a task moves on, and the group that it issued from has been used (R398). -/
def State.setPc (s : State) (t k pc : Nat) : State :=
  (s.updTile t fun x => x.useGroup (s.rf (TILE_TASK_STATE_PC t k) / 4)).wf (TILE_TASK_STATE_PC t k) pc

/-- An issue completed for task `k`. -/
def State.conclude (s : State) (t k : Nat) : Issue → State
  | .done s' => s'.setPc t k (s'.rf (TILE_TASK_STATE_PC t k) + 1)
  | .jump s' pc => s'.setPc t k pc
  | .leave s' => s'
  | .fault code => s.taskFault t k code
  | .faultIn s' code => s'.taskFault t k code
  | .block w =>
    let s1 := (s.bump (TILE_BLOCKS_COUNT t)).wf (TILE_TASK_STATE_WAIT_ON t k) (w % 32)
    (s1.updTile t fun x => x.setTask k { x.task k with waitAcc := w / 32 }).leaveTask t k 4 true
  | .wait => s

/-- The core of a tile issues an instruction: fetch range and damage, decoding, then its body (R110, R126, R130,
R134). With no running task nothing issues. [entries 16 DESIGN CHOICE, 17 DEDUCED] A program counter that passes 6,143
stands at 6,144, and the next issue faults there. [entry 145 DESIGN CHOICE] -/
def State.issue (s : State) (t : Nat) (decodes : Bool) (body : Nat → Issue) : State :=
  match s.running t with
  | none => s
  | some k =>
    let pc := s.rf (TILE_TASK_STATE_PC t k)
    s.conclude t k
      (if 6143 < pc then .fault 0x100B
       else if (s.tile t).damaged pc then .fault 0x1010
       else if !decodes then .fault 0x1001
       else body k)

/-- An instruction under a guard that is one bit: with a false guard it does nothing (R94). -/
def State.issueG (s : State) (t : Nat) (g : Guard) (decodes : Bool) (body : Nat → Issue) : State :=
  s.issue t decodes fun k => if ((s.tile t).guard k g).testBit 0 then body k else .done s

/-- The lowest source code among the issue checks that an instruction breaks (R130); 0 when it breaks none. -/
def lowest (l : List (Bool × Nat)) : Nat :=
  l.foldl (fun m p => if p.1 && (m == 0 || decide (p.2 < m)) then p.2 else m) 0

/-- The body runs when no issue check is broken. -/
def checked (l : List (Bool × Nat)) (body : Issue) : Issue := if lowest l = 0 then body else .fault (lowest l)

end Sys2Proof.Machine
end

