-- ==== Sys2Proof/Machine/Views.lean ====
section
/-! DEFINITION. Register fields whose value is computed from the state, and the windows of PTT, PEPT and SES onto
their entries. -/

namespace Sys2Proof.Machine

/-! ### Fields computed on a tile page -/

/-- TILE.STATUS.STATE (Table TL-6). -/
def State.tileStatus (s : State) (t : Nat) : Nat :=
  if s.fenced t || s.plainFenced (plainOf t) then 3
  else if s.plnState (plainOf t) = 1 then 4
  else if !s.rb (TILE_CTRL_RUN t) then 0
  else if (s.tile t).cur.isSome then 2
  else 1

/-- The tile page fields that are computed. -/
def State.viewTile (s : State) (t rel lo : Nat) : Option Nat :=
  let x := s.tile t
  if rel = 0x108 then
    (if lo = 0 then some (s.tileStatus t)
     else if lo = 4 then some (x.cur.getD x.last)
     else if lo = 8 then some (b2n x.cur.isSome)
     else some x.mq.length)
  else if rel = 0x120 then some ((s.plain (plainOf t)).tileCyc - x.cycBase)
  else if 0x300 ≤ rel ∧ rel < 0x380 then
    let k := (rel - 0x300) / 8
    if lo = 8 then some (s.qDepth t k)
    else if k < 8 then some (x.inQ k).length else some (s.outRoom t (k - 8))
  else if 0x500 ≤ rel ∧ rel < 0x540 then some (x.spillQ ((rel - 0x500) / 8)).length
  else if 0x700 ≤ rel ∧ rel < 0x740 ∧ lo = 8 then
    some ((sget {} x.streams ((rel - 0x700) / 8)).xfers.filter fun y => !y.landed).length
  else none

/-! ### Lanes -/

/-- Failed lanes of a group. -/
def PMap.failed (m : PMap) (e l d pl g : Nat) : Nat :=
  (m.lanes.filter fun x => x.edge == e && x.link == l && x.dir == d && x.plane == pl && x.group == g).length
/-- Spares left in a group (R67). -/
def PMap.spares (m : PMap) (e l d pl g : Nat) : Nat := 4 - m.failed e l d pl g

/-- The groups of an edge that have failed lanes, with how many failed. -/
def PMap.groupsHit (m : PMap) (e : Nat) : List Nat :=
  let ls := m.lanes.filter (·.edge == e)
  let keys := (ls.map fun x => (x.link, x.dir, x.plane, x.group)).eraseDups
  keys.map fun k => (ls.filter fun x => (x.link, x.dir, x.plane, x.group) == k).length

/-- Fields of PLN, MESH and REPR that are computed. -/
def State.viewPlain (s : State) (kd : PageKind) (p rel lo : Nat) : Option Nat :=
  let q := s.plain p
  let m := q.map
  match kd with
  | .pln =>
    if rel = 0x100 ∧ lo = 8 then some ((s.plainPart p).getD 0)
    else if rel = 0x100 ∧ lo = 12 then some (b2n (s.plainPart p).isSome)
    else if rel = 0x108 then
      (if s.plnState p = 4 then none
       else if lo = 0 then some m.spareSites else if lo = 8 then some m.spareRows
       else if lo = 10 then some m.retired.length else some (m.rows.map fun r => (m.bypOf r).length).sum)
    else none
  | .mesh =>
    if rel = 0x108 ∧ lo = 9 then some (b2n (decide (s.rf (MESH_ROUND_COUNT p) < q.settle)))
    else if rel = 0x110 ∧ lo ≤ 4 then
      let ok := fun r : Nat => s.plnState r == 0 || s.plnState r == 2
      let gated := fun e => match acrossEdge p e with
        | some r => (s.plainPart p).isSome && s.plainPart r == s.plainPart p && ok p && ok r
        | none => false
      let off := fun e => match acrossEdge p e with
        | some r => gated e && (s.rf (MESH_ROUND_COUNT p) != s.rf (MESH_ROUND_COUNT r) || q.meshSub != (s.plain r).meshSub)
        | none => false
      some ((List.range 4).map fun e => (if lo = 4 then b2n (gated e) else b2n (off e)) * 2 ^ e).sum
    else none
  | .repr =>
    if 0x140 ≤ rel ∧ rel < 0x160 ∧ 17 ≤ lo then
      let e := (rel - 0x140) / 8
      let rim := match e with
        | 0 => decide (p < 8)
        | 1 => p % 8 == 7
        | 2 => decide (56 ≤ p)
        | _ => p % 8 == 0
      if lo = 17 then some (b2n rim) else some 1
    else if s.plnState p = 4 then none
    else if 0x140 ≤ rel ∧ rel < 0x160 then
      let e := (rel - 0x140) / 8
      let hit := m.groupsHit e
      if lo = 0 then some (4 - hit.foldl max 0)
      else if lo = 8 then some (min 255 hit.length)
      else some (b2n (q.lostLinks.any (·.1 == e)))
    else if rel = 0x188 then
      let e := s.rf (REPR_LANE_SEL_EDGE p); let l := s.rf (REPR_LANE_SEL_LINK p)
      let d := s.rf (REPR_LANE_SEL_DIR p); let pl := s.rf (REPR_LANE_SEL_PLANE p)
      let g := s.rf (REPR_LANE_SEL_GROUP p)
      if lo = 0 then some (m.spares e l d pl g)
      else
        let errs := q.laneErr.filter fun x =>
          x.1.edge == e && x.1.link == l && x.1.dir == d && x.1.plane == pl && x.1.group == g
        let w := errs.foldl (fun b x => if b.2 < x.2.length then (x.1.lane, x.2.length) else b) (0, 0)
        if lo = 3 then some (min 255 w.2) else some w.1
    else if 0x200 ≤ rel ∧ rel < 0x410 then
      let r := (rel - 0x200) / 8
      let b := m.bypOf r
      match lo with
      | 0 => some ((b[0]?.map (·.col)).getD 0)
      | 7 => some (b2n b[0]?.isSome)
      | 8 => some ((b[1]?.map (·.col)).getD 0)
      | 15 => some (b2n b[1]?.isSome)
      | 16 => some (b2n (m.rowRetired r))
      | 17 => some (b2n (!m.rowRetired r && !m.mapped r))
      | 18 => some (if m.mapped r then (m.rows.idxOf? r).getD 0 else 0)
      | 24 => some (b2n ((b[0]?.map (·.field)).getD false))
      | 25 => some (b2n ((b[1]?.map (·.field)).getD false))
      | 26 => some (b2n (m.retired.any fun x => x.col == r && x.field))
      | _ => some (b2n (q.cleared.any (·.2 == r)))
    else none
  | _ => none

/-- PEPT entry of a virtual page (Table ME-6), as one field. -/
def peptEntry (n vpn : Nat) : Fk := ⟨0x80000000 + (n * 2 ^ 19 + vpn) * 8, 0, 64⟩
/-- Word `w` of timetable entry `e` (Table TB-2), as one field. -/
def pttWord (n e w : Nat) : Fk := ⟨0x40000000 + (n * 1024 + e) * 32 + w * 8, 0, 64⟩

/-- The latch word of Table CS-17: bit 0 and bit 1 as given, then the owner's fields while it is held or BROKEN. -/
def Latch.word (l : Latch) (b0 b1 : Bool) : Nat :=
  b2n b0 + b2n b1 * 2 +
    (if l.st = 0 then 0
     else l.kind * 8 + l.part * 32 + (if l.kind = 3 then l.x * 2 ^ 9 + l.y * 2 ^ 18 else 0) + l.epoch * 2 ^ 32)

/-- A halt record as HALT_POP and HALT_HEAD return it (Table ST-8). -/
def Halt.word (h : Halt) : Nat :=
  h.vpn + h.reason * 2 ^ 19 + b2n h.write * 2 ^ 20 + tileX h.tile * 2 ^ 21 + tileY h.tile * 2 ^ 30 + h.sd * 2 ^ 39 +
    h.waiters * 2 ^ 42 + 2 ^ 63

/-- The shelf entries of a partition's tiles that satisfy a test, with their tiles. -/
def State.shelfIn (s : State) (n : Nat) (f : Shelf → Bool) : List (Nat × Shelf) :=
  s.tiles.flatMap fun (e : Nat × Tile) =>
    if s.tilePart e.1 = some n then (e.2.shelf.filter fun h => f h.2).map fun h => (e.1, h.2) else []

/-- PKS.HANDLE_BYTES: the lengths of the honoured entries (R298). [entry 86 DEDUCED] -/
def State.handleBytes (s : State) (n : Nat) : Nat := ((s.shelfIn n (·.hon)).map fun x => x.2.length).sum

/-- PKS.EDGE_BYTES: the sum of the enabled range lengths, live or under a reader of the shadows. -/
def edgeBytes (get : Fk → Nat) (n : Nat) : Nat :=
  ((List.range 16).map fun k => get (PKS_RANGE_EN n k) * get (PKS_LENGTH n k)).sum

/-- What the PKS declarations of a partition add to the keep-set. -/
def pksBytes (get : Fk → Nat) (n : Nat) : Nat := edgeBytes get n + get (PKS_HANDLE_BUDGET_BYTES n)

/-- The keep-set S in bytes (Table HU-2). -/
def State.keepSet (s : State) : Nat :=
  0x6000000 + s.rf LDG_POOL_PAGES * 0x200000 + ((List.range 16).map (pksBytes s.rf)).sum

/-- The value that a field has or, where a seam has captured one for it, will have. -/
def State.comingValue (s : State) (k : Fk) : Nat :=
  (s.applies.findSome? fun a => a.pages.findSome? fun x => sget? x.2 k.key).getD (s.rf k)

/-- The most that S can come to with a pool of `pages` pages and the declarations of partition `n0` as `get` gives them, whenever the
captures of other partitions apply (R297). -/
def State.keepMost (s : State) (pages n0 : Nat) (get : Fk → Nat) : Nat :=
  0x6000000 + pages * 0x200000 +
    ((List.range 16).map fun n =>
      if n = n0 then pksBytes get n else max (pksBytes s.rf n) (pksBytes s.comingValue n)).sum

/-- 1.3 × E_backup(S) in joules, rounded up: 338 J and 52.8125 nJ a byte (14 "The hold-up pack and arming"). [entry 86 DEDUCED] -/
def State.armNeed (s : State) : Nat := ceilDiv (338000000000 * 16 + s.keepSet * 845) 16000000000

/-- Keep data of one stripe (R317), and whether some backup slot is ready to be written: READY, with stripes for S and the
directory (R316). -/
def stripeBytes : Nat := 917504
/-- [entry 89 DEDUCED] -/
def State.slotReady (s : State) : Bool :=
  (List.range 2).any fun k =>
    s.rf (CHST_BSLOT_STATE k) == 0 && decide (ceilDiv s.keepSet stripeBytes + 1 ≤ s.rf (CHST_BSLOT_STRIPES k))

/-- Image store slots' blocks, and the blocks that are free (Table CH-3, R320). -/
def State.imageFree (s : State) : Nat :=
  256 * (5464 - 128 - s.rf CHST_ZONE_USER_BLOCKS) - 16 * 64 - (s.chest.imgs.map fun e => e.2.blocks).sum

/-- The fields of a partition's queues and watches that are computed. -/
def State.viewPart (s : State) (kd : PageKind) (n rel lo : Nat) : Option Nat :=
  let q := s.part n
  match kd with
  | .part => if rel = 0x108 ∧ lo = 6 then some (s.rf MOD_STATUS_READY) else none
  | .pq =>
    if rel = 0x300 then
      some ((List.range 16).map fun j => b2n (!(sget [] q.dma j).isEmpty) * 2 ^ j).sum
    else none
  | .pstr =>
    if rel = 0x108 ∧ lo = 0 then some (b2n (!q.halts.isEmpty))
    else if rel = 0x108 ∧ lo = 8 then some q.halts.length
    else if rel = 0x110 then some (bits ((q.halts.head?.map Halt.word).getD 0) lo 64)
    else if rel = 0x118 then some ((q.halts.head?.map Halt.word).getD 0)
    else none
  | .pept =>
    if rel = 0x110 ∧ lo = 0 then
      some (srange s.shd ((0x80000000 + n * 2 ^ 22) * 64) ((0x80000000 + (n + 1) * 2 ^ 22) * 64)).length
    else none
  | .pks =>
    if rel = 0x108 then some (s.handleBytes n)
    else if rel = 0x110 then some (edgeBytes s.rf n)
    else if rel = 0x118 ∧ lo = 16 then some (min 65535 (s.shelfIn n (·.excl)).length)
    else if rel = 0x120 then
      some (((s.shelfIn n (·.hon)).filter fun x => s.plnLevel (plainOf x.1) == 3).map fun x => x.2.length).sum
    else none
  | .ptt =>
    let e := s.rf (PTT_SEL_ENTRY n)
    let r := sget {} q.rt e
    if rel = 0x128 then
      (if lo = 0 then some (ofSigned r.due 48) else if lo = 48 then some (b2n r.armed)
       else if lo = 49 then some (b2n r.below) else some (b2n r.spent))
    else if rel = 0x130 then some r.fires
    else none
  | .plg => if rel = 0x118 then some q.ledger.length else none
  | .pstl =>
    let tiles := s.tiles.filter fun (e : Nat × Tile) => s.tilePart e.1 == some n
    if rel = 0x108 ∧ lo = 0 then some (b2n !s.watchFrozen n)
    else if rel = 0x108 ∧ lo = 1 then some (b2n (s.watchFrozen n))
    else if rel = 0x108 then some (b2n (tiles.any fun (e : Nat × Tile) => !e.2.spill.isEmpty))
    else if rel = 0x110 then some (s.quietNs n * 33 / 20)
    else none
  | .pflt =>
    let w := max 1 (s.rf (PFLT_CTRL_RECOVERY_WINDOW_S n)) * 1000000000
    if rel = 0x108 ∧ lo = 8 then some (min 15 (q.recoveries.filter fun r => decide (s.time < r + w)).length)
    else if rel = 0x108 ∧ lo = 16 then
      some ((q.quietFrom + max 1 (s.rf (PFLT_CTRL_QUIET_MS n)) * 1000000 - s.time) / 1000)
    else none
  | _ => none

/-- The inputs of timebase `b` whose receivers are watched: TBb, and SRC_B and SRC_Z where they are used (R252). -/
def State.tbInputs (s : State) (b : Nat) : List Nat :=
  let m := s.rf (TBS_TB_CFG_MODE b)
  [b] ++ (if m = 1 ∨ (m = 2 ∧ s.rb (TBS_TB_CFG_DIR_EN b)) then [s.rf (TBS_TB_CFG_SRC_B b)] else []) ++
    (if (m = 1 ∨ m = 2) ∧ s.rb (TBS_TB_CFG_Z_EN b) then [s.rf (TBS_TB_CFG_SRC_Z b)] else [])

/-- The module page fields that are computed. -/
def State.viewModule (s : State) (kd : PageKind) (inst rel lo : Nat) : Option Nat :=
  match kd with
  | .hst =>
    if rel = 0x110 ∧ lo = 0 then some (2 ^ s.pcie.numVfs - 1)
    else if rel = 0x110 then
      some ((List.range 16).map fun n => b2n (s.pcie.vfReset.contains (n + 1)) * 2 ^ n).sum
    else none
  | .flt =>
    if rel = 0x120 then
      let c := s.rf FLT_SRC_SEL_CODE
      if !faultCodes.contains c then some 0
      else if lo = 0 then some (s.rf (ovrREACT c))
      else if lo = 4 then some (s.rf (ovrEN c))
      else if lo = 8 then some (faultMin c)
      else some 1
    else none
  | .lat =>
    if rel = 0xB08 then
      let l := s.latch (s.rf LAT_PEEK_SEL_LATCH)
      some (l.word (l.st == 1) (l.st == 2))
    else none
  | .spn =>
    if rel = 0x180 then some s.modNum
    else if 0x400 ≤ rel ∧ inst ≠ 0 then some 0
    else none
  | .ldg =>
    if rel = 0x118 then
      some (s.rf LDG_POOL_PAGES * 8192 - ((List.range 16).map fun n => s.rf (PLG_CAPACITY_RECORDS n)).sum)
    else if rel = 0x110 ∧ lo = 1 then some (s.rf PWR_STATUS_ARMED)
    else none
  | .chst =>
    if rel = 0x100 ∧ lo = 1 then some (b2n (s.slotReady && s.rb CHST_STATUS_KEY_OK))
    else if rel = 0x108 ∧ lo = 16 then some s.imageFree
    else none
  | .keep => if rel = 0x100 ∧ lo = 0 then some (s.rf MOD_STATUS_KEEPER_UP) else none
  | .pwr =>
    if rel = 0x118 ∧ lo = 32 then some s.armNeed
    else if rel = 0x120 then some s.keepSet
    else none
  | .img =>
    if 0x280 ≤ rel ∧ rel < 0x300 ∧ lo = 8 then
      let n := (rel - 0x280) / 8
      some (b2n (s.tiles.any fun (e : Nat × Tile) => s.tilePart e.1 == some n &&
        e.2.streams.any fun (d : Nat × Stream) => d.2.old && (1 ≤ s.rf (TILE_STREAM_STATE_STATE e.1 d.1) &&
          s.rf (TILE_STREAM_STATE_STATE e.1 d.1) ≤ 3)))
    else none
  | .tbs =>
    if rel = 0x110 then some s.mtime
    else if 0x200 ≤ rel ∧ rel < 0x600 ∧ (rel - 0x200) % 0x80 = 0x20 then
      some (ofSigned (s.tbPos ((rel - 0x200) / 0x80)) 64)
    else if 0x200 ≤ rel ∧ rel < 0x600 ∧ (rel - 0x200) % 0x80 = 0x30 ∧ lo = 4 then
      some (b2n ((s.tbInputs ((rel - 0x200) / 0x80)).any fun i => (s.tb i).rxFrom.isSome))
    else none
  | .ses =>
    let i := sget {} s.ing (s.rf SES_ISEL_SES)
    let e := s.rf SES_ESEL_SES
    let x := sget {} s.egr e
    let recs := (List.range 16).flatMap fun n => (s.part n).ledger.filter (·.eses == e)
    match rel with
    | 0x108 => some i.frames
    | 0x110 => some i.incomplete
    | 0x118 => some i.dropped
    | 0x120 => some i.badfmt
    | 0x128 => some i.last
    | 0x148 => some x.sent
    | 0x150 => some x.retx
    | 0x158 => some x.acked
    | 0x160 => some x.dups
    | 0x168 => some x.bads
    | 0x170 => some (recs.filter fun r => decide (0 < r.sends)).length
    | 0x178 => some (recs.filter fun r => r.rel.isNone).length
    | 0x180 => some (ofSigned (x.tokens / 65536) 32)
    | _ => none
  | _ => none

/-- The value of a computed register field. -/
def State.view (s : State) (off lo : Nat) : Option Nat :=
  match pageAt off with
  | some (.tile, t, rel) => s.viewTile t rel lo
  | some (kd, inst, rel) =>
    if isPartPage kd then s.viewPart kd inst rel lo
    else if kd = .pln ∨ kd = .mesh ∨ kd = .repr then s.viewPlain kd inst rel lo
    else s.viewModule kd inst rel lo
  | none => none

/-- A register word that is a window onto an entry: PEPT.ENTRY (R152), PTT.ENTRY0 to ENTRY3, the entries of SES. -/
def State.window (s : State) (off : Nat) : Option Nat :=
  let pick := fun (pg : Nat) (k : Fk) => if s.rb (hCTRL_SHADOW_VIEW pg) then s.sh k else s.rf k
  match pageAt off with
  | some (.pept, n, rel) =>
    if rel = 0x108 then some (pick (pageBase off) (peptEntry n (s.rf (PEPT_SEL_VPN n)))) else none
  | some (.ptt, n, rel) =>
    if 0x108 ≤ rel ∧ rel < 0x128 then
      some (pick (pageBase off) (pttWord n (s.rf (PTT_SEL_ENTRY n)) ((rel - 0x108) / 8)))
    else none
  | some _ => none
  | none => none

/-- STAGE_STATUS.DRAIN_REQUIRED: the shadow holds a drain-required change (R48, Table CS-15). -/
def State.drainRequired (s : State) (pg : Nat) : Bool :=
  match pageAt pg with
  | some (.part, n, _) =>
    s.sh (PART_GEOM_X0 n) != s.rf (PART_GEOM_X0 n) || s.sh (PART_GEOM_Y0 n) != s.rf (PART_GEOM_Y0 n) ||
      s.sh (PART_GEOM_W n) != s.rf (PART_GEOM_W n) || s.sh (PART_GEOM_H n) != s.rf (PART_GEOM_H n)
  | some (.pept, n, _) =>
    decide (64 < (srange s.shd ((0x80000000 + n * 2 ^ 22) * 64) ((0x80000000 + (n + 1) * 2 ^ 22) * 64)).length)
  | some (.ses, _, _) =>
    s.shd.any fun x =>
      let off := x.1 / 64
      let live := s.rf ⟨off, 0, 64⟩
      decide (0x101000 ≤ off) && decide (off < 0x181000) && off % 64 == 0 &&
        (bits x.2 1 3 != bits live 1 3 || bits x.2 18 4 != bits live 18 4)
  | some (.tbs, _, _) => !(srange s.shd ((pgTBS + 0x200) * 64) ((pgTBS + 0x600) * 64)).isEmpty
  | _ => false

end Sys2Proof.Machine
end

