-- ==== Sys2Proof/Machine/RegOps.lean ====
section
/-! DEFINITION. Reading and writing a register: access codes (R4), headers (R30 to R33), shadows (R47), counters (R6,
R32), fault registers (R340, R342, R344). -/

namespace Sys2Proof.Machine

/-- READY of the page of an offset; the tile page is ready while its plain is powered. -/
def State.pageReady (s : State) (off : Nat) : Bool :=
  match pageAt off with
  | some (.tile, t, _) => s.plnState (plainOf t) != 4
  | some _ => s.rb (hSTATUS_READY (pageBase off))
  | none => false

/-- The host reaches function `f` (0 PF0, k VF k): the link is at L0, PF0 is in no management reset, VF k exists (R34,
R352, R391). [entry 98 DEDUCED] -/
def State.fnUp (s : State) (f : Nat) : Bool :=
  s.pcie.l0 && (if f = 0 then !s.pcie.mgmtReset else decide (f ≤ s.pcie.numVfs))

/-- Function `f` reaches the pages of partition `n`: through PF0, or the partition's own VF (R34, Table CS-8). -/
def State.reaches (s : State) (f n : Nat) : Bool := decide (n < 16) && s.fnUp f && (f == 0 || f == n + 1)

/-- A write of function `f` takes effect on partition `n`'s pages; a backup discards it (R302). -/
def State.writes (s : State) (f n : Nat) : Bool := s.reaches f n && !s.frozen

/-- A write through PF0 to a page that PF0 alone reaches takes effect. -/
def State.pf0Writes (s : State) (f : Nat) : Bool := f == 0 && s.fnUp 0 && !s.frozen

/-- STAGE_STATUS.STATE is ARMED. -/
def State.armed (s : State) (pg : Nat) : Bool := s.rb (hSTAGE_ARMED pg)

/-- The key range of the shadows that belong to a page: its own registers, with the timetable entries of PTT, the page
table of PEPT and the session entries of SES. -/
def shadowRanges (pg : Nat) : List (Nat × Nat) :=
  let own := (pg * 64, (pg + 0x1000) * 64)
  match pageAt pg with
  | some (.ptt, n, _) => [own, ((0x40000000 + n * 1024 * 32) * 64, (0x40000000 + (n + 1) * 1024 * 32) * 64)]
  | some (.pept, n, _) => [own, ((0x80000000 + n * 2 ^ 22) * 64, (0x80000000 + (n + 1) * 2 ^ 22) * 64)]
  | some (.ses, _, _) => [own, (0x101000 * 64, 0x200000 * 64)]
  | _ => [own]

/-- The shadows of a page that differ from their live values. -/
def State.shadows (s : State) (pg : Nat) : SMap Nat :=
  (shadowRanges pg).flatMap fun r => srange s.shd r.1 r.2

/-- The shadows of a page discarded. -/
def State.dropShadows (s : State) (pg : Nat) : State :=
  (shadowRanges pg).foldl (fun s r => { s with shd := sclear s.shd r.1 r.2 }) s

/-- STAGE_STATUS.STATE: 0 CLEAN, 1 DIRTY, 2 ARMED (Table CS-14). -/
def State.stageState (s : State) (pg : Nat) : Nat := if s.armed pg then 2 else if (s.shadows pg).isEmpty then 0 else 1

/-- STAGE_CTRL.PART: the own partition on a partition page (Table CS-13). -/
def State.stagePart (s : State) (pg : Nat) : Nat :=
  match pageAt pg with
  | some (kd, n, _) => if isPartPage kd then n else s.rf (hSTAGE_PART pg)
  | none => 0

/-- The value of a field as a read returns it: a computed view, a captured counter, the shadow under SHADOW_VIEW, or
the live value; a WO field reads zero. -/
def State.readField (s : State) (off : Nat) (f : RegField) : Nat :=
  let k : Fk := ⟨off, f.lo, f.w⟩
  let pg := pageBase off
  if f.acc = .wo then 0
  else match s.view off f.lo with
    | some v => v % 2 ^ f.w
    | none =>
      if f.acc = .rc && s.rb (hCTRL_CNT_FREEZE pg) then sget (keyReset k.key) s.cap k.key
      else if f.staged && s.rb (hCTRL_SHADOW_VIEW pg) then s.sh k else s.rf k

/-- A word of the page header (Tables CS-1 to CS-6, CS-13, CS-14) (R3, R30). [entry 128 PRESUMED] -/
def State.readHeader (s : State) (off : Nat) : Nat :=
  let pg := pageBase off
  match pageAt off with
  | none => 0
  | some (kd, inst, rel) =>
    let r := fun k => s.rf k * 2 ^ k.lo
    if rel = 0x00 then blockCode kd + (if kd = .tile then 0 else inst) * 2 ^ 16 + 2 * 2 ^ 24
    else if rel = 0x08 then
      b2n (hasStaged kd) * 2 + b2n (hasFault kd) * 4 + b2n (isPartPage kd) * 8 +
        b2n ((pageFields kd).any fun f => f.acc == .rc) * 16
    else if rel = 0x10 then
      r (hCTRL_CNT_FREEZE pg) + r (hCTRL_SHADOW_VIEW pg) + r (hCTRL_STAGE_IRQ pg) + r (hCTRL_BLOCK pg)
    else if rel = 0x18 then
      b2n (s.pageReady off) + r (hSTATUS_FAULT_VALID pg) + b2n (hasStaged kd && s.stageState pg != 0) * 4
    else if rel < 0x40 ∧ !hasFault kd then 0
    else if rel = 0x20 then r (hFIRST_CODE pg) + r (hFIRST_REACT pg) + r (hFIRST_TIME pg)
    else if rel = 0x28 then
      r (hMORE_COUNT pg) + r (hMORE_POS pg) + r (hMORE_TB pg) + r (hMORE_POS_VALID pg) + r (hMORE_OVERFLOW pg)
    else if rel = 0x30 then
      (if hasStaged kd && s.rb (hCTRL_SHADOW_VIEW pg) then s.sh (hMASK pg) else s.rf (hMASK pg))
    else if rel = 0x38 then
      ((List.range 12).map fun c =>
        (if hasStaged kd && s.rb (hCTRL_SHADOW_VIEW pg) then s.sh (hREACT pg c) else s.rf (hREACT pg c)) *
          2 ^ (4 * c)).sum
    else if !hasStaged kd then 0
    else if rel = 0x40 then s.rf (hSTAGE_GROUP pg) + s.stagePart pg * 16 + b2n (s.armed pg) * 256
    else if rel = 0x48 then
      s.stageState pg + b2n (s.drainRequired pg) * 4 + r (hST_APPLIED pg) + r (hST_REFUSED pg) + r (hST_REASON pg) +
        r (hST_APPLY_COUNT pg)
    else 0

/-- A fused field that is computed: REPR.PASS RIM and PRESENT, SRC_REACT MIN and EXISTS. -/
def fusedView (off : Nat) (f : RegField) : Bool :=
  match pageAt off with
  | some (.repr, _, _) => f.base == 0x140 && (f.lo == 17 || f.lo == 18)
  | some (.flt, _, _) => f.base == 0x120 && (f.lo == 8 || f.lo == 12)
  | _ => false

/-- A K field before its page is READY: what the Keeper has loaded, a map's figures included, once it has loaded the pages of
step 7 of Table RS-2, and 0 before that (R33). -/
def State.keeperLoaded (s : State) (off : Nat) (f : RegField) : Nat :=
  if 6 ≤ s.keeper.phase then ((s.view off f.lo).map (· % 2 ^ f.w)).getD (s.rf ⟨off, f.lo, f.w⟩) else s.rf ⟨off, f.lo, f.w⟩

/-- What a register word reads while its page is not READY: fused values, K fields as loaded, resets (R33). -/
def State.readUnready (s : State) (off : Nat) : Nat :=
  match pageAt off with
  | none => 0
  | some (_, _, rel) =>
    if rel = 0 ∨ rel = 8 then s.readHeader off
    else if rel < 0x100 then 0
    else ((fieldsAt off).map fun f =>
      (if f.acc = .wo then 0 else if fusedView off f then (s.view off f.lo).getD 0
       else if keepLoaded off f then s.keeperLoaded off f else f.reset) * 2 ^ f.lo).sum

/-- A register word as a read returns it; an unassigned offset reads zero (R9). -/
def State.regWord (s : State) (off : Nat) : Nat :=
  if !s.pageReady off then s.readUnready off
  else if off % 0x1000 < 0x100 ∧ (pageAt off).isSome then s.readHeader off
  else match s.window off with
    | some v => v
    | none => ((fieldsAt off).map fun f => s.readField off f * 2 ^ f.lo).sum

/-- RC fields go back to their reset values after a read, unless the page is not READY or CNT_FREEZE holds a capture
(R6, R32, R33). -/
def State.regClear (s : State) (off : Nat) : State :=
  if s.pageReady off ∧ !s.rb (hCTRL_CNT_FREEZE (pageBase off)) then
    (fieldsAt off).foldl (fun s f => if f.acc = .rc then s.wf ⟨off, f.lo, f.w⟩ f.reset else s) s
  else s

/-- A field written under its access code: `v` the word written, `m` the bits covered (R4, R93) (R5, R8). -/
def State.writeField (s : State) (off v m : Nat) (f : RegField) : State :=
  let k : Fk := ⟨off, f.lo, f.w⟩
  let fm := bits m f.lo f.w
  let fv := bits v f.lo f.w
  match f.acc with
  | .rw | .rws =>
    let old := if f.staged then s.sh k else s.rf k
    let new := (old &&& (fm ^^^ (2 ^ f.w - 1))) ||| (fv &&& fm)
    if f.staged then s.wsh k new else s.wf k new
  | .w1c => s.wf k (s.rf k &&& ((fv &&& fm) ^^^ (2 ^ f.w - 1)))
  | _ => s

/-- A register word written, field by field. -/
def State.writeWord (s : State) (off v m : Nat) : State := (fieldsAt off).foldl (fun s f => s.writeField off v m f) s

/-- A CLEAR of a collector's record (R340). -/
def State.clearRecord (s : State) (pg : Nat) : State :=
  let s1 := s.wfs [(hFIRST_CODE pg, 0), (hFIRST_REACT pg, 0), (hFIRST_TIME pg, 0), (hMORE_COUNT pg, 0),
    (hMORE_POS pg, 0), (hMORE_TB pg, 0), (hMORE_POS_VALID pg, 0), (hMORE_OVERFLOW pg, 0), (hSTATUS_FAULT_VALID pg, 0)]
  match pageAt pg with
  | some (.flt, _, _) => s1.wfs [(FLT_FIRST_PAGE_OFFSET, 0), (FLT_FIRST_PAGE_TILE, 0), (FLT_FIRST_TIME_NS, 0)]
  | some (.pflt, n, _) => s1.wfs [(PFLT_FIRST_PAGE_VALUE n, 0), (PFLT_FIRST_TIME_NS n, 0)]
  | some (.hst, _, _) =>
    s1.wfs [(HST_BAD_ACCESS_OFFSET, 0), (HST_BAD_ACCESS_BYTES, 0), (HST_BAD_ACCESS_WRITE, 0), (HST_BAD_ACCESS_FUNC, 0)]
  | _ => s1

/-- Every field of a FAULT_REACT value lies within the range of its class (R344). -/
def reactOk (v : Nat) : Bool :=
  (List.range 12).all fun c =>
    decide ((reactRange c).1 ≤ bits v (4 * c) 4) && decide (bits v (4 * c) 4 ≤ (reactRange c).2)

/-- A write to FAULT_REACT on a page without staged fields (R344); the whole write is discarded when a field is out of
range. -/
def State.writeReact (s : State) (pg v m : Nat) : State :=
  let old := ((List.range 12).map fun c => s.rf (hREACT pg c) * 2 ^ (4 * c)).sum
  let new := ((old &&& (m ^^^ (2 ^ 64 - 1))) ||| (v &&& m)) % 2 ^ 48
  if reactOk new then s.forEach (List.range 12) fun s c => s.wf (hREACT pg c) (bits new (4 * c) 4)
  else s.wf FLT_STATUS_REACT_REFUSED 1

/-- The FAULT_MASK bits that exist: those of classes 7, 9 and 10 read 0 and ignore writes (R342). -/
def maskBits : Nat := 0x97F

/-- The counters of a page that count time come up to now: STRETCH_US of DRP. -/
def State.countTime (s : State) (pg : Nat) : State :=
  match pageAt pg with
  | some (.drp, p, _) => s.stretchTo p
  | _ => s

/-- A PAGE_CTRL write: a rise of CNT_FREEZE captures every RC counter of the page, a fall discards the capture (R32). -/
def State.writeCtrl (s : State) (pg v m : Nat) : State :=
  let s1 := [hCTRL_SHADOW_VIEW pg, hCTRL_STAGE_IRQ pg].foldl (fun s k => if m.testBit k.lo then s.wf k (bits v k.lo 1) else s)
    (s.countTime pg)
  let bm := bits m 32 32
  let s2 := s1.wf (hCTRL_BLOCK pg) ((s1.rf (hCTRL_BLOCK pg) &&& (bm ^^^ (2 ^ 32 - 1))) ||| (bits v 32 32 &&& bm))
  if !m.testBit 1 then s2
  else
    let was := s2.rb (hCTRL_CNT_FREEZE pg)
    let now := v.testBit 1
    let s3 := s2.wf (hCTRL_CNT_FREEZE pg) (b2n now)
    if now && !was then
      { s3 with cap := s3.fld.foldl (fun c (e : Nat × Nat) =>
          if pg * 64 ≤ e.1 ∧ e.1 < (pg + 0x1000) * 64 ∧
             (fieldsAt (e.1 / 64)).any (fun f => f.lo == e.1 % 64 && f.acc == .rc) then sins c e.1 e.2 else c) s3.cap }
    else if was && !now then { s3 with cap := sclear s3.cap (pg * 64) ((pg + 0x1000) * 64) }
    else s3

/-- FAULT_MORE, FAULT_MASK and FAULT_REACT of a page without staged fields; with staged fields the last two change the
shadow (R31). -/
def State.writeFaultReg (s : State) (off v m : Nat) : State :=
  let pg := pageBase off
  match pageAt off with
  | none => s
  | some (kd, _, rel) =>
    if !hasFault kd then s
    else if rel = 0x28 then (if (v &&& m).testBit 62 then s.clearRecord pg else s)
    else if rel = 0x30 then
      let new := fun old => ((old &&& (m ^^^ (2 ^ 64 - 1))) ||| (v &&& m)) &&& maskBits
      if hasStaged kd then s.wsh (hMASK pg) (new (s.sh (hMASK pg))) else s.wf (hMASK pg) (new (s.rf (hMASK pg)))
    else if rel = 0x38 then
      if hasStaged kd then
        s.forEach (List.range 12) fun s c =>
          let fm := bits m (4 * c) 4
          s.wsh (hREACT pg c) ((s.sh (hREACT pg c) &&& (fm ^^^ 15)) ||| (bits v (4 * c) 4 &&& fm))
      else s.writeReact pg v m
    else s

end Sys2Proof.Machine
end

