-- ==== Sys2Proof/Machine/StreamOps.lean ====
section
/-! DEFINITION. Starting, stopping and settling a stream (08 R184, R185, R192, R194, R196). -/

namespace Sys2Proof.Machine

def Tile.stream (x : Tile) (d : Nat) : Stream := sget {} x.streams d
def State.setStream (s : State) (t d : Nat) (v : Stream) : State :=
  s.updTile t fun x => { x with streams := sset {} x.streams d v }
def State.streamSt (s : State) (t d : Nat) : Nat := s.rf (TILE_STREAM_STATE_STATE t d)

/-- The queues that a descriptor names (R185): 0 to 7 for q0 to q7, 8 to 15 for o0 to o7. -/
def State.streamQueues (s : State) (t d : Nat) : List Nat :=
  let ring := s.rb (TILE_CFG_RING t d); let wr := s.rb (TILE_CFG_DIR t d)
  (if wr then [8 + s.rf (TILE_CFG_QD t d)]
   else if ring then [s.rf (TILE_CFG_NQ t d), 8 + s.rf (TILE_CFG_RQ t d)]
   else [s.rf (TILE_CFG_QD t d)]) ++
  (if s.rf (TILE_CFG_MODE t d) = 1 ∧ s.rb (TILE_CFG_IDX_SRC t d) then [s.rf (TILE_CFG_IDXQ t d)] else [])

/-- The descriptor reads LIST_H. -/
def State.streamLists (s : State) (t d : Nat) : Bool :=
  s.rf (TILE_CFG_MODE t d) == 0 || !s.rb (TILE_CFG_IDX_SRC t d)

/-- OUTSTANDING; 0 is treated as 1 (Table ST-7). -/
def State.streamOut (s : State) (t d : Nat) : Nat := max 1 (s.rf (TILE_CFG_OUTSTANDING t d))

/-- XFER in bytes. -/
def State.streamXfer (s : State) (t d : Nat) : Nat := 64 * 2 ^ s.rf (TILE_CFG_XFER t d)

/-- The checks of R185. -/
def State.streamOk (s : State) (t d : Nat) : Bool :=
  let ring := s.rb (TILE_CFG_RING t d); let wr := s.rb (TILE_CFG_DIR t d)
  let kind := fun q => s.rf (TILE_QBIND_KIND t q)
  let idxq := s.rf (TILE_CFG_MODE t d) == 1 && s.rb (TILE_CFG_IDX_SRC t d)
  let active := fun e => let st := s.streamSt t e; st == 1 || st == 2 || st == 3
  decide (s.rf (TILE_CFG_MODE t d) ≤ 1) && s.rf (TILE_CFG_XFER t d) != 3 && s.rf (TILE_COUNT_TOTAL t d) != 0 &&
  decide (s.rf (TILE_CFG_OUTSTANDING t d) ≤ 64) && s.rf (TILE_BASE_BASE t d) % 64 == 0 &&
  ((s.streamQueues t d).all fun q =>
     if idxq && q == s.rf (TILE_CFG_IDXQ t d) && !(!wr && !ring && q == s.rf (TILE_CFG_QD t d)) &&
        !(ring && q == s.rf (TILE_CFG_NQ t d)) then kind q == 1 || kind q == 2
     else kind q == 3) &&
  (!idxq || kind (s.rf (TILE_CFG_IDXQ t d)) == 1 || kind (s.rf (TILE_CFG_IDXQ t d)) == 2) &&
  ((List.range 8).all fun e => e == d || !active e || (s.streamQueues t d).all fun q => !(s.streamQueues t e).contains q) &&
  (s.resolve t (s.rf (TILE_CFG_DATA_H t d))).isSome &&
  (!s.streamLists t d || (s.resolve t (s.rf (TILE_CFG_LIST_H t d))).isSome) &&
  (!ring || (match s.resolve t (s.rf (TILE_CFG_RING_H t d)) with
    | some h => h.place != 3 &&
        decide (s.rf (TILE_RINGCFG_SLOTS t d) * s.rf (TILE_RINGCFG_SLOT_UNITS t d) * 64 ≤ h.len)
    | none => false)) &&
  !(ring && wr)

/-- A stream that may be started: IDLE, DONE or FAULTED (R184). -/
def State.streamIdle (s : State) (t d : Nat) : Bool :=
  let st := s.streamSt t d
  st == 0 || st == 4 || st == 5

/-- The handles resolved anew, at the start and at a cyclic restart (R192). -/
def State.streamHandles (s : State) (t d : Nat) (x : Stream) : Stream :=
  { x with old := false
           dataH := (s.resolve t (s.rf (TILE_CFG_DATA_H t d))).getD {}
           listH := if s.streamLists t d then (s.resolve t (s.rf (TILE_CFG_LIST_H t d))).getD {} else {}
           ringH := if s.rb (TILE_CFG_RING t d) then (s.resolve t (s.rf (TILE_CFG_RING_H t d))).getD {} else {} }

/-- A stream starts: POS and the status bits clear, and it runs from item 0 (R184). -/
def State.streamStart (s : State) (t d : Nat) : State :=
  (s.wfs [(TILE_STREAM_STATE_STATE t d, 1), (TILE_STREAM_STATE_REASON t d, 0), (TILE_STREAM_STATE_GEN_STALE t d, 0),
    (TILE_STREAM_STATE_CFG_REFUSED t d, 0), (TILE_STREAM_STATE_HOST_REFUSED t d, 0), (TILE_POS_ITEM t d, 0),
    (TILE_POS_UNITS_DONE t d, 0)]).setStream t d (s.streamHandles t d {})

/-- The partition by whose page table a tile's accesses are translated (R25). A tile in no partition runs no task, but PF0 can
start its streams: the spec names no table for them, and the model takes partition 0's, with its halt counters. [entry 137 DESIGN CHOICE] -/
def State.xpart (s : State) (t : Nat) : Nat := (s.tilePart t).getD 0

/-- A halt ends: PSTR.HALTED falls and LONGEST rises (Table ST-8), and the stall watch goes on (R177). -/
def State.haltEnd (s : State) (t d : Nat) : State :=
  let n := s.xpart t
  let us := (s.time - ((s.tile t).stream d).haltAt) / 1000
  ((s.wf (PSTR_HALTED_COUNT n) (s.rf (PSTR_HALTED_COUNT n) - 1)).wf (PSTR_LONGEST_MICROSECONDS n)
    (max us (s.rf (PSTR_LONGEST_MICROSECONDS n)))).watchSync n

/-- A STOPPING stream with nothing outstanding enters IDLE (R184). [entry 38 DEDUCED] -/
def State.streamSettle (s : State) (t d : Nat) : State :=
  if s.streamSt t d = 2 ∧ ((s.tile t).stream d).xfers.all (·.landed) then s.wf (TILE_STREAM_STATE_STATE t d) 0 else s

/-- A stop takes a RUNNING or HALTED_PAGE stream to STOPPING (R184). -/
def State.streamStop (s : State) (t d : Nat) : State :=
  let st := s.streamSt t d
  if st = 1 ∨ st = 3 then
    let s1 := if st = 3 then (s.haltEnd t d).setStream t d { (s.tile t).stream d with postWait := false } else s
    (s1.wf (TILE_STREAM_STATE_STATE t d) 2).streamSettle t d
  else s

/-- STREAM_CMD START: starts the stream or sets HOST_REFUSED (R184, R185). -/
def State.streamCmdStart (s : State) (t d : Nat) : State :=
  if s.streamIdle t d && s.streamOk t d then s.streamStart t d else s.wf (TILE_STREAM_STATE_HOST_REFUSED t d) 1

end Sys2Proof.Machine
end

