-- ==== Sys2Proof/Machine/TileRegs.lean ====
section
/-! DEFINITION. Writes to the tile page and to the shelf, from whichever writer (04 R92, R93; 06 R143; 07 R163, R166;
08 R184, R185), and the commands that stand for them. -/

namespace Sys2Proof.Machine

/-! ### The task table (R92) -/

/-- A write of ENABLE. -/
def State.taskEnable (s : State) (t k : Nat) (en : Bool) : State :=
  let st := s.taskSt t k
  let x := (s.tile t).task k
  let s1 := s.wf (TILE_TASK_CFG_ENABLE t k) (b2n en)
  if en then
    (if st = 3 then
       (if x.disablePending then s1.updTile t fun y => y.setTask k { x with reenable := true } else s1)
     else if st = 0 then
       ((s1.wf (TILE_TASK_STATE_STATE t k) 1).updTile t fun y => y.setTask k { x with mid := false }).promote t
     else s1)
  else if st = 3 then s1.updTile t fun y => y.setTask k { x with disablePending := true, reenable := false }
  else (s1.wf (TILE_TASK_STATE_STATE t k) 0).updTile t fun y => y.setTask k { x with mid := false }

/-- A write of RUN: setting it loads the credit counts of the circuit sources (R164). -/
def State.tileRun (s : State) (t : Nat) (run : Bool) : State :=
  let was := s.rb (TILE_CTRL_RUN t)
  let s1 := s.wf (TILE_CTRL_RUN t) (b2n run)
  if run && !was then
    (s1.forEach (List.range 8) fun s k =>
      if s.rf (TILE_QBIND_KIND t (8 + k)) = 1 then s.wf (TILE_QCRED_CREDITS t k) (s.rf (TILE_QCRED_CREDIT_INIT t k))
      else s).promote t
  else s1

/-! ### Queue binding (R163) -/

/-- Two ranges of queue RAM overlap. -/
def rangesMeet (a n b m : Nat) : Bool := decide (a < b + m) && decide (b < a + n)

/-- A queue holds an entry. -/
def Tile.holds (x : Tile) (k : Nat) : Bool :=
  if k < 8 then !(x.inQ k).isEmpty || !(x.spillQ k).isEmpty else !(x.outQ (k - 8)).isEmpty

/-- A write to QBINDk, `m` the bits covered. -/
def State.qbind (s : State) (t k v m : Nat) : State :=
  let merge := fun (f : Fk) => (s.rf f &&& (bits m f.lo f.w ^^^ (2 ^ f.w - 1))) ||| (bits v f.lo f.w &&& bits m f.lo f.w)
  let kind := merge (TILE_QBIND_KIND t k); let depth := merge (TILE_QBIND_DEPTH t k)
  let ign := merge (TILE_QBIND_STALL_IGN t k); let base := merge (TILE_QBIND_BASE t k)
  let pack := if k < 8 then 0 else merge (TILE_QBIND_PACK t k)
  let s1 := if (v &&& m).testBit 20 then s.wf (TILE_QBIND_REFUSED t k) 0 else s
  let same := kind == s.rf (TILE_QBIND_KIND t k) && depth == s.rf (TILE_QBIND_DEPTH t k) &&
    ign == s.rf (TILE_QBIND_STALL_IGN t k) && base == s.rf (TILE_QBIND_BASE t k) && pack == s.rf (TILE_QBIND_PACK t k)
  let meets := (List.range 16).any fun j =>
    j != k && s.rf (TILE_QBIND_KIND t j) != 0 &&
      rangesMeet base depth (s.rf (TILE_QBIND_BASE t j)) (s.rf (TILE_QBIND_DEPTH t j))
  if same then s1
  else if s.rb (TILE_CTRL_RUN t) || (s.tile t).holds k ||
      (kind != 0 && (meets || decide (256 < base + depth) || depth == 0 || decide (64 < depth))) then
    s.wf (TILE_QBIND_REFUSED t k) 1
  else
    s1.wfs [(TILE_QBIND_KIND t k, kind), (TILE_QBIND_DEPTH t k, depth), (TILE_QBIND_STALL_IGN t k, ign),
      (TILE_QBIND_BASE t k, base), (TILE_QBIND_PACK t k, pack)]

/-! ### Slot tables (R166) -/

/-- A write to a slot-table register reaches the inactive bank; one to the active bank is discarded and sets
ACTIVE_WRITE. -/
def State.slotWrite (s : State) (t b o i v m : Nat) : State :=
  if b = s.rf (MESH_BANK_LIVE (plainOf t)) then s.wf (MESH_STATUS_ACTIVE_WRITE (plainOf t)) 1
  else
    let k := TILE_SLOT_SLOT t b o i
    s.wf k (((s.rf k &&& (m ^^^ (2 ^ 64 - 1))) ||| (v &&& m)) &&& 0x00FF00FF00FF00FF)

/-! ### The shelf (R143) -/

/-- The entry is valid (the checks of R143). -/
def shelfOk (w0 w1 : Nat) : Bool :=
  let e : Shelf := { w0 := w0, w1 := w1 }
  let b := e.base; let l := e.length
  e.place != 0 && decide (1 ≤ l) &&
  (match e.place with
   | 1 => decide (b + l ≤ 0xC000) && (!e.spill || decide (e.spillRow + ceilDiv l 2048 ≤ 2016)) && (!e.keep || e.spill)
   | 2 => decide (0x40000000 ≤ b) && decide (b + l ≤ 0x403F0000) && !e.spill
   | _ => decide (b + l ≤ 2 ^ 40) && !e.spill)

/-- Bits of word 1 that Table ME-5 lists for a place. -/
def w1Mask (place : Nat) : Nat := if place = 1 then 2 ^ 43 - 1 else if place = 2 then 2 ^ 32 - 1 else 2 ^ 40 - 1

/-! ### Handle keeps (14 R298) -/

/-- The entry may be honoured as a handle keep. -/
def Shelf.keepable (e : Shelf) : Bool := e.keep && !e.pair && ((e.place == 1 && e.spill) || e.place == 2)

/-- An entry is honoured if the partition's budget still holds it; otherwise it is excluded, which raises KEEP_OVER. -/
def State.keepEntry (s : State) (t h : Nat) : State :=
  let e := (s.tile t).shelfAt h
  match s.tilePart t with
  | none => s
  | some n =>
    if !e.keepable then s
    else
      let fits := decide (s.handleBytes n + e.length ≤ s.rf (PKS_HANDLE_BUDGET_BYTES n))
      let s1 := s.updTile t fun x => { x with shelf := sset {} x.shelf h { e with hon := fits, excl := !fits } }
      if fits then s1 else ((s1.wf (PKS_STATUS_OVER n) 1).irqPart n 24).raise 0xB005 (partPage n 8)

/-- A write to word 0 of an entry: it and the pending word 1 go live in one step and GEN advances, or the entry becomes
INVALID. Streams that captured the entry see GEN_STALE (R192). -/
def State.shelfLive (s : State) (t h w0 : Nat) : State :=
  let e := (s.tile t).shelfAt h
  let g := (e.gen + 1) % 65536
  let body := (w0 &&& 0xFFFFFFFF00003F7F)
  let w1 := e.pend &&& w1Mask (w0 % 4)
  let e' : Shelf := if shelfOk body w1 then { w0 := body + g * 65536, w1 := w1, pend := e.pend }
    else { w0 := g * 65536, w1 := 0, pend := 0 }
  let s1 := (s.updTile t fun x => { x with shelf := sset {} x.shelf h e' }).keepEntry t h
  s1.forEach (List.range 8) fun s d =>
    let x := (s.tile t).stream d
    let st := s.streamSt t d
    if (st = 1 ∨ st = 2 ∨ st = 3) ∧ (x.dataH.entry = h ∨ (s.streamLists t d ∧ x.listH.entry = h) ∨
        (s.rb (TILE_CFG_RING t d) ∧ x.ringH.entry = h)) then s.wf (TILE_STREAM_STATE_GEN_STALE t d) 1
    else s

/-- The W2 itself makes an entry INVALID: the fields read 0 and GEN advances (R143). -/
def State.shelfKill (s : State) (t h : Nat) : State := s.shelfLive t h 0

/-- A write of a word of the shelf with a bit mask: an odd word is word 1, which goes into the pending copy. -/
def State.shelfWord (s : State) (t w v m : Nat) : State :=
  let h := w / 2
  let e := (s.tile t).shelfAt h
  if w % 2 = 1 then
    let e' : Shelf := { e with pend := (e.pend &&& (m ^^^ (2 ^ 64 - 1))) ||| (v &&& m) }
    s.updTile t fun x => { x with shelf := sset {} x.shelf h e' }
  else s.shelfLive t h ((e.w0 &&& (m ^^^ (2 ^ 64 - 1))) ||| (v &&& m))

/-- The words that a write of `n` bytes at byte offset `a` touches: word index, value placed, bit mask. -/
def maskedWords (a n v : Nat) : List (Nat × Nat × Nat) :=
  (List.range ((a % 8 + n + 7) / 8)).map fun i =>
    let shifted := v * 2 ^ (8 * (a % 8))
    let mask := (2 ^ (8 * n) - 1) * 2 ^ (8 * (a % 8))
    (a / 8 + i, bits shifted (64 * i) 64, bits mask (64 * i) 64)

/-- A write of `n` bytes to the shelf area: entries in address order, word 1 before word 0 (R143). -/
def State.shelfWrite (s : State) (t a n v : Nat) : State :=
  let ws := maskedWords a n v
  (List.range 64).foldl (fun s h =>
    let s1 := match ws.find? (fun w => w.1 == 2 * h + 1) with
      | some w => s.shelfWord t w.1 w.2.1 w.2.2
      | none => s
    match ws.find? (fun w => w.1 == 2 * h) with
    | some w => s1.shelfWord t w.1 w.2.1 w.2.2
    | none => s1) s

/-- `n` bytes of the shelf area, live words (R143). -/
def State.shelfRead (s : State) (t a n : Nat) : Nat :=
  let word := fun w => let e := (s.tile t).shelfAt (w / 2); if w % 2 = 1 then e.w1 else e.w0
  ((List.range n).map fun i => bits (word ((a + i) / 8)) (8 * ((a + i) % 8)) 8 * 2 ^ (8 * i)).sum

/-! ### The tile page (R93) -/

/-- A write to a word of the tile page, `m` the bits covered. -/
def State.tileWord (s : State) (t rel v m : Nat) : State :=
  let off := tilePage t + rel
  if rel = 0x10 then s.writeCtrl (tilePage t) v m
  else if rel < 0x100 then s.writeFaultReg off v m
  else if rel = 0x100 then (if m.testBit 0 then s.tileRun t (v.testBit 0) else s)
  else if 0x200 ≤ rel ∧ rel < 0x300 ∧ rel % 16 = 0 then
    let k := (rel - 0x200) / 16
    let en := s.rf (TILE_TASK_CFG_ENABLE t k)
    let s1 := (s.writeWord off v m).wf (TILE_TASK_CFG_ENABLE t k) en
    (if m.testBit 41 then s1.taskEnable t k (v.testBit 41) else s1).promote t
  else if 0x400 ≤ rel ∧ rel < 0x480 then s.qbind t ((rel - 0x400) / 8) v m
  else if 0x600 ≤ rel ∧ rel < 0x700 then
    let d := (rel - 0x600) / 0x20
    if s.streamIdle t d then s.writeWord off v m else s.wf (TILE_STREAM_STATE_CFG_REFUSED t d) 1
  else if rel = 0x7C0 then
    let op := bits (v &&& m) 4 2; let d := bits (v &&& m) 0 3
    if op = 1 then s.streamCmdStart t d else if op = 2 then s.streamStop t d else s
  else if 0x800 ≤ rel ∧ rel < 0xC80 then
    let r := rel - 0x800
    s.slotWrite t (r / 0x240) (r % 0x240 / 0x40) (r % 0x40 / 8) v m
  else if 0xD00 ≤ rel ∧ rel < 0xD40 then s.writeWord off (v &&& 0x1F1F1F1F1F1F1F1F) m
  else s.writeWord off v m

/-- A write of `n` bytes to the tile page from byte offset `a` of it. -/
def State.tilePageWrite (s : State) (t a n v : Nat) : State :=
  if s.pageReady (tilePage t) then (maskedWords a n v).foldl (fun s w => s.tileWord t (w.1 * 8) w.2.1 w.2.2) s else s

/-- `n` bytes of the tile page. -/
def State.tilePageRead (s : State) (t a n : Nat) : Nat :=
  ((List.range n).map fun i => bits (s.regWord (tilePage t + (a + i) / 8 * 8)) (8 * ((a + i) % 8)) 8 * 2 ^ (8 * i)).sum

/-- The RC registers of the tile page that a read of `n` bytes touches clear (R4). -/
def State.tilePageClear (s : State) (t a n : Nat) : State :=
  (List.range ((a % 8 + n + 7) / 8)).foldl (fun s i => s.regClear (tilePage t + (a / 8 + i) * 8)) s

/-! ### Any writable tile-local range -/

/-- `n` bytes written to the desk, the bench, the shelf or the tile page of a tile, wherever they start. -/
def State.localWrite (s : State) (t a n v : Nat) : State :=
  match areaOf a with
  | .desk | .bench => s.wrMem (tkey t a) n v
  | .shelf => s.shelfWrite t (a - 0x100000) n v
  | .page => s.tilePageWrite t (a - 0x200000) n v
  | _ => s

/-- `n` bytes read from a tile-local range. -/
def State.localRead (s : State) (t a n : Nat) : Nat :=
  match areaOf a with
  | .desk | .bench => s.rdMem (tkey t a) n
  | .shelf => s.shelfRead t (a - 0x100000) n
  | .page => s.tilePageRead t (a - 0x200000) n
  | _ => 0

/-- What a read leaves behind: RC registers cleared. -/
def State.localClear (s : State) (t a n : Nat) : State :=
  match areaOf a with
  | .page => s.tilePageClear t (a - 0x200000) n
  | _ => s

/-! ### The commands -/

/-- TASK_ENABLE_WRITE: R92. -/
def execTaskEnableWrite (t k : Nat) (en : Bool) (s : State) : Host.Outcome State Fault Refusal :=
  .next (if s.pageReady (tilePage t) then s.taskEnable t k en else s)

/-- TILE_RUN_WRITE: R164, Table TL-6. -/
def execTileRunWrite (t : Nat) (run : Bool) (s : State) : Host.Outcome State Fault Refusal :=
  .next (if s.pageReady (tilePage t) then s.tileRun t run else s)

/-- SLOT_TABLE_WRITE: R166. -/
def execSlotTableWrite (t b o i : Nat) (v : BitVec 64) (s : State) : Host.Outcome State Fault Refusal :=
  .next (if s.pageReady (tilePage t) then s.slotWrite t b o i v.toNat (2 ^ 64 - 1) else s)

/-- QBIND_WRITE: R163. -/
def execQbindWrite (t k : Nat) (v : BitVec 64) (s : State) : Host.Outcome State Fault Refusal :=
  .next (if s.pageReady (tilePage t) then s.qbind t k v.toNat (2 ^ 64 - 1) else s)

/-- STREAM_CMD_START: R184, R185. -/
def execStreamCmdStart (t d : Nat) (s : State) : Host.Outcome State Fault Refusal :=
  .next (if s.pageReady (tilePage t) then s.streamCmdStart t d else s)

/-- STREAM_CMD_STOP: R184. -/
def execStreamCmdStop (t d : Nat) (s : State) : Host.Outcome State Fault Refusal :=
  .next (if s.pageReady (tilePage t) then s.streamStop t d else s)

end Sys2Proof.Machine
end

