-- ==== Sys2Proof/Machine/Access.lean ====
section
/-! DEFINITION. Accesses that a check, a translation or an error may stop: global addresses (R22, R23, R26), the page
tables of edge memory (R151, R401), and reads and writes through the error check (R134, R137, R150). -/

namespace Sys2Proof.Machine

/-! ### Error-checked words -/

/-- An uncorrectable outcome stays in the array until the word is written whole. [entry 31 DESIGN CHOICE] -/
def State.noteEcc (s : State) (k n : Nat) (e : Ecc) : State :=
  if e = .bad ∧ !s.hasBad k n then s.markBad k else s

/-- The worse of two outcomes. -/
def eccJoin : Ecc → Ecc → Ecc
  | .bad, _ => .bad
  | _, .bad => .bad
  | .corrected, _ => .corrected
  | _, e => e

/-- `n` bytes stored through the check bits: a word that is covered whole is replaced; a word covered in part is a
read-modify-write, which leaves it unchanged when it holds an uncorrectable error (R134, R137, R150). -/
def State.storeEcc (s : State) (k n v : Nat) (e : Ecc) : State × Ecc :=
  (wordsOf k n).foldl (fun p w =>
    let lo := max k (8 * w)
    let hi := min (k + n) (8 * w + 8)
    let part := bits v (8 * (lo - k)) (8 * (hi - lo))
    if hi - lo = 8 then (p.1.wrMem lo 8 part, p.2)
    else match p.1.eccOf (8 * w) 8 e with
      | .bad => (p.1.noteEcc (8 * w) 8 .bad, .bad)
      | r => (p.1.wrMem lo (hi - lo) part, eccJoin p.2 r)) (s, .clean)

/-- The correctable and the uncorrectable source of a tile memory (Table FL-1). -/
def ceCode (a : Nat) : Nat := if areaOf a = .bench then 2 else 1
def ueCode (a : Nat) : Nat := if areaOf a = .bench then 0x1011 else 0x1010

/-- The bench row of an address. -/
def benchRow (a : Nat) : Nat := (a - 0x40000000) / 0x800

/-- A bench row becomes failing (R142). -/
def State.noteRow (s : State) (t r : Nat) : State :=
  s.updTile t fun x => { x with failRows := if x.failRows.contains r then x.failRows else r :: x.failRows }

/-- The bench rows of an access in which a word holds an uncorrectable error become failing (R142). -/
def State.noteRows (s : State) (t a n : Nat) : State :=
  if areaOf a = .bench then
    ((List.range (benchRow (a + n - 1) + 1 - benchRow a)).map (benchRow a + ·)).foldl (fun s r =>
      let lo := max a (0x40000000 + r * 0x800)
      let hi := min (a + n) (0x40000000 + (r + 1) * 0x800)
      if s.hasBad (tkey t lo) (hi - lo) then s.noteRow t r else s) s
  else s

/-- A corrected error of a bench row is kept for 1 s; the fourth within that time makes the row failing (R142). -/
def State.noteCe (s : State) (t a : Nat) : State :=
  if areaOf a = .bench then
    let r := benchRow a
    let l := (r, s.time) :: (s.tile t).ceRows.filter fun e => decide (s.time < e.2 + 1000000000)
    let s1 := s.updTile t fun x => { x with ceRows := l }
    if 4 ≤ (l.filter fun e => e.1 == r).length then s1.noteRow t r else s1
  else s

/-- What an outcome of the check of `n` bytes raises on the tile page: nothing, the correctable source, the uncorrectable
one. [entry 31 DESIGN CHOICE] -/
def State.raiseEcc (s : State) (t a n : Nat) : Ecc → State
  | .clean => s
  | .corrected => (s.noteCe t a).raiseTile t (ceCode a)
  | .bad => (s.noteRows t a n).raiseTile t (ueCode a)

/-- A store to the desk or bench of a tile, with what it raises. -/
def State.tileStore (s : State) (t a n v : Nat) (e : Ecc) : State :=
  let r := s.storeEcc (tkey t a) n v e
  r.1.raiseEcc t a n r.2

/-- A read by a wide requester: a word with an uncorrectable error gives no data (R134), for which the model draws a
free value. [entry 30 DESIGN CHOICE] -/
def State.wideRead (s : State) (k n : Nat) (e : Ecc) : Nat × State × Ecc :=
  let s1 := s.noteEcc k n e
  (wordsOf k n).foldl (fun p w =>
    let lo := max k (8 * w)
    let hi := min (k + n) (8 * w + 8)
    if (sget? p.2.1.eccBad w).isSome then
      let d := p.2.1.draw (8 * (hi - lo))
      (p.1 + d.1 * 2 ^ (8 * (lo - k)), d.2, .bad)
    else (p.1 + p.2.1.rdMem lo (hi - lo) * 2 ^ (8 * (lo - k)), p.2)) (0, s1, e)

/-! ### Bench rows held by row operations (R140) -/

/-- The bench rows that a row operation names. -/
def RowOp.rows (o : RowOp) : List Nat :=
  match o.op with
  | 0 | 5 => [o.dst, o.a]
  | 1 => [o.dst]
  | 2 | 3 | 4 => [o.dst, o.a, o.b]
  | _ => [o.dst, o.a, o.b, o.c]

/-- A pair of subarrays is named by a row operation in progress. -/
def Tile.pairHeld (x : Tile) (pr : Nat) : Bool := x.rowOps.any fun o => o.rows.any fun r => r / 512 == pr

/-- An access to `n` bytes waits for a row operation (R140). -/
def Tile.benchHeld (x : Tile) (a n : Nat) : Bool :=
  areaOf a == .bench && (List.range 4).any fun pr =>
    decide ((a - 0x40000000) / 0x100000 ≤ pr) && decide (pr ≤ (a + n - 1 - 0x40000000) / 0x100000) && x.pairHeld pr

/-- An access that the router of a tile makes to a tile-local range may act now: the router runs, and a fenced tile's desk
and bench take no access (Table RP-1), nor the rows that a row operation holds (R140). -/
def State.tileOpen (s : State) (t a n : Nat) : Bool :=
  s.routerLive t && !(s.fenced t && (areaOf a == .desk || areaOf a == .bench)) && !(s.tile t).benchHeld a n

/-- The bench row of an access stays open in its subarray. [entry 32 DESIGN CHOICE] -/
def State.openRowOf (s : State) (t a : Nat) : State :=
  if areaOf a = .bench then
    s.updTile t fun x =>
      { x with openRow := sins x.openRow (benchRow a / 256) (benchRow a) }
  else s

/-! ### Global addresses -/

/-- [entry 49 DEDUCED] -/
def gSpace (g : Nat) : Nat := bits g 62 2
/-- (R22). [entry 49 DEDUCED] -/
def gModule (g : Nat) : Nat := bits g 52 10
def gTile (g : Nat) : Nat := tileAt (bits g 34 9) (bits g 43 9)
def gLocal (g : Nat) : Nat := g % 2 ^ 32
def gEdge (g : Nat) : Nat := g % 2 ^ 52
def gOff (g : Nat) : Nat := g % 2 ^ 22
/-- The global address of a tile-local byte of this module. -/
def State.tileGlobal (s : State) (t a : Nat) : Nat := s.modNum * 2 ^ 52 + tileY t * 2 ^ 43 + tileX t * 2 ^ 34 + a

/-- The route byte of a module number (Table FB-7). -/
def State.routeByte (s : State) (m : Nat) : Nat := bits (s.rf (SPN_ROUTE_VALUE 0 (m / 8))) (8 * (m % 8)) 8
/-- The span port that a packet for a module leaves by: COL uses COL_PORT (R183). [entry 49 DEDUCED] -/
def State.spanPort (s : State) (m : Nat) (col : Bool) : Nat := bits (s.routeByte m) (if col then 4 else 0) 4
/-- A module number is reachable (R183). -/
def State.reachable (s : State) (m : Nat) (col : Bool) : Bool :=
  m == s.modNum || (decide (s.spanPort m col < 6) && s.rb (SPN_STATUS_UP (s.spanPort m col)))

/-- `n` bytes from a tile-local address lie in one range of Table MD-9 that takes accesses (R23, R27). -/
def localOk (a n : Nat) : Bool :=
  areaOf a != .none && areaOf a != .spill && areaOf (a + n - 1) == areaOf a

/-- An access by a tile or an engine to a global address is not refused under R23, R26 and R27. -/
def State.globalOk (s : State) (g n : Nat) : Bool :=
  (match gSpace g with
   | 0 => bits g 32 2 == 0 && localOk (gLocal g) n
   | 1 => decide (gEdge g + n ≤ 2 ^ 40)
   | 2 => bits g 22 30 == 0 && decide (gOff g < 0x200000) && gModule g == s.modNum
   | _ => false) && s.reachable (gModule g) false

/-! ### Edge translation (R151, R401) -/

/-- What the page table of a partition answers. -/
inductive Xlate
  | hit (pa : Nat)
  | untranslated
  | window
  | nonresident
  | refused
  deriving DecidableEq, Repr

/-- A physical page lies in the partition's window. -/
def State.inWindow (s : State) (n ppn : Nat) : Bool :=
  s.rb (EDGE_WIN_EN n) && decide (s.rf (EDGE_WIN_BASE n) ≤ ppn) && decide (ppn ≤ s.rf (EDGE_WIN_LIMIT n))

/-- A physical page lies in the ledger pool (R277). -/
def State.inPool (s : State) (ppn : Nat) : Bool :=
  decide (s.rf LDG_POOL_BASE ≤ ppn) && decide (ppn < s.rf LDG_POOL_BASE + s.rf LDG_POOL_PAGES)

/-- The live page table of partition `n` at a virtual byte (R151, R277). -/
def State.xlate (s : State) (n va : Nat) : Xlate :=
  if 2 ^ 40 ≤ va then .refused
  else
    let e := s.rf (peptEntry n (va / 2 ^ 21))
    let ppn := bits e 12 18
    if !e.testBit 0 then .untranslated
    else if !s.inWindow n ppn || s.inPool ppn then .window
    else if !e.testBit 1 then .nonresident
    else .hit (ppn * 2 ^ 21 + va % 2 ^ 21)

/-- An access looks its page up in the translation cache: at least 1,024 translations are held, and beyond them a hit
is a free value (R401). -/
def State.lookup (s : State) (n vpn : Nat) (ok : Bool) : State :=
  let c := (s.part n).tcache
  if c.contains vpn then
    (if c.length ≤ 1024 then s
     else
       let d := s.draw 1
       if d.1 = 0 then d.2 else d.2.bump (PEPT_MISSES_COUNT n))
  else
    let s1 := s.bump (PEPT_MISSES_COUNT n)
    if ok then s1.updPart n fun p => { p with tcache := vpn :: p.tcache } else s1

/-- A translation with the counters that it advances (R151, R401). [entry 29 DEDUCED] -/
def State.translate (s : State) (n va : Nat) : Xlate × State :=
  match s.xlate n va with
  | .refused => (.refused, s)
  | .hit pa => (.hit pa, s.lookup n (va / 2 ^ 21) true)
  | .untranslated => (.untranslated, (s.lookup n (va / 2 ^ 21) false).bump (PEPT_UNTRANSLATED_COUNT n))
  | .window => (.window, (s.lookup n (va / 2 ^ 21) false).bump (PEPT_WINDOW_VIOL_COUNT n))
  | .nonresident => (.nonresident, (s.lookup n (va / 2 ^ 21) false).bump (PEPT_NONRESIDENT_COUNT n))

/-- 256 B stripes that `n` bytes from a physical address touch. -/
def stripes (pa n : Nat) : Nat := (pa % 256 + n + 255) / 256

/-- What an outcome of the check of `n` bytes of edge memory records: an uncorrectable error with the address of its word
(R150). -/
def State.edgeEcc (s : State) (pa n : Nat) : Ecc → State
  | .clean => s
  | .corrected => s.bump EDGE_CE_COUNT_COUNT
  | .bad => s.raiseEdgeUE (s.firstBad (ekey pa) n - ekey 0)

/-- Bytes written to physical edge memory. -/
def State.edgeStore (s : State) (pa n v : Nat) (e : Ecc) : State :=
  let r := (s.bump EDGE_WRITE_STRIPES_COUNT (stripes pa n)).storeEcc (ekey pa) n v e
  r.1.edgeEcc pa n r.2

/-- Bytes read from physical edge memory: the value, the state, whether a word could not be corrected. -/
def State.edgeRead (s : State) (pa n : Nat) (e : Ecc) : Nat × State × Bool :=
  let s1 := (s.bump EDGE_READ_STRIPES_COUNT (stripes pa n)).noteEcc (ekey pa) n e
  let r := s1.eccOf (ekey pa) n e
  (s1.rdMem (ekey pa) n, s1.edgeEcc pa n r, r == .bad)

/-! ### Packets -/

/-- The mesh count at which a packet comes to a place: that of the plain there. -/
def State.countAt (s : State) : Loc → Nat
  | .tile t => s.meshAt (plainOf t)
  | _ => 0

/-- A packet enters the network. -/
def State.send (s : State) (p : Packet) : State := { s with net := s.net ++ [{ p with since := s.countAt p.loc }] }

/-- The virtual channel of a packet: 0 REQ, 1 RSP, 2 COL (R170). -/
def packetChan (k : Packet) : Nat := if k.esc then 2 else b2n k.rsp

/-- Two packets lie in one buffer: the same input port of one router, or one rim, and the same channel. -/
def sameBuffer (k j : Packet) : Bool := k.loc == j.loc && k.inp == j.inp && packetChan k == packetChan j

/-- The `i`-th packet, when it is the first of its buffer: buffers are FIFOs (R171). -/
def State.headPacket (s : State) (i : Nat) : Option Packet :=
  match s.net[i]? with
  | some k => if (s.net.take i).any (sameBuffer k) then none else some k
  | none => none

/-- The packet of a tile's PUT or GET: deterministic path (R171), tagged with the tile and its partition. -/
def State.corePacket (s : State) (t g ty len q payload : Nat) : Packet :=
  { dst := g, ty := ty, ord := true, len := len, srcX := tileX t, srcY := tileY t, srcMod := s.modNum, rq := q,
    part := (s.tilePart t).getD 0, payload := payload, loc := .tile t }

end Sys2Proof.Machine
end

