-- ==== Sys2Proof/Machine/Edge.lean ====
section
/-! DEFINITION. Edge memory: the partition page tables, page-in, windows, patrol scrub (06 R150 to R155, R401). -/

namespace Sys2Proof.Machine

/-- The bits of a page-table entry that exist (Table ME-6). -/
def peptMask : Nat := 0xFFFFFFFF3FFFF003

/-- Entries of a partition whose shadow differs from its live value (R152). -/
def State.peptChanges (s : State) (n : Nat) : Nat :=
  (srange s.shd ((0x80000000 + n * 2 ^ 22) * 64) ((0x80000000 + (n + 1) * 2 ^ 22) * 64)).length

/-- A write to PEPT.ENTRY, `m` the bits covered: the shadow of the entry that SEL names (R152). -/
def State.peptEntryWrite (s : State) (n v m : Nat) : State :=
  let k := peptEntry n (s.rf (PEPT_SEL_VPN n))
  let new := ((s.sh k &&& (m ^^^ (2 ^ 64 - 1))) ||| (v &&& m)) &&& peptMask
  if new = s.rf k ∨ s.sh k ≠ s.rf k ∨ s.peptChanges n < 4096 then s.wsh k new else s.wf (PEPT_CHANGES_LIST_FULL n) 1

/-- Halted streams of a partition whose page satisfies a test are due for a check (R196). -/
def State.recheck (s : State) (n : Nat) (ok : Nat → Bool) : State :=
  (s.tiles.map fun (e : Nat × Tile) => e.1).foldl (fun s t =>
    if s.tilePart t = some n then
      s.forEach (List.range 8) fun s d =>
        if s.streamSt t d = 3 ∧ ok (s.rf (TILE_HALT_VA_VA t d) / 2 ^ 21) then
          s.setStream t d { (s.tile t).stream d with recheck := true }
        else s
    else s) s

/-- A write to PEPT.PAGE_IN (R153). -/
def State.pageIn (s : State) (n v : Nat) : State :=
  let vpn := bits v 0 19; let ppn := bits v 20 18
  let k := peptEntry n vpn
  let e := s.rf k
  if !e.testBit 0 || e.testBit 1 || !s.inWindow n ppn || s.inPool ppn || s.sh k != e then
    s.wf (PEPT_STATUS_PAGE_IN_REFUSED n) 1
  else
    let s1 := s.wboth k ((e &&& 0xFFFFFFFFC0000FFF) ||| 2 ||| ppn * 2 ^ 12)
    if s.rb (PSTR_CTRL_AUTO_RESUME n) then s1.recheck n (· == vpn) else s1

/-- A write to EDGE.WINn (R155). -/
def State.edgeWindow (s : State) (n v : Nat) : State :=
  let base := bits v 0 18; let limit := bits v 18 18
  if !s.quietPart n || decide (limit < base) || decide (147423 < limit) then s.wf EDGE_STATUS_WIN_REFUSED 1
  else
    (s.wfs [(EDGE_WIN_BASE n, base), (EDGE_WIN_LIMIT n, limit), (EDGE_WIN_EN n, bits v 36 1)]).updPart n fun p =>
      { p with tcache := [] }

/-- PEPT_ENTRY_WRITE: R152. -/
def execPeptEntryWrite (f n : Nat) (v : BitVec 64) (s : State) : Host.Outcome State Fault Refusal :=
  .next (if s.writes f n && s.pageReady (partPage n 7) then s.peptEntryWrite n v.toNat (2 ^ 64 - 1) else s)

/-- PAGE_IN: R153, R196. -/
def execPageIn (f n : Nat) (v : BitVec 64) (s : State) : Host.Outcome State Fault Refusal :=
  .next (if s.writes f n && s.pageReady (partPage n 7) then s.pageIn n v.toNat else s)

/-- EDGE_WINDOW_WRITE: R155. -/
def execEdgeWindowWrite (n : Nat) (v : BitVec 64) (s : State) : Host.Outcome State Fault Refusal :=
  .next (if n < 16 ∧ s.pf0Writes 0 ∧ s.pageReady pgEDGE then s.edgeWindow n v.toNat else s)

/-- EDGE_PATROL_SCRUB: corrected errors counted, uncorrectable ones recorded (R150). -/
def execEdgePatrolScrub (ces : Nat) (ues : List Nat) (s : State) : Host.Outcome State Fault Refusal :=
  .next (ues.foldl (fun s pa => if pa < 147456 * 2 ^ 21 then ((s.noteEcc (ekey pa) 1 .bad).raiseEdgeUE pa) else s)
    (s.bump EDGE_CE_COUNT_COUNT ces))

end Sys2Proof.Machine
end

