-- ==== Sys2Proof/Machine/Mesh.lean ====
section
/-! DEFINITION. The circuit plane, the movement of packets, detours, the stall watch and the span links (07). -/

namespace Sys2Proof.Machine

/-! ### Packed transport (R180, R181) -/

/-- The 16 BF16 values of block `b` of an entry. -/
def blockVals (e b : Nat) : List Nat := (List.range 16).map fun i => bits e (256 * b + 16 * i) 16

/-- A block of BFP16x8 that is sent raw: a value is NaN or infinity. -/
def blockRaw (vs : List Nat) : Bool := vs.any fun v => bits v 7 8 == 255

/-- The shared exponent of a block. -/
def blockExp (vs : List Nat) : Int :=
  vs.foldl (fun m v => if v % 0x8000 = 0 then m else max m ((bits v 7 8 : Int) - 127)) (-126)

/-- One value sent as a mantissa and rebuilt: the BF16 pattern that the receiver forms, and whether it was clamped. -/
def bfpValue (e : Int) (v : Nat) : Nat × Bool :=
  match fBF16.unpack v with
  | .fin neg m x =>
    let q := roundInt neg m (x - (e - 6))
    let c : Int := if q < -128 then -128 else if 127 < q then 127 else q
    ((fBF16.pack (.fin (decide (c < 0)) c.natAbs (e - 6))).1, decide (c ≠ q))
  | _ => (v, false)

/-- A block as it arrives, with its clamps and whether it went raw (R19). -/
def bfpBlock (vs : List Nat) : List Nat × Nat × Bool :=
  if blockRaw vs then (vs, 0, true)
  else
    let r := vs.map (bfpValue (blockExp vs))
    (r.map (·.1), (r.filter (·.2)).length, false)

/-- An entry sent over a route with a PACK code: what arrives, the bytes it takes in the slot, clamps, raw blocks.
`bf16` tells whether it holds BF16 values. Clamps count in QPACK.SAT alone: the spec does not say whether this packing is one
of the conversions that set TILE.FLAGS (R103), and the model sets none. [entry 138 DESIGN CHOICE] -/
def packEntry (pack : Nat) (bf16 : Bool) (e : Entry) : Entry × Nat × Nat × Nat :=
  if pack = 1 then
    (if !bf16 then (e, 64, 0, 2)
     else
       let bs := [bfpBlock (blockVals e.toNat 0), bfpBlock (blockVals e.toNat 1)]
       let vals := bs.flatMap (·.1)
       (BitVec.ofNat 512 ((List.range 32).map fun i => vals.getD i 0 * 2 ^ (16 * i)).sum,
        (bs.map fun b => if b.2.2 then 32 else 16).sum, (bs.map (·.2.1)).sum, (bs.filter (·.2.2)).length))
  else if pack = 2 then
    (e, ([0, 1].map fun b => if bits e.toNat (256 * b) 256 = 0 then 0 else 32).sum, 0, 0)
  else (e, 64, 0, 0)

/-- The head entries that one slot takes: 64 B of data, at most 2 entries packed as BFP16x8, 4 as zero-run, 1 unpacked
(R181); a partial row goes raw, whatever PACK says (R107). -/
def slotLoad (pack : Nat) : Nat → Nat → List (Entry × EType) → List (Entry × Nat × Nat × Nat)
  | 0, _, _ => []
  | _, _, [] => []
  | n + 1, room, e :: l =>
    let p := if e.2 = .partialRow then (e.1, 64, 0, if pack = 1 then 2 else 0) else packEntry pack (e.2 == .bf16) e.1
    if p.2.1 ≤ room then p :: slotLoad pack n (room - p.2.1) l else []

/-! ### Circuit flits (R161 to R167) -/

/-- Parity of a plain's tick count. -/
def State.parity (s : State) (p : Nat) : Bool := s.rf (MESH_TICKS_COUNT p) % 2 == 1

/-- The bank by which a router forwards a flit: the one before the tick while the parities differ (R166). -/
def State.bankFor (s : State) (p : Nat) (par : Bool) : Nat :=
  if par = s.parity p then s.rf (MESH_BANK_LIVE p) else (s.plain p).prevBank

/-- The outputs of tile `t` that select an input in a slot of a bank (R156, R162). -/
def State.outputsOf (s : State) (t b inp k : Nat) : List Nat :=
  (List.range 9).filter fun o => s.slotValid t o (s.slotEntry t b o k) && bits (s.slotEntry t b o k) 1 4 == inp

/-- The plain's sources stand for the settling after a bank switch (R167). -/
def State.settling (s : State) (p : Nat) : Bool := decide (s.rf (MESH_ROUND_COUNT p) < (s.plain p).settle)

/-- The credits of a source's route are withheld: a plain that it enters or crosses quiesces or is paused (R176). -/
def State.withheld (s : State) (t k : Nat) : Bool := (s.routeOf t k).1.any fun u => s.pausing (plainOf u)

/-- CIRCUIT_FLIT_INJECT: the source sends the head of o`k` in its slot while it holds credit (R164, R167, R176, R181). `bf16` is
the type of entries of which no operation says it. -/
def execCircuitFlitInject (t k slot : Nat) (bf16 : Bool) (s : State) : Host.Outcome State Fault Refusal :=
  let p := plainOf t
  let b := s.rf (MESH_BANK_LIVE p)
  let outs := (s.outputsOf t b 8 slot).filter fun o =>
    decide (o < 8) && bits (s.slotEntry t b o slot) 5 3 == k
  let pack := s.rf (TILE_QBIND_PACK t (8 + k))
  let n := min (if pack = 1 then 2 else if pack = 2 then 4 else 1) (s.rf (TILE_QCRED_CREDITS t k))
  let load := slotLoad pack n 64 (((s.tile t).outE k).map fun e =>
    (e.data, if e.ty = .unknown then (if bf16 then .bf16 else .other) else e.ty))
  .next (if s.rf (TILE_QBIND_KIND t (8 + k)) ≠ 1 ∨ outs.isEmpty ∨ load.isEmpty ∨ !s.routerLive t ∨ s.settling p ∨ s.withheld t k ∨
      32 ≤ slot then s
    else
      let s1 := (s.popOut t k load.length).wf (TILE_QCRED_CREDITS t k) (s.rf (TILE_QCRED_CREDITS t k) - load.length)
      let s2 := (s1.sat (TILE_QPACK_SAT t k) (load.map (·.2.2.1)).sum).sat (TILE_QPACK_RAW t k) (load.map (·.2.2.2)).sum
      let fl := outs.filterMap fun o => (neighbour t o).map fun u =>
        ({ at_ := u, inp := oppInput o, slot := slot, par := s.parity p,
           entries := List.zipWith (fun l e => { e with data := l.1 }) load ((s.tile t).outE k),
           origin := { src := t, srcQ := k, sinks := (s.routeOf t k).2 } } : Flit)
      ({ s2 with flits := s2.flits ++ fl } : State).bump (MESH_CIRC_FLITS_COUNT p) fl.length)

/-- A flit that no output of the bank selects is dropped (R161). [entry 40 DEDUCED] -/
def State.orphan (s : State) (u : Nat) : State :=
  (s.bump (MESH_ORPHANS_COUNT (plainOf u))).raise 0x2001 (plainPage (plainOf u) 1)

/-- CIRCUIT_FLIT_FORWARD: the flit goes out in the next slot on every output that selects its input (R161, R166). -/
def execCircuitFlitForward (i : Nat) (s : State) : Host.Outcome State Fault Refusal :=
  .next (match s.flits[i]? with
    | none => s
    | some f =>
      if f.sink.isSome || !s.routerLive f.at_ then s
      else
        let k := (f.slot + 1) % 32
        let p := plainOf f.at_
        let b := s.bankFor p f.par
        let outs := s.outputsOf f.at_ b f.inp k
        let s1 : State := { s with flits := eraseAt s.flits i }
        if outs.isEmpty then s1.orphan f.at_
        else
          let fl := outs.filterMap fun o =>
            if o = 8 then some { f with slot := k, sink := some (bits (s.slotEntry f.at_ b 8 k) 5 3) }
            else (neighbour f.at_ o).map fun u => { f with at_ := u, inp := oppInput o, slot := k }
          ({ s1 with flits := s1.flits ++ fl } : State).bump (MESH_CIRC_FLITS_COUNT p) fl.length)

/-- An entry meets a full spill area: SPILL_FULL, with FULL_TILE naming the first tile (R179). [entry 42 DEDUCED] -/
def State.spillFull (s : State) (t : Nat) : State :=
  match s.tilePart t with
  | some n =>
    (if s.rb (PSTL_FULL_TILE_VALID n) then s
     else s.wfs [(PSTL_FULL_TILE_X n, tileX t), (PSTL_FULL_TILE_Y n, tileY t), (PSTL_FULL_TILE_VALID n, 1)]).raise
      0xB002 (partPage n 5)
  | none => s

/-- CIRCUIT_FLIT_DELIVER: output L puts the entries into the sink queue (R163, R164). A flit whose sink is no circuit
queue, or is full, is dropped (R165); one for an extended queue whose spill area is full waits (R179). [entry 40 DEDUCED] -/
def execCircuitFlitDeliver (i : Nat) (s : State) : Host.Outcome State Fault Refusal :=
  .next (match s.flits[i]? with
    | none => s
    | some f =>
      match f.sink with
      | none => s
      | some q =>
        if !s.routerLive f.at_ then s
        else
          let s1 : State := { s with flits := eraseAt s.flits i }
          if s.rf (TILE_QBIND_KIND f.at_ q) ≠ 1 then s1.orphan f.at_
          else if s.roomIn f.at_ q f.entries.length then
            f.entries.foldl (fun s e => s.pushIn f.at_ q
              { data := e.data, src := some f.origin, sender := some (f.origin.src, e.cmd) }) s1
          else if ((s.tile f.at_).spillQ q).isEmpty then s1.orphan f.at_
          else if f.full then s
          else ({ s with flits := modifyAt s.flits i fun f => { f with full := true } } : State).spillFull f.at_)

/-- A credit of one sink for what a source sent over one route. -/
def creditOf (o : Origin) (snk : Nat × Nat) (c : Credit) : Bool := c.origin == o && c.snk == snk.1 && c.snkQ == snk.2

/-- What the oldest returned credit of a source came from, once every branch of its route has returned one (R164). -/
def State.creditDue (s : State) (t k : Nat) : Option Origin :=
  (s.credits.find? fun c => c.origin.src == t && c.origin.srcQ == k &&
    c.origin.sinks.all fun q => s.credits.any (creditOf c.origin q)).map (·.origin)

/-- CREDIT_RETURN: a credit reaches the source when every branch has returned one (R164), along routers that run, and none
while a plain on the route quiesces or is paused (R176). -/
def execCreditReturn (t k : Nat) (s : State) : Host.Outcome State Fault Refusal :=
  .next (match s.creditDue t k with
    | some o =>
      if s.withheld t k || !(s.routeOf t k).1.all s.routerLive then s
      else ({ s with credits := o.sinks.foldl (fun l q => l.eraseP (creditOf o q)) s.credits } : State).sat (TILE_QCRED_CREDITS t k)
    | none => s)

/-! ### Ticks (R158, R166, R167) -/

/-- A tick of a plain, whose next round is a multiple of 256: a committed bank goes live, and with it every source of the
partition stops for 48 rounds of its own plain. [entry 47 DEDUCED] -/
def State.epochTick (s : State) (p : Nat) : State :=
  let q := s.plain p
  let live := s.rf (MESH_BANK_LIVE p)
  let s1 := (s.bump (MESH_ROUND_COUNT p)).bump (MESH_TICKS_COUNT p)
  let s2 := s1.updPlain p fun q => { q with prevBank := live, meshSub := 0, bankPend := false }
  if q.bankPend ∧ s.rf (MESH_BANK_SEL p) ≠ live then
    let s3 := s2.wf (MESH_BANK_LIVE p) (s.rf (MESH_BANK_SEL p))
    let ps := match s.plainPart p with
      | some n => s.plainsOf n
      | none => [p]
    s3.forEach ps fun s r => s.updPlain r fun q => { q with settle := s.rf (MESH_ROUND_COUNT r) + 48 }
  else s2

/-- The plain stands in the last cycle of a round whose successor is a multiple of 256, and no gate holds it there: each gating
neighbour has started the round that it ends (R159, R166). -/
def State.tickDue (s : State) (p : Nat) : Bool :=
  decide (s.rf (MESH_ROUND_COUNT p) % 256 = 255) && decide ((s.plain p).meshSub = 31) &&
    (s.gates p).all fun r => decide (s.rf (MESH_ROUND_COUNT p) ≤ s.rf (MESH_ROUND_COUNT r))

/-- Bank 0 goes live on every router of a plain, directly and without staging (R231, step 3). -/
def State.bankZeroAt (s : State) (p : Nat) : State :=
  ((s.wboth (MESH_BANK_SEL p) 0).wf (MESH_BANK_LIVE p) 0).updPlain p fun q => { q with prevBank := 0, bankPend := false }

/-- A tick of a plain of a partition whose cold load has placed every record (R231, step 3). -/
def State.loadTick (s : State) (p : Nat) : State :=
  match s.keeper.load with
  | some l =>
    if l.placed && !l.warm && s.geomHas l.part p && !l.zeroed.contains p then
      (s.bankZeroAt p).updKeeper fun x => { x with load := some { l with zeroed := l.zeroed ++ [p] } }
    else s
  | none => s

/-- MESH_EPOCH_TICK: R166. A paused plain switches at its resume (R78). [entry 47 DEDUCED] -/
def execMeshEpochTick (p : Nat) (s : State) : Host.Outcome State Fault Refusal :=
  .next (if p < 64 ∧ (s.plnState p = 0 ∨ s.plnState p = 2) ∧ !s.gated ∧ s.tickDue p then (s.epochTick p).loadTick p else s)

/-- BANK_SETTLING_END: the 48 rounds are over (R167). -/
def execBankSettlingEnd (p : Nat) (s : State) : Host.Outcome State Fault Refusal :=
  .next (if s.settling p then s else s.updPlain p fun q => { q with settle := 0 })

/-- A plain whose clocks start again re-phases with its gated neighbours, whose count it takes up, with the parity of their
ticks (R160). [entry 136 DEDUCED] -/
def State.rephase (s : State) (p : Nat) : State :=
  match (s.gates p).head? with
  | some r =>
    (s.wfs [(MESH_ROUND_COUNT p, s.rf (MESH_ROUND_COUNT r)), (MESH_TICKS_COUNT p, s.rf (MESH_TICKS_COUNT r))]).updPlain p fun q =>
      { q with meshSub := (s.plain r).meshSub }
  | none => s

/-! ### Where packets go (R170, R171, R174, R175, R400) -/

/-- The plain of column 0 through whose rim pass a row's traffic passes: its own, or the nearest live one, the northern
one of two equally near (R400). -/
def State.rimPlain (s : State) (y : Nat) : Option Nat :=
  let r := y / 64
  let live := fun i => s.plnState (8 * i) == 0 || s.plnState (8 * i) == 2 || s.plnState (8 * i) == 1
  if s.plnState (8 * r) ≠ 3 then some (8 * r)
  else ((List.range 8).findSome? fun d =>
    if d ≤ r ∧ live (r - d) then some (8 * (r - d)) else if r + d < 8 ∧ live (r + d) then some (8 * (r + d)) else none)

/-- The row in which traffic of row `y` passes the west rim. -/
def State.rimRow (s : State) (y : Nat) : Nat :=
  match s.rimPlain y with
  | some p => if p / 8 = y / 64 then y else if p / 8 < y / 64 then p / 8 * 64 + 63 else p / 8 * 64
  | none => y

/-- The edge stack of a byte (R147). -/
def stackOf (a : Nat) : Nat := bits a 8 3

/-- Where a byte of physical edge memory lies: its stack, its pseudo-channel, and the byte of that (R147). -/
def edgePlace (pa : Nat) : Nat × Nat × Nat := (stackOf pa, bits pa 11 5, pa / 2 ^ 16 * 256 + pa % 256)

/-- The column under a stack that lies nearest to column `x` (R147, R171). -/
def stackCol (st x : Nat) : Nat := max (128 * (st % 4)) (min x (128 * (st % 4) + 127))

/-- The tile at which a packet at row `y` and column `x` leaves or ends, and the place it then enters: none for a tile. -/
def State.target (s : State) (k : Packet) (x y : Nat) : Nat × Option Loc :=
  if gModule k.dst ≠ s.modNum ∨ gSpace k.dst = 2 then
    let r := s.rimRow y
    (tileAt 0 r, some (.west r))
  else if gSpace k.dst = 1 then
    let st := stackOf (k.pa.getD (gEdge k.dst))
    let c := stackCol st x
    if st < 4 then (tileAt c 0, some (.north c)) else (tileAt c 511, some (.south c))
  else (gTile k.dst, none)

/-- The direction of the X first, then Y path (0 N, 1 E, 2 S, 3 W); none at the target. -/
def xyDir (u v : Nat) : Option Nat :=
  if tileX u < tileX v then some 1 else if tileX v < tileX u then some 3
  else if tileY u < tileY v then some 2 else if tileY v < tileY u then some 0 else none

/-- The minimal directions from a tile toward another. -/
def minimalDirs (u v : Nat) : List Nat :=
  (if tileX u < tileX v then [1] else if tileX v < tileX u then [3] else []) ++
  (if tileY u < tileY v then [2] else if tileY v < tileY u then [0] else [])

/-- The X first, then Y path from a tile meets a full-fenced plain. -/
def State.pathFenced (s : State) (v : Nat) : Nat → Nat → Bool
  | 0, _ => false
  | fuel + 1, u => s.plnState (plainOf u) == 3 ||
    (match xyDir u v with
     | some d => (match neighbour u d with
       | some w => s.pathFenced v fuel w
       | none => false)
     | none => false)

/-- The direction of COL: X first, then Y, or the detour table where it is active (R170, R174); the flag marks a down
link. `none` where the table gives no way. [entry 43 DEDUCED] -/
def State.colDir (s : State) (k : Packet) (u v : Nat) : Option (Nat × Bool) :=
  let p := plainOf u
  let xy := (xyDir u v).map fun d => (d, false)
  if s.rb (MESH_STATUS_DETOUR_VALID p) && plainOf v != p then
    let d := if k.phase then s.rf (MESH_DETOUR_DOWN_DIR p (plainOf v)) else s.rf (MESH_DETOUR_UP_DIR p (plainOf v))
    if d < 4 then some (d, k.phase || s.rb (MESH_DETOUR_UP_IS_DOWN p (plainOf v))) else none
  else xy

/-- `n` flits that go from tile `u` to tile `v` within one command, counted at each output: X first, then Y, or on COL. -/
def State.carryFrom (n v : Nat) (col : Bool) : Nat → State → Nat → Bool → State
  | 0, s, _, _ => s
  | fuel + 1, s, u, ph =>
    if u = v then s
    else
      let s1 := s.bump (MESH_PKT_FLITS_COUNT (plainOf u)) n
      match (if col then s.colDir { dst := 0, ty := 0, phase := ph, loc := .tile u } u v
        else (xyDir u v).map fun d => (d, false)) with
      | some d => (match neighbour u d.1 with
        | some w => State.carryFrom n v col fuel s1 w (ph || d.2)
        | none => s)
      | none => s

/-- `n` flits that the control block sends to a tile, and those that come back from it, within one command: through the west
rim pass of the tile's row, or of the plain that stands in for it (R400). [entry 148 DESIGN CHOICE] -/
def State.carryIn (s : State) (t n : Nat) : State :=
  let r := s.rimRow (tileY t)
  let u := tileAt 0 r
  State.carryFrom n t (r != tileY t) 1100 (s.bump (MESH_PKT_FLITS_COUNT (plainOf u)) n) u false
def State.carryOut (s : State) (t n : Nat) : State :=
  let r := s.rimRow (tileY t)
  State.carryFrom n (tileAt 0 r) (r != tileY t) 1100 s t false

/-- Flits of `n` bytes from an address in packets of at most 256 B at 256 B boundaries (R168). -/
def chunkFlits (a n : Nat) : Nat :=
  ((List.range ((a % 256 + n + 255) / 256)).map fun i =>
    let lo := max a (a / 256 * 256 + 256 * i); let hi := min (a + n) (a / 256 * 256 + 256 * (i + 1))
    ceilDiv (16 + (hi - lo)) 64).sum
/-- Packets of `n` bytes from an address: the READ requests for them, a flit each. -/
def chunkCount (a n : Nat) : Nat := (a % 256 + n + 255) / 256

/-- The edge of the grid at which a rim lies. -/
def rimEdge : Loc → Nat
  | .north _ => 0
  | .south _ => 2
  | _ => 3

/-- Flits of a packet: the header and its payload (Table FB-2); a READ carries no payload. -/
def packetFlits (k : Packet) : Nat := if k.ty = 1 then 1 else ceilDiv (16 + k.len) 64

/-- A transfer of a stream engine changes. -/
def State.updXfer (s : State) (t d id : Nat) (f : Xfer → Xfer) : State :=
  s.setStream t d { (s.tile t).stream d with
    xfers := ((s.tile t).stream d).xfers.map fun y => if y.id = id then f y else y }

/-- The descriptor in flight whose NOTIFY entry a packet brings changes. -/
def State.updNotify (s : State) (k : Packet) (f : Dma → Dma) : State :=
  match k.dma with
  | some (n, j, x) => s.updPart n fun p =>
    { p with dma := sset [] p.dma j ((sget [] p.dma j).map fun d => if d.index = x && d.sent && !d.notified then f d else d) }
  | none => s

/-- The packet leaves the network; with it a WRITE transfer of a stream has reached its destination (R193, R199), and a NOTIFY
push is complete (R202). -/
def State.dropPacket (s : State) (i : Nat) : State :=
  let s1 : State := { s with net := eraseAt s.net i }
  match s.net[i]? with
  | some k =>
    let s2 := s1.updNotify k fun d => { d with notified := true }
    (match k.eng with
     | some e => if k.ty = 0 then s2.updXfer (tileAt k.srcX k.srcY) e.1 e.2 fun y => { y with came := true } else s2
     | none => s2)
  | none => s1

/-- The reply that tells a reader that its request was refused or met an error (R169); what the control block sends is ORD (R171). -/
def errReply (k : Packet) (l : Loc) : Packet :=
  { dst := k.srcMod * 2 ^ 52 + k.srcY * 2 ^ 43 + k.srcX * 2 ^ 34, ty := 2, rsp := true, len := k.len,
    ord := (match l with
      | .west _ => true
      | _ => false)
    rq := k.rq, err := true, part := k.part, loc := l, eng := k.eng }

/-- A packet refused at a tile: discarded there, the fault recorded there, a READ answered with ERR = 1, a NOTIFY push of host
DMA ended with NOTIFY_FAIL (R24, R168, R175, R202). [entry 44 DEDUCED] -/
def State.refusePacket (s : State) (i t : Nat) (k : Packet) : State :=
  let s1 := (s.updNotify k fun d => { d with status := 5 }).dropPacket i
  let s2 := if k.ty = 1 then s1.send (errReply k k.loc) else s1
  s2.raiseTile t 0x1015

/-- A flit goes out on a span port (R182). -/
def State.spanSend (s : State) (p payload : Nat) : State :=
  let x := sget {} s.spans p
  (({ s with spans := sset {} s.spans p { x with
        txSeq := (x.txSeq + 1) % 4096, unacked := x.unacked ++ [(x.txSeq, payload)]
        since := if x.unacked.isEmpty then s.time else x.since } } : State).bump
    (SPN_FLITS_TX_COUNT p)).emit (.spanFlit p x.txSeq ((x.rxSeq + 4095) % 4096) payload)

/-- The words of a packet as a span flit carries them: header word 0, header word 1, payload (Table FB-2). -/
def packetWire (k : Packet) : Nat :=
  let h1 := k.ty + b2n k.rsp * 2 ^ 4 + b2n k.esc * 2 ^ 5 + b2n k.phase * 2 ^ 6 + b2n k.ord * 2 ^ 7 + k.len * 2 ^ 8 +
    k.srcX * 2 ^ 17 + k.srcY * 2 ^ 26 + k.srcMod * 2 ^ 35 + k.rq * 2 ^ 45 + k.tree * 2 ^ 48 + b2n k.err * 2 ^ 54 +
    k.part * 2 ^ 55
  k.dst + h1 * 2 ^ 64 + k.payload * 2 ^ 128

/-- A packet in the west rim for another module leaves by its span port, which keeps at most 512 unacknowledged flits, or is
refused there (R23, R182, R183). -/
def State.spanOut (s : State) (i t : Nat) (k : Packet) : State :=
  if s.reachable (gModule k.dst) k.esc then
    let p := s.spanPort (gModule k.dst) k.esc
    if 512 ≤ (sget {} s.spans p).unacked.length then s else (s.dropPacket i).spanSend p (packetWire k)
  else s.refusePacket i t k

/-- The link of a plain's edge at a tile is lost (R70). -/
def State.linkDown (s : State) (u e : Nat) : Bool :=
  (s.plain (plainOf u)).lostLinks.contains (e, if e % 2 = 0 then localX u else localY u, 0)

/-- The tile takes a packet: its router runs and its plain is not pausing (R76, R176). -/
def State.enterable (s : State) (u : Nat) : Bool := s.routerLive u && !s.pausing (plainOf u)

/-- The input port of `w` on which what tile `u` sends arrives. -/
def inputFrom (u w : Nat) : Nat := ((List.range 4).find? fun d => neighbour w d == some u).getD 4

/-- Flits of a buffer that are free: 10 on REQ and on RSP, 5 on COL (R170). -/
def State.bufferFree (s : State) (w inp chan : Nat) : Nat :=
  (if chan = 2 then 5 else 10) -
    ((s.net.filter fun k => k.loc == .tile w && k.inp == inp && packetChan k == chan).map packetFlits).sum
def State.bufferRoom (s : State) (w inp chan n : Nat) : Bool := decide (n ≤ s.bufferFree w inp chan)

/-- The `i`-th packet moves to another buffer, behind what that one holds. -/
def State.movePacket (s : State) (i : Nat) (k : Packet) : State :=
  { s with net := eraseAt s.net i ++ [{ k with since := s.countAt k.loc }] }

/-- A packet enters the grid from a rim at a tile, through edge `e` of its plain; one for a full-fenced plain is discarded at
the boundary (R175), and a lost link takes none (R70). -/
def State.enterTile (s : State) (i u e : Nat) (k : Packet) : State :=
  if s.plnState (plainOf u) = 3 ∧ gSpace k.dst = 0 ∧ plainOf (gTile k.dst) = plainOf u then s.refusePacket i u k
  else if s.enterable u && !s.linkDown u e && s.bufferRoom u e (packetChan k) (packetFlits k) then
    (s.movePacket i { k with loc := .tile u, inp := e }).bump (MESH_PKT_FLITS_COUNT (plainOf u)) (packetFlits k)
  else s

/-- The tile `w` takes a packet that comes from tile `u` in direction `d` (R70, R76, R170). -/
def State.hopOpen (s : State) (u w d : Nat) (k : Packet) : Bool :=
  s.routerLive w && !(plainOf w != plainOf u && (s.pausing (plainOf w) || s.linkDown u d)) &&
    s.bufferRoom w (oppInput d) (packetChan k) (packetFlits k)

/-- The packet is addressed into the full-fenced plain that tile `w` lies in (R175). -/
def State.intoFence (s : State) (w : Nat) (k : Packet) : Bool :=
  s.plnState (plainOf w) == 3 && gSpace k.dst == 0 && gModule k.dst == s.modNum && plainOf (gTile k.dst) == plainOf w

/-- The packet moves from tile `u` in direction `d` into a buffer with room: it waits at a paused plain, at a lost link, and at a
fenced plain whose detour table is not loaded; a packet addressed into a full-fenced plain is discarded at the boundary
(R70, R76, R170, R174, R175). -/
def State.hopTile (s : State) (i u d : Nat) (down : Bool) (k : Packet) : State :=
  match neighbour u d with
  | none => s
  | some w =>
    if s.intoFence w k then s.refusePacket i u k
    else if !s.hopOpen u w d k then s
    else
      (s.movePacket i { k with loc := .tile w, inp := oppInput d, phase := k.phase || (down && plainOf w != plainOf u) }).bump
        (MESH_PKT_FLITS_COUNT (plainOf u)) (packetFlits k)

/-- The neighbour in a direction lies in a full-fenced plain, or there is none. -/
def State.fencedDir (s : State) (u d : Nat) : Bool :=
  match neighbour u d with
  | some w => s.plnState (plainOf w) == 3
  | none => true

/-- Room in the buffer of the neighbour in a direction that the packet may take now; none where it may not (R170). -/
def State.dirFree (s : State) (u d : Nat) (k : Packet) : Option Nat :=
  match neighbour u d with
  | some w =>
    let n := s.bufferFree w (oppInput d) (packetChan k)
    if s.routerLive w && !s.fencedDir u d && !(plainOf w != plainOf u && (s.pausing (plainOf w) || s.linkDown u d)) &&
      decide (packetFlits k ≤ n) then some n else none
  | none => none

/-- An adaptive packet may go out in a direction: a minimal output with room, and none has more (R170). -/
def State.adaptive (s : State) (u v d : Nat) (k : Packet) : Bool :=
  (minimalDirs u v).contains d &&
    (match s.dirFree u d k with
     | some n => (minimalDirs u v).all fun e => match s.dirFree u e k with
       | some m => decide (m ≤ n)
       | none => true
     | none => false)

/-- What puts a packet onto COL at once: a full-fenced plain on the path of an ORD packet, no minimal output left for another,
or a west rim pass that stands in for that of its row (R171, R174, R400). -/
def State.takesCol (s : State) (u : Nat) (tg : Nat × Option Loc) (k : Packet) : Bool :=
  (k.ord && s.pathFenced tg.1 1100 u) || (!k.ord && (minimalDirs u tg.1).all (s.fencedDir u)) ||
    (match tg.2 with
     | some (.west r) => r != tileY u
     | _ => false)

/-- The output of a packet on COL at a tile: into a full-fenced plain that it is addressed to, X first, then Y (R174, R175). -/
def State.colExit (s : State) (u v : Nat) (k : Packet) : Option (Nat × Bool) :=
  if gSpace k.dst == 0 && s.plnState (plainOf v) == 3 then (xyDir u v).map fun d => (d, false) else s.colDir k u v

/-- A packet at a tile on its way: a hop on its channel, onto COL first where it must. The move counts in ESCAPES but for a packet
that is on COL from where it was injected (R171, Table FB-5). -/
def State.hopFrom (s : State) (i u dir : Nat) (tg : Nat × Option Loc) (k : Packet) : State :=
  if k.esc || s.takesCol u tg k then
    let s1 := if k.esc then s
      else if k.inp = 4 then ({ s with net := modifyAt s.net i fun k => { k with esc := true } } : State)
      else ({ s with net := modifyAt s.net i fun k => { k with esc := true } } : State).bump (MESH_ESCAPES_COUNT (plainOf u))
    match s.colExit u tg.1 k with
    | some d => s1.hopTile i u d.1 d.2 { k with esc := true }
    | none => s.refusePacket i u k
  else if k.ord then
    match xyDir u tg.1 with
    | some d => s.hopTile i u d false k
    | none => s
  else if s.adaptive u tg.1 dir k then s.hopTile i u dir false k
  else s

/-- PACKET_HOP: one hop of the `i`-th packet, the first of its buffer; `dir` chooses among minimal outputs with equal room (R170,
R171, R174, R400). [entry 41 DESIGN CHOICE] -/
def execPacketHop (i dir : Nat) (s : State) : Host.Outcome State Fault Refusal :=
  .next (match s.headPacket i with
    | none => s
    | some k =>
      match k.loc with
      | .west y =>
        if gModule k.dst ≠ s.modNum then s.spanOut i (tileAt 0 y) k
        else if gSpace k.dst = 0 then
          let row := tileY (gTile k.dst)
          let r := s.rimRow row
          s.enterTile i (tileAt 0 r) 3 (if r = row then k else { k with esc := true })
        else if gSpace k.dst = 1 then s.enterTile i (tileAt 0 y) 3 k
        else s
      | .north x => if gSpace k.dst = 1 ∧ gModule k.dst = s.modNum then s else s.enterTile i (tileAt x 0) 0 k
      | .south x => if gSpace k.dst = 1 ∧ gModule k.dst = s.modNum then s else s.enterTile i (tileAt x 511) 2 k
      | .span _ => s.movePacket i { k with loc := .west (if gSpace k.dst = 0 then tileY (gTile k.dst) else 0) }
      | .tile u =>
        if k.ty = 4 || !s.routerLive u then s
        else
          let tg := s.target k (tileX u) (tileY u)
          if u ≠ tg.1 then s.hopFrom i u dir tg k
          else match tg.2 with
            | some l => if s.linkDown u (rimEdge l) then s else s.movePacket i { k with loc := l, inp := 4 }
            | none => s)

/-- PACKET_ESCAPE: a packet that has waited ESC_WAIT mesh cycles at the head of its buffer, short of its destination, with no
permitted output moves to COL; an ORD packet and an MWRITE never do (R170, R171, R173). [entry 43 DEDUCED] -/
def execPacketEscape (i : Nat) (s : State) : Host.Outcome State Fault Refusal :=
  .next (match s.headPacket i with
    | none => s
    | some k =>
      match k.loc with
      | .tile u =>
        let v := (s.target k (tileX u) (tileY u)).1
        if k.esc || k.ord || k.ty == 4 || u == v || !s.routerLive u ||
            (minimalDirs u v).any (fun d => (s.dirFree u d k).isSome) ||
            decide (s.meshAt (plainOf u) < k.since + max 1 (s.rf (MESH_CTRL_ESC_WAIT (plainOf u)))) then s
        else ({ s with net := modifyAt s.net i fun k => { k with esc := true } } : State).bump
          (MESH_ESCAPES_COUNT (plainOf u))
      | _ => s)

/-! ### Detour tables (R174) -/

/-- A plain that traffic can use: neither full-fenced nor OFF. -/
def State.plainLive (s : State) (p : Nat) : Bool := s.plnState p != 3 && s.plnState p != 4

/-- The parent of a plain in a spanning tree, with the edge toward it. -/
def treeParent (tree : List (Nat × Nat)) (p : Nat) : Option (Nat × Nat) :=
  (tree.find? (·.1 == p)).bind fun e => if e.2 < 4 then (acrossEdge p e.2).map fun r => (e.2, r) else none

/-- A plain and its ancestors in the tree, the root last. -/
def treeChain (tree : List (Nat × Nat)) : Nat → Nat → List Nat
  | 0, p => [p]
  | n + 1, p => match treeParent tree p with
    | some r => p :: treeChain tree n r.2
    | none => [p]

/-- The tree spans the live plains: every one has a chain of live plains to a root, and live plains
that a pass joins have one root. -/
def State.treeOk (s : State) (tree : List (Nat × Nat)) : Bool :=
  (List.range 64).all fun p => !s.plainLive p ||
    (let c := treeChain tree 64 p
     c.eraseDups.length == c.length && c.all s.plainLive &&
       (List.range 4).all fun e => match acrossEdge p e with
         | some r => !s.plainLive r || (treeChain tree 64 r).getLast? == c.getLast?
         | none => true)

/-- The exit from plain `p` toward plain `d` (Table FB-5): 4 here, 7 unreachable; with it, whether it is a down link. In phase 1
only down links are taken. -/
def treeExit (tree : List (Nat × Nat)) (down : Bool) (p d : Nat) : Nat × Bool :=
  let c := treeChain tree 64 d
  if p = d then (4, false)
  else match c.idxOf? p with
    | some j => match treeParent tree (c.getD (j - 1) 0) with
      | some r => ((r.1 + 2) % 4, true)
      | none => (7, false)
    | none => match treeParent tree p with
      | some r => if down || (treeChain tree 64 p).getLast? != c.getLast? then (7, false) else (r.1, false)
      | none => (7, false)

/-- DETOUR_TABLE_LOADED: the Keeper's tables go into the MESH page of every plain: up*/down* order over a spanning tree of the live
plains, which is the Keeper's choice; they are active while a plain is full-fenced (R174). [entry 43 DEDUCED] -/
def execDetourTableLoaded (tree : List (Nat × Nat)) (s : State) : Host.Outcome State Fault Refusal :=
  let active := (List.range 64).any fun p => s.plnState p == 3
  .next (if !s.rb MOD_STATUS_KEEPER_UP || !s.treeOk tree then s
    else s.forEach (List.range 64) fun s p =>
      ((s.forEach (List.range 64) fun s d =>
        let up := treeExit tree false p d; let dn := treeExit tree true p d
        if s.plainLive p then
          s.wfs [(MESH_DETOUR_UP_DIR p d, up.1), (MESH_DETOUR_DOWN_DIR p d, dn.1), (MESH_DETOUR_UP_IS_DOWN p d, b2n up.2)]
        else s).wf (MESH_STATUS_DETOUR_VALID p) (b2n active)).updPlain p fun q => { q with detourWait := false })

/-! ### Stall watch and spill (R177 to R179, Table FB-3) -/

/-- A queue of the partition counts as holding an entry (R177). -/
def State.stallHolds (s : State) (t : Nat) : Bool :=
  (List.range 16).any fun k => !s.rb (TILE_QBIND_STALL_IGN t k) && (s.tile t).holds k

/-- The tiles of a partition that hold any state. -/
def State.tilesIn (s : State) (n : Nat) : List Nat :=
  (s.tiles.map fun (e : Nat × Tile) => e.1).filter fun t => s.tilePart t == some n

/-- The spill of one full input queue: the newest ⌊DEPTH/2⌋ entries that fit go before what is spilled already, and a
credit returns for each. -/
def State.spillQueue (s : State) (n t k : Nat) : State :=
  let x := s.tile t
  let q := x.inQ k
  let depth := s.qDepth t k
  let want := depth / 2
  let room := 1024 - (x.spill.map fun (e : Nat × List QEnt) => e.2.length).sum
  let m := min want room
  let keep := q.take (q.length - m)
  let moved := q.drop (q.length - m)
  let s1 := s.updTile t fun x =>
    { x with inq := sset [] x.inq k keep, spill := sset [] x.spill k (moved.map (fun e => { e with src := none }) ++ x.spillQ k) }
  let back := moved.filterMap fun e => e.src.map fun o => ({ origin := o, snk := t, snkQ := k } : Credit)
  let s2 := ({ s1 with credits := s1.credits ++ back } : State).bump (PSTL_SPILLED_COUNT n) m
  if m < want then s2.spillFull t else s2

/-- A deadlock is declared in a partition. -/
def State.stallDeclare (s : State) (n : Nat) : State :=
  let s1 := ((s.bump (PSTL_EVENTS_COUNT n)).wf (PSTL_LAST_TIME_TIME n) s.mtime).watchRestart n
  let full := (s.tilesIn n).flatMap fun t =>
    ((List.range 8).filter fun k => decide (0 < s.qDepth t k) && decide (s.qDepth t k ≤ ((s.tile t).inQ k).length)).map
      fun k => (t, k)
  if full.isEmpty then s1.raise 0xB003 (partPage n 5)
  else full.foldl (fun s q => s.spillQueue n q.1 q.2) s1

/-- STALL_DECLARE: no task has fired for the window while a queue holds an entry, and nothing freezes the watch
(R177). [entry 42 DEDUCED] -/
def execStallDeclare (n at_ : Nat) (s : State) : Host.Outcome State Fault Refusal :=
  let s1 := s.at at_
  let window := 2 ^ s1.rf (PSTL_WINDOW_LOG2 n) * 20 / 33
  .next (if n < 16 ∧ !s1.watchFrozen n ∧ window ≤ s1.quietNs n ∧
      (s1.tilesIn n).any s1.stallHolds then s1.stallDeclare n else s)

/-- SPILL_REFILL: the oldest spilled entry returns to its queue (Table FB-3, step 5). -/
def execSpillRefill (t k : Nat) (s : State) : Host.Outcome State Fault Refusal :=
  let x := s.tile t
  .next (match x.spillQ k with
    | [] => s
    | e :: rest =>
      if s.inRoom t k = 0 then s
      else (s.updTile t fun x => { x with inq := sset [] x.inq k (x.inQ k ++ [e]), spill := sset [] x.spill k rest }).promote t)

/-! ### Span links (R182, R183) -/

def State.span (s : State) (p : Nat) : Span := sget {} s.spans p
def State.setSpan (s : State) (p : Nat) (x : Span) : State := { s with spans := sset {} s.spans p x }

/-- A trained link goes down, for any cause (R182). [entry 48 PRESUMED] -/
def State.spanDown (s : State) (p : Nat) : State :=
  if s.rb (SPN_STATUS_UP p) then
    ((s.wfs [(SPN_STATUS_UP p, 0), (SPN_STATUS_LANES p, 0), (SPN_STATUS_REPLAYING p, 0)]).setSpan p {}).raise 0x4004 (pgSPN p)
  else s

/-- The unacknowledged flits up to an acknowledgement leave. [entry 48 PRESUMED] -/
def ackSpan (x : Span) (ack now : Nat) : Span :=
  let l := x.unacked.dropWhile fun e => decide ((ack + 4096 - e.1) % 4096 < 2048)
  if l.length < x.unacked.length then { x with unacked := l, replays := 0, since := now } else x

/-- The sender replays from its oldest unacknowledged flit; eight replays in a row without progress take the link down (R182). [entry 48 PRESUMED] -/
def State.spanReplay (s : State) (p : Nat) : State :=
  let x := s.span p
  if x.unacked.isEmpty then s
  else
    let s1 := ((s.bump (SPN_REPLAYS_COUNT p)).wf (SPN_STATUS_REPLAYING p) 1).setSpan p
      { x with replays := x.replays + 1, since := s.time }
    if 8 ≤ x.replays + 1 then s1.spanDown p
    else x.unacked.foldl (fun s e => s.emit (.spanFlit p e.1 ((x.rxSeq + 4095) % 4096) e.2)) s1

/-- SPAN_FLIT_RECEIVE: acceptance, duplicates, gaps (R182); a packet goes on into the module or to another port; where the
peer asks for a replay, it follows. -/
def execSpanFlitReceive (p : Nat) (crcOk : Bool) (seq : Nat) (ack : SpanAck) (pkt : Option Packet) (s : State) :
    Host.Outcome State Fault Refusal :=
  .next (if !(decide (p < 6) && s.rb (SPN_STATUS_UP p)) then s
    else
      let s0 := s.bump (SPN_FLITS_RX_COUNT p)
      if !crcOk then s0.bump (SPN_CRC_ERRORS_COUNT p)
      else
        let x := ackSpan (s.span p) ack.seq s.time
        let s1 := (s0.setSpan p x).wf (SPN_STATUS_REPLAYING p)
          (if x.replays = 0 then 0 else s.rf (SPN_STATUS_REPLAYING p))
        let s1 := if ack.replay then s1.spanReplay p else s1
        let x := s1.span p
        if !s1.rb (SPN_STATUS_UP p) then s1
        else if seq % 4096 = x.rxSeq then
          let s2 := s1.setSpan p { x with rxSeq := (x.rxSeq + 1) % 4096 }
          match pkt with
          | some k => s2.send { k with loc := .span p, via := some p, pa := none, inp := 4, full := false }
          | none => s2
        else if (x.rxSeq + 4096 - seq % 4096) % 4096 ≤ 2048 then s1.bump (SPN_DUP_DROPS_COUNT p)
        else s1.emit (.spanReplayReq p x.rxSeq))

/-- SPAN_REPLAY_TIMEOUT: no acknowledgement has arrived for REPLAY_TO_NS (R182). -/
def execSpanReplayTimeout (p : Nat) (s : State) : Host.Outcome State Fault Refusal :=
  .next (if p < 6 ∧ s.rb (SPN_STATUS_UP p) ∧ (s.span p).since + s.rf (SPN_LINK_REPLAY_TO_NS p) ≤ s.time then s.spanReplay p
    else s)

/-- SPAN_LINK_DOWN: loss of signal or of lane lock (R182). -/
def execSpanLinkDown (p : Nat) (s : State) : Host.Outcome State Fault Refusal :=
  .next (if p < 6 then s.spanDown p else s)

/-- SPAN_LINK_UP: the link is trained; both ends begin at sequence number 0. -/
def execSpanLinkUp (p lanes peer : Nat) (s : State) : Host.Outcome State Fault Refusal :=
  .next (if p < 6 ∧ s.pageReady (pgSPN p) then
    (s.wfs [(SPN_STATUS_UP p, 1), (SPN_STATUS_LANES p, lanes), (SPN_STATUS_PEER p, peer),
      (SPN_STATUS_REPLAYING p, 0)]).setSpan p {}
  else s)

/-- SPAN_NODE_WRITE: discarded unless every partition is EMPTY, STOPPED or DRAINED (R183). -/
def execSpanNodeWrite (f : Nat) (v : BitVec 64) (s : State) : Host.Outcome State Fault Refusal :=
  .next (if s.pf0Writes f ∧ s.pageReady (pgSPN 0) ∧ s.allQuiet then s.wf (SPN_NODE_MODULE 0) (bits v.toNat 0 10) else s)

end Sys2Proof.Machine
end

