-- ==== Sys2Proof/Machine/HostDma.lean ====
section
/-! DEFINITION. The host DMA queues of a partition (08 R200 to R204). -/

namespace Sys2Proof.Machine

/-- Descriptors of the ring of queue `j`; LOG2_SIZE outside 4 to 15 is treated as 4 (Table ST-9). -/
def State.pqSize (s : State) (n j : Nat) : Nat :=
  let l := s.rf (PQ_QCFG_LOG2_SIZE n j)
  2 ^ (if l < 4 then 4 else l)

def State.dmaOf (s : State) (n j : Nat) : List Dma := sget [] (s.part n).dma j
def State.setDma (s : State) (n j : Nat) (l : List Dma) : State :=
  s.updPart n fun p => { p with dma := sset [] p.dma j l }

/-- A write to a word of the PQ page from function `f`: PHYS is written only through PF0, and EN going to 1 restarts a
stopped queue at QHEAD (R200, R203). -/
def State.pqWord (s : State) (f n rel v m : Nat) : State :=
  let off := partPage n 1 + rel
  if 0x100 ≤ rel ∧ rel < 0x300 ∧ rel % 0x20 = 8 then
    let j := (rel - 0x100) / 0x20
    let was := s.rb (PQ_QCFG_EN n j)
    let s1 := s.writeWord off v (if f = 0 then m else m &&& (2 ^ 64 - 5))
    if !was && s1.rb (PQ_QCFG_EN n j) then s1.wfs [(PQ_QHEAD_STOPPED n j, 0), (PQ_QHEAD_LAST_ERR n j, 0)] else s1
  else if 0x100 ≤ rel ∧ rel < 0x300 ∧ rel % 0x20 = 0 then s.writeWord off (v &&& 0xFFFFFFFFFFFFFFC0) m
  else s.writeWord off v m

/-- PQ_TAIL_WRITE: R201. -/
def execPqTailWrite (f n j : Nat) (v : BitVec 64) (s : State) : Host.Outcome State Fault Refusal :=
  .next (if s.writes f n ∧ j < 16 ∧ s.pageReady (partPage n 1) then
    s.pqWord f n (0x110 + 0x20 * j) v.toNat (2 ^ 64 - 1) else s)

/-- PQ_QCFG_WRITE: R200, R203. -/
def execPqQcfgWrite (f n j : Nat) (v : BitVec 64) (s : State) : Host.Outcome State Fault Refusal :=
  .next (if s.writes f n ∧ j < 16 ∧ s.pageReady (partPage n 1) then
    s.pqWord f n (0x108 + 0x20 * j) v.toNat (2 ^ 64 - 1) else s)

/-- The descriptor is malformed (BAD_DESC, Table ST-6). -/
def dmaBad (w0 w1 w2 w3 : Nat) : Bool :=
  w0 % 64 != 0 || w1 % 64 != 0 || bits w2 0 32 == 0 || bits w2 0 32 % 64 != 0 || bits w2 36 28 != 0 || bits w3 21 3 != 0

/-- W2_ADDR is one of those that R200 allows. -/
def State.dmaAddrOk (s : State) (n j g len : Nat) : Bool :=
  gModule g == s.modNum &&
  (match gSpace g with
   | 0 =>
     let a := gLocal g
     bits g 32 2 == 0 && (areaOf a == .desk || areaOf a == .bench) && areaOf (a + len - 1) == areaOf a &&
       s.tilePart (gTile g) == some n
   | 1 =>
     if s.rb (PQ_QCFG_PHYS n j) then
       s.inWindow n (gEdge g / 2 ^ 21) && s.inWindow n ((gEdge g + len - 1) / 2 ^ 21)
     else decide (gEdge g + len ≤ 2 ^ 40)
   | _ => false)

/-- The pieces of memory that a transfer names, each within one page: memory key and length. `none` where a page is not
there; the translations advance the counters of PEPT. -/
def State.dmaPieces (s : State) (n : Nat) : Nat → Nat → Nat → Option (List (Nat × Nat)) × State
  | 0, _, _ => (some [], s)
  | fuel + 1, va, len =>
    if len = 0 then (some [], s)
    else
      let l := min len (2 ^ 21 - va % 2 ^ 21)
      match s.translate n va with
      | (.hit pa, s1) =>
        let r := s1.dmaPieces n fuel (va + l) (len - l)
        (r.1.map fun ps => (ekey pa, l) :: ps, r.2)
      | (_, s1) => (none, s1)

/-- Data from the host written to one piece after another. -/
def State.dmaStore (s : State) (v : Nat) : List (Nat × Nat) → State
  | [] => s
  | (k, l) :: ps =>
    let s1 := s.wrMem k l (v % 2 ^ (8 * l))
    let s2 := if 2 ^ 60 ≤ k then s1.bump EDGE_WRITE_STRIPES_COUNT (stripes (k - 2 ^ 60) l) else s1
    s2.dmaStore (v / 2 ^ (8 * l)) ps

/-- The words of a piece as they are sent to the host: a word with an uncorrectable error goes as zero. -/
def State.dmaWords (s : State) (k l : Nat) : Nat :=
  ((wordsOf k l).map fun w => if (sget? s.eccBad w).isSome then 0 else s.rdMem (8 * w) 8 * 2 ^ (64 * (w - k / 8))).sum

/-- One piece read for the host: the data, whether a word could not be corrected, the state. -/
def State.dmaLoad (s : State) (k l : Nat) (e : Ecc) : Nat × Bool × State :=
  let s1 := s.noteEcc k l e
  let o := s1.eccOf k l e
  let s2 := if 2 ^ 60 ≤ k then (s1.bump EDGE_READ_STRIPES_COUNT (stripes (k - 2 ^ 60) l)).edgeEcc (k - 2 ^ 60) l o
    else
      let t := k / 2 ^ 32; let a := k % 2 ^ 32
      (s1.openRowOf t a).raiseEcc t a l o
  (s1.dmaWords k l, o == .bad, s2)

/-- Pieces read one after another, the array's outcome falling on the first. -/
def State.dmaLoads (s : State) (e : Ecc) : List (Nat × Nat) → Nat × Bool × State
  | [] => (0, false, s)
  | (k, l) :: ps =>
    let r := s.dmaLoad k l e
    let q := r.2.2.dmaLoads .clean ps
    (r.1 + q.1 * 2 ^ (8 * l), r.2.1 || q.2.1, q.2.2)

/-- The data of a descriptor moves; answers its status (Table ST-6). -/
def State.dmaMove (s : State) (n j w0 w1 w2 w3 hostData : Nat) (hostErr : Bool) (e : Ecc) : Nat × State :=
  let len := bits w2 0 32
  if dmaBad w0 w1 w2 w3 then (6, s)
  else if !s.dmaAddrOk n j w1 len then (2, s)
  else
    let r := if gSpace w1 = 0 then (some [(tkey (gTile w1) (gLocal w1), len)], s)
      else if s.rb (PQ_QCFG_PHYS n j) then (some [(ekey (gEdge w1), len)], s)
      else s.dmaPieces n (len / 2 ^ 21 + 2) (gEdge w1) len
    match r with
    | (none, s1) => (3, s1)
    | (some ps, s1) =>
      let t := gTile w1
      let tile := gSpace w1 == 0
      if hostErr then (7, s1)
      else if w2.testBit 32 then
        let s2 := if tile then (s1.carryIn t (chunkCount (gLocal w1) len)).carryOut t (chunkFlits (gLocal w1) len) else s1
        let d := s2.dmaLoads e ps
        (if d.2.1 then 4 else 1, (d.2.2.bump (PQ_BYTES_OUT_COUNT n) len).emit (.hostWrite w0 len d.1))
      else
        let s2 := if tile then s1.carryIn t (chunkFlits (gLocal w1) len) else s1
        (1, (s2.dmaStore (hostData % 2 ^ (8 * len)) ps).bump (PQ_BYTES_IN_COUNT n) len)

/-- A status after which the queue stops. [entry 50 DEDUCED] -/
def dmaStops (st : Nat) : Bool := st == 2 || st == 3 || st == 6 || st == 7

/-- The tile that a descriptor's data lies in takes accesses: its plain neither paused nor full-fenced, the tile not
fenced, no row operation on the rows. -/
def State.dmaOpen (s : State) (g len : Nat) : Bool :=
  gSpace g != 0 ||
    (s.routerLive (gTile g) && !s.fenced (gTile g) && !(s.tile (gTile g)).benchHeld (gLocal g) len)

/-- HOST_DMA_DESCRIPTOR_START: the next descriptor of the ring is fetched, as `w0` to `w3`, and its data moves
(R200 to R203). It waits while 4 are in flight, behind a stopping error, for a FENCE, and, where its address is not refused,
for a tile that takes no accesses. [entry 50 DEDUCED] -/
def execHostDmaDescriptorStart (n j : Nat) (w0 w1 w2 w3 : BitVec 64) (hostData : Nat) (hostErr : Bool) (ecc : Ecc)
    (s : State) : Host.Outcome State Fault Refusal :=
  let size := s.pqSize n j
  let fl := s.dmaOf n j
  let index := (s.rf (PQ_QHEAD_HEAD n j) + fl.length) % size
  let ready := decide (n < 16) && decide (j < 16) && s.rb (PQ_QCFG_EN n j) && !s.rb (PQ_QHEAD_STOPPED n j) &&
    s.pageReady (partPage n 1) && !s.frozen && decide (s.rf PWR_STATUS_STATE < 3)
  let due := index != s.rf (PQ_QTAIL_TAIL n j) % size && decide (fl.length < 4) && (!w2.toNat.testBit 34 || fl.isEmpty)
  let len := bits w2.toNat 0 32
  let moves := !dmaBad w0.toNat w1.toNat w2.toNat w3.toNat && s.dmaAddrOk n j w1.toNat len
  .next (if !ready || !due || (moves && !s.dmaOpen w1.toNat len) then s
    else
      let r := s.dmaMove n j w0.toNat w1.toNat w2.toNat w3.toNat hostData hostErr ecc
      let d : Dma := { index := index, w3 := w3.toNat, irq := w2.toNat.testBit 33, status := r.1,
                       notified := !w2.toNat.testBit 35 || dmaStops r.1 }
      let s1 := r.2.setDma n j (fl ++ [d])
      if dmaStops r.1 then s1.wfs [(PQ_QHEAD_STOPPED n j, 1), (PQ_QHEAD_LAST_ERR n j, r.1)] else s1)

/-- HOST_DMA_NOTIFY: the NOTIFY push of the `i`-th descriptor in flight leaves as a QPUSH packet, whose delivery completes it; a
target that R202 does not allow makes the result NOTIFY_FAIL. -/
def execHostDmaNotify (n j i : Nat) (s : State) : Host.Outcome State Fault Refusal :=
  let fl := s.dmaOf n j
  .next (match fl[i]? with
    | none => s
    | some d =>
      let t := tileAt (bits d.w3 0 9) (bits d.w3 9 9)
      let q := bits d.w3 18 3
      if d.notified || d.sent || s.frozen then s
      else if s.rf (TILE_QBIND_KIND t q) ≠ 2 ∨ s.tilePart t ≠ some n then
        s.setDma n j (modifyAt fl i fun d => { d with notified := true, status := 5 })
      else
        (s.setDma n j (modifyAt fl i fun d => { d with sent := true })).send
          { dst := s.tileGlobal t 0, ty := 3, len := 64, srcMod := s.modNum, rq := q, part := n
            payload := bits d.w3 32 32 + j * 2 ^ 32 + d.status * 2 ^ 48, loc := .west (tileY t), dma := some (n, j, d.index) })

/-- HOST_DMA_WRITEBACK: the oldest descriptor in flight is written back, then its interrupt goes out (R201); a backup leaves it as
it is (R204). -/
def execHostDmaWriteback (n j : Nat) (s : State) : Host.Outcome State Fault Refusal :=
  .next (match s.dmaOf n j with
    | [] => s
    | d :: rest =>
      if !d.notified || s.frozen then s
      else
        let word := d.w3 - bits d.w3 24 8 * 2 ^ 24 + d.status * 2 ^ 24
        let s1 := (s.setDma n j rest).emit (.hostWrite (s.rf (PQ_QBASE_ADDR n j) + 32 * d.index + 24) 8 word)
        let s2 := (s1.wf (PQ_QHEAD_HEAD n j) ((d.index + 1) % s.pqSize n j)).bump (PQ_DONE_COUNT_COUNT n)
        let s3 := if d.status = 1 then s2 else s2.bump (PQ_ERR_COUNT_COUNT n)
        if d.irq && s3.rb (PQ_QCFG_IRQ_EN n j) then s3.irqPart n (2 + j) else s3)

end Sys2Proof.Machine
end

