-- ==== Sys2Proof/Machine/Ledger.lean ====
section
/-! DEFINITION. The ledger of a partition, LDP and the shapers (13 R277 to R288). -/

namespace Sys2Proof.Machine

/-! ### Session entries (Tables PT-4 and PT-5) -/

/-- Word `w` of ingress entry `i`, and of egress entry `e`, as one field. [entry 130 DESIGN CHOICE] -/
def sesI (i w : Nat) : Fk := ⟨0x101000 + 64 * i + 8 * w, 0, 64⟩
/-- [entry 130 DESIGN CHOICE] -/
def sesE (e w : Nat) : Fk := ⟨0x141000 + 64 * e + 8 * w, 0, 64⟩

def State.ingr (s : State) (i : Nat) : Ingress := sget {} s.ing i
def State.setIngr (s : State) (i : Nat) (x : Ingress) : State := { s with ing := sset {} s.ing i x }
def State.egre (s : State) (e : Nat) : Egress := sget {} s.egr e
def State.setEgr (s : State) (e : Nat) (x : Egress) : State := { s with egr := sset {} s.egr e x }
def State.updEgr (s : State) (e : Nat) (f : Egress → Egress) : State := s.setEgr e (f (s.egre e))

def State.egValid (s : State) (e : Nat) : Bool := (s.rf (sesE e 0)).testBit 0
def State.egPart (s : State) (e : Nat) : Nat := bits (s.rf (sesE e 0)) 18 4
def State.egPort (s : State) (e : Nat) : Nat := bits (s.rf (sesE e 0)) 1 3
/-- RATE and BURST, which are not staged (R288). -/
def State.egRate (s : State) (e : Nat) : Nat := bits (s.rf (sesE e 6)) 0 40
def State.egBurst (s : State) (e : Nat) : Nat := bits (s.rf (sesE e 7)) 0 24

/-! ### The pool (R277) -/

/-- Record slots of the pool. -/
def State.poolSlots (s : State) : Nat := s.rf LDG_POOL_PAGES * 8192
/-- Slots given to the partitions. -/
def State.givenSlots (s : State) : Nat := ((List.range 16).map fun n => s.rf (PLG_CAPACITY_RECORDS n)).sum

/-- A write to LDG.POOL: discarded with CFG_REFUSED unless every partition that holds slots is quiet, the pool still holds
the sum of the capacities, and the keep-set stays within 48 GiB (R277, R297). [entry 81 DEDUCED] -/
def State.poolWrite (s : State) (v : Nat) : State :=
  let pages := bits v 18 8
  if ((List.range 16).all fun n => s.rf (PLG_CAPACITY_RECORDS n) == 0 || s.quietPart n) ∧ pages ≤ 128 ∧
      s.givenSlots ≤ pages * 8192 ∧ s.keepMost pages 16 s.rf ≤ 48 * 2 ^ 30 then
    s.wfs [(LDG_POOL_BASE, bits v 0 18), (LDG_POOL_PAGES, pages)]
  else s.wf LDG_STATUS_CFG_REFUSED 1

/-- A write to PLG.CAPACITY. [entry 81 DEDUCED] -/
def State.capacityWrite (s : State) (n v : Nat) : State :=
  let rec_ := bits v 0 21
  if s.quietPart n ∧ s.givenSlots - s.rf (PLG_CAPACITY_RECORDS n) + rec_ ≤ s.poolSlots then
    s.wfs [(PLG_CAPACITY_RECORDS n, rec_), (PLG_CAPACITY_LATE_RESERVE n, bits v 24 12)]
  else s.wf LDG_STATUS_CFG_REFUSED 1

/-! ### Acceptance and release (R279 to R282) -/

/-- Records held. -/
def State.occupancy (s : State) (n : Nat) : Nat := (s.part n).ledger.length

/-- A record is written into a slot and numbered; it is released at once where R282 says so. -/
def State.ledgerPut (s : State) (n e kind item len payload : Nat) (unarmed : Bool) : State :=
  let x := s.egre e
  let p := s.part n
  let now := kind == 1 || (s.rf (sesE e 0)).testBit 22 || p.emitted.contains (item, e)
  let r : Rec := { eses := e, kind := kind, item := item, seq := s.rf LDG_INCARNATION_COUNT * 2 ^ 40 + x.count,
                   len := len, payload := payload, time := s.mtime, unarmed := unarmed,
                   rel := if now then some p.relNext else none, born := s.time }
  let s1 := (s.setEgr e { x with count := x.count + 1 }).setPart n
    { p with ledger := p.ledger ++ [r], relNext := if now then p.relNext + 1 else p.relNext
             items := p.items.map fun i =>
               if i.num = item ∧ !i.accepted.contains e then { i with accepted := e :: i.accepted } else i }
  let occ := s1.occupancy n
  let s2 := (s1.bump (PLG_ACCEPTED_COUNT n)).wf (PLG_HIGH_WATER_RECORDS n) (max occ (s1.rf (PLG_HIGH_WATER_RECORDS n)))
  if occ = s2.rf (PLG_CTRL_HIGH_MARK n) then s2.irqPart n 19 else s2

/-- The room that R280 leaves for a record of a kind. -/
def State.ledgerRoom (s : State) (n kind : Nat) : Bool :=
  let cap := s.rf (PLG_CAPACITY_RECORDS n)
  if kind = 1 then decide (s.occupancy n < cap)
  else decide (s.occupancy n < cap - s.rf (PLG_CAPACITY_LATE_RESERVE n))

/-- A VERDICT or UNPROCESSED record offered: its status (R278, R280) and the state. -/
def State.ledgerOffer (s : State) (n e kind item len payload : Nat) : Nat × State :=
  let armed := s.rb PWR_STATUS_ARMED
  if !s.ledgerRoom n kind then (2, s.bump (PLG_REFUSED_COUNT n))
  else if !armed && s.rb (PLG_CTRL_UNARMED n) then (3, s.bump (PLG_REFUSED_COUNT n))
  else (if armed then 0 else 1, s.ledgerPut n e kind item len payload (!armed))

/-- A LATE verdict is written into the ledger (R263, R280). -/
def State.lateRecord (s : State) (n e item entry cause : Nat) (slowed : Bool) (due : Int) : State :=
  let payload := cause + b2n slowed * 2 ^ 8 + entry * 2 ^ 16 + ofSigned due 64 * 2 ^ 64
  if s.ledgerRoom n 1 then s.ledgerPut n e 1 item 16 payload (!s.rb PWR_STATUS_ARMED)
  else (s.bump (PLG_LATE_LOST_COUNT n)).raise 0x4005 (partPage n 3)

/-- Records of a partition released, in the order in which they were accepted. -/
def releaseAll (f : Rec → Bool) : List Rec → Nat → List Rec × Nat
  | [], k => ([], k)
  | r :: rs, k =>
    if r.rel.isNone && f r then
      let q := releaseAll f rs (k + 1)
      ({ r with rel := some k } :: q.1, q.2)
    else
      let q := releaseAll f rs k
      (r :: q.1, q.2)

/-- An EMIT releases records (R259). -/
def State.release (s : State) (n : Nat) (f : Rec → Bool) : State :=
  s.updPart n fun p =>
    let q := releaseAll f p.ledger p.relNext
    { p with ledger := q.1, relNext := q.2 }

/-- A relative EMIT: the item's records now, and those accepted later on acceptance. -/
def State.emitItem (s : State) (n e item : Nat) : State :=
  (s.release n fun r => r.eses == e && r.item == item).updPart n fun p =>
    { p with emitted := if p.emitted.contains (item, e) then p.emitted else (item, e) :: p.emitted }

/-! ### Submission (R278) -/

/-- A doorbell of tile `t` reaches PLG.SUBMIT: the ledger reads the record from the tile. -/
def State.plgSubmit (s : State) (n t v : Nat) (ecc : Ecc) : State :=
  let addr := bits v 0 16
  let units := bits v 16 2 + 1
  let b : Sub := { tile := t, units := units, rq := bits v 20 3, reply := v.testBit 23, bad := true, data := 0 }
  if addr % 64 = 0 ∧ addr + 64 * units ≤ 0xC000 then
    let r := s.wideRead (tkey t addr) (64 * units) (s.eccOf (tkey t addr) (64 * units) ecc)
    (r.2.1.updPart n fun p => { p with subs := p.subs ++ [{ b with bad := false, data := r.1 }] }).raiseEcc t addr (64 * units) r.2.2
  else s.updPart n fun p => { p with subs := p.subs ++ [b] }

/-- The limits of Table PT-1 that make a record BAD_RECORD. -/
def Sub.ok (b : Sub) : Bool :=
  !b.bad && bits b.data 12 4 == 0 && bits b.data 16 16 == 0 && bits b.data 80 48 == 0 &&
    decide (bits b.data 64 16 ≤ 240) && decide (16 + bits b.data 64 16 ≤ 64 * b.units)

/-- The check of a submitted record and the acceptance entry (R278 to R281): SEQ, STATUS, ITEM. [entry 82 DEDUCED] -/
def State.ledgerCheck (s : State) (n : Nat) (b : Sub) : State :=
  let e := bits b.data 0 12
  let item := bits b.data 32 32
  let len := bits b.data 64 16
  let tainted := (s.part n).items.any fun i => i.num == item && i.tainted
  let r := if !b.ok then (4, s.bump (PLG_REFUSED_COUNT n))
    else if !s.egValid e || s.egPart e != n then (5, s.bump (PLG_REFUSED_COUNT n))
    else s.ledgerOffer n e (if tainted then 2 else 0) item len (bits b.data 128 (8 * len))
  let seq := if r.1 ≤ 1 then s.rf LDG_INCARNATION_COUNT * 2 ^ 40 + (s.egre e).count else 0
  if b.reply then
    r.2.send { dst := s.tileGlobal b.tile 0, ty := 3, len := 64, srcMod := s.modNum, rq := b.rq, part := n
               payload := seq + r.1 * 2 ^ 64 + item * 2 ^ 96, loc := .west (tileY b.tile) }
  else r.2

/-- LEDGER_SUBMIT: the `i`-th packet, at the west rim, is a doorbell (R278). [entry 82 DEDUCED] -/
def execLedgerSubmit (i : Nat) (ecc : Ecc) (s : State) : Host.Outcome State Fault Refusal :=
  .next (match s.net[i]? with
    | none => s
    | some k =>
      let t := tileAt k.srcX k.srcY
      match k.loc with
      | .west _ =>
        if gSpace k.dst = 2 ∧ gModule k.dst = s.modNum ∧ k.via = none ∧ gOff k.dst = 0x3110 ∧ k.ty = 0 ∧ k.len = 8 ∧ s.routerLive t ∧
            !s.frozen ∧ s.pageReady (partPage k.part 3) then
          ({ s with net := eraseAt s.net i } : State).plgSubmit k.part t k.payload ecc
        else s
      | _ => s)

/-- LEDGER_ACCEPT: the oldest doorbell of the partition is checked and answered. -/
def execLedgerAccept (n at_ : Nat) (s : State) : Host.Outcome State Fault Refusal :=
  let s1 := s.at at_
  .next (match (s1.part n).subs with
    | [] => s
    | b :: rest => if s.frozen then s else (s1.updPart n fun p => { p with subs := rest }).ledgerCheck n b)

/-! ### Refill of the shapers (R287) -/

/-- The egress sessions that have a rate. [entry 84 DEDUCED] -/
def State.shaped (s : State) : List Nat :=
  (s.fld.filterMap fun (x : Nat × Nat) =>
    if 0x141000 * 64 ≤ x.1 ∧ x.1 < 0x181000 * 64 ∧ (x.1 / 64 - 0x141000) % 64 = 48 then
      some ((x.1 / 64 - 0x141000) / 64) else none).filter fun e => s.egRate e != 0

/-- Every microsecond that has passed adds RATE / 10^6 tokens, in 1/65,536 byte, capped at BURST (R287). [entry 84 DEDUCED] -/
def State.refillShapers (s : State) : State :=
  let k := (s.time - s.shaperAt) / 1000
  if k = 0 then s
  else ({ s with shaperAt := s.shaperAt + 1000 * k } : State).forEach s.shaped fun s e => s.updEgr e fun x =>
    { x with tokens := min (x.tokens + (k * (s.egRate e * 65536 / 1000000) : Nat)) (s.egBurst e * 65536 : Nat) }

/-! ### Next hops (R269) -/

/-- The next hop of a destination: itself within the port's prefix, else the gateway. -/
def State.nextHop (s : State) (p : Nat) (v6 : Bool) (dst : Nat) : Nat :=
  let own := if v6 then s.rf (PRT_IPV6_ADDR p 0) + 2 ^ 64 * s.rf (PRT_IPV6_ADDR p 1) else s.rf (PRT_IPV4_ADDR p)
  let host := if v6 then 128 - s.rf (PRT_IPV6_PREFIX_LEN p) else 32 - s.rf (PRT_IPV4_PREFIX p)
  if own / 2 ^ host = dst / 2 ^ host then dst
  else if v6 then s.rf (PRT_GW6_ADDR p 0) + 2 ^ 64 * s.rf (PRT_GW6_ADDR p 1) else s.rf (PRT_GW4_ADDR p)

def hopKey (p : Nat) (v6 : Bool) (a : Nat) : Nat := (a * 2 + b2n v6) * 8 + p

/-- The next hop of an egress session: whether its address is IPv6, and the address. -/
def State.egHop (s : State) (e : Nat) : Bool × Nat :=
  let v6 := (s.rf (sesE e 0)).testBit 4
  (v6, s.nextHop (s.egPort e) v6 (s.rf (sesE e 2) + 2 ^ 64 * s.rf (sesE e 3)))

/-- Its MAC address, where it is resolved. [entry 155 DESIGN CHOICE] -/
def State.egMac (s : State) (e : Nat) : Option Nat := sget? s.hops (hopKey (s.egPort e) (s.egHop e).1 (s.egHop e).2)

/-- The port asks for the next hop of an egress session. -/
def State.askHop (s : State) (e : Nat) : State :=
  (s.bump (PRT_TX_FRAMES_COUNT (s.egPort e))).emit (.hopAsk (s.egPort e) (s.egHop e).1 (s.egHop e).2)

/-! ### LDP (R282 to R286) -/

/-- The DATA datagram of a record (Table PT-2), without and with its CRC. [entry 83 PRESUMED] -/
def Rec.body (r : Rec) (sid : Nat) (retx : Bool) : Nat :=
  0x4C50 + 2 ^ 16 + 2 ^ 24 + sid * 2 ^ 32 + r.seq * 2 ^ 64 + r.item * 2 ^ 128 + r.kind * 2 ^ 160 +
    (b2n r.unarmed + 2 * b2n retx) * 2 ^ 168 + r.len * 2 ^ 176 + r.time * 2 ^ 192 + r.payload * 2 ^ 256
/-- [entry 83 PRESUMED] -/
def Rec.datagram (r : Rec) (sid : Nat) (retx : Bool) : Nat :=
  r.body sid retx + crc32c (bytesOf (r.body sid retx) (32 + r.len)) * 2 ^ (8 * (32 + r.len))

/-- The records of an egress session, with the partitions whose ledgers hold them. -/
def State.recsOf (s : State) (e : Nat) : List (Nat × Rec) :=
  (List.range 16).flatMap fun n => ((s.part n).ledger.filter (·.eses == e)).map fun r => (n, r)

/-- The record released first. -/
def firstRel (l : List (Nat × Rec)) : Option (Nat × Rec) :=
  l.foldl (fun b x => match b with
    | some y => if x.2.rel.getD 0 < y.2.rel.getD 0 then some x else b
    | none => some x) none

/-- The record that a session sends next: one to be sent again first, then, within WINDOW, the one released first
(R282, R286); a partition that is RESTORING sends nothing. [entry 85 DEDUCED] -/
def State.ldpPick (s : State) (e : Nat) : Option (Nat × Rec) :=
  let l := (s.recsOf e).filter fun x => s.pst x.1 != psRESTORING && x.2.rel.isSome
  let out := ((s.recsOf e).filter fun x => decide (0 < x.2.sends)).length
  match firstRel (l.filter (·.2.again)) with
  | some x => some x
  | none => if out < bits (s.rf (sesE e 1)) 32 10 then firstRel (l.filter fun x => x.2.sends == 0) else none

/-- One record of a ledger changed. -/
def State.updRec (s : State) (n e seq : Nat) (f : Rec → Rec) : State :=
  s.updPart n fun p => { p with ledger := p.ledger.map fun r => if r.eses = e ∧ r.seq = seq then f r else r }

/-- A session may send now: valid, its link up, no backup, tokens above 0 where it is shaped. -/
def State.ldpOpen (s : State) (e : Nat) : Bool :=
  s.egValid e && s.rb (PRT_STATUS_LINK_UP (s.egPort e)) && !s.frozen &&
    (s.egRate e == 0 || decide (0 < (s.egre e).tokens))

/-- A datagram goes out to the next hop, and its UDP payload is taken from the bucket (R269, R287). [entry 85 DEDUCED] -/
def State.ldpOut (s : State) (e mac n : Nat) (r : Rec) : State :=
  let again := decide (0 < r.sends) || r.again
  let rto := if r.rto = 0 then bits (s.rf (sesE e 4)) 0 32 else r.rto
  let s1 := s.updRec n e r.seq fun r => { r with sends := r.sends + 1, lastSend := s.time, rto := rto, again := false }
  let s2 := s1.updEgr e fun x =>
    { x with tokens := if s.egRate e = 0 then x.tokens else x.tokens - ((36 + r.len) * 65536 : Nat)
             sent := if again then x.sent else x.sent + 1
             retx := if again then x.retx + 1 else x.retx }
  (s2.bump (PRT_TX_FRAMES_COUNT (s.egPort e))).emit
    (.ldp e mac (36 + r.len) (r.datagram (bits (s.rf (sesE e 0)) 32 32) again))

/-- A session that may send does so, or asks for its next hop first. -/
def State.ldpSend (s0 : State) (e : Nat) : State :=
  let s := s0.refillShapers
  if !s.ldpOpen e then s
  else match s.ldpPick e, s.egMac e with
    | none, _ => s
    | some _, none => s.askHop e
    | some (n, r), some mac => s.ldpOut e mac n r

/-- LDP_SEND: R282, R287. -/
def execLdpSend (e at_ : Nat) (s : State) : Host.Outcome State Fault Refusal := .next ((s.at at_).ldpSend e)

/-- LDP_RETRANSMIT_TIMEOUT: a sent record whose timer has run out is due to be sent again, with its timer doubled up to
RTO_MAX_US, and goes out when the shaper allows (R284). -/
def execLdpRetransmitTimeout (e seq at_ : Nat) (s : State) : Host.Outcome State Fault Refusal :=
  let s1 := s.at at_
  .next (match (s1.recsOf e).find? fun x => x.2.seq == seq && decide (0 < x.2.sends) && !x.2.again with
    | none => s
    | some (n, r) =>
      if s1.time < r.lastSend + r.rto * 1000 then s
      else (s1.updRec n e seq fun r =>
        { r with again := true, rto := min (2 * r.rto) (max r.rto (bits (s1.rf (sesE e 4)) 32 32)) }).ldpSend e)

/-- An ACK datagram is valid (R283). -/
def State.ackOk (s : State) (e port srcIp srcUdp dstUdp len data : Nat) : Bool :=
  let count := bits data 64 16
  s.egValid e && port == s.egPort e && srcIp == s.rf (sesE e 2) + 2 ^ 64 * s.rf (sesE e 3) &&
    srcUdp == bits (s.rf (sesE e 1)) 0 16 && dstUdp == bits (s.rf (sesE e 1)) 16 16 &&
    bits data 0 32 == 0x02014C50 && bits data 32 32 == bits (s.rf (sesE e 0)) 32 32 &&
    decide (1 ≤ count) && decide (count ≤ 32) && len == 20 + 8 * count &&
    bits data (8 * (len - 4)) 32 == crc32c (bytesOf data (len - 4))

/-- One SEQ of a valid ACK. -/
def State.ackSeq (s : State) (e seq : Nat) : State :=
  match (s.recsOf e).find? fun x => x.2.seq == seq with
  | none => s.updEgr e fun x => { x with dups := x.dups + 1 }
  | some (n, r) =>
    ((s.updPart n fun p =>
        { p with ledger := p.ledger.filter fun q => !(q.eses == e && q.seq == seq)
                 items := p.items.map fun i =>
                   if i.num = r.item ∧ !i.acked.contains e then { i with acked := e :: i.acked } else i }).bump
      (PLG_REMOVED_COUNT n)).updEgr e fun x => { x with acked := x.acked + 1 }

/-- LDP_ACK: an ACK for session `e`, as it arrived (R283); one that arrives during the backup freeze is discarded
(R286). -/
def execLdpAck (e port srcIp srcUdp dstUdp len data : Nat) (s : State) : Host.Outcome State Fault Refusal :=
  .next (if s.rb MOD_STATUS_BACKUP_ACTIVE || !s.rb (PRT_STATUS_LINK_UP port) then s
    else if s.ackOk e port srcIp srcUdp dstUdp len data then
      (List.range (bits data 64 16)).foldl (fun s i => s.ackSeq e (bits data (128 + 64 * i) 64))
        (s.updEgr e fun x => { x with silent := false })
    else s.updEgr e fun x => { x with bads := x.bads + 1 })

/-- PARTNER_SILENT: a record of the session has been held for more than AGE_LIMIT_MS (R284). -/
def execPartnerSilent (e at_ : Nat) (s : State) : Host.Outcome State Fault Refusal :=
  let s1 := s.at at_
  let limit := bits (s1.rf (sesE e 5)) 0 32
  .next (if s1.egValid e && limit != 0 && !(s1.egre e).silent &&
      (s1.recsOf e).any (fun x => decide (x.2.born + limit * 1000000 < s1.time)) then
    (s1.updEgr e fun x => { x with silent := true }).raise 0x4006 (partPage (s1.egPart e) 3)
  else s)

/-! ### Shapers (R287, R288) -/

/-- SHAPER_REFILL: R287. -/
def execShaperRefill (at_ : Nat) (s : State) : Host.Outcome State Fault Refusal := .next (s.at at_).refillShapers

/-- A write that would leave a session with a rate and no burst is discarded (R287). -/
def State.shaperRefuse (s : State) (e : Nat) : State := s.wfs [(SES_STATUS_SHAPER_REFUSED, 1), (SES_STATUS_SHAPER_SES, e)]

/-- RATE written: the refill up to now ran at the old rate (R288). -/
def State.rateWrite (s0 : State) (e v : Nat) : State :=
  let s := s0.refillShapers
  if v % 2 ^ 40 ≠ 0 ∧ s.egBurst e = 0 then s.shaperRefuse e else s.wf (sesE e 6) (v % 2 ^ 40)

/-- BURST written: positive tokens are clipped to it (R288). -/
def State.burstWrite (s0 : State) (e v : Nat) : State :=
  let s := s0.refillShapers
  let b := v % 2 ^ 24
  if b = 0 ∧ s.egRate e ≠ 0 then s.shaperRefuse e
  else (s.wf (sesE e 7) b).updEgr e fun x =>
    { x with tokens := if 0 < x.tokens then min x.tokens (b * 65536 : Nat) else x.tokens }

/-- SES.FORGIVE: debt is cleared (R288). -/
def State.forgive (s : State) (e : Nat) : State := s.refillShapers.updEgr e fun x => { x with tokens := max x.tokens 0 }

/-- SHAPER_RATE_WRITE: R287, R288. -/
def execShaperRateWrite (f e : Nat) (v : BitVec 64) (s : State) : Host.Outcome State Fault Refusal :=
  .next (if s.pf0Writes f ∧ e < 4096 ∧ s.pageReady pgSES then s.rateWrite e v.toNat else s)

/-- SHAPER_BURST_WRITE: R287, R288. -/
def execShaperBurstWrite (f e : Nat) (v : BitVec 64) (s : State) : Host.Outcome State Fault Refusal :=
  .next (if s.pf0Writes f ∧ e < 4096 ∧ s.pageReady pgSES then s.burstWrite e v.toNat else s)

/-- FORGIVE: R288. -/
def execForgive (f : Nat) (v : BitVec 64) (s : State) : Host.Outcome State Fault Refusal :=
  .next (if s.pf0Writes f ∧ s.pageReady pgSES then s.forgive (bits v.toNat 0 12) else s)

/-- LEDGER_POOL_WRITE: R277. -/
def execLedgerPoolWrite (f : Nat) (v : BitVec 64) (s : State) : Host.Outcome State Fault Refusal :=
  .next (if s.pf0Writes f ∧ s.pageReady pgLDG then s.poolWrite v.toNat else s)

/-- LEDGER_CAPACITY_WRITE: R277. -/
def execLedgerCapacityWrite (f n : Nat) (v : BitVec 64) (s : State) : Host.Outcome State Fault Refusal :=
  .next (if s.writes f n && s.pageReady (partPage n 3) then s.capacityWrite n v.toNat else s)

end Sys2Proof.Machine
end

