-- ==== Sys2Proof/Machine/PttOps.lean ====
section
/-! DEFINITION. The timetable entries, items and deadline checks of a partition (12 R254 to R263), and the position
history (R250, R251). -/

namespace Sys2Proof.Machine

/-! ### Entries (Tables TB-2 and TB-3) -/

/-- A timetable entry. -/
structure PttEntry where
  kind : Nat
  tb : Nat
  rel : Bool
  opens : Bool
  enable : Bool
  anchor : Nat
  /-- Due position of an absolute entry; offset of a relative one. -/
  pos : Int
  period : Nat
  arg : Nat
  deriving DecidableEq, Repr

/-- The fields of an entry's words. -/
def pttDecode (w0 w1 w2 w3 : Nat) : PttEntry :=
  { kind := bits w0 0 3, tb := bits w0 3 3, rel := w0.testBit 6, opens := w0.testBit 7, enable := w0.testBit 8,
    anchor := bits w0 10 10, pos := if w0.testBit 6 then bits w1 0 48 else toSigned w1 48, period := bits w2 0 40, arg := w3 }

/-- The live entry `e` of partition `n`. -/
def State.ptt (s : State) (n e : Nat) : PttEntry :=
  pttDecode (s.rf (pttWord n e 0)) (s.rf (pttWord n e 1)) (s.rf (pttWord n e 2)) (s.rf (pttWord n e 3))

/-- The entry takes part. -/
def PttEntry.on (x : PttEntry) : Bool := x.enable && x.kind != 0

/-- The entry numbers of a partition whose word 0 is not zero, in index order. -/
def State.pttUsed (s : State) (n : Nat) : List Nat :=
  let a := 0x40000000 + n * 1024 * 32
  (srange s.fld (a * 64) ((a + 1024 * 32) * 64)).filterMap fun (x : Nat × Nat) =>
    if (x.1 / 64 - a) % 32 = 0 then some ((x.1 / 64 - a) / 32) else none

/-- The enabled absolute entries, and the enabled relative entries of an anchor. -/
def State.pttAbs (s : State) (n : Nat) : List Nat :=
  (s.pttUsed n).filter fun e => (s.ptt n e).on && !(s.ptt n e).rel
def State.pttRel (s : State) (n a : Nat) : List Nat :=
  (s.pttUsed n).filter fun e => (s.ptt n e).on && (s.ptt n e).rel && (s.ptt n e).anchor == a

/-- The fields of ARG that exist, and their ranges (Table TB-3). -/
def argOk (kind arg : Nat) : Bool :=
  match kind with
  | 1 => (arg &&& 0xFFFF07) == arg && bits arg 8 16 != 0
  | 2 => (arg &&& 0x1FFFFFFFF) == arg
  | 3 => decide (arg < 2 ^ 32)
  | 4 => decide (arg < 2 ^ 12)
  | 5 => decide (arg < 2 ^ 4)
  | _ => true

/-- The conditions of R254 on one entry of a table; `get` gives the table, `inGeom` the tiles of the partition. -/
def pttEntryOk (get : Nat → PttEntry) (w0 w1 w2 : Nat) (inGeom : Nat → Nat → Bool) (x : PttEntry) : Bool :=
  let a := get x.anchor
  decide (x.kind ≤ 5) && (w0 &&& 0xFFDFF) == w0 && decide (w1 < 2 ^ 48) && decide (w2 < 2 ^ 40) &&
  (if x.rel then !a.rel && a.opens && a.tb == x.tb && !x.opens && x.period == 0 && decide (x.pos < 2 ^ 46)
   else x.kind != 3) &&
  !(x.kind == 5 && x.rel) && argOk x.kind x.arg && (x.kind != 2 || inGeom (bits x.arg 0 9) (bits x.arg 9 9))

/-! ### Runtime of entries (R256) -/

def State.ert (s : State) (n e : Nat) : EntryRt := sget {} (s.part n).rt e
def State.setErt (s : State) (n e : Nat) (x : EntryRt) : State :=
  s.updPart n fun p => { p with rt := sset {} p.rt e x }

/-- The timetable fires in a partition (R264). -/
def State.pttFires (s : State) (n : Nat) : Bool := decide (2 ≤ s.pst n) && decide (s.pst n ≤ 7)

/-- An absolute entry is armed with due position `due`. -/
def State.armEntry (s : State) (n e : Nat) (due : Int) : State :=
  s.setErt n e { due := due, armed := true, below := decide (s.tbPos (s.ptt n e).tb < due), fires := (s.ert n e).fires }

/-- An entry that takes no part any more, or that is armed afresh later. -/
def State.disarmEntry (s : State) (n e : Nat) : State := s.setErt n e { fires := (s.ert n e).fires }

/-- The least POS + k × PERIOD above a position. -/
def nextDue (pos : Int) (period : Nat) (above : Int) : Int :=
  if above < pos then pos else pos + ((above - pos) / period + 1) * period

/-- START arms every enabled absolute entry (R264). -/
def State.armAll (s : State) (n : Nat) : State :=
  s.forEach (s.pttAbs n) fun s e =>
    let x := s.ptt n e
    s.armEntry n e (if x.period = 0 then x.pos else nextDue x.pos x.period (s.tbPos x.tb))

/-- The time at which a position that starts at `pos` at `base` and moves up by `num` units in `den` ns reaches `due`. -/
def reachAt (base : Nat) (pos due : Int) (num den : Nat) : Nat := base + ((due - pos).toNat * den + num - 1) / num

/-- The crossing of a due position that was reached by time `t`, through the stretches before. -/
def walkBack (due : Int) : Nat → List Seg → Nat
  | t, [] => t
  | t, g :: l =>
    if due ≤ g.pos then walkBack due g.base l
    else if 0 < g.step ∧ g.gapNs ≠ 0 then min t (reachAt g.base g.pos due g.step.natAbs g.gapNs)
    else t

/-- The stretch that a timebase is in. -/
def Tb.seg (x : Tb) : Seg := { pos := x.pos, base := x.base, step := x.step, gapNs := if x.same then x.gapNs else 0 }

/-- The time at which the position of a timebase, now at or above a due position, crossed it (R256, R258). [entry 68 DEDUCED] -/
def State.crossTime (s : State) (b : Nat) (due : Int) : Nat :=
  let x := s.tb b
  let st := s.rf (TBS_TB_STATUS_STATE b)
  if s.frozen then s.time
  else if due ≤ x.pos then walkBack due x.base x.trail
  else if st = 2 then (if 0 < x.coastVel then min s.time (reachAt x.base x.pos due x.coastVel.natAbs 1000000000) else s.time)
  else if s.rf (TBS_TB_CFG_MODE b) = 5 then
    let rate := s.rf (TBS_TB_RATE_RATE b)
    if rate = 0 then s.time else s.time - (s.mtimeInt s.time - (x.baseM + (reachAt 0 x.pos due rate 1000000000 : Nat))).toNat
  else walkBack due s.time [x.seg]

/-- What becomes of an item where timebase `b` stands at `pos`: it has been below a due position, or it has crossed it; where
the timetable fires nothing a crossing is not remembered. -/
def State.noteItem (s : State) (b n : Nat) (pos : Int) (fires : Bool) (i : Item) : Item :=
  (s.pttRel n i.anchor).foldl (fun i e =>
    let x := s.ptt n e
    if x.tb ≠ b ∨ i.done.contains e ∨ (sget? i.crossed e).isSome then i
    else if pos < i.pos + x.pos then (if i.below.contains e then i else { i with below := e :: i.below })
    else if !i.below.contains e then i
    else if fires then { i with crossed := sins i.crossed e (s.crossTime b (i.pos + x.pos)) }
    else { i with below := i.below.erase e }) i

/-- The forward crossings of timebase `b` in one partition noted (R256, R257); where the timetable fires nothing they are
not remembered (R264), and on a timebase that is LOST no entry fires (R253). -/
def State.noteCrossPart (s : State) (b n : Nat) : State :=
  let pos := s.tbPos b
  let fires := s.pttFires n && s.rf (TBS_TB_STATUS_STATE b) != 3
  let s1 := s.forEach ((s.pttAbs n).filter fun e => (s.ptt n e).tb == b) fun s e =>
    let r := s.ert n e
    if !r.armed || r.crossed.isSome then s
    else if pos < r.due then s.setErt n e { r with below := true }
    else if !r.below then s
    else if fires then s.setErt n e { r with crossed := some (s.crossTime b r.due) }
    else s.setErt n e { r with below := false }
  s1.updPart n fun p => { p with items := p.items.map (s1.noteItem b n pos fires) }

/-- Crossings of a timebase noted in every partition. [entry 68 DEDUCED] -/
def State.noteCross (s : State) (b : Nat) : State := s.forEach (List.range 16) fun s n => s.noteCrossPart b n

/-! ### Items and deadline checks (R255, R257, R262, R263) -/

/-- An open item changed. -/
def State.updItem (s : State) (n num : Nat) (f : Item → Item) : State :=
  s.updPart n fun p => { p with items := p.items.map fun i => if i.num = num then f i else i }
def State.item (s : State) (n num : Nat) : Option Item := (s.part n).items.find? (·.num == num)

/-- A condition of R263 holds in a partition: SLOW, a plain stretched or paused, a stream halted. -/
def State.slowNow (s : State) (n : Nat) : Bool :=
  s.rb PWR_STATUS_SLOW || decide (0 < s.rf (PSTR_HALTED_COUNT n)) ||
    (s.plainsOf n).any fun p => decide (0 < s.rf (DRP_STATUS_STEP p)) || s.plnState p == 1

/-- A LATE verdict for entry `e` and an item, at most one (R263). -/
def State.lateVerdict (s : State) (n e : Nat) (i : Item) (cause : Nat) : State :=
  if i.late.contains e then s
  else
    let x := s.ptt n e
    let slowed := i.job.isSome && (i.slowed || s.slowNow n)
    let s1 := (s.updItem n i.num fun i => { i with late := e :: i.late }).lateRecord n (bits x.arg 0 12) i.num e cause slowed
      (i.pos + x.pos)
    let s2 := s1.bump (PTT_LATE_COUNT n)
    let s3 := if slowed then s2.bump (PTT_LATE_SLOWED_COUNT n) else s2
    if (s3.rf (hCTRL_BLOCK (partPage n 2))).testBit 0 then s3.irqPart n 18 else s3

/-- The final check of DEADLINE entry `e` for an item, with the cause of a miss (R262). -/
def State.finalCheck (s : State) (n e num cause : Nat) : State :=
  match s.item n num with
  | none => s
  | some i => if i.acked.contains (bits (s.ptt n e).arg 0 12) then s else s.lateVerdict n e i cause

/-- The lead check of DEADLINE entry `e` for an item (R262). -/
def State.leadCheck (s : State) (n e num : Nat) : State :=
  match s.item n num with
  | none => s
  | some i =>
    let x := s.ptt n e
    if bits x.arg 12 20 = 0 ∨ i.lead.contains e then s
    else
      let s1 := s.updItem n num fun i => { i with lead := e :: i.lead }
      if i.accepted.contains (bits x.arg 0 12) then s1 else s1.lateVerdict n e i 1

/-- Items whose relative entries have all fired or dropped close. -/
def State.sweepItems (s : State) (n : Nat) : State :=
  let left := (s.part n).items.filter fun i => (s.pttRel n i.anchor).any fun e => !i.done.contains e
  (s.updPart n fun p => { p with items := left }).wf (PTT_ITEMS_OPEN n) left.length

/-- Some open items close at once: each pending deadline check is made as a final check with the cause given, the other
pending firings are dropped (R253, R264). [entry 69 DEDUCED] -/
def State.closeItems (s : State) (n cause : Nat) (f : Item → Bool) : State :=
  let nums := ((s.part n).items.filter f).map (·.num)
  let s1 := s.forEach nums fun s num =>
    match s.item n num with
    | none => s
    | some i =>
      s.forEach ((s.pttRel n i.anchor).filter fun e => (s.ptt n e).kind == 3 && !i.done.contains e) fun s e =>
        s.finalCheck n e num cause
  let left := (s1.part n).items.filter fun i => !nums.contains i.num
  (s1.updPart n fun p => { p with items := left }).wf (PTT_ITEMS_OPEN n) left.length

/-! ### Position history (R250, R251) -/

/-- A position between two samples, rounded to the nearest unit with ties toward the earlier one. -/
def interpolate (a b : Sample) (t : Nat) : Int :=
  let d := b.pos - a.pos
  let num := d.natAbs * (t - a.time)
  let den := b.time - a.time
  if den = 0 then a.pos
  else
    let q : Int := ((2 * num + den - 1) / (2 * den) : Nat)
    if d < 0 then a.pos - q else a.pos + q

/-- The two neighbouring samples, newest first, that bracket a time. -/
def bracket (t : Nat) : List Sample → Option (Sample × Sample)
  | b :: a :: l => if a.time ≤ t ∧ t ≤ b.time then some (a, b) else bracket t (a :: l)
  | _ => none

/-- The position of timebase `b` at module time `t` and the status of Table TB-6: 0 OK, 1 EXTRAPOLATED, 2 FUTURE, 3 STALE,
4 GAP. Of an empty history the spec states no result: two free values. [entry 75 DEDUCED] -/
def State.histAt (s : State) (b t : Nat) : Int × Nat × State :=
  match (s.tb b).hist with
  | [] =>
    let d := s.draw 48
    let e := d.2.draw 3
    (toSigned d.1 48, e.1 % 5, e.2)
  | newest :: rest =>
    if newest.time < t then
      (if t ≤ newest.time + 100000 then
        (posClip (newest.pos + s.tbVel b * ((t - newest.time : Nat) : Int) / 1000000000), 1, s)
       else (newest.pos, 2, s))
    else match bracket t (newest :: rest) with
      | some (x, y) =>
        if x.lost || x.gap || y.lost || y.gap then (x.pos, 4, s) else (interpolate x y t, 0, s)
      | none =>
        if newest.time = t then (newest.pos, if newest.lost || newest.gap then 4 else 0, s)
        else ((((newest :: rest).getLast?).map (·.pos)).getD 0, 3, s)

end Sys2Proof.Machine
end

