-- ==== Sys2Proof/Machine/Staging.lean ====
section
/-! DEFINITION. Staging and seam groups: the checks of a commit, arming, the seam's capture, the apply (02 R47 to R53,
R395, R396), and what an apply does on each page. -/

namespace Sys2Proof.Machine

/-- Offsets of the pages that have staged fields. -/
def stagedPages : List Nat :=
  [pgIMG, pgTBS, pgSES] ++ (List.range 64).map (fun p => plainPage p 1) ++
    (List.range 16).flatMap fun n => [0, 2, 5, 7, 8].map fun i => partPage n i

/-! ### The checks of R52 -/

/-- A value read from a set of captured shadows. -/
def shOf (s : State) (sh : SMap Nat) (k : Fk) : Nat := (sget? sh k.key).getD (s.rf k)

/-- The shadow of PART.GEOM against R42: 0 taken, 2 OVERLAP, 3 INVALID. -/
def State.geomCheck (s : State) (n : Nat) (sh : SMap Nat) : Nat :=
  let x0 := shOf s sh (PART_GEOM_X0 n); let y0 := shOf s sh (PART_GEOM_Y0 n)
  let w := shOf s sh (PART_GEOM_W n); let h := shOf s sh (PART_GEOM_H n)
  if w = 0 ∧ h = 0 then 0
  else if w = 0 ∨ h = 0 ∨ 8 < x0 + w ∨ 8 < y0 + h then 3
  else if (List.range 64).any fun p =>
      decide (x0 ≤ p % 8) && decide (p % 8 < x0 + w) && decide (y0 ≤ p / 8) && decide (p / 8 < y0 + h) &&
        (List.range 16).any fun m => m != n && s.geomHas m p then 2
  else 0

/-- Entry `e` of a timetable under captured shadows, and its words. -/
def State.pttSh (s : State) (n : Nat) (sh : SMap Nat) (e w : Nat) : Nat := shOf s sh (pttWord n e w)
def State.pttShEntry (s : State) (n : Nat) (sh : SMap Nat) (e : Nat) : PttEntry :=
  pttDecode (s.pttSh n sh e 0) (s.pttSh n sh e 1) (s.pttSh n sh e 2) (s.pttSh n sh e 3)

/-- Timetable entries with a word listed live or in the shadows. -/
def State.pttListed (s : State) (n : Nat) (sh : SMap Nat) : List Nat :=
  let a := 0x40000000 + n * 1024 * 32
  (((srange s.fld (a * 64) ((a + 1024 * 32) * 64)) ++ srange sh (a * 64) ((a + 1024 * 32) * 64)).map
    fun (x : Nat × Nat) => (x.1 / 64 - a) / 32).eraseDups

/-- The conditions of R254 on a whole timetable; `w` and `h` are the geometry that will be live after the apply. -/
def State.pttCheck (s : State) (n : Nat) (sh : SMap Nat) (w h : Nat) : Bool :=
  (s.pttListed n sh).all fun e =>
    pttEntryOk (s.pttShEntry n sh) (s.pttSh n sh e 0) (s.pttSh n sh e 1) (s.pttSh n sh e 2)
      (fun x y => decide (x < 64 * w) && decide (y < 64 * h)) (s.pttShEntry n sh e)

/-- The conditions of Table TB-1 and R246 on the timebases. -/
def State.tbsCheck (s : State) (sh : SMap Nat) : Bool :=
  let mode := fun n => shOf s sh (TBS_TB_CFG_MODE n)
  (List.range 8).all fun n =>
    decide (mode n ≤ 5) &&
    (if mode n = 1 ∨ mode n = 2 then
      let primary := fun i => (List.range 8).any fun m => m != n && m == i && decide (1 ≤ mode m) && decide (mode m ≤ 4)
      !primary (shOf s sh (TBS_TB_CFG_SRC_B n)) && !primary (shOf s sh (TBS_TB_CFG_SRC_Z n))
     else true)

/-- R238: only the bit of the naming partition may change, and to a copy that is BUILT. -/
def State.imgCheck (s : State) (part : Nat) (sh : SMap Nat) : Bool :=
  let live := s.rf IMG_COPY_SEL_SEL; let new := shOf s sh IMG_COPY_SEL_SEL
  live == new || ((live ^^^ new) == 2 ^ part &&
    (if new.testBit part then s.rf (IMG_PCOPY_B_STATE part) else s.rf (IMG_PCOPY_A_STATE part)) == 2)

/-- Valid keep ranges, and S within 48 GiB (R297). -/
def State.pksCheck (s : State) (n : Nat) (sh : SMap Nat) : Bool :=
  ((List.range 16).all fun k =>
    let va := shOf s sh (PKS_RANGE_VA n k); let len := shOf s sh (PKS_LENGTH n k)
    va % 0x200000 == 0 && len % 0x200000 == 0 && decide (va + len ≤ 2 ^ 40)) &&
  decide (s.keepMost (s.rf LDG_POOL_PAGES) n (shOf s sh) ≤ 48 * 2 ^ 30)

/-- VALID page-table entries name a physical page that exists (R152). -/
def peptCheck (sh : SMap Nat) : Bool :=
  sh.all fun x => decide (x.1 / 64 < 0x80000000) || !x.2.testBit 0 || decide (bits x.2 12 18 ≤ 147423)

/-! #### Sessions (Tables PT-4 and PT-5, R270, R275) -/

/-- An ingress entry as eight words, and an egress entry. -/
def State.sesWords (s : State) (sh : SMap Nat) (base i : Nat) : List Nat :=
  (List.range 8).map fun w => shOf s sh ⟨base + 64 * i + 8 * w, 0, 64⟩

/-- The ranges of a VALID ingress entry. -/
def ingressOk (w : Nat → Nat) : Bool :=
  let fmt := bits (w 0) 25 2; let stamp := bits (w 0) 27 2; let depth := bits (w 6) 36 4
  decide (fmt ≤ 1) && decide (stamp ≤ 2) && (stamp != 2 || fmt == 1) && w 4 % 64 == 0 && bits (w 5) 0 32 % 64 == 0 &&
    bits (w 5) 32 16 != 0 && decide (bits (w 6) 32 4 ≤ 3) && (depth == 8 || depth == 10 || depth == 12)

/-- The ranges of a VALID egress entry. -/
def egressOk (w : Nat → Nat) : Bool :=
  bits (w 1) 32 10 != 0 && decide (100 ≤ bits (w 4) 0 32) && decide (bits (w 4) 0 32 ≤ bits (w 4) 32 32)

/-- Two ingress entries can match one datagram (R270). -/
def ingressMeet (a b : Nat → Nat) : Bool :=
  let f := fun (w : Nat → Nat) (lo n : Nat) => bits (w 0) lo n
  let ua := bits (a 1) 16 16; let ub := bits (b 1) 16 16
  f a 1 3 == f b 1 3 && f a 4 1 == f b 4 1 && f a 5 1 == f b 5 1 && (f a 5 1 == 0 || f a 6 12 == f b 6 12) &&
    a 2 == b 2 && a 3 == b 3 && bits (a 1) 0 16 == bits (b 1) 0 16 && (ua == 0 || ub == 0 || ua == ub) &&
    !(f a 25 2 == 0 && f b 25 2 == 0 && f a 47 1 == 1 && f b 47 1 == 1 && bits (a 1) 32 32 != bits (b 1) 32 32)

/-- Entry indices of a session table with a word listed live or in the shadows. -/
def State.sesListed (s : State) (sh : SMap Nat) (base : Nat) : List Nat :=
  ((s.fld ++ sh).filterMap fun (x : Nat × Nat) =>
    if base * 64 ≤ x.1 ∧ x.1 < (base + 0x40000) * 64 then some ((x.1 / 64 - base) / 64) else none).eraseDups

/-- The shadows of the session entries whose live or shadow PART is `part` (R289). -/
def State.sesOf (s : State) (part : Nat) (sh : SMap Nat) : SMap Nat :=
  sh.filter fun x =>
    let off := x.1 / 64
    let w0 := off / 64 * 64
    decide (off < 0x101000) || decide (0x181000 ≤ off) ||
      bits (s.rf ⟨w0, 0, 64⟩) 18 4 == part || bits (shOf s sh ⟨w0, 0, 64⟩) 18 4 == part

/-- The second of two VALID ingress entries that can match one datagram. -/
def State.dupKey (s : State) (sh : SMap Nat) : Option Nat :=
  let w := fun i k => shOf s sh (sesI i k)
  let l := (s.sesListed sh 0x101000).filter fun i => (w i 0).testBit 0
  l.find? fun j => l.any fun i => decide (i < j) && ingressMeet (w i) (w j)

/-- The session page's values. [entry 76 DEDUCED] -/
def State.sesCheck (s : State) (sh : SMap Nat) : Bool :=
  ((s.sesListed sh 0x101000).all fun i =>
    !(shOf s sh (sesI i 0)).testBit 0 || ingressOk fun k => shOf s sh (sesI i k)) &&
  ((s.sesListed sh 0x141000).all fun e =>
    !(shOf s sh (sesE e 0)).testBit 0 || egressOk fun k => shOf s sh (sesE e k)) && (s.dupKey sh).isNone

/-- Timebases with a staged field that changes. -/
def tbsChanged (sh : SMap Nat) : List Nat :=
  (sh.filterMap fun (x : Nat × Nat) =>
    let off := x.1 / 64
    if pgTBS + 0x200 ≤ off ∧ off < pgTBS + 0x600 then some ((off - pgTBS - 0x200) / 0x80) else none).eraseDups

/-- The partitions that a drain-required change affects beside the one in STAGE_CTRL (R267, R289). -/
def State.affected (s : State) (kd : PageKind) (sh : SMap Nat) : List Nat :=
  match kd with
  | .tbs =>
    let tbs := tbsChanged sh
    (List.range 16).filter fun n =>
      (s.pttUsed n).any (fun e => (s.ptt n e).on && tbs.contains (s.ptt n e).tb) ||
        (s.sesListed [] 0x101000).any fun i =>
          let w := s.rf (sesI i 0)
          w.testBit 0 && bits w 18 4 == n && tbs.contains (bits w 22 3)
  | .ses =>
    (sh.flatMap fun x =>
      let off := x.1 / 64
      let live := s.rf ⟨off, 0, 64⟩
      if 0x101000 ≤ off ∧ off < 0x181000 ∧ off % 64 = 0 ∧
          (bits x.2 1 3 ≠ bits live 1 3 ∨ bits x.2 18 4 ≠ bits live 18 4) then
        [bits live 18 4, bits x.2 18 4] else []).eraseDups
  | _ => []

/-- The shadows that a commit of a page would apply. -/
def State.commitSet (s : State) (pg : Nat) : SMap Nat :=
  if pg = pgSES then s.sesOf (s.stagePart pg) (s.shadows pg) else s.shadows pg

/-- The outcome of the checks of R52 on the shadows of a page: 0 taken, else a REASON of Table CS-16. `geom` gives the
width and height that the naming partition will have after the apply. [entry 76 DEDUCED] -/
def State.commitCheck (s : State) (pg : Nat) (geom : Nat × Nat) : Nat :=
  let sh := s.commitSet pg
  match pageAt pg with
  | none => 3
  | some (kd, n, _) =>
    let part := s.stagePart pg
    let drain := if kd = .ses then !(s.affected .ses sh).isEmpty else s.drainRequired pg
    if drain ∧ !(part :: s.affected kd sh).all s.quietPart then 1
    else if hasFault kd ∧ !((List.range 12).all fun c =>
        let v := shOf s sh (hREACT pg c)
        decide ((reactRange c).1 ≤ v) && decide (v ≤ (reactRange c).2)) then 3
    else match kd with
      | .part => s.geomCheck n sh
      | .ptt => if s.pttCheck n sh geom.1 geom.2 then 0 else 3
      | .pstl => let w := shOf s sh (PSTL_WINDOW_LOG2 n); if 12 ≤ w ∧ w ≤ 31 then 0 else 3
      | .pept => if peptCheck sh then 0 else 3
      | .pks => if s.pksCheck n sh then 0 else 3
      | .tbs => if s.tbsCheck sh then 0 else 3
      | .img => if s.imgCheck part sh then 0 else 3
      | .ses => if s.sesCheck sh then 0 else 3
      | _ => 0

/-- The geometry of a partition after an apply of its group: the shadow of its PART page where that page is armed in the
group, else the live one. -/
def State.geomAfter (s : State) (n group : Nat) : Nat × Nat :=
  let pg := partPage n 0
  if s.armed pg && s.rf (hSTAGE_GROUP pg) == group then (s.sh (PART_GEOM_W n), s.sh (PART_GEOM_H n))
  else (s.rf (PART_GEOM_W n), s.rf (PART_GEOM_H n))

/-! ### What an apply does on each page -/

/-- An interrupt of a page when APPLIED or COMMIT_REFUSED sets, with STAGE_IRQ (R38). -/
def State.stageIrq (s : State) (pg : Nat) : State := if s.rb (hCTRL_STAGE_IRQ pg) then s.irqPage pg else s

/-- A commit is refused: the page is not armed (R52, R53). -/
def State.refuseCommit (s : State) (pg reason : Nat) : State :=
  let s1 := (s.wfs [(hSTAGE_ARMED pg, 0), (hST_REFUSED pg, 1), (hST_REASON pg, reason)]).stageIrq pg
  match pageAt pg with
  | some (.ses, _, _) =>
    if reason = 3 then
      match s.dupKey (s.commitSet pg) with
      | some j => s1.wfs [(SES_STATUS_DUP_KEY, 1), (SES_STATUS_KEY_SES, j)]
      | none => s1
    else s1
  | _ => s1

/-- Captured shadows become live; a shadow that has not been written since equals its live value. -/
def State.goLive (s : State) (sh : SMap Nat) : State :=
  sh.foldl (fun s x =>
    { s with fld := sset (keyReset x.1) s.fld x.1 x.2
             shd := if sget? s.shd x.1 = some x.2 then sdel s.shd x.1 else s.shd }) s

/-- A relative entry whose due position moves: a crossing of the old one is no crossing of the new one, which the position must
meet from below (R254, R256). [entry 152 DEDUCED] -/
def State.movedRel (s : State) (n e : Nat) : State :=
  let x := s.ptt n e
  s.updPart n fun p => { p with items := p.items.map fun i =>
    { i with crossed := sdel i.crossed e
             below := (i.below.erase e) ++ (if s.tbPos x.tb < i.pos + x.pos then [e] else []) } }

/-- Changed entries of a timetable at the apply (R254). -/
def State.pttApply (s : State) (old : State) (n : Nat) (sh : SMap Nat) : State :=
  let a := 0x40000000 + n * 1024 * 32
  let es := ((srange sh (a * 64) ((a + 1024 * 32) * 64)).map fun (x : Nat × Nat) => (x.1 / 64 - a) / 32).eraseDups
  let s1 := s.forEach es fun s e =>
    let x := s.ptt n e; let y := old.ptt n e
    let s2 := if x.on && !x.rel then s.armEntry n e x.pos else s.disarmEntry n e
    if x.rel && y.rel && x.anchor == y.anchor && x.on && y.on then
      (if x.pos = y.pos then s2 else s2.movedRel n e)
    else s2.updPart n fun p =>
      { p with items := p.items.map fun i =>
          { i with crossed := i.crossed.filter fun c => c.1 != e
                   done := if i.done.contains e then i.done else e :: i.done } }
  s1.sweepItems n

/-- A timebase after an apply that changed it: it runs on from its position under the new fields (R245, R253). [entry 74 DEDUCED] -/
def State.tbApply (s : State) (old : State) (b : Nat) : State :=
  let x := s.tb b
  let m := s.rf (TBS_TB_CFG_MODE b)
  (s.setTb b { x with pos := old.tbPos b, base := s.time, baseM := s.mtime, gapNs := 0, step := 0, same := false, trail := []
                      quietFrom := s.time, quad := [] }).wf (TBS_TB_STATUS_STATE b) (if m = 0 then 0 else 1)

/-- The flip of a partition's live weight copy (R238). [entry 87 DEDUCED] -/
def State.copyFlip (s : State) (n : Nat) : State :=
  let toB := (s.rf IMG_COPY_SEL_SEL).testBit n
  let s1 := s.wfs [(IMG_PCOPY_A_STATE n, if toB then 2 else 3), (IMG_PCOPY_B_STATE n, if toB then 3 else 2)]
  s1.forEach (s1.tilesIn n) fun s t =>
    s.forEach (List.range 8) fun s d =>
      if s.streamIdle t d then s else s.setStream t d { (s.tile t).stream d with old := true }

/-- A partition's geometry has changed: EMPTY and STOPPED follow it (Table CS-11). -/
def State.geomApply (s : State) (n : Nat) : State :=
  if s.emptyGeom n then s.setPst n psEMPTY
  else if s.pst n = psEMPTY then s.setPst n psSTOPPED else s

/-- The effect of an apply beyond the live values. -/
def State.pageApply (s old : State) (pg : Nat) (sh : SMap Nat) : State :=
  match pageAt pg with
  | some (.part, n, _) => (s.geomApply n).updPart n fun p => { p with recount := true }
  | some (.ptt, n, _) => s.pttApply old n sh
  | some (.pept, n, _) => (s.updPart n fun p => { p with tcache := [] }).recheck n fun _ => true
  | some (.pks, n, _) =>
    if s.rf (PKS_HANDLE_BUDGET_BYTES n) = old.rf (PKS_HANDLE_BUDGET_BYTES n) then s
    else s.updPart n fun p => { p with recount := true }
  | some (.mesh, p, _) => s.updPlain p fun q => { q with bankPend := true }
  | some (.tbs, _, _) => s.forEach (tbsChanged sh) fun s b => s.tbApply old b
  | some (.img, _, _) =>
    let n := old.stagePart pg
    if s.rf IMG_COPY_SEL_SEL = old.rf IMG_COPY_SEL_SEL then s else s.copyFlip n
  | _ => s

/-- One captured page applies: its shadow goes live, APPLIED sets and APPLY_COUNT advances (R50). -/
def State.applyPage (s : State) (pg : Nat) (sh : SMap Nat) : State :=
  let s1 := (s.goLive sh).pageApply s pg sh
  ((s1.wfs [(hSTAGE_ARMED pg, 0), (hST_APPLIED pg, 1)]).bump (hST_APPLY_COUNT pg)).stageIrq pg

/-! ### Commit, capture, discard -/

/-- The armed pages of a group. -/
def State.groupPages (s : State) (part group : Nat) : List Nat :=
  stagedPages.filter fun pg => s.armed pg && s.stagePart pg == part && s.rf (hSTAGE_GROUP pg) == group

/-- A page is in an apply that is in progress. -/
def State.inApply (s : State) (pg : Nat) : Bool := s.applies.any fun a => a.pages.any fun x => x.1 == pg

/-- The armed pages of a group that no apply holds, each checked again: refused alone, or with the shadows that it would apply (R395). -/
def State.groupCheck (s : State) (part group : Nat) : State × List (Nat × SMap Nat) :=
  ((s.groupPages part group).filter fun pg => !s.inApply pg).foldl (fun (p : State × List (Nat × SMap Nat)) pg =>
    match s.commitCheck pg (s.geomAfter part group) with
    | 0 => (p.1, p.2 ++ [(pg, s.commitSet pg)])
    | c => (p.1.refuseCommit pg c, p.2)) (s, [])

/-- A seam captures its group (R50, R395). -/
def State.captureSeam (s : State) (part group : Nat) : State :=
  let r := s.groupCheck part group
  if r.2.isEmpty then r.1
  else { r.1 with applies := r.1.applies ++ [{ part := part, group := group, pages := r.2 }] }

/-- COMMIT on a page that is in no apply: checked, armed, and applied at once with its group where the partition is quiet; the
other pages of the group, whose shadows may have changed since their own COMMIT, are checked again (R49, R52, R297).
[entry 156 DEDUCED] -/
def State.commitNow (s : State) (pg : Nat) : State :=
  let part := s.stagePart pg
  let group := s.rf (hSTAGE_GROUP pg)
  let s0 := s.wf (hSTAGE_ARMED pg) 1
  match s0.commitCheck pg (s0.geomAfter part group) with
  | 0 =>
    if s0.quietPart part then
      let r := s0.groupCheck part group
      r.2.foldl (fun s x => s.applyPage x.1 x.2) r.1
    else s0
  | c => s.refuseCommit pg c

/-- COMMIT: held while an apply of the page is in progress (R51). -/
def State.commit (s : State) (pg : Nat) : State :=
  if s.inApply pg then
    { s with applies := s.applies.map fun a =>
        if a.pages.any (fun x => x.1 == pg) ∧ !a.heldCommit.contains pg then { a with heldCommit := a.heldCommit ++ [pg] } else a }
  else s.commitNow pg

/-- DISCARD: disarms and copies the live values into the shadow; deferred while an apply of the page is in progress
(R51, Table CS-13). -/
def State.discard (s : State) (pg : Nat) : State :=
  if s.inApply pg then
    { s with applies := s.applies.map fun a =>
        if a.pages.any (fun x => x.1 == pg) ∧ !a.heldDiscard.contains pg then { a with heldDiscard := a.heldDiscard ++ [pg] } else a }
  else (s.dropShadows pg).wf (hSTAGE_ARMED pg) 0

/-- A write to STAGE_CTRL takes DISCARD, then GROUP and PART, then COMMIT (R396). -/
def State.stageCtrl (s : State) (pg v m : Nat) : State :=
  let w := v &&& m
  let s1 := if w.testBit 9 then s.discard pg else s
  let s2 := if s1.armed pg then s1
    else
      let g := s1.wf (hSTAGE_GROUP pg) ((s1.rf (hSTAGE_GROUP pg) &&& (bits m 0 4 ^^^ 15)) ||| bits w 0 4)
      match pageAt pg with
      | some (kd, _, _) =>
        if isPartPage kd then g
        else g.wf (hSTAGE_PART pg) ((g.rf (hSTAGE_PART pg) &&& (bits m 4 4 ^^^ 15)) ||| bits w 4 4)
      | none => g
  if w.testBit 8 then s2.commit pg else s2

/-- STAGE_STATUS: APPLIED and COMMIT_REFUSED are W1C. -/
def State.stageStatus (s : State) (pg v m : Nat) : State :=
  let w := v &&& m
  let s1 := if w.testBit 3 then s.wf (hST_APPLIED pg) 0 else s
  if w.testBit 4 then s1.wf (hST_REFUSED pg) 0 else s1

/-- A function reaches the page: PF0 every page, a VF the pages of its partition (Tables CS-7 and CS-8). -/
def State.reachesPage (s : State) (f pg : Nat) : Bool :=
  match pageAt pg with
  | some (kd, n, _) => if isPartPage kd then s.reaches f n else f == 0 && s.fnUp 0
  | none => false

/-- A write to STAGE_CTRL reaches a page that takes it (R31, R33). -/
def State.stageable (s : State) (f pg : Nat) : Bool :=
  stagedPages.contains pg && s.reachesPage f pg && s.pageReady pg && !s.frozen

/-- COMMIT: a write to STAGE_CTRL with COMMIT = 1 (R49, R52, R396). -/
def execCommit (f page : Nat) (v : BitVec 64) (s : State) : Host.Outcome State Fault Refusal :=
  .next (if s.stageable f page && v.toNat.testBit 8 then s.stageCtrl page v.toNat (2 ^ 64 - 1) else s)

/-- DISCARD: a write to STAGE_CTRL with DISCARD = 1 (R396). -/
def execDiscard (f page : Nat) (v : BitVec 64) (s : State) : Host.Outcome State Fault Refusal :=
  .next (if s.stageable f page && v.toNat.testBit 9 then s.stageCtrl page v.toNat (2 ^ 64 - 1) else s)

/-- SEAM_APPLY_COMPLETE: the captured pages of a group apply, then what was held acts (R50, R51). A second capture of the
group that came while this apply ran stays for a completion of its own. The DISCARDs that were held act before the
COMMITs that were held. [entry 133 DESIGN CHOICE] -/
def execSeamApplyComplete (n g : Nat) (s : State) : Host.Outcome State Fault Refusal :=
  .next (match s.applies.find? fun a => a.part == n && a.group == g with
    | none => s
    | some a =>
      let s0 : State := { s with applies := s.applies.erase a }
      let s1 := a.pages.foldl (fun s x => s.applyPage x.1 x.2) s0
      let s2 := a.heldDiscard.foldl State.discard s1
      a.heldCommit.foldl State.commit s2)

end Sys2Proof.Machine
end

