-- ==== Sys2Proof/Machine/Timetable.lean ====
section
/-! DEFINITION. The timetable: service, firing of each kind of entry, job tokens, trigger outputs, position jumps
(12 R254 to R265). -/

namespace Sys2Proof.Machine

/-! ### Trigger outputs (R260) -/

/-- The trigger output that an ARG names is owned by the partition. -/
def State.owns (s : State) (n o : Nat) : Bool := s.rb (TBS_TO_CFG_OWN_EN o) && s.rf (TBS_TO_CFG_OWNER o) == n

/-- The level of a trigger output: POLARITY 0 is active high (R260). -/
def State.toLevel (s : State) (o : Nat) : Bool := (sget {} s.outs o).active != s.rb (TBS_TO_CFG_POLARITY o)

/-- A pulse starts on an output; one that is due while it is active restarts the width (R388). [entry 72 DEDUCED] -/
def State.pulse (s : State) (n arg : Nat) : State :=
  let o := bits arg 0 3
  if !s.owns n o then s.bump (PTT_TRIG_DROPPED_COUNT n)
  else
    let was := (sget {} s.outs o).active
    let s1 := ({ s with outs := sset {} s.outs o { active := true, ends := s.time + bits arg 8 16 * 100 } } : State).bump
      (TBS_TO_COUNT_PULSES o)
    if was then s1.bump (TBS_TO_COUNT_OVERLAPS o) else s1.emit (.trigger o (s1.toLevel o))

/-! ### Job tokens (R261) -/

/-- The newest complete frame of a session that is offered to the partition and whose stamp lies between two
positions. -/
def State.frameFor (s : State) (n ses : Nat) (a b : Int) : Option Done :=
  if ses = 0xFFF then none
  else (s.ingr ses).done.find? fun d => d.part == n && decide (min a b ≤ d.pos) && decide (d.pos ≤ max a b)

/-- The job token of Table TB-4. [entry 70 DEDUCED] -/
def jobToken (item entry tb flags : Nat) (a : Int) (time ses : Nat) (f : Option Done) : Nat :=
  item + entry * 2 ^ 32 + tb * 2 ^ 48 + flags * 2 ^ 56 + ofSigned a 64 * 2 ^ 64 + time * 2 ^ 128 + ses * 2 ^ 224 +
    (match f with
     | some d => d.seq * 2 ^ 192 + ofSigned d.pos 64 * 2 ^ 256 + d.time * 2 ^ 320
     | none => 0)

/-- The tile that a JOB names, relative to the partition's north-west tile. [entry 70 DEDUCED] -/
def State.jobTile (s : State) (n arg : Nat) : Nat :=
  tileAt (64 * s.rf (PART_GEOM_X0 n) + bits arg 0 9) (64 * s.rf (PART_GEOM_Y0 n) + bits arg 9 9)

/-- A JOB fires: its token leaves as a QPUSH, or the firing is skipped, or its queue takes no token (R44, R261, R348). -/
def State.fireJob (s : State) (n e : Nat) (x : PttEntry) (item : Option Nat) (a : Int) (slip : Bool) : State :=
  let st := s.pst n
  if st = psDRAINING ∨ st = psDRAINED ∨ st = psFAULTED then s.bump (PTT_JOBS_SKIPPED_COUNT n)
  else
    let t := s.jobTile n x.arg
    let q := bits x.arg 18 3
    if s.rf (TILE_QBIND_KIND t q) ≠ 2 then s.raise 0x8005 (partPage n 2)
    else
      let ses := bits x.arg 21 12
      let f := s.frameFor n ses a (s.tbPos x.tb)
      let flags := b2n (s.rf (TBS_TB_STATUS_STATE x.tb) == 2) + 2 * b2n f.isNone + 4 * b2n slip
      let s1 := s.send { dst := s.tileGlobal t 0, ty := 3, len := 64, srcMod := s.modNum, rq := q, part := n
                         payload := jobToken (item.getD 0xFFFFFFFF) e x.tb flags a s.mtime ses f, loc := .west (tileY t) }
      match item with
      | some num => s1.updItem n num fun i => { i with job := some t, slowed := s.slowNow n }
      | none => s1

/-! ### Firing (R255 to R259) -/

/-- A firing is counted. -/
def State.countFire (s : State) (n e : Nat) : State :=
  ((s.bump (PTT_FIRES_COUNT n)).wf (PTT_LAST_FIRE_TIME n) s.mtime).setErt n e
    { s.ert n e with fires := ((s.ert n e).fires + 1) % 2 ^ 32 }

/-- An anchor that fires opens an item, unless the item table is full; answers its number. Its position was below every later
due position, and those at OFFSET 0 it has crossed with the anchor's own (R257). [entry 69 DEDUCED] -/
def State.openItem (s : State) (n e : Nat) (due : Int) (cross : Nat) : Option Nat × State :=
  if 4096 ≤ (s.part n).items.length then
    (none, (s.bump (PTT_ITEM_OVERFLOW_COUNT n)).raise 0x8004 (partPage n 2))
  else
    let num := s.rf (PTT_ITEMS_NEXT_ITEM n)
    let rel := s.pttRel n e
    let zero := rel.filter fun r => (s.ptt n r).pos == 0
    let s1 := (s.bump (PTT_ITEMS_NEXT_ITEM n)).updPart n fun p =>
      { p with items := p.items ++ [{ num := num, anchor := e, pos := due, below := rel, crossed := zero.map (·, cross) }]
               emitted := p.emitted.filter fun x => x.1 != num }
    (some num, s1.wf (PTT_ITEMS_OPEN n) (s1.part n).items.length)

/-- The action of an entry (Table TB-3); `started` where the pulse already runs. -/
def State.fireAct (s : State) (n e : Nat) (x : PttEntry) (item : Option Nat) (a : Int) (slip started : Bool) : State :=
  match x.kind with
  | 1 => if started then s else s.pulse n x.arg
  | 2 => s.fireJob n e x item a slip
  | 3 => match item with
    | some num => (s.leadCheck n e num).finalCheck n e num 2
    | none => s
  | 4 => match item, x.rel with
    | some num, true => s.emitItem n (bits x.arg 0 12) num
    | _, _ => s.release n fun r => r.eses == bits x.arg 0 12
  | 5 => s.captureSeam n (bits x.arg 0 4)
  | _ => s

/-- A firing that is due: its due position, whether it is relative, the entry, the item, the time of its crossing. -/
structure Due where
  pos : Int
  rel : Bool
  entry : Nat
  item : Option Nat
  cross : Nat
  deriving DecidableEq, Repr

/-- The firings of a partition that are due (R256, R257). -/
def State.dues (s : State) (n : Nat) : List Due :=
  let lost := fun e => s.rf (TBS_TB_STATUS_STATE (s.ptt n e).tb) == 3
  ((s.pttAbs n).filterMap fun e =>
    let r := s.ert n e
    match r.crossed with
    | some c => if lost e then none else some ⟨r.due, false, e, none, c⟩
    | none => none) ++
  (s.part n).items.flatMap fun i =>
    i.crossed.filterMap fun (c : Nat × Nat) =>
      if (s.ptt n c.1).on && (s.ptt n c.1).rel && !i.done.contains c.1 && !lost c.1 then
        some ⟨i.pos + (s.ptt n c.1).pos, true, c.1, some i.num, c.2⟩ else none

/-- The order of firings in one service: due position, anchors before relative entries, entry index (R258). [entry 71 DEDUCED] -/
def Due.before (a b : Due) : Bool :=
  decide (a.pos < b.pos) || (a.pos == b.pos && ((!a.rel && b.rel) || (a.rel == b.rel && decide (a.entry < b.entry))))

def firstDue (l : List Due) : Option Due :=
  l.foldl (fun b x => match b with
    | some y => if x.before y then some x else b
    | none => some x) none

/-- An absolute entry after its firing (R256). -/
def State.afterFire (s : State) (n e : Nat) (x : PttEntry) : State :=
  let r := s.ert n e
  if x.period = 0 then s.setErt n e { r with armed := false, spent := true, crossed := none, started := false }
  else
    let due := match r.jumped with
      | some q => if r.due + x.period ≤ q then nextDue r.due x.period q else r.due + x.period
      | none => r.due + x.period
    (s.setErt n e { r with due := due, crossed := none, started := false, jumped := none }).noteCrossPart x.tb n

/-- One firing. -/
def State.fire (s : State) (n : Nat) (d : Due) : State :=
  let x := s.ptt n d.entry
  let slip := decide (d.cross + 2000 < s.time)
  let s0 := s.countFire n d.entry
  let s1 := if slip then s0.bump (PTT_SLIPS_COUNT n) else s0
  match d.item with
  | none =>
    let o := if x.opens then s1.openItem n d.entry d.pos d.cross else (none, s1)
    let s2 := o.2.fireAct n d.entry x o.1 d.pos slip (s.ert n d.entry).started
    ((s2.afterFire n d.entry x).noteCrossPart x.tb n).sweepItems n
  | some num =>
    match s.item n num with
    | none => s
    | some i =>
      let s2 := s1.fireAct n d.entry x (some num) i.pos slip (i.started.contains d.entry)
      (s2.updItem n num fun i =>
        { i with done := d.entry :: i.done, crossed := sdel i.crossed d.entry }).sweepItems n

/-- At most `k` firings, each the first that is due. -/
def State.serve (n : Nat) : Nat → State → State
  | 0, s => s
  | k + 1, s => match firstDue (s.dues n) with
    | some d => State.serve n k (s.fire n d)
    | none => s

/-- The timetable of a partition is served now: it fires in the state, no apply of its groups is in progress, and no
backup has frozen it (R50, R264, R301). -/
def State.serves (s : State) (n : Nat) : Bool :=
  decide (n < 16) && s.pttFires n && !(s.applies.any fun a => a.part == n) && !s.rb MOD_STATUS_BACKUP_ACTIVE

/-- Crossings of every timebase noted for one partition. -/
def State.noteAll (s : State) (n : Nat) : State := s.forEach (List.range 8) fun s b => s.noteCrossPart b n

/-- TIMETABLE_SERVICE: R258. -/
def execTimetableService (n at_ : Nat) (s : State) : Host.Outcome State Fault Refusal :=
  let s1 := s.at at_
  .next (if s1.serves n then State.serve n 64 (s1.noteAll n) else if n < 16 then s1.noteAll n else s1)

/-- TRIGGER_PULSE_START: the leading edge of a loaded TRIGGER, at the crossing and ahead of its service (R260). [entry 72 DEDUCED] -/
def execTriggerPulseStart (n e : Nat) (item : Option Nat) (at_ : Nat) (s : State) : Host.Outcome State Fault Refusal :=
  let x := s.ptt n e
  let s1 := (s.at at_).noteCrossPart x.tb n
  .next (if !s1.serves n || !x.on || x.kind != 1 || !s1.owns n (bits x.arg 0 3) ||
      s1.rf (TBS_TB_STATUS_STATE x.tb) == 3 then s
    else match item with
      | none =>
        let r := s1.ert n e
        if x.rel || r.crossed.isNone || r.started then s
        else (s1.setErt n e { r with started := true }).pulse n x.arg
      | some num =>
        match s1.item n num with
        | some i =>
          if !x.rel || (sget? i.crossed e).isNone || i.done.contains e || i.started.contains e then s
          else (s1.updItem n num fun i => { i with started := e :: i.started }).pulse n x.arg
        | none => s)

/-- TRIGGER_PULSE_END: the pulse has lasted its width (R260). -/
def execTriggerPulseEnd (o at_ : Nat) (s : State) : Host.Outcome State Fault Refusal :=
  let s1 := s.at at_
  let x := sget {} s1.outs o
  .next (if x.active && decide (x.ends ≤ s1.time) then
    let s2 : State := { s1 with outs := sset {} s1.outs o {} }
    s2.emit (.trigger o (s2.toLevel o)) else s)

/-- A write to PTT.REARM arms the live absolute entry with N = POS (R256). -/
def State.rearm (s : State) (n e : Nat) : State :=
  let x := s.ptt n e
  if x.on && !x.rel then s.armEntry n e x.pos else s

/-- REARM: R256. -/
def execRearm (f n : Nat) (v : BitVec 64) (s : State) : Host.Outcome State Fault Refusal :=
  .next (if s.writes f n && s.pageReady (partPage n 2) then s.rearm n (bits v.toNat 0 10) else s)

/-! ### Jumps (R265) -/

/-- The due positions of an absolute entry that a jump passes: how many, and the first above the new position. -/
def passed (due : Int) (period : Nat) (old new : Int) : Nat × Int :=
  let first := if due ≤ old then (if period = 0 then due else nextDue due period old) else due
  if first ≤ old ∨ new < first then (0, due)
  else if period = 0 then (1, due)
  else (((new - first) / period).toNat + 1, nextDue first period new)

/-- What becomes of the firings of one entry that a jump passes: triggers and jobs are dropped, an EMIT or SEAM fires
once. [entry 73 DEDUCED] -/
def State.dropFirings (s : State) (n e : Nat) (x : PttEntry) (k : Nat) : State :=
  match x.kind with
  | 1 => s.bump (PTT_TRIG_DROPPED_COUNT n) k
  | 2 => s.bump (PTT_JOBS_SKIPPED_COUNT n) k
  | 4 | 5 => (s.countFire n e).fireAct n e x none x.pos false false
  | _ => s

/-- A position jumps forward past due positions without crossing them, for one partition. -/
def State.jumpPart (s : State) (b : Nat) (old new : Int) (n : Nat) : State :=
  let s1 := s.forEach ((s.pttAbs n).filter fun e => (s.ptt n e).tb == b) fun s e =>
    let x := s.ptt n e
    let r := s.ert n e
    let k := passed r.due x.period old new
    if !r.armed || k.1 == 0 || (r.crossed.isNone && !r.below) then s
    else
      let s2 := s.dropFirings n e x k.1
      let r2 := s2.ert n e
      if r.crossed.isSome then s2.setErt n e { r2 with jumped := some new }
      else if x.period = 0 then s2.setErt n e { r2 with armed := false, spent := true }
      else s2.setErt n e { r2 with due := k.2 }
  let s3 := s1.forEach ((s1.part n).items.map (·.num)) fun s num =>
    match s.item n num with
    | none => s
    | some i =>
      s.forEach ((s.pttRel n i.anchor).filter fun e =>
          let x := s.ptt n e
          x.tb == b && !i.done.contains e && (sget? i.crossed e).isNone && decide (old < i.pos + x.pos) &&
            decide (i.pos + x.pos ≤ new)) fun s e =>
        let x := s.ptt n e
        let s4 := match x.kind with
          | 3 => (s.countFire n e).finalCheck n e num 2
          | 4 => (s.countFire n e).emitItem n (bits x.arg 0 12) num
          | _ => s.dropFirings n e x 1
        s4.updItem n num fun i => { i with done := e :: i.done }
  s3.sweepItems n

/-- A forward jump of timebase `b`. [entry 73 DEDUCED] -/
def State.jump (s : State) (b : Nat) (old new : Int) : State :=
  s.forEach ((List.range 16).filter fun n => s.pttFires n || s.pst n == psRESTORING) fun s n => s.jumpPart b old new n

end Sys2Proof.Machine
end

