-- ==== Sys2Proof/Machine/Timebase.lean ====
section
/-! DEFINITION. Module time and the timebases: PTP, edges, index pulses, samples, loss, queries, adjustments
(12 R242 to R253, R265). -/

namespace Sys2Proof.Machine

/-! ### Edges (R245 to R248) -/

/-- A position that has saturated raises TB_RANGE (R244). [entry 74 DEDUCED] -/
def State.rangeFault (s : State) (raw : Int) : State := if posClip raw = raw then s else s.raise 0x8001 pgTBS

/-- An edge of timebase `b` is accepted, whether it counts or not: missing edges count from now, and from COASTING or LOST the
timebase returns to RUNNING at its current position (R252, R253). -/
def State.edgeSeen (s : State) (b : Nat) : State :=
  let x := { s.tb b with quietFrom := s.time }
  if s.rf (TBS_TB_STATUS_STATE b) = 1 then s.setTb b x
  else (s.setTb b { x with pos := s.tbPos b, base := s.time, step := 0, gapNs := 0, same := false, trail := [] }).wf
    (TBS_TB_STATUS_STATE b) 1

/-- Timebase `b` takes a step (R245, R247). -/
def State.tbCount (s : State) (b : Nat) (d : Int) : State :=
  let x := s.tb b
  let s1 := s.setTb b { x with pos := posClip (x.pos + d), base := s.time, step := d, trail := (x.seg :: x.trail).take 256
                               gapNs := if x.step ≠ 0 then s.time - x.base else 0, same := decide (0 < x.step * d) }
  ((s1.wf (TBS_TB_STATUS_REVERSE b) (b2n (decide (d < 0)))).rangeFault (x.pos + d)).noteCross b

/-- An accepted change of A and B in one sample: QUAD_ERRORS, and TB_QUAD_ERROR at sixteen within 1 ms (R246). [entry 66 DEDUCED] -/
def State.quadError (s : State) (b : Nat) : State :=
  let x := s.tb b
  let l := s.time :: x.quad.filter fun t => decide (s.time < t + 1000000)
  let s1 := s.bump (TBS_TB_ERRORS_QUAD_ERRORS b)
  if 16 ≤ l.length then (s1.setTb b { x with quad := [] }).raise 0x8002 pgTBS else s1.setTb b { x with quad := l }

/-- What the accepted changes `acc` of the inputs count on timebase `b` (Table TB-1); `s.levels` holds the new levels. [entry 66 DEDUCED] -/
def State.tbStep (s : State) (acc : List Nat) (b : Nat) : State :=
  let m := s.rf (TBS_TB_CFG_MODE b)
  let lv := fun i => s.levels.testBit i
  let step : Int := s.rf (TBS_TB_STEP_STEP b)
  let srcB := s.rf (TBS_TB_CFG_SRC_B b)
  match m with
  | 1 =>
    let a := acc.contains b
    if a && acc.contains srcB then s.quadError b
    else
      let up := if a then lv b != lv srcB else lv b == lv srcB
      s.tbCount b (if up != s.rb (TBS_TB_CFG_DIR_INV b) then 256 else -256)
  | 2 => if lv b then s.tbCount b (if s.rb (TBS_TB_CFG_DIR_EN b) && !lv srcB then -step else step) else s
  | 3 => if lv b then s.tbCount b step else s
  | _ => s.tbCount b step

/-- The accepted changes that are edges of timebase `b`: those of TBb in modes 1 to 4, and of SRC_B in mode 1. -/
def State.tbEdge (s : State) (acc : List Nat) (b : Nat) : State :=
  let m := s.rf (TBS_TB_CFG_MODE b)
  if 1 ≤ m ∧ m ≤ 4 ∧ (acc.contains b ∨ (m = 1 ∧ acc.contains (s.rf (TBS_TB_CFG_SRC_B b)))) then (s.edgeSeen b).tbStep acc b else s

/-- A level change that was stable too short is discarded as a glitch of its input (R246). [entry 66 DEDUCED] -/
def State.glitches (s : State) (l : List Nat) : State := s.forEach l fun s i => s.bump (TBS_TB_ERRORS_GLITCHES i)

/-- TIMEBASE_EDGE: the inputs in `edges` change level in one sample, and the new levels last `stable` × 4 ns
(R245, R246); during a backup the timebases stop counting (R301). -/
def execTimebaseEdge (edges : List Nat) (stable at_ : Nat) (s : State) : Host.Outcome State Fault Refusal :=
  let s1 := s.at at_
  let ins := (edges.filter fun i => decide (i < 8)).eraseDups
  let acc := ins.filter fun i => decide (s.rf (TBS_TB_CFG_FILTER i) ≤ stable)
  .next (if s.rb MOD_STATUS_BACKUP_ACTIVE then s1
    else
      let s2 := s1.glitches (ins.filter fun i => !acc.contains i)
      let s3 : State := { s2 with levels := acc.foldl (fun v i => v ^^^ 2 ^ i) s2.levels }
      s3.forEach (List.range 8) fun s b => s.tbEdge acc b)

/-- INDEX_PULSE: a rising edge on input `z` latches the position of every timebase that names it as SRC_Z (R248). -/
def execIndexPulse (z stable at_ : Nat) (s : State) : Host.Outcome State Fault Refusal :=
  let s1 := s.at at_
  .next (if 8 ≤ z ∨ s.rb MOD_STATUS_BACKUP_ACTIVE then s
    else if stable < s.rf (TBS_TB_CFG_FILTER z) then s1.glitches [z]
    else s1.forEach (List.range 8) fun s b =>
      let m := s.rf (TBS_TB_CFG_MODE b)
      if (m = 1 ∨ m = 2) ∧ s.rb (TBS_TB_CFG_Z_EN b) ∧ s.rf (TBS_TB_CFG_SRC_Z b) = z then
        s.wfs [(TBS_TB_INDEX_POS b, ofSigned (s.tbPos b) 48), (TBS_TB_STATUS_INDEX_VALID b, 1)]
      else s)

/-! ### Samples (R249, R250) and lead checks (R262) -/

/-- VELOCITY from the history: the change over the last VEL_WIN samples. [entry 67 DEDUCED] -/
def velocity (win : Nat) (h : List Sample) : Int :=
  let k := min (max 1 win) (h.length - 1)
  match h[0]?, h[k]? with
  | some a, some b => if k = 0 then 0 else ((a.pos - b.pos) * 100000).tdiv k
  | _, _ => 0

/-- The lead checks of timebase `b` that a sample makes due in one partition. -/
def State.leadPart (s : State) (b n : Nat) : State :=
  let v := s.tbVel b
  let pos := s.tbPos b
  if !s.pttFires n || decide (v ≤ 0) then s
  else s.forEach ((s.part n).items.map (·.num)) fun s num =>
    match s.item n num with
    | none => s
    | some i =>
      s.forEach ((s.pttRel n i.anchor).filter fun e =>
          let x := s.ptt n e
          x.tb == b && x.kind == 3 && !i.done.contains e &&
            decide ((i.pos + x.pos - pos) * 1000000 ≤ v * (bits x.arg 12 20 : Nat))) fun s e => s.leadCheck n e num

/-- One timebase records its position. -/
def State.tbSample (s : State) (b : Nat) : State :=
  let st := s.rf (TBS_TB_STATUS_STATE b)
  if st = 0 then s
  else
    let x := s.tb b
    let sm : Sample := { time := s.mtime, pos := s.tbPos b, coast := st == 2, lost := st == 3, gap := x.mark }
    let h := (sm :: x.hist).take 1048576
    let s1 := s.setTb b { x with hist := h, mark := false }
    let s2 := s1.wf (TBS_TB_VEL_VELOCITY b) (ofSigned (velocity (s.rf (TBS_TB_LOSS_VEL_WIN b)) h) 64)
    let was := match x.hist with
      | p :: _ => p.pos == sm.pos
      | [] => false
    let s3 := if was then s2 else s2.rangeFault (s.tbRaw b)
    s3.forEach (List.range 16) fun s n => s.leadPart b n

/-- HISTORY_SAMPLE: at a module time that is a multiple of 10,000 ns (R250). -/
def execHistorySample (at_ : Nat) (s : State) : Host.Outcome State Fault Refusal :=
  let s1 := s.at at_
  .next (if s1.mtime % 10000 ≠ 0 ∨ s.rb MOD_STATUS_BACKUP_ACTIVE then s
    else s1.forEach (List.range 8) State.tbSample)

/-! ### Loss (R252, R253) -/

/-- The timebase enters LOST: its position holds, and open items anchored on it close with cause LOSS. -/
def State.tbLost (s : State) (b : Nat) : State :=
  let s1 := (s.setTb b { s.tb b with pos := s.tbPos b, base := s.time, step := 0, gapNs := 0, same := false, trail := [] }).wf
    (TBS_TB_STATUS_STATE b) 3
  s1.forEach (List.range 16) fun s n => s.closeItems n 3 fun i => (s.ptt n i.anchor).tb == b

/-- The time since which a receiver that the timebase uses reports a fault. -/
def State.rxSince (s : State) (b : Nat) : Option Nat :=
  ((s.tbInputs b).filterMap fun i => (s.tb i).rxFrom).foldl (fun m t => match m with
    | some u => some (min t u)
    | none => some t) none

/-- Loss is due: a receiver fault, or missing edges where STILL_OK is 0, for ENC_TIMEOUT_US. -/
def State.lossDue (s : State) (b : Nat) : Bool :=
  let m := s.rf (TBS_TB_CFG_MODE b)
  let wait := s.rf (TBS_TB_LOSS_ENC_TIMEOUT_US b) * 1000
  decide (1 ≤ m) && decide (m ≤ 4) && s.rf (TBS_TB_STATUS_STATE b) == 1 &&
    ((match s.rxSince b with
      | some t => decide (t + wait ≤ s.time)
      | none => false) || (!s.rb (TBS_TB_LOSS_STILL_OK b) && decide ((s.tb b).quietFrom + wait ≤ s.time)))

/-- ENCODER_LOSS: TB_LOSS and its event, then COASTING or LOST. -/
def execEncoderLoss (b at_ : Nat) (s : State) : Host.Outcome State Fault Refusal :=
  let s1 := (s.at at_).noteCross b
  .next (if 8 ≤ b ∨ !s1.lossDue b ∨ s.rb MOD_STATUS_BACKUP_ACTIVE then s
    else
      let s2 := (s1.irqPage pgTBS).raise 0x8003 pgTBS
      if s2.rf (TBS_TB_LOSS_COAST_MS b) = 0 then s2.tbLost b
      else (s2.setTb b { s2.tb b with pos := s1.tbPos b, base := s1.time, coastVel := s1.tbVel b, step := 0, gapNs := 0
                                      same := false, trail := [] }).wf (TBS_TB_STATUS_STATE b) 2)

/-- COAST_EXPIRY: after COAST_MS the timebase enters LOST. -/
def execCoastExpiry (b at_ : Nat) (s : State) : Host.Outcome State Fault Refusal :=
  let s1 := (s.at at_).noteCross b
  .next (if b < 8 ∧ s1.rf (TBS_TB_STATUS_STATE b) = 2 ∧ !s.rb MOD_STATUS_BACKUP_ACTIVE ∧
      (s1.tb b).base + s1.rf (TBS_TB_LOSS_COAST_MS b) * 1000000 ≤ s1.time then s1.tbLost b else s)

/-! ### PTP (R243) -/

/-- PTP_STATUS.STATE; a change raises the event of TBS. -/
def State.ptpState (s : State) (st : Nat) : State :=
  if s.rf TBS_PTP_STATUS_STATE = st then s else (s.wf TBS_PTP_STATUS_STATE st).irqPage pgTBS

/-- Module time steps by `d`: STEPS, the GAP mark, and the jump of every timebase in mode 5, whose crossings up to here are
noted first (R243, R250, R265). [entry 64 DEDUCED] -/
def State.timeStep (s : State) (d : Int) : State :=
  let moves := fun (s : State) b => s.rf (TBS_TB_CFG_MODE b) == 5 && s.rf (TBS_TB_STATUS_STATE b) == 1
  let s0 := (s.forEach ((List.range 8).filter (moves s)) State.noteCross).ptpSettle
  let s1 := ({ s0 with ptpOff := s0.ptpOff + d } : State).bump TBS_STEPS_COUNT
  s1.forEach (List.range 8) fun s2 b =>
    let s3 := s2.setTb b { s2.tb b with mark := true }
    if moves s3 b then
      (if s0.tbPos b < s3.tbPos b then s3.jump b (s0.tbPos b) (s3.tbPos b) else s3.noteCross b)
    else s3

/-- The servo's state after a message: without lock HOLDOVER where lock was held before (R243). -/
def State.ptpServo (s : State) (state : Nat) : State :=
  let cur := s.rf TBS_PTP_STATUS_STATE
  if state < 1 ∨ 3 < state then s
  else if state = 3 ∨ cur < 3 then s.ptpState state
  else if cur = 3 then (s.ptpState 4).raise 0x8007 pgTBS
  else s

/-- PTP_MESSAGE_RECEIVE: a message on the PTP port and domain, over IPv6 or IPv4 and with peer delay or delay
request-response as PTP_CTRL says, gives an offset (W2 minus master) and a servo state; a smaller offset is slewed from now at
`rate` ppm, at most 500 (R243). [entry 64 DEDUCED] -/
def execPtpMessageReceive (port : Nat) (head : PtpHead) (offset : Int) (state rate at_ : Nat) (s : State) :
    Host.Outcome State Fault Refusal :=
  .next (if !s.rb TBS_PTP_CTRL_EN || port != s.rf TBS_PTP_CTRL_PORT || head.domain != s.rf TBS_PTP_CTRL_DOMAIN ||
      head.v6 != s.rb TBS_PTP_CTRL_IPV6 || head.p2p != s.rb TBS_PTP_CTRL_P2P || !s.rb (PRT_STATUS_LINK_UP port) then s
    else
      let s1 := (s.at at_).ptpSettle
      let s2 := s1.wf TBS_PTP_STATUS_OFFSET (ofSigned (max (-(2 ^ 31)) (min (2 ^ 31 - 1) offset)) 32)
      let s3 := s2.ptpServo state
      if s3.rf TBS_PTP_CTRL_STEP_LIMIT_US * 1000 < offset.natAbs then s3.timeStep (-offset)
      else { s3 with ptpSlew := -offset, ptpRate := min rate 500 })

/-- PTP_HOLDOVER_ENTRY: lock is lost, and module time runs free (R243). -/
def execPtpHoldoverEntry (at_ : Nat) (s : State) : Host.Outcome State Fault Refusal :=
  .next (if s.rf TBS_PTP_STATUS_STATE = 3 then (((s.at at_).ptpSettle).ptpState 4).raise 0x8007 pgTBS else s)

/-! ### Queries and adjustments -/

/-- A write to TBS.QUERY_TIME (R251). -/
def State.queryTime (s : State) (t : Nat) : State :=
  let r := s.histAt (s.rf TBS_QUERY_TB) t
  r.2.2.wfs [(TBS_QUERY_RESULT_POS, ofSigned r.1 48), (TBS_QUERY_RESULT_STATUS, r.2.1)]

/-- QUERY_TIME: R251. -/
def execQueryTime (f : Nat) (v : BitVec 64) (s : State) : Host.Outcome State Fault Refusal :=
  .next (if s.pf0Writes f ∧ s.pageReady pgTBS then s.queryTime v.toNat else s)

/-- A write to TBb_ADJUST adds to the position as a forward jump (R265). -/
def State.adjust (s : State) (b add : Nat) : State :=
  let s0 := s.noteCross b
  let x := s0.tb b
  let old := s0.tbPos b
  let s1 := s0.setTb b { x with pos := posClip (x.pos + add), mark := true, trail := [] }
  (s1.rangeFault (old + add)).jump b old (s1.tbPos b)

/-- ADJUST: R265. -/
def execAdjust (f b : Nat) (v : BitVec 64) (s : State) : Host.Outcome State Fault Refusal :=
  .next (if s.pf0Writes f ∧ b < 8 ∧ s.pageReady pgTBS then s.adjust b (bits v.toNat 0 47) else s)

end Sys2Proof.Machine
end

