-- ==== Sys2Proof/Machine/KeeperOps.lean ====
section
/-! DEFINITION. Fields that the Keeper keeps, power state, SLOW, charging, and arming (14 R290 to R298, 17 R361). -/

namespace Sys2Proof.Machine

/-- A field that the Keeper keeps takes a value (Reset column K). -/
def State.wk (s : State) (k : Fk) (v : Nat) : State :=
  (s.wf k v).updKeeper fun x => { x with nv := sins x.nv k.key (v % 2 ^ k.w) }

/-- Fields that the Keeper keeps, in turn. -/
def State.wks (s : State) (l : List (Fk × Nat)) : State := l.foldl (fun s p => s.wk p.1 p.2) s

/-- The fields whose value is from manufacture and is not in the spec: firmware version, MAC addresses, identity hash, wear,
version of the firmware in a slot. -/
def manufactured (k : Fk) : Bool :=
  match pageAt k.off with
  | some (.mod, _, _) => k.off == MOD_REV_KEEPER_FW.off
  | some (.prt, _, _) => true
  | some (.sec, _, rel) => decide (rel < 0x130)
  | some (.chst, _, rel) => rel == 0x148 || decide (0x220 ≤ rel) && k.lo == 16
  | _ => false

/-- The value that the Keeper holds for a field: kept, from manufacture, or none yet. -/
def State.kept (s : State) (k : Fk) : Nat :=
  match sget? s.keeper.nv k.key with
  | some v => v
  | none => if manufactured k then Config.kValue k.key % 2 ^ k.w else 0

/-- The places of a register field on its page. -/
def dimOffsets : List (Nat × Nat) → List Nat
  | [] => [0]
  | (st, c) :: ds => (List.range c).flatMap fun i => (dimOffsets ds).map fun o => i * st + o

/-- Fields of the Keeper that are no constants of the page layout: loaded on a page (R33). The first of each are fuses of
MOD.REV and FLT.SRC_REACT, whose value is the Reset column, and views. -/
def kFields (kd : PageKind) : List RegField :=
  (pageFields kd).filter fun f =>
    (keeperFields.any fun x => x.1 == kd && x.2.1 == f.base && x.2.2 == f.lo) &&
      !(kd == .mod && f.base == 0x100 && f.lo != 32) && kd != .flt && kd != .pln && !(kd == .tbs)

/-- The Keeper loads the K fields of a page. [entry 13 DESIGN CHOICE] -/
def State.loadPage (s : State) (pg : Nat) : State :=
  match pageAt pg with
  | some (kd, _, _) =>
    (kFields kd).foldl (fun s f =>
      (dimOffsets f.dims).foldl (fun s o =>
        let k : Fk := ⟨pg + f.base + o, f.lo, f.w⟩
        s.wf k (s.kept k)) s) s
  | none => s

/-- The module is powered. -/
def State.powered (s : State) : Bool := s.keeper.phase != 0

/-! ### Power state (R361) and SLOW (R293) -/

/-- The highest power state that applies. -/
def State.pwrState (s : State) : Nat :=
  if s.keeper.held then 4 else if s.keeper.bench then 3 else if s.keeper.idle then 2
  else if s.rb PWR_STATUS_SLOW then 1 else 0

/-- PWR.STATUS.STATE follows; a change raises PWR's event and ALERT#. -/
def State.setPwr (s : State) : State :=
  if s.pwrState = s.rf PWR_STATUS_STATE then s
  else ((s.wf PWR_STATUS_STATE s.pwrState).irqPage pgPWR).setAlert

/-- SLOW follows its conditions: a supply condition of Table HU-1, or FORCE_SLOW. [entry 90 DEDUCED] -/
def State.setSlow (s : State) : State :=
  let want := s.keeper.low || s.keeper.dip || s.rb PWR_CTRL_FORCE_SLOW
  if want = s.rb PWR_STATUS_SLOW then s
  else if want then (((s.wf PWR_STATUS_SLOW 1).bump PWR_SLOW_ENTRIES_COUNT).markSlowed (List.range 16)).setPwr
  else (s.wf PWR_STATUS_SLOW 0).setPwr

/-- PWR.STATUS.SUPPLY: 0 NORMAL, 1 LOW, 2 FAIL, 3 OVER. -/
def State.setSupply (s : State) : State :=
  s.wf PWR_STATUS_SUPPLY
    (if s.keeper.isolated then 2 else if s.keeper.low then 1 else if s.keeper.overV then 3 else 0)

/-- CHARGING: input at or above 46 V, CHARGE_EN, a pack that is neither isolated nor full, the Keeper up (R295, R357). -/
def State.setCharging (s : State) : State :=
  if !s.rb MOD_STATUS_KEEPER_UP then s.wf PWR_STATUS_CHARGING 0
  else s.wf PWR_STATUS_CHARGING
    (b2n (decide (6 ≤ s.keeper.phase) && !s.keeper.low && !s.keeper.isolated && s.rb PWR_CTRL_CHARGE_EN &&
      s.rb PWR_STATUS_PACK_OK && decide (s.rf PWR_PACK_ENERGY_J < s.rf PWR_PACK_CAPACITY_J)))

/-- The input voltage is measured: NOW, and MIN, the lowest since it was last read. -/
def State.measure (s : State) (mv : Nat) : State :=
  let m := s.rf PWR_SUPPLY_MV_MIN
  (s.wf PWR_SUPPLY_MV_NOW mv).wf PWR_SUPPLY_MV_MIN (if m = 0 then mv else min m mv)

/-- PACK_OK: no PACK_FAULT. -/
def State.setPackOk (s : State) : State :=
  (s.wf PWR_STATUS_PACK_OK (b2n (!s.keeper.packBad && !s.keeper.latchOpen))).setCharging

/-- ARMED changes: PWR's event. -/
def State.setArmed (s : State) (v : Bool) : State :=
  if v = s.rb PWR_STATUS_ARMED then s else (s.wf PWR_STATUS_ARMED (b2n v)).irqPage pgPWR

/-- The conditions of R294, without its RESTORING exclusion; a pack whose capacity is below the need never satisfies them (R296). -/
def State.armable (s : State) : Bool :=
  decide (s.armNeed ≤ s.rf PWR_PACK_ENERGY_J) && decide (s.armNeed ≤ s.rf PWR_PACK_CAPACITY_J) && s.rb PWR_STATUS_PACK_OK && s.slotReady && s.rb CHST_STATUS_KEY_OK &&
    s.keeper.seqOk && s.rb MOD_STATUS_READY

/-- A partition is RESTORING. -/
def State.restoring (s : State) : Bool := (List.range 16).any fun n => s.pst n == psRESTORING

/-- SEC.MEAS_SEQ advances, with SEC's event (R372). -/
def State.measChange (s : State) : State := (s.bump SEC_MEAS_SEQ_COUNT).irqPage pgSEC

/-- A weight copy's prologue is what a measurement covers (R372). -/
def State.setMeas (s : State) (f : Keeper → Keeper) : State := (s.updKeeper f).measChange

end Sys2Proof.Machine
end

