-- ==== Sys2Proof/Machine/Sweeps.lean ====
section
/-! DEFINITION. Sweeps: dilation, wavefront rounds, paths, collision checks, local repair (10 R216 to R227). -/

namespace Sys2Proof.Machine

/-! ### Bitmaps of 128 × 128 cells: bit j × 128 + i for cell (i, j) -/

/-- A 128-bit line laid into column `c`. -/
def colPlace (line c : Nat) : Nat := ((List.range 128).map fun j => bits line j 1 * 2 ^ (128 * j + c)).sum
/-- Column `c` as a line. -/
def colTake (b c : Nat) : Nat := ((List.range 128).map fun j => bits b (128 * j + c) 1 * 2 ^ j).sum
/-- Every cell of column `c`. -/
def colMask (c : Nat) : Nat := colPlace (2 ^ 128 - 1) c

/-- A bitmap with each cell replaced by its neighbour in direction `d` (0 N, 1 E, 2 S, 3 W); `line` is the neighbour
tile's line that meets this edge. -/
def bmShift (b d line : Nat) : Nat :=
  match d with
  | 0 => (b * 2 ^ 128) % 2 ^ 16384 + line
  | 1 => (b &&& (colMask 0 ^^^ (2 ^ 16384 - 1))) / 2 + colPlace line 127
  | 2 => b / 2 ^ 128 + line * 2 ^ 16256
  | _ => (b &&& (colMask 127 ^^^ (2 ^ 16384 - 1))) * 2 + colPlace line 0

/-- The edge line of a bitmap on side `d`. -/
def bmLine (b d : Nat) : Nat :=
  match d with
  | 0 => b % 2 ^ 128
  | 1 => colTake b 127
  | 2 => b / 2 ^ 16256
  | _ => colTake b 0

/-- Half-step `h` of a dilation: RADIUS_S plus steps, then square steps, each east and west, then north and south
(R219). -/
def halfDirs (rs h : Nat) : List Nat := if h < rs then [0, 1, 2, 3] else if (h - rs) % 2 = 0 then [1, 3] else [0, 2]

/-! ### The grid -/

/-- The grid of a partition's PSW: west column, north row, width, height, in tiles. -/
def State.gridOf (s : State) (n : Nat) : Nat × Nat × Nat × Nat :=
  (s.rf (PSW_GRID_X0 n), s.rf (PSW_GRID_Y0 n), s.rf (PSW_GRID_W n), s.rf (PSW_GRID_H n))
def State.gridTiles (s : State) (n : Nat) : List Nat :=
  let g := s.gridOf n
  (List.range (g.2.2.1 * g.2.2.2)).map fun i => tileAt (g.1 + i % g.2.2.1) (g.2.1 + i / g.2.2.1)
def State.inGrid (s : State) (n t : Nat) : Bool :=
  let g := s.gridOf n
  decide (g.1 ≤ tileX t) && decide (tileX t < g.1 + g.2.2.1) && decide (g.2.1 ≤ tileY t) && decide (tileY t < g.2.1 + g.2.2.2)
/-- The neighbour in direction `d`, if it is a grid tile. -/
def State.gridNb (s : State) (n t d : Nat) : Option Nat := (neighbour t d).filter (s.inGrid n)

/-- BAD_GRID (R216). -/
def State.badGrid (s : State) (n : Nat) : Bool :=
  let g := s.gridOf n
  g.2.2.1 == 0 || g.2.2.2 == 0 || decide (512 < g.1 + g.2.2.1) || decide (512 < g.2.1 + g.2.2.2) ||
    !(s.geomHas n (plainOf (tileAt g.1 g.2.1)) && s.geomHas n (plainOf (tileAt (g.1 + g.2.2.1 - 1) (g.2.1 + g.2.2.2 - 1))))

/-- BAD_LAYOUT (R216). -/
def State.badLayout (s : State) (n : Nat) : Bool :=
  let r := s.rf (PSW_LAYOUT_BASE_ROW n)
  decide (232 < r % 256) || decide (2015 < r + 23)

/-! ### Sweep rows (Table SW-1) -/

/-- The tile-local address of sweep row `r`. -/
def State.sweepRow (s : State) (n r : Nat) : Nat := 0x40000000 + (s.rf (PSW_LAYOUT_BASE_ROW n) + r) * 0x800

/-- `k` sweep rows from row `r` as the engine reads them. -/
def State.rowsRead (s : State) (n t r k : Nat) : Nat × State :=
  let a := s.sweepRow n r
  let v := s.wideRead (tkey t a) (2048 * k) .clean
  (v.1, v.2.1.raiseEcc t a (2048 * k) (if s.hasBad (tkey t a) (2048 * k) then .bad else .clean))

/-- `k` sweep rows from row `r` written. [entry 53 DESIGN CHOICE] -/
def State.rowsWrite (s : State) (n t r k v : Nat) : State := s.wrMem (tkey t (s.sweepRow n r)) (2048 * k) v

/-- A bit of a bitmap row. -/
def State.cellBit (s : State) (n t r i j : Nat) : Nat × State :=
  let a := s.sweepRow n r + (128 * j + i) / 64 * 8
  let v := s.wideRead (tkey t a) 8 .clean
  (bits v.1 ((128 * j + i) % 64) 1, v.2.1.raiseEcc t a 8 (if s.hasBad (tkey t a) 8 then .bad else .clean))

/-- The cost of a local cell. -/
def State.cellCost (s : State) (n t i j : Nat) : Nat × State :=
  let a := s.sweepRow n 8 + 256 * j + 2 * i
  let w := a / 8 * 8
  let v := s.wideRead (tkey t w) 8 .clean
  (bits v.1 (8 * (a - w)) 16, v.2.1.raiseEcc t w 8 (if s.hasBad (tkey t w) 8 then .bad else .clean))

/-! ### Engines and messages (R218) -/

def State.eng (s : State) (t : Nat) : SweepEng := (s.tile t).sweep
def State.setEng (s : State) (t : Nat) (e : SweepEng) : State := s.updTile t fun x => { x with sweep := e }

/-- A number as queue entries. -/
def entriesOf (v n : Nat) : List Entry := (List.range n).map fun i => BitVec.ofNat 512 (v / 2 ^ (512 * i))

/-- The number of the command that PSW runs; 0 while it runs none. [entry 149 DESIGN CHOICE] -/
def State.sweepId (s : State) (n : Nat) : Nat := ((s.part n).sweep.map (·.id)).getD 0

/-- A message: one header entry, then its data (R218). [entry 51 DEDUCED] -/
def sweepMsg (round kind : Nat) (report : Bool) (data : List Entry) : List Entry :=
  BitVec.ofNat 512 (round % 2 ^ 32 + kind * 2 ^ 32 + b2n report * 2 ^ 40) :: data

/-- Data entries of a message, by kind. -/
def sweepLen (kind : Nat) : Nat := if kind = 0 then 1 else if kind = 1 then 17 else 1

/-- The bitmap message of an engine: its four edge lines. -/
def bitmapMsg (round bm : Nat) : List Entry :=
  sweepMsg round 0 false (entriesOf ((List.range 4).map fun d => bmLine bm d * 2 ^ (128 * d)).sum 1)

/-- The minimum message of an engine (R224). [entry 51 DEDUCED] -/
def minMsg (round least : Nat) : List Entry := sweepMsg round 2 false (entriesOf least 1)

/-- A message is queued for QOUT, as far as there is room. -/
def State.flushOut (s : State) (n t : Nat) : Nat → State
  | 0 => s
  | fuel + 1 =>
    let e := s.eng t
    match e.outbox with
    | [] => s
    | x :: rest =>
      let q := s.rf (PSW_LAYOUT_QOUT n)
      if s.outRoom t q = 0 then s else ((s.pushOutE t q x).setEng t { e with outbox := rest }).flushOut n t fuel

/-- The engine sends a message to every grid neighbour. -/
def State.sendMsg (s : State) (n t : Nat) (m : List Entry) : State :=
  let e := s.eng t
  if (List.range 4).all (fun d => (s.gridNb n t d).isNone) then s
  else (s.setEng t { e with outbox := e.outbox ++ m.map fun x => { data := x, cmd := s.sweepId n } }).flushOut n t
    (e.outbox.length + m.length)

/-- The round of a message, and its kind. -/
def msgRound (m : List Entry) : Nat := (m.getD 0 0).toNat % 2 ^ 32
def msgKind (m : List Entry) : Nat := bits (m.getD 0 0).toNat 32 8
/-- The data of a message as one number. -/
def msgData (m : List Entry) : Nat :=
  ((List.range (m.length - 1)).map fun i => (m.getD (i + 1) 0).toNat * 2 ^ (512 * i)).sum

/-- Costs from direction `d` go into the HALO row of the round's parity, with REPORT and whether they are those of the round
before (R221). REPAIR's first two rounds are compared with the rows that the field converged with, the first without its
corner costs. [entry 149 DESIGN CHOICE] -/
def State.holdCosts (s : State) (n t d : Nat) (m : List Entry) : State :=
  let e := s.eng t
  let r := msgRound m
  let v := bits (msgData m) (2080 * ((d + 2) % 4)) 2080
  let row := fun k => s.rdMem (tkey t (s.sweepRow n (4 + k % 2) + 260 * d)) 260
  let eq := if r = 0 then bits v 16 2048 == bits (row 1) 16 2048
    else if r = 1 ∧ e.kept then v == row 1
    else v == row (r + 1)
  let key := d * 2 + r % 2
  (s.setEng t { e with held := (d, r) :: e.held, reports := sset 0 e.reports key (bits (m.getD 0 0).toNat 40 1),
                       eqs := sset false e.eqs key eq }).wrMem (tkey t (s.sweepRow n (4 + r % 2) + 260 * d)) 260 v

/-- The cost messages that wait for their row are held. -/
def State.absorb (s : State) (n t : Nat) : State :=
  (s.eng t).inbox.foldl (fun s m => s.holdCosts n t m.1 m.2) (s.setEng t { s.eng t with inbox := [] })

/-- A whole message from the neighbour in direction `d`: bitmap lines and minima are held in the engine, costs wait for
their HALO row. A kind that R218 does not name goes nowhere. [entry 55 DEDUCED] -/
def State.holdMsg (s : State) (t d : Nat) (m : List Entry) : State :=
  let e := s.eng t
  let r := msgRound m
  let key := d * 2 + r % 2
  match msgKind m with
  | 0 => s.setEng t { e with held := (d + 4, r) :: e.held,
                             lines := sset 0 e.lines key (bits (msgData m) (128 * ((d + 2) % 4)) 128) }
  | 1 => s.setEng t { e with inbox := e.inbox ++ [(d, m)] }
  | 2 => s.setEng t { e with held := (d + 8, r) :: e.held, mins := sset 0 e.mins key (bits (msgData m) 0 16) }
  | _ => s

/-- A row operation holds the pair of the sweep rows (R140). -/
def State.sweepHeld (s : State) (n t : Nat) : Bool := (s.tile t).pairHeld (s.rf (PSW_LAYOUT_BASE_ROW n) / 512)

/-- The engine of a tile can do nothing: the tile is fenced, its plain is paused, off or fenced, or the module is gated. -/
def State.engStopped (s : State) (t : Nat) : Bool := s.fenced t || s.plnState (plainOf t) != 0 || s.gated

/-- SWEEP_MESSAGE_POP: the engine pops the head of QIN, whatever it is doing (R218); an entry of a command that has ended
goes nowhere. [entries 55 DEDUCED, 149 DESIGN CHOICE] -/
def execSweepMessagePop (t : Nat) (s : State) : Host.Outcome State Fault Refusal :=
  .next (match s.tilePart t with
    | none => s
    | some n =>
      let q := s.rf (PSW_LAYOUT_QIN n)
      match ((s.tile t).inQ q).head? with
      | none => s
      | some x =>
        if !s.inGrid n t || s.engStopped t then s
        else
          let s1 := s.popIn t q
          match (s.part n).sweep, x.sender with
          | some w, some (u, cmd) =>
            let e := s1.eng t
            let m := sget [] e.pops u ++ [x.data]
            if cmd ≠ w.id then s1
            else if m.length < 1 + sweepLen (msgKind m) then s1.setEng t { e with pops := sset [] e.pops u m }
            else
              let s2 := s1.setEng t { e with pops := sset [] e.pops u [] }
              match (List.range 4).find? fun d => s2.gridNb n t d == some u with
              | some d =>
                let s3 := s2.holdMsg t d m
                if s3.sweepHeld n t then s3 else s3.absorb n t
              | none => s2
          | _, _ => s1)

/-- The engine holds the message of `round` from every neighbour that sends it one; `k` is 4 for bitmaps, 0 for costs, 8
for minima. -/
def State.holdsAll (s : State) (n t k round : Nat) (from_ : Nat → Bool) : Bool :=
  (List.range 4).all fun d => match s.gridNb n t d with
    | some u => !from_ u || (s.eng t).held.contains (d + k, round)
    | none => true

/-- Messages of a round that has been used are let go, of the kind that `k` names. [entry 55 DEDUCED] -/
def SweepEng.drop (e : SweepEng) (k round : Nat) : SweepEng :=
  { e with held := e.held.filter fun h => h.1 / 4 != k / 4 || decide (round < h.2) }

/-! ### Dilation (R219) -/

/-- Half-steps of a dilation with the footprint of PSW.FOOT. -/
def State.halfSteps (s : State) (n : Nat) : Nat := s.rf (PSW_FOOT_RADIUS_S n) + 2 * s.rf (PSW_FOOT_RADIUS_D n)


/-- The line that direction `d` gives to half-step `h`. -/
def State.nbLine (s : State) (n t d h : Nat) : Nat :=
  match s.gridNb n t d with
  | some _ => sget 0 (s.eng t).lines (d * 2 + h % 2)
  | none => if s.rb (PSW_LAYOUT_EDGE_BLOCKED n) then 2 ^ 128 - 1 else 0

/-- The engine begins a dilation: OCC is copied, and the first bitmap message goes out; only REPAIR asks what INFL was.
[entry 51 DEDUCED] -/
def State.dilateStart (s : State) (n t : Nat) (repair : Bool) : State :=
  let e := s.eng t
  let o := s.rowsRead n t 0 1
  let i := if repair then o.2.rowsRead n t 1 1 else (0, o.2)
  let s1 := i.2.setEng t { e with phase := 1, bm := o.1, infl0 := i.1 }
  let s2 := if e.keep then s1 else s1.rowsWrite n t 1 1 o.1
  if s2.halfSteps n = 0 then s2 else s2.sendMsg n t (bitmapMsg 0 o.1)

/-- One half-step. The scratch rows are left with values that the spec does not state. -/
def State.dilateStep (s : State) (n t : Nat) : State :=
  let e := s.eng t
  let h := e.round
  let bm := (halfDirs (s.rf (PSW_FOOT_RADIUS_S n)) h).foldl (fun b d => b ||| bmShift e.bm d (s.nbLine n t d h)) e.bm
  let f := s.draw 32768
  let s1 := (f.2.rowsWrite n t 2 2 f.1).setEng t { e.drop 4 h with bm := bm, round := h + 1 }
  let s2 := if e.keep then s1 else s1.rowsWrite n t 1 1 bm
  if h + 1 < s2.halfSteps n then s2.sendMsg n t (bitmapMsg (h + 1) bm) else s2

/-! ### Rounds (R220 to R222) -/

/-- The costs of a tile with its halo, as one number for each: `c` the 16,384 costs, `h` the HALO row, `nb` which sides
have a neighbour. Coordinates run from 0 to 129, the tile's own cells from 1 to 128. -/
def paddedCost (c : Array Nat) (h : Nat) (nb : Nat → Bool) (x y : Nat) : Nat :=
  let side := fun d k => if nb d then bits h (2080 * d + 16 * k) 16 else 0xFFFF
  if y = 0 then side 0 x
  else if y = 129 then side 2 x
  else if x = 129 then side 1 y
  else if x = 0 then side 3 y
  else c.getD ((y - 1) * 128 + (x - 1)) 0xFFFF

/-- One relaxation of R220: the least of the own cost and the sums over visited neighbours; the flag marks a capped sum. -/
def relax (own : Nat) (l : List (Nat × Nat)) : Nat × Bool :=
  l.foldl (fun p q =>
    if q.1 = 0xFFFF then p
    else if 65534 < q.1 + q.2 then (min p.1 65534, true)
    else (min p.1 (q.1 + q.2), p.2)) (own, false)

/-- The neighbours already visited in a pass, as offsets from the cell with the step to each. -/
def visited (fwd : Bool) (ss sd : Nat) : List (Int × Int × Nat) :=
  let side : List (Int × Int × Nat) := if fwd then [(-1, 0, ss), (0, -1, ss)] else [(1, 0, ss), (0, 1, ss)]
  let diag : List (Int × Int × Nat) := if fwd then [(-1, -1, sd), (1, -1, sd)] else [(1, 1, sd), (-1, 1, sd)]
  if sd = 0 then side else side ++ diag

/-- One pass over the cells of a tile (R220). -/
def costPass (fwd : Bool) (ss sd infl h : Nat) (nb : Nat → Bool) (p : Array Nat × Bool) : Array Nat × Bool :=
  let order := if fwd then List.range 16384 else (List.range 16384).reverse
  order.foldl (fun p k =>
    if infl.testBit k then p
    else
      let x := k % 128 + 1; let y := k / 128 + 1
      let l := (visited fwd ss sd).map fun v => (paddedCost p.1 h nb ((x : Int) + v.1).toNat ((y : Int) + v.2.1).toNat, v.2.2)
      let r := relax (p.1.getD k 0xFFFF) l
      (p.1.setIfInBounds k r.1, p.2 || r.2)) p

/-- A number as 16-bit values, and back. -/
def costsOf (v : Nat) : Array Nat := ((List.range 16384).map fun k => bits v (16 * k) 16).toArray
def costsNum (c : Array Nat) : Nat := ((List.range 16384).map fun k => c.getD k 0 * 2 ^ (16 * k)).sum

/-- The cost message of an engine: four lines of 128 costs, each with the halo costs at its ends. -/
def costMsg (round : Nat) (report : Bool) (c : Array Nat) (h : Nat) (nb : Nat → Bool) : List Entry :=
  let line : Nat → Nat → Nat := fun d k =>
    let p := match d with
      | 0 => (k, 1)
      | 1 => (128, k)
      | 2 => (k, 128)
      | _ => (1, k)
    paddedCost c h nb p.1 p.2
  sweepMsg round 1 report
    (entriesOf ((List.range 4).map fun d => ((List.range 130).map fun k => line d k * 2 ^ (16 * k)).sum * 2 ^ (2080 * d)).sum 17)

/-- The engine enters the rounds with the costs as they stand, and tells its neighbours; `kept` where REPAIR changed
nothing on the tile. [entry 51 DEDUCED] -/
def State.roundsStart (s : State) (n t : Nat) (kept : Bool) : State :=
  let c := s.rowsRead n t 8 16
  (c.2.setEng t { c.2.eng t with phase := 3, round := 0, changed := !kept, kept := kept }).sendMsg n t
    (costMsg 0 false (costsOf c.1) 0 fun _ => false)

/-- PSW hears REPORT of a round from the north-west tile (R222). -/
def State.sweepReport (s : State) (n round : Nat) (report : Bool) : State :=
  match (s.part n).sweep with
  | none => s
  | some w =>
    let g := s.gridOf n
    let quiet := if report then 0 else w.quiet + 1
    let s1 := s.wf (PSW_ROUNDS_COUNT n) round
    let w1 := { w with quiet := quiet }
    let w2 := if g.2.2.1 + g.2.2.2 - 1 ≤ quiet then { w1 with done := true, result := 0 }
      else if s1.rf (PSW_ROUND_LIMIT_ROUNDS n) ≤ round then { w1 with done := true, result := 10 }
      else w1
    s1.updPart n fun p => { p with sweep := some w2 }

/-- The tile's cells and its incoming halo are unchanged since the round before (R221), or since the field converged where
REPAIR kept them (R224). -/
def State.unchanged (s : State) (n t : Nat) : Bool :=
  let e := s.eng t
  !e.changed && (List.range 4).all fun d => (s.gridNb n t d).isNone || sget false e.eqs (d * 2 + e.round % 2)

/-- One round (R220, R221). -/
def State.costRound (s : State) (n t : Nat) : State :=
  let e := s.eng t
  let r := e.round + 1
  let nb := fun d => (s.gridNb n t d).isSome
  let h := s.rowsRead n t (4 + e.round % 2) 1
  let skip := s.unchanged n t
  let c := h.2.rowsRead n t 8 16
  let i := c.2.rowsRead n t 1 1
  let ss := s.rf (PSW_STEP_STEP_S n); let sd := s.rf (PSW_STEP_STEP_D n)
  let c0 := costsOf c.1
  let p := if skip then (c0, false)
    else costPass false ss sd i.1 h.1 nb (costPass true ss sd i.1 h.1 nb (c0, false))
  let changed := costsNum p.1 != c.1
  let rep := fun d => nb d && sget 0 e.reports (d * 2 + e.round % 2) == 1
  let report := changed || rep 1 || rep 2
  let s1 := i.2.setEng t { e.drop 0 (r - 1) with round := r, changed := changed }
  let s2 := if skip then s1.bump (PSW_SKIPS_COUNT n) else s1.rowsWrite n t 8 16 (costsNum p.1)
  let s3 := if p.2 then s2.wf (PSW_STATUS_COST_CAPPED n) 1 else s2
  let s4 := s3.sendMsg n t (costMsg r report p.1 h.1 nb)
  let g := s.gridOf n
  if t = tileAt g.1 g.2.1 then s4.sweepReport n r report else s4

/-! ### INIT and the cut of REPAIR -/

/-- INIT on a tile: 0 where GOAL is 1 and INFL is 0, 0xFFFF elsewhere. -/
def State.initTile (s : State) (n t : Nat) : State :=
  let g := s.rowsRead n t 6 1
  let i := g.2.rowsRead n t 1 1
  let c := ((List.range 16384).map fun k => (if g.1.testBit k && !i.1.testBit k then 0 else 0xFFFF) * 2 ^ (16 * k)).sum
  let s1 := (i.2.rowsWrite n t 8 16 c).setEng t { i.2.eng t with phase := 4 }
  if g.1 &&& i.1 = 0 then s1 else s1.wf (PSW_STATUS_GOAL_BLOCKED n) 1

/-- The least pre-repair cost among the newly blocked cells of a tile (R224, step 2). -/
def State.cutMin (s : State) (n t : Nat) : Nat × State :=
  let e := s.eng t
  let c := s.rowsRead n t 8 16
  ((List.range 16384).foldl (fun m k => if e.bm.testBit k && !e.infl0.testBit k then min m (bits c.1 (16 * k) 16) else m)
    0xFFFF, c.2)

/-- Step 3 of R224 on a tile, with goal cells that stay or become free at the 0 that INIT gives them; the rounds follow. A
tile whose cells and INFL stay as they were is kept. -/
def State.cutTile (s : State) (n t least : Nat) : State :=
  let e := s.eng t
  let c := s.rowsRead n t 8 16
  let i := c.2.rowsRead n t 1 1
  let g := i.2.rowsRead n t 6 1
  let old := if e.keep then i.1 else e.infl0
  let v := ((List.range 16384).map fun k =>
    let x := bits c.1 (16 * k) 16
    (if g.1.testBit k && !i.1.testBit k then 0
     else if least ≤ x || old.testBit k != i.1.testBit k then 0xFFFF else x) * 2 ^ (16 * k)).sum
  (g.2.rowsWrite n t 8 16 v).roundsStart n t (v == c.1 && old == i.1)

/-- Grid tiles that meet RECT widened by the footprint's reach (R224, step 1). [entry 52 DEDUCED] -/
def State.inRepairSet (s : State) (n t : Nat) : Bool :=
  let g := s.gridOf n
  let w := s.rf (PSW_FOOT_RADIUS_S n) + s.rf (PSW_FOOT_RADIUS_D n)
  let x := 128 * (tileX t - g.1); let y := 128 * (tileY t - g.2.1)
  decide (s.rf (PSW_RECT_LO_X n) < x + 128 + w) && decide (x ≤ s.rf (PSW_RECT_HI_X n) + w) &&
    decide (s.rf (PSW_RECT_LO_Y n) < y + 128 + w) && decide (y ≤ s.rf (PSW_RECT_HI_Y n) + w)

/-- A grid tile in the repair set or beside one that is, diagonally or not. -/
def State.nearRepairSet (s : State) (n t : Nat) : Bool :=
  (List.range 9).any fun i =>
    let x := tileX t + i % 3; let y := tileY t + i / 3
    decide (1 ≤ x) && decide (1 ≤ y) && s.inGrid n (tileAt (x - 1) (y - 1)) && s.inRepairSet n (tileAt (x - 1) (y - 1))

/-- The tile takes part in the dilation: every grid tile for DILATE, the repair set and its neighbours for REPAIR. [entry 53 DESIGN CHOICE] -/
def State.dilates (s : State) (n op u : Nat) : Bool := op != 4 || s.nearRepairSet n u

/-! ### SWEEP_ROUND -/

/-- The parent of a tile in the message tree: west, and north in the west column; none for the north-west tile (R224).
[entry 52 DEDUCED] -/
def State.treeUp (s : State) (n t : Nat) : Option Nat :=
  if (s.gridNb n t 3).isSome then some 3 else if (s.gridNb n t 0).isSome then some 0 else none
/-- Its children: east, and south in the west column. -/
def State.treeDown (s : State) (n t : Nat) : List Nat :=
  (if (s.gridNb n t 1).isSome then [1] else []) ++
    (if (s.gridNb n t 3).isNone && (s.gridNb n t 2).isSome then [2] else [])

/-- The grid minimum is here: it goes on to the children, and the tile is cut. -/
def State.cutHere (s : State) (n t least : Nat) : State :=
  (if (s.treeDown n t).isEmpty then s else s.sendMsg n t (minMsg 1 least)).cutTile n t least

/-- The minima of the children are gathered and joined with the tile's own: the tree carries the result up, and from the
north-west tile down (R224, step 2). -/
def State.minUp (s : State) (n t : Nat) : State :=
  let e := s.eng t
  let own := if s.inRepairSet n t then s.cutMin n t else (0xFFFF, s)
  let least := (s.treeDown n t).foldl (fun m d => min m (sget 0 e.mins (d * 2))) own.1
  if (s.treeUp n t).isNone then own.2.cutHere n t least
  else (own.2.setEng t { own.2.eng t with phase := 8 }).sendMsg n t (minMsg 0 least)

/-- The command ends when every engine of the grid has finished. -/
def State.sweepDone (s : State) (n : Nat) : State :=
  match (s.part n).sweep with
  | some w =>
    if (s.gridTiles n).all fun u => (s.eng u).phase == 4 then
      s.updPart n fun p => { p with sweep := some { w with done := true, result := 0 } }
    else s
  | none => s

/-- One step of the engine of a grid tile. -/
def State.engStep (s : State) (n t : Nat) (w : Sweep) : State :=
  let e := s.eng t
  if e.phase = 5 then (s.initTile n t).sweepDone n
  else if e.phase = 6 then s.dilateStart n t (w.op == 4)
  else if e.phase = 1 then
    let s1 := if e.round < s.halfSteps n then
        (if s.holdsAll n t 4 e.round (s.dilates n w.op) then s.dilateStep n t else s)
      else s
    if (s1.eng t).round < s1.halfSteps n then s1
    else if w.op = 4 then s1.setEng t { s1.eng t with phase := 2 }
    else (s1.setEng t { s1.eng t with phase := 4 }).sweepDone n
  else if e.phase = 2 then
    (if (s.treeDown n t).all fun d => e.held.contains (d + 8, 0) then s.minUp n t else s)
  else if e.phase = 8 then
    (match s.treeUp n t with
     | some d => if e.held.contains (d + 8, 1) then s.cutHere n t (sget 0 e.mins (d * 2 + 1)) else s
     | none => s)
  else if e.phase = 7 then s.roundsStart n t false
  else if e.phase = 3 then
    (if s.holdsAll n t 0 e.round fun _ => true then s.costRound n t else s)
  else s

/-- SWEEP_ROUND: the engine of a grid tile takes its next step (the start of a dilation or of the rounds, a half-step, INIT,
a minimum, the cut, a round or a skipped one) once it holds what the step needs. A message that waits for room goes out
first, also where the command is over (R222). -/
def execSweepRound (t : Nat) (s : State) : Host.Outcome State Fault Refusal :=
  .next (match s.tilePart t with
    | none => s
    | some n =>
      if s.engStopped t then s
      else
        let s1 := s.flushOut n t (s.eng t).outbox.length
        match (s.part n).sweep with
        | none => s1
        | some w =>
          if w.done || !s.inGrid n t || !(s1.eng t).outbox.isEmpty || s.sweepHeld n t then s1
          else (s1.absorb n t).engStep n t w)

/-! ### Paths (R223) -/

/-- The grid tile and local cell of a grid cell, if it lies in the grid. -/
def State.gridCell (s : State) (n cx cy : Nat) : Option (Nat × Nat × Nat) :=
  let g := s.gridOf n
  if cx < 128 * g.2.2.1 ∧ cy < 128 * g.2.2.2 then some (tileAt (g.1 + cx / 128) (g.2.1 + cy / 128), cx % 128, cy % 128)
  else none

/-- The cost of a grid cell; 0xFFFF outside the grid (R217). -/
def State.costAt (s : State) (n : Nat) (cx cy : Int) : Nat × State :=
  if cx < 0 ∨ cy < 0 then (0xFFFF, s)
  else match s.gridCell n cx.toNat cy.toNat with
    | some (t, i, j) => s.cellCost n t i j
    | none => (0xFFFF, s)

/-- INFL of a grid cell; outside the grid as EDGE_BLOCKED says. -/
def State.inflAt (s : State) (n cx cy : Nat) : Nat × State :=
  match s.gridCell n cx cy with
  | some (t, i, j) => s.cellBit n t 1 i j
  | none => (s.rf (PSW_LAYOUT_EDGE_BLOCKED n), s)

/-- The neighbours in the order of R223's ties: N, E, S, W, NE, SE, SW, NW. -/
def pathDirs (sd : Nat) : List (Int × Int) :=
  [(0, -1), (1, 0), (0, 1), (-1, 0)] ++ (if sd = 0 then [] else [(1, -1), (1, 1), (-1, 1), (-1, -1)])

/-- The neighbour of least cost, the first of equals. -/
def State.bestNb (s : State) (n cx cy : Nat) : Nat × Nat × Nat × State :=
  (pathDirs (s.rf (PSW_STEP_STEP_D n))).foldl (fun (p : Nat × Nat × Nat × State) v =>
    let x := (cx : Int) + v.1; let y := (cy : Int) + v.2
    let c := p.2.2.2.costAt n x y
    if c.1 < p.1 then (c.1, x.toNat, y.toNat, c.2) else (p.1, p.2.1, p.2.2.1, c.2)) (0x10000, cx, cy, s)

/-- EXTRACT from a cell of a known cost, `k` entries written so far. Answers the result. -/
def State.extractFrom (s : State) (n : Nat) : Nat → Nat → Nat → Nat → Nat → Nat × State
  | 0, _, _, _, _ => (7, s)
  | fuel + 1, cx, cy, cost, k =>
    match s.translate n (s.rf (PSW_PATH_VA n) + 4 * k) with
    | (.hit pa, s1) =>
      let s2 := (s1.edgeStore pa 4 (cx + cy * 2 ^ 16) .clean).wf (PSW_OUTCOME_PATH_LEN n) (k + 1)
      if cost = 0 then (0, s2)
      else if cost = 65534 then (6, s2)
      else
        let b := s2.bestNb n cx cy
        b.2.2.2.extractFrom n fuel b.2.1 b.2.2.1 b.1 (k + 1)
    | (_, s1) => (8, s1)

/-- EXTRACT (R223). -/
def State.extract (s : State) (n : Nat) : Nat × State :=
  let cx := s.rf (PSW_START_X n); let cy := s.rf (PSW_START_Y n)
  let s0 := s.wf (PSW_OUTCOME_PATH_LEN n) 0
  let b := if (s0.gridCell n cx cy).isSome then s0.inflAt n cx cy else (0, s0)
  let c := b.2.costAt n cx cy
  if b.1 = 1 then (4, b.2)
  else if c.1 = 0xFFFF then (5, c.2)
  else c.2.extractFrom n (s.rf (PSW_PATH_MAX_ENTRIES n)) cx cy c.1 0

/-- CHECK from entry `k` on (R223). -/
def State.checkFrom (s : State) (n : Nat) : Nat → Nat → Nat × State
  | 0, _ => (0, s)
  | fuel + 1, k =>
    match s.translate n (s.rf (PSW_PATH_VA n) + 4 * k) with
    | (.hit pa, s1) =>
      let r := s1.edgeRead pa 4 .clean
      let d := if r.2.2 then r.2.1.draw 32 else (r.1, r.2.1)
      let b := d.2.inflAt n (bits d.1 0 16) (bits d.1 16 16)
      if b.1 = 1 then (9, b.2.wf (PSW_OUTCOME_INDEX n) k) else b.2.checkFrom n fuel (k + 1)
    | (_, s1) => (8, s1)

/-! ### Commands (R225, R226) -/

/-- STATUS.STATE while a command runs. -/
def runState : Nat → Nat
  | 1 => 1 | 2 => 2 | 3 => 3 | 4 => 5 | 5 => 6 | _ => 7

/-- STATUS.STATE after a command (Table SW-3). -/
def endState (w : Sweep) : Nat :=
  if w.result = 11 ∨ w.result = 12 then 8
  else match w.op with
    | 3 | 4 => if w.result = 0 then 4 else 8
    | 5 => 4
    | 6 => w.before
    | _ => 8

/-- A grid tile is fenced, or lies in a fenced plain. -/
def State.gridFenced (s : State) (n : Nat) : Bool := (s.gridTiles n).any fun t => s.fenced t || s.plainFenced (plainOf t)

/-- The grid tiles whose engines the partition's PSW drives. -/
def State.ownTiles (s : State) (n : Nat) : List Nat := (s.gridTiles n).filter fun t => s.tilePart t == some n

/-- The engine of a tile at rest: what is left of a message still goes out. -/
def SweepEng.rest (e : SweepEng) : SweepEng := { outbox := e.outbox }

/-- The engines begin a command: each takes its first step at its next SWEEP_ROUND. [entry 54 DEDUCED] -/
def State.sweepBegin (s : State) (n op : Nat) : State :=
  let begin_ := fun (f : Nat → SweepEng → SweepEng) (s : State) =>
    (s.ownTiles n).foldl (fun s t => s.setEng t (f t (s.eng t).rest)) s
  match op with
  | 1 => begin_ (fun _ e => { e with phase := 6 }) s
  | 2 => begin_ (fun _ e => { e with phase := 5 }) s
  | 3 => begin_ (fun _ e => { e with phase := 7 }) (s.wf (PSW_ROUNDS_COUNT n) 0)
  | 4 => begin_ (fun t e => { e with phase := if s.nearRepairSet n t then 6 else 2, keep := !s.inRepairSet n t })
      (s.wf (PSW_ROUNDS_COUNT n) 0)
  | _ => s

/-- A write to PSW.CMD (R225, R226). [entry 54 DEDUCED] -/
def State.pswCmd (s : State) (n op : Nat) : State :=
  let st := s.rf (PSW_STATUS_STATE n)
  let refuse := fun r => s.wf (PSW_STATUS_RESULT n) r
  if op = 0 ∨ 7 < op then s
  else match (s.part n).sweep with
  | some w =>
    if op ≠ 7 then refuse 1
    else if w.done then s
    else s.updPart n fun p => { p with sweep := some { w with done := true, result := 11 } }
  | none =>
    if op ≠ 7 ∧ !(st == 0 || st == 4 || st == 8) then refuse 1
    else if s.badGrid n then refuse 2
    else if s.badLayout n then refuse 3
    else if (op = 4 ∨ op = 5) ∧ st ≠ 4 then refuse 13
    else
      let w : Sweep := { op := op, before := st, id := (s.part n).sweepSeq + 1 }
      let run := fun (s : State) (w : Sweep) => s.updPart n fun p => { p with sweep := some w, sweepSeq := w.id }
      if op = 7 then run s { w with done := true, result := 11 }
      else
        let s1 := s.wf (PSW_STATUS_STATE n) (runState op)
        if s1.gridFenced n then run s1 { w with done := true, result := 12 } else (run s1 w).sweepBegin n op

/-- A write to a word of the PSW page. -/
def State.pswWord (s : State) (n rel v m : Nat) : State :=
  if rel = 0x120 then s.pswCmd n (bits (v &&& m) 0 4) else s.writeWord (partPage n 4 + rel) v m

/-- A command written through function `f`. -/
def State.pswHost (s : State) (f n op : Nat) : State :=
  if s.writes f n && s.pageReady (partPage n 4) then s.pswCmd n op else s

/-- DILATE: R219. -/
def execDilate (f n : Nat) (s : State) : Host.Outcome State Fault Refusal := .next (s.pswHost f n 1)
/-- INIT: R220. -/
def execInit (f n : Nat) (s : State) : Host.Outcome State Fault Refusal := .next (s.pswHost f n 2)
/-- RUN: R220 to R222. -/
def execRun (f n : Nat) (s : State) : Host.Outcome State Fault Refusal := .next (s.pswHost f n 3)
/-- REPAIR: R224. -/
def execRepair (f n : Nat) (s : State) : Host.Outcome State Fault Refusal := .next (s.pswHost f n 4)
/-- EXTRACT: R223. -/
def execExtract (f n : Nat) (s : State) : Host.Outcome State Fault Refusal := .next (s.pswHost f n 5)
/-- CHECK: R223. -/
def execCheck (f n : Nat) (s : State) : Host.Outcome State Fault Refusal := .next (s.pswHost f n 6)
/-- ABORT: R225. -/
def execAbort (f n : Nat) (s : State) : Host.Outcome State Fault Refusal := .next (s.pswHost f n 7)

/-- The rows of every grid tile can be read: no plain is paused and no row operation holds a pair (R140, R227). -/
def State.gridOpen (s : State) (n : Nat) : Bool := (s.gridTiles n).all fun t => !s.engStopped t && !s.sweepHeld n t

/-- The work of EXTRACT and CHECK, and the result of a command that is over; none while it runs or its tiles wait. -/
def State.sweepResult (s : State) (n : Nat) (w : Sweep) : Option (Nat × State) :=
  if w.done then some (w.result, s)
  else if !s.gridOpen n then none
  else if w.op = 5 then some (s.extract n)
  else if w.op = 6 then some (s.checkFrom n (s.rf (PSW_OUTCOME_PATH_LEN n)) 0)
  else none

/-- SWEEP_COMMAND_END: STATE and RESULT are set, and PSW's event goes out (R226). -/
def execSweepCommandEnd (n : Nat) (s : State) : Host.Outcome State Fault Refusal :=
  .next (match (s.part n).sweep with
    | none => s
    | some w =>
      match s.sweepResult n w with
      | none => s
      | some r =>
        let s1 := r.2.wfs [(PSW_STATUS_STATE n, endState { w with result := r.1 }), (PSW_STATUS_RESULT n, r.1)]
        let s2 := (s1.ownTiles n).foldl (fun s t => s.setEng t (s.eng t).rest) s1
        (s2.updPart n fun p => { p with sweep := none }).irqPart n 20)

end Sys2Proof.Machine
end

