-- ==== Sys2Proof/Machine/PageWrite.lean ====
section
/-! DEFINITION. Writes to a word of a partition page whose fields another chapter gives rules of their own: the pages that
an image's PART_CFG section may name (11 Table IM-3), and the header words that every page has. -/

namespace Sys2Proof.Machine

/-- A write to a header word of a page: PAGE_CTRL, FAULT_MORE, FAULT_MASK, FAULT_REACT, STAGE_CTRL, STAGE_STATUS. -/
def State.headerWord (s : State) (off v m : Nat) : State :=
  let pg := pageBase off
  let rel := off % 0x1000
  if rel = 0x10 then s.writeCtrl pg v m
  else if !s.pageReady off then s
  else if rel = 0x40 then (if stagedPages.contains pg then s.stageCtrl pg v m else s)
  else if rel = 0x48 then (if stagedPages.contains pg then s.stageStatus pg v m else s)
  else s.writeFaultReg off v m

/-- The bits of a timetable entry's words that exist (Table TB-2). -/
def pttMask (w : Nat) : Nat :=
  match w with
  | 0 => 0xFFDFF
  | 1 => 2 ^ 48 - 1
  | 2 => 2 ^ 40 - 1
  | _ => 2 ^ 64 - 1

/-- A write to PTT.ENTRY0 to ENTRY3: the shadow of a word of the entry that SEL names. -/
def State.pttEntryWrite (s : State) (n w v m : Nat) : State :=
  let k := pttWord n (s.rf (PTT_SEL_ENTRY n)) w
  s.wsh k (((s.sh k &&& (m ^^^ (2 ^ 64 - 1))) ||| (v &&& m)) &&& pttMask w)

/-- A write to a word of PTT, PSW, PSTL, PEPT or PKS: page index `i`, offset `rel`. -/
def State.cfgWord (s : State) (n i rel v m : Nat) : State :=
  let off := partPage n i + rel
  if rel < 0x100 then s.headerWord off v m
  else if !s.pageReady off then s
  else if i = 2 ∧ 0x108 ≤ rel ∧ rel < 0x128 then s.pttEntryWrite n ((rel - 0x108) / 8) v m
  else if i = 2 ∧ rel = 0x138 then s.rearm n (bits (v &&& m) 0 10)
  else if i = 4 then s.pswWord n rel v m
  else if i = 7 ∧ rel = 0x108 then s.peptEntryWrite n v m
  else if i = 7 ∧ rel = 0x120 then s.pageIn n (v &&& m)
  else s.writeWord off v m

end Sys2Proof.Machine
end

