-- ==== Sys2Proof/Machine/Images.lean ====
section
/-! DEFINITION. Yarcia images: the file, the checks of the prologue, loads cold and warm, the image store, broadcast
across modules, and the events that end a load (11 R228 to R241, R320). -/

namespace Sys2Proof.Machine

/-! ### The file (Tables IM-1 to IM-5) -/

/-- `n` bytes of a string at an offset. -/
def strAt (v off n : Nat) : Nat := bits v (8 * off) (8 * n)

/-- `n` bytes of the body at an offset, through the shards that hold them. -/
def bodyAt (sh : SMap Nat) : Nat → Nat → Nat → Nat
  | 0, _, _ => 0
  | fuel + 1, b, n =>
    if n = 0 then 0
    else
      let k := min n (0x100000 - b % 0x100000)
      strAt (sget 0 sh (b / 0x100000)) (b % 0x100000) k + 2 ^ (8 * k) * bodyAt sh fuel (b + k) (n - k)

/-- `n` bytes of an image at a file offset: the prologue, then the body. -/
def Stored.at_ (x : Stored) (off n : Nat) : Nat :=
  let k := min n (x.plen - off)
  strAt x.pro off k + 2 ^ (8 * k) * bodyAt x.shards (n / 0x100000 + 2) (off + k - x.plen) (n - k)

/-- The fields of the header that later steps use. -/
def proVersion (p : Nat) : Nat := strAt p 0x08 2
def proDevice (p : Nat) : Nat := strAt p 0x0C 1
def proSigned (p : Nat) : Bool := (strAt p 0x0D 1).testBit 0
def proWeightsOnly (p : Nat) : Bool := (strAt p 0x0D 1).testBit 1
def proGridW (p : Nat) : Nat := strAt p 0x10 2
def proGridH (p : Nat) : Nat := strAt p 0x12 2
def proSections (p : Nat) : Nat := strAt p 0x14 4
def proTotal (p : Nat) : Nat := strAt p 0x18 8
def proLen (p : Nat) : Nat := strAt p 0x20 8
def proPlacement (p : Nat) : Nat := strAt p 0x28 8
def proWeights (p : Nat) : Nat := strAt p 0x30 8
def proShardOff (p : Nat) : Nat := strAt p 0x38 4
def proShards (p : Nat) : Nat := strAt p 0x3C 4
def proSigOff (p : Nat) : Nat := strAt p 0x40 4

/-- Bytes of a shard table entry, and its fields. -/
def shardEntry (p : Nat) : Nat := if proVersion p = 1 then 8 else 64
def shardCrc (p i : Nat) : Nat := strAt p (proShardOff p + shardEntry p * i) 4
/-- Bytes of shard `i`: 1 MiB, or what is left of the file. -/
def shardLen (p i : Nat) : Nat := min 0x100000 (proTotal p - proLen p - 0x100000 * i)
def shardDigest (p i : Nat) : Nat := strAt p (proShardOff p + 64 * i + 8) 48

/-- A section: offset, length, type, PAIRED, CRC (Table IM-2). -/
def sectionAt (p i : Nat) : Nat × Nat × Nat × Nat × Nat :=
  let e := strAt p (0x100 + 32 * i) 32
  (strAt e 8 8, strAt e 16 8, strAt e 0 2, bits e 16 1, strAt e 4 4)
def sectionsOf (p : Nat) : List (Nat × Nat × Nat × Nat × Nat) := (List.range (proSections p)).map (sectionAt p)

/-- Sections in file order. -/
def insertSec (x : Nat × Nat × Nat × Nat × Nat) : List (Nat × Nat × Nat × Nat × Nat) → List (Nat × Nat × Nat × Nat × Nat)
  | [] => [x]
  | y :: l => if x.1 < y.1 then x :: y :: l else y :: insertSec x l
def fileOrder (p : Nat) : List (Nat × Nat × Nat × Nat × Nat) := (sectionsOf p).foldl (fun l x => insertSec x l) []

/-! ### The checks of the prologue (R230, Table IM-6) -/

/-- Check 3: lengths. `src` is what the source holds, if it says. -/
def proFits (p : Nat) (src : Option Nat) : Bool :=
  (match src with
   | some n => decide (proTotal p ≤ n)
   | none => true) &&
  decide (proLen p ≤ proTotal p) && proShards p == ceilDiv (proTotal p - proLen p) 0x100000 &&
  ((sectionsOf p).all fun x => decide (x.1 + x.2.1 ≤ proTotal p)) &&
  decide (proShardOff p + shardEntry p * proShards p ≤ proLen p) &&
  (!proSigned p || decide (proSigOff p + 104 ≤ proLen p))

/-- No two sections overlap. -/
def sectionsApart : List (Nat × Nat × Nat × Nat × Nat) → Bool
  | a :: b :: l => decide (a.1 + a.2.1 ≤ b.1) && sectionsApart (b :: l)
  | _ => true

/-- Check 4: the table CRC, the reserved fields, the ranges of Table IM-1, and that no two sections overlap. Of the other
properties of a section or a shard entry no rule says that they are checked (R1). -/
def proTables (p : Nat) : Bool :=
  crc32c (bytesOf (strAt p 0x100 (32 * proSections p)) (32 * proSections p) ++
    bytesOf (strAt p (proShardOff p) (shardEntry p * proShards p)) (shardEntry p * proShards p)) == strAt p 0x44 4 &&
  strAt p 0x0E 2 == 0 && strAt p 0x48 0xB4 == 0 && decide (strAt p 0x0D 1 < 4) &&
  decide (1 ≤ proGridW p) && decide (proGridW p ≤ 512) && decide (1 ≤ proGridH p) && decide (proGridH p ≤ 512) &&
  decide (1 ≤ proSections p) && decide (proSections p ≤ 4096) && proLen p % 0x1000 == 0 &&
  decide (proLen p ≤ 0x1000000) && decide (proShards p ≤ 245760) &&
  (if proSigned p then strAt p (proSigOff p + 1) 7 == 0 else proSigOff p == 0) &&
  ((List.range (proSections p)).all fun i =>
    decide (strAt p (0x100 + 32 * i + 2) 2 < 2) && strAt p (0x100 + 32 * i + 24) 8 == 0) &&
  sectionsApart (fileOrder p) &&
  (proVersion p == 1 || (List.range (proShards p)).all fun i => strAt p (proShardOff p + 64 * i + 56) 8 == 0)

/-- An image key slot is SET (R375). -/
def State.keySet (s : State) (k : Nat) : Bool := bits (s.rf SEC_IMGKEY_STATUS_STATES) (2 * k) 2 == 1

/-- The signature of a prologue verifies (R229, R375). [entry 95 DEDUCED] -/
def State.sigOk (s : State) (p : Nat) : Bool :=
  let k := strAt p (proSigOff p) 1
  proVersion p == 2 && decide (k < 4) && s.keySet k &&
    Config.ecdsaOk (sget 0 s.keeper.imgKeys k) (Config.sha384 (proSigOff p) (strAt p 0 (proSigOff p)))
      (strAt p (proSigOff p + 8) 48) (strAt p (proSigOff p + 56) 48)

/-- Checks 1 to 4 of Table IM-6: 0, or the result code. `dev` and `ver` are the targets that check 2 lets pass. [entry 95 DEDUCED] -/
def proCheck (p : Nat) (src : Option Nat) (targets : List (Nat × Nat)) : Nat :=
  if strAt p 0 8 ≠ 0x0A1A414943524159 ∨ crc32c (bytesOf p 0xFC) ≠ strAt p 0xFC 4 then 2
  else if strAt p 0x0A 2 ≠ 0x4B ∨ !targets.contains (proDevice p, proVersion p) then 3
  else if !proFits p src then 4
  else if !proTables p then 2
  else 0

/-- PLACEMENT_ID of a partition's live image: that of the image whose cold load placed it, wherever its slot is (R232). -/
def State.livePlacement (s : State) (n : Nat) : Option Nat :=
  if s.hasImage n then (sget? s.keeper.coldPro n).map fun v => proPlacement (v / 2 ^ 32) else none

/-- All the checks of R230: 0, or the result code. -/
def State.imageCheck (s : State) (ld : Load) (p : Nat) (src : Option Nat) : Nat :=
  let c := proCheck p src [(2, 2), (1, 1)]
  let w := s.rf (PART_GEOM_W ld.part); let h := s.rf (PART_GEOM_H ld.part)
  if c ≠ 0 then c
  else if 64 * w < proGridW p ∨ 64 * h < proGridH p ∨ (proDevice p = 1 ∧ (w < 7 ∨ h < 7)) then 5
  else if (proSigned p && !s.sigOk p) || (!proSigned p && s.rb IMG_CTRL_REQUIRE_SIG) then 6
  else if ld.warm && (!proWeightsOnly p || !((sectionsOf p).all fun x => x.2.2.1 == 5 && x.2.2.2.1 == 1) ||
      s.livePlacement ld.part != some (proPlacement p)) then 7
  else 0

/-! ### Image store slots (R237) -/

/-- The blocks of an image of `n` bytes with parity, in stripes of 14 + 2 over all dies, four planes at a time (R317,
R320). -/
def imageBlocks (n : Nat) : Nat := 1024 * ceilDiv (ceilDiv (ceilDiv n stripeBytes) 16) 768

/-- A stored image can be read: complete, and no stripe has lost more than two shards; stripe n lies on the even or the odd
channels (R317, R320). -/
def State.readable (s : State) (k : Nat) : Bool :=
  match sget? s.chest.imgs k with
  | some x => x.complete && !x.unreadable && !x.freed && !s.keeper.foreign &&
      (List.range 2).all fun o => (s.chest.dead.filter fun c => c % 2 == o).length ≤ 2
  | none => false

/-! ### Placing (R228, R231, R235) -/

/-- The north-west tile of a partition. -/
def State.nwTile (s : State) (n : Nat) : Nat := tileAt (64 * s.rf (PART_GEOM_X0 n)) (64 * s.rf (PART_GEOM_Y0 n))

/-- The entry of multicast tree `e` at the router of a tile. -/
def State.treeByte (s : State) (t e : Nat) : Nat := bits (s.rf (TILE_TREE_MASK t (e / 8))) (8 * (e % 8)) 5

/-- The branches of a multicast write at a router: the tiles beyond the outputs of its tree. [entry 46 DEDUCED] -/
def State.branches (s : State) (t tree : Nat) : List Nat :=
  ((List.range 4).filter fun d => (s.treeByte t tree).testBit d).filterMap (neighbour t)

/-- Every branch that does not end at a full-fenced plain takes the packet now (R173, R175). -/
def State.branchesOpen (s : State) (t : Nat) (k : Packet) : Bool :=
  (s.branches t k.tree).all fun u =>
    s.plnState (plainOf u) == 3 || (s.enterable u && s.bufferRoom u (inputFrom t u) 0 (packetFlits k))

/-- The routers that a tree reaches from some routers on, with its entry at each. [entry 94 DEDUCED] -/
def State.treeWalk (s : State) (e : Nat) : Nat → List Nat → List (Nat × Nat)
  | 0, _ => []
  | _, [] => []
  | fuel + 1, t :: ts =>
    let b := s.treeByte t e
    (t, b) :: s.treeWalk e fuel ((List.range 4).filterMap (fun d => if b.testBit d then neighbour t d else none) ++ ts)
/-- The tiles at which a tree writes. -/
def treeLeaves (l : List (Nat × Nat)) : List Nat := l.filterMap fun x => if x.2.testBit 4 then some x.1 else none

/-- Step 1 of a cold load (R231). [entry 94 DEDUCED] -/
def State.clearForLoad (s : State) (n : Nat) : State :=
  let ts := (s.plainsOf n).flatMap tilesOf
  let trees := (List.range 64).filter fun e => s.usedTiles.any fun t => s.tilePart t == some n && (s.treeByte t e).testBit 4
  let s1 := ts.foldl (fun s t =>
    let s1 := s.forEach (List.range 16) fun s k => if s.rb (TILE_TASK_CFG_ENABLE t k) then s.taskEnable t k false else s
    let s2 := s1.forEach (List.range 64) fun s h => s.shelfKill t h
    s2.clearPages (tilePage t + 0x400) (tilePage t + 0x480) |>.clearPages (tilePage t + 0x800) (tilePage t + 0xC80)) s
  let s2 := s1.usedTiles.foldl (fun s t =>
    s.forEach trees fun s e =>
      let k := TILE_TREE_MASK t (e / 8)
      s.wf k (s.rf k - s.treeByte t e * 2 ^ (8 * (e % 8)))) s1
  s2.forEach (s2.plainsOf n) fun s p => s.wf (MESH_BANK_LIVE p) 1

/-- Bytes written to a tile, and a SHELF record entry by entry, word 1 before word 0, as `shelfWrite` does. -/
def State.loadTile (s : State) (t a len v : Nat) : State := s.localWrite t a len v

/-- A record's bytes written to the tile that it names, or to the leaves of its tree: 14 where a target lies in a
full-fenced plain or a leaf outside the partition. The flits of the WRITE and MWRITE packets are counted on their way from
the reader (R235). [entry 148 DESIGN CHOICE] -/
def State.placeTile (s : State) (n org : Nat) (tree : Option Nat) (t a len v : Nat) : State × Nat :=
  let flits := chunkFlits a len
  match tree with
  | none =>
    let s1 := State.carryFrom flits t false 1100 s org false
    if s.plnLevel (plainOf t) = 3 then (s1, 14) else (s1.loadTile t a len v, 0)
  | some e =>
    let walk := s.treeWalk e 300000 [org]
    let leaves := treeLeaves walk
    let ok := fun u => s.tilePart u == some n && s.plnLevel (plainOf u) != 3
    let s1 := walk.foldl (fun s x => s.bump (MESH_PKT_FLITS_COUNT (plainOf x.1))
      (flits * ((List.range 4).filter fun d => x.2.testBit d).length)) s
    ((leaves.filter ok).foldl (fun s u => s.loadTile u a len v) s1, if leaves.all ok then 0 else 14)

/-- A PAGE record's bytes, written by aligned words of its page. -/
def State.placePage (s : State) (n i rel len v : Nat) : State :=
  let sh := rel % 8
  (List.range ((sh + len + 7) / 8)).foldl (fun s j =>
    s.cfgWord n i (rel - sh + 8 * j) (bits (v * 2 ^ (8 * sh)) (64 * j) 64) (bits ((2 ^ (8 * len) - 1) * 2 ^ (8 * sh)) (64 * j) 64)) s

/-- A record's bytes written to edge memory through the partition's page table; 13 where a page is not there. -/
def State.placeEdge (s : State) (n va len v : Nat) : State × Nat :=
  match s.dmaPieces n (len / 2 ^ 21 + 2) va len with
  | (some ps, s1) => (s1.dmaStore v ps, 0)
  | (none, s1) => (s1, 13)

/-- A LOCAL record's range is one that its section's type takes (R228). -/
def localRecOk (typ a len : Nat) : Bool :=
  localOk a len && areaOf a != .spill &&
    (if typ = 3 then areaOf a == .shelf && (a - 0x100000) % 16 == 0 && len % 16 == 0 else areaOf a != .shelf)

/-- How a load places records: partition, copy that PAIRED sections write, tile from which a tree is walked, grid, and
whether PAGE records are left out (Table HU-4). [entry 91 DEDUCED] -/
structure Placer where
  part : Nat
  copy : Nat
  org : Nat
  gridW : Nat
  gridH : Nat
  noCfg : Bool := false
  deriving DecidableEq, Repr

/-- One record placed: 0, or the code that aborts the load. [entry 91 DEDUCED] -/
def State.placeRecord (s : State) (pl : Placer) (typ paired w0 addr data : Nat) : State × Nat :=
  let kind := bits w0 0 4; let len := bits w0 16 24
  let x := bits w0 40 9; let y := bits w0 49 9; let h := bits w0 58 6
  let tree := if w0.testBit 10 then some (bits w0 4 6) else none
  let nw := s.nwTile pl.part
  let t := tileAt (tileX nw + x) (tileY nw + y)
  if bits w0 11 5 ≠ 0 ∨ pl.gridW ≤ x ∨ pl.gridH ≤ y then (s, 13)
  else match kind with
    | 0 =>
      if (typ = 1 ∨ typ = 2 ∨ typ = 3 ∨ typ = 4) ∧ localRecOk typ addr len then s.placeTile pl.part pl.org tree t addr len data
      else (s, 13)
    | 1 =>
      let w := ((s.tile t).shelfAt h).w0
      if !(typ = 4 ∨ typ = 5) ∨ (paired = 1 ∧ !w.testBit 3) then (s, 13)
      else match s.resolveWith t h ((if paired = 1 then pl.copy else s.copyLive pl.part) == 1) with
        | none => (s, 13)
        | some hd =>
          if hd.len < addr + len then (s, 13)
          else if hd.place = 3 then s.placeEdge pl.part (hd.base + addr) len data
          else s.placeTile pl.part pl.org tree t (hd.base + addr) len data
    | 2 =>
      if !(typ = 4 ∨ typ = 5) ∨ paired = 1 ∨ 2 ^ 40 < addr + len then (s, 13) else s.placeEdge pl.part addr len data
    | 3 =>
      let i := addr / 0x1000; let rel := addr % 0x1000
      if typ ≠ 6 ∨ !(i = 2 ∨ i = 4 ∨ i = 5 ∨ i = 7 ∨ i = 8) ∨ 0x1000 < rel + len then (s, 13)
      else if pl.noCfg then (s, 0)
      else (s.placePage pl.part i rel len data, 0)
    | _ => (s, 13)

/-- Records of sections placed as far as the body has arrived (`avail`): the sections left, the file offset of the next
record, PART_CFG pages written, and 0 or the code that aborts the load. A finished section has its CRC checked where
`crc` says so (R236). -/
def State.placeAvail (pl : Placer) (img : Stored) (avail : Nat) (crc : Bool) :
    Nat → State → List (Nat × Nat × Nat × Nat × Nat) → Nat → List Nat →
    State × List (Nat × Nat × Nat × Nat × Nat) × Nat × List Nat × Nat
  | 0, s, secs, pos, cfg => (s, secs, pos, cfg, 0)
  | _, s, [], pos, cfg => (s, [], pos, cfg, 0)
  | fuel + 1, s, (off, len, typ, paired, c) :: rest, pos, cfg =>
    let stop := (s, (off, len, typ, paired, c) :: rest, pos, cfg)
    let last := off + len
    if pos < off then State.placeAvail pl img avail crc fuel s ((off, len, typ, paired, c) :: rest) off cfg
    else if last ≤ pos then
      (if avail < last then (stop.1, stop.2.1, stop.2.2.1, stop.2.2.2, 0)
       else if crc && crc32c (bytesOf (img.at_ off len) len) != c then (stop.1, stop.2.1, stop.2.2.1, stop.2.2.2, 12)
       else State.placeAvail pl img avail crc fuel s rest pos cfg)
    else if last < pos + 16 then (stop.1, stop.2.1, stop.2.2.1, stop.2.2.2, 13)
    else if avail < pos + 16 then (stop.1, stop.2.1, stop.2.2.1, stop.2.2.2, 0)
    else
      let w0 := img.at_ pos 8; let addr := img.at_ (pos + 8) 8
      let n := bits w0 16 24
      let step := 16 + (n + 7) / 8 * 8
      if last < pos + step then (stop.1, stop.2.1, stop.2.2.1, stop.2.2.2, 13)
      else if avail < pos + step then (stop.1, stop.2.1, stop.2.2.1, stop.2.2.2, 0)
      else
        let r := s.placeRecord pl typ paired w0 addr (img.at_ (pos + 16) n)
        if r.2 ≠ 0 then (r.1, (off, len, typ, paired, c) :: rest, pos, cfg, r.2)
        else
          let cfg' := if bits w0 0 4 = 3 ∧ !cfg.contains (addr / 0x1000) then cfg ++ [addr / 0x1000] else cfg
          State.placeAvail pl img avail crc fuel r.1 ((off, len, typ, paired, c) :: rest) (pos + step) cfg'

/-- A bound on the steps of `placeAvail` for an image. -/
def Stored.steps (x : Stored) : Nat := proTotal x.pro / 16 + 2 * proSections x.pro + 2

/-- The PART_CFG pages that records have written are applied (R231, step 4). -/
def State.applyCfg (s : State) (n : Nat) (cfg : List Nat) : State :=
  cfg.foldl (fun s i =>
    let pg := partPage n i
    if stagedPages.contains pg then s.stageCtrl pg (s.rf (hSTAGE_GROUP pg) + 0x100) (2 ^ 64 - 1) else s) s

/-- The live image of a partition reloaded from the image store slot that backs it (R241, R306); where the image that placed
the partition is still stored in another slot, its other sections come from there. With `cfg` the PART_CFG sections are
placed too. The live copy is LIVE and the other NONE; with a slot that cannot be read both are NONE. [entry 93 DEDUCED] -/
def State.reloadImage (s : State) (n : Nat) (c : Copies) (cfg : Bool) : State × Bool :=
  let back := if c.sel = 0 then c.slotA else c.slotB
  if s.readable back then
    let secs := fun (x : Stored) => (fileOrder x.pro).filter fun y => cfg || y.2.2.1 != 6
    let place := fun (x : Stored) l (r : State × List Nat) =>
      let pl : Placer := { part := n, copy := c.sel, org := s.nwTile n, gridW := proGridW x.pro, gridH := proGridH x.pro, noCfg := !cfg }
      let q := State.placeAvail pl x (proTotal x.pro) false x.steps r.1 l 0 r.2
      (q.1, q.2.2.2.1)
    let first := c.cold.filter fun k => k != back && s.readable k
    let r0 := ((s.setSel n c.sel).clearForLoad n, [])
    let r1 := match first with
      | some k => let x := sget {} s.chest.imgs k; place x ((secs x).filter fun y => y.2.2.2.1 == 0) r0
      | none => r0
    let x := sget {} s.chest.imgs back
    let r2 := place x (secs x) r1
    let s3 := (r2.1.forEach (r2.1.plainsOf n) State.bankZeroAt).applyCfg n r2.2
    (((s3.wfs [(copyStateK n c.sel, 3), (copySlotK n c.sel, back), (copyStateK n (1 - c.sel), 0),
      (copySlotK n (1 - c.sel), 0)]).setCold n (first.or (some back))).freeSlots, true)
  else (((s.wfs [(IMG_PCOPY_A_STATE n, 0), (IMG_PCOPY_B_STATE n, 0)]).setCold n none).freeSlots, false)

/-- The previous images of aborted cold loads are reloaded (R241). -/
def State.finishReloads (s : State) : State :=
  s.keeper.reloads.foldl (fun s e => (s.reloadImage e.1 e.2 true).1.updKeeper fun x => { x with reloads := sdel x.reloads e.1 }) s

/-! ### A load -/

/-- The end of a load in a refusal: RESULT is set and no fault raised. -/
def State.imgRefuse (s : State) (code : Nat) : State :=
  let s1 := match s.keeper.load with
    | some l =>
      ((s.updChest fun x => { x with imgs := sdel x.imgs l.slot }).updKeeper fun x => { x with load := none }).loadReport l false
    | none => s
  (s1.wfs [(IMG_STATUS_STATE, 4), (IMG_STATUS_RESULT, code)]).irqPage pgIMG

/-- An abort (R236, R237, R241): the load ends with its fault; the copy of a warm load is INVALID, after a cold load the
previous image is to come back. -/
def State.imgAbort (s : State) (code : Nat) : State :=
  match s.keeper.load with
  | none => s
  | some l => ((s.imgEnd l code).raise (0xB000 + code) pgIMG).irqPage pgIMG

/-! ### Fetching (R233, R234) -/

/-- Where the W2 connects for an image (R234). -/
def State.nvmeTarget (s : State) : NvmeTarget :=
  { port := s.rf IMG_NET_PORT, vlan := if s.rb IMG_NET_VLAN_EN then some (s.rf IMG_NET_VID) else none, v6 := s.rb IMG_NET_IPV6
    ip := s.rf (IMG_TARGET_IP_ADDR 0) + (if s.rb IMG_NET_IPV6 then 2 ^ 64 * s.rf (IMG_TARGET_IP_ADDR 1) else 0)
    tcp := s.rf IMG_NET_TCP_PORT, hdgst := s.rb IMG_NET_HDGST, ddgst := s.rb IMG_NET_DDGST, queues := s.rf IMG_NET_IOQ + 1
    subnqn := ((List.range 32).map fun k => s.rf (IMG_SUBNQN_BYTES k) * 2 ^ (64 * k)).sum
    hostnqn := ((List.range 32).map fun k => s.rf (IMG_HOSTNQN_BYTES k) * 2 ^ (64 * k)).sum }

/-- The W2 asks the source for `n` bytes of the file from `off`: the list entries of the chunks that hold them, each of 1 MiB
(R233), or the blocks of the namespace that hold them, byte 0 in block SLBA (R234). [entry 150 DESIGN CHOICE] -/
def State.fetch (s : State) (src off n : Nat) : State :=
  match src with
  | 0 =>
    let c := off / 0x100000
    (List.range ((off + n + 0xFFFFF) / 0x100000 - c)).foldl (fun s j => s.emit (.hostRead (s.rf IMG_HOST_LIST_ADDR + 8 * (c + j)) 8)) s
  | 1 =>
    let b := if s.rb IMG_NET_LBA_4K then 4096 else 512
    s.emit (.nvmeRead (s.rf IMG_NSID_NSID) (s.rf IMG_SLBA_LBA + off / b) (ceilDiv (off % b + n) b))
  | _ => s

/-- The next shard of a load is asked for. -/
def State.fetchShard (s : State) (l : Load) (p i : Nat) : State :=
  if i < proShards p then s.fetch l.src (proLen p + 0x100000 * i) (shardLen p i) else s

/-- The image page is armed for another partition, or for a commit that selects the copy that a load would build
(R238). [entry 102 DEDUCED] -/
def State.imgArmed (s : State) (n copy : Nat) : Bool :=
  let other := s.stagePart pgIMG != n
  let selects := bits (s.sh IMG_COPY_SEL_SEL) n 1 == copy && s.copyLive n != copy
  (s.armed pgIMG && (other || selects)) || s.inApply pgIMG

/-- The reader plain takes no load (R235). [entry 92 DEDUCED] -/
def State.badReader (s : State) (p : Nat) : Bool := s.plnState p == 1 || s.plnState p == 4 || s.plainFenced p

/-- GO (R231, R232, R235, R237, R238). [entry 92 DEDUCED] -/
def State.imgGo (s : State) : State :=
  let n := s.rf IMG_LOAD_PART; let kind := s.rf IMG_LOAD_KIND
  let warm := kind == 2
  let copy := if warm then 1 - s.copyLive n else 0
  let free := (List.range 256).find? fun k => (sget? s.chest.imgs k).isNone
  match s.keeper.load with
  | some _ => s
  | none =>
    let s0 := s.wf IMG_STATUS_SHARD 0
    if kind ≠ 1 ∧ kind ≠ 2 then s0.imgRefuse 1
    else if s.imgArmed n copy then s0.imgRefuse 1
    else if !warm && s.pst n != psSTOPPED then s0.imgRefuse 8
    else if warm && (s.pst n == psEMPTY || s.pst n == psRESETTING) then s0.imgRefuse 10
    else if warm && (s.view (pgIMG + 0x280 + 8 * n) 8) == some 1 then s0.imgRefuse 9
    else if s.badReader (s.rf IMG_LOAD_READER) then s0.imgRefuse 20
    else match free with
      | none => s0.imgRefuse 19
      | some k =>
        if s.rb SEC_STATUS_REKEYING then s0.imgRefuse 19
        else
          let ld : Load := { part := n, warm := warm, src := s.rf IMG_LOAD_SRC, reader := s.rf IMG_LOAD_READER, copy := copy, slot := k }
          let s1 := ((s0.updKeeper fun x => { x with load := some ld }).updChest fun x => { x with imgs := sins x.imgs k {} }).wfs
            [(IMG_STATUS_STATE, 1), (IMG_STATUS_RESULT, 0)]
          (if ld.src = 1 then s1.emit (.nvmeConnect s1.nvmeTarget) else s1).fetch ld.src 0 0x1000

/-- A write to IMG.CMD: a GO written in IDLE-HOLD returns the W2 to RUN first, and an ABORT behind it waits its turn (R235,
R362); a reload that is due is over before a load begins. -/
def State.imgCmd (s : State) (op : Nat) : State :=
  let wait := fun c => s.updKeeper fun x => { x with deferred := x.deferred ++ [(16, c)] }
  match op with
  | 1 => if s.keeper.idle then (wait 0).updKeeper fun x => { x with idleExit := true } else s.finishReloads.imgGo
  | 2 => if s.keeper.deferred.any (·.1 == 16) then wait 2 else s.imgAbort 17
  | _ => s

/-- IMG_GO: R230, R231, R235. -/
def execImgGo (f : Nat) (s : State) : Host.Outcome State Fault Refusal :=
  .next (if s.pf0Writes f ∧ s.pageReady pgIMG then s.imgCmd 1 else s)

/-- IMG_ABORT: R241. -/
def execImgAbort (f : Nat) (s : State) : Host.Outcome State Fault Refusal :=
  .next (if s.pf0Writes f ∧ s.pageReady pgIMG then s.imgCmd 2 else s)

/-- What the source holds, in bytes, where the spec gives it a figure (R233, R234). -/
def State.srcHolds (s : State) (src : Nat) : Option Nat :=
  match src with
  | 0 => some (s.rf IMG_HOST_CHUNKS_COUNT * 0x100000)
  | 1 => some (s.rf IMG_NLB_BLOCKS * (if s.rb IMG_NET_LBA_4K then 4096 else 512))
  | _ => none

/-- The modules named as peers (R239). -/
def State.peerList (s : State) : List Nat :=
  (List.range (min 16 (s.rf IMG_PEERS_CNT))).map fun k => s.rf (IMG_PEER_MODULE k)

/-- The placer of a load. -/
def Load.placer (l : Load) (p : Nat) : Placer :=
  { part := l.part, copy := l.copy, org := tileIn l.reader 0 0, gridW := proGridW p, gridH := proGridH p }

/-- Records placed as far as the file has arrived: an abort code, or the load goes on. -/
def State.loadStep (s : State) (l : Load) (img : Stored) (got : Nat) : State :=
  let p := img.pro
  let avail := img.plen + min (0x100000 * got) (proTotal p - img.plen)
  let r := State.placeAvail (l.placer p) img avail true img.steps s l.secs l.pos l.cfg
  let l1 := { l with got := got, tries := 0, conns := 0, secs := r.2.1, pos := r.2.2.1, cfg := r.2.2.2.1
                     placed := decide (proShards p ≤ got) && r.2.1.isEmpty }
  let s1 := r.1.updKeeper fun x => { x with load := some l1 }
  if r.2.2.2.2 ≠ 0 then s1.imgAbort r.2.2.2.2 else s1.fetchShard l p got

/-- An accepted prologue: the copy goes to LOADING, a cold load clears the partition, the prologue goes into the slot and
to the peers that have started. -/
def State.imgStart (s : State) (l : Load) (p len : Nat) (started : List Nat) : State :=
  let n := l.part
  let img : Stored := { plen := proLen p, pro := p % 2 ^ (8 * len), blocks := imageBlocks (proTotal p) }
  let peers := s.peerList
  let live := peers.filter started.contains
  let l1 := { l with placing := true, conns := 0, secs := fileOrder p, pos := 0, prev := s.copies n }
  let s1 := (s.updChest fun x => { x with imgs := sins x.imgs l.slot img }).updKeeper fun x =>
    { x with load := some l1, peers := x.peers ++ live.map (·, l.slot), peerSlot := l.slot }
  let s2 := s1.wfs [(IMG_STATUS_STATE, 2), (IMG_PROGRESS_DONE, 0), (IMG_PROGRESS_TOTAL, proShards p), (IMG_PEERS_PEERS_DONE, 0),
    (IMG_PEERS_PEERS_FAILED, peers.length - live.length), (IMG_PLACEMENT_ID, proPlacement p), (IMG_WEIGHTS_ID, proWeights p)]
  let s3 := live.foldl (fun s m => s.emit (.peerPrologue m)) s2
  ((if l.warm then s3.wf (copyStateK n l.copy) 1
    else ((s3.wfs [(IMG_PCOPY_A_STATE n, 1), (IMG_PCOPY_B_STATE n, 0), (IMG_PCOPY_B_SLOT n, 0)]).setCold n none).clearForLoad n).freeSlots).loadStep
    l1 img 0

/-- IMG_PROLOGUE_CHECKED: the prologue `p`, `len` bytes, has been read; `started` are the peers that have started a load
from this module (R230, R239) (R240). -/
def execImgPrologueChecked (p len : Nat) (started : List Nat) (s : State) : Host.Outcome State Fault Refusal :=
  .next (match s.keeper.load with
    | none => s
    | some l =>
      if l.placing then s
      else
        let s1 := s.wfs [(IMG_IMAGE_INFO_DEVICE, proDevice p), (IMG_IMAGE_INFO_VERSION, proVersion p)]
        match s1.imageCheck l p (s.srcHolds l.src) with
        | 0 =>
          if s1.imageFree < imageBlocks (proTotal p) then s1.imgRefuse 19
          else s1.imgStart l p (min len (proLen p)) started
        | c => s1.imgRefuse c)

/-- A failed fetch or a failed check of the next shard (R236, R239). -/
def State.shardBad (s : State) (l : Load) : State :=
  if l.tries < s.rf IMG_CTRL_SHARD_RETRY then
    let s1 := (s.bump IMG_RETRIES_COUNT).updKeeper fun x => { x with load := some { l with tries := l.tries + 1 } }
    if l.src = 2 then s1.emit (.resendAsk (s.rf IMG_SPAN_FROM_MODULE) l.got)
    else s1.fetchShard l (sget {} s.chest.imgs l.slot).pro l.got
  else (s.wf IMG_STATUS_SHARD l.got).imgAbort 11

/-- A plain that the load needs is paused: it waits (R236, R241). -/
def State.loadHeld (s : State) (l : Load) : Bool := (l.reader :: s.plainsOf l.part).any fun p => s.plnState p == 1

/-- The plains that a load needs are full-fenced: the code that ends it (R241). -/
def State.loadFenced (s : State) (l : Load) : Option Nat :=
  if s.plnLevel l.reader = 3 then some 15
  else if (s.plainsOf l.part).any fun p => s.plnLevel p == 3 then some 14
  else none

/-- The receivers of the load that runs. -/
def State.loadPeers (s : State) : List Nat := (s.keeper.peers.filter fun q => q.2 == s.keeper.peerSlot).map (·.1)

/-- IMG_SHARD_ARRIVE: shard `i`, `len` bytes of `data`, `ok` unless the fetch failed; `stored` unless the image store
failed to program it (R229, R236, R237). Shards are taken in index order. -/
def execImgShardArrive (i data len : Nat) (ok stored : Bool) (s : State) : Host.Outcome State Fault Refusal :=
  .next (match s.keeper.load with
    | none => s
    | some l =>
      let img := sget {} s.chest.imgs l.slot
      let p := img.pro
      if !l.placing ∨ i ≠ l.got ∨ proShards p ≤ i ∨ s.loadHeld l then s
      else match s.loadFenced l with
        | some c => s.imgAbort c
        | none =>
          let good := ok && len == shardLen p i && crc32c (bytesOf data len) == shardCrc p i &&
            (!proSigned p || Config.sha384 len (data % 2 ^ (8 * len)) == shardDigest p i)
          if !good then s.shardBad l
          else if !stored then (s.raise 0x6001 pgCHST).imgAbort 16
          else
            let img' : Stored := { img with shards := sins img.shards i (data % 2 ^ (8 * len)) }
            let s1 := ((s.updChest fun x => { x with imgs := sins x.imgs l.slot img' }).bump IMG_PROGRESS_DONE)
            let s2 := s1.loadPeers.foldl (fun s m => s.emit (.peerShard m i)) s1
            s2.loadStep l img' (i + 1))

/-- NVME_READ_TIMEOUT: a Read of the next shard has not completed in 2 s (R234). -/
def execNvmeReadTimeout (i : Nat) (s : State) : Host.Outcome State Fault Refusal :=
  .next (match s.keeper.load with
    | some l => if l.placing ∧ l.src = 1 ∧ i = l.got ∧ i < proShards (sget {} s.chest.imgs l.slot).pro then s.shardBad l else s
    | none => s)

/-- NVME_CONNECT_FAIL: R234. -/
def execNvmeConnectFail (s : State) : Host.Outcome State Fault Refusal :=
  .next (match s.keeper.load with
    | some l =>
      if l.src ≠ 1 then s
      else if l.conns < 2 then
        (s.updKeeper fun x => { x with load := some { l with conns := l.conns + 1 } }).emit (.nvmeConnect s.nvmeTarget)
      else s.imgAbort 18
    | none => s)

/-- The steps after the last record and the epoch ticks: the PART_CFG pages, copy A live (R231, steps 4 and 5). [entry 93 DEDUCED] -/
def State.coldDone (s : State) (l : Load) : State :=
  let n := l.part
  (((s.applyCfg n l.cfg).setSel n 0).wfs [(IMG_PCOPY_A_STATE n, 3), (IMG_PCOPY_A_SLOT n, l.slot)]).setCold n (some l.slot)

/-- Every plain of the partition that runs has made bank 0 live at its epoch tick (R231, step 3). -/
def State.allZeroed (s : State) (l : Load) : Bool :=
  l.warm || (s.plainsOf l.part).all fun p => l.zeroed.contains p || s.plnState p == 4

/-- IMG_LOAD_DONE: every record is placed, the slot is complete, and for a cold load every plain has made bank 0 live (R231,
R237). Where an aborted cold load left a reload, the reload is over (R241). -/
def execImgLoadDone (s : State) : Host.Outcome State Fault Refusal :=
  .next (match s.keeper.load with
    | none => s.finishReloads
    | some l =>
      let img := sget {} s.chest.imgs l.slot
      if !l.placing ∨ !l.placed ∨ !s.allZeroed l ∨ s.loadHeld l then s
      else match s.loadFenced l with
        | some c => s.imgAbort c
        | none =>
          let s1 := s.updChest fun x => { x with imgs := sins x.imgs l.slot { img with complete := true } }
          let s2 := if l.warm then s1.wfs [(copyStateK l.part l.copy, 2), (copySlotK l.part l.copy, l.slot)] else s1.coldDone l
          let s3 := s2.setMeas fun x =>
            { x with load := none
                     coldPro := if l.warm then x.coldPro else sins x.coldPro l.part (img.plen + 2 ^ 32 * img.pro)
                     copyPro := sins x.copyPro (2 * l.part + l.copy) (img.plen + 2 ^ 32 * img.pro) }
          (((s3.wfs [(IMG_STATUS_STATE, 3), (IMG_STATUS_RESULT, 0)]).freeSlots).loadReport l true).irqPage pgIMG)

/-- The slot that serves a receiver which has yet to report. -/
def State.peerOf (s : State) (m : Nat) : Option Nat := (s.keeper.peers.find? (·.1 == m)).map (·.2)

/-- IMG_RESEND_REQUEST: receiver `m` asks for shard `i` again (R239). -/
def execImgResendRequest (m i : Nat) (s : State) : Host.Outcome State Fault Refusal :=
  .next (match s.peerOf m with
    | none => s
    | some k =>
      let key := (k * 2 ^ 32 + m) * 2 ^ 32 + i
      if (sget? (sget {} s.chest.imgs k).shards i).isSome ∧ sget 0 s.keeper.resends key < s.rf IMG_CTRL_SHARD_RETRY then
        ((s.updKeeper fun x => { x with resends := sins x.resends key (sget 0 x.resends key + 1) }).bump IMG_RETRIES_COUNT).emit
          (.peerShard m i)
      else s)

/-- IMG_PEER_REPORT: receiver `m` reports the outcome of its load (R239); the counts are those of the last load. A slot whose
receivers have all reported needs its resend counts no more. [entry 151 DESIGN CHOICE] -/
def execImgPeerReport (m : Nat) (ok : Bool) (s : State) : Host.Outcome State Fault Refusal :=
  .next (match s.peerOf m with
    | none => s
    | some k =>
      let left := s.keeper.peers.erase (m, k)
      let s1 := s.updKeeper fun x => { x with
        peers := left
        resends := if left.any (·.2 == k) then x.resends else x.resends.filter fun (e : Nat × Nat) => e.1 / 2 ^ 64 != k }
      (if k ≠ s.keeper.peerSlot then s1
       else if ok then s1.bump IMG_PEERS_PEERS_DONE else s1.bump IMG_PEERS_PEERS_FAILED).freeSlots)

end Sys2Proof.Machine
end

