-- ==== Sys2Proof/Machine/Streams.lean ====
section
/-! DEFINITION. The stream engines: items, transfers, rings, halts (08 R184 to R199). -/

namespace Sys2Proof.Machine

/-- A stream halts on an edge page (R194): position kept, HALT_VA, HALTED_PAGE; a record is to be posted. -/
def State.streamHalt (s : State) (t d va reason : Nat) (write : Bool) : State :=
  let n := s.xpart t
  let s1 := (s.markSlowed [n]).wfs [(TILE_STREAM_STATE_STATE t d, 3), (TILE_STREAM_STATE_REASON t d, reason), (TILE_HALT_VA_VA t d, va)]
  (((s1.sat (PSTR_HALTED_COUNT n)).bump (PSTR_HALTS_COUNT n)).watchSync n).setStream t d
      { (s.tile t).stream d with
        postWait := true, postFull := false, recheck := false, haltWrite := write, haltAt := s.time, haltTimed := false }

/-- STREAM_RANGE takes the stream to FAULTED once the items before have been delivered; until then it issues nothing
(R199). -/
def State.streamRange (s : State) (t d : Nat) : State :=
  if ((s.tile t).stream d).xfers.isEmpty then (s.wf (TILE_STREAM_STATE_STATE t d) 5).raiseTile t 0x1014 else s

/-- What a read of a list, or the translation of a transfer, answers: the memory key, or a state in which the stream halts or
waits. -/
inductive Reach
  | at_ (key : Nat) (s : State)
  | halted (s : State)

/-- The memory key of a byte of a handle; an edge page that is not there halts the stream (R193, R194). -/
def State.streamReach (s : State) (t d : Nat) (h : Handle) (off : Nat) (write : Bool) : Reach :=
  if h.place = 3 then
    match s.translate (s.xpart t) (h.base + off) with
    | (.hit pa, s1) => .at_ (ekey pa) s1
    | (.nonresident, s1) => .halted (s1.streamHalt t d (h.base + off) 0 write)
    | (_, s1) => .halted (s1.streamHalt t d (h.base + off) 1 write)
  else .at_ (tkey t (h.base + off)) s

/-- The same for `n` bytes of a list, which a row operation holds back (R140). -/
def State.listReach (s : State) (t d off n : Nat) : Reach :=
  let h := ((s.tile t).stream d).listH
  if h.place ≠ 3 ∧ (s.tile t).benchHeld (h.base + off) n then .halted s else s.streamReach t d h off false

/-- `n` bytes with words that cannot be corrected as zero (R198). -/
def State.zeroBad (s : State) (k n : Nat) : Nat :=
  ((List.range n).map fun i =>
    if (sget? s.eccBad ((k + i) / 8)).isSome then 0 else s.rdMem (k + i) 1 * 2 ^ (8 * i)).sum

/-- The bytes of a range at which words that cannot be corrected start, counted from its first byte. -/
def State.badOffs (s : State) (k n : Nat) : List Nat :=
  ((wordsOf k n).filter fun w => (sget? s.eccBad w).isSome).map fun w => 8 * w - k

/-- Bytes read by a stream engine from tile memory: words that cannot be corrected are delivered as zero, which raises
STREAM_POISON (R198). -/
def State.engineRead (s : State) (t key n : Nat) (e : Ecc) : Nat × State :=
  let a := key - t * 2 ^ 32
  let s1 := (s.noteEcc key n e).openRowOf t a
  let o := s1.eccOf key n e
  let s2 := s1.raiseEcc t a n o
  (s1.zeroBad key n, if o = .bad then s2.raiseTile t 0x1013 else s2)

/-- A list, or a part of it, as the engine reads it; the read of a list in edge memory acts at once. [entries 35 DEDUCED, 147
DESIGN CHOICE] -/
def State.listRead (s : State) (t key n : Nat) (e : Ecc) : Nat × State :=
  if 2 ^ 60 ≤ key then
    let r := s.edgeRead (key - 2 ^ 60) n e
    if r.2.2 then (0, r.2.1.raiseTile t 0x1012) else (r.1, r.2.1)
  else s.engineRead t key n e

/-- The current item becomes known: its byte offset in DATA_H and its length in units. -/
def State.setItem (s : State) (t d off units : Nat) : State :=
  s.setStream t d { (s.tile t).stream d with curOff := off, curUnits := units, curKnown := true, curDone := 0 }

/-- The list entry of a BLOCK item (Table ST-2, R186). -/
def State.blockItem (s : State) (t d : Nat) (e : Ecc) : State :=
  let x := (s.tile t).stream d
  let o := 8 * s.rf (TILE_POS_ITEM t d)
  if x.listH.len < o + 8 then s.streamRange t d
  else match s.listReach t d o 8 with
    | .halted s1 => s1
    | .at_ key s1 =>
      let r := s1.listRead t key 8 e
      let off := bits r.1 0 40; let units := bits r.1 40 16
      let start := s.rf (TILE_BASE_BASE t d) + off
      if off % 64 != 0 || units == 0 || bits r.1 56 8 != 0 || decide (x.dataH.len < start + 64 * units) then
        r.2.streamRange t d
      else r.2.setItem t d start units

/-- Indices of the list of an INDEX stream, 16 to each 64 B (R187). -/
def State.indexFill (s : State) (t d : Nat) (e : Ecc) : State :=
  let x := (s.tile t).stream d
  let o := 64 * x.taken
  if x.listH.len < o + 4 then s.streamRange t d
  else
    let n := min 16 ((x.listH.len - o) / 4)
    match s.listReach t d o (4 * n) with
    | .halted s1 => s1
    | .at_ key s1 =>
      let r := s1.listRead t key (4 * n) e
      r.2.setStream t d { (r.2.tile t).stream d with
        idx := (List.range n).map fun i => bits r.1 (32 * i) 32, taken := x.taken + 1 }

/-- The item of the next index that is no padding (R187). [entry 35 DEDUCED] -/
def State.indexItem (s : State) (t d : Nat) (e : Ecc) : State :=
  let x := (s.tile t).stream d
  match x.idx.dropWhile (· == 0xFFFFFFFF) with
  | [] =>
    let s1 := s.setStream t d { x with idx := [] }
    if s.rb (TILE_CFG_IDX_SRC t d) then s1 else s1.indexFill t d e
  | v :: rest =>
    let start := s.rf (TILE_BASE_BASE t d) + v * s.rf (TILE_BASE_STRIDE t d) * 64
    let units := s.rf (TILE_COUNT_ELEM t d)
    if x.dataH.len < start + 64 * units then (s.setStream t d { x with idx := v :: rest }).streamRange t d
    else (s.setStream t d { x with idx := rest }).setItem t d start units

/-- Bytes that outstanding transfers have yet to place. -/
def Stream.reserved (x : Stream) : Nat := (x.xfers.map (·.len)).sum

/-- Bytes of a slot; 0 where the ring has none. -/
def State.slotBytes (s : State) (t d : Nat) : Nat := 64 * s.rf (TILE_RINGCFG_SLOT_UNITS t d)

/-- The destination has room, or the source has entries, for a transfer of `u` bytes (R189 to R191). -/
def State.xferRoom (s : State) (t d u : Nat) : Bool :=
  let x := (s.tile t).stream d
  if s.rb (TILE_CFG_DIR t d) then decide (u ≤ x.part.1 + 64 * ((s.tile t).outQ (s.rf (TILE_CFG_QD t d))).length)
  else if s.rb (TILE_CFG_RING t d) then
    decide (0 < s.slotBytes t d) &&
      decide ((x.next + u - 1) / s.slotBytes t d < x.returned + s.rf (TILE_RINGCFG_SLOTS t d))
  else decide (ceilDiv (x.part.1 + x.reserved + u) 64 ≤ s.inRoom t (s.rf (TILE_CFG_QD t d)))

/-- Entries as one number, the first in the low bytes. -/
def joinEntries (l : List Entry) : Nat := ((List.range l.length).map fun i => (l.getD i 0).toNat * 2 ^ (512 * i)).sum

/-- The bytes of the next transfer of a WRITE stream: those left of the entry popped last, and the entries popped for them
(R191). The data, the entries popped, what is left. -/
def State.writeData (s : State) (t d u : Nat) : Nat × Nat × (Nat × Nat) :=
  let x := (s.tile t).stream d
  let n := ceilDiv (u - x.part.1) 64
  let v := x.part.2 + joinEntries (((s.tile t).outQ (s.rf (TILE_CFG_QD t d))).take n) * 2 ^ (8 * x.part.1)
  (v % 2 ^ (8 * u), n, (x.part.1 + 64 * n - u, v / 2 ^ (8 * u)))

/-- The packet of a transfer to or from edge memory: ORD = 0, at the translation made (R193). -/
def State.xferPacket (s : State) (t d va : Nat) (y : Xfer) : Packet :=
  { s.corePacket t (2 ^ 62 + s.modNum * 2 ^ 52 + va) (b2n (!y.write)) y.len d y.data with
    ord := false, pa := some (y.key - 2 ^ 60), eng := some (d, y.id) }

/-- The transfer of `u` bytes at a key is issued; to edge memory a packet leaves (R193). -/
def State.xferIssue (s : State) (t d u key va : Nat) : State :=
  let x := (s.tile t).stream d
  let wr := s.rb (TILE_CFG_DIR t d)
  let item := s.rf (TILE_POS_ITEM t d)
  let done := x.curDone + u
  let fin := decide (64 * x.curUnits ≤ done)
  let w := s.writeData t d u
  let y : Xfer := { id := s.xferSeq + 1, key := key, len := u, write := wr, data := if wr then w.1 else 0, pos := x.next
                    last := fin && decide (s.rf (TILE_COUNT_TOTAL t d) ≤ item + 1) }
  let s1 := if wr then s.popOut t (s.rf (TILE_CFG_QD t d)) w.2.1 else s
  let s2 := (s1.wfs [(TILE_POS_ITEM t d, if fin then item + 1 else item), (TILE_POS_UNITS_DONE t d, if fin then 0 else done / 64)]).setStream
    t d { x with xfers := x.xfers ++ [y], curKnown := !fin, curDone := done, next := x.next + u
                 part := if wr then w.2.2 else x.part }
  let s3 : State := { s2 with xferSeq := s.xferSeq + 1 }
  if 2 ^ 60 ≤ key then s3.send (s3.xferPacket t d va y) else s3

/-- The pass is over: every item issued, every transfer completed. A CYCLIC stream that has notified its slots starts
again with its handles resolved anew; any other is DONE (R184, R191, R192). -/
def State.streamEnd (s : State) (t d : Nat) : State :=
  let x := (s.tile t).stream d
  if s.streamSt t d = 1 ∧ s.rf (TILE_COUNT_TOTAL t d) ≤ s.rf (TILE_POS_ITEM t d) ∧ x.xfers.isEmpty then
    if s.rb (TILE_CFG_CYCLIC t d) then
      if s.rb (TILE_CFG_RING t d) ∧ x.notified * s.slotBytes t d < x.landed then s
      else
        let at_ := x.notified * s.slotBytes t d
        let y := { x with curKnown := false, taken := 0, next := at_, landed := at_
                          idx := if s.rb (TILE_CFG_IDX_SRC t d) then x.idx else [] }
        (s.wfs [(TILE_POS_ITEM t d, 0), (TILE_POS_UNITS_DONE t d, 0)]).setStream t d (s.streamHandles t d y)
    else s.wf (TILE_STREAM_STATE_STATE t d) 4
  else s

/-- Bytes to the next aligned XFER boundary, or to the end of the item (R188). -/
def xferLen (xf addr left : Nat) : Nat := min left (xf - addr % xf)

/-- The next transfer of the current item (R188): it never crosses an aligned XFER boundary of its memory address. -/
def State.nextTransfer (s : State) (t d : Nat) : State :=
  let x := (s.tile t).stream d
  let off := x.curOff + x.curDone
  if 64 * x.curUnits ≤ x.curDone then
    (s.wfs [(TILE_POS_ITEM t d, s.rf (TILE_POS_ITEM t d) + 1), (TILE_POS_UNITS_DONE t d, 0)]).setStream t d
      { x with curKnown := false } |>.streamEnd t d
  else
    let va := x.dataH.base + off
    let u := xferLen (s.streamXfer t d) va (64 * x.curUnits - x.curDone)
    if !s.xferRoom t d u then s
    else match s.streamReach t d x.dataH off (s.rb (TILE_CFG_DIR t d)) with
      | .halted s1 => s1
      | .at_ key s1 =>
        if s.rb (TILE_CFG_DIR t d) && x.xfers.any (fun y => rangesMeet key u y.key y.len) then s
        else s1.xferIssue t d u key va

/-- STREAM_TRANSFER_ISSUE: the stream learns its next item if it has to, and issues one transfer as far as its credits
allow (R186 to R194); `ecc` is the outcome of the read of its list, if it reads one. -/
def execStreamTransferIssue (t d : Nat) (ecc : Ecc) (at_ : Nat) (s : State) : Host.Outcome State Fault Refusal :=
  let s0 := s.at at_
  let x := (s0.tile t).stream d
  .next (if s0.streamSt t d ≠ 1 ∨ !s0.tileLive t ∨ x.notifyWait ∨
      s0.streamOut t d ≤ (x.xfers.filter fun y => !y.landed).length then s0
    else if s0.rf (TILE_COUNT_TOTAL t d) ≤ s0.rf (TILE_POS_ITEM t d) then s0.streamEnd t d
    else
      let s1 := if x.curKnown then s0
        else if s0.rf (TILE_CFG_MODE t d) = 0 then s0.blockItem t d ecc
        else s0.indexItem t d ecc
      if s1.streamSt t d = 1 ∧ ((s1.tile t).stream d).curKnown then s1.nextTransfer t d else s1)

/-- STREAM_INDEX_POP: the engine pops 16 indices from IDXQ (R187). -/
def execStreamIndexPop (t d : Nat) (s : State) : Host.Outcome State Fault Refusal :=
  let q := s.rf (TILE_CFG_IDXQ t d)
  .next (if s.streamSt t d = 1 ∧ s.tileLive t ∧ s.rf (TILE_CFG_MODE t d) = 1 ∧ s.rb (TILE_CFG_IDX_SRC t d) ∧
      ((s.tile t).stream d).idx.isEmpty then
    match s.headIn t q with
    | some e =>
      let x := (s.tile t).stream d
      (s.popIn t q).setStream t d { x with idx := (List.range 16).map fun i => bits e.toNat (32 * i) 32 }
    | none => s
  else s)

/-- The memory side of a transfer to or from the tile's own memory: the data of a READ, the bytes at which words delivered as
zero start, the state. -/
def State.xferPerform (s : State) (t : Nat) (y : Xfer) (e : Ecc) : Nat × List Nat × State :=
  if y.write then (0, [], s.tileStore t (y.key - t * 2 ^ 32) y.len y.data .clean)
  else
    let r := s.engineRead t y.key y.len e
    (r.1, (r.2.badOffs y.key y.len).map (y.pos + ·), r.2)

/-- The bytes of a transfer land in the slots of a ring of `n` bytes, which they may wrap around (R190). -/
def State.ringStore (s : State) (t : Nat) (h : Handle) (n pos len v : Nat) : State :=
  if n = 0 then s
  else
    let o := pos % n
    let l := min len (n - o)
    let s1 := s.wrMem (tkey t (h.base + o)) l (v % 2 ^ (8 * l))
    if l < len then s1.wrMem (tkey t h.base) (len - l) (v / 2 ^ (8 * l)) else s1

/-- A row operation holds the ring where a transfer is to land (R140). -/
def State.ringHeld (s : State) (t d : Nat) (y : Xfer) : Bool :=
  let h := ((s.tile t).stream d).ringH
  let n := s.slotBytes t d * s.rf (TILE_RINGCFG_SLOTS t d)
  s.rb (TILE_CFG_RING t d) && !y.write && decide (0 < n) &&
    (let o := y.pos % n
     let l := min y.len (n - o)
     (s.tile t).benchHeld (h.base + o) l || (decide (l < y.len) && (s.tile t).benchHeld h.base (y.len - l)))

/-- Transfers that have landed leave in order; the entries of a READ become visible, each once all its bytes have landed
(R189). -/
def State.streamRelease (s : State) (t d : Nat) : Nat → State
  | 0 => s
  | fuel + 1 =>
    let x := (s.tile t).stream d
    match x.xfers with
    | [] => s
    | y :: rest =>
      if !y.landed then s
      else
        let s1 := s.setStream t d { x with xfers := rest, landed := x.landed + y.len, poisonAt := x.poisonAt ++ y.poison }
        let s2 := if y.write || s.rb (TILE_CFG_RING t d) then s1
          else
            let n := x.part.1 + y.len
            let v := x.part.2 + y.data * 2 ^ (8 * x.part.1)
            (List.range (n / 64)).foldl (fun s i =>
                s.pushIn t (s.rf (TILE_CFG_QD t d)) { data := BitVec.ofNat 512 (v / 2 ^ (512 * i)) })
              (s1.setStream t d { (s1.tile t).stream d with part := (n % 64, v / 2 ^ (512 * (n / 64))) })
        s2.streamRelease t d fuel

/-- The `i`-th outstanding transfer lands: one of edge memory once its packet has been answered or taken (R193), one of the
tile's own memory once no row operation holds it (R140). -/
def State.xferReady (s : State) (t d : Nat) (y : Xfer) : Bool :=
  !y.landed && s.tileOn t && !s.ringHeld t d y &&
    (if 2 ^ 60 ≤ y.key then y.came else !(s.tile t).benchHeld (y.key - t * 2 ^ 32) y.len)

/-- STREAM_TRANSFER_COMPLETE: the `i`-th outstanding transfer lands (R189 to R191, R193, R198). -/
def execStreamTransferComplete (t d i : Nat) (ecc : Ecc) (s : State) : Host.Outcome State Fault Refusal :=
  let x := (s.tile t).stream d
  .next (match x.xfers[i]? with
    | none => s
    | some y =>
      if !s.xferReady t d y then s
      else
        let r := if 2 ^ 60 ≤ y.key then (y.data, y.poison, s) else s.xferPerform t y ecc
        let s1 := r.2.2
        let s2 := if s.rb (TILE_CFG_RING t d) && !y.write then
            s1.ringStore t x.ringH (s.slotBytes t d * s.rf (TILE_RINGCFG_SLOTS t d)) y.pos y.len r.1
          else s1
        let x' := (s2.tile t).stream d
        let s3 := s2.setStream t d { x' with
          xfers := modifyAt x'.xfers i fun y => { y with landed := true, data := r.1, poison := r.2.1 } }
        ((s3.streamRelease t d x'.xfers.length).streamSettle t d).streamEnd t d)

/-- The notify entry of the next slot (Table ST-3). [entry 36 DEDUCED] -/
def State.notifyEntry (s : State) (t d : Nat) : Entry :=
  let x := (s.tile t).stream d
  let su := s.slotBytes t d
  let from_ := x.notified * su
  let valid := min su (x.landed - from_)
  let done := decide (s.rf (TILE_COUNT_TOTAL t d) ≤ s.rf (TILE_POS_ITEM t d)) && x.xfers.isEmpty &&
    decide (x.landed ≤ from_ + su)
  let poison := x.poisonAt.any fun u => decide (from_ ≤ u) && decide (u < from_ + su)
  BitVec.ofNat 512 (x.notified % max 1 (s.rf (TILE_RINGCFG_SLOTS t d)) + valid * 2 ^ 32 +
    (x.notified + 1) % 2 ^ 32 * 2 ^ 64 + (b2n done + 2 * b2n poison) * 2 ^ 96)

/-- STREAM_RING_NOTIFY: a slot that is full, or in which the last item ended, is notified in slot order; a full NQ holds
the stream back (R190). -/
def execStreamRingNotify (t d : Nat) (s : State) : Host.Outcome State Fault Refusal :=
  let x := (s.tile t).stream d
  let su := s.slotBytes t d
  let done := decide (s.rf (TILE_COUNT_TOTAL t d) ≤ s.rf (TILE_POS_ITEM t d)) && x.xfers.isEmpty
  let due := decide (0 < su) && (decide ((x.notified + 1) * su ≤ x.landed) ||
    (done && decide (x.notified * su < x.landed)))
  let nq := s.rf (TILE_CFG_NQ t d)
  .next (if !s.rb (TILE_CFG_RING t d) || !due || !s.tileLive t || s.streamSt t d == 0 then s
    else if !s.roomIn t nq 1 then s.setStream t d { x with notifyWait := true }
    else
      let s1 := s.setStream t d { x with
        notified := x.notified + 1, notifyWait := false, poisonAt := x.poisonAt.filter fun u => decide ((x.notified + 1) * su ≤ u) }
      (s1.pushIn t nq { data := s.notifyEntry t d }).streamEnd t d)

/-- STREAM_RING_CREDIT: an entry of RQ returns the oldest notified slot (R190). -/
def execStreamRingCredit (t d : Nat) (s : State) : Host.Outcome State Fault Refusal :=
  let x := (s.tile t).stream d
  let rq := s.rf (TILE_CFG_RQ t d)
  .next (if s.rb (TILE_CFG_RING t d) ∧ s.tileLive t ∧ x.returned < x.notified ∧ !((s.tile t).outQ rq).isEmpty then
    (s.popOut t rq 1).setStream t d { x with returned := x.returned + 1 }
  else s)

/-! ### Halts (R195 to R197) -/

/-- STREAM_HALT_POST: the record goes to PSTR, joins one for the same page, or waits (R195). -/
def execStreamHaltPost (t d at_ : Nat) (s : State) : Host.Outcome State Fault Refusal :=
  let s0 := s.at at_
  let x := (s0.tile t).stream d
  let n := s0.xpart t
  let vpn := s0.rf (TILE_HALT_VA_VA t d) / 2 ^ 21
  let hs := (s0.part n).halts
  let ok := fun (s : State) (hs : List Halt) =>
    (s.updPart n fun p => { p with halts := hs }).setStream t d { x with postWait := false, postFull := false, recheck := true }
  .next (if s0.streamSt t d ≠ 3 ∨ !x.postWait then s0
    else if x.postFull ∧ 64 ≤ hs.length then s0
    else if hs.any (·.vpn == vpn) then
      ok s0 (hs.map fun h => if h.vpn = vpn then { h with waiters := min 65535 (h.waiters + 1) } else h)
    else if 128 ≤ hs.length then (s0.wf (PSTR_STATUS_OVERFLOW n) 1).setStream t d { x with postFull := true }
    else
      let h : Halt := { vpn := vpn, reason := s0.rf (TILE_STREAM_STATE_REASON t d), write := x.haltWrite, tile := t, sd := d }
      let s1 := ok s0 (hs ++ [h])
      if hs.isEmpty then s1.irqPart n 22 else s1)

/-- The oldest halt record leaves PSTR (Table ST-8). [entry 37 DEDUCED] -/
def State.haltPop (s : State) (n : Nat) : State := s.updPart n fun p => { p with halts := p.halts.tail }

/-- HALT_POP: a read returns the oldest record and removes it (R195). -/
def execHaltPop (f n : Nat) (s : State) : Host.Outcome State Fault Refusal :=
  .next (if s.reaches f n && s.pageReady (partPage n 6) then
    (s.emit (.rdata (s.regWord (partPage n 6 + 0x110)))).haltPop n
  else if s.reaches f n then s.emit (.rdata 0) else s)

/-- A write to PSTR.RESUME (R196). -/
def State.pstrResume (s : State) (n v : Nat) : State :=
  if v.testBit 20 then s.recheck n fun _ => true else s.recheck n (· == bits v 0 19)

/-- PSTR_RESUME. -/
def execPstrResume (f n : Nat) (v : BitVec 64) (at_ : Nat) (s : State) : Host.Outcome State Fault Refusal :=
  let s0 := s.at at_
  .next (if s0.writes f n && s0.pageReady (partPage n 6) then s0.pstrResume n v.toNat else s0)

/-- STREAM_RESUME: the check of R196 finds the page there, or the stream posts again. -/
def execStreamResume (t d at_ : Nat) (s : State) : Host.Outcome State Fault Refusal :=
  let s0 := s.at at_
  let x := (s0.tile t).stream d
  let n := s0.xpart t
  .next (if s0.streamSt t d ≠ 3 ∨ !x.recheck then s0
    else match s0.xlate n (s0.rf (TILE_HALT_VA_VA t d)) with
      | .hit _ =>
        (((s0.haltEnd t d).wf (TILE_STREAM_STATE_STATE t d) 1).bump (PSTR_RESUMES_COUNT n)).setStream t d
          { x with recheck := false, postWait := false, postFull := false }
      | _ => s0.setStream t d { x with recheck := false, postWait := true })

/-- STREAM_HALT_TIMEOUT: halted for longer than HALT_LIMIT (R197). -/
def execStreamHaltTimeout (t d at_ : Nat) (s : State) : Host.Outcome State Fault Refusal :=
  let s0 := s.at at_
  let x := (s0.tile t).stream d
  let n := s0.xpart t
  let limit := s0.rf (PSTR_HALT_LIMIT_MICROSECONDS n)
  .next (if s0.streamSt t d = 3 ∧ limit ≠ 0 ∧ !x.haltTimed ∧ x.haltAt + limit * 1000 < s0.time then
    (s0.setStream t d { x with haltTimed := true }).raise 0xB004 (partPage n 6)
  else s0)

end Sys2Proof.Machine
end

