-- ==== Sys2Proof/Machine/Resets.lean ====
section
/-! DEFINITION. Tile and plain resets, and what a partition reset does to a tile (17 R353 to R356, R402). -/

namespace Sys2Proof.Machine

/-- Traffic that has reached a tile and waits for a queue there is dropped (R402). -/
def State.dropInbound (s : State) (t : Nat) : State :=
  { s with
    net := s.net.filter fun k => !(k.loc == .tile t && gSpace k.dst == 0 && gTile k.dst == t && (k.ty == 2 || k.ty == 3))
    flits := s.flits.filter fun f => !(f.at_ == t && f.sink.isSome) }

/-- Credits on their way to a source tile are gone with its counts. -/
def State.dropCredits (s : State) (t : Nat) : State := { s with credits := s.credits.filter fun c => c.origin.src != t }

/-- The halts of a tile's streams end with them. -/
def State.dropHalts (s : State) (t : Nat) : State :=
  s.forEach (List.range 8) fun s d => if s.streamSt t d = 3 then s.haltEnd t d else s

/-- A tile reset: the tile page and the router part return to their reset values, every shelf entry becomes INVALID
with GEN advanced, the tile epoch advances; desk and bench keep their contents (R356). [entry 58 DEDUCED] -/
def State.tileReset (s : State) (t : Nat) : State :=
  let ep := s.rf (TILE_EPOCH_EPOCH t)
  let s0 := s.dropHalts t
  let x := s0.tile t
  let s1 := (s0.clearPages (tilePage t) (tilePage t + 0x1000)).wf (TILE_EPOCH_EPOCH t) ep
  let s2 := s1.setTile t { shelf := x.shelf, openRow := x.openRow, failRows := x.failRows, ceRows := x.ceRows,
                           scrubAt := x.scrubAt, refreshAt := x.refreshAt, routerBad := x.routerBad,
                           cycBase := (s.plain (plainOf t)).tileCyc }
  let s3 := s2.forEach (List.range 64) fun s h => s.shelfKill t h
  ((s3.dropInbound t).dropCredits t).epochTile t

/-- A plain reset: every tile reset, the fence level ACTIVE, the routers empty (R355). -/
def State.plainReset (s : State) (p : Nat) : State :=
  let s1 := s.forEach (tilesOf p) fun s t => (s.tileReset t).updTile t fun x => { x with routerBad := false }
  let s2 := s1.forEach (List.range 64) fun s y => s.wf (PLN_FENCED p y) 0
  let s3 := (s2.wf (PLN_STATE_STATE p) 0).wf (PLN_STATE_FENCED_TILES p) 0
  ({ s3 with flits := s3.flits.filter fun f => plainOf f.at_ != p } : State).updPlain p fun q =>
    { q with waitFence := [], detourWait := false, cleared := q.cleared.filter fun c => (q.map.logical c.1 c.2).isNone }

/-- RC fields of the pages from `a` up to `b` return to their reset values. [entry 100 DEDUCED] -/
def State.clearRc (s : State) (a b : Nat) : State :=
  { s with
    fld := s.fld.filter fun e => !(decide (a * 64 ≤ e.1) && decide (e.1 < b * 64) &&
      (fieldsAt (e.1 / 64)).any fun f => f.lo == e.1 % 64 && f.acc == .rc)
    cap := sclear s.cap (a * 64) (b * 64) }

/-- What a partition reset returns to reset values on a tile (R354). [entry 100 DEDUCED] -/
def State.partTileReset (s : State) (t : Nat) : State :=
  let s0 := s.dropHalts t
  let s1 := s0.forEach (List.range 16) fun s k =>
    s.wfs [(TILE_TASK_STATE_STATE t k, s.rf (TILE_TASK_CFG_ENABLE t k)), (TILE_TASK_STATE_WAIT_ON t k, 0),
      (TILE_TASK_STATE_PC t k, 0)]
  let s2 := s1.forEach (List.range 8) fun s k =>
    (s.wf (TILE_QCRED_CREDITS t k) (s.rf (TILE_QCRED_CREDIT_INIT t k))).wfs
      [(TILE_STREAM_STATE_STATE t k, 0), (TILE_STREAM_STATE_REASON t k, 0), (TILE_STREAM_STATE_GEN_STALE t k, 0),
       (TILE_STREAM_STATE_CFG_REFUSED t k, 0), (TILE_STREAM_STATE_HOST_REFUSED t k, 0), (TILE_POS_ITEM t k, 0),
       (TILE_POS_UNITS_DONE t k, 0), (TILE_HALT_VA_VA t k, 0)]
  let s3 := s2.clearPages (tilePage t + 0x118) (tilePage t + 0x120)
  let s4 := (s3.clearRc (tilePage t) (tilePage t + 0x1000)).updTile t fun x =>
    { x with sregs := [], vregs := [], tasks := [], acc := [], wb := [], inq := [], outq := [], spill := [], cur := none,
             mq := [], streams := [], sweep := {}
             deskWait := x.deskWait.filter fun r => decide (16 ≤ r.who)
             benchWait := x.benchWait.filter fun r => decide (16 ≤ r.who) }
  (s4.dropInbound t).dropCredits t

end Sys2Proof.Machine
end

