-- ==== Sys2Proof/Machine/Plains.lean ====
section
/-! DEFINITION. Plains: pass lanes, re-spares, retests, fences, bench row replacement (03 R69 to R84, 06 R142). -/

namespace Sys2Proof.Machine

/-! ### Lanes (R67 to R70) -/

/-- A lane as the plain on the other side of its pass names it. -/
def Lane.mirror (l : Lane) : Lane := { l with edge := (l.edge + 2) % 4, dir := 1 - l.dir }

/-- A change to what both plains of a pass hold of a lane, each under its own name. -/
def State.updLane (s : State) (p : Nat) (l : Lane) (f : Lane → Plain → Plain) : State :=
  let s1 := s.updPlain p (f l)
  match acrossEdge p l.edge with
  | some r => s1.updPlain r (f l.mirror)
  | none => s1

/-- The lane is replaced for good: it joins the map of the plain and of the plain across the pass, and waits no more. -/
def State.failLane (s : State) (p : Nat) (l : Lane) : State :=
  s.updLane p l fun l q => { q with map := { q.map with lanes := q.map.lanes ++ [l] }, lanePend := q.lanePend.erase l }

/-- Two lanes of one group. -/
def Lane.inGroup (x l : Lane) : Bool :=
  x.edge == l.edge && x.link == l.link && x.dir == l.dir && x.plane == l.plane && x.group == l.group

/-- Lanes of a group that have failed, replaced or not. -/
def Plain.groupFailed (q : Plain) (l : Lane) : Nat := ((q.map.lanes ++ q.lanePend).filter (·.inGroup l)).length

/-- Errors of a lane within the last second, with one now (R69). -/
def Plain.laneError (q : Plain) (l : Lane) (now : Nat) : Plain × Nat :=
  let old := ((q.laneErr.find? fun e => e.1 == l).map (·.2)).getD []
  let new := now :: old.filter fun a => decide (now < a + 1000000000)
  ({ q with laneErr := (l, new) :: q.laneErr.filter fun e => e.1 != l }, new.length)

/-- RIM_PASS_LOST goes to the page of the rim block that the pass serves: the edge controllers north and south, and the
block that `rim` names east and west (R70, R336). [entry 56 DEDUCED] -/
def State.rimLost (s : State) (e rim : Nat) : State :=
  if e = 0 ∨ e = 2 then s.raise 0x5003 pgEDGE
  else match pageAt rim with
    | some (.prt, _, _) => if e = 1 then s.raise 0x4007 rim else s
    | some (.tbs, _, _) => if e = 1 then s.raise 0x8006 rim else s
    | some (.spn, _, _) => if e = 3 then s.raise 0x4007 rim else s
    | some (.hst, _, _) => if e = 3 then s.raise 0x4007 rim else s
    | _ => s

/-- A link of the plain is lost: no more of its flits are looked at, on either side of its pass. -/
def Plain.loseLink (l : Lane) (q : Plain) : Plain :=
  let k := (l.edge, l.link, l.plane)
  { q with lostLinks := if q.lostLinks.contains k then q.lostLinks else k :: q.lostLinks }

/-- A link is lost (R70). [entry 56 DEDUCED] -/
def State.linkLost (s : State) (p : Nat) (l : Lane) (rim : Nat) : State :=
  let s2 := (s.updLane p l Plain.loseLink).raise 0x2002 (plainPage p 2)
  match acrossEdge p l.edge with
  | none => s2.rimLost l.edge rim
  | some r =>
    let first := max p r; let other := min p r
    if s2.plnLevel first = 3 then s2.doFence other 3 else s2.doFence first 3

/-- A lane that a replayed flit showed to differ gains an error; at LANE_ERR_LIMIT it is failed, and waits for the next tick, or,
with AUTO_LANE 0, until that is 1 or a LANE_RESPARE names it (R69, R70). [entry 134 DESIGN CHOICE] -/
def State.laneDiffers (s : State) (p rim : Nat) (l : Lane) : State :=
  let q := s.plain p
  if q.map.lanes.contains l || q.lanePend.contains l then s
  else
    let r := q.laneError l s.time
    let s1 := s.setPlain p r.1
    if r.2 < max 1 (s.rf (REPR_CTRL_LANE_ERR_LIMIT p)) then s1
    else if 4 ≤ r.1.groupFailed l then s1.linkLost p l rim
    else s1.updLane p l fun l q => { q with lanePend := q.lanePend ++ [l] }

/-- PASS_CRC_FAILURE: the flit is replayed, and `bad` are the groups and lanes in which the copies differ (R69). -/
def execPassCrcFailure (p edge link dir plane rim : Nat) (bad : List (Nat × Nat)) (at_ : Nat) (s : State) :
    Host.Outcome State Fault Refusal :=
  let s0 := s.at at_
  .next (if p < 64 ∧ edge < 4 ∧ link < 64 ∧ dir < 2 ∧ plane < 2 ∧ s0.plnState p ≠ 4 ∧
      !(s0.plain p).lostLinks.contains (edge, link, plane) then
    bad.foldl (fun s b =>
      if b.1 < 9 ∧ b.2 < 68 then
        s.laneDiffers p rim { edge := edge, link := link, dir := dir, plane := plane, group := b.1, lane := b.2 }
      else s) (s0.bump (REPR_REPLAYS p edge))
  else s0)

/-- A replaced lane is journalled and raises LANE_REPLACED. -/
def State.replaceLane (s : State) (p : Nat) (l : Lane) : State :=
  (((s.failLane p l).bump (REPR_JOURNAL_SEQ p))).raise 3 (plainPage p 2)

/-- LANE_REPLACEMENT: at the tick, failed lanes that wait get their spares, with AUTO_LANE 1 (R69). -/
def execLaneReplacement (p : Nat) (s : State) : Host.Outcome State Fault Refusal :=
  .next (if s.rb (REPR_CTRL_AUTO_LANE p) then (s.plain p).lanePend.foldl (fun s l => s.replaceLane p l) s else s)

/-- HARDWARE_FAULT_DETECT: 0 core, 1 matrix unit, 2 router, 3 stream engine (R336). -/
def execHardwareFaultDetect (t unit : Nat) (s : State) : Host.Outcome State Fault Refusal :=
  .next (if 3 < unit ∨ s.plnState (plainOf t) = 4 then s
    else
      let s1 := if unit = 2 then s.updTile t fun x => { x with routerBad := true } else s
      s1.raiseTile t (0x1020 + unit))

/-! ### The new map (R72, R73, R77) -/

/-- The first option of R72 for a fenced site: what to change and the map with it; none where only a fence is left (R63). -/
def State.repairOption (s : State) (p : Nat) (m : PMap) (c r : Nat) : Option (List RepairKind × PMap) :=
  if m.rowRetired r || m.bypassed r c then some ([], m)
  else if (m.bypOf r).length < 2 then some ([.site c r], m.addByp c r)
  else if s.rb (REPR_CTRL_AUTO_ROW_RETIRE p) && decide (m.retired.length < 2) then some ([.row r], m.addRetired r)
  else none

/-- Fenced tiles join a repair one after another; those that cannot be repaired are given back. -/
def State.repairJoin (s : State) (p : Nat) : Repair → List Nat → Repair × List Nat
  | r, [] => (r, [])
  | r, t :: ts =>
    let c := s.siteOf t
    match s.repairOption p r.newMap c.1 c.2 with
    | some o => s.repairJoin p { r with kinds := r.kinds ++ o.1, newMap := o.2, tiles := r.tiles ++ [t] } ts
    | none => let q := s.repairJoin p r ts; (q.1, t :: q.2)

/-- Used tiles of the plain with failing bench rows (R142). -/
def State.failingTiles (s : State) (p : Nat) : List Nat :=
  (s.tiles.filter fun (e : Nat × Tile) => plainOf e.1 == p && !e.2.failRows.isEmpty).map fun (e : Nat × Tile) => e.1

/-- RESPARE_MAP_COMPUTED: the Keeper computes the new map for the command given, the tiles fenced and the bench rows that
fail, and asks for the pause; a tile that no map can repair fences the plain (R72, R73, R77). -/
def execRespareMapComputed (p : Nat) (s : State) : Host.Outcome State Fault Refusal :=
  let q := s.plain p
  let r0 : Repair := q.repair.getD { newMap := q.map, back := s.plnState p }
  let rows := !(s.failingTiles p).isEmpty && !r0.kinds.contains .bench
  let fresh := decide (r0.phase = 1)
  let soon := fresh && (q.repair.isNone || !q.waitFence.isEmpty) && decide (q.resumedAt ≠ 0) &&
    decide (s.time < q.resumedAt + 10000000)
  .next (if p ≥ 64 ∨ s.frozen ∨ s.plnState p = 4 ∨ !s.rb MOD_STATUS_KEEPER_UP ∨ 5 ≤ r0.phase ∨ soon ∨
      (!(fresh && q.repair.isSome) && q.waitFence.isEmpty && !rows) then s
    else
      let r := s.repairJoin p { r0 with kinds := if rows then r0.kinds ++ [.bench] else r0.kinds } q.waitFence
      let r1 := { r.1 with phase := if fresh then 2 else if r0.phase = 4 then 3 else r0.phase }
      let s1 := s.updPlain p fun q => { q with waitFence := [], repair := if r1.kinds.isEmpty then none else some r1 }
      let s2 := if r1.kinds.isEmpty then s1 else s1.wf (PLN_STATE_REPAIR_PENDING p) 1
      r.2.foldl (fun s t => s.doFence p (if (s.tile t).routerBad then 3 else 2)) s2)

/-! ### The pause (Table RP-2) -/

def State.setRepair (s : State) (p : Nat) (r : Option Repair) : State := s.updPlain p fun q => { q with repair := r }

/-- A store or PUT that a fenced tile of the plain sent before the fence is still on its way to where it can be performed: its
router has not failed, and its target is not fenced (R74). -/
def State.putPending (s : State) (p : Nat) : Bool :=
  s.net.any fun k =>
    let t := tileAt k.srcX k.srcY
    k.ty == 0 && k.via.isNone && plainOf t == p && s.fenced t &&
      !(gSpace k.dst == 0 && gModule k.dst == s.modNum && (s.fenced (gTile k.dst) || s.plnLevel (plainOf (gTile k.dst)) == 3)) &&
      (match k.loc with
       | .tile u => s.routerLive u
       | _ => true)

/-- Matrix queues of the plain are empty but for fenced tiles, its row operations and the PUTs of fenced tiles are performed, and
no flit is in it or on a route that enters or crosses it (R74, R176). -/
def State.quiesced (s : State) (p : Nat) : Bool :=
  (s.tiles.all fun (e : Nat × Tile) => plainOf e.1 != p || ((s.fenced e.1 || e.2.mq.isEmpty) && e.2.rowOps.isEmpty)) &&
    (s.flits.all fun f => plainOf f.at_ != p && !(s.routeOf f.origin.src f.origin.srcQ).1.any fun u => plainOf u == p) &&
    !s.putPending p

/-- PLAIN_QUIESCED: the plain reads PAUSED (R76, Table RP-2 step 3). -/
def execPlainQuiesced (p at_ : Nat) (s : State) : Host.Outcome State Fault Refusal :=
  let s0 := s.at at_
  .next (match (s0.plain p).repair with
    | some r =>
      if r.phase ≠ 2 ∨ s0.frozen ∨ !s0.quiesced p ∨ s0.plnState p = 4 then s0
      else
        let s1 := (s0.markSlowed (s0.plainPart p).toList).setRepair p (some { r with phase := 3, pausedAt := s0.time, back := s0.plnState p })
        ((s1.wf (PLN_STATE_STATE p) 1).watchSyncAll).bump (PLN_PAUSE_COUNT_COUNT p)
    | none => s0)

/-- RESPARE_INTENT_PROGRAMMED: R80. -/
def execRespareIntentProgrammed (p : Nat) (s : State) : Host.Outcome State Fault Refusal :=
  .next (match (s.plain p).repair with
    | some r =>
      if r.phase ≠ 3 ∨ s.frozen then s
      else
        (s.updPlain p fun q => { q with repair := some { r with phase := 4 }, intent := some r.newMap }).wf
          (REPR_JOURNAL_INTENT_OPEN p) 1
    | none => s)

/-- Copies that each change takes: tiles from the site eastward, rows from the retired one southward. -/
def State.copiesOf (s : State) (p : Nat) : RepairKind → Nat
  | .site c r => match (s.plain p).map.logical c r with
    | some l => 64 - l.1
    | none => 0
  | .row r => match (s.plain p).map.rows.idxOf? r with
    | some j => 64 - j
    | none => 0
  | .bench => 0

/-- Copies that a repair takes in all. -/
def State.copiesIn (s : State) (p : Nat) (r : Repair) : Nat := (r.kinds.map (s.copiesOf p)).sum

/-- The fenced tiles that copy `k` of a repair moves: the last copy of a change moves the site or row it is made for. -/
def State.copyTiles (s : State) (p : Nat) (r : Repair) (k : Nat) : List Nat :=
  ((r.kinds.foldl (fun (acc : Nat × List Nat) kd =>
    let n := acc.1 + s.copiesOf p kd
    (n, if k + 1 ≠ n ∨ s.copiesOf p kd = 0 then acc.2
        else r.tiles.filter fun t => match kd with
          | .site c y => s.siteOf t == (c, y)
          | .row y => (s.siteOf t).2 == y
          | .bench => false)) (0, [])).2)

/-- The bytes of a lost range: key and length. -/
def lostSpan (l : LostRange) : Nat × Nat :=
  if l.desk then (tkey l.tile 0, 0xC000) else (rowKey l.tile l.first, (l.last + 1 - l.first) * 2048)

/-- The contents of a range that could not be read are not known. [entry 59 DESIGN CHOICE] -/
def State.loseRange (s : State) (l : LostRange) : State :=
  let k := lostSpan l
  let d := s.draw (8 * k.2)
  d.2.wrMem k.1 k.2 d.1

/-- The ranges lost of the fenced tiles that a copy moves: all of a tile whose router is the fault, else those given (R75). -/
def State.lostOf (s : State) (ts : List Nat) (given : List LostRange) : List LostRange :=
  ts.flatMap fun t =>
    if (s.tile t).routerBad then
      [{ tile := t, desk := true, first := 0, last := 0 }, { tile := t, desk := false, first := 0, last := 2047 }]
    else given.filter fun l => l.tile == t && (l.desk || (decide (l.first ≤ l.last) && decide (l.last < 2048)))

/-- RESPARE_COPY_STEP: one tile or row moves; `lost` are the ranges of the fenced tiles that cannot be read, all of one whose router
is the fault. The first copy begins only with every fenced tile of the plain in the repair, and none while a backup runs (R74, R75,
R77, R81). -/
def execRespareCopyStep (p : Nat) (lost : List LostRange) (s : State) : Host.Outcome State Fault Refusal :=
  .next (match (s.plain p).repair with
    | some r =>
      if !(r.phase = 4 ∨ r.phase = 5) ∨ s.copiesIn p r ≤ r.copies ∨ s.frozen ∨ (r.phase = 4 ∧ !(s.plain p).waitFence.isEmpty) then s
      else
        let ls := s.lostOf (s.copyTiles p r r.copies) lost
        (ls.foldl State.loseRange s).setRepair p (some { r with phase := 5, copies := r.copies + 1, lost := r.lost ++ ls })
    | none => s)

/-- A lost range that no image refills: REPR.LOST, and TILE_LOST (R75, R142). [entry 59 DESIGN CHOICE] -/
def State.recordLost (s : State) (p : Nat) (l : LostRange) : State :=
  let s1 := if s.rb (REPR_LOST_VALID p) then s.sat (REPR_LOST_MORE p)
    else s.wfs [(REPR_LOST_X p, localX l.tile), (REPR_LOST_Y p, localY l.tile), (REPR_LOST_DESK p, b2n l.desk),
      (REPR_LOST_FIRST_ROW p, if l.desk then 0 else l.first), (REPR_LOST_LAST_ROW p, if l.desk then 0 else l.last),
      (REPR_LOST_MORE p, 0), (REPR_LOST_VALID p, 1)]
  s1.raise 0x1016 (plainPage p 2)

/-- A repaired tile returns to service: its fence ends, its firings and its matrix queue are dropped, its tasks restart at
their entry points (R74). [entry 58 DEDUCED] -/
def State.restartTile (s : State) (t : Nat) : State :=
  let p := plainOf t
  let k := PLN_FENCED p (localY t)
  let s1 := if s.fenced t then
      (s.wf k (s.rf k &&& (2 ^ localX t ^^^ (2 ^ 64 - 1)))).wf (PLN_STATE_FENCED_TILES p) (s.rf (PLN_STATE_FENCED_TILES p) - 1)
    else s
  let s2 := s1.forEach (List.range 16) fun s j =>
    (s.wfs [(TILE_TASK_STATE_STATE t j, s.rf (TILE_TASK_CFG_ENABLE t j)), (TILE_TASK_STATE_WAIT_ON t j, 0)]).updTile t
      fun x => x.setTask j { x.task j with mid := false, disablePending := false, reenable := false }
  s2.updTile t fun x => { x with cur := none, mq := [], routerBad := false, failRows := [], ceRows := [] }

/-- The bank that is live on the rest of the mesh of the plain's partition, as a plain shows whose ticks go on (R78). With no such plain
the spec names none: the model takes the bank that waits in SEL, else the plain's own. [entry 135 DESIGN CHOICE] -/
def State.meshBank (s : State) (p : Nat) : Nat :=
  match (s.plainPart p).bind fun n => (s.plainsOf n).find? fun r => r != p && (s.plnState r == 0 || s.plnState r == 2) with
  | some r => s.rf (MESH_BANK_LIVE r)
  | none => if (s.plain p).bankPend then s.rf (MESH_BANK_SEL p) else s.rf (MESH_BANK_LIVE p)

/-- The plain leaves PAUSED with its new map. -/
def State.plainResume (s : State) (p : Nat) (r : Repair) : State :=
  let us := (s.time - r.pausedAt) / 1000
  let bank := s.meshBank p
  let moved := (s.tiles.map fun (e : Nat × Tile) => e.1).filter fun t =>
    plainOf t == p && r.newMap.site (localX t) (localY t) != s.siteOf t
  let s0 := moved.foldl (fun s t => s.updTile t fun x => { x with failRows := [], ceRows := [] }) s
  let s1 := s0.updPlain p fun q =>
    { q with map := { r.newMap with lanes := q.map.lanes }, resumedAt := s.time, bankPend := false
             prevBank := if bank = s.rf (MESH_BANK_LIVE p) then q.prevBank else s.rf (MESH_BANK_LIVE p)
             repair := some { r with phase := 7 } }
  let s2 := s1.wfs [(PLN_STATE_STATE p, r.back), (PLN_STATE_REPAIR_PENDING p, 0), (MESH_BANK_LIVE p, bank),
    (PLN_PAUSE_TIME_LAST_US p, us), (PLN_PAUSE_TIME_MAX_US p, max us (s.rf (PLN_PAUSE_TIME_MAX_US p)))]
  let s3 := r.tiles.foldl State.restartTile (s2.watchSyncAll.rephase p)
  let s4 := if r.reset then (s3.usedTiles.filter fun t => plainOf t == p).foldl State.partTileReset s3 else s3
  (s4.usedTiles.filter fun t => plainOf t == p).foldl State.promote s4

/-- PLAIN_RESUME: R76, R78. -/
def execPlainResume (p at_ : Nat) (s : State) : Host.Outcome State Fault Refusal :=
  let s0 := s.at at_
  .next (match (s0.plain p).repair with
    | some r => if r.phase = 6 ∧ !s0.frozen then s0.plainResume p r else s0
    | none => s0)

/-- RESPARE_COMMIT_PROGRAMMED: R80. -/
def execRespareCommitProgrammed (p : Nat) (s : State) : Host.Outcome State Fault Refusal :=
  .next (match (s.plain p).repair with
    | some r =>
      if r.phase ≠ 7 ∨ s.frozen then s
      else
        ((s.updPlain p fun q => { q with repair := none, intent := none }).bump (REPR_JOURNAL_SEQ p)).wfs
          [(REPR_JOURNAL_INTENT_OPEN p, 0), (REPR_CMD_STATUS_BUSY p, 0)]
    | none => s)

/-! ### Bench rows (R142) -/

/-- Redundant rows of the subarray in use at the site of a tile. -/
def State.redundantUsed (s : State) (t row : Nat) : Nat × Nat :=
  let c := s.siteOf t
  let key := (c.2 * 66 + c.1) * 8 + row / 256
  (key, sget 0 (s.plain (plainOf t)).redundant key)

/-- BENCH_ROW_REPLACEMENT: in the pause a failing row goes onto a redundant row of its subarray, `lost` being the words of
it that cannot be corrected; with none left the tile is fenced (R64). -/
def execBenchRowReplacement (t row : Nat) (lost : List Nat) (s : State) : Host.Outcome State Fault Refusal :=
  let p := plainOf t
  .next (match (s.plain p).repair with
    | some r =>
      if !(r.phase = 4 ∨ r.phase = 5) ∨ !r.kinds.contains .bench ∨ s.frozen ∨ !(s.tile t).failRows.contains row then s
      else
        let u := s.redundantUsed t row
        let s1 := s.updTile t fun x => { x with failRows := x.failRows.erase row, ceRows := x.ceRows.filter fun e => e.1 != row }
        if 8 ≤ u.2 then s1.fenceTile t
        else
          let s2 := s1.updPlain p fun q => { q with redundant := sset 0 q.redundant u.1 (u.2 + 1) }
          let bad := (lost ++ (List.range 256).filter fun w => (sget? s.eccBad (rowKey t row / 8 + w)).isSome).eraseDups.filter (· < 256)
          let s3 := bad.foldl (fun s w => let d := s.draw 64; d.2.wrMem (rowKey t row + 8 * w) 8 d.1) s2
          let s4 := s3.raise 4 (plainPage p 2)
          if bad.isEmpty then s4 else s4.recordLost p { tile := t, desk := false, first := row, last := row }
    | none => s)

/-! ### Commands (R83, R84) -/

/-- The outcome of a repair command: RESULT and LAST_OP. -/
def State.reprResult (s : State) (p op r : Nat) : State :=
  (s.wf (REPR_CMD_STATUS_RESULT p) r).wf (REPR_CMD_STATUS_LAST_OP p) op

/-- What refuses a command whatever it is: a repair or another command running, a backup (R83). [entry 57 DEDUCED] -/
def State.reprBusy (s : State) (p : Nat) : Option Nat :=
  if (s.plain p).repair.isSome || s.rb (REPR_CMD_STATUS_BUSY p) then some 4
  else if s.rb MOD_STATUS_BACKUP_ACTIVE then some 6
  else none

/-- RESPARE and RETIRE_ROW start the sequence of Table RP-2. -/
def State.reprStart (s : State) (p op : Nat) (kd : RepairKind) (m : PMap) : State :=
  ((s.reprResult p op 0).wf (REPR_CMD_STATUS_BUSY p) 1).setRepair p
    (some { kinds := [kd], newMap := m, back := s.plnState p,
            tiles := match kd with
              | .site c r => match (s.plain p).map.logical c r with
                | some l => if s.fenced (tileIn p l.1 l.2) then [tileIn p l.1 l.2] else []
                | none => []
              | .row r => ((tilesOf p).filter fun t => s.fenced t && (s.siteOf t).2 == r)
              | .bench => [] })

/-- Every fenced site of the plain is CLEARED (R83). -/
def State.fencedCleared (s : State) (p : Nat) : Bool :=
  (tilesOf p).all fun t => !s.fenced t || (s.plain p).cleared.contains (s.siteOf t)

/-- A write to REPR.CMD (Table RP-3). [entry 57 DEDUCED] -/
def State.reprCmd (s : State) (p v : Nat) : State :=
  let op := bits v 0 4
  let x := bits v 4 7; let y := bits v 11 7
  let m := (s.plain p).map
  let bad := match op with
    | 1 | 3 => decide (65 < x) || decide (65 < y)
    | 2 => decide (65 < y)
    | 4 | 5 | 6 => false
    | 7 => decide (8 < bits v 28 4) || decide (67 < bits v 32 7)
    | _ => true
  match s.reprBusy p with
  | some r => s.reprResult p op r
  | none =>
    if bad || s.plnState p == 4 then s.reprResult p op 2
    else match op with
      | 1 =>
        if (m.logical x y).isNone then s.reprResult p op 2
        else if 2 ≤ (m.bypOf y).length then s.reprResult p op 1
        else s.reprStart p op (.site x y) (m.addByp x y)
      | 2 =>
        if !m.mapped y then s.reprResult p op 2
        else if 2 ≤ m.retired.length then s.reprResult p op 1
        else s.reprStart p op (.row y) (m.addRetired y)
      | 3 =>
        let tile := (m.logical x y).map fun l => tileIn p l.1 l.2
        let fenced := match tile with
          | some t => s.fenced t && s.plnLevel p == 2
          | none => false
        if !(m.bypassed y x || m.rowRetired y || fenced) then s.reprResult p op 2
        else
          let s1 := ((s.reprResult p op 0).wf (REPR_CMD_STATUS_BUSY p) 1).updPlain p fun q => { q with testing := some (x, y) }
          match tile with
          | some t =>
            if (s.plainPart p).any fun n => s.pst n == psRESETTING then s1.updPlain p fun q => { q with resetWait := true }
            else s1.tileReset t
          | none => s1
      | 4 =>
        if s.plnLevel p = 3 then s.reprResult p op 7 else (s.reprResult p op 0).doFence p 2
      | 5 => (s.reprResult p op 0).doFence p 3
      | 6 =>
        if !(match s.plainPart p with
            | some n => s.quietPart n
            | none => true) then s.reprResult p op 3
        else if !(s.plain p).lostLinks.isEmpty || !s.fencedCleared p then s.reprResult p op 7
        else ((s.reprResult p op 0).plainReset p).rephase p
      | _ =>
        let l : Lane := { edge := bits v 18 2, link := bits v 20 6, dir := bits v 26 1, plane := bits v 27 1,
                          group := bits v 28 4, lane := bits v 32 7 }
        if (s.plain p).map.lanes.contains l then s.reprResult p op 2
        else if 4 ≤ (s.plain p).map.failed l.edge l.link l.dir l.plane l.group then s.reprResult p op 1
        else (s.reprResult p op 0).replaceLane p l

/-- A write to a word of the REPR page. -/
def State.reprWord (s : State) (p rel v m : Nat) : State :=
  if rel = 0x108 then s.reprCmd p (v &&& m) else s.writeWord (plainPage p 2 + rel) v m

/-- A command written through PF0, which alone reaches REPR. -/
def State.reprHost (s : State) (f p v : Nat) : State :=
  if s.pf0Writes f ∧ p < 64 ∧ s.pageReady (plainPage p 2) then s.reprCmd p v else s

/-- RESPARE: R83. -/
def execRespare (f p x y : Nat) (s : State) : Host.Outcome State Fault Refusal :=
  .next (s.reprHost f p (1 + x % 128 * 2 ^ 4 + y % 128 * 2 ^ 11))
/-- RETIRE_ROW: R83. -/
def execRetireRow (f p y : Nat) (s : State) : Host.Outcome State Fault Refusal :=
  .next (s.reprHost f p (2 + y % 128 * 2 ^ 11))
/-- RETEST: R84. -/
def execRetest (f p x y : Nat) (s : State) : Host.Outcome State Fault Refusal :=
  .next (s.reprHost f p (3 + x % 128 * 2 ^ 4 + y % 128 * 2 ^ 11))
/-- COMPUTE_FENCE: R83. -/
def execComputeFence (f p : Nat) (s : State) : Host.Outcome State Fault Refusal := .next (s.reprHost f p 4)
/-- FULL_FENCE: R83. -/
def execFullFence (f p : Nat) (s : State) : Host.Outcome State Fault Refusal := .next (s.reprHost f p 5)
/-- UNFENCE: R83, R355. -/
def execUnfence (f p : Nat) (s : State) : Host.Outcome State Fault Refusal := .next (s.reprHost f p 6)
/-- LANE_RESPARE: R83. -/
def execLaneRespare (f p edge link dir plane group lane : Nat) (s : State) : Host.Outcome State Fault Refusal :=
  .next (s.reprHost f p (7 + edge % 4 * 2 ^ 18 + link % 64 * 2 ^ 20 + dir % 2 * 2 ^ 26 + plane % 2 * 2 ^ 27 +
    group % 16 * 2 ^ 28 + lane % 128 * 2 ^ 32))

/-- RETEST_COMPLETE: the site becomes CLEARED, or is CLEARED no more and the result is TEST_FAILED (R84). -/
def execRetestComplete (p : Nat) (pass : Bool) (s : State) : Host.Outcome State Fault Refusal :=
  .next (match (s.plain p).testing with
    | some c =>
      let s1 := (s.updPlain p fun q =>
        { q with testing := none, cleared := if pass then q.cleared.erase c ++ [c] else q.cleared.erase c }).wf
          (REPR_CMD_STATUS_BUSY p) 0
      if pass then s1 else s1.wf (REPR_CMD_STATUS_RESULT p) 5
    | none => s)

end Sys2Proof.Machine
end

