-- ==== Sys2Proof/Machine/Parts.lean ====
section
/-! DEFINITION. Partition commands, drains, partition resets and management resets (02 R40 to R46, R53, 17 R352 to R354). -/

namespace Sys2Proof.Machine

/-! ### Commands (Table CS-12) -/

/-- A command that Table CS-12 does not accept (R43). -/
def State.rejectCmd (s : State) (n c : Nat) : State := s.wfs [(PART_STATE_CMD_REJECTED n, 1), (PART_STATE_LAST_CMD n, c)]

/-- Tasks of the partition's tiles whose condition holds become READY. -/
def State.promotePart (s : State) (n : Nat) : State :=
  (s.usedTiles.filter fun t => s.tilePart t == some n).foldl State.promote s

/-- RUNNING, or DEGRADED with a fenced plain or a suspended route (Table CS-12). -/
def State.runPart (s : State) (n : Nat) : State :=
  let s1 := s.updPart n fun p => { p with degraded := false }
  (if s1.partImpaired n then s1.enterFault n psDEGRADED 3 else s1.setPst n psRUNNING).promotePart n

/-- The partition enters STOPPED, where its open items close (R264). -/
def State.stopPart (s : State) (n : Nat) : State := (s.setPst n psSTOPPED).closeItems n 4 fun _ => true

/-- A command taken in its state: 1 START, 2 STOP, 3 DRAIN, 4 RESUME, 5 PAUSE (Table CS-12, R43). [entry 102 DEDUCED] -/
def State.cmdNow (s : State) (n c : Nat) : State :=
  let st := s.pst n
  let halted := s.rb FLT_STATUS_HALTED
  match c with
  | 1 => if st = psSTOPPED ∧ s.hasImage n ∧ !s.coldLoading n ∧ !halted then (s.armAll n).runPart n else s.rejectCmd n c
  | 2 => if st = psPAUSED ∨ st = psDRAINED then s.stopPart n else s.rejectCmd n c
  | 3 =>
    if st = psRUNNING ∨ st = psDEGRADED ∨ st = psPAUSED then
      ((s.updPart n fun p => { p with drainFrom := s.time, drainRaised := false }).setPst n psDRAINING).promotePart n
    else s.rejectCmd n c
  | 4 => if (st = psPAUSED ∨ st = psDRAINED) ∧ !halted then s.runPart n else s.rejectCmd n c
  | 5 => if st = psRUNNING ∨ st = psDEGRADED then s.setPst n psPAUSED else s.rejectCmd n c
  | _ => s.rejectCmd n c

/-! ### Partition reset (R46, R53, R204, R264, R354) -/

/-- Pages committed to a seam group of the partition are disarmed; one in an apply leaves it (R53). -/
def State.disarmPart (s : State) (n : Nat) : State :=
  let s1 : State := { s with applies := s.applies.filter fun a => a.part != n }
  stagedPages.foldl (fun s pg => if s.armed pg && s.stagePart pg == n then s.refuseCommit pg 4 else s) s1

/-- The offsets of status fields that a partition reset leaves: STATE, EPOCH, ITEMS (ITEM numbers go on, R255), and the
first record of PFLT, which CLEAR alone clears (R351). [entry 100 DEDUCED] -/
def resetLeaves (n off : Nat) : Bool :=
  off == partPage n 0 + 0x108 || off == partPage n 0 + 0x120 || off == partPage n 2 + 0x140 ||
    off == partPage n 9 + 0x118 || off == partPage n 9 + 0x120

/-- Status fields and RC counters of the partition's pages return to reset values, and PQ whole (R204, Table RS-4). -/
def State.partStatus (s : State) (n : Nat) : State :=
  let a := partPage n 0; let b := partPage n 9 + 0x1000
  let s1 : State := { s with fld := s.fld.filter fun e =>
    let off := e.1 / 64
    !(decide (a ≤ off) && decide (off < b) && decide (0x100 ≤ off % 0x1000) && !resetLeaves n off &&
      (fieldsAt off).any fun f => f.lo == e.1 % 64 && (f.acc == .ro || f.acc == .w1c || f.acc == .rc)) }
  let s2 := (s1.clearRc a b).clearPages (partPage n 1 + 0x100) (partPage n 2)
  s2.wfs [(PART_STATE_CMD_REJECTED n, 0), (PART_STATE_LAST_CMD n, 0), (PLG_HIGH_WATER_RECORDS n, (s2.part n).ledger.length)]

/-- Credits toward a full-fenced plain stay 0 (R175). -/
def State.resuspend (s : State) (n : Nat) : State :=
  ((s.plainsOf n).filter fun p => s.plnLevel p == 3).foldl State.suspendRoutes
    (s.updPart n fun p => { p with routeSusp := false })

/-- A partition reset that runs: R46, up to the state that it ends in. -/
def State.partResetGo (s : State) (n : Nat) : State :=
  let used := s.usedTiles.filter fun t => s.tilePart t == some n
  let paused := (s.plainsOf n).filter fun p => s.plnState p == 1
  let s1 := ((s.plainsOf n).flatMap tilesOf).foldl State.epochTile (s.epochPart n)
  let s2 := match s1.keeper.load with
    | some l => if l.part = n then s1.imgAbort 17 else s1
    | none => s1
  let s3 := (s2.closeItems n 4 fun _ => true).setPst n psRESETTING
  let s4 := (used.filter fun t => !paused.contains (plainOf t)).foldl State.partTileReset s3
  let s5 := paused.foldl (fun s p => s.updPlain p fun q => { q with repair := q.repair.map fun r => { r with reset := true } }) s4
  let s6 := (s5.disarmPart n)
  let s7 := (List.range 10).foldl (fun s i => s.dropShadows (partPage n i)) s6
  ((s7.partStatus n).updPart n fun p =>
    { p with halts := [], tcache := [], dma := [], sweep := none, recoveries := [], degraded := false, drainRaised := false
             quietFrom := 0 }).resuspend n

/-- A reset is held (R41, R311). [entry 99 DEDUCED] -/
def State.holdReset (s : State) (h : HeldReset) : State :=
  ({ s with heldResets := s.heldResets ++ [h] } : State).wf MOD_STATUS_RESET_HELD 1

/-- A partition reset requested: held, absorbed by one that runs, or run (R41, R311, R353). -/
def State.partReset (s : State) (n : Nat) (flr : Bool) : State :=
  let s0 := if flr then
      { s with pcie := { s.pcie with vfReset := if s.pcie.vfReset.contains (n + 1) then s.pcie.vfReset else s.pcie.vfReset ++ [n + 1]
                                     vfMsix := s.pcie.vfMsix.erase (n + 1) } }
    else s
  if s.frozen || s.restoring then s0.holdReset (.part n flr)
  else if s.pst n = psRESETTING then s0
  else s0.partResetGo n

/-- The function-level reset of the partition's VF is reported complete (R40). -/
def State.flrReport (s : State) (n : Nat) : State :=
  if s.pcie.vfReset.contains (n + 1) then
    ({ s with pcie := { s.pcie with vfReset := s.pcie.vfReset.erase (n + 1) } } : State).emit (.flrDone (n + 1))
  else s

/-- A tile reset that waited for the partition reset runs after it (R353). -/
def State.waitedReset (s : State) (p : Nat) : State :=
  if !(s.plain p).resetWait then s
  else
    let s1 := s.updPlain p fun q => { q with resetWait := false }
    match (s.plain p).testing with
    | some c =>
      match (s.plain p).map.logical c.1 c.2 with
      | some l => s1.tileReset (tileIn p l.1 l.2)
      | none => s1
    | none => s1

/-- PARTITION_RESET_COMPLETE: the partition enters STOPPED, or EMPTY; a paused plain is waited for (R46, R354). -/
def execPartitionResetComplete (n : Nat) (s : State) : Host.Outcome State Fault Refusal :=
  .next (if 16 ≤ n ∨ s.pst n ≠ psRESETTING ∨
      (s.plainsOf n).any (fun p => ((s.plain p).repair.map (·.reset)).getD false && s.plnState p == 1) then s
    else
      let s1 := s.setPst n (if s.emptyGeom n then psEMPTY else psSTOPPED)
      ((s1.plainsOf n).foldl State.waitedReset s1).flrReport n)

/-! ### A write to PART.CMD -/

/-- A command of the partition waits for RUN. -/
def State.cmdWaits (s : State) (n : Nat) : Bool := s.keeper.idle && s.keeper.deferred.any (·.1 == n)

/-- START and RESUME in IDLE-HOLD return the W2 to RUN first (R362). Commands are evaluated in the order in which they
arrived, so one that finds another of its partition waiting for RUN waits behind it (R43). -/
def State.partCmd (s : State) (n c : Nat) : State :=
  if (s.keeper.idle ∧ (c = 1 ∨ c = 4)) ∨ s.cmdWaits n then
    s.updKeeper fun x => { x with idleExit := true, deferred := x.deferred ++ [(n, c)] }
  else if c = 6 then s.partReset n false
  else s.cmdNow n c

/-- A function-level reset of the partition's VF, in the order of arrival with its commands (R40, R43). -/
def State.partFlr (s : State) (n : Nat) : State :=
  if s.cmdWaits n then s.updKeeper fun x => { x with deferred := x.deferred ++ [(n, 7)] } else s.partReset n true

/-- A command written through function `f`. -/
def State.partHost (s : State) (f n c : Nat) : State :=
  if s.writes f n && s.pageReady (partPage n 0) then s.partCmd n c else s

/-- START: R43. -/
def execStart (f n : Nat) (s : State) : Host.Outcome State Fault Refusal := .next (s.partHost f n 1)
/-- STOP: R43. -/
def execStop (f n : Nat) (s : State) : Host.Outcome State Fault Refusal := .next (s.partHost f n 2)
/-- DRAIN: R43, R44. -/
def execDrain (f n : Nat) (s : State) : Host.Outcome State Fault Refusal := .next (s.partHost f n 3)
/-- RESUME: R43. -/
def execResume (f n : Nat) (s : State) : Host.Outcome State Fault Refusal := .next (s.partHost f n 4)
/-- PAUSE: R43. -/
def execPause (f n : Nat) (s : State) : Host.Outcome State Fault Refusal := .next (s.partHost f n 5)

/-- PARTITION_RESET: R46; one that arrives while a backup runs is held (R41). -/
def execPartitionReset (f n : Nat) (s : State) : Host.Outcome State Fault Refusal :=
  .next (if s.reaches f n && s.pageReady (partPage n 0) then s.partCmd n 6 else s)

/-- VF_FUNCTION_LEVEL_RESET: R40; absorbed by a start that runs (R353). -/
def execVfFunctionLevelReset (k : Nat) (s : State) : Host.Outcome State Fault Refusal :=
  .next (if k = 0 ∨ 16 < k ∨ !s.fnUp k then s
    else if s.rb MOD_STATUS_READY ∨ s.frozen then s.partFlr (k - 1)
    else if s.keeper.bench then s.emit (.flrDone k)
    else if s.pcie.vfReset.contains k then s
    else { s with pcie := { s.pcie with vfReset := s.pcie.vfReset ++ [k], vfMsix := s.pcie.vfMsix.erase k } })

/-! ### Drain (R45) -/

/-- A task of the tile is READY, RUNNING or BLOCKED. -/
def State.tileBusy (s : State) (t : Nat) : Bool :=
  (List.range 16).any fun k => s.taskSt t k == 2 || s.taskSt t k == 3 || s.taskSt t k == 4

/-- Queues of a tile are empty, and no transfer of its streams is outstanding. [entry 101 DEDUCED] -/
def Tile.drained (x : Tile) : Bool :=
  x.inq.all (fun e => e.2.isEmpty) && x.outq.all (fun e => e.2.isEmpty) && x.spill.all (fun e => e.2.isEmpty) &&
    x.streams.all fun e => e.2.xfers.all (·.landed)

/-- The conditions of R45 hold at once; a job token on its way is a frame job that runs. [entry 101 DEDUCED] -/
def State.drained (s : State) (n : Nat) : Bool :=
  ((s.usedTiles.filter fun t => s.tilePart t == some n).all fun t => !s.tileBusy t && (s.tile t).drained) &&
  (s.net.all fun k => !(k.ty == 3 && gSpace k.dst == 0 && s.tilePart (gTile k.dst) == some n)) &&
  (s.flits.all fun f => !(s.tilePart f.at_ == some n)) && (s.part n).dma.all fun e => e.2.isEmpty

/-- DRAIN_COMPLETE: the partition moves from DRAINING to DRAINED. -/
def execDrainComplete (n : Nat) (s : State) : Host.Outcome State Fault Refusal :=
  .next (if n < 16 ∧ s.pst n = psDRAINING ∧ s.drained n then s.setPst n psDRAINED else s)

/-- DRAIN_TIMEOUT: a drain that has not completed after DRAIN_LIMIT µs raises its fault, once. -/
def execDrainTimeout (n at_ : Nat) (s : State) : Host.Outcome State Fault Refusal :=
  let s1 := s.at at_
  .next (if n < 16 ∧ s1.pst n = psDRAINING ∧ !(s1.part n).drainRaised ∧
      (s1.part n).drainFrom + s1.rf (PART_DRAIN_LIMIT_MICROSECONDS n) * 1000 ≤ s1.time then
    (s1.updPart n fun p => { p with drainRaised := true }).raise 0xB001 (partPage n 0)
  else s1)

/-! ### Management reset (R40, R55, R241, R352) -/

/-- PF0's PCIe configuration, its MSI-X table and the block-specific HST registers return to reset values, and PF0's latch
epoch advances (R40); the SPDM connection and a running load end. -/
def State.mgmtResetGo (s : State) : State :=
  let s1 := ((s.clearPages (pgHST + 0x100) (pgHST + 0x120)).epochPf0).imgAbort 17
  ({ s1 with pcie := { s1.pcie with mgmtReset := true, cfg := [], msixTable := [] } } : State).updKeeper fun x => { x with spdm := 0 }

/-- A management reset requested: held, absorbed, or run. -/
def State.mgmtReset (s : State) : State :=
  if s.frozen || s.restoring then s.holdReset .mgmt
  else if s.pcie.mgmtReset then s
  else s.mgmtResetGo

/-- MANAGEMENT_RESET: a function-level reset of PF0. -/
def execManagementReset (s : State) : Host.Outcome State Fault Refusal := .next (if s.pcie.l0 then s.mgmtReset else s)

/-- MANAGEMENT_RESET_COMPLETE: PF0 is usable again. -/
def execManagementResetComplete (s : State) : Host.Outcome State Fault Refusal :=
  .next { s with pcie := { s.pcie with mgmtReset := false } }

end Sys2Proof.Machine
end

