-- ==== Sys2Proof/Machine/Restart.lean ====
section
/-! DEFINITION. What a module reset and a loss of power leave (17 R358, R366, R367, Table RS-4; 03 R80). -/

namespace Sys2Proof.Machine

/-- The Keeper holds a value for a field. -/
def Keeper.put (k : Keeper) (f : Fk) (v : Nat) : Keeper := { k with nv := sins k.nv f.key (v % 2 ^ f.w) }

/-- What stays of a plain: its defect map with an open intent completed forward (R79, R80), its redundant rows (R82), and, where the
passes are not trained anew, its lost links (R70). -/
def Plain.kept (q : Plain) (cold : Bool) : Plain :=
  { map := match q.intent with
      | some m => { m with lanes := q.map.lanes }
      | none => q.map
    fuse := q.fuse, cleared := q.cleared, redundant := q.redundant, lostLinks := if cold then [] else q.lostLinks }

/-- A start that takes CLEARED sites out of the map: bypassed ones return as spares (R84). -/
def Plain.uncleared (q : Plain) : Plain :=
  { q with
    map := { q.map with byp := q.cleared.foldl (fun m c => sset [] m c.2 ((sget [] m c.2).filter fun b => b.col != c.1)) q.map.byp }
    cleared := [] }

/-- The map of a plain changes with the start: a CLEARED site of it is bypassed. -/
def Plain.clears (q : Plain) : Bool := q.cleared.any fun c => q.map.bypassed c.2 c.1

/-- The repair journal's sequence of each plain, which lies in the Chest; the completion of an open intent advances it, and so does the
return of CLEARED sites, with `clear`. -/
def State.journalKeep (s : State) (clear : Bool) : Keeper :=
  (List.range 64).foldl (fun k p =>
    let f := REPR_JOURNAL_SEQ p
    let v := max (s.rf f) (sget 0 k.nv f.key) + b2n (s.plain p).intent.isSome + b2n (clear && (s.plain p).clears)
    if v = 0 then k else k.put f v) s.keeper

/-- The fields of the Keeper and of the supply that a module reset leaves as they stand (Table RS-4). -/
def resetKeeps : List Fk :=
  [ MOD_STATUS_KEEPER_UP, PWR_STATUS_SUPPLY, PWR_STATUS_SLOW, PWR_STATUS_PACK_OK, PWR_STATUS_STATE, PWR_SUPPLY_MV_NOW,
   PWR_PACK_ENERGY_J, PWR_ARM_TIME_SECONDS, PWR_COOLANT_FLOW, PWR_COOLANT_INLET_C, PWR_COOLANT_OUTLET_C,
   PWR_COOLANT_DROP_KPA, SEC_MEAS_SEQ_COUNT, SEC_JTAG_STATE_FAILS, SEC_JTAG_STATE_LOCKOUT, SEC_STATUS_REKEYING,
   CHST_FW_STATUS_STATE, CHST_FW_STATUS_RESULT]

/-- The module with nothing left but the Keeper given, some fields, the Chest without its ring, what `pl` keeps of the plains, time,
the pins and the model's own records. -/
def State.blank (s : State) (k : Keeper) (keep : List Fk) (pl : Plain → Plain) : State :=
  { State.reset with
    fld := keep.foldl (fun m x => sset (keyReset x.key) m x.key (s.rf x)) []
    time := s.time, clockAt := s.time, shaperAt := s.time, ptpOff := s.ptpOff + s.ptpCorr s.time, ptpLast := s.time, pf0Epoch := (s.pf0Epoch + 1) % 65536
    plains := s.plains.foldl (fun m e => sset {} m e.1 (pl e.2)) []
    levels := s.levels, pcie := { perst := s.pcie.perst }, keeper := k
    chest := { s.chest with ring := [], fetch := 0 }
    freeCtr := s.freeCtr, out := s.out, pending := s.pending }

/-- The Keeper through a module reset: the start begins at step 3 of Table RS-2 with the cause given. -/
def State.keeperRestart (s : State) (cause : Nat) : Keeper :=
  let k := s.journalKeep true
  { nv := k.nv, phase := 1, cause := cause, startAt := s.time, perstAt := k.perstAt, low := k.low, dip := k.dip, overV := k.overV
    packBad := k.packBad, latchOpen := k.latchOpen, seqOk := k.seqOk, torn := k.torn, imgKeys := k.imgKeys, foreign := k.foreign
    trst := k.trst, vio := k.vio, alert := k.alert, flowBad := k.flowBad, hotInlet := k.hotInlet }

/-- A measurement changes with the reset: the TAP was not LOCKED, or an image was placed (R372, R378). -/
def State.measured (s : State) : Bool :=
  s.rf SEC_JTAG_STATE_STATE != 0 || !s.keeper.coldPro.isEmpty || !s.keeper.copyPro.isEmpty

/-- A module reset (R358). -/
def State.moduleRestart (s : State) (cause : Nat) : State :=
  let s1 := s.blank (s.keeperRestart cause) resetKeeps fun q => (q.kept false).uncleared
  let s2 := if s.measured then s1.bump SEC_MEAS_SEQ_COUNT else s1
  s2.setSlow.setSupply.setPwr

/-- The module powers down to OFF (Table RS-3). -/
def State.powerOff (s : State) : State :=
  let k := s.journalKeep false
  let s1 := s.blank { nv := k.nv, latchOpen := k.latchOpen, seqOk := k.seqOk, torn := k.torn, imgKeys := k.imgKeys
                      foreign := k.foreign, trst := k.trst, vio := k.vio, perstAt := k.perstAt } [] fun q => q.kept true
  ({ s1 with chest := { s1.chest with fwStep := 0, wdog := false } } : State).emit .off

end Sys2Proof.Machine
end

