-- ==== Sys2Proof/Machine/ChestOps.lean ====
section
/-! DEFINITION. Operations of the Chest that several events share: user blocks, operations that are stopped, the firmware
update that is stopped (15 R321, R323, R327, R328, R332, R333). -/

namespace Sys2Proof.Machine

/-! ### User blocks -/

/-- The key of a user block: die and physical block (Table CH-3) (R313, R314). [entry 112 DEDUCED] -/
def State.ublockKey (s : State) (w1 : Nat) : Nat := bits w1 8 8 * 8192 + (5464 - s.rf CHST_ZONE_USER_BLOCKS + bits w1 16 12)
def State.ublock (s : State) (k : Nat) : UBlock := sget {} s.chest.user k
def State.setUblock (s : State) (k : Nat) (b : UBlock) : State := s.updChest fun c => { c with user := sset {} c.user k b }

/-- Pages of a program: one in pSLC, the three of a wordline in TLC (R321). -/
def progPages (pslc : Bool) : Nat := if pslc then 1 else 3

/-- Pages whose program failed or was stopped hold values that the spec does not state; they count as programmed (R323,
R328). -/
def State.freePages (s : State) (k page n : Nat) : State :=
  s.forEach (List.range n) fun s i =>
    let d := s.draw 131072
    let b := d.2.ublock k
    d.2.setUblock k { b with pages := sins b.pages (page + i) d.1, next := max b.next (page + i + 1) }

/-- The effects of a stopped operation: an erase leaves its block ERASE_UNKNOWN, a program counts its pages as programmed
(R327, R328). [entry 111 DESIGN CHOICE] -/
def State.stopDesc (s : State) (d : UDesc) : State :=
  let k := s.ublockKey d.w1
  if bits d.w3 0 8 ≠ 1 then s
  else match bits d.w1 0 4 with
    | 1 => s.setUblock k { s.ublock k with st := 3, lost := true, pages := [] }
    | 2 => s.freePages k (bits d.w1 32 10) (progPages (d.w1.testBit 4))
    | _ => s

/-- A Keeper restart: every descriptor in flight is written back with RESTARTED, its effects those of a stopped operation. [entry 111 DESIGN CHOICE] -/
def State.restartRing (s : State) : State :=
  (s.chest.ring.foldl State.stopDesc s).updChest fun c => { c with ring := c.ring.map fun d => { d with w3 := 10 } }

/-- A power-fail stops the operations in progress; which of those in flight still were, no figure says. [entry 111 DESIGN CHOICE] -/
def State.powerStopRing (s : State) : State :=
  s.chest.ring.foldl (fun s d =>
    let f := s.draw 1
    if f.1 = 1 then f.2.stopDesc d else f.2) s

/-! ### The firmware update (R331 to R333) -/

/-- CHST.FW_STATUS; a change of STATE raises CHST's event. -/
def State.fwState (s : State) (st result : Nat) : State :=
  let s1 := s.wf CHST_FW_STATUS_RESULT result
  if s1.rf CHST_FW_STATUS_STATE = st then s1 else (s1.wf CHST_FW_STATUS_STATE st).irqPage pgCHST

/-- The sector with the newest valid selector word (R329). -/
def State.selNewest (s : State) : Option (Nat × Sel) :=
  s.chest.sels.foldl (fun b e =>
    if !e.2.ok then b
    else match b with
      | some x => if x.2.seq < e.2.seq then some e else b
      | none => some e) none

/-- The update ends with its slot INVALID and a result. -/
def State.fwEnd (s : State) (result : Nat) : State :=
  ((s.updChest fun c => { c with fwStep := 0 }).wks
    [(CHST_FW_SLOT_STATE s.chest.fwSlot, 3), (CHST_FW_SLOT_TRIAL s.chest.fwSlot, 0)]).fwState 6 result

/-- A selector word written into the sector that does not hold the newest one. -/
def State.selWrite (s : State) (slot : Nat) (trial : Bool) : State :=
  let b := s.selNewest.getD (1, { seq := 0, slot := 0, trial := false })
  s.updChest fun c => { c with sels := sins c.sels (1 - b.1) { seq := b.2.seq + 1, slot := slot, trial := trial } }

/-- The Keeper stops during an update: Table CH-7, its first two rows. [entry 116 DEDUCED] -/
def State.fwRestart (s : State) : State :=
  if 1 ≤ s.chest.fwStep ∧ s.chest.fwStep ≤ 5 then
    let s1 := if s.chest.fwStep = 5 then
        s.updChest fun c => { c with sels := c.sels.map fun e => if some e.1 = s.selNewest.map (·.1) then e else (e.1, { e.2 with ok := false }) }
      else s
    s1.fwEnd 17
  else s

/-- A power-fail during an update: steps 1 to 4 stop; of step 5 the word is completed where its program has begun, which no
figure says (R333). [entry 116 DEDUCED] -/
def State.fwPowerFail (s : State) : State :=
  if s.chest.fwStep = 5 then
    let f := s.draw 1
    if f.1 = 1 then ((f.2.selWrite s.chest.fwSlot true).wk (CHST_FW_SLOT_TRIAL s.chest.fwSlot) 1).updChest fun c => { c with fwStep := 0 }
    else f.2.fwRestart
  else s.fwRestart

end Sys2Proof.Machine
end

