-- ==== Sys2Proof/Machine/Backup.lean ====
section
/-! DEFINITION. The backup of a power-fail and the warm restore (14 R299 to R312, 12 R266, 13 R286, 15 R316 to R319). -/

namespace Sys2Proof.Machine

/-- KEEP.SEQ.STATE; a change raises KEEP's event. -/
def State.setSeq (s : State) (st : Nat) : State :=
  if s.rf KEEP_SEQ_STATE = st then s else (s.wf KEEP_SEQ_STATE st).irqPage pgKEEP

/-- The state of a backup slot; a change raises CHST's event (R316). -/
def State.setSlot (s : State) (k st : Nat) : State :=
  if s.rf (CHST_BSLOT_STATE k) = st then s else (s.wk (CHST_BSLOT_STATE k) st).irqPage pgCHST

/-! ### What a backup holds (Table HU-2) -/

/-- Settings of a module page: its reactions and masks, and its block registers but counters. -/
def settingKey (off lo : Nat) : Bool :=
  let rel := off % 0x1000
  rel == 0x30 || rel == 0x38 || (decide (0x100 ≤ rel) && !(fieldsAt off).any fun f => f.lo == lo && f.acc == .rc)

/-- Live values of a partition page: its fault record, its settings and its block registers; the page comes back CLEAN, with
its counters running, the host queues disabled, PSW IDLE and no stream halted (R309). -/
def partKey (kd : PageKind) (rel lo : Nat) : Bool :=
  if kd = .pq then false
  else if kd = .psw && rel == 0x150 then false
  else if kd = .pstr && rel == 0x130 then false
  else if rel = 0x10 then lo != 1
  else if rel = 0x18 then lo == 1
  else if rel < 0x40 then decide (0x20 ≤ rel)
  else if rel = 0x40 then decide (lo < 8)
  else decide (0x100 ≤ rel)

/-- The register fields of the system part, by key. -/
def systemKey (key : Nat) : Bool :=
  let off := key / 64; let lo := key % 64
  if 0x40000000 ≤ off ∧ off < 0x100000000 then true
  else if 0x101000 ≤ off ∧ off < 0x200000 then true
  else match pageAt off with
    | some (.tbs, _, _) => settingKey off lo
    | some (.ses, _, _) => settingKey off lo
    | some (.ldg, _, _) => settingKey off lo && off != LDG_INCARNATION_COUNT.off
    | some (.edge, _, rel) => decide (0x200 ≤ rel)
    | some (.img, _, rel) => rel == 0x200 || (decide (0x280 ≤ rel) && decide (rel < 0x300))
    | some (.lat, _, rel) => decide (0x900 ≤ rel) && decide (rel < 0xB00)
    | some (kd, _, rel) => isPartPage kd && partKey kd rel lo
    | none => false

/-- Plain fence levels, as fields. -/
def State.fenceFields (s : State) : SMap Nat :=
  (List.range 64).foldl (fun m p => if s.plainFenced p then sins m (PLN_STATE_STATE p).key (s.plnLevel p) else m) []

/-- What a backup keeps of a partition: no halts, translations, host queues, sweep or waiting doorbells; records that
were sent are to be sent again (R286). [entry 105 DEDUCED] -/
def Part.saved (p : Part) : Part :=
  { p with halts := [], tcache := [], dma := [], sweep := none, subs := [], routeSusp := false
           ledger := p.ledger.map fun r => if 0 < r.sends then { r with again := true } else r }

/-- The resident physical pages of a virtual range. -/
def State.residentPages (s : State) (n va len : Nat) : List Nat :=
  (List.range (len / 2 ^ 21)).filterMap fun i =>
    let e := s.rf (peptEntry n (va / 2 ^ 21 + i))
    if e.testBit 0 && e.testBit 1 then some (bits e 12 18) else none

/-- The keep regions: what each is, the memory keys that it covers, and its length (Table HU-2, R298, R299, R317). -/
def State.keepRegions (s : State) : List (Region × List (Nat × Nat)) :=
  let ledgers := ((List.range 16).filter fun n => s.rf (PLG_CAPACITY_RECORDS n) != 0 || !(s.part n).ledger.isEmpty).map fun n =>
    (({ kind := 0, part := n, addr := 0 } : Region), ([] : List (Nat × Nat)))
  let edges := (List.range 16).flatMap fun n =>
    ((List.range 16).filter fun k => s.rb (PKS_RANGE_EN n k)).map fun k =>
      let va := s.rf (PKS_RANGE_VA n k)
      let pages := s.residentPages n va (s.rf (PKS_LENGTH n k))
      (({ kind := 1, part := n, addr := va, len := pages.length * 2 ^ 21 } : Region),
        pages.map fun q => (ekey (q * 2 ^ 21), 2 ^ 21))
  let handles := s.tiles.flatMap fun (e : Nat × Tile) =>
    match s.tilePart e.1 with
    | none => []
    | some n => (e.2.shelf.filter fun h => h.2.hon).map fun h =>
        (({ kind := 2, part := n, addr := s.tileGlobal e.1 h.2.base, unreach := s.plnLevel (plainOf e.1) == 3
            len := h.2.length } : Region), [(tkey e.1 h.2.base, h.2.length)])
  ledgers ++ edges ++ handles

/-- Words of the keep data that cannot be corrected: what is captured for them is not stated. -/
def State.freeBad (s : State) (keys : List (Nat × Nat)) : State :=
  (s.eccBad.filter fun e => keys.any fun k => decide (k.1 ≤ e.1 * 8) && decide (e.1 * 8 < k.1 + k.2)).foldl (fun s e =>
    let d := s.draw 64
    d.2.wrMem (e.1 * 8) 8 d.1) s

/-- D: the bytes of the system part, the ledgers and the regions that can be reached. -/
def State.backupBytes (s : State) (regions : List Region) : Nat :=
  0x6000000 + s.rf LDG_POOL_PAGES * 0x200000 + (regions.map fun r => if r.unreach then 0 else r.len).sum

/-- A plain that is full-fenced before its handle keeps are read out takes them out of reach (R299). -/
def State.fenceRegions (s : State) (regions : List Region) : List Region :=
  regions.map fun r =>
    if r.kind == 2 && s.plnLevel (plainOf (gTile r.addr)) == 3 then { r with unreach := true, cells := [] } else r

/-- The keep data as it stands, and D (R301, R299). [entry 104 DESIGN CHOICE] -/
def State.capture (s : State) (seq : Nat) : Snap × Nat × State :=
  let rs := s.keepRegions
  let s1 := s.freeBad (rs.flatMap fun r => if r.1.unreach then [] else r.2)
  let regions := rs.map fun r =>
    if r.1.unreach then r.1 else { r.1 with cells := r.2.flatMap fun k => srange s1.mem k.1 (k.1 + k.2) }
  ({ seq := seq
     fld := s.fenceFields.foldl (fun m e => sins m e.1 e.2) (s.fld.filter fun e => systemKey e.1)
     tbs := s.tbs.map fun e => (e.1, { e.2 with hist := [], mark := true })
     ing := s.ing.map fun e => (e.1, { e.2 with cur := none, done := [] })
     egr := s.egr.map fun e => (e.1, { e.2 with count := 0, silent := false })
     parts := s.parts.map fun e => (e.1, e.2.saved)
     latches := s.latches, cold := s.keeper.coldSlot, coldPro := s.keeper.coldPro, copyPro := s.keeper.copyPro
     regions := regions },
   s.backupBytes regions, { s1 with mem := s.mem, eccBad := s.eccBad })

/-! ### The backup (Table HU-3) -/

/-- The timebases stop at their positions (R301). -/
def State.freezeTbs (s : State) : State :=
  s.forEach (List.range 8) fun s b =>
    let s1 := s.noteCross b
    s1.setTb b { s1.tb b with pos := s1.tbPos b, base := s1.time, baseM := s1.mtime, gapNs := 0, step := 0, same := false, trail := [] }

/-- Reloads that a backup interrupts: the restore brings the images back (R241). -/
def State.keepReloads (s : State) : State :=
  (s.keeper.reloads.foldl (fun s e => s.putCopies e.1 e.2) s).updKeeper fun k => { k with reloads := [] }

/-- A power-fail: the input is isolated, and a backup starts, or the module powers down (R300, R301, R363, R366). [entry 88 DEDUCED] -/
def State.powerFail (s : State) : State :=
  let s0 := (s.powerStopRing.fwPowerFail).updKeeper fun k => { k with isolated := true }
  let s1 := (s0.wk PWR_POWER_FAILS_COUNT (s0.rf PWR_POWER_FAILS_COUNT + 1)).setSupply.setCharging
  if s1.rb MOD_STATUS_READY && !s1.restoring && !s1.keeper.bench then
    let s2 := s1.freezeTbs.wk KEEP_BACKUP_UNARMED (b2n !s1.rb PWR_STATUS_ARMED)
    let s3 := ((s2.wf MOD_STATUS_BACKUP_ACTIVE 1).updKeeper fun k =>
      { k with idle := false, idleExit := false, deferred := []
               backup := some { from_ := s1.time, energy := s1.rf PWR_PACK_ENERGY_J } }).setPwr
    ((s3.setSeq 1).imgAbort 17).keepReloads
  else (s1.wk KEEP_BACKUP_RESULT 3).powerOff

/-- A packet at the tile that it is addressed to can be performed. -/
def State.packetLands (s : State) (t : Nat) (k : Packet) : Bool :=
  match k.ty with
  | 0 | 1 => s.tileOpen t (gLocal k.dst) k.len
  | 2 => if k.eng.isSome then s.tileOn t else s.rf (TILE_QBIND_KIND t k.rq) != 2 || s.roomIn t k.rq (ceilDiv k.len 64)
  | 3 => s.rf (TILE_QBIND_KIND t k.rq) != 2 || s.roomIn t k.rq 1
  | _ => true

/-- A packet at a tile can go out in a direction, or is discarded there. -/
def State.packetLeaves (s : State) (u d : Nat) (k : Packet) : Bool :=
  match neighbour u d with
  | some w => s.intoFence w k || s.hopOpen u w d k
  | none => false

/-- A packet on its way at a tile can go on: on COL, X first, then Y, or adaptively, escaping onto COL where it must. -/
def State.packetGoes (s : State) (u : Nat) (tg : Nat × Option Loc) (k : Packet) : Bool :=
  let col := match s.colExit u tg.1 k with
    | some d => s.packetLeaves u d.1 { k with esc := true }
    | none => true
  if k.esc || s.takesCol u tg k then col
  else if k.ord then ((xyDir u tg.1).map fun d => s.packetLeaves u d k).getD false
  else (minimalDirs u tg.1).any (fun d => (s.dirFree u d k).isSome) || col

/-- A packet can enter the grid from a rim at a tile. -/
def State.packetEnters (s : State) (u e : Nat) (k : Packet) : Bool :=
  s.intoFence u k || (s.enterable u && !s.linkDown u e && s.bufferRoom u e (packetChan k) (packetFlits k))

/-- The first packet of a buffer is in flight, not held at the boundary of a plain that is paused, at a fenced tile, or for want of
room (R76, R172, R301). -/
def State.packetInFlight (s : State) (k : Packet) : Bool :=
  match k.loc with
  | .tile u =>
    let tg := s.target k (tileX u) (tileY u)
    s.routerLive u && (if k.ty = 4 then s.branchesOpen u k && (!(s.treeByte u k.tree).testBit 4 || s.tileOpen u (gLocal k.dst) k.len)
      else if u ≠ tg.1 then s.packetGoes u tg k
      else match tg.2 with
        | some l => !s.linkDown u (rimEdge l)
        | none => s.packetLands u k)
  | .west y =>
    if gModule k.dst ≠ s.modNum then
      !s.reachable (gModule k.dst) k.esc || decide ((sget {} s.spans (s.spanPort (gModule k.dst) k.esc)).unacked.length < 512)
    else if gSpace k.dst = 0 then
      let r := s.rimRow (tileY (gTile k.dst))
      s.packetEnters (tileAt 0 r) 3 { k with esc := k.esc || r != tileY (gTile k.dst) }
    else gSpace k.dst != 1 || s.packetEnters (tileAt 0 y) 3 k
  | .north x => (gSpace k.dst == 1 && gModule k.dst == s.modNum) || s.packetEnters (tileAt x 0) 0 k
  | .south x => (gSpace k.dst == 1 && gModule k.dst == s.modNum) || s.packetEnters (tileAt x 511) 2 k
  | .span _ => true

/-- A circuit flit is in flight: its router runs, and its sink takes it or drops it. -/
def State.flitInFlight (s : State) (f : Flit) : Bool :=
  s.routerLive f.at_ && (match f.sink with
    | some q => s.rf (TILE_QBIND_KIND f.at_ q) != 1 || s.roomIn f.at_ q f.entries.length || ((s.tile f.at_).spillQ q).isEmpty
    | none => true)

/-- What the freeze completes: stream transfers outstanding where streams can complete them, packets and circuit flits in
flight (R301). What is held for a plain that is paused waits for no one (R81). [entry 88 DEDUCED] -/
def State.unsettled (s : State) : Bool :=
  (s.tiles.any fun (e : Nat × Tile) => s.tileOn e.1 && e.2.streams.any fun d => d.2.xfers.any fun y => !y.landed) ||
    ((List.range s.net.length).any fun i => match s.headPacket i with
      | some k => s.packetInFlight k
      | none => false) ||
    s.flits.any s.flitInFlight

/-- BACKUP_FREEZE_COMPLETE: matrix operations that wait are discarded and the keep data is captured (R301). [entry 88 DEDUCED] -/
def execBackupFreezeComplete (at_ : Nat) (s : State) : Host.Outcome State Fault Refusal :=
  let s0 := s.at at_
  .next (match s0.keeper.backup with
    | none => s0
    | some b =>
      if b.phase ≠ 1 ∨ s0.unsettled then s0
      else
        let s1 := (s0.tiles.map fun (e : Nat × Tile) => e.1).foldl (fun s t => s.updTile t fun x => { x with mq := [] }) s0
        let c := s1.capture (max (s1.rf (CHST_BSLOT_SEQ 0)) (s1.rf (CHST_BSLOT_SEQ 1)) + 1)
        (c.2.2.updKeeper fun k => { k with backup := some { b with phase := 2, snap := c.1, bytes := c.2.1 } }).setSeq 2)

/-- BACKUP_HELD: what the backup does not need powers off, the link and the ports among it (Table HU-3, step 3). -/
def execBackupHeld (at_ : Nat) (s : State) : Host.Outcome State Fault Refusal :=
  let s0 := s.at at_
  .next (match s0.keeper.backup with
    | none => s0
    | some b =>
      if b.phase ≠ 2 then s0
      else
        let s1 : State := { s0 with pcie := { s0.pcie with l0 := false } }
        let s2 := s1.forEach (List.range 8) fun s p => s.wf (PRT_STATUS_LINK_UP p) 0
        let s3 := s2.forEach (List.range 6) fun s p => s.wf (SPN_STATUS_UP p) 0
        (s3.updKeeper fun k => { k with held := true, backup := some { b with phase := 3 } }).setPwr)

/-- The slot that a backup of `d` bytes writes into: READY with room for it and the directory; of two, the less worn
(R316, R318). [entry 89 DEDUCED] -/
def State.backupSlot (s : State) (d : Nat) : Option Nat :=
  let ok := fun k => s.rf (CHST_BSLOT_STATE k) == 0 && decide (ceilDiv d stripeBytes + 1 ≤ s.rf (CHST_BSLOT_STRIPES k))
  let wear := fun k => sget 0 s.chest.bwear k
  if ok 0 && (!ok 1 || decide (wear 0 ≤ wear 1)) then some 0 else if ok 1 then some 1 else none

/-- BACKUP_OPEN_RECORD: the open record is programmed and the older slot retired; with no slot that holds D no backup is
taken (R316, R318). -/
def execBackupOpenRecord (at_ : Nat) (s : State) : Host.Outcome State Fault Refusal :=
  let s0 := s.at at_
  .next (match s0.keeper.backup with
    | none => s0
    | some b =>
      if b.phase ≠ 3 then s0
      else match s0.backupSlot b.bytes with
        | none => (s0.wk KEEP_BACKUP_RESULT 3).powerOff
        | some k =>
          let s1 := (s0.setSlot k 2).wk (CHST_BSLOT_SEQ k) b.snap.seq
          let s2 := if s1.rf (CHST_BSLOT_STATE (1 - k)) = 3 then s1.setSlot (1 - k) 4 else s1
          (s2.wk KEEP_RESTORE_PENDING 0).updKeeper fun x => { x with backup := some { b with phase := 4, slot := k } })

/-- BACKUP_WRITE_COMPLETE: the keep data is written, but for what a full fence has put out of reach (R299); each of `fails` shards whose program failed is noted and its block
retired (R317, R318). -/
def execBackupWriteComplete (fails at_ : Nat) (s : State) : Host.Outcome State Fault Refusal :=
  let s0 := s.at at_
  .next (match s0.keeper.backup with
    | none => s0
    | some b =>
      if b.phase ≠ 4 then s0
      else
        let rs := s0.fenceRegions b.snap.regions
        let s1 := s0.updKeeper fun x => { x with backup := some { b with phase := 5, snap := { b.snap with regions := rs }
                                                                         bytes := s0.backupBytes rs } }
        let s2 := (List.range fails).foldl (fun s _ => (s.bump CHST_NAND_FAILS_PROGRAM).raise 0x6001 pgCHST) s1
        (s2.wk CHST_WEAR_BAD_BLOCKS (s2.rf CHST_WEAR_BAD_BLOCKS + fails)).setSeq 3)

/-- BACKUP_COMMIT: the commit record is programmed; the module powers down, or starts again where the input has returned
(R301, R304); resets that were held are contained in either (R353). -/
def execBackupCommit (energy at_ : Nat) (s : State) : Host.Outcome State Fault Refusal :=
  let s0 := s.at at_
  .next (match s0.keeper.backup with
    | none => s0
    | some b =>
      if b.phase ≠ 5 then s0
      else
        let s1 := (s0.updChest fun c => { c with snaps := sins c.snaps b.slot b.snap }).setSlot b.slot 3
        let s2 := s1.wks [(KEEP_BACKUP_RESULT, 1), (KEEP_BACKUP_BYTES, b.bytes), (KEEP_BACKUP_COST_TIME_US, (s1.time - b.from_) / 1000),
          (KEEP_BACKUP_COST_ENERGY_J, b.energy - energy), (KEEP_RESTORE_PENDING, 1)]
        let s3 := s2.wf PWR_PACK_ENERGY_J energy
        if b.restored then s3.moduleRestart 4 else s3.powerOff)

/-- The pack fails the backup: no commit, the older slot is not restored, the module powers down (R303). [entry 106 DEDUCED] -/
def State.tear (s : State) : State :=
  let s1 := s.forEach (List.range 2) fun s k => if s.rf (CHST_BSLOT_STATE k) = 3 then s.setSlot k 4 else s
  ((s1.wk KEEP_RESTORE_PENDING 0).updKeeper fun x => { x with torn := true }).powerOff

/-- PACK_ENERGY_EXHAUSTED: R303. -/
def execPackEnergyExhausted (at_ : Nat) (s : State) : Host.Outcome State Fault Refusal :=
  let s0 := s.at at_
  .next (if s0.keeper.backup.isSome then s0.tear else s0)

/-! ### Held resets (R41, R311, R353) -/

/-- The held resets take effect in order of arrival; a module reset contains those after it. [entry 99 DEDUCED] -/
def State.takeResets : List HeldReset → State → State
  | [], s => s
  | .module c :: _, s => s.moduleRestart c
  | .mgmt :: l, s => State.takeResets l (if s.pcie.mgmtReset then s else s.mgmtResetGo)
  | .part n _ :: l, s => State.takeResets l (if s.pst n = psRESETTING then s else s.partResetGo n)

/-- The hold ends. -/
def State.endHold (s : State) : State :=
  State.takeResets s.heldResets (({ s with heldResets := [] } : State).wf MOD_STATUS_RESET_HELD 0)

/-! ### The restore (Tables HU-4 to HU-6) -/

/-- The state of a partition at the freeze. -/
def Snap.pst (x : Snap) (n : Nat) : Nat := sget 0 x.fld (PART_STATE_STATE n).key

/-- A partition had a live image at the freeze. -/
def Snap.hadImage (x : Snap) (n : Nat) : Bool :=
  let live := bits (sget 0 x.fld IMG_COPY_SEL_SEL.key) n 1
  sget 0 x.fld (copyStateK n live).key == 3

/-- A warm restore begins: step 1 of Table HU-4. [entry 105 DEDUCED] -/
def State.restoreBegin (s : State) (x : Snap) : State :=
  let ps := (List.range 16).filter x.hadImage
  let s1 := s.forEach ps fun s n => s.setPst n psRESTORING
  let s2 := s1.wks ((KEEP_LOST_COUNT_COUNT, 0) :: (KEEP_RESTORE_WARM_MASK, 0) :: (KEEP_RESTORE_COLD_MASK, 0) ::
    (KEEP_RESTORE_RESULT, 0) :: (List.range 16).flatMap fun k =>
      [(KEEP_LOST_PART k, 0), (KEEP_LOST_KIND k, 0), (KEEP_LOST_VALID k, 0), (KEEP_ADDR k, 0)])
  (s2.updKeeper fun k => { k with restore := some { snap := x, parts := ps } }).setSeq 4

/-- A region that could not be written back is recorded (R305, Table HU-9). -/
def State.lostRegion (s : State) (r : Region) (kind : Nat) : State :=
  let c := s.rf KEEP_LOST_COUNT_COUNT
  let s1 := s.wk KEEP_LOST_COUNT_COUNT (min 65535 (c + 1))
  let s2 := if c < 16 then
      s1.wks [(KEEP_LOST_PART c, r.part), (KEEP_LOST_KIND c, kind), (KEEP_LOST_VALID c, 1), (KEEP_ADDR c, r.addr)]
    else s1
  s2.irqPage pgKEEP

/-- The regions numbered `lost`, and the others, of those that satisfy a test. -/
def Snap.split (x : Snap) (lost : List Nat) (p : Region → Bool) : List Region × List Region :=
  let l := (List.range x.regions.length).filterMap fun i => match x.regions[i]? with
    | some r => if p r then some (i, r) else none
    | none => none
  ((l.filter fun e => lost.contains e.1).map (·.2), (l.filter fun e => !lost.contains e.1).map (·.2))

def State.updRestore (s : State) (f : Restore → Restore) : State :=
  s.updKeeper fun k => { k with restore := k.restore.map f }

/-- A partition comes up cold. -/
def State.goCold (s : State) (n : Nat) : State :=
  s.updRestore fun r => if r.parts.contains n ∧ !r.cold.contains n then { r with cold := r.cold ++ [n] } else r

/-- A region is lost: recorded, and its partition cold. -/
def State.loseRegion (s : State) (r : Region) (kind : Nat) : State := (s.lostRegion r kind).goCold r.part

/-- The bytes of a region written back. -/
def State.putCells (s : State) (l : List Host.Cell) : State := l.foldl (fun s c => s.wrMem c.1 1 c.2.toNat) s

/-- Steps 2 of Table HU-4: the system part; the fences apply again, every page is CLEAN, latches that were held are BROKEN,
timebases stand at their saved positions, and one in mode 5 jumps to that of module time (R59, R266, R309). -/
def State.putSystem (s : State) (x : Snap) (parts : List Nat) : State :=
  let fences := (List.range 64).map fun p => (p, sget 0 x.fld (PLN_STATE_STATE p).key)
  let base := s.fld.filter fun e => !systemKey e.1
  let fld := (x.fld.filter fun e => systemKey e.1).foldl (fun m e => sins m e.1 e.2) base
  let s1 : State := { s with
    fld := fld, shd := s.shd.filter fun e => !systemKey e.1
    tbs := x.tbs.foldl (fun m e => sset {} m e.1 { e.2 with base := s.time, quietFrom := s.time, rxFrom := none, trail := [] }) []
    ing := x.ing.foldl (fun m e => sset {} m e.1 e.2) [], egr := x.egr.foldl (fun m e => sset {} m e.1 e.2) []
    parts := x.parts.foldl (fun m e => sset {} m e.1 { e.2 with ledger := [] }) []
    latches := x.latches.foldl (fun m e => sset {} m e.1 (if e.2.st = 1 then { e.2 with st := 2 } else e.2)) []
    keeper := { s.keeper with coldSlot := x.cold, coldPro := x.coldPro, copyPro := x.copyPro } }
  let s2 := fences.foldl (fun s e =>
    let s' := if s.plnState e.1 < e.2 ∧ e.2 < 4 then s.wf (PLN_STATE_STATE e.1) e.2 else s
    if s.plnState e.1 < e.2 ∧ e.2 = 3 then s'.updPlain e.1 fun q => { q with detourWait := true } else s') s1
  let s3 := s2.forEach (List.range 16) fun s n =>
    if parts.contains n then s.setPst n psRESTORING
    else if s.emptyGeom n then s.setPst n psEMPTY else s.stopPart n
  s3.forEach (List.range 8) fun s b =>
    let old := (s.tb b).pos
    if s.rf (TBS_TB_CFG_MODE b) = 5 ∧ s.rf (TBS_TB_STATUS_STATE b) = 1 then
      (if old < s.tbPos b then s.jump b old (s.tbPos b) else s)
    else s

/-- The system part cannot be read: the whole module is cold (Table HU-5). -/
def State.systemLost (s : State) (r : Restore) : State :=
  let s1 := (s.forEach r.parts fun s n => s.setPst n psEMPTY).wks [(KEEP_RESTORE_RESULT, 5),
    (KEEP_RESTORE_COLD_MASK, (r.parts.map fun n => 2 ^ n).sum)]
  (((s1.wf MOD_STATUS_WARM 0).updKeeper fun k => { k with restore := none }).freeSlots.setSeq 0).endHold

/-- Step 3: ledgers, ahead of the records that the jumps of step 2 made, and edge ranges (R265, R266). -/
def State.putRegions (s : State) (x : Snap) (lost : List Nat) : State :=
  let p := x.split lost fun r => r.kind == 0 || r.kind == 1
  let s1 := p.2.foldl (fun s r =>
    if r.kind = 0 then s.updPart r.part fun q => { q with ledger := (sget {} x.parts r.part).ledger ++ q.ledger } else s.putCells r.cells) s
  p.1.foldl (fun s r => s.loseRegion r r.kind) s1

/-- Step 4 for a partition: its live copy reloaded; with `bad` its slot cannot be read (R306, Table HU-5). -/
def State.putImage (s : State) (n : Nat) (bad : Bool) : State :=
  let c := s.copies n
  let back := if c.sel = 0 then c.slotA else c.slotB
  let s1 := if bad then s.updChest fun x => { x with imgs := x.imgs.map fun e => if e.1 = back then (e.1, { e.2 with unreadable := true }) else e }
    else s
  let r := s1.reloadImage n c false
  let s2 := r.1.setMeas fun k =>
    { k with copyPro := (if r.2 then sdel k.copyPro (2 * n + 1 - c.sel) else sdel (sdel k.copyPro (2 * n)) (2 * n + 1))
             coldPro := if r.2 then k.coldPro else sdel k.coldPro n }
  if r.2 then s2 else (s2.goCold n).raise 0xB006 pgIMG

/-- Step 5 for a partition: its handle keeps (R299). -/
def State.putHandles (s : State) (x : Snap) (n : Nat) (lost : List Nat) : State :=
  let p := x.split lost fun r => r.kind == 2 && r.part == n
  let off := fun (r : Region) => r.unreach || s.plnLevel (plainOf (gTile r.addr)) == 3
  let s1 := (p.2.filter fun r => !off r).foldl (fun s r => s.putCells r.cells) s
  let s2 := (p.2.filter off).foldl (fun s r => s.loseRegion r 3) s1
  p.1.foldl (fun s r => s.loseRegion r 2) s2

/-- RESTORE_PHASE_COMPLETE: step `phase` of Table HU-4 ends, for partition `n` in steps 4 and 5; `lost` are the regions whose
stripes cannot be rebuilt (any number for the system part and for an image slot), `rebuilt` the shards rebuilt (R319). [entry 105 DEDUCED] -/
def execRestorePhaseComplete (phase n : Nat) (lost : List Nat) (rebuilt at_ : Nat) (s : State) :
    Host.Outcome State Fault Refusal :=
  let s0 := s.at at_
  .next (match s0.keeper.restore with
    | none => s0
    | some r =>
      let s1 := s0.bump KEEP_REBUILT_COUNT rebuilt
      match phase with
      | 2 =>
        if r.step ≠ 1 then s0
        else if !lost.isEmpty then s1.systemLost r
        else (s1.putSystem r.snap r.parts).updRestore fun r => { r with step := 2 }
      | 3 => if r.step ≠ 2 then s0 else (s1.putRegions r.snap lost).updRestore fun r => { r with step := 3 }
      | 4 =>
        if r.step ≠ 3 ∨ !r.parts.contains n ∨ r.loaded.contains n then s0
        else (s1.putImage n !lost.isEmpty).updRestore fun r => { r with loaded := r.loaded ++ [n] }
      | 5 =>
        if !r.loaded.contains n ∨ r.kept.contains n then s0
        else (s1.putHandles r.snap n lost).updRestore fun r => { r with kept := r.kept ++ [n] }
      | _ => s0)

/-- A warm partition leaves RESTORING (Table HU-6) (R308). -/
def State.exitWarm (s : State) (n st : Nat) : State :=
  let s1 := s.stopPart n
  if st = psRUNNING ∨ st = psDEGRADED ∨ (st = psFAULTED ∧ !s.rb (PFLT_STATUS_STICKY n)) then s.runPart n
  else if st = psDRAINING ∨ st = psDRAINED then s.setPst n psDRAINED
  else if st = psPAUSED then s.setPst n psPAUSED
  else s1

/-- RESTORE_EXIT: every partition has finished and the W2 is armed: all leave RESTORING in one step (Tables HU-4 to HU-6,
R307, R311). [entry 106 DEDUCED] -/
def execRestoreExit (energy at_ : Nat) (s : State) : Host.Outcome State Fault Refusal :=
  let s0 := (s.at at_).wf PWR_PACK_ENERGY_J energy
  .next (match s0.keeper.restore with
    | none => s
    | some r =>
      if r.step ≠ 3 ∨ !r.parts.all r.kept.contains ∨ !s0.armable then s
      else
        let warm := r.parts.filter fun n => !r.cold.contains n
        let s1 := warm.foldl (fun s n => s.exitWarm n (r.snap.pst n)) s0
        let s2 := r.cold.foldl State.stopPart s1
        let s3 := s2.wks [(KEEP_RESTORE_RESULT, if r.cold.isEmpty then 1 else 2),
          (KEEP_RESTORE_WARM_MASK, (warm.map fun n => 2 ^ n).sum), (KEEP_RESTORE_COLD_MASK, (r.cold.map fun n => 2 ^ n).sum)]
        ((((s3.updKeeper fun k => { k with restore := none }).freeSlots).setArmed true).setSeq 0).endHold)

end Sys2Proof.Machine
end

