-- ==== Sys2Proof/Machine/Supply.lean ====
section
/-! DEFINITION. The supply, droop stretching, SLOW, the pack, arming and the recount of handle keeps (14 R290 to R298,
19 R384). -/

namespace Sys2Proof.Machine

/-- The input carries the module. -/
def State.onInput (s : State) : Bool := s.powered && !s.keeper.isolated

/-! ### Table HU-1 -/

/-- SUPPLY_LOW: below 46 V for 20 µs. Whatever the event, its reading is a measurement of the input. -/
def execSupplyLow (mv at_ : Nat) (s : State) : Host.Outcome State Fault Refusal :=
  let s0 := s.at at_
  let s1 := s0.measure mv
  .next (if !s0.onInput then s0
    else if 46000 ≤ mv ∨ s0.keeper.low then s1
    else (((s1.updKeeper fun k => { k with low := true }).setSlow).setSupply.setCharging).raise 0xA001 pgPWR)

/-- SUPPLY_LOW_END: at or above 47 V for 10 ms. -/
def execSupplyLowEnd (mv at_ : Nat) (s : State) : Host.Outcome State Fault Refusal :=
  let s0 := s.at at_
  let s1 := s0.measure mv
  .next (if !s0.onInput then s0
    else if mv < 47000 ∨ !(s0.keeper.low || s0.keeper.dip) then s1
    else ((s1.updKeeper fun k => { k with low := false, dip := false }).setSlow).setSupply.setCharging)

/-- SUPPLY_DIP_END: a dip below 42 V, down to `lowest`, has lasted less than 200 µs: SLOW, until the input is back, and LOW_DIPS.
[entry 103 DEDUCED] -/
def execSupplyDipEnd (lowest mv at_ : Nat) (s : State) : Host.Outcome State Fault Refusal :=
  let s0 := s.at at_
  let s1 := (s0.measure lowest).measure mv
  .next (if !s0.onInput then s0
    else if 42000 ≤ lowest ∨ mv < 42000 then s1
    else ((s1.updKeeper fun k => { k with dip := true }).setSlow).bump PWR_LOW_DIPS_COUNT)

/-- POWER_FAIL: below 42 V for 200 µs. -/
def execPowerFail (mv at_ : Nat) (s : State) : Host.Outcome State Fault Refusal :=
  let s0 := s.at at_
  let s1 := s0.measure mv
  .next (if !s0.onInput then s0 else if 42000 ≤ mv then s1 else s1.powerFail)

/-- OVERVOLT: above 58 V for 100 µs. -/
def execOvervolt (mv at_ : Nat) (s : State) : Host.Outcome State Fault Refusal :=
  let s0 := s.at at_
  let s1 := s0.measure mv
  .next (if !s0.onInput then s0
    else if mv ≤ 58000 ∨ s0.keeper.overV then s1
    else ((s1.updKeeper fun k => { k with overV := true }).setSupply).raise 0xA002 pgPWR)

/-- OVERVOLT_END: at or below 58 V for 10 ms. -/
def execOvervoltEnd (mv at_ : Nat) (s : State) : Host.Outcome State Fault Refusal :=
  let s0 := s.at at_
  let s1 := s0.measure mv
  .next (if !s0.onInput then s0
    else if 58000 < mv ∨ !s0.keeper.overV then s1
    else (s1.updKeeper fun k => { k with overV := false }).setSupply)

/-- OVERVOLT_ISOLATE: above 61 V for 100 µs, handled as a power-fail. -/
def execOvervoltIsolate (mv at_ : Nat) (s : State) : Host.Outcome State Fault Refusal :=
  let s0 := s.at at_
  let s1 := s0.measure mv
  .next (if !s0.onInput then s0 else if mv ≤ 61000 then s1 else s1.powerFail)

/-- SUPPLY_RESTORED: R304. -/
def execSupplyRestored (mv at_ : Nat) (s : State) : Host.Outcome State Fault Refusal :=
  let s0 := s.at at_
  .next (match s0.keeper.backup with
    | none => s0
    | some b => if mv < 46000 then s0 else (s0.measure mv).updKeeper fun k => { k with backup := some { b with restored := true } })

/-! ### Droop (R291, R292) -/

/-- MAX_STEP; a value outside 1 to 4 counts as 4. -/
def State.maxStep (s : State) (p : Nat) : Nat :=
  let m := s.rf (DRP_CTRL_MAX_STEP p)
  if 1 ≤ m ∧ m ≤ 4 then m else 4

/-- The threshold of step `k` in mV. -/
def State.threshold (s : State) (p k : Nat) : Nat := s.rf (DRP_CTRL_THRESH_MV p) + 15 * (k - 1)

/-- The plain is, or is no longer, at MAX_STEP (R292). -/
def State.atMax (s : State) (p : Nat) : State :=
  let top := decide (s.maxStep p ≤ s.rf (DRP_STATUS_STEP p))
  s.updPlain p fun q => { q with maxSince := if top then some (q.maxSince.getD s.time) else none
                                 droopRaised := q.droopRaised && top }

/-- The step of a plain set. -/
def State.setStep (s : State) (p k : Nat) : State :=
  (s.wfs [(DRP_STATUS_STEP p, k), (DRP_PEAK_STEP p, max k (s.rf (DRP_PEAK_STEP p)))]).atMax p

/-- The sensor reports a droop. -/
def State.droopRead (s : State) (p mv : Nat) : State :=
  (s.wfs [(DRP_STATUS_DROOP_MV p, min mv 255), (DRP_PEAK_DROOP_MV p, max (min mv 255) (s.rf (DRP_PEAK_DROOP_MV p)))]).updPlain p
    fun q => { q with droops := (s.time, mv) :: q.droops.filter fun r => decide (mv < r.2) }

/-- No reading of the last RELEASE_US was less than 10 mV below the threshold of step `k` (R291). -/
def State.released (s : State) (p k : Nat) : Bool :=
  match (s.plain p).droops.find? fun r => decide (s.threshold p k < r.2 + 10) with
  | some r => decide (r.1 + s.rf (DRP_CTRL_RELEASE_US p) * 1000 ≤ s.time)
  | none => true

/-- A write to DRP.CTRL; a plain above a lowered MAX_STEP comes down to it. [entry 157 DEDUCED] -/
def State.drpCtrl (s : State) (p v m : Nat) : State :=
  let s1 := (s.stretchTo p).writeWord (plainPage p 3 + 0x100) v m
  if s1.maxStep p < s1.rf (DRP_STATUS_STEP p) then s1.setStep p (s1.maxStep p) else s1.atMax p

/-- The plain's clocks run. -/
def State.plainClocked (s : State) (p : Nat) : Bool := decide (p < 64) && s.plnState p != 4 && !s.gated

/-- DROOP_STEP_UP: the droop exceeds the threshold of the next step. -/
def execDroopStepUp (p mv at_ : Nat) (s : State) : Host.Outcome State Fault Refusal :=
  let s0 := s.at at_
  let k := s0.rf (DRP_STATUS_STEP p)
  let s1 := s0.droopRead p mv
  .next (if !s0.plainClocked p then s0
    else if s0.maxStep p ≤ k ∨ mv ≤ s0.threshold p (k + 1) then s1
    else
      let s2 := (s1.stretchTo p).setStep p (k + 1)
      if k = 0 then
        ((s2.bump (DRP_STRETCHES_COUNT p)).updPlain p fun q => { q with stretchAt := s2.time }).markSlowed (s2.plainPart p).toList
      else s2)

/-- DROOP_STEP_DOWN: the droop has stayed 10 mV below the threshold of the current step for RELEASE_US. -/
def execDroopStepDown (p mv at_ : Nat) (s : State) : Host.Outcome State Fault Refusal :=
  let s0 := s.at at_
  let k := s0.rf (DRP_STATUS_STEP p)
  let s1 := s0.droopRead p mv
  .next (if !s0.plainClocked p then s0
    else if k = 0 ∨ s0.threshold p k < mv + 10 ∨ !s0.released p k then s1
    else (s1.stretchTo p).setStep p (k - 1))

/-- PLAIN_DROOP: at MAX_STEP for longer than LIMIT_MS. -/
def execPlainDroop (p at_ : Nat) (s : State) : Host.Outcome State Fault Refusal :=
  let s0 := s.at at_
  .next (match (s0.plain p).maxSince with
    | some t =>
      if 64 ≤ p ∨ (s0.plain p).droopRaised ∨ s0.rf (DRP_STATUS_STEP p) < s0.maxStep p ∨ s0.time ≤ t + s0.rf (DRP_CTRL_LIMIT_MS p) * 1000000 then s0
      else (s0.updPlain p fun q => { q with droopRaised := true }).raise 0xA003 (plainPage p 3)
    | none => s0)

/-! ### SLOW, charging and arming -/

/-- A write to PWR.CTRL. -/
def State.pwrCtrl (s : State) (v m : Nat) : State := ((s.writeWord (pgPWR + 0x108) v m).setSlow).setCharging

/-- PWR_CTRL_WRITE: R293, R295. -/
def execPwrCtrlWrite (f : Nat) (v : BitVec 64) (s : State) : Host.Outcome State Fault Refusal :=
  .next (if s.pf0Writes f ∧ s.pageReady pgPWR then s.pwrCtrl v.toNat (2 ^ 64 - 1) else s)

/-- ARM_EVALUATE: the usable energy as measured and the Keeper's estimate of ARM_TIME; the conditions of R294 are evaluated.
ARMED and the PACK fields hold while the Keeper is down (R357). -/
def execArmEvaluate (energy est at_ : Nat) (s : State) : Host.Outcome State Fault Refusal :=
  let s0 := s.at at_
  .next (if !s0.powered ∨ !s0.rb MOD_STATUS_KEEPER_UP ∨ s0.frozen then s0
    else
      let s1 := s0.wfs [(PWR_PACK_ENERGY_J, energy), (PWR_ARM_TIME_SECONDS, est)]
      (s1.setArmed (s1.armable && !s1.restoring)).setCharging)

/-- PACK_CAPACITY_MEASURE: R296. -/
def execPackCapacityMeasure (cap at_ : Nat) (s : State) : Host.Outcome State Fault Refusal :=
  let s0 := s.at at_
  .next (if !s0.powered ∨ !s0.rb MOD_STATUS_KEEPER_UP then s0
    else
      let s1 := (s0.wk PWR_PACK_CAPACITY_J cap).setCharging
      if cap < 4200 then s1.raise 0xA004 pgPWR else s1)

/-- A PACK_FAULT: the pack is isolated and the W2 is not armed; a backup that runs cannot commit (R296, R384). [entry 103 DEDUCED] -/
def State.packFault (s : State) : State :=
  let s1 := (s.setPackOk.raise 0xA005 pgPWR)
  if s1.keeper.backup.isSome then s1.tear else s1.setArmed false

/-- PACK_FAULT: a cell imbalance, over-temperature or charger failure. -/
def execPackFault (s : State) : Host.Outcome State Fault Refusal :=
  .next (if s.powered then (s.updKeeper fun k => { k with packBad := true }).packFault else s)

/-- PACK_LATCH_OPEN: R384. -/
def execPackLatchOpen (s : State) : Host.Outcome State Fault Refusal :=
  let s1 := s.updKeeper fun k => { k with latchOpen := true }
  .next (if s.powered ∧ !s.keeper.latchOpen then s1.packFault else s1)

/-- PACK_LATCH_CLOSE: the loop is whole again. -/
def execPackLatchClose (s : State) : Host.Outcome State Fault Refusal :=
  let s1 := s.updKeeper fun k => { k with latchOpen := false }
  .next (if s.powered then s1.setPackOk else s1)

/-! ### Handle keeps (R298) -/

/-- Entries of a partition that may be honoured: by tile in order of Y then X, and by handle. -/
def State.keepables (s : State) (n : Nat) : List (Nat × Nat × Shelf) :=
  s.tiles.flatMap fun (e : Nat × Tile) =>
    if s.tilePart e.1 = some n then (e.2.shelf.filter fun h => h.2.keepable).map fun h => (e.1, h.1, h.2) else []

/-- Entries are honoured while the budget holds them; from the first that it does not, they are excluded. -/
def honourAll (budget : Nat) : Nat → Bool → List (Nat × Nat × Shelf) → List (Nat × Nat × Shelf × Bool)
  | _, _, [] => []
  | sum, ok, x :: l =>
    let fits := ok && decide (sum + x.2.2.length ≤ budget)
    (x.1, x.2.1, x.2.2, fits) :: honourAll budget (if fits then sum + x.2.2.length else sum) fits l

/-- KEEP_RECOUNT: after an apply that changed HANDLE_BUDGET or GEOM the partition is counted again; an entry newly excluded
raises KEEP_OVER. -/
def execKeepRecount (n : Nat) (s : State) : Host.Outcome State Fault Refusal :=
  .next (if 16 ≤ n ∨ !(s.part n).recount then s
    else
      let l := honourAll (s.rf (PKS_HANDLE_BUDGET_BYTES n)) 0 true (s.keepables n)
      let s1 := (s.updPart n fun p => { p with recount := false })
      let s2 := l.foldl (fun s x => s.updTile x.1 fun y =>
        { y with shelf := sset {} y.shelf x.2.1 { x.2.2.1 with hon := x.2.2.2, excl := !x.2.2.2 } }) s1
      if l.any fun x => !x.2.2.2 && !x.2.2.1.excl then ((s2.wf (PKS_STATUS_OVER n) 1).irqPart n 24).raise 0xB005 (partPage n 8)
      else s2)

end Sys2Proof.Machine
end

