-- ==== Sys2Proof/Machine/Clock.lean ====
section
/-! DEFINITION. What time alone does: the tick of 320 ns that a step takes when no command waits. In it a tile clock makes 352
cycles and a mesh clock 528, 528 / 32 rounds, at nominal rate (04 and 07, 1.10 GHz and 1.65 GHz; R158), halved by SLOW (14 R293) and lowered
by one eighth a stretch step (14 R291). -/

namespace Sys2Proof.Machine

/-- The length of a tick in ns. [entry 131 DESIGN CHOICE] -/
def tickNs : Nat := 320

/-- Eighths of clock edges that a plain keeps in a tick, over the halves that SLOW leaves (R20). [entry 132 DESIGN CHOICE] -/
def State.rateWith (s : State) (p : Nat) (slow : Bool) : Nat := (8 - s.rf (DRP_STATUS_STEP p)) * (if slow then 1 else 2)

/-- Mesh cycles that a plain would make in `n` ticks: to the end of its round at the rate that it has, and then as SLOW says, which
plains take up at a round boundary (R158, R293). [entry 90 DEDUCED] -/
def State.cyclesIn (s : State) (p n : Nat) : Nat :=
  let q := s.plain p
  let old := s.rateWith p q.slow; let new := s.rateWith p (s.rb PWR_STATUS_SLOW)
  let full := 33 * old * n; let rest := 32 - q.meshSub
  if old = new ∨ full ≤ rest then full else rest + (full - rest) * new / old

/-- Where a plain's count would come to in `n` ticks: not past the boundary at which it takes its epoch tick (R166). [entry 4 DESIGN CHOICE] -/
def State.meshFree (s : State) (n p : Nat) : Nat :=
  if s.clocked p then
    min (s.meshAt p + s.cyclesIn p n) ((s.rf (MESH_ROUND_COUNT p) / 256 + 1) * 8192 - 1)
  else s.meshAt p

/-- A plain of the partition that holds plain `p` is stretched (R160). -/
def State.stretched (s : State) (p : Nat) : Bool :=
  match s.plainPart p with
  | some n => (s.plainsOf n).any fun r => decide (0 < s.rf (DRP_STATUS_STEP r))
  | none => false

/-- One pass of gating over the counts of all plains: a plain does not start round n + 2 before each gating neighbour has
started round n + 1; with nothing stretched it keeps step with them (R159, R160). [entry 4 DESIGN CHOICE] -/
def State.gatePass (s : State) (m : List Nat) : List Nat :=
  (List.range 64).map fun p =>
    let slack := if s.stretched p then 1 else 0
    (s.gates p).foldl (fun v r =>
      let cap := if slack = 0 then m.getD r 0 else (m.getD r 0 / 32 + 2) * 32 - 1
      max (s.meshAt p) (min v cap)) (m.getD p 0)

/-- The counts that the plains come to. -/
def State.meshNext (s : State) (n : Nat) : List Nat :=
  (List.range 14).foldl (fun m _ => s.gatePass m) ((List.range 64).map (s.meshFree n))

/-- A plain comes to a mesh count, at the rate that SLOW gives it once a round has ended; rounds that a gate made it wait for count
in GATE_WAITS (R159, Table FB-5). -/
def State.meshTo (s : State) (p n v : Nat) : State :=
  let late := s.meshFree n p / 32 - v / 32
  ((s.wf (MESH_ROUND_COUNT p) (v / 32)).bump (MESH_GATE_WAITS_COUNT p) late).updPlain p fun q =>
    { q with meshSub := v % 32
             slow := if v / 32 = s.rf (MESH_ROUND_COUNT p) then q.slow else s.rb PWR_STATUS_SLOW
             tileCyc := q.tileCyc + s.cyclesIn p n * 2 / 3 }

/-- Tiles whose RUN is set, found in the field store. -/
def State.runTiles (s : State) : List Nat :=
  (srange s.fld (tilePage 0 * 64) (tilePage 0x40000 * 64)).filterMap fun e =>
    let t := (e.1 / 64 - tilePage 0) / 0x1000
    if e.1 = (TILE_CTRL_RUN t).key ∧ e.2 = 1 then some t else none

/-- The core counts idle cycles: RUN is 1, it runs, and no task runs or is READY (R89). -/
def State.coreIdle (s : State) (t : Nat) : Bool :=
  s.tileLive t && (s.tile t).cur.isNone && (List.range 16).all fun k => s.taskSt t k != 2

/-- A tick of an idle block: module time, the plains' clocks, STRETCH_US, and IDLE_CYCLES of idle cores (R89). The clocks make up for
the whole ticks that events have moved time by since the last one. [entries 3 DESIGN CHOICE, 131 DESIGN CHOICE] -/
def State.tick (s : State) : State :=
  if s.keeper.phase = 0 then s
  else
    let n := (s.time + tickNs - s.clockAt) / tickNs
    let s0 : State := { s with time := s.time + tickNs, clockAt := s.clockAt + n * tickNs }
    if s.keeper.phase < 4 then s0
    else
      let m := s.meshNext n
      let s1 := s0.forEach ((List.range 64).filter s.clocked) fun s' p => (s'.meshTo p n (m.getD p 0)).stretchTo p
      s1.forEach (s.runTiles.filter s.coreIdle) fun s' t =>
        s'.bump (TILE_IDLE_CYCLES_COUNT t) (s.cyclesIn (plainOf t) n * 2 / 3)

end Sys2Proof.Machine
end

