-- ==== Sys2Proof/Machine/Arith.lean ====
section
/-! DEFINITION. The scalar and vector arithmetic of format F (05 Table IS-4, R112 to R118). -/

namespace Sys2Proof.Machine

/-- Element `e` of a source register by KIND; a scalar is its own element. -/
def Tile.fSrc (x : Tile) (a : FArgs) (r e : Nat) : Nat :=
  if a.kind = 1 then elGet (x.vreg r).toNat (tyBits a.t.toNat) e else (x.sreg r).toNat

/-- Element `e` of the second source: RB, or the low bits of the immediate (R112). -/
def Tile.fSrcB (x : Tile) (a : FArgs) (e : Nat) : Nat :=
  if a.i = 1 then a.imm.toNat % 2 ^ tyBits a.t.toNat else x.fSrc a a.rb.toNat e

/-- RD written element by element, or as a scalar, from a function of the element index (R94, R95). -/
def State.fWrite (s : State) (t k : Nat) (g : Guard) (a : FArgs) (f : Nat → Nat × NFlags) : Issue :=
  let x := s.tile t
  let gv := x.guard k g
  let w := tyBits a.t.toNat
  if a.kind = 1 then
    let r := vecMap gv w (x.vreg a.rd.toNat).toNat f (256 / w)
    .done ((s.updTile t fun x => x.wvreg a.rd.toNat (BitVec.ofNat 256 r.1)).setFlags t r.2)
  else if gv.testBit 0 then
    .done ((s.updTile t fun x => x.wsreg a.rd.toNat (BitVec.ofNat 32 (f 0).1)).setFlags t (f 0).2)
  else .done s

/-- A format F instruction whose result is a function of its elements: type, RA, RB or immediate, RC. -/
def State.fArith (s : State) (t : Nat) (g : Guard) (sp : FSpec) (a : FArgs)
    (el : Nat → Nat → Nat → Nat → Nat × NFlags) : State :=
  s.issue t (fDecodes sp a) fun k =>
    let x := s.tile t
    s.fWrite t k g a fun e => el a.t.toNat (x.fSrc a a.ra.toNat e) (x.fSrcB a e) (x.fSrc a a.rc.toNat e)

/-- A compare: predicate RD takes each element's result in every bit of its bytes; a scalar result fills it (R115). -/
def State.fCompare (s : State) (t : Nat) (g : Guard) (a : FArgs) (el : Nat → Nat → Nat → Bool) : State :=
  s.issue t (fDecodes fsCmp a) fun k =>
    let x := s.tile t
    let gv := x.guard k g
    let w := tyBits a.t.toNat
    let f := fun e => el a.t.toNat (x.fSrc a a.ra.toNat e) (x.fSrcB a e)
    if a.kind = 1 then
      let r := predMap gv w (x.pred k a.rd.toNat).toNat f (256 / w)
      .done (s.updTile t fun x => x.wpred k a.rd.toNat (BitVec.ofNat 32 r))
    else if gv.testBit 0 then
      .done (s.updTile t fun x => x.wpred k a.rd.toNat (if f 0 then BitVec.allOnes 32 else 0))
    else .done s

/-- A predicate instruction: predicate RD from predicate RA and predicate RB or the immediate. -/
def State.fPred (s : State) (t : Nat) (g : Guard) (sp : FSpec) (a : FArgs) (f : W32 → W32 → W32) : State :=
  s.issueG t g (fDecodes sp a) fun k =>
    let x := s.tile t
    let b := if a.i = 1 then a.imm else x.pred k a.rb.toNat
    .done (s.updTile t fun y => y.wpred k a.rd.toNat (f (x.pred k a.ra.toNat) b))

/-- ADD: Table IS-4, R113. [entry 16 DESIGN CHOICE] -/
def execAdd (t : Nat) (g : Guard) (a : FArgs) (s : State) : Host.Outcome State Fault Refusal :=
  .next (s.fArith t g fsInt2 a fun ty x y _ => elAdd ty x y)

/-- SUB: Table IS-4, R113. -/
def execSub (t : Nat) (g : Guard) (a : FArgs) (s : State) : Host.Outcome State Fault Refusal :=
  .next (s.fArith t g fsInt2 a fun ty x y _ => elSub ty x y)

/-- MUL: Table IS-4, R113. -/
def execMul (t : Nat) (g : Guard) (a : FArgs) (s : State) : Host.Outcome State Fault Refusal :=
  .next (s.fArith t g fsInt2 a fun ty x y _ => elMul ty x y)

/-- MULH: Table IS-4, R112. -/
def execMulh (t : Nat) (g : Guard) (a : FArgs) (s : State) : Host.Outcome State Fault Refusal :=
  .next (s.fArith t g fsInt2 a fun ty x y _ => elMulh ty x y)

/-- AND: Table IS-4, R112. -/
def execAnd (t : Nat) (g : Guard) (a : FArgs) (s : State) : Host.Outcome State Fault Refusal :=
  .next (s.fArith t g fsInt2 a fun ty x y _ => elAnd ty x y)

/-- OR: Table IS-4, R112. -/
def execOr (t : Nat) (g : Guard) (a : FArgs) (s : State) : Host.Outcome State Fault Refusal :=
  .next (s.fArith t g fsInt2 a fun ty x y _ => elOr ty x y)

/-- XOR: Table IS-4, R112. -/
def execXor (t : Nat) (g : Guard) (a : FArgs) (s : State) : Host.Outcome State Fault Refusal :=
  .next (s.fArith t g fsInt2 a fun ty x y _ => elXor ty x y)

/-- ANDN: Table IS-4, R112. -/
def execAndn (t : Nat) (g : Guard) (a : FArgs) (s : State) : Host.Outcome State Fault Refusal :=
  .next (s.fArith t g fsInt2 a fun ty x y _ => elAndn ty x y)

/-- SHL: Table IS-4, R112. -/
def execShl (t : Nat) (g : Guard) (a : FArgs) (s : State) : Host.Outcome State Fault Refusal :=
  .next (s.fArith t g fsInt2 a fun ty x y _ => elShl ty x y)

/-- SHR: Table IS-4, R112. -/
def execShr (t : Nat) (g : Guard) (a : FArgs) (s : State) : Host.Outcome State Fault Refusal :=
  .next (s.fArith t g fsInt2 a fun ty x y _ => elShr ty x y)

/-- MIN: Table IS-4, R112. -/
def execMin (t : Nat) (g : Guard) (a : FArgs) (s : State) : Host.Outcome State Fault Refusal :=
  .next (s.fArith t g fsInt2 a fun ty x y _ => elMin ty x y)

/-- MAX: Table IS-4, R112. -/
def execMax (t : Nat) (g : Guard) (a : FArgs) (s : State) : Host.Outcome State Fault Refusal :=
  .next (s.fArith t g fsInt2 a fun ty x y _ => elMax ty x y)

/-- ADDS: Table IS-4, R113. -/
def execAdds (t : Nat) (g : Guard) (a : FArgs) (s : State) : Host.Outcome State Fault Refusal :=
  .next (s.fArith t g fsInt2 a fun ty x y _ => elAdds ty x y)

/-- SUBS: Table IS-4, R113. -/
def execSubs (t : Nat) (g : Guard) (a : FArgs) (s : State) : Host.Outcome State Fault Refusal :=
  .next (s.fArith t g fsInt2 a fun ty x y _ => elSubs ty x y)

/-- FADD: Table IS-4, R114. -/
def execFadd (t : Nat) (g : Guard) (a : FArgs) (s : State) : Host.Outcome State Fault Refusal :=
  .next (s.fArith t g fsFlt2 a fun ty x y _ => elFadd ty x y)

/-- FSUB: Table IS-4, R114. -/
def execFsub (t : Nat) (g : Guard) (a : FArgs) (s : State) : Host.Outcome State Fault Refusal :=
  .next (s.fArith t g fsFlt2 a fun ty x y _ => elFsub ty x y)

/-- FMUL: Table IS-4, R114. -/
def execFmul (t : Nat) (g : Guard) (a : FArgs) (s : State) : Host.Outcome State Fault Refusal :=
  .next (s.fArith t g fsFlt2 a fun ty x y _ => elFmul ty x y)

/-- FMIN: Table IS-4, R114. -/
def execFmin (t : Nat) (g : Guard) (a : FArgs) (s : State) : Host.Outcome State Fault Refusal :=
  .next (s.fArith t g fsFlt2 a fun ty x y _ => elFmin ty x y)

/-- FMAX: Table IS-4, R114. -/
def execFmax (t : Nat) (g : Guard) (a : FArgs) (s : State) : Host.Outcome State Fault Refusal :=
  .next (s.fArith t g fsFlt2 a fun ty x y _ => elFmax ty x y)

/-- ABS: Table IS-4, R112. -/
def execAbs (t : Nat) (g : Guard) (a : FArgs) (s : State) : Host.Outcome State Fault Refusal :=
  .next (s.fArith t g fsInt1 a fun ty x _ _ => elAbs ty x)

/-- FNEG: Table IS-4, R114. -/
def execFneg (t : Nat) (g : Guard) (a : FArgs) (s : State) : Host.Outcome State Fault Refusal :=
  .next (s.fArith t g fsFlt1 a fun ty x _ _ => elFneg ty x)

/-- FABS: Table IS-4, R114. -/
def execFabs (t : Nat) (g : Guard) (a : FArgs) (s : State) : Host.Outcome State Fault Refusal :=
  .next (s.fArith t g fsFlt1 a fun ty x _ _ => elFabs ty x)

/-- MOV copies bits (R112). -/
def execMov (t : Nat) (g : Guard) (a : FArgs) (s : State) : Host.Outcome State Fault Refusal :=
  .next (s.fArith t g fsMov a fun _ _ y _ => (y, {}))

/-- FMA: R114, one rounding of the exact product plus RC. -/
def execFma (t : Nat) (g : Guard) (a : FArgs) (s : State) : Host.Outcome State Fault Refusal :=
  .next (s.fArith t g fsFma a elFma)

/-- CMPEQ: R115. -/
def execCmpeq (t : Nat) (g : Guard) (a : FArgs) (s : State) : Host.Outcome State Fault Refusal :=
  .next (s.fCompare t g a elCmpEq)

/-- CMPNE: R115. -/
def execCmpne (t : Nat) (g : Guard) (a : FArgs) (s : State) : Host.Outcome State Fault Refusal :=
  .next (s.fCompare t g a elCmpNe)

/-- CMPLT: R115. -/
def execCmplt (t : Nat) (g : Guard) (a : FArgs) (s : State) : Host.Outcome State Fault Refusal :=
  .next (s.fCompare t g a elCmpLt)

/-- CMPLE: R115. -/
def execCmple (t : Nat) (g : Guard) (a : FArgs) (s : State) : Host.Outcome State Fault Refusal :=
  .next (s.fCompare t g a elCmpLe)

/-- SEL: RA where predicate RC is true at the element's lowest byte (a scalar: bit 0), else RB (R116). -/
def execSel (t : Nat) (g : Guard) (a : FArgs) (s : State) : Host.Outcome State Fault Refusal :=
  .next (s.issue t (fDecodes fsSel a) fun k =>
    let x := s.tile t
    let m := (x.pred k a.rc.toNat).toNat
    s.fWrite t k g a fun e =>
      let bit := if a.kind = 1 then e * tyBits a.t.toNat / 8 else 0
      (if m.testBit bit then x.fSrc a a.ra.toNat e else x.fSrc a a.rb.toNat e, {}))

/-- The vector CVT built element by element over RD: result element DL × N + j from source element SL × N + j, guarded
by its own lowest byte (R117). -/
def cvtVec (gv t ts : Nat) (sc : Int) (sl dl src old : Nat) : Nat → Nat × NFlags
  | 0 => (old, {})
  | j + 1 =>
    let r := cvtVec gv t ts sc sl dl src old j
    let n := cvtCount t ts
    let d := dl * n + j
    if gv.testBit (d * tyBits t / 8) then
      let c := cvtElem ts t sc (elGet src (tyBits ts) (sl * n + j))
      (elSet r.1 (tyBits t) d c.1, r.2.or c.2)
    else r

/-- CVT: R102, R117. -/
def execCvt (t : Nat) (g : Guard) (a : FArgs) (s : State) : Host.Outcome State Fault Refusal :=
  .next (s.issue t (fDecodes fsCvt a) fun k =>
    let x := s.tile t
    let gv := x.guard k g
    let ty := a.t.toNat; let ts := a.ts.toNat
    if a.kind = 1 then
      let r := cvtVec gv ty ts a.scale.toInt a.rb.toNat a.rc.toNat (x.vreg a.ra.toNat).toNat
        (x.vreg a.rd.toNat).toNat (cvtCount ty ts)
      .done ((s.updTile t fun x => x.wvreg a.rd.toNat (BitVec.ofNat 256 r.1)).setFlags t r.2)
    else if gv.testBit 0 then
      let r := cvtElem ts ty a.scale.toInt ((x.sreg a.ra.toNat).toNat % 2 ^ tyBits ts)
      .done ((s.updTile t fun x => x.wsreg a.rd.toNat (BitVec.ofNat 32 r.1)).setFlags t r.2)
    else .done s)

/-- The included elements of a reduction: those whose mask bit at the lowest byte is true (R118). -/
def redElems (m ty v : Nat) : List (Bool × Nat) :=
  (List.range (256 / tyBits ty)).map fun e => (m.testBit (e * tyBits ty / 8), elGet v (tyBits ty) e)

/-- The scalar of REDADD (R118). -/
def redAdd (ty : Nat) (l : List (Bool × Nat)) : Nat × NFlags :=
  match tyFmt ty with
  | some f =>
    let r := pairSum 8 (l.map fun p => if p.1 then f.unpack p.2 else .fin false 0 0)
    (((fFP32.pack r.1).1), r.2)
  | none => (ofSigned ((l.map fun p => if p.1 then tyInt ty p.2 else 0).sum) 32, {})

/-- The scalar of REDMAX (R118). [entry 22 DEDUCED] -/
def redMax (ty : Nat) (l : List (Bool × Nat)) : Nat :=
  let inc := l.filter (·.1)
  match tyFmt ty with
  | some f =>
    let vs := inc.map fun p => f.unpack p.2
    if vs.any FVal.isNan then fFP32.nanBits
    else (fFP32.pack (vs.foldl (fun m v => if m.cmpZ v = .lt then v else m) (.inf true))).1
  | none => ofSigned ((inc.map fun p => tyInt ty p.2).foldl max (tyRange ty).1) 32

/-- REDADD: R118. -/
def execRedadd (t : Nat) (g : Guard) (a : FArgs) (s : State) : Host.Outcome State Fault Refusal :=
  .next (s.issueG t g (fDecodes fsRed a) fun k =>
    let x := s.tile t
    let r := redAdd a.t.toNat (redElems (x.pred k a.rc.toNat).toNat a.t.toNat (x.vreg a.ra.toNat).toNat)
    .done ((s.updTile t fun x => x.wsreg a.rd.toNat (BitVec.ofNat 32 r.1)).setFlags t r.2))

/-- REDMAX: R118. -/
def execRedmax (t : Nat) (g : Guard) (a : FArgs) (s : State) : Host.Outcome State Fault Refusal :=
  .next (s.issueG t g (fDecodes fsRed a) fun k =>
    let x := s.tile t
    let r := redMax a.t.toNat (redElems (x.pred k a.rc.toNat).toNat a.t.toNat (x.vreg a.ra.toNat).toNat)
    .done (s.updTile t fun x => x.wsreg a.rd.toNat (BitVec.ofNat 32 r)))

/-- VBCAST: every guarded element of vector RD takes the low bits of scalar RA. -/
def execVbcast (t : Nat) (g : Guard) (a : FArgs) (s : State) : Host.Outcome State Fault Refusal :=
  .next (s.issue t (fDecodes fsBcast a) fun k =>
    let x := s.tile t
    let w := tyBits a.t.toNat
    let r := vecMap (x.guard k g) w (x.vreg a.rd.toNat).toNat (fun _ => ((x.sreg a.ra.toNat).toNat, {})) (256 / w)
    .done (s.updTile t fun x => x.wvreg a.rd.toNat (BitVec.ofNat 256 r.1)))

/-- VEXT: scalar RD takes element IMM of vector RA, sign-extended for a signed type (R112). -/
def execVext (t : Nat) (g : Guard) (a : FArgs) (s : State) : Host.Outcome State Fault Refusal :=
  .next (s.issueG t g (fDecodes fsVext a) fun _ =>
    let x := s.tile t
    let ty := a.t.toNat
    let e := elGet (x.vreg a.ra.toNat).toNat (tyBits ty) a.imm.toNat
    let r := if (tyFmt ty).isSome then e else ofSigned (tyInt ty e) 32
    .done (s.updTile t fun x => x.wsreg a.rd.toNat (BitVec.ofNat 32 r)))

/-- VINS: element IMM of vector RD takes the low bits of scalar RA, if its guard is true. -/
def execVins (t : Nat) (g : Guard) (a : FArgs) (s : State) : Host.Outcome State Fault Refusal :=
  .next (s.issue t (fDecodes fsVins a) fun k =>
    let x := s.tile t
    let w := tyBits a.t.toNat
    let e := a.imm.toNat
    if (x.guard k g).testBit (e * w / 8) then
      .done (s.updTile t fun y =>
        y.wvreg a.rd.toNat (BitVec.ofNat 256 (elSet (x.vreg a.rd.toNat).toNat w e (x.sreg a.ra.toNat).toNat)))
    else .done s)

/-- PAND: R115. -/
def execPand (t : Nat) (g : Guard) (a : FArgs) (s : State) : Host.Outcome State Fault Refusal :=
  .next (s.fPred t g fsPred2 a fun x y => x &&& y)

/-- POR: R115. -/
def execPor (t : Nat) (g : Guard) (a : FArgs) (s : State) : Host.Outcome State Fault Refusal :=
  .next (s.fPred t g fsPred2 a fun x y => x ||| y)

/-- PXOR: R115. -/
def execPxor (t : Nat) (g : Guard) (a : FArgs) (s : State) : Host.Outcome State Fault Refusal :=
  .next (s.fPred t g fsPred2 a fun x y => x ^^^ y)

/-- PNOT: R115. -/
def execPnot (t : Nat) (g : Guard) (a : FArgs) (s : State) : Host.Outcome State Fault Refusal :=
  .next (s.fPred t g fsPnot a fun x _ => ~~~x)

/-- PFROMS: predicate RD takes all 32 bits of scalar RA. -/
def execPfroms (t : Nat) (g : Guard) (a : FArgs) (s : State) : Host.Outcome State Fault Refusal :=
  .next (s.issueG t g (fDecodes fsPfroms a) fun k =>
    .done (s.updTile t fun x => x.wpred k a.rd.toNat (x.sreg a.ra.toNat)))

/-- SFROMP: scalar RD takes all 32 bits of predicate RA. -/
def execSfromp (t : Nat) (g : Guard) (a : FArgs) (s : State) : Host.Outcome State Fault Refusal :=
  .next (s.issueG t g (fDecodes fsSfromp a) fun k =>
    .done (s.updTile t fun x => x.wsreg a.rd.toNat (x.pred k a.ra.toNat)))

end Sys2Proof.Machine
end

