-- ==== Sys2Proof/Machine/Tasks.lean ====
section
/-! DEFINITION. Task selection and instruction fetch (04 R86 to R92, R398; 05 R110, R127). -/

namespace Sys2Proof.Machine

/-- The first task of a list of candidates above the task that last ran, wrapping (R89). -/
def nextTask (last : Nat) (ok : Nat → Bool) : Option Nat :=
  ((List.range 16).map fun i => (last + 1 + i) % 16).find? ok

/-- The task that the core selects: READY and URGENT first, then any READY task (R89). -/
def State.selectTask (s : State) (t : Nat) : Option Nat :=
  let x := s.tile t
  match nextTask x.last fun k => s.taskSt t k == 2 && (x.task k).urgent with
  | some k => some k
  | none => nextTask x.last fun k => s.taskSt t k == 2

/-- A selected task runs: its firing starts at ENTRY, or it goes on at its PC; the instruction buffer empties (R85, R87,
R127). [entry 6 DEDUCED] -/
def State.runTask (s : State) (t k : Nat) : State :=
  let x := (s.tile t).task k
  let s1 := (s.wf (TILE_TASK_STATE_STATE t k) 3).updTile t fun y => { y with cur := some k, ibuf := [] }
  if x.mid then s1.updTile t fun y => y.setTask k { x with mid := false }
  else
    let s2 := ((s1.wf (TILE_TASK_STATE_PC t k) x.entry).bump (TILE_FIRES_COUNT t)).bump (TILE_TASK_STATE_FIRES t k)
    match s.tilePart t with
    | some n => s2.watchRestart n
    | none => s2

/-- TASK_DISPATCH: R86, R89. -/
def execTaskDispatch (t : Nat) (s : State) : Host.Outcome State Fault Refusal :=
  .next (if s.mayFire t && (s.tile t).cur.isNone then
    let s1 := s.promote t
    (match s1.selectTask t with
     | some k => s1.runTask t k
     | none => s1)
  else s)

/-- A queued matrix operation has yet to write an accumulator (R88, R98). -/
def Tile.accPending (x : Tile) (a : Nat) : Bool :=
  x.mq.any fun m => !m.finished &&
    (match m.kind with
     | .mma | .mza | .mwra => m.acc == a
     | .mmas => !m.spb && m.acc == a
     | .mmag => m.bind.testBit 11 && bits m.bind 15 2 == a
     | _ => false)

/-- The cause that WAIT_ON records has cleared (R88). -/
def State.causeCleared (s : State) (t k : Nat) : Bool :=
  let w := s.rf (TILE_TASK_STATE_WAIT_ON t k)
  let x := s.tile t
  if w < 8 then !(x.inQ w).isEmpty
  else if w < 16 then decide (0 < s.outRoom t (w - 8))
  else if w = 16 then decide (x.mq.length < 8)
  else !x.accPending (x.task k).waitAcc

/-- TASK_UNBLOCK: R88. -/
def execTaskUnblock (t k : Nat) (s : State) : Host.Outcome State Fault Refusal :=
  .next (if s.taskSt t k = 4 ∧ s.causeCleared t k ∧ s.tileLive t then s.wf (TILE_TASK_STATE_STATE t k) 2 else s)

/-- INSTRUCTION_FETCH: one group of four instructions comes into the buffer, on demand, in place of the group used least
recently where no entry is free, or ahead of demand, which a load or store that waits for the desk precedes (R398); a word
that cannot be corrected is marked damaged (R134). -/
def execInstructionFetch (t g : Nat) (ecc : List Ecc) (s : State) : Host.Outcome State Fault Refusal :=
  .next (match s.running t with
    | none => s
    | some k =>
      let x := s.tile t
      let cur := s.rf (TILE_TASK_STATE_PC t k) / 4
      let held := x.ibuf.any (·.g == g)
      let demand := g == cur
      let ahead := g == cur + 1 && decide (x.ibuf.length < 16) && !x.deskWait.any fun r => r.who == 0 && r.via == 0
      if held || !(demand || ahead) || decide (1536 ≤ g) then s
      else
        let word := fun i => s.eccOf (tkey t (32 * g + 8 * i)) 8 (ecc.getD i .clean)
        let marks := ((List.range 4).map fun i => b2n (word i == .bad) * 2 ^ i).sum
        let e : IGroup := { g := g, words := s.rdMem (tkey t (32 * g)) 32, marks := marks }
        let s1 := s.updTile t fun y =>
          if demand then { y with ibuf := e :: y.ibuf.take 15 } else { y with ibuf := y.ibuf ++ [e] }
        s1.forEach (List.range 4) fun s i =>
          match word i with
          | .corrected => s.raiseTile t 1
          | e => s.noteEcc (tkey t (32 * g + 8 * i)) 8 e)

end Sys2Proof.Machine
end

