-- ==== Sys2Proof/Machine/Matrix.lean ====
section
/-! DEFINITION. The dense matrix unit: issue of the X instructions, the issue queue and its three paths, rows of MMA,
MMAG, MLDW, MZA, MWRA and MSTA (04 R97 to R99, R104, R106, R107; 05 R123 to R125, R399). -/

namespace Sys2Proof.Machine

/-! ### Formats (Tables TL-3, IS-9) -/

/-- The type code of an operand format FA or FB. -/
def fmtType (f : Nat) : Nat :=
  match f with
  | 0 => 9
  | 1 => 10
  | 2 => 11
  | 3 => 12
  | 4 => 0
  | 5 => 1
  | _ => 6

/-- The pairs of formats that Table TL-3 lists. -/
def fmtPairOk (a b : Nat) : Bool :=
  match a with
  | 0 | 1 => b == a
  | 2 | 3 => b == 2 || b == 3
  | 4 | 5 => b == 4 || b == 5
  | _ => b == 6

/-- K of an operation: the elements of a 32 B row. -/
def fmtK (f : Nat) : Nat := 256 / tyBits (fmtType f)

/-! ### Which words decode (Table IS-10, R205, R399) -/

/-- The types that MSTA converts to (R124). -/
def mstaTypes : List Nat := [0, 1, 4, 6, 8, 9, 10, 11, 12]

/-- An X word uses only the fields given; `src` 0: neither QA nor RB, 1: by DQ, 2: RB as an even vector pair. -/
def xUses (a : XArgs) (acc wb fmts za dq : Bool) (src : Nat) (stride qo tsc row sp : Bool) : Bool :=
  (acc || a.acc == 0) && (wb || a.wb == 0) && (if fmts then a.fa != 7 && a.fb != 7 else a.fa == 0 && a.fb == 0) &&
  (za || a.za == 0) && (dq || a.dq == 0) &&
  (match src with
   | 0 => a.qa == 0 && a.rb == 0
   | 1 => if a.dq = 1 then a.rb == 0 else a.qa == 0
   | _ => a.qa == 0 && decide (a.rb.toNat < 15) && a.rb.toNat % 2 == 0) &&
  (stride || a.stride == 0) && (qo || a.qo == 0) && (tsc || (a.t == 0 && a.scale == 0)) && (row || a.row == 0) &&
  (sp || (a.spm == 0 && a.spb == 0))

def mldwDecodes (a : XArgs) : Bool := xUses a false true false false true 1 false false false false false
def mmaDecodes (a : XArgs) : Bool := xUses a true true true true true 1 (a.dq == 0) false false false false
/-- ZA of MMAG is used only where POUT_DST adds into the accumulator. -/
def mmagDecodes (a : XArgs) (poutDst : Bool) : Bool :=
  xUses a false true true poutDst false 0 false false false false false
/-- MMAS: Table SP-1 and R205. -/
def mmasDecodes (a : XArgs) : Bool :=
  xUses a (a.spb == 0) (a.spb == 0) true (a.spb == 0) true 1 false (a.spb == 1) false false true && a.spm != 3 &&
  (a.spb == 0 || a.spm == 0)
def mzaDecodes (a : XArgs) : Bool := xUses a true false false false false 0 false false false false false
def mwraDecodes (a : XArgs) : Bool := xUses a true false false false false 2 false false false true false
def mstaDecodes (a : XArgs) : Bool :=
  a.qa == 0 && (if a.dq = 1 then a.rb == 0 else a.qo == 0) && mstaTypes.contains a.t.toNat &&
  a.wb == 0 && a.fa == 0 && a.fb == 0 && a.za == 0 && a.stride == 0 && a.row == 0 && a.spm == 0 && a.spb == 0
def mrdaDecodes (a : XArgs) : Bool := xUses a true false false false false 2 false false false true false

/-! ### Issue (R125) -/

/-- The operands of an X word as a queued operation takes them at issue. -/
def Tile.mop (x : Tile) (k : Nat) (kd : MKind) (a : XArgs) : MOp :=
  { kind := kd, task := k, acc := a.acc.toNat, wb := a.wb.toNat, fa := a.fa.toNat, fb := a.fb.toNat, za := a.za == 1,
    dq := a.dq == 1, qa := a.qa.toNat, base := (x.sreg a.rb.toNat).toNat, stride := a.stride.toNat, qo := a.qo.toNat,
    ty := a.t.toNat, scale := a.scale.toInt, row := a.row.toNat, spm := a.spm.toNat, spb := a.spb == 1 }

/-- An operation past its checks enters the issue queue, or blocks while that is full (R88, R98). -/
def State.mqPush (s : State) (t : Nat) (m : MOp) : Issue :=
  if 8 ≤ (s.tile t).mq.length then .block 16
  else
    let pc := s.rf (TILE_TASK_STATE_PC t m.task)
    .done (s.updTile t fun x => { x with mq := x.mq ++ [{ m with pc := pc }] })

/-- The checks of a desk operand: alignment, and `n` bytes inside the desk. [entry 23 DEDUCED] -/
def deskRange (ea al n : Nat) : List (Bool × Nat) := [(ea % al != 0, 0x1004), (decide (0xC000 < ea + n), 0x1005)]

/-- The check of a declared input or output queue (R90). -/
def State.inDecl (s : State) (t k q : Nat) : Bool × Nat := (!(((s.tile t).task k).inMask.testBit q), 0x1003)
def State.outDecl (s : State) (t k q : Nat) : Bool × Nat := (!(((s.tile t).task k).outMask.testBit q), 0x1003)

/-- MLDW. -/
def execMldw (t : Nat) (g : Guard) (a : XArgs) (s : State) : Host.Outcome State Fault Refusal :=
  .next (s.issueG t g (mldwDecodes a) fun k =>
    let m := (s.tile t).mop k .mldw a
    checked (if m.dq then [s.inDecl t k m.qa] else deskRange m.base 64 512) (s.mqPush t m))

/-- MMA. -/
def execMma (t : Nat) (g : Guard) (a : XArgs) (s : State) : Host.Outcome State Fault Refusal :=
  .next (s.issueG t g (mmaDecodes a) fun k =>
    let m := (s.tile t).mop k .mma a
    checked ((!fmtPairOk m.fa m.fb, 0x1002) ::
      (if m.dq then [s.inDecl t k m.qa] else deskRange m.base 32 (15 * m.stride * 32 + 32))) (s.mqPush t m))

/-- TILE.GANG as one number. [entry 25 DESIGN CHOICE] -/
def State.gang (s : State) (t : Nat) : Nat := s.regWord (tilePage t + 0x148)

/-- MMAG, with the binding in TILE.GANG as it stands at issue. -/
def execMmag (t : Nat) (g : Guard) (a : XArgs) (s : State) : Host.Outcome State Fault Refusal :=
  let b := s.gang t
  .next (s.issueG t g (mmagDecodes a (b.testBit 11)) fun k =>
    let m : MOp := { (s.tile t).mop k .mmag a with bind := b }
    checked ([(!fmtPairOk m.fa m.fb, 0x1002), s.inDecl t k (bits b 0 3)] ++
      (if b.testBit 3 then [s.outDecl t k (bits b 4 3)] else []) ++
      (if b.testBit 7 then [s.inDecl t k (bits b 8 3)] else []) ++
      (if b.testBit 11 then [] else [s.outDecl t k (bits b 12 3)])) (s.mqPush t m))

/-- MMAS: it captures TILE.SPARSE and resolves B_H at issue (R205, R209) (R215). -/
def execMmas (t : Nat) (g : Guard) (a : XArgs) (s : State) : Host.Outcome State Fault Refusal :=
  .next (s.issueG t g (mmasDecodes a) fun k =>
    let h := s.resolve t (s.rf (TILE_SPARSE_B_H t))
    let m : MOp := { (s.tile t).mop k .mmas a with
      bind := s.regWord (tilePage t + 0xE00), bBase := tkey t ((h.map (·.base)).getD 0), bLen := (h.map (·.len)).getD 0,
      bWide := (h.map (·.wide)).getD false }
    checked ([(!fmtPairOk m.fa m.fb, 0x1002)] ++ (if m.dq then [s.inDecl t k m.qa] else deskRange m.base 64 64) ++
      (if m.spb then [s.outDecl t k m.qo, (h.isNone, 0x1006), ((h.map (·.place)).getD 0 == 3, 0x1007)] else []))
      (s.mqPush t m))

/-- MZA. -/
def execMza (t : Nat) (g : Guard) (a : XArgs) (s : State) : Host.Outcome State Fault Refusal :=
  .next (s.issueG t g (mzaDecodes a) fun k => s.mqPush t ((s.tile t).mop k .mza a))

/-- MWRA: its vector pair is read at issue. -/
def execMwra (t : Nat) (g : Guard) (a : XArgs) (s : State) : Host.Outcome State Fault Refusal :=
  .next (s.issueG t g (mwraDecodes a) fun k =>
    s.mqPush t { (s.tile t).mop k .mwra a with data := BitVec.ofNat 512 ((s.tile t).vpair a.rb.toNat) })

/-- The bytes of a row of MSTA (R124). -/
def mstaRow (ty : Nat) : Nat := 2 * tyBits ty

/-- MSTA. -/
def execMsta (t : Nat) (g : Guard) (a : XArgs) (s : State) : Host.Outcome State Fault Refusal :=
  .next (s.issueG t g (mstaDecodes a) fun k =>
    let m := (s.tile t).mop k .msta a
    checked (if m.dq then [s.outDecl t k m.qo] else deskRange m.base 64 (16 * mstaRow m.ty)) (s.mqPush t m))

/-! ### Accumulators and weight buffers -/

/-- Element (m, n) of an accumulator, an FP32 pattern. -/
def Tile.accEl (x : Tile) (a m n : Nat) : W32 := sget 0 x.acc (a * 256 + m * 16 + n)
def Tile.setAccEl (x : Tile) (a m n : Nat) (v : W32) : Tile := { x with acc := sset 0 x.acc (a * 256 + m * 16 + n) v }
/-- Row m of an accumulator as an entry of 16 FP32 values. -/
def Tile.accRow (x : Tile) (a m : Nat) : Nat := ((List.range 16).map fun n => (x.accEl a m n).toNat * 2 ^ (32 * n)).sum
def Tile.setAccRow (x : Tile) (a m v : Nat) : Tile :=
  (List.range 16).foldl (fun x n => x.setAccEl a m n (BitVec.ofNat 32 (v / 2 ^ (32 * n)))) x
/-- B[k][n] of a weight buffer (R123). -/
def Tile.wbEl (x : Tile) (b ty k n : Nat) : FVal :=
  tyVal ty (bits (sget 0 x.wb b : BitVec 4096).toNat ((k * 16 + n) * tyBits ty) (tyBits ty))
/-- `n` bytes of a weight buffer set from byte `o`. -/
def Tile.setWb (x : Tile) (b o n v : Nat) : Tile :=
  { x with wb := sset 0 x.wb b (BitVec.ofNat 4096 (elSet (sget 0 x.wb b : BitVec 4096).toNat (8 * n) (o / n) v)) }

/-- MRDA: a core instruction that blocks while a queued operation has yet to write its accumulator (R88). -/
def execMrda (t : Nat) (g : Guard) (a : XArgs) (s : State) : Host.Outcome State Fault Refusal :=
  .next (s.issueG t g (mrdaDecodes a) fun _ =>
    if (s.tile t).accPending a.acc.toNat then .block (17 + 32 * a.acc.toNat)
    else .done (s.updTile t fun x => x.wvpair a.rb.toNat (x.accRow a.acc.toNat a.row.toNat)))

/-! ### One row (R97, R104) -/

/-- T(m, n): the pairwise sum of the exact products; an absent product is an exact +0 (R104, R207). -/
def tSum (l : List (Option (FVal × FVal))) : FVal × NFlags :=
  let ps := l.map fun p => match p with
    | some q => q.1.mul q.2
    | none => (.fin false 0 0, {})
  let r := pairSum 8 (ps.map (·.1))
  (r.1, ps.foldl (fun f p => f.or p.2) r.2)

/-- One output element: RN(prev + T), as an FP32 pattern. -/
def macEl (prev : Nat) (l : List (Option (FVal × FVal))) : Nat × NFlags :=
  let r := tSum l
  let q := (fFP32.unpack prev).add r.1
  let p := fFP32.pack q.1
  (p.1, r.2.or (q.2.or p.2))

/-- The elements of a dense A row paired with column n of the weight buffer. -/
def Tile.rowPairs (x : Tile) (m : MOp) (a n : Nat) : List (Option (FVal × FVal)) :=
  let ty := fmtType m.fa
  (List.range (fmtK m.fa)).map fun k => some (tyVal ty (elGet a (tyBits ty) k), x.wbEl m.wb (fmtType m.fb) k n)

/-- A row of 16 results over a row of earlier values. -/
def Tile.rowMac (prev : Nat) (pairs : Nat → List (Option (FVal × FVal))) : Nat × NFlags :=
  (List.range 16).foldl (fun p n =>
    let r := macEl (elGet prev 32 n) (pairs n)
    (p.1 + r.1 * 2 ^ (32 * n), p.2.or r.2)) (0, {})

/-! ### The issue queue -/

/-- The paths of R125: 0 MAC, 1 load, 2 drain. -/
def MKind.path : MKind → Nat
  | .mldw => 1
  | .mwra | .msta => 2
  | _ => 0

/-- The accumulator that an operation writes, and those it reads. -/
def MOp.accW (m : MOp) : Option Nat :=
  match m.kind with
  | .mma | .mza | .mwra => some m.acc
  | .mmas => if m.spb then none else some m.acc
  | .mmag => if m.bind.testBit 11 then some (bits m.bind 15 2) else none
  | _ => none
def MOp.accR (m : MOp) : Option Nat := if m.kind = .msta then some m.acc else m.accW
/-- The weight buffer that an operation writes, and the one it reads. -/
def MOp.wbW (m : MOp) : Option Nat := if m.kind = .mldw then some m.wb else none
def MOp.wbR (m : MOp) : Option Nat :=
  match m.kind with
  | .mma | .mmag => some m.wb
  | .mmas => if m.spb then none else some m.wb
  | _ => none

/-- Two operations conflict: one writes what the other reads or writes (R125). -/
def MOp.conflicts (a b : MOp) : Bool :=
  (a.accW.isSome && (a.accW == b.accR || a.accW == b.accW)) || (b.accW.isSome && b.accW == a.accR) ||
  (a.wbW.isSome && (a.wbW == b.wbR || a.wbW == b.wbW)) || (b.wbW.isSome && b.wbW == a.wbR)

/-- MATRIX_OP_START: the operation before it on its path has finished, and no earlier unfinished one conflicts (R125). -/
def execMatrixOpStart (t i : Nat) (s : State) : Host.Outcome State Fault Refusal :=
  .next (match (s.tile t).mq[i]? with
    | none => s
    | some m =>
      let before := ((s.tile t).mq.take i).filter (!·.finished)
      if m.started || !s.tileLive t || before.any (fun p => p.kind.path == m.kind.path || p.conflicts m) then s
      else s.updTile t fun x => { x with mq := modifyAt x.mq i fun m => { m with started := true } })

/-- The `i`-th queued operation changed. -/
def State.updMop (s : State) (t i : Nat) (f : MOp → MOp) : State :=
  s.updTile t fun x => { x with mq := modifyAt x.mq i f }

/-- `i`'s next row is done; the operation finishes after `n` of them. -/
def State.stepMop (s : State) (t i n : Nat) : State :=
  s.updMop t i fun m => { m with done := m.done + 1, finished := decide (n ≤ m.done + 1) }

/-- The task that issued a matrix operation enters FAULTED, its program counter on the instruction that issued it (R91,
R134, R214); a task that is DISABLED or already FAULTED stays as it is, and the fault is raised. -/
def State.faultIssuer (s : State) (t : Nat) (m : MOp) (code : Nat) : State :=
  if s.taskSt t m.task = 0 ∨ s.taskSt t m.task = 5 then s.raiseTile t code
  else
    let s1 := s.wf (TILE_TASK_STATE_PC t m.task) m.pc
    if (s.tile t).cur = some m.task then s1.taskFault t m.task code
    else (s1.wf (TILE_TASK_STATE_STATE t m.task) 5).raiseTile t code

/-- What a read of `n` bytes by the matrix unit raises: the correctable source, or the uncorrectable one with the issuing
task FAULTED (R134, R137). -/
def State.mxEcc (s : State) (t : Nat) (m : MOp) (a n : Nat) : Ecc → State
  | .clean => s
  | .corrected => (s.noteCe t a).raiseTile t (ceCode a)
  | .bad => (s.noteRows t a n).faultIssuer t m (ueCode a)

/-- A row of MLDW: 32 B of desk, or an entry of QA (R123). -/
def State.mldwRow (s : State) (t i : Nat) (m : MOp) (e : Ecc) : State :=
  if m.dq then
    match s.headIn t m.qa with
    | none => s
    | some d => (((s.popIn t m.qa).updTile t fun x => x.setWb m.wb (64 * m.done) 64 d.toNat).stepMop t i 8)
  else
    let r := s.wideRead (tkey t (m.base + 32 * m.done)) 32 e
    ((r.2.1.updTile t fun x => x.setWb m.wb (32 * m.done) 32 r.1).stepMop t i 16).mxEcc t m (m.base + 32 * m.done) 32 r.2.2

/-- An A row applied to an accumulator row (R97). -/
def State.mmaApply (s : State) (t i : Nat) (m : MOp) (a : Nat) : State :=
  let x := s.tile t
  let r := Tile.rowMac (if m.za then 0 else x.accRow m.acc m.done) (x.rowPairs m a)
  (((s.updTile t fun x => x.setAccRow m.acc m.done r.1).setFlags t r.2).bump (TILE_MATRIX_ROWS_COUNT t)).stepMop t i 16

/-- A row of MMA: from the desk, or rows 2j and 2j + 1 of an entry of QA (R123). -/
def State.mmaRow (s : State) (t i : Nat) (m : MOp) (e : Ecc) : State :=
  if m.dq then
    match m.held with
    | some d => (s.updMop t i fun m => { m with held := none }).mmaApply t i m (d.toNat / 2 ^ 256)
    | none =>
      match s.headIn t m.qa with
      | none => s
      | some d => ((s.popIn t m.qa).updMop t i fun m => { m with held := some d }).mmaApply t i m (d.toNat % 2 ^ 256)
  else
    let a := m.base + m.done * m.stride * 32
    let r := s.wideRead (tkey t a) 32 e
    (r.2.1.mmaApply t i m r.1).mxEcc t m a 32 r.2.2

/-- A row of MSTA: converted and written, or packed into entries of QO (R124). -/
def State.mstaRowOut (s : State) (t i : Nat) (m : MOp) : State :=
  let x := s.tile t
  let w := tyBits m.ty
  let r := (List.range 16).foldl (fun p n =>
    let c := cvtElem 8 m.ty m.scale (x.accEl m.acc m.done n).toNat
    (p.1 + c.1 * 2 ^ (w * n), p.2.or c.2)) ((0, {}) : Nat × NFlags)
  let n := mstaRow m.ty
  if m.dq then
    let per := 64 / n
    let full := m.done % per + 1 == per
    let e := ((m.held.getD 0).toNat + r.1 * 2 ^ (8 * n * (m.done % per)))
    if full && s.outRoom t m.qo == 0 then s
    else
      let s1 := if full then s.pushOut t m.qo (BitVec.ofNat 512 e) (if m.ty = 9 then .bf16 else .other) else s
      ((s1.setFlags t r.2).updMop t i fun m =>
        { m with held := if full then none else some (BitVec.ofNat 512 e) }).stepMop t i 16
  else ((s.wrMem (tkey t (m.base + m.done * n)) n r.1).setFlags t r.2).stepMop t i 16

/-- MMAG_ROW: one row of the gang operation on the MAC path (R106). -/
def State.mmagRow (s : State) (t i : Nat) (m : MOp) : State :=
  let b := m.bind
  let x := s.tile t
  let ain := bits b 0 3; let aout := bits b 4 3; let pin := bits b 8 3; let pout := bits b 12 3
  let fresh := m.held.isNone
  let arow : Option Entry := if fresh then s.headIn t ain else m.held
  -- with AIN and PIN one queue, the partial row is the entry behind the A entry
  let pRow : Option Entry := if b.testBit 7 then
      (if fresh && ain == pin then ((x.inQ pin)[1]?).map (·.data) else s.headIn t pin) else some 0
  let needOut := (if fresh && b.testBit 3 then [aout] else []) ++ (if b.testBit 11 then [] else [pout])
  let room := needOut.all fun q => decide ((needOut.filter (· == q)).length ≤ s.outRoom t q)
  match arow, pRow with
  | some d, some p =>
    if !room then s
    else
      let a := if fresh then d.toNat % 2 ^ 256 else d.toNat / 2 ^ 256
      let r := Tile.rowMac p.toNat (x.rowPairs m a)
      let s1 := if fresh then s.popIn t ain else s
      let s2 := if fresh && b.testBit 3 then s1.pushOut t aout d else s1
      let s3 := if b.testBit 7 then s2.popIn t pin else s2
      let q := if b.testBit 11 then
          (List.range 16).foldl (fun q n =>
            let prev := if m.za then FVal.fin false 0 0 else fFP32.unpack (x.accEl (bits b 15 2) m.done n).toNat
            let v := prev.add (fFP32.unpack (elGet r.1 32 n))
            let c := fFP32.pack v.1
            (q.1 + c.1 * 2 ^ (32 * n), q.2.or (v.2.or c.2))) ((0, r.2) : Nat × NFlags)
        else r
      let s4 := if b.testBit 11 then s3.updTile t fun x => x.setAccRow (bits b 15 2) m.done q.1
        else s3.pushOut t pout (BitVec.ofNat 512 q.1) .partialRow
      (((s4.setFlags t q.2).bump (TILE_MATRIX_ROWS_COUNT t)).updMop t i fun m =>
        { m with held := if fresh then some d else none }).stepMop t i 16
  | _, _ => s

/-- MMAG_ROW: R106. -/
def execMmagRow (t : Nat) (s : State) : Host.Outcome State Fault Refusal :=
  .next (match (s.tile t).mq.findIdx? fun m => m.kind == .mmag && m.started && !m.finished with
    | some i =>
      (match (s.tile t).mq[i]? with
       | some m => if s.tileLive t then s.mmagRow t i m else s
       | none => s)
    | none => s)

/-- MATRIX_OP_COMPLETE: the finished operation at the head leaves, in issue order (R98). -/
def execMatrixOpComplete (t : Nat) (s : State) : Host.Outcome State Fault Refusal :=
  .next (match (s.tile t).mq with
    | m :: rest =>
      if m.finished then
        let s1 := s.updTile t fun x => { x with mq := rest }
        if m.kind = .mmas then s1.bump (TILE_SP_OPS_COUNT t) else s1
      else s
    | [] => s)

end Sys2Proof.Machine
end

