-- ==== Sys2Proof/Machine/System.lean ====
section
/-! DEFINITION. The system instructions of format S (05 R128, Table IS-14; 06 R139 to R144; 08 R184, R185). -/

namespace Sys2Proof.Machine

/-- Whether an S word uses only the fields given: RD, RA, RB, RC, ROP and FV, H, SD. -/
def sUses (a : SArgs) (rd ra rb rc row h sd : Bool) : Bool :=
  (rd || a.rd == 0) && (ra || a.ra == 0) && (rb || a.rb == 0) && (rc || a.rc == 0) &&
  (row || (a.rop == 0 && a.fv == 0)) && (h || a.h == 0) && (sd || a.sd == 0)

def rdidDecodes (a : SArgs) : Bool := sUses a true false false false false false false
def rdcycDecodes (a : SArgs) : Bool := sUses a true false false false false false false && a.rd.toNat % 2 == 0
def haddrDecodes (a : SArgs) : Bool := sUses a true true false false false true false && a.rd.toNat % 2 == 0
def hgenDecodes (a : SArgs) : Bool := sUses a true false false false false true false
def sstartDecodes (a : SArgs) : Bool := sUses a false false false false false false true
def sstatDecodes (a : SArgs) : Bool := sUses a true false false false false false true
/-- Whether a ROW word decodes: the registers and FV that its operation uses (R128). -/
def rowDecodes (a : SArgs) : Bool :=
  a.rop != 7 && (a.rop == 1 || a.fv == 0) && a.h == 0 && a.sd == 0 &&
  (match a.rop.toNat with
   | 0 | 5 => a.rb == 0 && a.rc == 0
   | 1 => a.ra == 0 && a.rb == 0 && a.rc == 0
   | 2 | 3 | 4 => a.rc == 0
   | _ => true)

/-- RDID: own X, Y and module number. -/
def execRdid (t : Nat) (g : Guard) (a : SArgs) (s : State) : Host.Outcome State Fault Refusal :=
  .next (s.issueG t g (rdidDecodes a) fun _ =>
    .done (s.updTile t fun x =>
      x.wsreg a.rd.toNat (BitVec.ofNat 32 (tileX t + tileY t * 2 ^ 9 + s.modNum * 2 ^ 18))))

/-- RDCYC: TILE.CYCLES. -/
def execRdcyc (t : Nat) (g : Guard) (a : SArgs) (s : State) : Host.Outcome State Fault Refusal :=
  .next (s.issueG t g (rdcycDecodes a) fun _ =>
    .done (s.updTile t fun x => x.wspair a.rd.toNat ((s.viewTile t 0x120 0).getD 0 % 2 ^ 64)))

/-- HADDR: the global address of handle H at offset s[RA]; HANDLE_RANGE outside it (R144). -/
def execHaddr (t : Nat) (g : Guard) (a : SArgs) (s : State) : Host.Outcome State Fault Refusal :=
  .next (s.issueG t g (haddrDecodes a) fun _ =>
    let o := ((s.tile t).sreg a.ra.toNat).toNat
    match s.resolve t a.h.toNat with
    | some h =>
      if o < h.len then .done (s.updTile t fun x => x.wspair a.rd.toNat (s.handleGlobal t h o)) else .fault 0x1006
    | none => .fault 0x1006)

/-- HGEN: the generation count of the resolved entry, of entry H itself where resolution fails (R144). -/
def execHgen (t : Nat) (g : Guard) (a : SArgs) (s : State) : Host.Outcome State Fault Refusal :=
  .next (s.issueG t g (hgenDecodes a) fun _ =>
    let n := match s.resolve t a.h.toNat with
      | some h => h.gen
      | none => ((s.tile t).shelfAt a.h.toNat).gen
    .done (s.updTile t fun x => x.wsreg a.rd.toNat (BitVec.ofNat 32 n)))

/-- SSTART: STREAM_BUSY unless IDLE, DONE or FAULTED, STREAM_CONFIG when a check of R185 fails (R184). -/
def execSstart (t : Nat) (g : Guard) (a : SArgs) (s : State) : Host.Outcome State Fault Refusal :=
  .next (s.issueG t g (sstartDecodes a) fun _ =>
    let d := a.sd.toNat
    if !s.streamIdle t d then .fault 0x100A
    else if !s.streamOk t d then .fault 0x100C
    else .done (s.streamStart t d))

/-- SSTOP: R184. -/
def execSstop (t : Nat) (g : Guard) (a : SArgs) (s : State) : Host.Outcome State Fault Refusal :=
  .next (s.issueG t g (sstartDecodes a) fun _ => .done (s.streamStop t a.sd.toNat))

/-- SSTAT: bits 31:0 of STREAM_STATE (Table ST-7). -/
def execSstat (t : Nat) (g : Guard) (a : SArgs) (s : State) : Host.Outcome State Fault Refusal :=
  .next (s.issueG t g (sstatDecodes a) fun _ =>
    let v := s.regWord (tilePage t + 0x700 + 8 * a.sd.toNat)
    .done (s.updTile t fun x => x.wsreg a.rd.toNat (BitVec.ofNat 32 v)))

/-- The combinations of rows that Table ME-3 permits. -/
def rowPermitted (o : RowOp) : Bool :=
  let sameP := fun x y : Nat => x / 512 == y / 512
  match o.op with
  | 0 | 1 => true
  | 5 => sameP o.a o.dst
  | 2 | 3 | 4 => sameP o.a o.b && sameP o.a o.dst
  | _ => o.a / 256 == o.b / 256 && o.a / 256 == o.c / 256 && sameP o.a o.dst

/-- ROW: the operation enters the bench interface (R128, R139). A row number past the bench's 2,016 rows is outside
what a row operation reaches (R23, R27). [entries 21 DEDUCED, 32 DESIGN CHOICE] -/
def execRow (t : Nat) (g : Guard) (a : SArgs) (s : State) : Host.Outcome State Fault Refusal :=
  .next (s.issueG t g (rowDecodes a) fun _ =>
    let x := s.tile t
    let o : RowOp := { op := a.rop.toNat, fv := a.fv == 1, dst := (x.sreg a.rd.toNat).toNat,
                       a := (x.sreg a.ra.toNat).toNat, b := (x.sreg a.rb.toNat).toNat, c := (x.sreg a.rc.toNat).toNat }
    checked [(o.rows.any fun r => decide (2016 ≤ r), 0x1005), (!rowPermitted o, 0x1009)]
      (.done (s.updTile t fun x => { x with rowOps := x.rowOps ++ [o] })))

/-- The bits of a whole bench row. -/
def rowBits : Nat := 16384

/-- The row that an operation leaves in its destination. -/
def RowOp.result (o : RowOp) (a b c : Nat) : Nat :=
  match o.op with
  | 0 => a
  | 1 => if o.fv then 2 ^ rowBits - 1 else 0
  | 2 => a &&& b
  | 3 => a ||| b
  | 4 => a ^^^ b
  | 5 => a ^^^ (2 ^ rowBits - 1)
  | _ => (a &&& b) ||| (a &&& c) ||| (b &&& c)

/-- The source rows that the verify phase reads (Table ME-3): COPY and FILL have none. -/
def RowOp.verified (o : RowOp) : List Nat :=
  match o.op with
  | 0 | 1 => []
  | 5 => [o.a]
  | 2 | 3 | 4 => [o.a, o.b]
  | _ => [o.a, o.b, o.c]

/-- The error marks of a row moved with it by COPY (R138 "Row operations": the check columns move with the data). -/
def State.copyMarks (s : State) (src dst : Nat) : State :=
  (List.range 256).foldl (fun s i =>
    if (sget? s.eccBad (src / 8 + i)).isSome then { s with eccBad := sins s.eccBad (dst / 8 + i) () } else s) s

/-- ROW_OP_COMPLETE: the `i`-th operation in the bench interface finishes, unless an earlier one names the same pair
(R140). A source row that cannot be corrected abandons it (R141). -/
def execRowOpComplete (t i : Nat) (corr : Bool) (badSrc : Option Nat) (s : State) : Host.Outcome State Fault Refusal :=
  let x := s.tile t
  .next (match x.rowOps[i]? with
    | none => s
    | some o =>
      if (x.rowOps.take i).any (fun p => p.rows.any fun r => o.rows.any fun q => r / 512 == q / 512) then s
      else
        let s1 := s.updTile t fun x => { x with
          rowOps := eraseAt x.rowOps i, openRow := x.openRow.filter fun e => !o.rows.any fun r => r / 512 == e.1 / 2 }
        let bad := o.verified.find? fun r => s.hasBad (rowKey t r) 2048 || badSrc == some r
        match bad with
        | some r =>
          (s1.noteEcc (rowKey t r) 2048 .bad).raiseEcc t (0x40000000 + r * 0x800) 2048 .bad
        | none =>
          let v := o.result (s.rdMem (rowKey t o.a) 2048) (s.rdMem (rowKey t o.b) 2048) (s.rdMem (rowKey t o.c) 2048)
          let s2 := s1.wrMem (rowKey t o.dst) 2048 v
          let s3 := if o.op = 0 ∧ o.a ≠ o.dst then s2.copyMarks (rowKey t o.a) (rowKey t o.dst) else s2
          if corr && !o.verified.isEmpty then s3.raiseEcc t (0x40000000 + o.a * 0x800) 2048 .corrected else s3)

end Sys2Proof.Machine
end

