-- ==== Sys2Proof/Machine/Banks.lean ====
section
/-! DEFINITION. Desk and bench arbitration, scrub and refresh (06 R131 to R138, Tables ME-1, ME-2). -/

namespace Sys2Proof.Machine

/-- The desk banks that the bytes of an access lie in, as a mask (R131). -/
def banksOf (a n : Nat) : Nat :=
  (List.range ((a % 16 + n + 15) / 16)).foldl (fun m i => m ||| 2 ^ ((a / 16 + i) % 4)) 0

/-- A write of fewer than 8 aligned bytes is a read-modify-write (R131). -/
def Req.rmw (r : Req) : Bool := r.write && (r.addr % 8 != 0 || r.len % 8 != 0)

/-- The operation that a path of the matrix unit (0 MAC, 1 load, 2 drain) runs (R125). -/
def Tile.onPath (x : Tile) (p : Nat) : Option MOp := x.mq.find? fun m => m.started && !m.finished && m.kind.path == p

/-- WIDE_PRI of the handle that a request goes through: the data, list or ring handle that the engine captured, or B_H as
the operation that runs captured it (R132, R136, R209). -/
def Tile.widePri (x : Tile) (r : Req) : Bool :=
  if 8 ≤ r.who then
    let y := x.stream (r.who - 8)
    (if r.via = 0 then y.dataH else if r.via = 1 then y.listH else y.ringH).wide
  else ((x.onPath (r.who - 1)).map (·.bWide)).getD false

/-- The desk tier of a request (Table ME-1); 0 for a requester that the desk has not. The matrix unit's B reads count as a
stream (R209). -/
def deskTier (x : Tile) (r : Req) : Nat :=
  if r.who = 0 then (if 15 ≤ r.age then 1 else 6)
  else if r.who ≤ 3 ∧ r.via = 0 then 2
  else if r.who ≤ 3 ∨ 8 ≤ r.who ∧ r.who ≤ 15 then (if x.widePri r then 3 else 5)
  else if r.who = 16 then 4
  else if r.who = 17 then 7
  else 0

/-- The bench tier of a request (R136): row operations rank third, the matrix unit's B reads as a stream (R209). -/
def benchTier (x : Tile) (r : Req) : Nat :=
  if r.who = 0 then (if 15 ≤ r.age then 2 else 7)
  else if r.who = 18 then 1
  else if r.who = 19 then 3
  else if r.who = 16 then 4
  else if r.who ≤ 3 ∨ 8 ≤ r.who ∧ r.who ≤ 15 then (if x.widePri r then 5 else 6)
  else 0

/-- The requesters of a tier in round-robin order, starting after the one granted last (R132). -/
def roundRobin (last : Nat) : List Nat := (List.range 20).map fun i => (last + 1 + i) % 20

/-- The request that a requester presents: its oldest one. -/
def presented (l : List Req) (who : Nat) : Option Req := l.find? (·.who == who)

/-- New requests join those that wait; the core has at most one outstanding (R133), and a request outside the memory is
refused and takes no grant. -/
def letIn (ok : Req → Bool) (wait new : List Req) : List Req :=
  new.foldl (fun l r =>
    if !ok r || (r.who == 0 && l.any (·.who == 0)) then l else l ++ [{ r with age := 0 }]) wait

/-- A requester may present accesses to the desk or bench of a tile: the core, the matrix unit and the stream engines of a
live tile, the router and the scrub of a tile that is not fenced (Table RP-1), a row operation that runs; refresh goes on
through fences and pauses (R138). -/
def State.reqLive (s : State) (t who : Nat) : Bool :=
  if who = 18 then true
  else if who = 19 then s.memClocked t
  else if who = 16 ∨ who = 17 then s.memClocked t && !s.fenced t
  else s.tileLive t

/-- What a granted read that cannot be corrected does to its requester (R134, R137): a core load faults the running task, an
operand read of the matrix unit the task that issued the operation; a fetched word is marked damaged and raises nothing; for
any other requester the fault is raised. -/
def State.grantBad (s : State) (t : Nat) (r : Req) : State :=
  let code := ueCode r.addr
  let s1 := s.noteRows t r.addr r.len
  if r.who = 0 then
    if r.via = 1 then s1
    else match s.running t with
      | some k => s1.taskFault t k code
      | none => s1.raiseTile t code
  else if r.who ≤ 3 then
    match (s.tile t).onPath (r.who - 1) with
    | some m => s1.faultIssuer t m code
    | none => s1.raiseTile t code
  else s1.raiseTile t code

/-- A granted access is performed, with the check of the error code (R134, R137) (R28, R29). -/
def State.grantAccess (s : State) (t : Nat) (r : Req) (e : Ecc) : State :=
  if r.write then s.tileStore t r.addr r.len r.data e
  else
    let o := s.eccOf (tkey t r.addr) r.len e
    let s1 := (s.noteEcc (tkey t r.addr) r.len e).openRowOf t r.addr
    if o = .bad then (s1.grantBad t r).emit (.grant t r.who 0 true)
    else (s1.raiseEcc t r.addr r.len o).emit (.grant t r.who (s.rdMem (tkey t r.addr) r.len) false)

/-- The outcome of the check for a requester's access. -/
def eccFor (l : List (Nat × Ecc)) (who : Nat) : Ecc := ((l.find? (·.1 == who)).map (·.2)).getD .clean

/-- The banks of a core request that is in tier 1 or reaches it in the next cycle: a read-modify-write that would still hold
one of them in that cycle is not granted, so that the core has its grant in the 16th cycle (R133). [entry 33 DESIGN CHOICE] -/
def coreNeeds (wait : List Req) : Nat :=
  match presented wait 0 with
  | some r => if 14 ≤ r.age then banksOf r.addr r.len else 0
  | none => 0

/-- One desk cycle: the requests granted in tier order, each with free banks; the banks taken, the pointers. [entry 33 DESIGN CHOICE] -/
def deskCycle (x : Tile) (wait : List Req) (rr : SMap Nat) (busy : Nat) : List Req × SMap Nat × Nat :=
  (List.range 7).foldl (fun acc i =>
    let tier := i + 1
    (roundRobin (sget 0 rr tier)).foldl (fun acc who =>
      match presented wait who with
      | none => acc
      | some r =>
        let b := banksOf r.addr r.len
        if deskTier x r = tier ∧ acc.2.2 &&& b = 0 ∧ !acc.1.any (·.who == who) ∧
            (who = 0 ∨ !Req.rmw r ∨ b &&& coreNeeds wait = 0) then
          (acc.1 ++ [r], sset 0 acc.2.1 tier who, acc.2.2 ||| b)
        else acc) acc) ([], rr, busy)

/-- DESK_REQUEST_GRANT: the arbiter takes the new requests and runs one cycle (R131 to R134), unless the tile's clock stands.
A granted read-modify-write, also one word of a longer access, holds every bank of its access for the second cycle. [entry
139 DESIGN CHOICE] -/
def execDeskRequestGrant (t : Nat) (reqs : List Req) (ecc : List (Nat × Ecc)) (s : State) :
    Host.Outcome State Fault Refusal :=
  let x := s.tile t
  let ok := fun r : Req => deskTier x r != 0 && s.reqLive t r.who && decide (1 ≤ r.len) && decide (r.len ≤ 64) && decide (r.addr + r.len ≤ 0xC000)
  let wait := letIn ok x.deskWait reqs
  let c := deskCycle x (wait.filter fun r => s.reqLive t r.who) x.rrDesk x.busyBanks
  let left := c.1.foldl (fun l r => l.erase r) wait
  let busy := (c.1.filter Req.rmw).foldl (fun m r => m ||| banksOf r.addr r.len) 0
  let s1 := s.updTile t fun y =>
    { y with deskWait := left.map fun r => { r with age := r.age + 1 }, rrDesk := c.2.1, busyBanks := busy }
  .next (if s.memClocked t then c.1.foldl (fun s r => s.grantAccess t r (eccFor ecc r.who)) s1 else s)

/-- The request that the bench column path takes next: 64 B a cycle, so one at a time; a row operation's pair is held
against all but its own column phases and refresh (R136, R140). [entry 33 DESIGN CHOICE] -/
def benchPick (x : Tile) (wait : List Req) : Option (Nat × Req) :=
  ((List.range 7).filterMap fun i =>
    let tier := i + 1
    ((roundRobin (sget 0 x.rrBench tier)).filterMap (presented wait)).find? (fun r =>
      benchTier x r == tier && (decide (18 ≤ r.who) || !x.benchHeld r.addr r.len)) |>.map fun r => (tier, r)).head?

/-- BENCH_REQUEST_GRANT: R136 to R138; while the tile's clock stands only refresh is granted. -/
def execBenchRequestGrant (t : Nat) (reqs : List Req) (ecc : List (Nat × Ecc)) (s : State) :
    Host.Outcome State Fault Refusal :=
  let x := s.tile t
  let ok := fun r : Req => benchTier x r != 0 && s.reqLive t r.who && decide (1 ≤ r.len) && decide (r.len ≤ 64) && areaOf r.addr == .bench &&
    areaOf (r.addr + r.len - 1) == .bench
  let wait := letIn ok x.benchWait reqs
  let pick := benchPick x (wait.filter fun r => s.reqLive t r.who)
  let left := match pick with
    | some p => wait.erase p.2
    | none => wait
  let s1 := s.updTile t fun y =>
    { y with
      benchWait := left.map fun r => { r with age := r.age + 1 }
      rrBench := match pick with
        | some p => sset 0 y.rrBench p.1 p.2.who
        | none => y.rrBench }
  .next (match pick with
    | some p => if p.2.who = 18 ∨ p.2.who = 19 then s1 else s1.grantAccess t p.2 (eccFor ecc p.2.who)
    | none => s1)

/-- DESK_SCRUB: one 64 B unit is read (R135), and an error is handled as at any read (R134). [entry 34 DESIGN CHOICE] -/
def execDeskScrub (t : Nat) (ecc : Ecc) (s : State) : Host.Outcome State Fault Refusal :=
  let a := 64 * (s.tile t).scrubAt
  let o := s.eccOf (tkey t a) 64 ecc
  .next (((s.updTile t fun x => { x with scrubAt := (x.scrubAt + 1) % 768 }).noteEcc (tkey t a) 64 ecc).raiseEcc t a 64 o)

/-- BENCH_REFRESH_STEP: one physical row of each subarray, every open row closed (R138). [entry 34 DESIGN CHOICE] -/
def execBenchRefreshStep (t : Nat) (s : State) : Host.Outcome State Fault Refusal :=
  .next (s.updTile t fun x => { x with refreshAt := (x.refreshAt + 1) % 264, openRow := [] })

/-- A junction reading in °C, signed, as the DRP page shows it (R393). The first one above 85 °C halves the refresh
interval, which returns after readings of 83 °C or below for 1 s (R138). -/
def State.tempRead (s : State) (p : Nat) (c : Int) : State :=
  let m := toSigned (s.rf (DRP_TEMP_MAX_C p)) 8
  let s1 := s.wfs [(DRP_TEMP_NOW_C p, ofSigned c 8), (DRP_TEMP_MAX_C p, ofSigned (max m c) 8)]
  s1.updPlain p fun q =>
    if 85 < c then { q with fastRefresh := true, coolFrom := none }
    else if 83 < c then { q with coolFrom := none }
    else
      let t0 := q.coolFrom.getD s.time
      { q with coolFrom := some t0, fastRefresh := q.fastRefresh && decide (s.time < t0 + 1000000000) }

/-- The plain's sensors are read. -/
def State.sensed (s : State) (p : Nat) : Bool := decide (p < 64) && s.plnState p != 4

/-- REFRESH_INTERVAL_HALVE: from the first reading above 85 °C (R138). -/
def execRefreshIntervalHalve (p : Nat) (temp : Int) (s : State) : Host.Outcome State Fault Refusal :=
  .next (if s.sensed p ∧ 85 < temp then s.tempRead p temp else s)

/-- REFRESH_INTERVAL_RESTORE: a reading of 83 °C or below; with the readings before it for 1 s (R138). -/
def execRefreshIntervalRestore (p : Nat) (temp : Int) (s : State) : Host.Outcome State Fault Refusal :=
  .next (if s.sensed p ∧ temp ≤ 83 then s.tempRead p temp else s)

end Sys2Proof.Machine
end

