-- ==== Sys2Proof/Machine/Start.lean ====
section
/-! DEFINITION. The start sequence, PERST# and the link, module resets, IDLE-HOLD and BENCH-RETAIN (17 R352 to R366,
19 R391; 14 R305, R310). -/

namespace Sys2Proof.Machine

/-- Pages that are READY from step 3 of Table RS-2, those of step 6, and all the others but the tile pages. -/
def earlyPages : List Nat := [pgMOD, pgHST, pgPWR, pgKEEP, pgCHST, pgSEC]
def rimPages : List Nat := (List.range 8).map pgPRT ++ (List.range 6).map pgSPN
def latePages : List Nat :=
  [pgFLT, pgTBS, pgLAT, pgIMG, pgEDGE, pgLDG, pgSES] ++ (List.range 64).flatMap (fun p => (List.range 4).map (plainPage p)) ++
    (List.range 16).flatMap fun n => (List.range 10).map (partPage n)

def State.setReady (s : State) (l : List Nat) : State := l.foldl (fun s pg => s.wf (hSTATUS_READY pg) 1) s

/-! ### Steps 1 to 3 -/

/-- COLD_START: from OFF, the input has held 46 V for 100 ms; module time comes from the Keeper's real-time count; CLEARED sites leave
the maps (R84). -/
def execColdStart (mv rtc at_ : Nat) (s : State) : Host.Outcome State Fault Refusal :=
  let s0 := s.at at_
  .next (if s0.powered ∨ mv < 46000 then s0
    else
      let s1 := s0.updKeeper fun k => { k with phase := 1, cause := 0, startAt := s0.time }
      let s2 : State := { s1 with
        keeper := { s1.keeper with nv := (s0.journalKeep true).nv }
        plains := s1.plains.foldl (fun m e => sset {} m e.1 e.2.uncleared) [] }
      ({ s2 with ptpOff := (rtc : Int) - s0.time, ptpSlew := 0, ptpRate := 0 } : State).measure mv)

/-- The committed backup slot, if any. -/
def State.committed (s : State) : Option Nat := (List.range 2).find? fun k => s.rf (CHST_BSLOT_STATE k) == 3

/-- The search for a backup (R303, R305, R315, R316): an open record without a commit is TORN. -/
def State.search (s : State) : State :=
  let open_ := (List.range 2).filter fun k => s.rf (CHST_BSLOT_STATE k) == 2
  let s1 := s.forEach open_ fun s k => s.setSlot k 5
  if s1.keeper.torn || !open_.isEmpty then
    ((s1.wks [(KEEP_BACKUP_RESULT, 2), (KEEP_RESTORE_RESULT, 3), (KEEP_RESTORE_PENDING, 0)]).updKeeper fun k => { k with torn := false }).wf
      MOD_STATUS_WARM 0
  else if s1.keeper.foreign then
    (s1.wks [(KEEP_RESTORE_RESULT, 4), (KEEP_RESTORE_PENDING, 0)]).wf MOD_STATUS_WARM 0
  else match s1.committed with
    | some _ => s1.wf MOD_STATUS_WARM 1
    | none => (s1.wk KEEP_RESTORE_RESULT 0).wf MOD_STATUS_WARM 0

/-- CONTROL_BLOCK_UP: the early pages are READY with their K fields, the backup sequencer has run its self-test, and the backup is
searched for. [entry 158 DESIGN CHOICE] -/
def execControlBlockUp (r : SelfTest) (s : State) : Host.Outcome State Fault Refusal :=
  let s0 := s.at r.at_
  .next (if s0.keeper.phase ≠ 1 ∨ !s0.rb MOD_STATUS_KEEPER_UP then s0
    else
      let s1 := (s0.setReady earlyPages).updKeeper fun k => { k with phase := 2, seqOk := r.pass }
      let s2 := (earlyPages ++ (List.range 8).map pgPRT).foldl State.loadPage s1
      (s2.wf CHST_ZONE_USER_BLOCKS (s2.kept CHST_ZONE_USER_BLOCKS)).setPackOk.search)

/-! ### Steps 4 to 8 -/

/-- PLAIN_GROUP_POWER_UP: plains 4g to 4g + 3 leave OFF; one that fails is full-fenced (R359). -/
def execPlainGroupPowerUp (g : Nat) (fails : List Nat) (at_ : Nat) (s : State) : Host.Outcome State Fault Refusal :=
  let s0 := s.at at_
  .next (if !(s0.keeper.phase = 2 ∨ s0.keeper.phase = 3) ∨ s0.keeper.bench ∨ g ≠ s0.keeper.groups ∨ 16 ≤ g then s0
    else
      let ps := (List.range 4).map fun i => 4 * g + i
      let s1 := (s0.forEach ps fun s p => s.wf (PLN_STATE_STATE p) 0).updKeeper fun k => { k with phase := 3, groups := g + 1 }
      s1.forEach (ps.filter fails.contains) fun s p => s.doFence p 3)

/-- PASS_TRAINING_COMPLETE: every plain begins round 0, and its clocks count from here. [entry 3 DESIGN CHOICE] -/
def execPassTrainingComplete (at_ : Nat) (s : State) : Host.Outcome State Fault Refusal :=
  let s0 := s.at at_
  .next (if s0.keeper.phase ≠ 3 ∨ s0.keeper.groups ≠ 16 then s0
    else
      let s1 : State := { s0 with clockAt := s0.time }
      (s1.forEach (List.range 64) fun s p => (s.wf (MESH_ROUND_COUNT p) 0).updPlain p fun q => { q with meshSub := 0 }).updKeeper
        fun k => { k with phase := 4 })

/-- EDGE_TRAINING_COMPLETE: stacks are trained, but for those in `fails`; PRT and SPN are READY. -/
def execEdgeTrainingComplete (fails : List Nat) (at_ : Nat) (s : State) : Host.Outcome State Fault Refusal :=
  let s0 := s.at at_
  .next (if s0.keeper.phase ≠ 4 then s0
    else
      let bad := (List.range 8).filter fails.contains
      let s1 := (s0.setReady rimPages).updKeeper fun k => { k with phase := 5 }
      let s2 := s1.wf EDGE_STATUS_TRAINED (255 - (bad.map fun i => 2 ^ i).sum)
      s2.forEach bad fun s _ => s.raise 0x5002 pgEDGE)

/-- K_FIELDS_LOADED: the other K fields; charging starts. -/
def execKFieldsLoaded (at_ : Nat) (s : State) : Host.Outcome State Fault Refusal :=
  let s0 := s.at at_
  .next (if s0.keeper.phase ≠ 5 ∨ !s0.rb MOD_STATUS_KEEPER_UP then s0
    else (((rimPages ++ latePages).foldl State.loadPage s0).updKeeper fun k => { k with phase := 6 }).setCharging)

/-- A desk range copied to its spill home, and back (R146, R365). -/
def State.toHome (s : State) (x : Nat × Nat × Nat × Nat) : State :=
  let e : Shelf := { w0 := x.2.2.1, w1 := x.2.2.2 }
  s.wrMem (rowKey x.1 e.spillRow) e.length (s.rdMem (tkey x.1 e.base) e.length)
def State.fromHome (s : State) (x : Nat × Nat × Nat × Nat) : State :=
  let e : Shelf := { w0 := x.2.2.1, w1 := x.2.2.2 }
  let s1 := s.wrMem (tkey x.1 e.base) e.length (s.rdMem (rowKey x.1 e.spillRow) e.length)
  (s1.updTile x.1 fun y => { y with shelf := sset {} y.shelf x.2.1 { w0 := e.gen * 65536, pend := x.2.2.2 } }).shelfLive x.1 x.2.1 x.2.2.1

/-- MODULE_READY: every page is READY, 1,000 ms or more after L0; INCARNATION advances; a bench exit brings the spill homes
back, and a warm start begins its restore (R310, R360, R365, Table RS-2). Resets absorbed by the start are reported. -/
def execModuleReady (rtc at_ : Nat) (s : State) : Host.Outcome State Fault Refusal :=
  let s0 := s.at at_
  .next (match s0.keeper.l0At with
    | none => s0
    | some t0 =>
      if s0.keeper.phase ≠ 6 ∨ !s0.rb MOD_STATUS_KEEPER_UP ∨ s0.time < t0 + 1000000000 then s0
      else
        let k := s0.keeper
        let s1 := ((s0.setReady latePages).wf MOD_STATUS_READY 1).wks [(MOD_LAST_START_CAUSE, k.cause),
          (MOD_LAST_START_READY_MS, (s0.time - k.startAt) / 1000000), (MOD_LAST_START_L0_MS, (t0 - k.startAt) / 1000000),
          (LDG_INCARNATION_COUNT, s0.rf LDG_INCARNATION_COUNT + 1)]
        let s2 := (s1.pcie.vfReset).foldl (fun s f => s.emit (.flrDone f)) s1
        let s3 := ({ s2 with pcie := { s2.pcie with vfReset := [], mgmtReset := false } } : State).updKeeper fun k =>
          { k with phase := 7, benchKept := false, spilled := [] }
        if k.benchKept then
          k.spilled.foldl State.fromHome { s3 with ptpOff := (rtc : Int) - s3.time, ptpSlew := 0, ptpRate := 0 }
        else if s3.rb MOD_STATUS_WARM then
          match s3.committed with
          | some j => s3.restoreBegin (sget {} s3.chest.snaps j)
          | none => s3.freeSlots
        else s3.freeSlots)

/-! ### PERST#, the link, module resets (R352, R353, R358, R391) -/

/-- The exit from BENCH-RETAIN: Table RS-2 from step 4, with the benches as they are (R365, Table RS-4). A PERST# or MOD.RESET
drops the link too. [entry 108 DEDUCED] -/
def State.benchExit (s : State) (cause : Nat) : State :=
  let s1 := earlyPages.foldl (fun s pg => (s.clearRecord pg).clearRc pg (pg + 0x1000)) s
  let s2 := s1.updKeeper fun k =>
    { k with bench := false, benchKept := true, phase := 2, groups := 0, cause := 3, startAt := s.time, benchReset := none
             l0At := if cause = 3 then k.l0At else none }
  (if cause = 3 then s2 else { s2 with pcie := { s2.pcie with l0 := false } }).setPwr

/-- A module reset requested: held in a backup, taken as the exit in BENCH-RETAIN, absorbed by a start that runs (PERST# takes
the link down with it), or performed. -/
def State.moduleReset (s : State) (cause : Nat) : State :=
  if s.frozen then s.holdReset (.module cause)
  else if s.keeper.phase = 0 then s
  else if s.keeper.benchEntry then s.updKeeper fun k => { k with benchReset := some (k.benchReset.getD cause) }
  else if s.keeper.bench then s.benchExit cause
  else if s.keeper.phase ≠ 7 then
    (if cause = 1 then
      ({ s with pcie := { s.pcie with l0 := false } } : State).updKeeper fun k => { k with l0At := none }
     else s)
  else s.moduleRestart cause

/-- MODULE_RESET_WRITE: a write to MOD.RESET with GO and the key. -/
def execModuleResetWrite (v : BitVec 64) (at_ : Nat) (s : State) : Host.Outcome State Fault Refusal :=
  let s0 := s.at at_
  .next (if s0.fnUp 0 ∧ s0.pageReady pgMOD ∧ v.toNat.testBit 0 ∧ bits v.toNat 48 16 = 0x4B57 then s0.moduleReset 2 else s0)

/-- PERST_ASSERT: R358, R391. [entry 108 DEDUCED] -/
def execPerstAssert (at_ : Nat) (s : State) : Host.Outcome State Fault Refusal :=
  let s0 := s.at at_
  .next (if s0.pcie.perst then s0 else ({ s0 with pcie := { s0.pcie with perst := true } } : State).moduleReset 1)

/-- PERST_RELEASE: R391. -/
def execPerstRelease (at_ : Nat) (s : State) : Host.Outcome State Fault Refusal :=
  let s0 := s.at at_
  .next (if s0.pcie.perst then
    ({ s0 with pcie := { s0.pcie with perst := false } } : State).updKeeper fun k => { k with perstAt := s0.time }
  else s0)

/-- PCIE_LINK_L0: the link trains once the control block is up and 60 ms after the release of PERST# (R391). -/
def execPcieLinkL0 (speed width : Nat) (flit : Bool) (at_ : Nat) (s : State) : Host.Outcome State Fault Refusal :=
  let s0 := s.at at_
  .next (if s0.pcie.perst ∨ s0.pcie.l0 ∨ s0.keeper.phase < 2 ∨ s0.frozen ∨ s0.time < s0.keeper.perstAt + 60000000 then s0
    else
      (({ s0 with pcie := { s0.pcie with l0 := true } } : State).updKeeper fun k => { k with l0At := some s0.time }).wfs
        [(HST_LINK_SPEED, speed), (HST_LINK_WIDTH, width), (HST_LINK_FLIT, b2n flit)])

/-! ### Power states (R362 to R365) -/

/-- A refused write to MOD.PSTATE. [entry 107 DEDUCED] -/
def State.pstateRefuse (s : State) (reason : Nat) : State := s.wfs [(MOD_PSTATE_REFUSED, 1), (MOD_PSTATE_REASON, reason)]

/-- The first condition of a list that holds, as its REASON. [entry 107 DEDUCED] -/
def firstReason : List (Bool × Nat) → Option Nat
  | [] => none
  | (b, r) :: l => if b then some r else firstReason l

/-- REQ = IDLE-HOLD (R362). -/
def State.idleRequest (s : State) : State :=
  match firstReason [(!s.allQuiet, 1), (s.keeper.load.isSome, 2), (!s.rb MOD_STATUS_READY, 5)] with
  | some r => s.pstateRefuse r
  | none => ((s.wf MOD_PSTATE_REQ 1).updKeeper fun k => { k with idle := true, idleExit := !k.deferred.isEmpty }).setPwr

/-- Shelf entries with SPILL = 1. -/
def State.spillEntries (s : State) : List (Nat × Nat × Nat × Nat) :=
  s.tiles.flatMap fun (e : Nat × Tile) => (e.2.shelf.filter fun h => h.2.spill).map fun h => (e.1, h.1, h.2.w0, h.2.w1)

/-- REQ = BENCH-RETAIN (R364, R365): accepted, the shelf entries are recorded and READY reads 0. -/
def State.benchRequest (s : State) (key : Nat) : State :=
  let stopped := (List.range 16).all fun n => s.pst n == psEMPTY || s.pst n == psSTOPPED
  match firstReason [(key != 0x4252, 6), (!s.rb MOD_STATUS_READY, 5), (!stopped, 1), (s.keeper.load.isSome, 2),
      ((List.range 16).any fun n => s.occupancy n != 0, 3), (s.rb KEEP_RESTORE_PENDING, 4), (s.rb CHST_UCFG_EN, 7)] with
  | some r => s.pstateRefuse r
  | none =>
    ((s.wfs [(MOD_PSTATE_REQ, 2), (MOD_STATUS_READY, 0)]).updKeeper fun k =>
      { k with benchEntry := true, benchReset := none, spilled := s.spillEntries })

/-- REQ = RUN (R362, R365). -/
def State.runRequest (s : State) : State :=
  let s1 := s.wf MOD_PSTATE_REQ 0
  if s1.keeper.benchEntry then s1.updKeeper fun k => { k with benchReset := some (k.benchReset.getD 3) }
  else if s1.keeper.bench then s1.benchExit 3
  else if s1.keeper.idle then s1.updKeeper fun k => { k with idleExit := true }
  else s1

/-- A write to MOD.PSTATE (Table RS-5). -/
def State.pstateWrite (s : State) (v : Nat) : State :=
  let s1 := if v.testBit 2 then s.wf MOD_PSTATE_REFUSED 0 else s
  match bits v 0 2 with
  | 0 => s1.runRequest
  | 1 => s1.idleRequest
  | 2 => s1.benchRequest (bits v 48 16)
  | _ => s1.pstateRefuse 0

/-- A write of MOD.PSTATE through PF0. -/
def State.pstateHost (s : State) (f v : Nat) : State := if s.pf0Writes f && s.pageReady pgMOD then s.pstateWrite v else s

/-- IDLE_HOLD_REQUEST: R362. -/
def execIdleHoldRequest (f : Nat) (s : State) : Host.Outcome State Fault Refusal := .next (s.pstateHost f 1)
/-- BENCH_RETAIN_REQUEST: R364. -/
def execBenchRetainRequest (f : Nat) (key : BitVec 16) (s : State) : Host.Outcome State Fault Refusal :=
  .next (s.pstateHost f (2 + key.toNat * 2 ^ 48))
/-- RUN_REQUEST: R362, R365. -/
def execRunRequest (f at_ : Nat) (s : State) : Host.Outcome State Fault Refusal := .next ((s.at at_).pstateHost f 0)

/-- A command that waited for RUN. -/
def State.runDeferred (s : State) (c : Nat × Nat) : State :=
  if c.1 = 16 then s.imgCmd (if c.2 = 0 then 1 else 2)
  else if c.2 = 7 then s.partReset c.1 true
  else if c.2 = 6 then s.partReset c.1 false
  else s.cmdNow c.1 c.2

/-- IDLE_HOLD_EXIT_COMPLETE: the plains run again, and what waited takes effect. -/
def execIdleHoldExitComplete (at_ : Nat) (s : State) : Host.Outcome State Fault Refusal :=
  let s0 := s.at at_
  .next (if !s0.keeper.idle ∨ !s0.keeper.idleExit then s0
    else
      let s1 := (s0.updKeeper fun k => { k with idle := false, idleExit := false, deferred := [] }).setPwr
      s0.keeper.deferred.foldl State.runDeferred s1)

/-- A byte of a bench. -/
def benchKey (k : Nat) : Bool := decide (k < 2 ^ 60) && decide (0x40000000 ≤ k % 2 ^ 32)

/-- What BENCH-RETAIN leaves of a shelf: every entry INVALID, with GEN advanced where it was valid (R143, R365). [entry 146
DEDUCED] -/
def Shelf.retained (e : Shelf) : Shelf := { w0 := (if e.place = 0 then e.gen else (e.gen + 1) % 65536) * 65536 }

/-- What BENCH-RETAIN leaves of the tiles: the generation counts of their shelves. -/
def State.retainShelves (s : State) : SMap Tile :=
  s.tiles.foldl (fun m e => sset {} m e.1 { shelf := e.2.shelf.foldl (fun m h => sset {} m h.1 h.2.retained) [] }) []

/-- BENCH_RETAIN_ENTERED: spill homes are written, and all but the benches, the Keeper, the control block and the link powers
down (R365). -/
def execBenchRetainEntered (at_ : Nat) (s : State) : Host.Outcome State Fault Refusal :=
  let s0 := s.at at_
  .next (if !s0.keeper.benchEntry then s0
    else
      let s1 := s0.keeper.spilled.foldl State.toHome s0
      let k := s1.journalKeep false
      let b := s1.blank { k with benchEntry := false, bench := true, phase := 2, groups := 0, restore := none, load := none, peers := [], reloads := []
                                 coldSlot := [], coldPro := [], copyPro := [], idle := false, idleExit := false, deferred := [] } [] fun q => q.kept false
      let s2 : State := { b with
        fld := s1.fld.filter fun e => earlyPages.contains (pageBase (e.1 / 64))
        mem := s1.mem.filter fun c => benchKey c.1
        eccBad := s1.eccBad.filter fun e => benchKey (e.1 * 8)
        tiles := s1.retainShelves
        pcie := s1.pcie, chest := s1.chest }
      let s3 := (if s1.keeper.coldPro.isEmpty && s1.keeper.copyPro.isEmpty then s2 else s2.measChange).freeSlots.setPwr
      match k.benchReset with
      | some c => s3.benchExit c
      | none => s3)

end Sys2Proof.Machine
end

