-- ==== Sys2Proof/Machine/Chest.lean ====
section
/-! DEFINITION. The Chest's commands and the Keeper's firmware (15 R312 to R334, 17 R357). -/

namespace Sys2Proof.Machine

/-! ### Backup slots -/

/-- A write to CHST.RELEASE: every COMMITTED slot is retired (R312, R334). [entry 109 DEDUCED] -/
def State.chstRelease (s : State) (v : Nat) : State :=
  if !v.testBit 0 ∨ bits v 48 16 ≠ 0x524C ∨ s.restoring ∨ s.frozen then s
  else
    (s.forEach (List.range 2) fun s k => if s.rf (CHST_BSLOT_STATE k) = 3 then s.setSlot k 4 else s).wk KEEP_RESTORE_PENDING 0

/-- CHST_RELEASE: R334. -/
def execChstRelease (f : Nat) (v : BitVec 64) (s : State) : Host.Outcome State Fault Refusal :=
  .next (if s.pf0Writes f ∧ s.pageReady pgCHST then s.chstRelease v.toNat else s)

/-- Erases that failed: counted, raised and their blocks retired. -/
def State.eraseFails (s : State) (n : Nat) : State :=
  ((List.range n).foldl (fun s _ => (s.bump CHST_NAND_FAILS_ERASE).raise 0x6002 pgCHST) s).wk CHST_WEAR_BAD_BLOCKS
    (s.rf CHST_WEAR_BAD_BLOCKS + n)

/-- The largest erase count, in tenths of a TLC erase, after an erase (R327). -/
def State.wearMax (s : State) (tenths : Nat) : State := s.wk CHST_WEAR_MAX (max (s.rf CHST_WEAR_MAX) (tenths / 10))

/-- CHEST_BACKGROUND_ERASE_COMPLETE: a retired backup slot is READY again, of `stripes` stripes if blocks failed to erase; a freed image
slot gives its blocks back (R316, R320). -/
def execChestBackgroundEraseComplete (image : Bool) (k fails stripes : Nat) (s : State) : Host.Outcome State Fault Refusal :=
  .next (if !s.rb MOD_STATUS_KEEPER_UP ∨ s.frozen ∨ s.rb SEC_STATUS_REKEYING then s
    else if image then
      match sget? s.chest.imgs k with
      | some x => if x.freed then (s.updChest fun c => { c with imgs := sdel c.imgs k }).eraseFails fails else s
      | none => s
    else
      let st := s.rf (CHST_BSLOT_STATE k)
      if 2 ≤ k ∨ !(st = 1 ∨ st = 4 ∨ st = 5) then s
      else
        let s1 := s.updChest fun c => { c with snaps := sdel c.snaps k, bwear := sins c.bwear k (sget 0 c.bwear k + 1) }
        let s2 := (s1.wearMax (sget 0 s1.chest.bwear k)).eraseFails fails
        (if fails = 0 then s2 else s2.wk (CHST_BSLOT_STRIPES k) (min stripes (s2.rf (CHST_BSLOT_STRIPES k)))).setSlot k 0)

/-- CHEST_REFRESH_REWRITE: a page of the journal zone or the image store has needed `steps` shifts, at least 5, which corrected
`corrected` codewords; it is rewritten, and holds what it held (R326). -/
def execChestRefreshRewrite (steps corrected : Nat) (s : State) : Host.Outcome State Fault Refusal :=
  .next (if !s.rb MOD_STATUS_KEEPER_UP ∨ steps < 5 ∨ 8 < steps then s
    else (s.bump CHST_RETRIES_COUNT steps).bump CHST_CORRECTED_COUNT corrected)

/-- CHANNEL_FAIL: ONFI channel `c` has stopped answering. [entry 114 DEDUCED] -/
def execChannelFail (c : Nat) (s : State) : Host.Outcome State Fault Refusal :=
  .next (if 32 ≤ c ∨ !s.powered ∨ s.chest.dead.contains c then s
    else (s.updChest fun x => { x with dead := c :: x.dead }).raise 0x6006 pgCHST)

/-! ### The user ring (R321 to R328) -/

/-- Descriptors of the ring; LOG2_SIZE outside 4 to 15 counts as 4. -/
def State.uringSize (s : State) : Nat :=
  let l := s.rf CHST_UCFG_LOG2_SIZE
  2 ^ (if l < 4 then 4 else l)

/-- A write to UBASE, UCFG or UTAIL: EN going to 1 restarts the ring at UHEAD (R322). -/
def State.uringWord (s : State) (rel v m : Nat) : State :=
  if rel = 0x128 then s.writeWord (pgCHST + rel) (v &&& 0xFFFFFFFFFFFFFFC0) m
  else
    let s1 := s.writeWord (pgCHST + rel) v m
    if rel = 0x130 ∧ !s.rb CHST_UCFG_EN ∧ s1.rb CHST_UCFG_EN then
      (s1.wfs [(CHST_UHEAD_STOPPED, 0), (CHST_UHEAD_LAST_ERR, 0)]).updChest fun c =>
        { c with fetch := (s1.rf CHST_UHEAD_HEAD + c.ring.length) % s1.uringSize }
    else s1

/-- CHEST_UTAIL_WRITE: R322. -/
def execChestUtailWrite (f : Nat) (v : BitVec 64) (s : State) : Host.Outcome State Fault Refusal :=
  .next (if s.pf0Writes f ∧ s.pageReady pgCHST then s.uringWord 0x138 v.toNat (2 ^ 64 - 1) else s)

/-- CHEST_UCFG_WRITE: R322. -/
def execChestUcfgWrite (f : Nat) (v : BitVec 64) (s : State) : Host.Outcome State Fault Refusal :=
  .next (if s.pf0Writes f ∧ s.pageReady pgCHST then s.uringWord 0x130 v.toNat (2 ^ 64 - 1) else s)

/-- The ring starts its next descriptor: enabled and not stopped, one is offered, fewer than 64 are in flight, none in flight
ends in HOST or BAD_DESC, and nothing makes host commands wait (R322, R328). -/
def State.uringGo (s : State) : Bool :=
  s.rb CHST_UCFG_EN && !s.rb CHST_UHEAD_STOPPED && s.chest.fetch != s.rf CHST_UTAIL_TAIL % s.uringSize &&
    decide (s.chest.ring.length < 64) && !(s.chest.ring.any fun d => bits d.w3 0 8 == 11 || bits d.w3 0 8 == 12) &&
    s.rb MOD_STATUS_KEEPER_UP && s.pageReady pgCHST && s.pcie.l0 && !s.frozen && s.keeper.restore.isNone

/-- A descriptor that is performed waits for its write-back, with word 3 as it will be. -/
def State.uringDone (s : State) (w1 w3 : Nat) : State :=
  (s.updChest fun c => { c with
    fetch := (c.fetch + 1) % s.uringSize
    ring := c.ring ++ [{ index := c.fetch, w1 := w1, addr := s.rf CHST_UBASE_ADDR + 32 * c.fetch + 24, w3 := w3 }] }).wf CHST_UHEAD_BUSY 1

/-- The descriptor is malformed (BAD_DESC, Table CH-5). -/
def udescBad (w0 w1 w2 w3 : Nat) : Bool :=
  bits w1 0 4 == 0 || decide (4 < bits w1 0 4) || w0 % 64 != 0 || bits w1 6 2 != 0 || bits w1 28 4 != 0 || bits w1 42 22 != 0 ||
    bits w2 32 32 != 0 || bits w3 13 3 != 0 || bits w3 32 32 != 0

/-- A descriptor of operation `op` at the head of the ring: malformed, outside the zone, of another operation, or performed. -/
def State.udesc (s : State) (op w0 w1 w2 w3 : Nat) (act : State → State × Nat) : State :=
  if !s.uringGo then s
  else if udescBad w0 w1 w2 w3 then s.uringDone w1 12
  else if bits w1 0 4 ≠ op then s
  else if s.rf CHST_ZONE_USER_BLOCKS ≤ bits w1 16 12 then s.uringDone w1 3
  else
    let r := act s
    r.1.uringDone w1 r.2

/-- ERASE (R321, R327): `pass` is the NAND status. [entry 110 DESIGN CHOICE] -/
def State.chestErase (s : State) (w1 : Nat) (pass : Bool) : State × Nat :=
  let k := s.ublockKey w1
  let b := s.ublock k
  let pslc := w1.testBit 4
  if b.st = 2 then (s, 5)
  else
    let b1 := { b with wear := b.wear + (if pslc then 1 else 10), pages := [] }
    if pass then ((s.setUblock k { b1 with st := 0, pslc := pslc, next := 0, lost := false }).wearMax b1.wear, 1)
    else (((s.setUblock k { b1 with st := 2, lost := true }).wearMax b1.wear).eraseFails 1, 7)

/-- CHEST_ERASE. -/
def execChestErase (w0 w1 w2 w3 : BitVec 64) (pass : Bool) (s : State) : Host.Outcome State Fault Refusal :=
  .next (s.udesc 1 w0.toNat w1.toNat w2.toNat w3.toNat fun s => s.chestErase w1.toNat pass)

/-- Of a PAGE outside the block the spec states no result: a free value (R321). -/
def State.pageBeyond (s : State) : State × Nat :=
  let d := s.draw 8
  (d.2, d.1)

/-- Pages of a block. -/
def UBlock.size (b : UBlock) : Nat := if b.pslc then 256 else 768

/-- PROGRAM (R321, R323): `data` is what the host holds, `hostErr` a completion error, `pass` the NAND status. [entry 110 DESIGN CHOICE] -/
def State.chestProgram (s : State) (w1 data : Nat) (hostErr pass : Bool) : State × Nat :=
  let k := s.ublockKey w1
  let b := s.ublock k
  let page := bits w1 32 10
  let n := progPages (w1.testBit 4)
  if b.st = 2 then (s, 5)
  else if b.st ≠ 0 ∧ b.st ≠ 1 then (s, 9)
  else if b.pslc != w1.testBit 4 ∨ (n = 3 ∧ page % 3 ≠ 0) then (s, 4)
  else if b.size < page + n then s.pageBeyond
  else if page < b.next then (s, 2)
  else if hostErr then (s, 11)
  else if pass then
    (s.setUblock k { b with st := 1, next := page + n
                            pages := (List.range n).foldl (fun m i => sins m (page + i) (bits data (131072 * i) 131072)) b.pages }, 1)
  else
    let s1 := s.freePages k page n
    (((s1.setUblock k { s1.ublock k with st := 2 }).bump CHST_NAND_FAILS_PROGRAM |>.wk CHST_WEAR_BAD_BLOCKS
      (s.rf CHST_WEAR_BAD_BLOCKS + 1)).raise 0x6001 pgCHST, 6)

/-- CHEST_PROGRAM (R324). -/
def execChestProgram (w0 w1 w2 w3 : BitVec 64) (data : Nat) (hostErr pass : Bool) (s : State) : Host.Outcome State Fault Refusal :=
  .next (s.udesc 2 w0.toNat w1.toNat w2.toNat w3.toNat fun s => s.chestProgram w1.toNat data hostErr pass)

/-- What a page of a block holds: as programmed, blank, or not known. -/
def State.pageData (s : State) (b : UBlock) (page : Nat) : Nat × State :=
  match sget? b.pages page with
  | some v => (v, s)
  | none => if b.lost then s.draw 131072 else (2 ^ 131072 - 1, s)

/-- READ (R321, R326): `step` is the ladder step that corrected, none if all failed; `corrected` codewords were corrected, at most
`bits_` bits in one. [entry 110 DESIGN CHOICE] -/
def State.chestRead (s : State) (w0 w1 : Nat) (step : Option Nat) (corrected bits_ : Nat) (hostErr : Bool) : State × Nat :=
  let b := s.ublock (s.ublockKey w1)
  let page := bits w1 32 10
  if b.st = 3 then (s, 9)
  else if b.size ≤ page then s.pageBeyond
  else
    let k := min 8 (step.getD 8)
    let s1 := s.bump CHST_RETRIES_COUNT k
    match step with
    | none => ((s1.bump CHST_UNCORRECTABLE_COUNT).raise 0x6003 pgCHST, 8)
    | some _ =>
      let s2 := s1.bump CHST_CORRECTED_COUNT corrected
      if hostErr then (s2, 11)
      else
        let d := s2.pageData b page
        (d.2.emit (.hostWrite w0 16384 d.1), 1 + k * 2 ^ 8 + b2n (5 ≤ k) * 2 ^ 12 + min bits_ 100 * 2 ^ 16)

/-- CHEST_READ. -/
def execChestRead (w0 w1 w2 w3 : BitVec 64) (step : Option Nat) (corrected bits_ : Nat) (hostErr : Bool) (s : State) :
    Host.Outcome State Fault Refusal :=
  .next (s.udesc 3 w0.toNat w1.toNat w2.toNat w3.toNat fun s => s.chestRead w0.toNat w1.toNat step corrected bits_ hostErr)

/-- INFO (R321). [entry 112 DEDUCED] -/
def State.chestInfo (s : State) (w0 w1 : Nat) (hostErr : Bool) : State × Nat :=
  let b := s.ublock (s.ublockKey w1)
  if hostErr then (s, 11)
  else (s.emit (.hostWrite w0 64 (b.wear / 10 % 2 ^ 32 + b.st * 2 ^ 32 + b2n b.pslc * 2 ^ 40 + b.next * 2 ^ 48)), 1)

/-- CHEST_INFO. -/
def execChestInfo (w0 w1 w2 w3 : BitVec 64) (hostErr : Bool) (s : State) : Host.Outcome State Fault Refusal :=
  .next (s.udesc 4 w0.toNat w1.toNat w2.toNat w3.toNat fun s => s.chestInfo w0.toNat w1.toNat hostErr)

/-- CHEST_WRITEBACK: the oldest descriptor in flight is written back, then its interrupt goes out (R322). -/
def execChestWriteback (s : State) : Host.Outcome State Fault Refusal :=
  .next (match s.chest.ring with
    | [] => s
    | d :: rest =>
      if !s.rb MOD_STATUS_KEEPER_UP ∨ !s.pcie.l0 ∨ s.frozen then s
      else
        let r := bits d.w3 0 8
        let s1 := (s.updChest fun c => { c with ring := rest }).emit (.hostWrite d.addr 8 d.w3)
        let s2 := s1.wfs [(CHST_UHEAD_HEAD, (d.index + 1) % s.uringSize), (CHST_UHEAD_BUSY, b2n !rest.isEmpty)]
        let s3 := if r = 11 ∨ r = 12 then s2.wfs [(CHST_UHEAD_STOPPED, 1), (CHST_UHEAD_LAST_ERR, r)] else s2
        if d.w1.testBit 5 && s3.rb CHST_UCFG_IRQ_EN then s3.irqPage pgCHST else s3)

/-- A write to CHST.ZONE.USER_BLOCKS (R325): `clash` says that a block which would move belongs to an image store slot, where the
slots' sizes do not already say so. [entry 113 DEDUCED] -/
def State.zoneWrite (s : State) (v : Nat) (clash : Bool) : State :=
  let u := bits v 0 13
  let old := s.rf CHST_ZONE_USER_BLOCKS
  if s.frozen ∨ s.keeper.restore.isSome ∨ s.keeper.load.isSome ∨ 4096 < u then s
  else if old < u ∧ !s.chest.imgs.isEmpty ∧ (clash ∨ s.imageFree < 256 * (u - old)) then s.wf CHST_STATUS_ZONE_REFUSED 1
  else
    (s.wk CHST_ZONE_USER_BLOCKS u).updChest fun c => { c with user := c.user.filterMap fun e =>
      if e.1 % 8192 < 5464 - u then (if e.2.wear = 0 then none else some (e.1, { wear := e.2.wear })) else some e }

/-- CHEST_ZONE_WRITE: R325. [entry 113 DEDUCED] -/
def execChestZoneWrite (f : Nat) (v : BitVec 64) (clash : Bool) (s : State) : Host.Outcome State Fault Refusal :=
  .next (if s.pf0Writes f ∧ s.pageReady pgCHST then s.zoneWrite v.toNat clash else s)

/-! ### Keeper firmware (R329 to R333) -/

/-- A slot runs on trial. -/
def State.onTrial (s : State) : Bool := s.rb (CHST_FW_SLOT_TRIAL s.chest.fwRun)

/-- FW_CMD = UPDATE (R330): an update runs from here to step 7 of Table CH-6. -/
def State.fwUpdate (s : State) : State :=
  if s.frozen ∨ s.keeper.restore.isSome ∨ s.chest.fwStep ≠ 0 ∨ (s.onTrial ∧ s.rb MOD_STATUS_KEEPER_UP) then
    (if s.chest.fwStep = 0 then s.fwState 6 1 else s.wf CHST_FW_STATUS_RESULT 1)
  else (s.updChest fun c => { c with fwStep := 1, fwSlot := 1 - c.fwRun }).fwState 1 0

/-- The Keeper stops and restarts (R357); `wd`: a watchdog expiry is the cause. -/
def State.keeperDown (s : State) (wd : Bool) : State :=
  (((s.wf MOD_STATUS_KEEPER_UP 0).updChest fun c => { c with wdog := c.wdog || wd }).fwRestart).setCharging

/-- FW_CMD = RESTART, accepted in ACTIVATED (Table CH-6). -/
def State.fwRestartCmd (s : State) : State :=
  if s.rf CHST_FW_STATUS_STATE = 5 ∧ s.rb MOD_STATUS_KEEPER_UP then s.keeperDown false else s

/-- A write to CHST.FW_CMD. [entry 115 DEDUCED] -/
def State.fwCmd (s : State) (v : Nat) : State :=
  match bits v 0 2 with
  | 1 => s.fwUpdate
  | 2 => s.fwRestartCmd
  | _ => s

/-- FW_UPDATE: R330. -/
def execFwUpdate (f : Nat) (s : State) : Host.Outcome State Fault Refusal :=
  .next (if s.pf0Writes f ∧ s.pageReady pgCHST then s.fwCmd 1 else s)

/-- FW_RESTART. -/
def execFwRestart (f : Nat) (s : State) : Host.Outcome State Fault Refusal :=
  .next (if s.pf0Writes f ∧ s.pageReady pgCHST then s.fwCmd 2 else s)

/-- Checks 1 to 4 and 6 of Table IM-6 on a firmware image: 0, or the result. -/
def State.fwCheck (s : State) (p : Nat) : Nat :=
  let c := proCheck p (some (0x100000 * min 8 (s.rf CHST_FW_CHUNKS_COUNT))) [(0x21, 2)]
  if c ≠ 0 then c else if !proSigned p || !s.sigOk p then 6 else 0

/-- FW_UPDATE_STEP_COMPLETE: the step of Table CH-6 that runs ends, `ok` or not; the first reads the prologue `pro`, `len` bytes
(R330, R331). [entry 115 DEDUCED] -/
def execFwUpdateStepComplete (pro len : Nat) (ok : Bool) (s : State) : Host.Outcome State Fault Refusal :=
  let toStep := fun (s : State) (k : Nat) => s.updChest fun c => { c with fwStep := k }
  let slot := s.chest.fwSlot
  .next (if !s.rb MOD_STATUS_KEEPER_UP ∨ s.frozen then s
    else match s.chest.fwStep with
      | 1 =>
        match s.fwCheck pro with
        | 0 =>
          let s1 := s.updChest fun c => { c with fwStep := 2, fwNew := pro % 2 ^ (8 * min len (proLen pro)) * 2 ^ 32 + min len (proLen pro) }
          (s1.wks [(CHST_FW_SLOT_STATE slot, 3), (CHST_FW_SLOT_TRIAL slot, 0)]).fwState 2 0
        | c => (toStep s 0).fwState 6 c
      | 2 => if ok then (toStep s 3).fwState 3 0 else s.fwEnd 32
      | 3 =>
        if ok then
          ((toStep s 4).updChest fun c => { c with fwPro := sins c.fwPro slot c.fwNew }).fwState 4 0
        else s.fwEnd 32
      | 4 =>
        if ok then
          let d := s.draw 16
          (toStep d.2 5).wks [(CHST_FW_SLOT_STATE slot, 1), (CHST_FW_SLOT_VERSION slot, d.1)]
        else s.fwEnd 33
      | 5 =>
        if ok then (((toStep s 6).selWrite slot true).wk (CHST_FW_SLOT_TRIAL slot) 1).fwState 5 0 else s.fwEnd 32
      | _ => s)

/-- FW_TRIAL_CONFIRM: step 7 of Table CH-6. -/
def execFwTrialConfirm (at_ : Nat) (s : State) : Host.Outcome State Fault Refusal :=
  let s0 := s.at at_
  let k := s0.chest.fwRun
  .next (if !s0.rb MOD_STATUS_KEEPER_UP ∨ !s0.onTrial ∨ s0.frozen ∨ s0.time < s0.chest.trialFrom + 60000000000 then s0
    else
      let s1 := (s0.selWrite k false).wks [(CHST_FW_SLOT_STATE k, 2), (CHST_FW_SLOT_TRIAL k, 0),
        (CHST_FW_SLOT_STATE (1 - k), if s0.rf (CHST_FW_SLOT_STATE (1 - k)) = 2 then 1 else s0.rf (CHST_FW_SLOT_STATE (1 - k)))]
      let s2 := s1.updChest fun c => { c with fwStep := 0 }
      if s2.rf CHST_FW_STATUS_STATE = 5 then s2.fwState 6 0 else s2)

/-- KEEPER_WATCHDOG_EXPIRY: R332, R357. -/
def execKeeperWatchdogExpiry (at_ : Nat) (s : State) : Host.Outcome State Fault Refusal :=
  let s0 := s.at at_
  .next (if !s0.powered then s0 else ((s0.bump KEEP_WDOG_RESTARTS_COUNT).keeperDown true).raise 0x7001 pgKEEP)

/-- KEEPER_LOCKSTEP_ERROR: R357. -/
def execKeeperLockstepError (at_ : Nat) (s : State) : Host.Outcome State Fault Refusal :=
  let s0 := s.at at_
  .next (if !s0.powered then s0 else (s0.keeperDown false).raise 0x7002 pgKEEP)

/-- A slot is found INVALID (R329). -/
def State.slotInvalid (s : State) (k : Nat) : State :=
  if s.rf (CHST_FW_SLOT_STATE k) = 3 then s
  else (s.wks [(CHST_FW_SLOT_STATE k, 3), (CHST_FW_SLOT_TRIAL k, 0)]).raise 0x7003 pgKEEP

/-- The boot ROM's choice (R329): the slot that runs, if one does; `good` are the slots that pass their checks. -/
def State.bootSlot (s : State) (good : Nat → Bool) : Option Nat × State :=
  match s.selNewest with
  | none => (none, s)
  | some e =>
    let k := e.2.slot
    let trialFail := e.2.trial && s.chest.wdog
    let s1 := if trialFail ∨ !good k then s.slotInvalid k else s
    if !trialFail && good k then (some k, s1)
    else if good (1 - k) then (some (1 - k), s1) else (none, s1.slotInvalid (1 - k))

/-- The firmware of a slot runs: on trial as the newest selector word says, else ACTIVE; measurement 2 changes with the slot. -/
def State.fwBoot (s : State) (k : Nat) : State :=
  let trial := match s.selNewest with
    | some e => e.2.slot == k && e.2.trial
    | none => false
  let s1 := if trial then s.wk (CHST_FW_SLOT_TRIAL k) 1 else s.wks [(CHST_FW_SLOT_STATE k, 2), (CHST_FW_SLOT_TRIAL k, 0)]
  let s2 := (s1.wk KEEP_FW_SLOT k).updChest fun c =>
    { c with fwRun := k, wdog := false, trialFrom := if trial then s1.time else c.trialFrom }
  let s3 := if s2.chest.fwStep = 6 ∧ !trial then (s2.updChest fun c => { c with fwStep := 0 }).fwState 6 0 else s2
  if s.chest.fwRun = k then s3 else s3.measChange

/-- The wrapped Chest key unwraps, or not (R315, R374). -/
def State.unwrapKey (s : State) (ok : Bool) : State :=
  let s1 := (s.updKeeper fun x => { x with foreign := !ok }).wk CHST_STATUS_KEY_OK (b2n ok)
  let s2 := if ok = s.rb CHST_STATUS_KEY_OK then s1 else s1.measChange
  if ok then s2 else s2.raise 0x6005 pgCHST

/-- The map that a cold start builds from the fuses and the self-test of every site and lane, which finds the defects of the field
again; no site is CLEARED (R79). [entry 114 DEDUCED] -/
def Plain.rebuilt (q : Plain) : Plain :=
  let m := q.map.byp.foldl (fun (m : PMap) (e : Nat × List Byp) => (e.2.filter (·.field)).foldl (fun m b => m.addByp b.col e.1) m) q.fuse
  let m' := (q.map.retired.filter (·.field)).foldl (fun (m : PMap) b => m.addRetired b.col) m
  { q with map := { m' with lanes := (q.fuse.lanes ++ q.map.lanes).eraseDups }, cleared := [] }

/-- The journal's copies are read (R79, "Zones"): a copy that fails its CRC raises JOURNAL_COPY_BAD; with none a cold start builds the
maps anew. [entry 114 DEDUCED] -/
def State.readJournal (s : State) (a b : Bool) : State :=
  let s1 := s.wks [(CHST_STATUS_JOURNAL_A_OK, b2n a), (CHST_STATUS_JOURNAL_B_OK, b2n b)]
  let s2 := if a then s1 else s1.raise 0x6004 pgCHST
  let s3 := if b then s2 else s2.raise 0x6004 pgCHST
  if a || b || s3.keeper.phase != 1 || s3.keeper.cause != 0 then s3
  else s3.forEach (List.range 64) fun s p => (s.updPlain p Plain.rebuilt).wk (REPR_JOURNAL_JOURNAL_REBUILT p) 1

/-- KEEPER_UP: the boot ROM has chosen a slot, of which `ok0` and `ok1` pass their checks, and its firmware runs: the journal is read,
the Chest key unwrapped, descriptors in flight are to be written back with RESTARTED (R315, R328, R329, R357). In a backup the firmware
waits for the commit. -/
def execKeeperUp (ok0 ok1 unwrap copyA copyB : Bool) (at_ : Nat) (s : State) : Host.Outcome State Fault Refusal :=
  let s0 := s.at at_
  .next (if !s0.powered ∨ s0.rb MOD_STATUS_KEEPER_UP ∨ s0.frozen then s0
    else
      let r := s0.bootSlot fun k => (if k = 0 then ok0 else ok1) && s0.rf (CHST_FW_SLOT_STATE k) != 3 && s0.rf (CHST_FW_SLOT_STATE k) != 0
      match r.1 with
      | none => r.2
      | some k =>
        let s1 := (r.2.fwBoot k).wf MOD_STATUS_KEEPER_UP 1
        let s2 := (s1.readJournal (copyA && !s1.chest.dead.contains 0) (copyB && !s1.chest.dead.contains 16)).unwrapKey unwrap
        s2.restartRing.setCharging)

end Sys2Proof.Machine
end

