-- ==== Sys2Proof/Machine/Identity.lean ====
section
/-! DEFINITION. The DOE mailbox and SPDM, measurements, re-keying, image keys, the JTAG lock (18 R368 to R379). -/

namespace Sys2Proof.Machine

/-! ### DOE and SPDM (R370 to R373) -/

/-- The mailbox answers: PF0 is reached, HST is READY, no backup runs (R373). -/
def State.doeUp (s : State) : Bool := s.fnUp 0 && s.pageReady pgHST && !s.frozen

/-- An SPDM request answered: Busy while the Keeper is down, and not before the connection has reached a step. -/
def State.spdmAnswer (s : State) (need : Nat) (act : State → SpdmReply × State) : State :=
  if !s.doeUp then s
  else if !s.rb MOD_STATUS_KEEPER_UP then s.emit (.doe .busy)
  else if s.keeper.spdm < need then s.emit (.doe .unexpected)
  else
    let r := act s
    r.2.emit (.doe r.1)

/-- DOE_DISCOVERY: the mailbox's two protocols, Discovery and CMA/SPDM (R371). [entry 97 PRESUMED] -/
def execDoeDiscovery (index : Nat) (s : State) : Host.Outcome State Fault Refusal :=
  .next (if !s.doeUp then s
    else if index < 2 then s.emit (.doe (.discovery index 1 index (1 - index))) else s.emit (.doe (.discovery index 0xFFFF 0 0)))

/-- GET_VERSION: 1.2 and 1.3; a connection starts. -/
def execGetVersion (s : State) : Host.Outcome State Fault Refusal :=
  .next (s.spdmAnswer 0 fun s => (.version [0x12, 0x13], s.updKeeper fun k => { k with spdm := 1 }))

/-- GET_CAPABILITIES. -/
def execGetCapabilities (s : State) : Host.Outcome State Fault Refusal :=
  .next (s.spdmAnswer 1 fun s => (.capabilities, s.updKeeper fun k => { k with spdm := 2 }))

/-- NEGOTIATE_ALGORITHMS: ECDSA P-384 and SHA-384, or ERROR. -/
def execNegotiateAlgorithms (p384 sha384 : Bool) (s : State) : Host.Outcome State Fault Refusal :=
  .next (s.spdmAnswer 2 fun s =>
    if p384 && sha384 then (.algorithms, s.updKeeper fun k => { k with spdm := 3 }) else (.invalid, s))

/-- GET_DIGESTS: slot 0 alone is populated (R370). -/
def execGetDigests (s : State) : Host.Outcome State Fault Refusal :=
  .next (s.spdmAnswer 3 fun s => (.digests 1 (Config.sha384 Config.certLen Config.certChain % 2 ^ 384), s))

/-- GET_CERTIFICATE: a portion of the chain of slot 0 (R370). -/
def execGetCertificate (slot off len : Nat) (s : State) : Host.Outcome State Fault Refusal :=
  let n := min len (Config.certLen - off)
  .next (s.spdmAnswer 3 fun s =>
    if slot ≠ 0 ∨ Config.certLen ≤ off then (.invalid, s)
    else (.certificate off n (Config.certLen - off - n) (bits Config.certChain (8 * off) (8 * n)), s))

/-- SPDM_CHALLENGE: the transcript signed with the identity key. -/
def execSpdmChallenge (slot transcript : Nat) (s : State) : Host.Outcome State Fault Refusal :=
  .next (s.spdmAnswer 3 fun s => if slot ≠ 0 then (.invalid, s) else (.challengeAuth (Config.identitySign transcript), s))

/-- The digest of a prologue as recorded, 0 where there is none. -/
def digestOf (o : Option Nat) : Nat :=
  match o with
  | some v => Config.sha384 (v % 2 ^ 32) (v / 2 ^ 32) % 2 ^ 384
  | none => 0

/-- The value at a measurement index (Table ID-2); an index with nothing to measure returns zeros. [entry 120 DEDUCED] -/
def State.measurement (s : State) (i : Nat) : Nat :=
  if i = 1 then Config.kValue 1 % 2 ^ 384
  else if i = 2 then
    match sget? s.chest.fwPro s.chest.fwRun with
    | some v => digestOf (some v)
    | none => Config.kValue (2 + s.chest.fwRun) % 2 ^ 384
  else if i = 3 then
    Config.securityState (s.kept SEC_FUSE_STATE_JTAG_LOCK + 2 * s.kept SEC_FUSE_STATE_DEBUG_KEY_SET + 16 * s.kept SEC_FUSE_STATE_REVOKED)
      (s.rf SEC_JTAG_STATE_STATE + 16 * s.rf SEC_JTAG_STATE_FAILS + 64 * s.rf SEC_JTAG_STATE_LOCKOUT) (s.kept SEC_IMGKEY_STATUS_STATES)
      (s.rf CHST_STATUS_KEY_OK) % 2 ^ 128
  else if 16 ≤ i ∧ i < 32 then digestOf (sget? s.keeper.coldPro (i - 16))
  else if 32 ≤ i ∧ i < 48 then digestOf (sget? s.keeper.copyPro (2 * (i - 32) + s.copyLive (i - 32)))
  else 0

/-- The indices of Table ID-2. -/
def measureIndices : List Nat := [1, 2, 3] ++ (List.range 32).map (16 + ·)

/-- GET_MEASUREMENTS: one index, or all with 0xFF, or their number with 0, captured in one step; the signature covers the transcript and
the values (R372). -/
def execGetMeasurements (index : Nat) (signed : Bool) (transcript : Nat) (s : State) : Host.Outcome State Fault Refusal :=
  .next (s.spdmAnswer 3 fun s =>
    if index ≠ 0 ∧ index ≠ 0xFF ∧ !measureIndices.contains index then (.invalid, s)
    else
      let l := if index = 0 then [(0, measureIndices.length)]
        else ((if index = 0xFF then measureIndices else [index]).map fun i => (i, s.measurement i))
      let record := l.foldl (fun m e => m * 2 ^ 384 + e.2) transcript
      (.measurements l (if signed then Config.identitySign record else 0), s))

/-- SPDM_UNSUPPORTED_REQUEST. -/
def execSpdmUnsupportedRequest (s : State) : Host.Outcome State Fault Refusal := .next (s.spdmAnswer 0 fun s => (.unsupported, s))

/-! ### Re-keying (R374) -/

/-- A write to SEC.REKEY: new keys, and the erase of the backup zone and the image store begins. [entry 118 DEDUCED] -/
def State.rekey (s : State) (v : Nat) : State :=
  let still := (List.range 16).all fun n => s.pst n == psEMPTY || s.pst n == psSTOPPED
  if !v.testBit 0 ∨ bits v 48 16 ≠ 0x524B ∨ !still ∨ s.frozen ∨ s.keeper.restore.isSome ∨ s.rb SEC_STATUS_REKEYING ∨
      !s.rb MOD_STATUS_KEEPER_UP then s
  else
    let was := s.rb CHST_STATUS_KEY_OK
    let s1 := (s.updChest fun c => { c with snaps := [], imgs := [] }).updKeeper fun k => { k with foreign := false, coldSlot := [], peers := [], reloads := [] }
    let s2 := (s1.imgAbort 16).updChest fun c => { c with imgs := [] }
    let s3 := (s2.wks [(CHST_STATUS_KEY_OK, 1), (KEEP_RESTORE_PENDING, 0)]).wf SEC_STATUS_REKEYING 1
    let s4 := s3.forEach (List.range 2) fun s k => s.setSlot k 1
    if was then s4 else s4.measChange

/-- REKEY: R374. -/
def execRekey (f : Nat) (v : BitVec 64) (s : State) : Host.Outcome State Fault Refusal :=
  .next (if s.pf0Writes f ∧ s.pageReady pgSEC then s.rekey v.toNat else s)

/-- REKEY_COMPLETE: both zones are erased (R374). -/
def execRekeyComplete (at_ : Nat) (s : State) : Host.Outcome State Fault Refusal :=
  let s0 := s.at at_
  .next (if !s0.rb SEC_STATUS_REKEYING ∨ !s0.rb MOD_STATUS_KEEPER_UP ∨ s0.frozen then s0
    else ((s0.forEach (List.range 2) fun s k => s.setSlot k 0).wf SEC_STATUS_REKEYING 0).irqPage pgSEC)

/-! ### Image keys (R375) -/

/-- Six words of a register array, lowest first. -/
def State.words6 (s : State) (k : Nat → Fk) : Nat := ((List.range 6).map fun j => s.rf (k j) * 2 ^ (64 * j)).sum

/-- The state of an image key slot set. -/
def State.setKeyState (s : State) (k st : Nat) : State :=
  let v := s.rf SEC_IMGKEY_STATUS_STATES
  (s.wk SEC_IMGKEY_STATUS_STATES (v - bits v (2 * k) 2 * 4 ^ k + st * 4 ^ k)).measChange

/-- A write to SEC.IMGKEY_CMD. [entry 118 DEDUCED] -/
def State.imgkeyCmd (s : State) (v : Nat) : State :=
  let k := bits v 4 2
  let st := bits (s.rf SEC_IMGKEY_STATUS_STATES) (2 * k) 2
  let key := s.words6 (SEC_IMGKEY_X_X k) + 2 ^ 384 * s.words6 (SEC_IMGKEY_Y_Y k)
  match bits v 0 2 with
  | 1 =>
    if st = 0 ∧ Config.onCurve key then (s.updKeeper fun x => { x with imgKeys := sins x.imgKeys k key }).setKeyState k 1
    else s.wf SEC_IMGKEY_STATUS_REFUSED 1
  | 2 =>
    if bits v 48 16 ≠ 0x5256 then s.wf SEC_IMGKEY_STATUS_REFUSED 1
    else if st = 2 then s
    else
      ((s.wk SEC_FUSE_STATE_REVOKED (s.rf SEC_FUSE_STATE_REVOKED ||| 2 ^ k)).updKeeper fun x =>
        { x with imgKeys := sdel x.imgKeys k }).setKeyState k 2
  | _ => s

/-- IMGKEY_PROGRAM: R375. -/
def execImgkeyProgram (f slot : Nat) (s : State) : Host.Outcome State Fault Refusal :=
  .next (if s.pf0Writes f ∧ s.pageReady pgSEC then s.imgkeyCmd (1 + slot % 4 * 16) else s)

/-- IMGKEY_REVOKE: R375. -/
def execImgkeyRevoke (f slot : Nat) (key : BitVec 16) (s : State) : Host.Outcome State Fault Refusal :=
  .next (if s.pf0Writes f ∧ s.pageReady pgSEC then s.imgkeyCmd (2 + slot % 4 * 16 + key.toNat * 2 ^ 48) else s)

/-! ### The JTAG lock (R376 to R378) -/

/-- The JTAG state; a change advances MEAS_SEQ and raises SEC's event (R372, R378). -/
def State.jtagState (s : State) (st : Nat) : State :=
  if s.rf SEC_JTAG_STATE_STATE = st then s else ((s.wf SEC_JTAG_STATE_STATE st).irqPage pgSEC).measChange

/-- CHALLENGE: 48 random bytes, of which the spec gives no value. -/
def State.jtagChallenge (s : State) : State :=
  if s.rb SEC_JTAG_STATE_LOCKOUT then s
  else
    let d := s.draw 384
    let s1 := (List.range 6).foldl (fun s j => s.wf (SEC_JTAG_NONCE_NONCE j) (bits d.1 (64 * j) 64)) d.2
    (s1.updKeeper fun k => { k with nonce := some (d.1, s.time) }).jtagState 1

/-- The string that the response signs: nonce, ID_HASH, SCOPE (R377). -/
def State.jtagMessage (s : State) (nonce scope : Nat) : Nat :=
  nonce + 2 ^ 384 * ((List.range 6).map fun j => s.kept (SEC_ID_HASH_HASH j) * 2 ^ (64 * j)).sum + 2 ^ 768 * scope

/-- The nonce lives. -/
def State.liveNonce (s : State) : Option Nat :=
  match s.keeper.nonce with
  | some (v, t0) => if s.time < t0 + 60000000000 then some v else none
  | none => none

/-- A failed VERIFY: LOCKED, FAILS advances, three set LOCKOUT. -/
def State.jtagFail (s : State) : State :=
  let n := min 3 (s.rf SEC_JTAG_STATE_FAILS + 1)
  let s1 := (s.updKeeper fun k => { k with nonce := none }).wfs [(SEC_JTAG_STATE_FAILS, n),
    (SEC_JTAG_STATE_LOCKOUT, b2n (s.rb SEC_JTAG_STATE_LOCKOUT || n == 3))]
  if s.rf SEC_JTAG_STATE_STATE = 0 then s1.measChange else s1.jtagState 0

/-- VERIFY: the signature in JTAG_RESP is checked against the debug key; the nonce is used. [entry 119 DEDUCED] -/
def State.jtagVerify (s : State) (scope : Nat) : State :=
  let r := s.words6 SEC_JTAG_RESP_SIG; let q := s.words6 fun j => SEC_JTAG_RESP_SIG (6 + j)
  match s.liveNonce with
  | none => s.jtagFail
  | some v =>
    if 2 ≤ scope ∧ s.kept SEC_FUSE_STATE_DEBUG_KEY_SET = 1 ∧
        Config.ecdsaOk Config.debugKey (Config.sha384 97 (s.jtagMessage v scope)) r q then
      (s.updKeeper fun k => { k with nonce := none }).jtagState scope
    else s.jtagFail

/-- RELOCK. -/
def State.jtagRelock (s : State) : State := (s.updKeeper fun k => { k with nonce := none }).jtagState 0

/-- A write to SEC.JTAG_CMD. [entry 119 DEDUCED] -/
def State.jtagCmd (s : State) (v : Nat) : State :=
  match bits v 0 2 with
  | 1 => s.jtagChallenge
  | 2 => s.jtagVerify (bits v 4 2)
  | 3 => s.jtagRelock
  | _ => s

/-- JTAG_CHALLENGE: R377. -/
def execJtagChallenge (f at_ : Nat) (s : State) : Host.Outcome State Fault Refusal :=
  let s0 := s.at at_
  .next (if s0.pf0Writes f ∧ s0.pageReady pgSEC then s0.jtagChallenge else s0)

/-- JTAG_VERIFY: R377. -/
def execJtagVerify (f scope at_ : Nat) (s : State) : Host.Outcome State Fault Refusal :=
  let s0 := s.at at_
  .next (if s0.pf0Writes f ∧ s0.pageReady pgSEC then s0.jtagVerify (scope % 4) else s0)

/-- JTAG_RELOCK: R378. -/
def execJtagRelock (f : Nat) (s : State) : Host.Outcome State Fault Refusal :=
  .next (if s.pf0Writes f ∧ s.pageReady pgSEC then s.jtagRelock else s)

/-- JTAG_NONCE_EXPIRY: R377. -/
def execJtagNonceExpiry (at_ : Nat) (s : State) : Host.Outcome State Fault Refusal :=
  let s0 := s.at at_
  .next (if s0.keeper.nonce.isNone ∨ s0.liveNonce.isSome then s0
    else
      let s1 := s0.updKeeper fun k => { k with nonce := none }
      if s1.rf SEC_JTAG_STATE_STATE = 1 then s1.jtagState 0 else s1)

end Sys2Proof.Machine
end

