-- ==== Sys2Proof/Machine/Connector.lean ====
section
/-! DEFINITION. Receiver faults, thermal and coolant conditions, SMBus, VIO and the TAP, open-drain pins, PCIe errors (19 R380 to
R393). -/

namespace Sys2Proof.Machine

/-! ### Receivers (R386) -/

/-- OPEN, SHORT and CM as a pair of voltages in mV gives them. -/
def rxOpen (vid vcm : Int) : Bool := decide (vid.natAbs < 100) && decide (2400 ≤ vcm) && decide (vcm ≤ 2600)
def rxShort (vid vcm : Int) : Bool := decide (vid.natAbs < 100) && !(decide (2400 ≤ vcm) && decide (vcm ≤ 2600))
def rxCm (vcm : Int) : Bool := decide (vcm < -7000) || decide (7000 < vcm)

/-- The receiver's readings shown. -/
def State.rxRead (s : State) (i : Nat) (vid vcm : Int) : State :=
  s.wfs [(TBS_TB_RX_VID_MV i, ofSigned vid 16), (TBS_TB_RX_VCM_MV i, ofSigned vcm 16)]

/-- A receiver fault of input `i` is present. -/
def State.rxFault (s : State) (i : Nat) : Bool := s.rb (TBS_TB_RX_OPEN i) || s.rb (TBS_TB_RX_SHORT i) || s.rb (TBS_TB_RX_CM i)

/-- The time from which a receiver fault of an input counts towards loss (R252). -/
def State.rxSet (s : State) (i : Nat) : State :=
  let x := s.tb i
  s.setTb i { x with rxFrom := if s.rxFault i then some (x.rxFrom.getD s.time) else none }

/-- RX_FAULT_DETECT: the conditions that the voltages meet have lasted 10 µs. -/
def execRxFaultDetect (i : Nat) (vid vcm : Int) (at_ : Nat) (s : State) : Host.Outcome State Fault Refusal :=
  let s0 := s.at at_
  .next (if 8 ≤ i ∨ !s0.powered ∨ s0.keeper.bench then s0
    else
      let s1 := s0.rxRead i vid vcm
      let s2 := if rxOpen vid vcm then s1.wf (TBS_TB_RX_OPEN i) 1 else s1
      let s3 := if rxShort vid vcm then s2.wf (TBS_TB_RX_SHORT i) 1 else s2
      (if rxCm vcm then s3.wf (TBS_TB_RX_CM i) 1 else s3).rxSet i)

/-- RX_FAULT_CLEAR: the conditions that the voltages do not meet have been absent for 10 µs. -/
def execRxFaultClear (i : Nat) (vid vcm : Int) (at_ : Nat) (s : State) : Host.Outcome State Fault Refusal :=
  let s0 := s.at at_
  .next (if 8 ≤ i ∨ !s0.powered ∨ s0.keeper.bench then s0
    else
      let s1 := s0.rxRead i vid vcm
      let s2 := if rxOpen vid vcm then s1 else s1.wf (TBS_TB_RX_OPEN i) 0
      let s3 := if rxShort vid vcm then s2 else s2.wf (TBS_TB_RX_SHORT i) 0
      (if rxCm vcm then s3 else s3.wf (TBS_TB_RX_CM i) 0).rxSet i)

/-! ### Temperature and coolant (R393, Table EL-4) -/

/-- WARN_C, and CRIT_C, which counts as at most 110. -/
def State.warnC (s : State) (p : Nat) : Int := s.rf (DRP_THERMAL_WARN_C p)
def State.critC (s : State) (p : Nat) : Int := (min 110 (s.rf (DRP_THERMAL_CRIT_C p)) : Nat)

/-- THERMAL_WARN: at WARN_C for 10 ms. -/
def execThermalWarn (p : Nat) (temp : Int) (at_ : Nat) (s : State) : Host.Outcome State Fault Refusal :=
  let s0 := s.at at_
  .next (if !s0.sensed p ∨ temp < s0.warnC p then s0
    else
      let s1 := s0.tempRead p temp
      if (s1.plain p).warn then s1 else (s1.updPlain p fun q => { q with warn := true }).raise 0x9001 (plainPage p 3))

/-- THERMAL_CRIT raised for a plain, once for its condition. -/
def State.critical (s : State) (p : Nat) : State :=
  if (s.plain p).crit then s else (s.updPlain p fun q => { q with crit := true }).raise 0x9002 (plainPage p 3)

/-- THERMAL_CRIT: at CRIT_C for 1 ms. -/
def execThermalCrit (p : Nat) (temp : Int) (at_ : Nat) (s : State) : Host.Outcome State Fault Refusal :=
  let s0 := s.at at_
  .next (if !s0.sensed p ∨ temp < s0.critC p then s0 else (s0.tempRead p temp).critical p)

/-- THERMAL_HARDWARE_TRIP: at 115 °C for 10 µs the plain is full-fenced, also in a backup (R337). -/
def execThermalHardwareTrip (p : Nat) (temp : Int) (at_ : Nat) (s : State) : Host.Outcome State Fault Refusal :=
  let s0 := s.at at_
  .next (if !s0.sensed p ∨ temp < 115 then s0 else ((s0.tempRead p temp).doFence p 3).critical p)

/-- The coolant's readings. -/
def State.coolRead (s : State) (flow inlet outlet drop : Nat) : State :=
  s.wfs [(PWR_COOLANT_FLOW, flow), (PWR_COOLANT_INLET_C, inlet), (PWR_COOLANT_OUTLET_C, outlet), (PWR_COOLANT_DROP_KPA, drop)]

/-- COOLANT_FLOW: below FLOW_MIN for 2 s. -/
def execCoolantFlow (flow inlet outlet drop at_ : Nat) (s : State) : Host.Outcome State Fault Refusal :=
  let s0 := s.at at_
  .next (if !s0.powered ∨ s0.rf PWR_COOLANT_LIMITS_FLOW_MIN ≤ flow then s0
    else
      let s1 := s0.coolRead flow inlet outlet drop
      if s1.keeper.flowBad then s1 else (s1.updKeeper fun k => { k with flowBad := true }).raise 0x9003 pgPWR)

/-- COOLANT_TEMP: inlet above INLET_MAX_C for 10 s. -/
def execCoolantTemp (flow inlet outlet drop at_ : Nat) (s : State) : Host.Outcome State Fault Refusal :=
  let s0 := s.at at_
  .next (if !s0.powered ∨ inlet ≤ s0.rf PWR_COOLANT_LIMITS_INLET_MAX_C then s0
    else
      let s1 := s0.coolRead flow inlet outlet drop
      if s1.keeper.hotInlet then s1 else (s1.updKeeper fun k => { k with hotInlet := true }).raise 0x9004 pgPWR)

/-- THERMAL_FAULT_CLEAR: the conditions of a plain, or of the coolant, that the readings do not meet have been absent for 1 s. -/
def execThermalFaultClear (p : Option Nat) (temp : Int) (flow inlet outlet drop at_ : Nat) (s : State) :
    Host.Outcome State Fault Refusal :=
  let s0 := s.at at_
  .next (match p with
    | some p =>
      if !s0.sensed p then s0
      else (s0.tempRead p temp).updPlain p fun q =>
        { q with warn := q.warn && decide (s0.warnC p ≤ temp), crit := q.crit && decide (s0.critC p ≤ temp) }
    | none =>
      if !s0.powered then s0
      else (s0.coolRead flow inlet outlet drop).updKeeper fun k =>
        { k with flowBad := k.flowBad && decide (flow < s0.rf PWR_COOLANT_LIMITS_FLOW_MIN)
                 hotInlet := k.hotInlet && decide (s0.rf PWR_COOLANT_LIMITS_INLET_MAX_C < inlet) })

/-! ### SMBus (R390) -/

/-- The slave answers. -/
def State.smbusUp (s : State) : Bool := s.powered && s.keeper.vio

/-- A Block Read answered with `len` bytes. [entry 121 DEDUCED] -/
def State.smbusReply (s : State) (len data : Nat) : State := if s.smbusUp then s.emit (.smbus len (data % 2 ^ (8 * len))) else s

/-- SMBUS_STATUS (Table EL-3). [entry 121 DEDUCED] -/
def execSmbusStatus (s : State) : Host.Outcome State Fault Refusal :=
  let m := s.rf MOD_STATUS_READY + 2 * s.rf MOD_STATUS_KEEPER_UP + 4 * s.rf MOD_STATUS_WARM + 8 * s.rf MOD_STATUS_BACKUP_ACTIVE +
    16 * s.rf MOD_STATUS_RESET_HELD
  let p := s.rf PWR_STATUS_SUPPLY + 4 * s.rf PWR_STATUS_SLOW + 8 * s.rf PWR_STATUS_ARMED + 16 * s.rf PWR_STATUS_CHARGING +
    32 * s.rf PWR_STATUS_PACK_OK + 256 * s.rf PWR_STATUS_STATE
  .next (s.smbusReply 8 (m + 2 ^ 8 * p + 2 ^ 19 * s.rf FLT_STATUS_HALTED + 2 ^ 20 * s.rf KEEP_SEQ_STATE))

/-- SMBUS_ID_HASH. -/
def execSmbusIdHash (s : State) : Host.Outcome State Fault Refusal :=
  .next (s.smbusReply 48 ((List.range 6).map fun j => s.kept (SEC_ID_HASH_HASH j) * 2 ^ (64 * j)).sum)

/-- SMBUS_SUPPLY. -/
def execSmbusSupply (s : State) : Host.Outcome State Fault Refusal :=
  .next (s.smbusReply 8 (s.rf PWR_SUPPLY_MV_NOW + 2 ^ 16 * s.rf PWR_PACK_ENERGY_J + 2 ^ 32 * s.rf PWR_PACK_CAPACITY_J))

/-- SMBUS_TEMPS. -/
def execSmbusTemps (s : State) : Host.Outcome State Fault Refusal :=
  .next (s.smbusReply 64 ((List.range 64).map fun p => s.rf (DRP_TEMP_NOW_C p) * 2 ^ (8 * p)).sum)

/-- SMBUS_COOLANT. -/
def execSmbusCoolant (s : State) : Host.Outcome State Fault Refusal :=
  .next (s.smbusReply 8 (s.rf PWR_COOLANT_FLOW + 2 ^ 16 * s.rf PWR_COOLANT_INLET_C + 2 ^ 24 * s.rf PWR_COOLANT_OUTLET_C +
    2 ^ 32 * s.rf PWR_COOLANT_DROP_KPA))

/-- SMBUS_FAULT. -/
def execSmbusFault (s : State) : Host.Outcome State Fault Refusal :=
  .next (s.smbusReply 16 (s.readHeader (pgFLT + 0x20) + 2 ^ 64 * s.readHeader (pgFLT + 0x28)))

/-- SMBUS_ALERT_RESPONSE: `adr` is the value on ADDR0–2. -/
def execSmbusAlertResponse (adr : Nat) (s : State) : Host.Outcome State Fault Refusal :=
  .next (if !s.smbusUp then s
    else if s.keeper.alert then (s.updKeeper fun k => { k with alert := false }).emit (.smbusAddr (0x58 + adr % 8))
    else s.emit .smbusNack)

/-- SMBUS_UNKNOWN_COMMAND. -/
def execSmbusUnknownCommand (code : Nat) (s : State) : Host.Outcome State Fault Refusal :=
  .next (if s.smbusUp ∧ !(1 ≤ code ∧ code ≤ 6) then s.emit .smbusNack else s)

/-! ### VIO, the TAP, pins -/

/-- VIO_CHANGE: without VIO the contacts are high-impedance, and TRST#, pulled low, holds the TAP in reset (R381, R389). [entry 122 DEDUCED] -/
def execVioChange (present : Bool) (s : State) : Host.Outcome State Fault Refusal :=
  .next (s.updKeeper fun k =>
    if present then { k with vio := true } else { k with vio := false, trst := false, tap := .idcode })

/-- The TAP accepts an instruction in its lock state (R376, Table ID-3). [entry 122 DEDUCED] -/
def State.tapTakes (s : State) (i : TapInstr) : Bool :=
  s.kept SEC_FUSE_STATE_JTAG_LOCK == 0 ||
  match i with
  | .bypass | .idcode => true
  | .boundary => decide (2 ≤ s.rf SEC_JTAG_STATE_STATE)
  | .debug => decide (3 ≤ s.rf SEC_JTAG_STATE_STATE)

/-- JTAG_TAP_INSTRUCTION: TRST# takes the level given; with it high, an instruction is taken or refused (R376, R389). -/
def execJtagTapInstruction (i : Option TapInstr) (trst : Bool) (s : State) : Host.Outcome State Fault Refusal :=
  .next (if !s.keeper.vio ∨ !s.powered then s
    else
      let s1 := s.updKeeper fun k => { k with trst := trst, tap := if trst then k.tap else .idcode }
      match i with
      | none => s1
      | some i =>
        if !trst then s1
        else if s1.tapTakes i then (s1.updKeeper fun k => { k with tap := i }).emit (.tap i true) else s1.emit (.tap i false))

/-- PWR_GOOD is released, and FAULT# asserted (R381). -/
def State.pwrGood (s : State) : Bool :=
  s.keeper.vio && decide (46000 ≤ s.rf PWR_SUPPLY_MV_NOW) && decide (s.rf PWR_SUPPLY_MV_NOW ≤ 58000) && s.rf PWR_STATUS_STATE != 4
def State.faultPin (s : State) : Bool :=
  s.keeper.vio && (s.rb FLT_STATUS_HALTED || !s.rb PWR_STATUS_PACK_OK || (List.range 64).any fun p => (s.plain p).crit)

/-- PCIE_ERROR: R336. -/
def execPcieError (s : State) : Host.Outcome State Fault Refusal := .next (if s.powered then s.raise 0x4002 pgHST else s)

end Sys2Proof.Machine
end

