-- ==== Sys2Proof/Machine/Control.lean ====
section
/-! DEFINITION. The control instructions of format C (05 R111, R126, Table IS-12). -/

namespace Sys2Proof.Machine

/-- A C-format word decodes only with GP = 0 and GN = 0 (R111). -/
def cGuardOk (g : Guard) : Bool := g.gp == 0 && g.gn == 0

/-- Whether a NOP, TEND or TYIELD word decodes: no field is used. -/
def cPlainDecodes (g : Guard) (a : CArgs) : Bool :=
  cGuardOk g && a.rc == 0 && a.csrc == 0 && a.rn == 0 && a.target == 0 && a.count == 0

/-- Whether a LOOP word at index `pc` decodes: RN with CSRC 1, COUNT with CSRC 0, TARGET in range and after it. -/
def loopDecodes (g : Guard) (a : CArgs) (pc : Nat) : Bool :=
  cGuardOk g && (if a.csrc = 1 then a.count == 0 else a.rn == 0) && decide (a.target.toNat ≤ 6143) &&
    decide (pc < a.target.toNat)

/-- Whether an LEND word at index `pc` decodes. -/
def lendDecodes (g : Guard) (a : CArgs) (pc : Nat) : Bool :=
  cGuardOk g && a.csrc == 0 && a.rn == 0 && a.count == 0 && decide (a.target.toNat ≤ 6143) && decide (a.target.toNat ≤ pc)

/-- Whether a JMP word decodes. -/
def jmpDecodes (g : Guard) (a : CArgs) : Bool :=
  cGuardOk g && a.rc == 0 && a.csrc == 0 && a.rn == 0 && a.count == 0 && decide (a.target.toNat ≤ 6143)

/-- The program counter of the running task. -/
def State.pcOf (s : State) (t : Nat) : Nat :=
  match s.running t with
  | some k => s.rf (TILE_TASK_STATE_PC t k)
  | none => 0

/-- NOP. -/
def execNop (t : Nat) (g : Guard) (a : CArgs) (s : State) : Host.Outcome State Fault Refusal :=
  .next (s.issue t (cPlainDecodes g a) fun _ => .done s)

/-- TEND: the firing ends and the task waits for the next one at ENTRY (R87). -/
def execTend (t : Nat) (g : Guard) (a : CArgs) (s : State) : Host.Outcome State Fault Refusal :=
  .next (s.issue t (cPlainDecodes g a) fun k => .leave (s.leaveTask t k 1 false))

/-- TYIELD: READY, or WAITING if the firing condition no longer holds; the task resumes at the next instruction
(R87). [entry 27 DEDUCED] -/
def execTyield (t : Nat) (g : Guard) (a : CArgs) (s : State) : Host.Outcome State Fault Refusal :=
  .next (s.issue t (cPlainDecodes g a) fun k =>
    let x := (s.tile t).task k
    let s1 := s.setPc t k (s.rf (TILE_TASK_STATE_PC t k) + 1)
    .leave (s1.leaveTask t k (if s.fits t x.inMask x.outMask x.quantum then 2 else 1) true))

/-- LOOP: R126. -/
def execLoop (t : Nat) (g : Guard) (a : CArgs) (s : State) : Host.Outcome State Fault Refusal :=
  .next (s.issue t (loopDecodes g a (s.pcOf t)) fun _ =>
    let n := if a.csrc = 1 then ((s.tile t).sreg a.rn.toNat).toNat else a.count.toNat
    let s1 := s.updTile t fun x => x.wsreg a.rc.toNat (BitVec.ofNat 32 n)
    if n = 0 then .jump s1 (a.target.toNat + 1) else .done s1)

/-- LEND: R126. -/
def execLend (t : Nat) (g : Guard) (a : CArgs) (s : State) : Host.Outcome State Fault Refusal :=
  .next (s.issue t (lendDecodes g a (s.pcOf t)) fun _ =>
    let n := ((s.tile t).sreg a.rc.toNat).toNat
    if 1 < n then .jump (s.updTile t fun x => x.wsreg a.rc.toNat (BitVec.ofNat 32 (n - 1))) a.target.toNat
    else .done (s.updTile t fun x => x.wsreg a.rc.toNat 0))

/-- JMP. -/
def execJmp (t : Nat) (g : Guard) (a : CArgs) (s : State) : Host.Outcome State Fault Refusal :=
  .next (s.issue t (jmpDecodes g a) fun _ => .jump s a.target.toNat)

end Sys2Proof.Machine
end

