-- ==== Sys2Proof/Machine/Recovery.lean ====
section
/-! DEFINITION. Clearing of fault records, reactions and overrides written, recovery of partitions (16 R340, R344, R345, R349 to R351). -/

namespace Sys2Proof.Machine

/-- A write of function `f` to a page takes effect: a partition's page through PF0 or its VF, any other through PF0; the tile page of
a tile through an aperture of PF0 or of the VF of its partition (R34, R36). A backup discards it (R302). -/
def State.mayWrite (s : State) (f pg : Nat) : Bool :=
  match pageAt pg with
  | some (.tile, t, _) =>
    s.fnUp f && !s.frozen && (f == 0 || s.tilePart t == some (f - 1))
  | some (kd, n, _) => if isPartPage kd then s.writes f n else s.pf0Writes f
  | none => false

/-- A write of function `f` to a fault register, FAULT_FIRST to FAULT_REACT, of a page. -/
def State.faultHost (s : State) (f off v : Nat) : State :=
  if s.mayWrite f (pageBase off) && s.pageReady off then s.writeFaultReg off v (2 ^ 64 - 1) else s

/-- FAULT_CLEAR: FAULT_MORE.CLEAR (R340). [entry 123 DEDUCED] -/
def execFaultClear (f page : Nat) (s : State) : Host.Outcome State Fault Refusal :=
  .next (s.faultHost f (pageBase page + 0x28) (2 ^ 62))

/-- FAULT_REACT_WRITE: R344; on a page with staged fields the shadow changes (R31). -/
def execFaultReactWrite (f page : Nat) (v : BitVec 64) (s : State) : Host.Outcome State Fault Refusal :=
  .next (s.faultHost f (pageBase page + 0x38) v.toNat)

/-- A write to FLT.SRC_REACT (R345). -/
def State.overrideWrite (s : State) (v m : Nat) : State :=
  let c := s.rf FLT_SRC_SEL_CODE
  let mix := fun (k : Fk) => (s.rf k &&& (bits m k.lo k.w ^^^ (2 ^ k.w - 1))) ||| (bits v k.lo k.w &&& bits m k.lo k.w)
  let r := mix (ovrREACT c); let en := mix (ovrEN c)
  let range := reactRange (faultClass c)
  if !faultCodes.contains c then s
  else if en = 1 ∧ (r < range.1 ∨ range.2 < r) then s.wf FLT_STATUS_OVR_REFUSED 1
  else s.wfs [(ovrREACT c, r), (ovrEN c, en)]

/-- FAULT_OVERRIDE_WRITE: R345. -/
def execFaultOverrideWrite (f : Nat) (v : BitVec 64) (s : State) : Host.Outcome State Fault Refusal :=
  .next (if s.pf0Writes f ∧ s.pageReady pgFLT then s.overrideWrite v.toNat (2 ^ 64 - 1) else s)

/-- The partition may recover: FAULTED, or DEGRADED through DEGRADE_PARTITION with no plain fenced and no route suspended (R349). [entry 117 DEDUCED] -/
def State.recoverable (s : State) (n : Nat) : Bool :=
  s.pst n == psFAULTED || (s.pst n == psDEGRADED && (s.part n).degraded && !s.partImpaired n)

/-- The quiet period has passed (R349). -/
def State.quietOver (s : State) (n : Nat) : Bool :=
  decide ((s.part n).quietFrom + max 1 (s.rf (PFLT_CTRL_QUIET_MS n)) * 1000000 ≤ s.time)

/-- The recoveries within the window (R350). [entry 117 DEDUCED] -/
def State.recentRecoveries (s : State) (n : Nat) : List Nat :=
  (s.part n).recoveries.filter fun r => decide (s.time < r + max 1 (s.rf (PFLT_CTRL_RECOVERY_WINDOW_S n)) * 1000000000)

/-- A recovery, or STICKY where it would exceed the limit (R349, R350). -/
def State.recover (s : State) (n : Nat) : State :=
  if s.rf (PFLT_CTRL_RECOVERY_LIMIT n) < (s.recentRecoveries n).length + 1 then (s.wf (PFLT_STATUS_STICKY n) 1).irqPart n 1
  else
    let s1 := (s.updPart n fun p => { p with recoveries := s.time :: s.recentRecoveries n }).bump (PFLT_RECOVERIES_COUNT n)
    (s1.runPart n).irqPart n 1

/-- PARTITION_RECOVERY: R349, R350. -/
def execPartitionRecovery (n at_ : Nat) (s : State) : Host.Outcome State Fault Refusal :=
  let s0 := s.at at_
  .next (if 16 ≤ n ∨ s0.frozen ∨ s0.rb (PFLT_STATUS_STICKY n) ∨ !s0.recoverable n ∨ !s0.quietOver n then s0 else s0.recover n)

/-- A write of 1 to PFLT.STATUS.STICKY (R351). -/
def State.stickyClear (s : State) (n : Nat) : State :=
  if s.rb FLT_STATUS_HALTED ∨ !s.rb (PFLT_STATUS_STICKY n) then s
  else
    let s1 := (s.wf (PFLT_STATUS_STICKY n) 0).updPart n fun p => { p with recoveries := [] }
    if s1.recoverable n then s1.runPart n else s1

/-- STICKY_CLEAR: R351. -/
def execStickyClear (f n : Nat) (s : State) : Host.Outcome State Fault Refusal :=
  .next (if s.writes f n ∧ s.pageReady (partPage n 9) then s.stickyClear n else s)

/-- HALTED_CLEAR: R351. -/
def execHaltedClear (f : Nat) (s : State) : Host.Outcome State Fault Refusal :=
  .next (if s.pf0Writes f ∧ s.pageReady pgFLT then s.wf FLT_STATUS_HALTED 0 else s)

end Sys2Proof.Machine
end

