-- ==== Sys2Proof/Machine/Latches.lean ====
section
/-! DEFINITION. The 256 hardware latches (02 R54 to R58, Table CS-17). -/

namespace Sys2Proof.Machine

/-- The latch as its holder would have it: kind, partition, column, row, epoch. -/
def State.latchOwner (s : State) : Owner → Latch
  | .pf0 => { st := 1, kind := 1, epoch := s.pf0Epoch }
  | .part n => { st := 1, kind := 2, part := n, epoch := s.rf (PART_EPOCH_EPOCH n) }
  | .tile t => { st := 1, kind := 3, part := (s.tilePart t).getD 0, x := tileX t, y := tileY t, epoch := s.rf (TILE_EPOCH_EPOCH t) }

/-- An owner holds a latch. -/
def Latch.heldBy (l : Latch) (w : Owner) : Bool :=
  l.st == 1 &&
    match w with
    | .pf0 => l.kind == 1
    | .part n => l.kind == 2 && l.part == n
    | .tile t => l.kind == 3 && l.x == tileX t && l.y == tileY t

/-- The latch is reached: by PF0 always, through a PART window where it is granted (R58). -/
def State.latchGranted (s : State) (w : Owner) (k : Nat) : Bool :=
  match w with
  | .pf0 => true
  | .part n => (s.rf (LAT_GRANT_GRANT n (k / 64))).testBit (k % 64)
  | .tile t =>
    match s.tilePart t with
    | some n => (s.rf (LAT_GRANT_GRANT n (k / 64))).testBit (k % 64)
    | none => false

/-- A read of a latch: the word returned, and the state (R54, R58). [entry 126 DEDUCED] -/
def State.latchRead (s : State) (w : Owner) (k : Nat) : Nat × State :=
  let l := s.latch k
  let o := s.latchOwner w
  if !s.latchGranted w k then (4 + l.word false false, s.bump LAT_DENIED_COUNT)
  else if l.heldBy w then (l.word true false, s)
  else if l.st = 1 then (l.word false false, s)
  else if l.st = 2 then (o.word true true, (s.setLatch k o).bump LAT_BROKEN_COUNT)
  else (o.word true false, s.setLatch k o)

/-- RELEASE: the owner's frees the latch, any other is counted (R57). -/
def State.latchFree (s : State) (w : Owner) (k : Nat) : State :=
  if s.latchGranted w k && (s.latch k).heldBy w then s.setLatch k {} else s.bump LAT_DENIED_COUNT

/-- FORCE: PF0's makes a held latch BROKEN (R57). -/
def State.latchBreak (s : State) (w : Owner) (k : Nat) : State :=
  if w = .pf0 ∧ (s.latch k).st = 1 then s.setLatch k { s.latch k with st := 2 } else s

/-- A write to a latch: RELEASE, then FORCE. [entry 126 DEDUCED] -/
def State.latchWrite (s : State) (w : Owner) (k v : Nat) : State :=
  let s1 := if v.testBit 0 then s.latchFree w k else s
  if v.testBit 1 then s1.latchBreak w k else s1

/-- An owner's access to latch `k` arrives: from a host function that is there, or from a tile, at a page that is READY. -/
def State.latchReach (s : State) (w : Owner) (k : Nat) : Bool :=
  decide (k < 256) &&
    match w with
    | .pf0 => s.fnUp 0 && s.pageReady pgLAT
    | .part n => s.reaches (n + 1) n && s.pageReady (partPage n 0)
    | .tile t =>
      match s.tilePart t with
      | some n => s.pageReady (partPage n 0)
      | none => false

/-- A host write that a backup discards (R302). -/
def State.discards (s : State) (w : Owner) : Bool :=
  s.frozen && (match w with
    | .tile _ => false
    | _ => true)

/-- LATCH_ACQUIRE: R54, R58. -/
def execLatchAcquire (who : Owner) (k : Nat) (s : State) : Host.Outcome State Fault Refusal :=
  .next (if s.latchReach who k then
    let r := s.latchRead who k
    r.2.emit (.rdata r.1) else s)

/-- LATCH_RELEASE: R57. -/
def execLatchRelease (who : Owner) (k : Nat) (s : State) : Host.Outcome State Fault Refusal :=
  .next (if s.latchReach who k && !s.discards who then s.latchFree who k else s)

/-- LATCH_FORCE: R57. -/
def execLatchForce (who : Owner) (k : Nat) (s : State) : Host.Outcome State Fault Refusal :=
  .next (if s.latchReach who k && !s.discards who then s.latchBreak who k else s)

end Sys2Proof.Machine
end

