-- ==== Sys2Proof/Machine/Mem.lean ====
section
/-! DEFINITION. The memory instructions of format M: LD, ST, PUT, GET (05 R119 to R121). -/

namespace Sys2Proof.Machine

/-- Access size of SZ in bytes (Table IS-5). -/
def szBytes (z : Nat) : Nat :=
  match z with
  | 0 | 1 => 1
  | 2 | 3 => 2
  | 4 => 4
  | 5 => 32
  | 6 => 64
  | _ => 8

/-- The data register of an access exists: scalars, a vector, a vector pair, a scalar pair. -/
def mRegOk (z r : Nat) : Bool :=
  if z = 5 then decide (r < 16) else if z = 6 then decide (r < 15) && r % 2 == 0 else if z = 7 then r % 2 == 0 else true

/-- Whether an LD or ST word decodes (R110, R121). -/
def lsDecodes (a : MArgs) : Bool :=
  decide (a.space.toNat ≤ 1) && a.sz != 6 && mRegOk a.sz.toNat a.r.toNat && a.q == 0 && (a.space == 1 || a.h == 0)

/-- Whether a PUT word decodes. -/
def putDecodes (a : MArgs) : Bool :=
  (a.space == 1 || a.space == 2) && decide (4 ≤ a.sz.toNat) && mRegOk a.sz.toNat a.r.toNat && a.q == 0 &&
  (a.space == 1 || a.h == 0) && (a.space != 2 || a.rb.toNat % 2 == 0)

/-- Whether a GET word decodes. -/
def getDecodes (a : MArgs) : Bool :=
  (a.space == 1 || a.space == 2) && decide (4 ≤ a.sz.toNat) && a.r == 0 &&
  (a.space == 1 || a.h == 0) && (a.space != 2 || a.rb.toNat % 2 == 0)

/-- s[RB] + OFF of SPACE 0 (R119). -/
def Tile.eaLocal (x : Tile) (rb : Nat) (off : BitVec 20) : Nat := ofSigned (((x.sreg rb).toNat : Int) + off.toInt) 32

/-- The pair s[RB], s[RB + 1] plus OFF of SPACE 2 (R119), modulo 2^64. [entry 144 DESIGN CHOICE] -/
def Tile.eaGlobal (x : Tile) (rb : Nat) (off : BitVec 20) : Nat := ofSigned ((x.spair rb : Int) + off.toInt) 64

/-- The offset of SPACE 1, s[RB] + OFF. [entry 20 DEDUCED] -/
def Tile.eaOff (x : Tile) (rb : Nat) (off : BitVec 20) : Int := ((x.sreg rb).toNat : Int) + off.toInt

/-- Every byte of an access of `n` bytes at an offset lies in the handle (R119). [entry 20 DEDUCED] -/
def inHandle (h : Handle) (off : Int) (n : Nat) : Bool := decide (0 ≤ off) && decide (off + n ≤ h.len)

/-- The place of an LD or ST: its tile-local address and the checks that it breaks (R119, R120). -/
def State.lsPlace (s : State) (t : Nat) (a : MArgs) : Nat × List (Bool × Nat) :=
  let x := s.tile t
  let n := szBytes a.sz.toNat
  if a.space = 0 then
    let ea := x.eaLocal a.rb.toNat a.off
    (ea, [(ea % n != 0, 0x1004), (!localOk ea n, 0x1005)])
  else match s.resolve t a.h.toNat with
    | none => (0, [(true, 0x1006)])
    | some h =>
      let o := x.eaOff a.rb.toNat a.off
      let ea := (h.base : Int) + o
      (ea.toNat, [(ea % n != 0, 0x1004), (h.place != 3 && (decide (ea < 0) || !localOk ea.toNat n), 0x1005),
        (!inHandle h o n, 0x1006), (h.place == 3, 0x1007)])

/-- The register form of loaded bytes (Table IS-6). -/
def Tile.ldWrite (x : Tile) (a : MArgs) (v : Nat) : Tile :=
  match a.sz.toNat with
  | 1 => x.wsreg a.r.toNat (BitVec.ofInt 32 (toSigned v 8))
  | 3 => x.wsreg a.r.toNat (BitVec.ofInt 32 (toSigned v 16))
  | 5 => x.wvreg a.r.toNat (BitVec.ofNat 256 v)
  | 6 => x.wvpair a.r.toNat v
  | 7 => x.wspair a.r.toNat v
  | _ => x.wsreg a.r.toNat (BitVec.ofNat 32 v)

/-- The bytes that ST and PUT take from their registers. -/
def Tile.stValue (x : Tile) (a : MArgs) : Nat :=
  match a.sz.toNat with
  | 5 => (x.vreg a.r.toNat).toNat
  | 6 => x.vpair a.r.toNat
  | 7 => x.spair a.r.toNat
  | z => (x.sreg a.r.toNat).toNat % 2 ^ (8 * szBytes z)

/-- LD past its checks: a load that a row operation holds waits (R140); an uncorrectable word faults precisely, and its
bench row is failing (R134, R137, R142); an RC register of the tile page clears (R4). -/
def State.ldBody (s : State) (t ea : Nat) (a : MArgs) (ecc : Ecc) : Issue :=
  let n := szBytes a.sz.toNat
  if (s.tile t).benchHeld ea n then .wait
  else match areaOf ea with
    | .desk | .bench =>
      let v := s.rdMem (tkey t ea) n
      match s.eccOf (tkey t ea) n ecc with
      | .bad => .faultIn ((s.noteEcc (tkey t ea) n .bad).noteRows t ea n) (ueCode ea)
      | e => .done (((s.openRowOf t ea).updTile t fun x => x.ldWrite a v).raiseEcc t ea n e)
    | _ =>
      let v := s.localRead t ea n
      .done ((s.localClear t ea n).updTile t fun x => x.ldWrite a v)

/-- ST past its checks. -/
def State.stBody (s : State) (t ea : Nat) (a : MArgs) (ecc : Ecc) : Issue :=
  let n := szBytes a.sz.toNat
  let v := (s.tile t).stValue a
  if (s.tile t).benchHeld ea n then .wait
  else match areaOf ea with
    | .desk | .bench => .done ((s.openRowOf t ea).tileStore t ea n v ecc)
    | _ => .done (s.localWrite t ea n v)

/-- LD: R119, R120, Table IS-6. [entry 19 DESIGN CHOICE] -/
def execLd (t : Nat) (g : Guard) (a : MArgs) (ecc : Ecc) (s : State) : Host.Outcome State Fault Refusal :=
  .next (s.issueG t g (lsDecodes a) fun _ =>
    let p := s.lsPlace t a
    checked p.2 (s.ldBody t p.1 a ecc))

/-- ST: R119, R120, Table IS-6. [entry 19 DESIGN CHOICE] -/
def execSt (t : Nat) (g : Guard) (a : MArgs) (ecc : Ecc) (s : State) : Host.Outcome State Fault Refusal :=
  .next (s.issueG t g (lsDecodes a) fun _ =>
    let p := s.lsPlace t a
    checked p.2 (s.stBody t p.1 a ecc))

/-- The global address of a PUT or GET, with the checks that it breaks (R119, R120): a control access must use SZ 7. -/
def State.gpPlace (s : State) (t : Nat) (a : MArgs) : Nat × List (Bool × Nat) :=
  let x := s.tile t
  let n := szBytes a.sz.toNat
  let refused := fun g => !s.globalOk g n || (gSpace g == 2 && a.sz != 7)
  if a.space = 1 then
    match s.resolve t a.h.toNat with
    | none => (0, [(true, 0x1006)])
    | some h =>
      let o := x.eaOff a.rb.toNat a.off
      let ea := (h.base : Int) + o
      let g := s.handleGlobal t { h with base := 0 } ea.toNat
      (g, [(ea % n != 0, 0x1004), (decide (ea < 0) || refused g, 0x1005), (!inHandle h o n, 0x1006)])
  else
    let g := x.eaGlobal a.rb.toNat a.off
    (g, [(g % n != 0, 0x1004), (refused g, 0x1005)])

/-- The page check of a PUT or GET to this module's edge memory (R120), with its counters (R151): whether the access
goes on, its physical address, and the state. [entry 29 DEDUCED] -/
def State.edgeCheck (s : State) (t g : Nat) : Bool × Option Nat × State :=
  if gSpace g = 1 ∧ gModule g = s.modNum then
    match s.translate ((s.tilePart t).getD 0) (gEdge g) with
    | (.hit pa, s1) => (true, some pa, s1)
    | (_, s1) => (false, none, s1)
  else (true, none, s)

/-- Earlier stores of a task to the desk that have yet to be performed: its MSTAs in the matrix queue (R124). -/
def State.storesWait (s : State) (t k : Nat) : Bool :=
  (s.tile t).mq.any fun m => m.kind == .msta && m.task == k && !m.dq && !m.finished

/-- The global address of PLG.SUBMIT, the doorbell (R278). -/
def isDoorbell (s : State) (g : Nat) : Bool := gSpace g == 2 && gModule g == s.modNum && gOff g == 0x3110

/-- A PUT or GET past its other checks: EDGE_PAGE, or the packet leaves. -/
def State.gpBody (s : State) (t g : Nat) (p : Packet) : Issue :=
  let e := s.edgeCheck t g
  if e.1 then .done (e.2.2.send { p with pa := e.2.1 }) else .faultIn e.2.2 0x1008

/-- PUT: R119 to R121, R171. A doorbell waits at issue until the task's earlier stores to the desk are performed (R278).
[entry 154 DEDUCED] -/
def execPut (t : Nat) (g : Guard) (a : MArgs) (s : State) : Host.Outcome State Fault Refusal :=
  .next (s.issueG t g (putDecodes a) fun k =>
    let p := s.gpPlace t a
    checked p.2 (if isDoorbell s p.1 && s.storesWait t k then .wait
      else s.gpBody t p.1 (s.corePacket t p.1 0 (szBytes a.sz.toNat) 0 ((s.tile t).stValue a))))

/-- GET: R119 to R121, R171. -/
def execGet (t : Nat) (g : Guard) (a : MArgs) (s : State) : Host.Outcome State Fault Refusal :=
  .next (s.issueG t g (getDecodes a) fun k =>
    let p := s.gpPlace t a
    checked ((!(((s.tile t).task k).inMask.testBit a.q.toNat), 0x1003) :: p.2)
      (s.gpBody t p.1 (s.corePacket t p.1 1 (szBytes a.sz.toNat) a.q.toNat 0)))

end Sys2Proof.Machine
end

