-- ==== Sys2Proof/Machine/Sessions.lean ====
section
/-! DEFINITION. Ethernet ports and ingress sessions (13 R268 to R276). -/

namespace Sys2Proof.Machine

/-! ### Ports (R268, R269) -/

/-- Lanes that a mode uses. -/
def modeLanes (m : Nat) : Nat := match m with
  | 1 => 15
  | 2 => 3
  | 3 => 1
  | _ => 0

/-- The link of a port goes up or down: the port's event, and ETH_LINK_DOWN; a port that is down knows no next
hop. [entry 155 DESIGN CHOICE] -/
def State.linkChange (s : State) (p : Nat) (up : Bool) (lanes : Nat) : State :=
  let was := s.rb (PRT_STATUS_LINK_UP p)
  let s0 : State := if up then s else { s with hops := s.hops.filter fun (h : Nat × Nat) => h.1 % 8 != p }
  let s1 := s0.wfs [(PRT_STATUS_LINK_UP p, b2n up), (PRT_STATUS_LANES p, lanes &&& modeLanes (s.rf (PRT_CFG_MODE p)))]
  if was = up then s1
  else
    let s2 := s1.irqPage (pgPRT p)
    if up then s2 else s2.raise 0x4003 (pgPRT p)

/-- ETH_LINK_CHANGE: a port in OFF has no link. -/
def execEthLinkChange (p : Nat) (up : Bool) (lanes : Nat) (s : State) : Host.Outcome State Fault Refusal :=
  .next (if 8 ≤ p ∨ !s.pageReady (pgPRT p) ∨ (up ∧ s.rf (PRT_CFG_MODE p) = 0) then s else s.linkChange p up lanes)

/-- A write to PRT.CFG, `m` the bits covered: a write to MODE retrains the link at once. -/
def State.prtCfg (s : State) (p v m : Nat) : State :=
  let s1 := s.writeWord (pgPRT p + 0x100) v m
  if m % 4 = 0 then s1 else s1.linkChange p false 0

/-- PRT_MODE_WRITE: R268. [entry 77 DEDUCED] -/
def execPrtModeWrite (f p : Nat) (v : BitVec 64) (s : State) : Host.Outcome State Fault Refusal :=
  .next (if s.pf0Writes f ∧ p < 8 ∧ s.pageReady (pgPRT p) then s.prtCfg p v.toNat (2 ^ 64 - 1) else s)

/-- The address is the port's own. -/
def State.ownIp4 (s : State) (p a : Nat) : Bool := a == s.rf (PRT_IPV4_ADDR p)
def State.ownIp6 (s : State) (p a : Nat) : Bool := a == s.rf (PRT_IPV6_ADDR p 0) + 2 ^ 64 * s.rf (PRT_IPV6_ADDR p 1)

/-- ETH_FRAME_RECEIVE: FEC and FCS counts, the port's own answers, next hops, and frames that nothing takes; datagrams, PTP and
NVMe/TCP go on to their own commands (R268, R269). [entry 77 DEDUCED] -/
def execEthFrameReceive (p bytes : Nat) (k : EthKind) (fcsOk : Bool) (fecFixed fecBad : Nat) (s : State) :
    Host.Outcome State Fault Refusal :=
  .next (if 8 ≤ p ∨ !s.rb (PRT_STATUS_LINK_UP p) then s
    else
      let s1 := (s.bump (PRT_FEC_CORRECTED_COUNT p) fecFixed).bump (PRT_FEC_UNCORRECTED_COUNT p) fecBad
      if !fcsOk then s1.bump (PRT_FCS_ERRORS_COUNT p)
      else if s.rf (PRT_CFG_MTU p) < bytes then s1
      else
        let s2 := s1.bump (PRT_RX_FRAMES_COUNT p)
        let answer := (s2.bump (PRT_TX_FRAMES_COUNT p)).emit (.ethReply p k)
        let drop := s2.bump (PRT_UNMATCHED_COUNT p)
        match k with
        | .arp a | .echo4 a => if s.ownIp4 p a then answer else drop
        | .nd a | .echo6 a => if s.ownIp6 p a then answer else drop
        | .arpReply a mac => { s2 with hops := sins s2.hops (hopKey p false a) mac }
        | .ndReply a mac => { s2 with hops := sins s2.hops (hopKey p true a) mac }
        | .datagram => s2
        | .ptp => if s.rb TBS_PTP_CTRL_EN ∧ s.rf TBS_PTP_CTRL_PORT = p then s2 else drop
        | .nvme => if s.rf IMG_NET_PORT = p ∧ s.rf IMG_LOAD_SRC = 1 then s2 else drop
        | .other => drop)

/-! ### Classification (R270) -/

/-- The datagram matches ingress entry `i`; for RTP the SSRC is bytes 8 to 11 of the payload, highest first. -/
def State.matches_ (s : State) (p : Nat) (d : Dgram) (i : Nat) : Bool :=
  let w := s.rf (sesI i 0); let u := s.rf (sesI i 1)
  let ssrc := bits d.data 64 8 * 2 ^ 24 + bits d.data 72 8 * 2 ^ 16 + bits d.data 80 8 * 2 ^ 8 + bits d.data 88 8
  w.testBit 0 && bits w 1 3 == p && w.testBit 4 == d.ipv6 &&
    (match d.vid with
     | some v => w.testBit 5 && bits w 6 12 == v
     | none => !w.testBit 5) &&
    d.srcIp == s.rf (sesI i 2) + 2 ^ 64 * s.rf (sesI i 3) && bits u 0 16 == d.dstUdp &&
    (bits u 16 16 == 0 || bits u 16 16 == d.srcUdp) &&
    (bits w 25 2 != 0 || !w.testBit 47 || bits u 32 32 == ssrc)

/-! ### Payloads (R271, R272) -/

/-- What a payload carries: RTP timestamp or FRAME, the end of the frame, CAPTURE_TIME, and the pieces of data: offset
in the frame, length, data. -/
structure Payload where
  key : Nat
  last : Bool
  capture : Option Nat
  /-- The extended sequence number of an RTP packet (R271). -/
  ext : Option Nat := none
  pieces : List (Nat × Nat × Nat)
  deriving DecidableEq, Repr

/-- A big-endian field of two or four bytes. -/
def be16 (v lo : Nat) : Nat := bits v lo 8 * 256 + bits v (lo + 8) 8
def be32 (v lo : Nat) : Nat := be16 v lo * 65536 + be16 v (lo + 16)

/-- Bytes and pixels of a pgroup of RFC 4175, by SAMPLING and DEPTH. -/
def pgroup (sampling depth : Nat) : Nat × Nat :=
  if sampling = 3 then (if depth = 8 then (4, 2) else if depth = 10 then (5, 2) else (6, 2))
  else if depth = 8 then (3, 1) else if depth = 10 then (15, 4) else (9, 2)

/-- The line headers of an RTP payload from byte `at_` on, at most `k`: length, field bit and line, continuation and
offset; and the byte after them. [entry 79 PRESUMED] -/
def lineHeaders (v : Nat) : Nat → Nat → Option (List (Nat × Nat × Nat) × Nat)
  | 0, _ => none
  | k + 1, at_ =>
    let h := (be16 v (8 * at_), be16 v (8 * (at_ + 2)), be16 v (8 * (at_ + 4)))
    if h.2.2 < 0x8000 then some ([h], at_ + 6)
    else (lineHeaders v k (at_ + 6)).map fun r => (h :: r.1, r.2)

/-- The pieces that some line headers name, their data one after another from byte `at_`. -/
def linePieces (v lineBytes : Nat) (pg : Nat × Nat) : List (Nat × Nat × Nat) → Nat → List (Nat × Nat × Nat)
  | [], _ => []
  | h :: hs, at_ =>
    (h.2.1 % 0x8000 * lineBytes + h.2.2 % 0x8000 * pg.1 / pg.2, h.1, bits v (8 * at_) (8 * h.1)) ::
      linePieces v lineBytes pg hs (at_ + h.1)

/-- An RTP packet with an RFC 4175 payload; `none` where R271 drops it. [entry 79 PRESUMED] -/
def rtpPayload (d : Dgram) (lineBytes sampling depth : Nat) : Option Payload :=
  let v := d.data
  let cc := bits v 0 4
  let ext := v.testBit 4
  let h0 := 12 + 4 * cc
  let h1 := if ext then h0 + 4 + 4 * be16 v (8 * (h0 + 2)) else h0
  let pg := pgroup sampling depth
  if bits v 6 2 ≠ 2 ∨ d.len < h1 + 8 then none
  else match lineHeaders v 8 (h1 + 2) with
    | none => none
    | some (hs, at_) =>
      if hs.any (fun h => decide (0x8000 ≤ h.2.1) || h.1 % pg.1 != 0 || h.2.2 % 0x8000 % pg.2 != 0) ||
          decide (d.len < at_ + (hs.map (·.1)).sum) then none
      else some { key := be32 v 32, last := v.testBit 15, capture := none, ext := some (be16 v (8 * h1) * 65536 + be16 v 16)
                  pieces := linePieces v lineBytes pg hs at_ }

/-- A LINE_BLOCK payload; `none` where R272 drops it. [entry 79 PRESUMED] -/
def linePayload (d : Dgram) (lineBytes : Nat) : Option Payload :=
  let v := d.data
  let n := bits v 80 16 * lineBytes
  if bits v 0 16 ≠ 0x4B42 ∨ bits v 16 8 ≠ 1 ∨ bits v 80 16 = 0 ∨ d.len ≠ 24 + n then none
  else some { key := bits v 32 32, last := v.testBit 24, capture := if v.testBit 25 then some (bits v 128 64) else none
              pieces := [(bits v 64 16 * lineBytes, n, bits v 192 (8 * n))] }

/-! ### Frames (R273 to R276) -/

/-- The end of the bytes covered without a gap from `pos` on; `fuel` bounds the steps. -/
def covered (l : List (Nat × Nat)) : Nat → Nat → Nat
  | 0, pos => pos
  | fuel + 1, pos =>
    match l.find? fun r => decide (r.1 ≤ pos) && decide (pos < r.1 + r.2) with
    | some r => covered l fuel (r.1 + r.2)
    | none => pos

/-- The stamp of a frame (R275); with STAMP SENDER and no CAPTURE_TIME in the frame the spec states none: a free value. -/
def State.stamp (s : State) (i : Nat) (f : Frame) : Nat × State :=
  match bits (s.rf (sesI i 0)) 27 2 with
  | 0 => (f.first, s)
  | 1 => (f.last, s)
  | _ => match f.sent with
    | some t => (t, s)
    | none => s.draw 64

/-- The current frame of a session ends: complete and offered, or counted as incomplete (R273, R276). [entry 78 DEDUCED] -/
def State.endFrame (s : State) (i : Nat) : State :=
  let x := s.ingr i
  match x.cur with
  | none => s
  | some f =>
    let w := s.rf (sesI i 0); let w6 := s.rf (sesI i 6)
    let total := bits w6 0 16 * bits w6 16 16
    if f.dropped then s.setIngr i { x with cur := none }
    else if f.broken || decide (covered f.got (f.got.length + 1) 0 < total) then
      s.setIngr i { x with cur := none, incomplete := x.incomplete + 1 }
    else
      let st := s.stamp i f
      let h := st.2.histAt (bits w 22 3) st.1
      let s1 := h.2.2.setIngr i
        { x with cur := none, last := f.seq
                 done := if f.mode ≤ 1 then { seq := f.seq, pos := h.1, time := st.1, part := f.part } :: x.done else x.done }
      let e := bits w 34 12
      let n := bits w 18 4
      if f.mode = 2 ∧ s1.egValid e ∧ s1.egPart e = n then
        (s1.ledgerOffer n e 2 0xFFFFFFFF 16 (f.seq + i * 2 ^ 32 + ofSigned h.1 64 * 2 ^ 64)).2
      else s1

/-- The rule of R276 for a frame that begins, and the partition whose edge space takes it. -/
def State.frameRule (s : State) (i : Nat) : Nat × Nat :=
  let w := s.rf (sesI i 0)
  let n := bits w 18 4; let fb := bits w 30 4
  let st := s.pst n
  if st = psRUNNING ∨ st = psPAUSED then (0, n)
  else if w.testBit 29 ∧ s.pst fb = psRUNNING then (1, fb)
  else if w.testBit 46 then (2, n) else (3, n)

/-- The session's partition takes no frames (R276). [entry 78 DEDUCED] -/
def State.noFrames (s : State) (i : Nat) : Bool :=
  let st := s.pst (bits (s.rf (sesI i 0)) 18 4)
  st == psEMPTY || st == psSTOPPED || st == psRESETTING || st == psRESTORING

/-- The pieces of memory of all pieces of a packet; `none` where one is not there (R274). -/
def State.framePieces (s : State) (n base : Nat) : List (Nat × Nat × Nat) → Option (List (List (Nat × Nat) × Nat)) × State
  | [] => (some [], s)
  | (off, len, d) :: ps =>
    match s.dmaPieces n (len / 2 ^ 21 + 2) (base + off) len with
    | (none, s1) => (none, s1)
    | (some l, s1) =>
      let r := s1.framePieces n base ps
      (r.1.map fun q => (l, d) :: q, r.2)

/-- A packet's data goes into the slot of its frame, or is dropped whole (R273, R274). -/
def State.frameWrite (s : State) (i : Nat) (f : Frame) (pl : Payload) : Frame × State :=
  let slotBytes := bits (s.rf (sesI i 5)) 0 32; let slots := max 1 (bits (s.rf (sesI i 5)) 32 16)
  let base := bits (s.rf (sesI i 4)) 0 40 + f.seq % slots * slotBytes
  let drop := fun (s : State) =>
    ({ f with broken := true }, s.setIngr i { s.ingr i with dropped := (s.ingr i).dropped + 1 })
  if pl.pieces.any fun q => decide (slotBytes < q.1 + q.2.1) then drop s
  else match s.framePieces f.part base pl.pieces with
    | (none, s1) => drop s1
    | (some l, s1) =>
      ({ f with got := pl.pieces.map (fun q => (q.1, q.2.1)) ++ f.got }, l.foldl (fun s q => s.dmaStore q.2 q.1) s1)

/-- The frame that a packet belongs to: the current one, or a new one (R273). [entry 80 DESIGN CHOICE] -/
def State.frameOf (s : State) (i : Nat) (pl : Payload) (start : Nat) : Frame × State :=
  let timeout := bits (s.rf (sesI i 7)) 0 32 * 1000
  let fresh := fun (s : State) =>
    let x := s.ingr i
    let rule := s.frameRule i
    let f : Frame := { seq := x.next, key := pl.key, first := s.mtimeAt start, mode := rule.1, part := rule.2 }
    (f, s.setIngr i { x with next := (x.next + 1) % 2 ^ 32, frames := x.frames + 1, cur := some f })
  match (s.ingr i).cur with
  | some f => if f.key = pl.key ∧ s.time < f.seen + timeout then (f, s) else fresh (s.endFrame i)
  | none => fresh s

/-- The packets lost before one with an extended sequence number are counted; one that comes late counts nothing (R271).
[entry 153 DESIGN CHOICE] -/
def Ingress.seen (x : Ingress) (ext : Option Nat) : Ingress :=
  match ext, x.ext with
  | some q, some p =>
    let gap := (q + 2 ^ 32 - p - 1) % 2 ^ 32
    if gap < 2 ^ 31 then { x with ext := some q, lost := x.lost + gap } else x
  | some q, none => { x with ext := some q }
  | none, _ => x

/-- A packet of session `i`. [entry 78 DEDUCED] -/
def State.sessionPacket (s : State) (i : Nat) (pl : Payload) (start : Nat) : State :=
  let r := s.frameOf i pl start
  let f := { r.1 with last := r.2.mtime, seen := r.2.time, sent := if r.1.sent.isSome then r.1.sent else pl.capture }
  let q := if r.2.noFrames i then
      ({ f with dropped := true },
       if f.dropped then r.2 else r.2.setIngr i { r.2.ingr i with dropped := (r.2.ingr i).dropped + 1 })
    else r.2.frameWrite i f pl
  let s1 := q.2.setIngr i { q.2.ingr i with cur := some q.1 }
  if pl.last then s1.endFrame i else s1

/-- INGRESS_PACKET: a datagram whose start arrived at `from_` and whose end arrives at `at_` is classified, checked and
written; a datagram that no session matches counts in UNMATCHED (R269 to R276). -/
def execIngressPacket (p : Nat) (d : Dgram) (from_ at_ : Nat) (s : State) : Host.Outcome State Fault Refusal :=
  let s1 := s.at at_
  .next (if 8 ≤ p ∨ !s.rb (PRT_STATUS_LINK_UP p) ∨ s.rb MOD_STATUS_BACKUP_ACTIVE then s
    else match (s1.sesListed [] 0x101000).find? (s1.matches_ p d) with
      | none => s1.bump (PRT_UNMATCHED_COUNT p)
      | some i =>
        let w6 := s.rf (sesI i 6)
        let pl := if bits (s.rf (sesI i 0)) 25 2 = 0 then rtpPayload d (bits w6 0 16) (bits w6 32 4) (bits w6 36 4)
          else linePayload d (bits w6 0 16)
        match pl with
        | none => s1.setIngr i { s1.ingr i with badfmt := (s1.ingr i).badfmt + 1 }
        | some pl => (s1.setIngr i ((s1.ingr i).seen pl.ext)).sessionPacket i pl from_)

/-- FRAME_TIMEOUT: FRAME_TIMEOUT_US without a packet ends the current frame (R273). -/
def execFrameTimeout (i at_ : Nat) (s : State) : Host.Outcome State Fault Refusal :=
  let s1 := s.at at_
  .next (match (s1.ingr i).cur with
    | some f => if f.seen + bits (s1.rf (sesI i 7)) 0 32 * 1000 ≤ s1.time ∧ !s.rb MOD_STATUS_BACKUP_ACTIVE then s1.endFrame i else s
    | none => s)

end Sys2Proof.Machine
end

