-- ==== Sys2Proof/Machine/Surface.lean ====
section
/-! DEFINITION. Reads and writes of any register through a function's BAR0 or a tile's control space, and through the tile
apertures (02 R30 to R37, R47; 00 R4 to R9; 01 R26). -/

namespace Sys2Proof.Machine

/-! ### BAR0 offsets (Tables CS-7 and CS-8) -/

/-- Where an offset of a function's BAR0 lies: a register, by its PF0 offset; a tile aperture; nothing. -/
inductive Spot
  | reg (off : Nat)
  | aperture (b : Nat)
  | none
  deriving DecidableEq, Repr

/-- The place of an offset in the BAR0 of function `f`. -/
def spotOf (f off : Nat) : Spot :=
  if f = 0 then
    (if off < 0x400000 then .reg off
     else if 0x1000000 ≤ off ∧ off < 0x2000000 then .aperture (off - 0x1000000) else .none)
  else if off < 0x10000 then .reg (partPage (f - 1) 0 + off)
  else if 0x200000 ≤ off ∧ off < 0x400000 then .aperture (off - 0x200000)
  else .none

/-- The owner for whom function `f` acts (R55). -/
def ownerOf (f : Nat) : Owner := if f = 0 then .pf0 else .part (f - 1)

/-- The function whose rights an access has: PF0's, or those of the VF of the partition. -/
def State.rightsOf (s : State) : Owner → Nat
  | .pf0 => 0
  | .part n => n + 1
  | .tile t => (s.tilePart t).getD 0 + 1

/-! ### The session entries (Tables PT-4 and PT-5) -/

/-- An offset in the session entries of SES. -/
def inSessions (off : Nat) : Bool := decide (0x101000 ≤ off) && decide (off < 0x181000)
/-- An entry word that is not staged: RATE and BURST. -/
def sessionRate (off : Nat) : Bool := decide (0x141000 ≤ off) && decide (48 ≤ off % 64)

/-- The bits of a session entry's word that are not reserved. -/
def sessionMask (off : Nat) : Nat :=
  let w := off % 64 / 8
  if off < 0x141000 then
    (match w with
     | 0 | 5 => 2 ^ 48 - 1
     | 4 | 6 => 2 ^ 40 - 1
     | 7 => 2 ^ 32 - 1
     | _ => 2 ^ 64 - 1)
  else
    match w with
    | 0 => 0xFFFFFFFF007FFFFF
    | 1 => 2 ^ 42 - 1
    | 5 => 2 ^ 32 - 1
    | _ => 2 ^ 64 - 1

/-- A session entry's word as a read returns it. -/
def State.sessionRead (s : State) (off : Nat) : Nat :=
  let k : Fk := ⟨off, 0, 64⟩
  if !s.pageReady pgSES then 0
  else if s.rb (hCTRL_SHADOW_VIEW pgSES) && !sessionRate off then s.sh k else s.rf k

/-- A session entry's word written: the shadow, or RATE and BURST at once (R288, R289). [entry 127 DEDUCED] -/
def State.sessionWrite (s : State) (off v : Nat) : State :=
  let e := (off - 0x141000) / 64
  if !s.pageReady pgSES then s
  else if sessionRate off then (if off % 64 = 48 then s.rateWrite e v else s.burstWrite e v)
  else s.wsh ⟨off, 0, 64⟩ (v &&& sessionMask off)

/-! ### Pages with rules of their own -/

/-- The whole of a register word. -/
def whole : Nat := 2 ^ 64 - 1

/-- A write to the IMG page: GO and ABORT, and the fields of a load, which hold while one runs (11 "Registers"). -/
def State.imgWord (s : State) (rel v : Nat) : State :=
  if rel = 0x110 then s.imgCmd (bits v 0 2)
  else if (s.rf IMG_STATUS_STATE = 1 ∨ s.rf IMG_STATUS_STATE = 2) ∧
      (rel = 0x108 ∨ (0x130 ≤ rel ∧ rel < 0x200) ∨ (0x400 ≤ rel ∧ rel < 0x600)) then s
  else s.writeWord (pgIMG + rel) v whole

/-- A write to the TBS page: EN of PTP_CTRL starts and ends the clock's servo (R243); queries and adjustments. -/
def State.tbsWord (s : State) (rel v : Nat) : State :=
  if rel = 0x100 then
    let was := s.rb TBS_PTP_CTRL_EN
    let s1 := s.writeWord (pgTBS + rel) v whole
    if s1.rb TBS_PTP_CTRL_EN then (if was then s1 else s1.ptpState 1) else s1.ptpSettle.ptpState 0
  else if rel = 0x128 then s.queryTime v
  else if 0x200 ≤ rel ∧ rel < 0x600 ∧ (rel - 0x200) % 0x80 = 0x40 then s.adjust ((rel - 0x200) / 0x80) (bits v 0 47)
  else
    let s1 := s.writeWord (pgTBS + rel) v whole
    let o := (rel - 0x600) / 8
    if 0x600 ≤ rel ∧ o < 8 ∧ s1.toLevel o ≠ s.toLevel o then s1.emit (.trigger o (s1.toLevel o)) else s1

/-- A write to the SEC page. -/
def State.secWord (s : State) (rel v : Nat) : State :=
  if rel = 0x148 then s.jtagCmd v
  else if 0x180 ≤ rel ∧ rel < 0x1E0 then s.wf (SEC_JTAG_RESP_SIG ((rel - 0x180) / 8)) v
  else if rel = 0x1E8 then s.rekey v
  else if rel = 0x1F0 then s.imgkeyCmd v
  else s.writeWord (pgSEC + rel) v whole

/-- A write to the CHST page. Whether a block that ZONE would move belongs to an image store slot is a free value where the
slots' sizes do not say. -/
def State.chstWord (s : State) (rel v : Nat) : State :=
  if rel = 0x108 then
    let d := s.draw 1
    d.2.zoneWrite v (d.1 == 1)
  else if rel = 0x120 then s.chstRelease v
  else if rel = 0x128 ∨ rel = 0x130 ∨ rel = 0x138 then s.uringWord rel v whole
  else if rel = 0x210 then s.fwCmd v
  else s.writeWord (pgCHST + rel) v whole

/-- A write to a SPN page: NODE and the routes lie in SPN0 (R183). -/
def State.spnWord (s : State) (p rel v : Nat) : State :=
  if rel = 0x180 then (if p = 0 ∧ s.allQuiet then s.wf (SPN_NODE_MODULE 0) (bits v 0 10) else s)
  else if 0x400 ≤ rel ∧ p ≠ 0 then s
  else s.writeWord (pgSPN p + rel) v whole

/-- A write to the PART page. -/
def State.partWord (s : State) (w : Owner) (n rel v : Nat) : State :=
  if rel = 0x100 then s.partCmd n (bits v 0 4)
  else if 0x800 ≤ rel then s.latchWrite w ((rel - 0x800) / 8) v
  else s.writeWord (partPage n 0 + rel) v whole

/-- A write to the PLG page: SUBMIT takes no host write (Table PT-9); a tile's reaches the ledger as LEDGER_SUBMIT. -/
def State.plgWord (s : State) (n rel v : Nat) : State :=
  if rel = 0x108 then s.capacityWrite n v
  else if rel = 0x110 then s
  else s.writeWord (partPage n 3 + rel) v whole

/-- A write to a block register of a page that is READY, by its tag. -/
def State.blockWrite (s : State) (w : Owner) (kd : PageKind) (n rel v : Nat) : State :=
  match kd with
  | .mod =>
    if rel = 0x110 then (if v.testBit 0 ∧ bits v 48 16 = 0x4B57 then s.moduleReset 2 else s)
    else if rel = 0x120 then s.pstateWrite v
    else s.writeWord rel v whole
  | .hst => s.writeWord (pgHST + rel) v whole
  | .flt => if rel = 0x120 then s.overrideWrite v whole else s.writeWord (pgFLT + rel) v whole
  | .pwr => if rel = 0x108 then s.pwrCtrl v whole else s.writeWord (pgPWR + rel) v whole
  | .keep => s.writeWord (pgKEEP + rel) v whole
  | .chst => s.chstWord rel v
  | .sec => s.secWord rel v
  | .tbs => s.tbsWord rel v
  | .lat => if rel < 0x900 then s.latchWrite w ((rel - 0x100) / 8) v else s.writeWord (pgLAT + rel) v whole
  | .img => s.imgWord rel v
  | .edge => if 0x200 ≤ rel ∧ rel < 0x280 then s.edgeWindow ((rel - 0x200) / 8) v else s.writeWord (pgEDGE + rel) v whole
  | .ldg => if rel = 0x100 then s.poolWrite v else s.writeWord (pgLDG + rel) v whole
  | .prt => if rel = 0x100 then s.prtCfg n v whole else s.writeWord (pgPRT n + rel) v whole
  | .spn => s.spnWord n rel v
  | .ses => if rel = 0x1C0 then s.forgive (bits v 0 12) else s.writeWord (pgSES + rel) v whole
  | .pln => s.writeWord (plainPage n 0 + rel) v whole
  | .mesh => s.writeWord (plainPage n 1 + rel) v whole
  | .repr => s.reprWord n rel v whole
  | .drp => if rel = 0x100 then s.drpCtrl n v whole else s.writeWord (plainPage n 3 + rel) v whole
  | .part => s.partWord w n rel v
  | .pq => s.pqWord (s.rightsOf w) n rel v whole
  | .ptt => s.cfgWord n 2 rel v whole
  | .plg => s.plgWord n rel v
  | .psw => s.cfgWord n 4 rel v whole
  | .pstl => s.cfgWord n 5 rel v whole
  | .pstr => if rel = 0x120 then s.pstrResume n v else s.writeWord (partPage n 6 + rel) v whole
  | .pept => s.cfgWord n 7 rel v whole
  | .pks => s.cfgWord n 8 rel v whole
  | .pflt => if rel = 0x108 then (if v.testBit 0 then s.stickyClear n else s) else s.writeWord (partPage n 9 + rel) v whole
  | .tile => s

/-- A write of 64 bits to a register, at its PF0 offset (R4, R9, R33, R47). [entry 127 DEDUCED] -/
def State.regWrite (s : State) (w : Owner) (off v : Nat) : State :=
  match pageAt off with
  | some (kd, n, rel) =>
    if rel < 0x100 then s.headerWord off v whole
    else if !s.pageReady off then s
    else s.blockWrite w kd n rel v
  | none => if inSessions off then s.sessionWrite off v else s

/-- A read of a register at its PF0 offset: the value, and what the read leaves (R6, R9, R54, R195). -/
def State.regRead (s : State) (w : Owner) (off : Nat) : Nat × State :=
  match pageAt off with
  | none => (if inSessions off then s.sessionRead off else 0, s)
  | some (kd, n, rel) =>
    if !s.pageReady off then (s.regWord off, s)
    else if kd = .lat ∧ 0x100 ≤ rel ∧ rel < 0x900 then s.latchRead w ((rel - 0x100) / 8)
    else if kd = .part ∧ 0x800 ≤ rel then s.latchRead w ((rel - 0x800) / 8)
    else if kd = .pstr ∧ rel = 0x110 then (s.regWord off, s.haltPop n)
    else if kd = .drp ∧ rel = 0x118 then
      let s1 := s.countTime (plainPage n 3)
      (s1.regWord off, s1.regClear off)
    else (s.regWord off, s.regClear off)

/-! ### Host accesses -/

/-- A host access of function `f` reaches its BAR0. -/
def State.barUp (s : State) (f : Nat) : Bool := decide (f ≤ 16) && s.fnUp f

/-- The effect of a resetting write that a backup holds and does not discard (R41): MOD.RESET and PART.CMD = RESET. -/
def heldWrite (off v : Nat) : Bool :=
  match pageAt off with
  | some (.mod, _, rel) => rel == 0x110
  | some (.part, _, rel) => rel == 0x100 && bits v 0 4 == 6
  | _ => false

/-- A host write of 64 bits, naturally aligned, to a register. [entry 98 DEDUCED] -/
def State.hostWrite (s : State) (f off v : Nat) : State :=
  match spotOf f off with
  | .reg o =>
    if !s.barUp f || off % 8 != 0 then s
    else if s.frozen && !heldWrite o v then s
    else s.regWrite (ownerOf f) o v
  | _ => s

/-- A host read of 64 bits, naturally aligned, of a register or an unassigned offset. -/
def State.hostRead (s : State) (f off : Nat) : State :=
  if !s.barUp f || off % 8 != 0 then s
  else match spotOf f off with
    | .reg o =>
      let r := s.regRead (ownerOf f) o
      r.2.emit (.rdata r.1)
    | .none => s.emit (.rdata 0)
    | .aperture _ => s

/-- The word at an offset holds staged fields: in its register table, in an entry of PTT, PEPT or SES, or in FAULT_MASK
or FAULT_REACT of a page with staged fields (R31). -/
def stagedAt (off : Nat) : Bool :=
  match pageAt off with
  | some (kd, _, rel) =>
    (hasStaged kd && (rel == 0x30 || rel == 0x38)) || (fieldsAt off).any (·.staged) ||
      (kd == .ptt && decide (0x108 ≤ rel) && decide (rel < 0x128)) || (kd == .pept && rel == 0x108)
  | none => inSessions off && !sessionRate off

/-- REGISTER_WRITE: R4, R9, R47. [entry 123 DEDUCED] -/
def execRegisterWrite (f off : Nat) (v : BitVec 64) (s : State) : Host.Outcome State Fault Refusal :=
  .next (s.hostWrite f off v.toNat)

/-- STAGED_FIELD_WRITE: the shadow changes; a write that comes after a capture stays there past the apply (R51, R60). -/
def execStagedFieldWrite (f off : Nat) (v : BitVec 64) (s : State) : Host.Outcome State Fault Refusal :=
  .next (match spotOf f off with
    | .reg o => if stagedAt o then s.hostWrite f off v.toNat else s
    | _ => s)

/-- RC_REGISTER_READ: a read of a register, which returns its value and clears its RC fields (R6, R32, R33). -/
def execRcRegisterRead (f off : Nat) (s : State) : Host.Outcome State Fault Refusal :=
  .next (s.hostRead f off)

/-- An offset of a register page of BAR0, or of a session entry; every other offset is unassigned (R9). -/
def inRegisters (off : Nat) : Bool := (pageAt off).isSome || inSessions off

/-- MISALIGNED_REGISTER_ACCESS: R7 on a register page, R9 at an unassigned offset. BAD_ACCESS keeps the first until
FAULT_FIRST of HST is cleared. [entry 124 DEDUCED] -/
def execMisalignedRegisterAccess (f off bytes : Nat) (write : Bool) (s : State) : Host.Outcome State Fault Refusal :=
  let s1 := if write then s else s.emit (.rdata 0)
  .next (if !s.barUp f || bytes == 0 || decide (8 < bytes) || (bytes == 8 && off % 8 == 0) then s
    else match spotOf f off with
    | .aperture _ => s
    | .none => s1
    | .reg o =>
      if !inRegisters o then s1
      else
        let s2 := if s1.rf HST_BAD_ACCESS_BYTES = 0 then
            s1.wfs [(HST_BAD_ACCESS_OFFSET, off), (HST_BAD_ACCESS_BYTES, bytes), (HST_BAD_ACCESS_WRITE, b2n write),
              (HST_BAD_ACCESS_FUNC, f)]
          else s1
        s2.raise 0x4001 pgHST)

/-- CNT_FREEZE_WRITE: a PAGE_CTRL write (R32), which takes effect before READY as well (R33). -/
def execCntFreezeWrite (f page : Nat) (v : BitVec 64) (s : State) : Host.Outcome State Fault Refusal :=
  .next (if s.mayWrite f (pageBase page) then s.writeCtrl (pageBase page) v.toNat whole else s)

/-- SRIOV_NUMVFS_WRITE: VFs 1 to `n` exist from here on, and those of `msix` have MSI-X enabled (R34, R38). -/
def execSriovNumvfsWrite (n : Nat) (msix : List Nat) (s : State) : Host.Outcome State Fault Refusal :=
  .next (if n ≤ 16 ∧ s.fnUp 0 then
    { s with pcie := { s.pcie with
        numVfs := n, vfMsix := (List.range n).filterMap fun k => if msix.contains (k + 1) then some (k + 1) else none } }
  else s)

/-! ### Tile apertures (R35 to R37, R93) -/

/-- The tile and tile-local address that byte `b` of a function's aperture shows; none outside a VF's partition (R36). [entry 124 DEDUCED] -/
def State.apertureAt (s : State) (f b : Nat) : Option (Nat × Nat) :=
  if f = 0 then some (tileAt (s.rf HST_APERTURE_X) (s.rf HST_APERTURE_Y), s.rf HST_APERTURE_BASE * 2 ^ 24 + b)
  else
    let n := f - 1
    let t := tileAt (s.rf (PART_APERTURE_X n)) (s.rf (PART_APERTURE_Y n))
    if s.tilePart t = some n then some (t, s.rf (PART_APERTURE_BASE n) * 2 ^ 21 + b) else none

/-- A function's aperture has a byte `b`. -/
def apertureHas (f b : Nat) : Bool := if f = 0 then decide (b < 0x1000000) else decide (b < 0x200000)

/-- A tile's bytes read on behalf of the host or of a packet: the value, the state, whether a word was uncorrectable. -/
def State.routerRead (s : State) (t a n : Nat) (e : Ecc) : Nat × State × Bool :=
  match areaOf a with
  | .desk | .bench =>
    let r := (s.openRowOf t a).wideRead (tkey t a) n (s.eccOf (tkey t a) n e)
    (r.1, r.2.1.raiseEcc t a n r.2.2, r.2.2 == .bad)
  | _ => (s.localRead t a n, s.localClear t a n, false)

/-- Bytes written to a tile on behalf of the host or of a packet. -/
def State.routerWrite (s : State) (t a n v : Nat) (e : Ecc) : State :=
  match areaOf a with
  | .desk | .bench => (s.openRowOf t a).tileStore t a n (v % 2 ^ (8 * n)) e
  | _ => s.localWrite t a n (v % 2 ^ (8 * n))

/-- APERTURE_ACCESS: R35, R36, R363, with the flits of its request and its answer (R400). [entries 125 DEDUCED, 148 DESIGN CHOICE] -/
def execApertureAccess (f b bytes : Nat) (write : Option (BitVec 64)) (ecc : Ecc) (s : State) :
    Host.Outcome State Fault Refusal :=
  let unassigned := match write with
    | some _ => s
    | none => s.emit (.rdata 0)
  .next (if !s.barUp f || bytes == 0 || decide (8 < bytes) || !apertureHas f b then s
    else match s.apertureAt f b with
      | none => unassigned
      | some (t, a) =>
        if s.gated || s.plnState (plainOf t) == 4 || !localOk a bytes || areaOf a == .spill then unassigned
        else if s.frozen && write.isSome then s
        else if !s.tileOpen t a bytes then s
        else match write with
          | some v => (s.carryIn t 1).routerWrite t a bytes v.toNat ecc
          | none =>
            let r := ((s.carryIn t 1).carryOut t 1).routerRead t a bytes ecc
            r.2.1.emit (.rdata (r.1 % 2 ^ (8 * bytes))))

/-- APERTURE_WRITE: HST.APERTURE, or PART.APERTURE of a partition (R37). [entry 125 DEDUCED] -/
def execApertureWrite (f : Nat) (part : Option Nat) (v : BitVec 64) (s : State) : Host.Outcome State Fault Refusal :=
  .next (match part with
    | none => if s.pf0Writes f ∧ s.pageReady pgHST then s.writeWord (pgHST + 0x100) v.toNat whole else s
    | some n =>
      if s.writes f n ∧ s.pageReady (partPage n 0) then s.writeWord (partPage n 0 + 0x128) v.toNat whole else s)

end Sys2Proof.Machine
end

