-- ==== Sys2Proof/Machine/Packets.lean ====
section
/-! DEFINITION. What packets do at their destination (07 R168, R169, R173; 01 R24 to R27). -/

namespace Sys2Proof.Machine

/-- Bytes that a packet names would cross a 256 B boundary (R168). -/
def crosses256 (a n : Nat) : Bool := decide (256 < a % 256 + n)

/-- The tile-local bytes of a packet break no limit of R23, R27 and R168. [entry 45 DEDUCED] -/
def packetLocalOk (g n : Nat) : Bool :=
  bits g 32 2 == 0 && !crosses256 (gLocal g) n && localOk (gLocal g) (max 1 n) && areaOf (gLocal g) != .spill

/-- The edge bytes of a packet. [entry 45 DEDUCED] -/
def packetEdgeOk (g n : Nat) : Bool := !crosses256 (gEdge g) n && decide (gEdge g + n ≤ 2 ^ 40)

/-- The packet has come to the tile that its address names. -/
def State.arrived (s : State) (t : Nat) (k : Packet) : Bool :=
  gSpace k.dst == 0 && gModule k.dst == s.modNum && gTile k.dst == t

/-- The physical address of a packet at an edge rim: as the sender's page table gave it, or through the table of the partition
that the span port names (R25, R168). -/
def State.packetPa (s : State) (k : Packet) : Option Nat × State :=
  let go := fun n =>
    match s.translate n (gEdge k.dst) with
    | (.hit pa, s1) => (some pa, s1)
    | (_, s1) => (none, s1)
  match k.pa, k.via with
  | some pa, _ => (some pa, s)
  | none, some p => if s.rb (SPN_EDGE_MAP_EN p) then go (s.rf (SPN_EDGE_MAP_PART p)) else (none, s)
  | none, none => go k.part

/-- The reply of a READ (R168). -/
def replyTo (k : Packet) (v : Nat) : Packet := { errReply k k.loc with err := false, payload := v }

/-- The rim tile at which a packet in an edge rim is refused. -/
def rimTile : Loc → Nat
  | .north x => tileAt x 0
  | .south x => tileAt x 511
  | .west y => tileAt 0 y
  | .tile t => t
  | .span _ => 0

/-- The partition pages that a control-space access of this module's tile reaches: partition and PF0 offset (R26). -/
def State.controlAt (s : State) (k : Packet) : Option (Nat × Nat) :=
  match s.tilePart (tileAt k.srcX k.srcY) with
  | some n =>
    if k.via.isNone && gSpace k.dst == 2 && bits k.dst 22 30 == 0 && decide (gOff k.dst < 0x200000) && k.len == 8 &&
      gOff k.dst % 8 == 0 then some (n, if gOff k.dst < 0x10000 then partPage n 0 + gOff k.dst else 0x4000000)
    else none
  | none => none

/-- A WRITE to control space: a doorbell of PLG goes to the ledger, which no doorbell reaches while the plain is stopped, and which
takes none while a backup runs (R301). -/
def State.controlWrite (s : State) (i : Nat) (k : Packet) (y : Nat) (e : Ecc) : State :=
  let t := tileAt k.srcX k.srcY
  match s.controlAt k with
  | none => s.refusePacket i (tileAt 0 y) k
  | some (n, off) =>
    if off = partPage n 3 + 0x110 then
      (if !s.pageReady off then s.dropPacket i
       else if s.frozen then s.dropPacket i
       else if !s.routerLive t then s
       else (s.dropPacket i).plgSubmit n t k.payload e)
    else (s.dropPacket i).regWrite (.tile t) off (k.payload % 2 ^ 64)

/-- WRITE: to a tile, to edge memory, to control space; a packet of a type that Table FB-2 does not name is refused here. [entry 45 DEDUCED] -/
def execWrite (i : Nat) (ecc : Ecc) (s : State) : Host.Outcome State Fault Refusal :=
  .next (match s.headPacket i with
    | none => s
    | some k =>
      if k.ty ≠ 0 ∧ k.ty < 5 then s
      else match k.loc with
        | .tile t =>
          if !s.arrived t k || !s.routerLive t then s
          else if k.ty ≠ 0 ∨ !packetLocalOk k.dst k.len then s.refusePacket i t k
          else if !s.tileOpen t (gLocal k.dst) k.len then s
          else (s.dropPacket i).routerWrite t (gLocal k.dst) k.len k.payload ecc
        | .north _ | .south _ =>
          if gSpace k.dst ≠ 1 ∨ gModule k.dst ≠ s.modNum then s
          else if k.ty ≠ 0 ∨ !packetEdgeOk k.dst k.len then s.refusePacket i (rimTile k.loc) k
          else (match s.packetPa k with
            | (some pa, s1) => (s1.dropPacket i).edgeStore pa k.len (k.payload % 2 ^ (8 * k.len)) ecc
            | (none, s1) => s1.refusePacket i (rimTile k.loc) k)
        | .west y =>
          if gModule k.dst ≠ s.modNum ∨ gSpace k.dst < 2 then s
          else if k.ty ≠ 0 then s.refusePacket i (tileAt 0 y) k
          else s.controlWrite i k y ecc
        | .span _ => s)

/-- READ: a RESP with the data, or with ERR = 1 where the read is refused or meets an uncorrectable error (R169). -/
def execRead (i : Nat) (ecc : Ecc) (s : State) : Host.Outcome State Fault Refusal :=
  .next (match s.headPacket i with
    | none => s
    | some k =>
      if k.ty ≠ 1 then s
      else
        let answer := fun (s : State) (v : Nat) (bad : Bool) =>
          (s.dropPacket i).send (if bad then errReply k k.loc else replyTo k v)
        match k.loc with
        | .tile t =>
          if !s.arrived t k || !s.routerLive t then s
          else if !packetLocalOk k.dst k.len then s.refusePacket i t k
          else if !s.tileOpen t (gLocal k.dst) k.len then s
          else
            let r := s.routerRead t (gLocal k.dst) k.len ecc
            answer r.2.1 r.1 r.2.2
        | .north _ | .south _ =>
          if gSpace k.dst ≠ 1 ∨ gModule k.dst ≠ s.modNum then s
          else if !packetEdgeOk k.dst k.len then s.refusePacket i (rimTile k.loc) k
          else (match s.packetPa k with
            | (some pa, s1) =>
              let r := s1.edgeRead pa k.len ecc
              answer r.2.1 r.1 r.2.2
            | (none, s1) => s1.refusePacket i (rimTile k.loc) k)
        | .west y =>
          if gModule k.dst ≠ s.modNum ∨ gSpace k.dst < 2 then s
          else (match s.controlAt k with
            | none => s.refusePacket i (tileAt 0 y) k
            | some (_, off) =>
              let r := s.regRead (.tile (tileAt k.srcX k.srcY)) off
              answer r.2 r.1 false)
        | .span _ => s)

/-- The entries of a RESP: the data in 64 B steps, zero past its end. -/
def respEntries (k : Packet) : List Entry :=
  (List.range (ceilDiv k.len 64)).map fun j =>
    if k.err then 0 else BitVec.ofNat 512 (bits (k.payload % 2 ^ (8 * k.len)) (512 * j) 512)

/-- Entries that a packet brings enter an input queue in order. -/
def State.pushAll (s : State) (t q : Nat) (l : List Entry) : State := l.foldl (fun s e => s.pushIn t q { data := e }) s

/-- A RESP or QPUSH that no queue takes, because it does not come to a tile of this module. -/
def State.strayQueue (s : State) (i : Nat) (k : Packet) : State :=
  match k.loc with
  | .west _ | .north _ | .south _ =>
    if gModule k.dst = s.modNum ∧ gSpace k.dst ≠ 0 then s.refusePacket i (rimTile k.loc) k else s
  | _ => s

/-- A packet's entries find no room: they wait, and where the queue is extended its full spill area is reported, once for a
packet (R172, R179). -/
def State.packetFull (s : State) (i t : Nat) (k : Packet) : State :=
  if k.full || ((s.tile t).spillQ k.rq).isEmpty then s
  else ({ s with net := modifyAt s.net i fun k => { k with full := true } } : State).spillFull t

/-- The reply to a READ of a stream engine: the engine takes its data; with ERR = 1 they are zero, and PACKET_POISON is latched
(R168, R169, R198). -/
def State.streamReply (s : State) (t : Nat) (e : Nat × Nat) (k : Packet) : State :=
  let s1 := s.updXfer t e.1 e.2 fun y =>
    if k.err then { y with came := true, data := 0, poison := (List.range (ceilDiv y.len 8)).map fun j => y.pos + 8 * j }
    else { y with came := true, data := k.payload % 2 ^ (8 * k.len) }
  if k.err then s1.raiseTile t 0x1012 else s1

/-- RESP: its entries enter the reply queue once all fit, or a stream engine takes them; ERR = 1 is latched as PACKET_POISON
(R168, R169, R172). -/
def execResp (i : Nat) (s : State) : Host.Outcome State Fault Refusal :=
  .next (match s.headPacket i with
    | none => s
    | some k =>
      if k.ty ≠ 2 then s
      else match k.loc with
        | .tile t =>
          if !s.arrived t k || !s.routerLive t then s
          else (match k.eng with
            | some e => if s.tileOn t then (s.dropPacket i).streamReply t e k else s
            | none =>
              if s.rf (TILE_QBIND_KIND t k.rq) ≠ 2 then s.refusePacket i t k
              else if !s.roomIn t k.rq (ceilDiv k.len 64) then s.packetFull i t k
              else
                let s1 := (s.dropPacket i).pushAll t k.rq (respEntries k)
                if k.err then s1.raiseTile t 0x1012 else s1)
        | _ => s.strayQueue i k)

/-- PACKET_QPUSH: one entry, once there is room (R168, R172). -/
def execPacketQpush (i : Nat) (s : State) : Host.Outcome State Fault Refusal :=
  .next (match s.headPacket i with
    | none => s
    | some k =>
      if k.ty ≠ 3 then s
      else match k.loc with
        | .tile t =>
          if !s.arrived t k || !s.routerLive t then s
          else if s.rf (TILE_QBIND_KIND t k.rq) ≠ 2 ∨ 64 < k.len then s.refusePacket i t k
          else if !s.roomIn t k.rq 1 then s.packetFull i t k
          else (s.dropPacket i).pushAll t k.rq [BitVec.ofNat 512 (k.payload % 2 ^ (8 * k.len))]
        | _ => s.strayQueue i k)

/-- A leaf of a multicast write: the payload goes to LOCAL; in a tile that the load's partition does not own it is discarded and
the load ends (R173, 11 R235). -/
def State.leafWrite (s : State) (t : Nat) (k : Packet) (e : Ecc) : State :=
  if !packetLocalOk k.dst k.len then s.raiseTile t 0x1015
  else if s.tilePart t = some k.part then s.routerWrite t (gLocal k.dst) k.len k.payload e
  else s.imgAbort 14

/-- MWRITE: the packet goes to every output of its tree, and is written where L is set (R173). [entry 46 DEDUCED] -/
def execMwrite (i : Nat) (ecc : Ecc) (s : State) : Host.Outcome State Fault Refusal :=
  .next (match s.headPacket i with
    | none => s
    | some k =>
      if k.ty ≠ 4 then s
      else match k.loc with
        | .tile t =>
          let outs := s.branches t k.tree
          let shut := outs.filter fun u => s.plnState (plainOf u) == 3
          let open_ := outs.filter fun u => s.plnState (plainOf u) != 3
          let leaf := (s.treeByte t k.tree).testBit 4
          if !s.routerLive t || !s.branchesOpen t k ||
              (leaf && packetLocalOk k.dst k.len && !s.tileOpen t (gLocal k.dst) k.len) then s
          else
            let s1 := (s.dropPacket i).bump (MESH_PKT_FLITS_COUNT (plainOf t)) (open_.length * packetFlits k)
            let s2 := open_.foldl (fun s u => s.send { k with loc := .tile u, inp := inputFrom t u }) s1
            let s3 := if shut.isEmpty then s2 else (s2.raiseTile t 0x1015).imgAbort 14
            if leaf then s3.leafWrite t k ecc else s3
        | _ => s)

end Sys2Proof.Machine
end

