-- ==== Sys2Proof/Machine/Queue.lean ====
section
/-! DEFINITION. The queue instructions of format Q (05 R122, Table IS-8). -/

namespace Sys2Proof.Machine

/-- Whether a POPS or PUSHS word decodes (R110). -/
def qsDecodes (a : QArgs) : Bool := a.side == 0 && a.rb == 0 && a.off == 0
/-- Whether a POPV or PUSHV word decodes: an even vector pair. -/
def qvDecodes (a : QArgs) : Bool := qsDecodes a && decide (a.r.toNat < 15) && a.r.toNat % 2 == 0
/-- Whether a POPD or PUSHD word decodes. -/
def qdDecodes (a : QArgs) : Bool := a.r == 0 && a.side == 0
/-- Whether a SKIP word decodes. -/
def skipDecodes (a : QArgs) : Bool := a.r == 0 && qsDecodes a
/-- Whether a QCNT word decodes. -/
def qcntDecodes (a : QArgs) : Bool := a.rb == 0 && a.off == 0

/-- The desk address of POPD and PUSHD. -/
def Tile.qAddr (x : Tile) (a : QArgs) : Nat := ofSigned (((x.sreg a.rb.toNat).toNat : Int) + a.off.toInt) 32

/-- The checks of a desk form (R122). -/
def deskChecks (ea : Nat) : List (Bool × Nat) := [(ea % 64 != 0, 0x1004), (decide (0xC000 < ea + 64), 0x1005)]

/-- A pop: declared (R90), past its other checks, the queue holding an entry (R88). -/
def State.pop (s : State) (t k q : Nat) (chk : List (Bool × Nat)) (f : State → Entry → State) : Issue :=
  checked ((!(((s.tile t).task k).inMask.testBit q), 0x1003) :: chk)
    (match s.headIn t q with
     | none => .block q
     | some e => .done ((f s e).popIn t q))

/-- A push: declared, past its other checks, the queue having room. -/
def State.push (s : State) (t k q : Nat) (chk : List (Bool × Nat)) (e : Issue) : Issue :=
  checked ((!(((s.tile t).task k).outMask.testBit q), 0x1003) :: chk)
    (if s.outRoom t q = 0 then .block (8 + q) else e)

/-- POPS. -/
def execPops (t : Nat) (g : Guard) (a : QArgs) (s : State) : Host.Outcome State Fault Refusal :=
  .next (s.issueG t g (qsDecodes a) fun k =>
    s.pop t k a.qn.toNat [] fun s e => s.updTile t fun x => x.wsreg a.r.toNat (BitVec.ofNat 32 e.toNat))

/-- POPV. -/
def execPopv (t : Nat) (g : Guard) (a : QArgs) (s : State) : Host.Outcome State Fault Refusal :=
  .next (s.issueG t g (qvDecodes a) fun k =>
    s.pop t k a.qn.toNat [] fun s e => s.updTile t fun x => x.wvpair a.r.toNat e.toNat)

/-- POPD. -/
def execPopd (t : Nat) (g : Guard) (a : QArgs) (s : State) : Host.Outcome State Fault Refusal :=
  .next (s.issueG t g (qdDecodes a) fun k =>
    let ea := (s.tile t).qAddr a
    s.pop t k a.qn.toNat (deskChecks ea) fun s e => s.wrMem (tkey t ea) 64 e.toNat)

/-- SKIP. -/
def execSkip (t : Nat) (g : Guard) (a : QArgs) (s : State) : Host.Outcome State Fault Refusal :=
  .next (s.issueG t g (skipDecodes a) fun k => s.pop t k a.qn.toNat [] fun s _ => s)

/-- PUSHS. -/
def execPushs (t : Nat) (g : Guard) (a : QArgs) (s : State) : Host.Outcome State Fault Refusal :=
  .next (s.issueG t g (qsDecodes a) fun k =>
    s.push t k a.qn.toNat [] (.done (s.pushOut t a.qn.toNat (BitVec.ofNat 512 ((s.tile t).sreg a.r.toNat).toNat))))

/-- PUSHV. -/
def execPushv (t : Nat) (g : Guard) (a : QArgs) (s : State) : Host.Outcome State Fault Refusal :=
  .next (s.issueG t g (qvDecodes a) fun k =>
    s.push t k a.qn.toNat [] (.done (s.pushOut t a.qn.toNat (BitVec.ofNat 512 ((s.tile t).vpair a.r.toNat)))))

/-- PUSHD: its desk read is checked as a core load (R122, R134). -/
def execPushd (t : Nat) (g : Guard) (a : QArgs) (ecc : Ecc) (s : State) : Host.Outcome State Fault Refusal :=
  .next (s.issueG t g (qdDecodes a) fun k =>
    let ea := (s.tile t).qAddr a
    s.push t k a.qn.toNat (deskChecks ea)
      (match s.eccOf (tkey t ea) 64 ecc with
       | .bad => .faultIn (s.noteEcc (tkey t ea) 64 .bad) 0x1010
       | e => .done ((s.pushOut t a.qn.toNat (BitVec.ofNat 512 (s.rdMem (tkey t ea) 64))).raiseEcc t ea 64 e)))

/-- QCNT: entries held, or free (R122); exempt from R90. -/
def execQcnt (t : Nat) (g : Guard) (a : QArgs) (s : State) : Host.Outcome State Fault Refusal :=
  .next (s.issueG t g (qcntDecodes a) fun _ =>
    let n := if a.side = 0 then ((s.tile t).inQ a.qn.toNat).length else s.outRoom t a.qn.toNat
    .done (s.updTile t fun x => x.wsreg a.r.toNat (BitVec.ofNat 32 n)))

end Sys2Proof.Machine
end

