-- ==== Sys2Proof/Machine/Refill.lean ====
section
/-! DEFINITION. The refill of lost ranges from the image store in a repair pause (03 R75). -/

namespace Sys2Proof.Machine

/-- The records of a section of a stored image, from a file offset on: where each begins. -/
def Stored.records (x : Stored) (last : Nat) : Nat → Nat → List Nat
  | 0, _ => []
  | fuel + 1, pos =>
    if last < pos + 16 then [] else pos :: Stored.records x last fuel (pos + 16 + (bits (x.at_ pos 8) 16 24 + 7) / 8 * 8)

/-- What a record of a section puts into the desk or bench of a tile: tile-local address, length, data (R228). -/
def State.recordAt (s : State) (pl : Placer) (t : Nat) (x : Stored) (typ paired pos : Nat) : Option (Nat × Nat × Nat) :=
  let w0 := x.at_ pos 8; let addr := x.at_ (pos + 8) 8
  let len := bits w0 16 24; let h := bits w0 58 6
  let nw := s.nwTile pl.part
  let u := tileAt (tileX nw + bits w0 40 9) (tileY nw + bits w0 49 9)
  let here := if w0.testBit 10 then (treeLeaves (s.treeWalk (bits w0 4 6) 300000 [pl.org])).contains t else u == t
  if !here then none
  else match bits w0 0 4 with
    | 0 => if typ = 3 then none else some (addr, len, x.at_ (pos + 16) len)
    | 1 => match s.resolveWith u h ((if paired = 1 then pl.copy else s.copyLive pl.part) == 1) with
      | some hd => if hd.place = 3 then none else some (hd.base + addr, len, x.at_ (pos + 16) len)
      | none => none
    | _ => none

/-- The stored images whose sections make the live image of a partition: the one that its placement comes from, and, where another
slot backs the live copy, that slot's weights. -/
def State.liveImages (s : State) (n : Nat) : List (Stored × List (Nat × Nat × Nat × Nat × Nat)) :=
  let c := s.copies n
  let back := if c.sel = 0 then c.slotA else c.slotB
  let whole := fun k => sget {} s.chest.imgs k
  if !s.hasImage n then []
  else
    (match c.cold with
     | some k => if s.readable k then [(whole k, (fileOrder (whole k).pro).filter fun x => k == back || x.2.2.2.1 == 0)] else []
     | none => []) ++
    (if c.cold != some back && s.readable back then [(whole back, fileOrder (whole back).pro)] else [])

/-- All that the live image puts into the desk and bench of a tile. -/
def State.imageParts (s : State) (t : Nat) : List (Nat × Nat × Nat) :=
  match s.tilePart t with
  | none => []
  | some n => (s.liveImages n).flatMap fun i =>
    let pl : Placer := { part := n, copy := s.copyLive n, org := s.nwTile n, gridW := proGridW i.1.pro, gridH := proGridH i.1.pro }
    i.2.flatMap fun x => (i.1.records (x.1 + x.2.1) i.1.steps x.1).filterMap fun pos => s.recordAt pl t i.1 x.2.2.1 x.2.2.2.1 pos

/-- Tile-local bytes of a lost range: first, and one past the last. -/
def lostBytes (l : LostRange) : Nat × Nat :=
  if l.desk then (0, 0xC000) else (0x40000000 + l.first * 2048, 0x40000000 + (l.last + 1) * 2048)

/-- What the image gives of a range is written back. -/
def State.refill (s : State) (l : LostRange) (ps : List (Nat × Nat × Nat)) : State :=
  ps.foldl (fun s q =>
    let lo := max (lostBytes l).1 q.1; let hi := min (lostBytes l).2 (q.1 + q.2.1)
    if lo < hi then s.wrMem (tkey l.tile lo) (hi - lo) (bits q.2.2 (8 * (lo - q.1)) (8 * (hi - lo))) else s) s

/-- The parts hold every byte from `a` up to `b`; the number bounds the parts used. -/
def partsCover (ps : List (Nat × Nat × Nat)) : Nat → Nat → Nat → Bool
  | 0, a, b => decide (b ≤ a)
  | n + 1, a, b =>
    decide (b ≤ a) || (match ps.find? fun q => decide (q.1 ≤ a) && decide (a < q.1 + q.2.1) with
      | some q => partsCover ps n (q.1 + q.2.1) b
      | none => false)

/-- The parts of a lost range that do not belong to the live image: the desk whole, the bench by runs of rows. [entry 60 DESIGN CHOICE] -/
def lostRest (l : LostRange) (ps : List (Nat × Nat × Nat)) : List LostRange :=
  if l.desk then (if partsCover ps (ps.length + 1) 0 0xC000 then [] else [l])
  else
    ((List.range (l.last + 1 - l.first)).map (l.first + ·)).foldl (fun acc r =>
      if partsCover ps (ps.length + 1) (0x40000000 + r * 2048) (0x40000000 + (r + 1) * 2048) then acc
      else match acc.getLast? with
        | some x => if x.last + 1 = r then acc.dropLast ++ [{ x with last := r }] else acc ++ [{ l with first := r, last := r }]
        | none => [{ l with first := r, last := r }]) []

/-- One lost range: the live image's part is refilled, the rest recorded (R75). -/
def State.refillOne (s : State) (p : Nat) (l : LostRange) : State :=
  let ps := s.imageParts l.tile
  (lostRest l ps).foldl (fun s x => s.recordLost p x) (s.refill l ps)

/-- RESPARE_REFILL_COMPLETE: lost ranges of the live image are refilled from the image store; the others are recorded (R75). [entry 60 DESIGN CHOICE] -/
def execRespareRefillComplete (p at_ : Nat) (s0 : State) : Host.Outcome State Fault Refusal :=
  let s := s0.at at_
  .next (match (s.plain p).repair with
    | some r =>
      if !(r.phase = 4 ∨ r.phase = 5) ∨ r.copies < s.copiesIn p r ∨ s.frozen ∨ (r.phase = 4 ∧ !(s.plain p).waitFence.isEmpty) ∨
          (r.kinds.contains .bench ∧ !(s.failingTiles p).isEmpty) then s
      else (r.lost.foldl (fun s l => s.refillOne p l) s).setRepair p (some { r with phase := 6 })
    | none => s)

end Sys2Proof.Machine
end

