-- ==== Sys2Proof/Machine/Sparse.lean ====
section
/-! DEFINITION. Sparse operands: groups, MMAS in its two forms, output rows and faults (09), and the row step of the
other queued operations. -/

namespace Sys2Proof.Machine

/-- The number of set bits among the low `n` bits. -/
def popcount (v : Nat) : Nat → Nat
  | 0 => 0
  | n + 1 => popcount v n + b2n (v.testBit n)

/-- Bytes of `c` packed elements of `w` bits, padded to a multiple of 8 B. -/
def packedBytes (c w : Nat) : Nat := ceilDiv (c * w) 64 * 8

/-- Value `i` of the packed values at byte `o`. -/
def packedEl (data o w i : Nat) : Nat := bits data (8 * o + i * w) w

/-! ### Sparse × dense (R206, R207) -/

/-- The rows of a short group from byte `o`: offset and bitmap of each (Table SP-2). -/
def shortRows (data w : Nat) : Nat → Nat → List (Nat × Nat)
  | 0, _ => []
  | n + 1, o =>
    let bm := bits data (8 * o) 64
    (o, bm) :: shortRows data w n (o + 8 + packedBytes (popcount bm 64) w)

/-- The length of a short row. -/
def shortLen (w : Nat) (r : Nat × Nat) : Nat := 8 + packedBytes (popcount r.2 64) w

/-- BYTES of a short group is one that it consumes: a multiple of 64 from 192 to 704 (R214). -/
def shortBytesOk (b : Nat) : Bool := b % 64 == 0 && decide (192 ≤ b) && decide (b ≤ 704)

/-- Every bullet of R206 but the pattern. -/
def shortOk (data bytes w k : Nat) : Bool :=
  let rows := shortRows data w 16 8
  let used := 8 + (rows.map (shortLen w)).sum
  shortBytesOk bytes && bytes == ceilDiv used 64 * 64 && bits data 16 48 == 0 &&
  rows.all (fun r => r.2 / 2 ^ k == 0 &&
    bits data (8 * (r.1 + 8) + popcount r.2 64 * w) (8 * packedBytes (popcount r.2 64) w - popcount r.2 64 * w) == 0) &&
  bits data (8 * used) (8 * (bytes - used)) == 0

/-- The pattern rule of SPM (R206). -/
def patternOk (data w k spm : Nat) : Bool :=
  spm == 0 || (shortRows data w 16 8).all fun r =>
    (List.range (k / 4)).all fun g => popcount (bits r.2 (4 * g) 4) 4 == (if spm = 1 then 2 else 1)

/-- The elements of sparse row `m` paired with column n; an absent element gives no product (R207). -/
def Tile.sparsePairs (x : Tile) (m : MOp) (data : Nat) (r : Nat × Nat) (n : Nat) : List (Option (FVal × FVal)) :=
  let ty := fmtType m.fa
  let w := tyBits ty
  (List.range (fmtK m.fa)).map fun k =>
    if r.2.testBit k then
      some (tyVal ty (packedEl data (r.1 + 8) w (popcount r.2 k)), x.wbEl m.wb (fmtType m.fb) k n)
    else none

/-- A valid short group: every row of the accumulator (R207). -/
def State.sparseDense (s : State) (t i : Nat) (m : MOp) (data : Nat) : State :=
  let x := s.tile t
  let w := tyBits (fmtType m.fa)
  let rows := shortRows data w 16 8
  let r := (List.range 16).foldl (fun (p : Tile × NFlags) j =>
    let row := rows.getD j (0, 0)
    let q := Tile.rowMac (if m.za then 0 else x.accRow m.acc j) (x.sparsePairs m data row)
    (p.1.setAccRow m.acc j q.1, p.2.or q.2)) (x, {})
  let present := (rows.map fun r => popcount r.2 64).sum
  (((((s.setTile t r.1).setFlags t r.2).bump (TILE_SP_PRESENT_COUNT t) present).bump (TILE_MATRIX_ROWS_COUNT t) 16).updMop
    t i fun m => { m with finished := true })

/-! ### Sparse × sparse (Table SP-4, R209 to R212) -/

/-- The elements of a long row at byte `o`, `w` bits each, with its length, or none when a condition of R209 holds:
counts, block order, reserved bits, padding. -/
def longBlocks (data w : Nat) : Nat → Nat → Option Nat → Option (List (Nat × Nat) × Nat)
  | 0, o, _ => some ([], o)
  | n + 1, o, prev =>
    let bm := bits data (8 * o) 64
    let kb := bits data (8 * o + 64) 32
    let c := popcount bm 64
    let len := packedBytes c w
    let falls := match prev with
      | some p => decide (kb ≤ p)
      | none => false
    if bm == 0 || bits data (8 * o + 96) 32 != 0 || bits data (8 * (o + 16) + c * w) (8 * len - c * w) != 0 || falls then
      none
    else
      let els := ((List.range 64).filter bm.testBit).map fun b => (64 * kb + b, packedEl data (o + 16) w (popcount bm b))
      (longBlocks data w n (o + 16 + len) (some kb)).map fun r => (els ++ r.1, r.2)

/-- A long row (index, pattern) list and the byte after it; at most `limit` bytes of the operand exist. -/
def longRow (data w o limit : Nat) : Option (List (Nat × Nat) × Nat) :=
  let nnz := bits data (8 * o) 32
  let nblk := bits data (8 * o + 32) 24
  -- a record of NBLK blocks needs 24 B for each
  if limit < o + 8 ∨ bits data (8 * o + 56) 8 ≠ 0 ∨ limit < o + 8 + 24 * nblk then none
  else match longBlocks data w nblk (o + 8) none with
    | some r => if r.1.length = nnz ∧ r.2 ≤ limit then some r else none
    | none => none

/-- The chunks of a list (R210). -/
def chunksOf {α : Type} (n : Nat) : Nat → List α → List (List α)
  | 0, _ => []
  | _, [] => []
  | fuel + 1, l => l.take n :: chunksOf n fuel (l.drop n)

/-- The sequential sum of R211 step 1: the first product as it is, then RN at each addition. -/
def chunkSum : List (FVal × NFlags) → FVal × NFlags
  | [] => (.fin false 0 0, {})
  | p :: l => l.foldl (fun a q =>
      let r := addRn32 a.1 q.1
      (r.1, (a.2.or q.2).or r.2)) p

/-- The products of a chunk for column j, in increasing k. -/
def colProducts (rows : List ((Nat × FVal) × List (Nat × FVal))) (j : Nat) : List (FVal × NFlags) :=
  rows.filterMap fun r => (r.2.find? (·.1 == j)).map fun b => r.1.2.mul b.2

/-- An output row: pairs (column, FP32 pattern), flags, partials taken by the merge tree (R211). -/
def outRow (chunks : List (List ((Nat × FVal) × List (Nat × FVal)))) : List (Nat × Nat) × NFlags × Nat :=
  (List.range 1024).foldl (fun acc j =>
    let per := chunks.map fun c => colProducts c j
    let d := (per.filter fun l => !l.isEmpty).length
    if d = 0 then acc
    else
      let sums := per.map chunkSum
      let r := pairSum sums.length (sums.map (·.1))
      let p := fFP32.pack r.1
      let fl := sums.foldl (fun f q => f.or q.2) (r.2.or p.2)
      (acc.1 ++ [(j, p.1)], acc.2.1.or fl, acc.2.2 + d)) ([], {}, 0)

/-- The slots of a row: its pairs and its terminator (R212). -/
def rowSlots (m : Nat) (err : Bool) (pairs : List (Nat × Nat)) : List Nat :=
  pairs.map (fun p => 2 ^ 30 + p.1 + p.2 * 2 ^ 32) ++ [2 ^ 31 + b2n err * 2 ^ 30 + m % 16 + pairs.length * 2 ^ 32]

/-- The entries of a row, eight slots to each, from a fresh entry, padded (R212). -/
def rowEntries (slots : List Nat) : List Entry :=
  (chunksOf 8 slots.length slots).map fun c =>
    BitVec.ofNat 512 ((List.range c.length).map fun i => c.getD i 0 * 2 ^ (64 * i)).sum

/-- What a sparse × sparse group produces. -/
structure SpOut where
  entries : List Entry := []
  flags : NFlags := {}
  present : Nat := 0
  cleaved : Nat := 0
  merged : Nat := 0
  rows : Nat := 0
  bad : Bool := false
  /-- Memory keys and lengths of the B bytes read. -/
  reads : List (Nat × Nat) := []

/-- B row k, or none when a condition of R209 holds (its row table entry, its record, KB above 15). -/
def State.bRow (s : State) (m : MOp) (k : Nat) : Option (List (Nat × FVal)) × List (Nat × Nat) :=
  let ty := fmtType m.fb
  if m.bLen < 4 * k + 4 then (none, [])
  else
    let off := s.rdMem (m.bBase + 4 * k) 4
    if off = 0xFFFFFFFF then (some [], [(m.bBase + 4 * k, 4)])
    else if m.bLen < off + 8 then (none, [(m.bBase + 4 * k, 4)])
    else
      -- at most 16 blocks of 16 + 64 × w / 8 bytes each lie in a record
      let n := min (m.bLen - off) (8 + 16 * (16 + 8 * tyBits ty))
      match longRow (s.rdMem (m.bBase + off) n) (tyBits ty) 0 (m.bLen - off) with
      | some r =>
        (if r.1.all fun e => decide (e.1 < 1024) then some (r.1.map fun e => (e.1, tyVal ty e.2)) else none,
         [(m.bBase + 4 * k, 4), (m.bBase + off, r.2)])
      | none => (none, [(m.bBase + 4 * k, 4), (m.bBase + off, 8)])

/-- The rows of a group in order, from byte `o`; from the first row at fault on, each ends with an ERR terminator
(R209, R214). [entries 24 DEDUCED, 26 DEDUCED] -/
def State.spRows (s : State) (m : MOp) (data bytes : Nat) : Nat → Nat → Nat → Bool → SpOut → SpOut
  | 0, _, _, bad, r => { r with bad := bad }
  | n + 1, j, o, bad, r =>
    let fail : SpOut := { r with entries := r.entries ++ rowEntries (rowSlots j true []) }
    if bad then s.spRows m data bytes n (j + 1) o true fail
    else
      let ty := fmtType m.fa
      match longRow data (tyBits ty) o bytes with
      | none => s.spRows m data bytes n (j + 1) o true fail
      | some row =>
        let b := row.1.map fun e => (e, s.bRow m e.1)
        let reads := b.flatMap fun e => e.2.2
        -- padding after the last row counts against that row (R209)
      let last := n == 0 && bits data (8 * row.2) (8 * (bytes - row.2)) != 0
        if last || b.any (fun e => e.2.1.isNone) || row.1.any (fun e => decide (bits m.bind 32 24 ≤ e.1)) then
          s.spRows m data bytes n (j + 1) row.2 true { fail with reads := r.reads ++ reads }
        else
          let els := b.map fun e => ((e.1.1, tyVal ty e.1.2), e.2.1.getD [])
          let cl := max 16 (min 4096 (bits m.bind 0 13))
          let chunks := chunksOf cl els.length els
          let out := outRow chunks
          s.spRows m data bytes n (j + 1) row.2 false
            { r with
              entries := r.entries ++ rowEntries (rowSlots j false out.1), flags := r.flags.or out.2.1
              present := r.present + els.length, cleaved := r.cleaved + b2n (decide (1 < chunks.length))
              merged := r.merged + out.2.2, rows := r.rows + 1, reads := r.reads ++ reads }

/-- The header of a sparse × sparse group is one that R209 allows. -/
def longHeaderOk (data : Nat) : Bool :=
  bits data 0 32 % 64 == 0 && bits data 0 32 != 0 && decide (1 ≤ bits data 32 5) && decide (bits data 32 5 ≤ 16) &&
  bits data 37 27 == 0

/-- The rows of a sparse × sparse group that has arrived whole. -/
def State.spGroup (s : State) (m : MOp) (data : Nat) : SpOut :=
  s.spRows m data (bits data 0 32) (bits data 32 5) 0 8 (!longHeaderOk data) {}

/-- Memory as the unit reads B: a word that cannot be corrected gives no data, and a free value stands for it (R134,
R214). [entry 30 DESIGN CHOICE] -/
def State.asRead (s : State) (k n : Nat) : State :=
  (srange s.eccBad (k / 8) ((k + n + 7) / 8)).foldl (fun s w =>
    let d := s.draw 64
    d.2.wrMem (8 * w.1) 8 d.1) s

/-- A whole sparse × sparse group (R209 to R214); `e` is the outcome of its first read of B. -/
def State.sparseSparse (s0 : State) (t i : Nat) (m : MOp) (data : Nat) (e : Ecc) : State :=
  let first := (s0.spGroup m data).reads.headD (m.bBase, 0)
  let s := s0.noteEcc first.1 first.2 e
  let sB := s.asRead m.bBase m.bLen
  let r := sB.spGroup m data
  let s' : State := { s with freeCtr := sB.freeCtr }
  let s1 := ((((((s'.setFlags t r.flags).bump (TILE_SP_PRESENT_COUNT t) r.present).bump (TILE_SP_CLEAVED_COUNT t)
    r.cleaved).bump (TILE_SP_MERGE_COUNT t) r.merged).bump (TILE_MATRIX_ROWS_COUNT t) r.rows).updMop t i fun m =>
      { m with outs := r.entries, finished := r.entries.isEmpty, buf := [], done := 1 })
  let bad := r.reads.filter fun q => s.hasBad q.1 q.2
  let s2 := bad.foldl (fun s q => s.noteRows t (q.1 % 2 ^ 32) q.2) s1
  let s3 := match bad with
    | q :: _ => s2.faultIssuer t m (ueCode (q.1 % 2 ^ 32))
    | [] => if e = .corrected then s2.mxEcc t m (first.1 % 2 ^ 32) first.2 e else s2
  if r.bad then s3.faultIssuer t m 0x100D else s3

/-! ### The steps of MMAS -/

/-- Bytes that a group consumes: BYTES, or one 64 B unit when BYTES is not valid (R214). -/
def groupBytes (m : MOp) (head : Nat) : Nat :=
  if m.spb then (if bits head 0 32 % 64 = 0 ∧ bits head 0 32 ≠ 0 then bits head 0 32 else 64)
  else if shortBytesOk (bits head 0 16) then bits head 0 16 else 64

/-- A group that has arrived whole, with the outcome of its first read of B. [entry 23 DEDUCED] -/
def State.mmasGroup (s : State) (t i : Nat) (m : MOp) (data : Nat) (e : Ecc) : State :=
  let w := tyBits (fmtType m.fa)
  let k := fmtK m.fa
  if m.spb then s.sparseSparse t i m data e
  else if !shortOk data (bits data 0 16) w k then
    (s.updMop t i fun m => { m with finished := true }).faultIssuer t m 0x100D
  else if !patternOk data w k m.spm then
    (s.updMop t i fun m => { m with finished := true }).faultIssuer t m 0x100E
  else s.sparseDense t i m data

/-- A row operation holds a bench row of B that the group reads, so that the unit waits (R140). -/
def State.mmasHeld (s : State) (t : Nat) (m : MOp) (data : Nat) : Bool :=
  m.spb && (s.spGroup m data).reads.any fun q => (s.tile t).benchHeld (q.1 % 2 ^ 32) q.2

/-- One step of MMAS: an entry of QA, or the group from the desk; `e` is the outcome of the desk read or, with A from a
queue, of the first read of B. A group that would leave the desk is read up to its end and is short of its BYTES. [entry 24
DEDUCED] -/
def State.mmasRow (s : State) (t i : Nat) (m : MOp) (e : Ecc) : State :=
  if m.done = 1 then s
  else if m.dq then
    match s.headIn t m.qa with
    | none => s
    | some d =>
      let buf := m.buf ++ [d]
      let s1 := (s.popIn t m.qa).updMop t i fun m => { m with buf := buf }
      let need := groupBytes m ((buf.headD 0).toNat) / 64
      let data := ((List.range buf.length).map fun j => (buf.getD j 0).toNat * 2 ^ (512 * j)).sum
      if buf.length < need then s1
      else if s.mmasHeld t m data then s
      else s1.mmasGroup t i m data e
  else
    let head := s.rdMem (tkey t m.base) 8
    let n := min (groupBytes m head) (0xC000 - m.base)
    let r := s.wideRead (tkey t m.base) n e
    if s.mmasHeld t m r.1 then s else (r.2.1.mmasGroup t i m r.1 .clean).mxEcc t m m.base n r.2.2

/-- MATRIX_ROW: the `i`-th queued operation processes its next row once that has arrived (R97, R99, R123 to R125). -/
def execMatrixRow (t i : Nat) (ecc : Ecc) (s : State) : Host.Outcome State Fault Refusal :=
  .next (match (s.tile t).mq[i]? with
    | none => s
    | some m =>
      if !m.started || m.finished || !s.tileLive t then s
      else match m.kind with
        | .mldw => s.mldwRow t i m ecc
        | .mma => s.mmaRow t i m ecc
        | .mmag => s
        | .mmas => s.mmasRow t i m ecc
        | .mza =>
          (s.updTile t fun x => { x with acc := sclear x.acc (m.acc * 256) ((m.acc + 1) * 256) }).stepMop t i 1
        | .mwra => (s.updTile t fun x => x.setAccRow m.acc m.row m.data.toNat).stepMop t i 1
        | .msta => s.mstaRowOut t i m)

/-- MMAS_ROW_PUSH: the next entry of the output rows goes to QO when it has room (R212). -/
def execMmasRowPush (t : Nat) (s : State) : Host.Outcome State Fault Refusal :=
  .next (match (s.tile t).mq.findIdx? fun m => m.kind == .mmas && m.started && !m.finished && !m.outs.isEmpty with
    | none => s
    | some i =>
      match (s.tile t).mq[i]? with
      | none => s
      | some m =>
        match m.outs with
        | [] => s
        | e :: rest =>
          if !s.tileLive t || s.outRoom t m.qo == 0 then s
          else (s.pushOut t m.qo e .other).updMop t i fun m => { m with outs := rest, finished := rest.isEmpty })

end Sys2Proof.Machine
end

