-- ==== Sys2Proof/Machine/TileDecode.lean ====
section
/-! DEFINITION. The 64-bit tile instruction words (05 R109 to R111, Tables IS-1 to IS-14): the decoder from a word to
the command that issues it, the encoder back, and ILLEGAL_INSTRUCTION. -/

namespace Sys2Proof.Machine

/-! ### Fields -/

/-- The field of `n` bits of a word that starts at bit `lo`. -/
def fld64 (w : BitVec 64) (lo n : Nat) : BitVec n := BitVec.ofNat n (w.toNat / 2 ^ lo)

/-- Table IS-1: the guard. -/
def wordGuard (w : BitVec 64) : Guard := { gp := fld64 w 3 3, gn := fld64 w 6 1 }

/-- Table IS-3. -/
def wordF (w : BitVec 64) : FArgs :=
  let i : BitVec 1 := fld64 w 27 1
  if i = 1 then
    { rd := fld64 w 16 5, ra := fld64 w 21 5, kind := fld64 w 26 1, i := i, t := fld64 w 28 4, imm := fld64 w 32 32 }
  else
    { rd := fld64 w 16 5, ra := fld64 w 21 5, kind := fld64 w 26 1, i := i, t := fld64 w 28 4, rb := fld64 w 32 5
      rc := fld64 w 37 5, ts := fld64 w 42 4, scale := fld64 w 46 8 }

/-- Table IS-5. -/
def wordM (w : BitVec 64) : MArgs :=
  { r := fld64 w 16 5, rb := fld64 w 21 5, sz := fld64 w 26 3, space := fld64 w 29 2, h := fld64 w 32 6
    q := fld64 w 38 3, off := fld64 w 44 20 }

/-- Table IS-7. -/
def wordQ (w : BitVec 64) : QArgs :=
  { r := fld64 w 16 5, qn := fld64 w 21 3, side := fld64 w 24 1, rb := fld64 w 25 5, off := fld64 w 44 20 }

/-- Table IS-9. -/
def wordX (w : BitVec 64) : XArgs :=
  { acc := fld64 w 16 2, wb := fld64 w 18 1, fa := fld64 w 19 3, fb := fld64 w 22 3, za := fld64 w 25 1
    dq := fld64 w 26 1, qa := fld64 w 27 3, rb := fld64 w 30 5, stride := fld64 w 35 7, qo := fld64 w 42 3
    t := fld64 w 45 4, scale := fld64 w 49 8, row := fld64 w 57 4, spm := fld64 w 61 2, spb := fld64 w 63 1 }

/-- Table IS-11. -/
def wordC (w : BitVec 64) : CArgs :=
  { rc := fld64 w 16 5, csrc := fld64 w 21 1, rn := fld64 w 22 5, target := fld64 w 27 13, count := fld64 w 40 24 }

/-- Table IS-13. -/
def wordS (w : BitVec 64) : SArgs :=
  { rd := fld64 w 16 5, ra := fld64 w 21 5, rb := fld64 w 26 5, rc := fld64 w 31 5, rop := fld64 w 36 3
    fv := fld64 w 39 1, h := fld64 w 40 6, sd := fld64 w 46 3 }

/-- The reserved fields of a format are zero (R110). -/
def reservedOk (w : BitVec 64) : Bool :=
  fld64 w 7 1 == 0 &&
  (match (fld64 w 0 3).toNat with
   | 0 => fld64 w 27 1 == 1 || fld64 w 54 10 == 0
   | 1 => fld64 w 31 1 == 0 && fld64 w 41 3 == 0
   | 2 => fld64 w 30 14 == 0
   | 5 => fld64 w 49 15 == 0
   | _ => true)

/-! ### Opcodes -/

/-- Table IS-4: what an F opcode uses, and its command. -/
def fOp (op : Nat) : Option (FSpec × (Nat → Guard → FArgs → Instr)) :=
  match op with
  | 0x00 => some (fsInt2, .add) | 0x01 => some (fsInt2, .sub) | 0x02 => some (fsInt2, .mul)
  | 0x03 => some (fsInt2, .mulh) | 0x04 => some (fsInt2, .and) | 0x05 => some (fsInt2, .or)
  | 0x06 => some (fsInt2, .xor) | 0x07 => some (fsInt2, .andn) | 0x08 => some (fsInt2, .shl)
  | 0x09 => some (fsInt2, .shr) | 0x0A => some (fsInt2, .min) | 0x0B => some (fsInt2, .max)
  | 0x0C => some (fsInt1, .abs) | 0x0D => some (fsMov, .mov) | 0x0E => some (fsInt2, .adds)
  | 0x0F => some (fsInt2, .subs) | 0x10 => some (fsFlt2, .fadd) | 0x11 => some (fsFlt2, .fsub)
  | 0x12 => some (fsFlt2, .fmul) | 0x13 => some (fsFma, .fma) | 0x14 => some (fsFlt2, .fmin)
  | 0x15 => some (fsFlt2, .fmax) | 0x16 => some (fsFlt1, .fneg) | 0x17 => some (fsFlt1, .fabs)
  | 0x20 => some (fsCmp, .cmpeq) | 0x21 => some (fsCmp, .cmpne) | 0x22 => some (fsCmp, .cmplt)
  | 0x23 => some (fsCmp, .cmple) | 0x28 => some (fsSel, .sel) | 0x30 => some (fsCvt, .cvt)
  | 0x38 => some (fsRed, .redadd) | 0x39 => some (fsRed, .redmax) | 0x3A => some (fsBcast, .vbcast)
  | 0x3B => some (fsVext, .vext) | 0x3C => some (fsVins, .vins) | 0x40 => some (fsPred2, .pand)
  | 0x41 => some (fsPred2, .por) | 0x42 => some (fsPred2, .pxor) | 0x43 => some (fsPnot, .pnot)
  | 0x44 => some (fsPfroms, .pfroms) | 0x45 => some (fsSfromp, .sfromp)
  | _ => none

/-- Table IS-6: whether the fields decode, and the command. -/
def mOp (op : Nat) (a : MArgs) : Option (Bool × (Nat → Guard → MArgs → Instr)) :=
  match op with
  | 0x00 => some (lsDecodes a, fun t g a => .ld t g a .clean)
  | 0x01 => some (lsDecodes a, fun t g a => .st t g a .clean)
  | 0x08 => some (putDecodes a, .put)
  | 0x09 => some (getDecodes a, .get)
  | _ => none

/-- Table IS-8. -/
def qOp (op : Nat) (a : QArgs) : Option (Bool × (Nat → Guard → QArgs → Instr)) :=
  match op with
  | 0x00 => some (qsDecodes a, .pops)
  | 0x01 => some (qvDecodes a, .popv)
  | 0x02 => some (qdDecodes a, .popd)
  | 0x03 => some (skipDecodes a, .skip)
  | 0x08 => some (qsDecodes a, .pushs)
  | 0x09 => some (qvDecodes a, .pushv)
  | 0x0A => some (qdDecodes a, fun t g a => .pushd t g a .clean)
  | 0x10 => some (qcntDecodes a, .qcnt)
  | _ => none

/-- Table IS-10; `pd` is POUT_DST of TILE.GANG, which decides whether MMAG uses ZA (R106). -/
def xOp (op : Nat) (a : XArgs) (pd : Bool) : Option (Bool × (Nat → Guard → XArgs → Instr)) :=
  match op with
  | 0x00 => some (mldwDecodes a, .mldw)
  | 0x01 => some (mmaDecodes a, .mma)
  | 0x02 => some (mmagDecodes a pd, .mmag)
  | 0x03 => some (mmasDecodes a, .mmas)
  | 0x08 => some (mzaDecodes a, .mza)
  | 0x09 => some (mwraDecodes a, .mwra)
  | 0x0A => some (mstaDecodes a, .msta)
  | 0x10 => some (mrdaDecodes a, .mrda)
  | _ => none

/-- Table IS-12; `pc` is the word's own index (R126). -/
def cOp (op : Nat) (g : Guard) (a : CArgs) (pc : Nat) : Option (Bool × (Nat → Guard → CArgs → Instr)) :=
  match op with
  | 0x00 => some (cPlainDecodes g a, .nop)
  | 0x01 => some (cPlainDecodes g a, .tend)
  | 0x02 => some (cPlainDecodes g a, .tyield)
  | 0x10 => some (loopDecodes g a pc, .loop)
  | 0x11 => some (lendDecodes g a pc, .lend)
  | 0x20 => some (jmpDecodes g a, .jmp)
  | _ => none

/-- Table IS-14. -/
def sOp (op : Nat) (a : SArgs) : Option (Bool × (Nat → Guard → SArgs → Instr)) :=
  match op with
  | 0x00 => some (rdidDecodes a, .rdid)
  | 0x01 => some (rdcycDecodes a, .rdcyc)
  | 0x08 => some (haddrDecodes a, .haddr)
  | 0x09 => some (hgenDecodes a, .hgen)
  | 0x10 => some (sstartDecodes a, .sstart)
  | 0x11 => some (sstartDecodes a, .sstop)
  | 0x12 => some (sstatDecodes a, .sstat)
  | 0x20 => some (rowDecodes a, .row)
  | _ => none

/-- The word at index `pc` of tile `t` as the command that issues it, or none where it does not decode (R110). -/
def decodeTile (t pc : Nat) (pd : Bool) (w : BitVec 64) : Option Instr :=
  let op := (fld64 w 8 8).toNat
  let g := wordGuard w
  if !reservedOk w then none
  else
    match (fld64 w 0 3).toNat with
    | 0 => (fOp op).bind fun r => if fDecodes r.1 (wordF w) then some (r.2 t g (wordF w)) else none
    | 1 => (mOp op (wordM w)).bind fun r => if r.1 then some (r.2 t g (wordM w)) else none
    | 2 => (qOp op (wordQ w)).bind fun r => if r.1 then some (r.2 t g (wordQ w)) else none
    | 3 => (xOp op (wordX w) pd).bind fun r => if r.1 then some (r.2 t g (wordX w)) else none
    | 4 => (cOp op g (wordC w) pc).bind fun r => if r.1 then some (r.2 t g (wordC w)) else none
    | 5 => (sOp op (wordS w)).bind fun r => if r.1 then some (r.2 t g (wordS w)) else none
    | _ => none

/-! ### Encoder -/

/-- Bits 15:0 (Table IS-1). -/
def encHead (fmt op : Nat) (g : Guard) : Nat := fmt + 2 ^ 3 * g.gp.toNat + 2 ^ 6 * g.gn.toNat + 2 ^ 8 * op

/-- Table IS-3. -/
def encF (op : Nat) (g : Guard) (a : FArgs) : BitVec 64 :=
  BitVec.ofNat 64 (encHead 0 op g + 2 ^ 16 * a.rd.toNat + 2 ^ 21 * a.ra.toNat + 2 ^ 26 * a.kind.toNat +
    2 ^ 27 * a.i.toNat + 2 ^ 28 * a.t.toNat +
    (if a.i = 1 then 2 ^ 32 * a.imm.toNat
     else 2 ^ 32 * a.rb.toNat + 2 ^ 37 * a.rc.toNat + 2 ^ 42 * a.ts.toNat + 2 ^ 46 * a.scale.toNat))

/-- Table IS-5. -/
def encM (op : Nat) (g : Guard) (a : MArgs) : BitVec 64 :=
  BitVec.ofNat 64 (encHead 1 op g + 2 ^ 16 * a.r.toNat + 2 ^ 21 * a.rb.toNat + 2 ^ 26 * a.sz.toNat +
    2 ^ 29 * a.space.toNat + 2 ^ 32 * a.h.toNat + 2 ^ 38 * a.q.toNat + 2 ^ 44 * a.off.toNat)

/-- Table IS-7. -/
def encQ (op : Nat) (g : Guard) (a : QArgs) : BitVec 64 :=
  BitVec.ofNat 64 (encHead 2 op g + 2 ^ 16 * a.r.toNat + 2 ^ 21 * a.qn.toNat + 2 ^ 24 * a.side.toNat +
    2 ^ 25 * a.rb.toNat + 2 ^ 44 * a.off.toNat)

/-- Table IS-9. -/
def encX (op : Nat) (g : Guard) (a : XArgs) : BitVec 64 :=
  BitVec.ofNat 64 (encHead 3 op g + 2 ^ 16 * a.acc.toNat + 2 ^ 18 * a.wb.toNat + 2 ^ 19 * a.fa.toNat +
    2 ^ 22 * a.fb.toNat + 2 ^ 25 * a.za.toNat + 2 ^ 26 * a.dq.toNat + 2 ^ 27 * a.qa.toNat + 2 ^ 30 * a.rb.toNat +
    2 ^ 35 * a.stride.toNat + 2 ^ 42 * a.qo.toNat + 2 ^ 45 * a.t.toNat + 2 ^ 49 * a.scale.toNat +
    2 ^ 57 * a.row.toNat + 2 ^ 61 * a.spm.toNat + 2 ^ 63 * a.spb.toNat)

/-- Table IS-11. -/
def encC (op : Nat) (g : Guard) (a : CArgs) : BitVec 64 :=
  BitVec.ofNat 64 (encHead 4 op g + 2 ^ 16 * a.rc.toNat + 2 ^ 21 * a.csrc.toNat + 2 ^ 22 * a.rn.toNat +
    2 ^ 27 * a.target.toNat + 2 ^ 40 * a.count.toNat)

/-- Table IS-13. -/
def encS (op : Nat) (g : Guard) (a : SArgs) : BitVec 64 :=
  BitVec.ofNat 64 (encHead 5 op g + 2 ^ 16 * a.rd.toNat + 2 ^ 21 * a.ra.toNat + 2 ^ 26 * a.rb.toNat +
    2 ^ 31 * a.rc.toNat + 2 ^ 36 * a.rop.toNat + 2 ^ 39 * a.fv.toNat + 2 ^ 40 * a.h.toNat + 2 ^ 46 * a.sd.toNat)

/-- The word of a tile instruction, with the opcodes of Tables IS-4 to IS-14; none for a command that is no tile
instruction. -/
def tileWord (i : Instr) : Option (BitVec 64) :=
  match i with
  | .add _ g a => some (encF 0x00 g a)
  | .sub _ g a => some (encF 0x01 g a)
  | .mul _ g a => some (encF 0x02 g a)
  | .mulh _ g a => some (encF 0x03 g a)
  | .and _ g a => some (encF 0x04 g a)
  | .or _ g a => some (encF 0x05 g a)
  | .xor _ g a => some (encF 0x06 g a)
  | .andn _ g a => some (encF 0x07 g a)
  | .shl _ g a => some (encF 0x08 g a)
  | .shr _ g a => some (encF 0x09 g a)
  | .min _ g a => some (encF 0x0A g a)
  | .max _ g a => some (encF 0x0B g a)
  | .abs _ g a => some (encF 0x0C g a)
  | .mov _ g a => some (encF 0x0D g a)
  | .adds _ g a => some (encF 0x0E g a)
  | .subs _ g a => some (encF 0x0F g a)
  | .fadd _ g a => some (encF 0x10 g a)
  | .fsub _ g a => some (encF 0x11 g a)
  | .fmul _ g a => some (encF 0x12 g a)
  | .fma _ g a => some (encF 0x13 g a)
  | .fmin _ g a => some (encF 0x14 g a)
  | .fmax _ g a => some (encF 0x15 g a)
  | .fneg _ g a => some (encF 0x16 g a)
  | .fabs _ g a => some (encF 0x17 g a)
  | .cmpeq _ g a => some (encF 0x20 g a)
  | .cmpne _ g a => some (encF 0x21 g a)
  | .cmplt _ g a => some (encF 0x22 g a)
  | .cmple _ g a => some (encF 0x23 g a)
  | .sel _ g a => some (encF 0x28 g a)
  | .cvt _ g a => some (encF 0x30 g a)
  | .redadd _ g a => some (encF 0x38 g a)
  | .redmax _ g a => some (encF 0x39 g a)
  | .vbcast _ g a => some (encF 0x3A g a)
  | .vext _ g a => some (encF 0x3B g a)
  | .vins _ g a => some (encF 0x3C g a)
  | .pand _ g a => some (encF 0x40 g a)
  | .por _ g a => some (encF 0x41 g a)
  | .pxor _ g a => some (encF 0x42 g a)
  | .pnot _ g a => some (encF 0x43 g a)
  | .pfroms _ g a => some (encF 0x44 g a)
  | .sfromp _ g a => some (encF 0x45 g a)
  | .ld _ g a _ => some (encM 0x00 g a)
  | .st _ g a _ => some (encM 0x01 g a)
  | .put _ g a => some (encM 0x08 g a)
  | .get _ g a => some (encM 0x09 g a)
  | .pops _ g a => some (encQ 0x00 g a)
  | .popv _ g a => some (encQ 0x01 g a)
  | .popd _ g a => some (encQ 0x02 g a)
  | .skip _ g a => some (encQ 0x03 g a)
  | .pushs _ g a => some (encQ 0x08 g a)
  | .pushv _ g a => some (encQ 0x09 g a)
  | .pushd _ g a _ => some (encQ 0x0A g a)
  | .qcnt _ g a => some (encQ 0x10 g a)
  | .mldw _ g a => some (encX 0x00 g a)
  | .mma _ g a => some (encX 0x01 g a)
  | .mmag _ g a => some (encX 0x02 g a)
  | .mmas _ g a => some (encX 0x03 g a)
  | .mza _ g a => some (encX 0x08 g a)
  | .mwra _ g a => some (encX 0x09 g a)
  | .msta _ g a => some (encX 0x0A g a)
  | .mrda _ g a => some (encX 0x10 g a)
  | .nop _ g a => some (encC 0x00 g a)
  | .tend _ g a => some (encC 0x01 g a)
  | .tyield _ g a => some (encC 0x02 g a)
  | .loop _ g a => some (encC 0x10 g a)
  | .lend _ g a => some (encC 0x11 g a)
  | .jmp _ g a => some (encC 0x20 g a)
  | .rdid _ g a => some (encS 0x00 g a)
  | .rdcyc _ g a => some (encS 0x01 g a)
  | .haddr _ g a => some (encS 0x08 g a)
  | .hgen _ g a => some (encS 0x09 g a)
  | .sstart _ g a => some (encS 0x10 g a)
  | .sstop _ g a => some (encS 0x11 g a)
  | .sstat _ g a => some (encS 0x12 g a)
  | .row _ g a => some (encS 0x20 g a)
  | _ => none

/-! ### ILLEGAL_INSTRUCTION -/

/-- ILLEGAL_INSTRUCTION: a word that does not decode raises the fault whatever its guard (R110). A word that decodes is
some other row's command. [entry 18 DESIGN CHOICE] -/
def execIllegalInstruction (t : Nat) (w : BitVec 64) (s : State) : Host.Outcome State Fault Refusal :=
  .next (if (decodeTile t (s.pcOf t) ((s.gang t).testBit 11) w).isNone then s.issue t false fun _ => .done s
         else s)

end Sys2Proof.Machine
end

