-- ==== Sys2Proof/Machine/Dispatch.lean ====
section
/-! DEFINITION. One arm for each command: a direct call of its meaning. -/

namespace Sys2Proof.Machine

def exec (i : Instr) (s : State) : Host.Outcome State Fault Refusal :=
  match i with
  | .registerWrite f off v => Sys2Proof.Machine.execRegisterWrite f off v s
  | .rcRegisterRead f off => Sys2Proof.Machine.execRcRegisterRead f off s
  | .misalignedRegisterAccess f off bytes write => Sys2Proof.Machine.execMisalignedRegisterAccess f off bytes write s
  | .cntFreezeWrite f page v => Sys2Proof.Machine.execCntFreezeWrite f page v s
  | .sriovNumvfsWrite n msix => Sys2Proof.Machine.execSriovNumvfsWrite n msix s
  | .apertureAccess f b bytes write ecc => Sys2Proof.Machine.execApertureAccess f b bytes write ecc s
  | .apertureWrite f part v => Sys2Proof.Machine.execApertureWrite f part v s
  | .vfFunctionLevelReset k => Sys2Proof.Machine.execVfFunctionLevelReset k s
  | .managementReset => Sys2Proof.Machine.execManagementReset s
  | .start f n => Sys2Proof.Machine.execStart f n s
  | .stop f n => Sys2Proof.Machine.execStop f n s
  | .drain f n => Sys2Proof.Machine.execDrain f n s
  | .resume f n => Sys2Proof.Machine.execResume f n s
  | .pause f n => Sys2Proof.Machine.execPause f n s
  | .partitionReset f n => Sys2Proof.Machine.execPartitionReset f n s
  | .partitionResetComplete n => Sys2Proof.Machine.execPartitionResetComplete n s
  | .drainComplete n => Sys2Proof.Machine.execDrainComplete n s
  | .drainTimeout n at_ => Sys2Proof.Machine.execDrainTimeout n at_ s
  | .stagedFieldWrite f off v => Sys2Proof.Machine.execStagedFieldWrite f off v s
  | .commit f page v => Sys2Proof.Machine.execCommit f page v s
  | .discard f page v => Sys2Proof.Machine.execDiscard f page v s
  | .seamApplyComplete n g => Sys2Proof.Machine.execSeamApplyComplete n g s
  | .latchAcquire who k => Sys2Proof.Machine.execLatchAcquire who k s
  | .latchRelease who k => Sys2Proof.Machine.execLatchRelease who k s
  | .latchForce who k => Sys2Proof.Machine.execLatchForce who k s
  | .moduleResetWrite v at_ => Sys2Proof.Machine.execModuleResetWrite v at_ s
  | .perstAssert at_ => Sys2Proof.Machine.execPerstAssert at_ s
  | .perstRelease at_ => Sys2Proof.Machine.execPerstRelease at_ s
  | .pcieLinkL0 speed width flit at_ => Sys2Proof.Machine.execPcieLinkL0 speed width flit at_ s
  | .passCrcFailure p edge link dir plane rim bad at_ => Sys2Proof.Machine.execPassCrcFailure p edge link dir plane rim bad at_ s
  | .laneReplacement p => Sys2Proof.Machine.execLaneReplacement p s
  | .hardwareFaultDetect t unit => Sys2Proof.Machine.execHardwareFaultDetect t unit s
  | .respareMapComputed p => Sys2Proof.Machine.execRespareMapComputed p s
  | .plainQuiesced p at_ => Sys2Proof.Machine.execPlainQuiesced p at_ s
  | .respareIntentProgrammed p => Sys2Proof.Machine.execRespareIntentProgrammed p s
  | .respareCopyStep p lost => Sys2Proof.Machine.execRespareCopyStep p lost s
  | .respareRefillComplete p at_ => Sys2Proof.Machine.execRespareRefillComplete p at_ s
  | .plainResume p at_ => Sys2Proof.Machine.execPlainResume p at_ s
  | .respareCommitProgrammed p => Sys2Proof.Machine.execRespareCommitProgrammed p s
  | .respare f p x y => Sys2Proof.Machine.execRespare f p x y s
  | .retireRow f p y => Sys2Proof.Machine.execRetireRow f p y s
  | .retest f p x y => Sys2Proof.Machine.execRetest f p x y s
  | .retestComplete p pass => Sys2Proof.Machine.execRetestComplete p pass s
  | .computeFence f p => Sys2Proof.Machine.execComputeFence f p s
  | .fullFence f p => Sys2Proof.Machine.execFullFence f p s
  | .unfence f p => Sys2Proof.Machine.execUnfence f p s
  | .laneRespare f p edge link dir plane group lane => Sys2Proof.Machine.execLaneRespare f p edge link dir plane group lane s
  | .instructionFetch t g ecc => Sys2Proof.Machine.execInstructionFetch t g ecc s
  | .taskDispatch t => Sys2Proof.Machine.execTaskDispatch t s
  | .taskUnblock t k => Sys2Proof.Machine.execTaskUnblock t k s
  | .taskEnableWrite t k en => Sys2Proof.Machine.execTaskEnableWrite t k en s
  | .tileRunWrite t run => Sys2Proof.Machine.execTileRunWrite t run s
  | .illegalInstruction t w => Sys2Proof.Machine.execIllegalInstruction t w s
  | .add t g a => Sys2Proof.Machine.execAdd t g a s
  | .sub t g a => Sys2Proof.Machine.execSub t g a s
  | .mul t g a => Sys2Proof.Machine.execMul t g a s
  | .mulh t g a => Sys2Proof.Machine.execMulh t g a s
  | .and t g a => Sys2Proof.Machine.execAnd t g a s
  | .or t g a => Sys2Proof.Machine.execOr t g a s
  | .xor t g a => Sys2Proof.Machine.execXor t g a s
  | .andn t g a => Sys2Proof.Machine.execAndn t g a s
  | .shl t g a => Sys2Proof.Machine.execShl t g a s
  | .shr t g a => Sys2Proof.Machine.execShr t g a s
  | .min t g a => Sys2Proof.Machine.execMin t g a s
  | .max t g a => Sys2Proof.Machine.execMax t g a s
  | .abs t g a => Sys2Proof.Machine.execAbs t g a s
  | .mov t g a => Sys2Proof.Machine.execMov t g a s
  | .adds t g a => Sys2Proof.Machine.execAdds t g a s
  | .subs t g a => Sys2Proof.Machine.execSubs t g a s
  | .fadd t g a => Sys2Proof.Machine.execFadd t g a s
  | .fsub t g a => Sys2Proof.Machine.execFsub t g a s
  | .fmul t g a => Sys2Proof.Machine.execFmul t g a s
  | .fma t g a => Sys2Proof.Machine.execFma t g a s
  | .fmin t g a => Sys2Proof.Machine.execFmin t g a s
  | .fmax t g a => Sys2Proof.Machine.execFmax t g a s
  | .fneg t g a => Sys2Proof.Machine.execFneg t g a s
  | .fabs t g a => Sys2Proof.Machine.execFabs t g a s
  | .cmpeq t g a => Sys2Proof.Machine.execCmpeq t g a s
  | .cmpne t g a => Sys2Proof.Machine.execCmpne t g a s
  | .cmplt t g a => Sys2Proof.Machine.execCmplt t g a s
  | .cmple t g a => Sys2Proof.Machine.execCmple t g a s
  | .sel t g a => Sys2Proof.Machine.execSel t g a s
  | .cvt t g a => Sys2Proof.Machine.execCvt t g a s
  | .redadd t g a => Sys2Proof.Machine.execRedadd t g a s
  | .redmax t g a => Sys2Proof.Machine.execRedmax t g a s
  | .vbcast t g a => Sys2Proof.Machine.execVbcast t g a s
  | .vext t g a => Sys2Proof.Machine.execVext t g a s
  | .vins t g a => Sys2Proof.Machine.execVins t g a s
  | .pand t g a => Sys2Proof.Machine.execPand t g a s
  | .por t g a => Sys2Proof.Machine.execPor t g a s
  | .pxor t g a => Sys2Proof.Machine.execPxor t g a s
  | .pnot t g a => Sys2Proof.Machine.execPnot t g a s
  | .pfroms t g a => Sys2Proof.Machine.execPfroms t g a s
  | .sfromp t g a => Sys2Proof.Machine.execSfromp t g a s
  | .ld t g a ecc => Sys2Proof.Machine.execLd t g a ecc s
  | .st t g a ecc => Sys2Proof.Machine.execSt t g a ecc s
  | .put t g a => Sys2Proof.Machine.execPut t g a s
  | .get t g a => Sys2Proof.Machine.execGet t g a s
  | .pops t g a => Sys2Proof.Machine.execPops t g a s
  | .popv t g a => Sys2Proof.Machine.execPopv t g a s
  | .popd t g a => Sys2Proof.Machine.execPopd t g a s
  | .skip t g a => Sys2Proof.Machine.execSkip t g a s
  | .pushs t g a => Sys2Proof.Machine.execPushs t g a s
  | .pushv t g a => Sys2Proof.Machine.execPushv t g a s
  | .pushd t g a ecc => Sys2Proof.Machine.execPushd t g a ecc s
  | .qcnt t g a => Sys2Proof.Machine.execQcnt t g a s
  | .mldw t g a => Sys2Proof.Machine.execMldw t g a s
  | .mma t g a => Sys2Proof.Machine.execMma t g a s
  | .mmag t g a => Sys2Proof.Machine.execMmag t g a s
  | .mmas t g a => Sys2Proof.Machine.execMmas t g a s
  | .mza t g a => Sys2Proof.Machine.execMza t g a s
  | .mwra t g a => Sys2Proof.Machine.execMwra t g a s
  | .msta t g a => Sys2Proof.Machine.execMsta t g a s
  | .mrda t g a => Sys2Proof.Machine.execMrda t g a s
  | .matrixOpStart t n => Sys2Proof.Machine.execMatrixOpStart t n s
  | .matrixRow t ix ecc => Sys2Proof.Machine.execMatrixRow t ix ecc s
  | .mmagRow t => Sys2Proof.Machine.execMmagRow t s
  | .matrixOpComplete t => Sys2Proof.Machine.execMatrixOpComplete t s
  | .mmasRowPush t => Sys2Proof.Machine.execMmasRowPush t s
  | .nop t g a => Sys2Proof.Machine.execNop t g a s
  | .tend t g a => Sys2Proof.Machine.execTend t g a s
  | .tyield t g a => Sys2Proof.Machine.execTyield t g a s
  | .loop t g a => Sys2Proof.Machine.execLoop t g a s
  | .lend t g a => Sys2Proof.Machine.execLend t g a s
  | .jmp t g a => Sys2Proof.Machine.execJmp t g a s
  | .rdid t g a => Sys2Proof.Machine.execRdid t g a s
  | .rdcyc t g a => Sys2Proof.Machine.execRdcyc t g a s
  | .haddr t g a => Sys2Proof.Machine.execHaddr t g a s
  | .hgen t g a => Sys2Proof.Machine.execHgen t g a s
  | .sstart t g a => Sys2Proof.Machine.execSstart t g a s
  | .sstop t g a => Sys2Proof.Machine.execSstop t g a s
  | .sstat t g a => Sys2Proof.Machine.execSstat t g a s
  | .row t g a => Sys2Proof.Machine.execRow t g a s
  | .rowOpComplete t ix corr badSrc => Sys2Proof.Machine.execRowOpComplete t ix corr badSrc s
  | .deskRequestGrant t reqs ecc => Sys2Proof.Machine.execDeskRequestGrant t reqs ecc s
  | .benchRequestGrant t reqs ecc => Sys2Proof.Machine.execBenchRequestGrant t reqs ecc s
  | .deskScrub t ecc => Sys2Proof.Machine.execDeskScrub t ecc s
  | .benchRefreshStep t => Sys2Proof.Machine.execBenchRefreshStep t s
  | .refreshIntervalHalve p temp => Sys2Proof.Machine.execRefreshIntervalHalve p temp s
  | .refreshIntervalRestore p temp => Sys2Proof.Machine.execRefreshIntervalRestore p temp s
  | .benchRowReplacement t row lost => Sys2Proof.Machine.execBenchRowReplacement t row lost s
  | .edgePatrolScrub ces ues => Sys2Proof.Machine.execEdgePatrolScrub ces ues s
  | .peptEntryWrite f n v => Sys2Proof.Machine.execPeptEntryWrite f n v s
  | .pageIn f n v => Sys2Proof.Machine.execPageIn f n v s
  | .edgeWindowWrite n v => Sys2Proof.Machine.execEdgeWindowWrite n v s
  | .meshEpochTick p => Sys2Proof.Machine.execMeshEpochTick p s
  | .bankSettlingEnd p => Sys2Proof.Machine.execBankSettlingEnd p s
  | .slotTableWrite t b o ix v => Sys2Proof.Machine.execSlotTableWrite t b o ix v s
  | .qbindWrite t k v => Sys2Proof.Machine.execQbindWrite t k v s
  | .circuitFlitInject t k slot bf16 => Sys2Proof.Machine.execCircuitFlitInject t k slot bf16 s
  | .circuitFlitForward ix => Sys2Proof.Machine.execCircuitFlitForward ix s
  | .circuitFlitDeliver ix => Sys2Proof.Machine.execCircuitFlitDeliver ix s
  | .creditReturn t k => Sys2Proof.Machine.execCreditReturn t k s
  | .packetHop ix dir => Sys2Proof.Machine.execPacketHop ix dir s
  | .packetEscape ix => Sys2Proof.Machine.execPacketEscape ix s
  | .write ix ecc => Sys2Proof.Machine.execWrite ix ecc s
  | .read ix ecc => Sys2Proof.Machine.execRead ix ecc s
  | .resp ix => Sys2Proof.Machine.execResp ix s
  | .packetQpush ix => Sys2Proof.Machine.execPacketQpush ix s
  | .mwrite ix ecc => Sys2Proof.Machine.execMwrite ix ecc s
  | .detourTableLoaded tree => Sys2Proof.Machine.execDetourTableLoaded tree s
  | .stallDeclare n at_ => Sys2Proof.Machine.execStallDeclare n at_ s
  | .spillRefill t k => Sys2Proof.Machine.execSpillRefill t k s
  | .spanFlitReceive p crcOk seq ack pkt => Sys2Proof.Machine.execSpanFlitReceive p crcOk seq ack pkt s
  | .spanReplayTimeout p => Sys2Proof.Machine.execSpanReplayTimeout p s
  | .spanLinkDown p => Sys2Proof.Machine.execSpanLinkDown p s
  | .spanLinkUp p lanes peer => Sys2Proof.Machine.execSpanLinkUp p lanes peer s
  | .spanNodeWrite f v => Sys2Proof.Machine.execSpanNodeWrite f v s
  | .streamCmdStart t d => Sys2Proof.Machine.execStreamCmdStart t d s
  | .streamCmdStop t d => Sys2Proof.Machine.execStreamCmdStop t d s
  | .streamIndexPop t d => Sys2Proof.Machine.execStreamIndexPop t d s
  | .streamTransferIssue t d ecc at_ => Sys2Proof.Machine.execStreamTransferIssue t d ecc at_ s
  | .streamTransferComplete t d ix ecc => Sys2Proof.Machine.execStreamTransferComplete t d ix ecc s
  | .streamRingNotify t d => Sys2Proof.Machine.execStreamRingNotify t d s
  | .streamRingCredit t d => Sys2Proof.Machine.execStreamRingCredit t d s
  | .streamHaltPost t d at_ => Sys2Proof.Machine.execStreamHaltPost t d at_ s
  | .haltPop f n => Sys2Proof.Machine.execHaltPop f n s
  | .pstrResume f n v at_ => Sys2Proof.Machine.execPstrResume f n v at_ s
  | .streamResume t d at_ => Sys2Proof.Machine.execStreamResume t d at_ s
  | .streamHaltTimeout t d at_ => Sys2Proof.Machine.execStreamHaltTimeout t d at_ s
  | .pqTailWrite f n j v => Sys2Proof.Machine.execPqTailWrite f n j v s
  | .pqQcfgWrite f n j v => Sys2Proof.Machine.execPqQcfgWrite f n j v s
  | .hostDmaDescriptorStart n j w0 w1 w2 w3 hostData hostErr ecc => Sys2Proof.Machine.execHostDmaDescriptorStart n j w0 w1 w2 w3 hostData hostErr ecc s
  | .hostDmaNotify n j ix => Sys2Proof.Machine.execHostDmaNotify n j ix s
  | .hostDmaWriteback n j => Sys2Proof.Machine.execHostDmaWriteback n j s
  | .dilate f n => Sys2Proof.Machine.execDilate f n s
  | .init f n => Sys2Proof.Machine.execInit f n s
  | .run f n => Sys2Proof.Machine.execRun f n s
  | .repair f n => Sys2Proof.Machine.execRepair f n s
  | .extract f n => Sys2Proof.Machine.execExtract f n s
  | .check f n => Sys2Proof.Machine.execCheck f n s
  | .abort f n => Sys2Proof.Machine.execAbort f n s
  | .sweepMessagePop t => Sys2Proof.Machine.execSweepMessagePop t s
  | .sweepRound t => Sys2Proof.Machine.execSweepRound t s
  | .sweepCommandEnd n => Sys2Proof.Machine.execSweepCommandEnd n s
  | .imgGo f => Sys2Proof.Machine.execImgGo f s
  | .imgAbort f => Sys2Proof.Machine.execImgAbort f s
  | .imgPrologueChecked p len started => Sys2Proof.Machine.execImgPrologueChecked p len started s
  | .imgShardArrive ix data len ok stored => Sys2Proof.Machine.execImgShardArrive ix data len ok stored s
  | .nvmeReadTimeout ix => Sys2Proof.Machine.execNvmeReadTimeout ix s
  | .nvmeConnectFail => Sys2Proof.Machine.execNvmeConnectFail s
  | .imgLoadDone => Sys2Proof.Machine.execImgLoadDone s
  | .imgResendRequest m ix => Sys2Proof.Machine.execImgResendRequest m ix s
  | .imgPeerReport m ok => Sys2Proof.Machine.execImgPeerReport m ok s
  | .ptpMessageReceive port head offset state rate at_ => Sys2Proof.Machine.execPtpMessageReceive port head offset state rate at_ s
  | .ptpHoldoverEntry at_ => Sys2Proof.Machine.execPtpHoldoverEntry at_ s
  | .timebaseEdge edges stable at_ => Sys2Proof.Machine.execTimebaseEdge edges stable at_ s
  | .indexPulse z stable at_ => Sys2Proof.Machine.execIndexPulse z stable at_ s
  | .historySample at_ => Sys2Proof.Machine.execHistorySample at_ s
  | .encoderLoss b at_ => Sys2Proof.Machine.execEncoderLoss b at_ s
  | .coastExpiry b at_ => Sys2Proof.Machine.execCoastExpiry b at_ s
  | .timetableService n at_ => Sys2Proof.Machine.execTimetableService n at_ s
  | .triggerPulseStart n e item at_ => Sys2Proof.Machine.execTriggerPulseStart n e item at_ s
  | .triggerPulseEnd o at_ => Sys2Proof.Machine.execTriggerPulseEnd o at_ s
  | .rearm f n v => Sys2Proof.Machine.execRearm f n v s
  | .queryTime f v => Sys2Proof.Machine.execQueryTime f v s
  | .adjust f b v => Sys2Proof.Machine.execAdjust f b v s
  | .ethFrameReceive p bytes k fcsOk fecFixed fecBad => Sys2Proof.Machine.execEthFrameReceive p bytes k fcsOk fecFixed fecBad s
  | .ethLinkChange p up lanes => Sys2Proof.Machine.execEthLinkChange p up lanes s
  | .prtModeWrite f p v => Sys2Proof.Machine.execPrtModeWrite f p v s
  | .ingressPacket p d from_ at_ => Sys2Proof.Machine.execIngressPacket p d from_ at_ s
  | .frameTimeout ix at_ => Sys2Proof.Machine.execFrameTimeout ix at_ s
  | .ledgerSubmit ix ecc => Sys2Proof.Machine.execLedgerSubmit ix ecc s
  | .ledgerAccept n at_ => Sys2Proof.Machine.execLedgerAccept n at_ s
  | .ldpSend e at_ => Sys2Proof.Machine.execLdpSend e at_ s
  | .ldpAck e port srcIp srcUdp dstUdp len data => Sys2Proof.Machine.execLdpAck e port srcIp srcUdp dstUdp len data s
  | .ldpRetransmitTimeout e seq at_ => Sys2Proof.Machine.execLdpRetransmitTimeout e seq at_ s
  | .partnerSilent e at_ => Sys2Proof.Machine.execPartnerSilent e at_ s
  | .shaperRefill at_ => Sys2Proof.Machine.execShaperRefill at_ s
  | .shaperRateWrite f e v => Sys2Proof.Machine.execShaperRateWrite f e v s
  | .shaperBurstWrite f e v => Sys2Proof.Machine.execShaperBurstWrite f e v s
  | .forgive f v => Sys2Proof.Machine.execForgive f v s
  | .ledgerPoolWrite f v => Sys2Proof.Machine.execLedgerPoolWrite f v s
  | .ledgerCapacityWrite f n v => Sys2Proof.Machine.execLedgerCapacityWrite f n v s
  | .supplyLow mv at_ => Sys2Proof.Machine.execSupplyLow mv at_ s
  | .supplyLowEnd mv at_ => Sys2Proof.Machine.execSupplyLowEnd mv at_ s
  | .powerFail mv at_ => Sys2Proof.Machine.execPowerFail mv at_ s
  | .overvolt mv at_ => Sys2Proof.Machine.execOvervolt mv at_ s
  | .overvoltEnd mv at_ => Sys2Proof.Machine.execOvervoltEnd mv at_ s
  | .overvoltIsolate mv at_ => Sys2Proof.Machine.execOvervoltIsolate mv at_ s
  | .supplyRestored mv at_ => Sys2Proof.Machine.execSupplyRestored mv at_ s
  | .droopStepUp p mv at_ => Sys2Proof.Machine.execDroopStepUp p mv at_ s
  | .droopStepDown p mv at_ => Sys2Proof.Machine.execDroopStepDown p mv at_ s
  | .plainDroop p at_ => Sys2Proof.Machine.execPlainDroop p at_ s
  | .pwrCtrlWrite f v => Sys2Proof.Machine.execPwrCtrlWrite f v s
  | .armEvaluate energy est at_ => Sys2Proof.Machine.execArmEvaluate energy est at_ s
  | .packCapacityMeasure cap at_ => Sys2Proof.Machine.execPackCapacityMeasure cap at_ s
  | .packFault => Sys2Proof.Machine.execPackFault s
  | .packLatchOpen => Sys2Proof.Machine.execPackLatchOpen s
  | .keepRecount n => Sys2Proof.Machine.execKeepRecount n s
  | .backupFreezeComplete at_ => Sys2Proof.Machine.execBackupFreezeComplete at_ s
  | .backupHeld at_ => Sys2Proof.Machine.execBackupHeld at_ s
  | .backupOpenRecord at_ => Sys2Proof.Machine.execBackupOpenRecord at_ s
  | .backupWriteComplete fails at_ => Sys2Proof.Machine.execBackupWriteComplete fails at_ s
  | .backupCommit energy at_ => Sys2Proof.Machine.execBackupCommit energy at_ s
  | .packEnergyExhausted at_ => Sys2Proof.Machine.execPackEnergyExhausted at_ s
  | .restorePhaseComplete phase n lost rebuilt at_ => Sys2Proof.Machine.execRestorePhaseComplete phase n lost rebuilt at_ s
  | .restoreExit energy at_ => Sys2Proof.Machine.execRestoreExit energy at_ s
  | .chstRelease f v => Sys2Proof.Machine.execChstRelease f v s
  | .chestUtailWrite f v => Sys2Proof.Machine.execChestUtailWrite f v s
  | .chestUcfgWrite f v => Sys2Proof.Machine.execChestUcfgWrite f v s
  | .chestErase w0 w1 w2 w3 pass => Sys2Proof.Machine.execChestErase w0 w1 w2 w3 pass s
  | .chestProgram w0 w1 w2 w3 data hostErr pass => Sys2Proof.Machine.execChestProgram w0 w1 w2 w3 data hostErr pass s
  | .chestRead w0 w1 w2 w3 step corrected bits_ hostErr => Sys2Proof.Machine.execChestRead w0 w1 w2 w3 step corrected bits_ hostErr s
  | .chestInfo w0 w1 w2 w3 hostErr => Sys2Proof.Machine.execChestInfo w0 w1 w2 w3 hostErr s
  | .chestWriteback => Sys2Proof.Machine.execChestWriteback s
  | .chestBackgroundEraseComplete image k fails stripes => Sys2Proof.Machine.execChestBackgroundEraseComplete image k fails stripes s
  | .chestRefreshRewrite steps corrected => Sys2Proof.Machine.execChestRefreshRewrite steps corrected s
  | .chestZoneWrite f v clash => Sys2Proof.Machine.execChestZoneWrite f v clash s
  | .fwUpdate f => Sys2Proof.Machine.execFwUpdate f s
  | .fwUpdateStepComplete pro len ok => Sys2Proof.Machine.execFwUpdateStepComplete pro len ok s
  | .fwRestart f => Sys2Proof.Machine.execFwRestart f s
  | .fwTrialConfirm at_ => Sys2Proof.Machine.execFwTrialConfirm at_ s
  | .keeperWatchdogExpiry at_ => Sys2Proof.Machine.execKeeperWatchdogExpiry at_ s
  | .keeperLockstepError at_ => Sys2Proof.Machine.execKeeperLockstepError at_ s
  | .keeperUp ok0 ok1 unwrap copyA copyB at_ => Sys2Proof.Machine.execKeeperUp ok0 ok1 unwrap copyA copyB at_ s
  | .faultClear f page => Sys2Proof.Machine.execFaultClear f page s
  | .faultReactWrite f page v => Sys2Proof.Machine.execFaultReactWrite f page v s
  | .faultOverrideWrite f v => Sys2Proof.Machine.execFaultOverrideWrite f v s
  | .partitionRecovery n at_ => Sys2Proof.Machine.execPartitionRecovery n at_ s
  | .stickyClear f n => Sys2Proof.Machine.execStickyClear f n s
  | .haltedClear f => Sys2Proof.Machine.execHaltedClear f s
  | .coldStart mv rtc at_ => Sys2Proof.Machine.execColdStart mv rtc at_ s
  | .controlBlockUp r => Sys2Proof.Machine.execControlBlockUp r s
  | .plainGroupPowerUp g fails at_ => Sys2Proof.Machine.execPlainGroupPowerUp g fails at_ s
  | .passTrainingComplete at_ => Sys2Proof.Machine.execPassTrainingComplete at_ s
  | .edgeTrainingComplete fails at_ => Sys2Proof.Machine.execEdgeTrainingComplete fails at_ s
  | .kFieldsLoaded at_ => Sys2Proof.Machine.execKFieldsLoaded at_ s
  | .moduleReady rtc at_ => Sys2Proof.Machine.execModuleReady rtc at_ s
  | .idleHoldRequest f => Sys2Proof.Machine.execIdleHoldRequest f s
  | .benchRetainRequest f key => Sys2Proof.Machine.execBenchRetainRequest f key s
  | .runRequest f at_ => Sys2Proof.Machine.execRunRequest f at_ s
  | .benchRetainEntered at_ => Sys2Proof.Machine.execBenchRetainEntered at_ s
  | .idleHoldExitComplete at_ => Sys2Proof.Machine.execIdleHoldExitComplete at_ s
  | .doeDiscovery index => Sys2Proof.Machine.execDoeDiscovery index s
  | .getVersion => Sys2Proof.Machine.execGetVersion s
  | .getCapabilities => Sys2Proof.Machine.execGetCapabilities s
  | .negotiateAlgorithms p384 sha384 => Sys2Proof.Machine.execNegotiateAlgorithms p384 sha384 s
  | .getDigests => Sys2Proof.Machine.execGetDigests s
  | .getCertificate slot off len => Sys2Proof.Machine.execGetCertificate slot off len s
  | .spdmChallenge slot transcript => Sys2Proof.Machine.execSpdmChallenge slot transcript s
  | .getMeasurements index signed transcript => Sys2Proof.Machine.execGetMeasurements index signed transcript s
  | .spdmUnsupportedRequest => Sys2Proof.Machine.execSpdmUnsupportedRequest s
  | .rekey f v => Sys2Proof.Machine.execRekey f v s
  | .rekeyComplete at_ => Sys2Proof.Machine.execRekeyComplete at_ s
  | .imgkeyProgram f slot => Sys2Proof.Machine.execImgkeyProgram f slot s
  | .imgkeyRevoke f slot key => Sys2Proof.Machine.execImgkeyRevoke f slot key s
  | .jtagChallenge f at_ => Sys2Proof.Machine.execJtagChallenge f at_ s
  | .jtagVerify f scope at_ => Sys2Proof.Machine.execJtagVerify f scope at_ s
  | .jtagRelock f => Sys2Proof.Machine.execJtagRelock f s
  | .jtagNonceExpiry at_ => Sys2Proof.Machine.execJtagNonceExpiry at_ s
  | .rxFaultDetect ix vid vcm at_ => Sys2Proof.Machine.execRxFaultDetect ix vid vcm at_ s
  | .rxFaultClear ix vid vcm at_ => Sys2Proof.Machine.execRxFaultClear ix vid vcm at_ s
  | .thermalWarn p temp at_ => Sys2Proof.Machine.execThermalWarn p temp at_ s
  | .thermalCrit p temp at_ => Sys2Proof.Machine.execThermalCrit p temp at_ s
  | .thermalHardwareTrip p temp at_ => Sys2Proof.Machine.execThermalHardwareTrip p temp at_ s
  | .coolantFlow flow inlet outlet drop at_ => Sys2Proof.Machine.execCoolantFlow flow inlet outlet drop at_ s
  | .coolantTemp flow inlet outlet drop at_ => Sys2Proof.Machine.execCoolantTemp flow inlet outlet drop at_ s
  | .thermalFaultClear p temp flow inlet outlet drop at_ => Sys2Proof.Machine.execThermalFaultClear p temp flow inlet outlet drop at_ s
  | .smbusStatus => Sys2Proof.Machine.execSmbusStatus s
  | .smbusIdHash => Sys2Proof.Machine.execSmbusIdHash s
  | .smbusSupply => Sys2Proof.Machine.execSmbusSupply s
  | .smbusTemps => Sys2Proof.Machine.execSmbusTemps s
  | .smbusCoolant => Sys2Proof.Machine.execSmbusCoolant s
  | .smbusFault => Sys2Proof.Machine.execSmbusFault s
  | .smbusAlertResponse adr => Sys2Proof.Machine.execSmbusAlertResponse adr s
  | .smbusUnknownCommand code => Sys2Proof.Machine.execSmbusUnknownCommand code s
  | .supplyDipEnd lowest mv at_ => Sys2Proof.Machine.execSupplyDipEnd lowest mv at_ s
  | .packLatchClose => Sys2Proof.Machine.execPackLatchClose s
  | .vioChange present => Sys2Proof.Machine.execVioChange present s
  | .jtagTapInstruction ix trst => Sys2Proof.Machine.execJtagTapInstruction ix trst s
  | .pcieError => Sys2Proof.Machine.execPcieError s
  | .channelFail c => Sys2Proof.Machine.execChannelFail c s
  | .managementResetComplete => Sys2Proof.Machine.execManagementResetComplete s

end Sys2Proof.Machine
end

