-- ==== Sys2Proof/Machine/Step.lean ====
section
/-! DEFINITION. A step of the block: the command at the front of the queue, or a tick of time. -/

namespace Sys2Proof.Machine

/-- One step: the command that has waited longest runs; with none waiting, time passes. [entries 1 DESIGN CHOICE, 3 DESIGN CHOICE] -/
def step (s : State) : Host.Outcome State Fault Refusal :=
  match s.pending with
  | c :: rest => exec c { s with pending := rest }
  | [] => .next s.tick

/-- The state with a command put at the front of its queue. -/
def State.front (s : State) (c : Instr) : State := { s with pending := c :: s.pending }

/-- The state with the command that a word spells at the front of its queue. The opcode table gives no row any bits, so no
word spells one. [entry 5 DESIGN CHOICE] -/
def State.withFetchWord (s : State) (nbits w : Nat) : State :=
  match Sys2Proof.decodeTableWord nbits w with
  | some c => s.front c
  | none => s

end Sys2Proof.Machine
end

