-- ==== Sys2Proof/Safety.lean ====
section
/-! DEFINITION. The words in which the statements are made: what is kept from one state to the next, when a tile's core
issues an instruction, and the invariants. -/

namespace Sys2Proof.Machine

/-! ### What is kept -/

/-- Every register field but those listed reads as before. -/
def RegsKept (s t : State) (l : List Fk) : Prop := ∀ k : Fk, (∀ j ∈ l, j.key ≠ k.key) → t.rf k = s.rf k

/-- Every byte of memory reads as before. -/
def BytesKept (s t : State) : Prop := ∀ a, t.byte a = s.byte a

/-- Every byte outside the `n` bytes from key `k` reads as before. -/
def BytesKeptBut (s t : State) (k n : Nat) : Prop := ∀ a, ¬(k ≤ a ∧ a < k + n) → t.byte a = s.byte a

/-- Every tile but `t` is as before. -/
def OtherTilesKept (s s' : State) (t : Nat) : Prop := ∀ u, u ≠ t → s'.tile u = s.tile u

/-- Nothing changed but register fields, and of those only the ones listed. -/
def OnlyRegs (s t : State) (l : List Fk) : Prop := t = { s with fld := t.fld } ∧ RegsKept s t l

/-! ### A core that issues -/

/-- The core of tile `t` issues for task `k`: the tile and the task are ones of the 262,144 and the 16 that exist, the task runs,
its program counter is in range, and the word there is not marked damaged (R89, R126, R134). -/
def CoreReady (s : State) (t k : Nat) : Prop :=
  t < 262144 ∧ k < 16 ∧ s.running t = some k ∧ s.rf (TILE_TASK_STATE_PC t k) ≤ 6143 ∧
    (s.tile t).damaged (s.rf (TILE_TASK_STATE_PC t k)) = false

/-- The instruction completed: the program counter is on the next one. -/
def State.retire (s : State) (t k : Nat) : State :=
  s.setPc t k (s.rf (TILE_TASK_STATE_PC t k) + 1)

/-- The guard of an instruction that is one bit is true (R94). -/
def State.guardOn (s : State) (t k : Nat) (g : Guard) : Prop := ((s.tile t).guard k g).testBit 0 = true

/-- The register fields that an F instruction may write: its program counter and the number flags. -/
def fFields (t k : Nat) : List Fk :=
  [TILE_TASK_STATE_PC t k, TILE_FLAGS_INVALID t, TILE_FLAGS_OVERFLOW t, TILE_FLAGS_SATURATE t, TILE_FLAGS_UNDERFLOW t]

/-- An F instruction that computes element by element: its command, the fields that its opcode uses, and the result of
one element from its type and the elements of RA, RB (or IMM) and RC. -/
structure FRow where
  ins : Nat → Guard → FArgs → Instr
  sp : FSpec
  el : Nat → Nat → Nat → Nat → Nat × NFlags

/-- The elementwise instructions of Table IS-4: ADD, SUB, MUL, MULH, AND, OR, XOR, ANDN, SHL, SHR, MIN, MAX, ADDS, SUBS,
ABS, MOV, FADD, FSUB, FMUL, FMIN, FMAX, FNEG, FABS, FMA. -/
def fRows : List FRow :=
  [⟨.add, fsInt2, fun t x y _ => elAdd t x y⟩, ⟨.sub, fsInt2, fun t x y _ => elSub t x y⟩,
   ⟨.mul, fsInt2, fun t x y _ => elMul t x y⟩, ⟨.mulh, fsInt2, fun t x y _ => elMulh t x y⟩,
   ⟨.and, fsInt2, fun t x y _ => elAnd t x y⟩, ⟨.or, fsInt2, fun t x y _ => elOr t x y⟩,
   ⟨.xor, fsInt2, fun t x y _ => elXor t x y⟩, ⟨.andn, fsInt2, fun t x y _ => elAndn t x y⟩,
   ⟨.shl, fsInt2, fun t x y _ => elShl t x y⟩, ⟨.shr, fsInt2, fun t x y _ => elShr t x y⟩,
   ⟨.min, fsInt2, fun t x y _ => elMin t x y⟩, ⟨.max, fsInt2, fun t x y _ => elMax t x y⟩,
   ⟨.adds, fsInt2, fun t x y _ => elAdds t x y⟩, ⟨.subs, fsInt2, fun t x y _ => elSubs t x y⟩,
   ⟨.abs, fsInt1, fun t x _ _ => elAbs t x⟩, ⟨.mov, fsMov, fun _ _ y _ => (y, {})⟩,
   ⟨.fadd, fsFlt2, fun t x y _ => elFadd t x y⟩, ⟨.fsub, fsFlt2, fun t x y _ => elFsub t x y⟩,
   ⟨.fmul, fsFlt2, fun t x y _ => elFmul t x y⟩, ⟨.fmin, fsFlt2, fun t x y _ => elFmin t x y⟩,
   ⟨.fmax, fsFlt2, fun t x y _ => elFmax t x y⟩, ⟨.fneg, fsFlt1, fun t x _ _ => elFneg t x⟩,
   ⟨.fabs, fsFlt1, fun t x _ _ => elFabs t x⟩, ⟨.fma, fsFma, elFma⟩]

/-- The compares of Table IS-4: CMPEQ, CMPNE, CMPLT, CMPLE. -/
def cmpRows : List ((Nat → Guard → FArgs → Instr) × (Nat → Nat → Nat → Bool)) :=
  [(.cmpeq, elCmpEq), (.cmpne, elCmpNe), (.cmplt, elCmpLt), (.cmple, elCmpLe)]

/-- PAND, POR, PXOR and PNOT of Table IS-4. -/
def predRows : List ((Nat → Guard → FArgs → Instr) × FSpec × (W32 → W32 → W32)) :=
  [(.pand, fsPred2, fun x y => x &&& y), (.por, fsPred2, fun x y => x ||| y), (.pxor, fsPred2, fun x y => x ^^^ y),
   (.pnot, fsPnot, fun x _ => ~~~x)]

/-! ### Invariants -/

/-- Memory is in its canonical form. -/
def MemOk (s : State) : Prop := Memory.wf s.mem = true

end Sys2Proof.Machine
end

