-- ==== Sys2Proof/Certificates/Slice0/Obligations.lean ====
section
/-! DEFINITION. The statements: what the rules of the spec say of the commands. -/

open Sys2Proof Sys2Proof.Machine

/-! ### The block -/

/-- O1. A step with a command waiting is that command's effect on the state without it. With none waiting a step is a tick
(the model's choice, entry 3): while the module has not started nothing changes; after that time advances by 320 ns; and in
every case memory, the queue of commands, what the part has put out, and the partitions' and plains' states stay. Rests in
part on the model's own choices and readings: entries 1, 3 of the assumption log. -/
def Obligations.StepTakesFront : Prop :=
  (∀ (s : State) (c : Instr) (rest : List Instr), step { s with pending := c :: rest } = exec c { s with pending := rest }) ∧
  ∀ s : State, s.pending = [] →
    step s = .next s.tick ∧
    (s.keeper.phase = 0 → s.tick = s) ∧
    (s.keeper.phase ≠ 0 → s.tick.time = s.time + 320) ∧
    BytesKept s s.tick ∧ s.tick.pending = [] ∧ s.tick.out = s.out ∧ s.tick.tiles = s.tiles ∧
    (∀ n, n < 16 → s.tick.pst n = s.pst n) ∧ (∀ p, p < 64 → s.tick.plnState p = s.plnState p)

/-- O2. Every command has an effect: no command stops the machine. Rests in part on the model's own choices and readings:
entry 2 of the assumption log. -/
def Obligations.ExecAnswersNext : Prop := ∀ (i : Instr) (s : State), ∃ t, exec i s = .next t

/-- O3. Memory in canonical form before a step is in canonical form after it. Rests in part on the model's own choices and
readings: entry 11 of the assumption log. -/
def Obligations.MemoryStaysCanonical : Prop :=
  ∀ s t : State, MemOk s → step s = .next t → MemOk t

/-- O4. The module without power (Table RS-3): memory holds nothing and is canonical, no command waits, every register field
reads its Reset column, so every plain is OFF, every partition EMPTY and no page READY; and a free value or a kept value of
the model stands nowhere in it. Rests in part on the model's own choices and readings: entries 11, 12, 14 of the assumption
log. -/
def Obligations.ResetState : Prop :=
  MemOk State.reset ∧ State.reset.pending = [] ∧ (∀ a, State.reset.byte a = 0) ∧
    (∀ k : Fk, State.reset.rf k = keyReset k.key) ∧
    (∀ p, p < 64 → State.reset.plnState p = 4) ∧ (∀ n, n < 16 → State.reset.pst n = psEMPTY) ∧
    State.reset.out = [] ∧ State.reset.net = [] ∧ State.reset.flits = []

/-- O5. Register fields, shadows and bytes are stores: a write is read back, clipped to the field's width, and leaves every
other field and byte as it was; s0 reads 0, p0 reads all ones, and writes to them are discarded. -/
def Obligations.StoresAreStores : Prop :=
  (∀ (s : State) (k : Fk) (v : Nat), (s.wf k v).rf k = v % 2 ^ k.w) ∧
  (∀ (s : State) (k : Fk) (v : Nat), OnlyRegs s (s.wf k v) [k]) ∧
  (∀ (s : State) (k n v : Nat), (s.wrMem k n v).rdMem k n = v % 256 ^ n) ∧
  (∀ (s : State) (k n v : Nat), BytesKeptBut s (s.wrMem k n v) k n) ∧
  (∀ (s : State) (t u : Nat) (x : Tile), (s.setTile t x).tile u = if u = t then x else s.tile u) ∧
  (∀ x : Tile, x.sreg 0 = 0) ∧ (∀ (x : Tile) (v : W32), x.wsreg 0 v = x) ∧
  (∀ (x : Tile) (k : Nat), x.pred k 0 = BitVec.allOnes 32) ∧ (∀ (x : Tile) (k : Nat) (v : W32), x.wpred k 0 v = x) ∧
  (∀ (x : Tile) (r q : Nat) (v : W32), r ≠ 0 → (x.wsreg r v).sreg q = if q = r then v else x.sreg q)

/-! ### Tile instruction words -/

/-- O6. Every F instruction whose fields decode is read back from its word, with every operand (immediate fields are zero
where they are not used, so that the operands are those of a word). -/
def Obligations.DecodeEncodeF : Prop :=
  ∀ (op : Nat) (r : FSpec × (Nat → Guard → FArgs → Instr)), fOp op = some r →
  ∀ (t pc : Nat) (pd : Bool) (g : Guard) (a : FArgs), fDecodes r.1 a = true →
    (if a.i = 1 then a.rb = 0 ∧ a.rc = 0 ∧ a.ts = 0 ∧ a.scale = 0 else a.imm = 0) →
    decodeTile t pc pd (encF op g a) = some (r.2 t g a)

/-- O7. Every M, Q, X, C and S instruction whose fields decode is read back from its word, with every operand. -/
def Obligations.DecodeEncodeOther : Prop :=
  (∀ (op : Nat) (a : MArgs) (mk : Nat → Guard → MArgs → Instr), mOp op a = some (true, mk) →
    ∀ (t pc : Nat) (pd : Bool) (g : Guard), decodeTile t pc pd (encM op g a) = some (mk t g a)) ∧
  (∀ (op : Nat) (a : QArgs) (mk : Nat → Guard → QArgs → Instr), qOp op a = some (true, mk) →
    ∀ (t pc : Nat) (pd : Bool) (g : Guard), decodeTile t pc pd (encQ op g a) = some (mk t g a)) ∧
  (∀ (op : Nat) (a : XArgs) (pd : Bool) (mk : Nat → Guard → XArgs → Instr), xOp op a pd = some (true, mk) →
    ∀ (t pc : Nat) (g : Guard), decodeTile t pc pd (encX op g a) = some (mk t g a)) ∧
  (∀ (op : Nat) (g : Guard) (a : CArgs) (pc : Nat) (mk : Nat → Guard → CArgs → Instr), cOp op g a pc = some (true, mk) →
    ∀ (t : Nat) (pd : Bool), decodeTile t pc pd (encC op g a) = some (mk t g a)) ∧
  (∀ (op : Nat) (a : SArgs) (mk : Nat → Guard → SArgs → Instr), sOp op a = some (true, mk) →
    ∀ (t pc : Nat) (pd : Bool) (g : Guard), decodeTile t pc pd (encS op g a) = some (mk t g a))

/-- O8. No bit of a word that decodes is lost: its instruction's word is that word again. -/
def Obligations.EncodeDecode : Prop :=
  ∀ (t pc : Nat) (pd : Bool) (w : BitVec 64) (i : Instr), decodeTile t pc pd w = some i → tileWord i = some w

/-- O9. The words of the worked example of chapter 05 decode to its instructions, in tile 0. -/
def Obligations.WorkedExampleWords : Prop :=
  decodeTile 0 100 false 0x0000000100000003 = some (.mldw 0 {} { rb := 4 }) ∧
  decodeTile 0 101 false 0x0000C80350071004 = some (.loop 0 {} { rc := 7, target := 106, count := 200 }) ∧
  decodeTile 0 102 false 0x0000000016010103 = some (.mma 0 {} { acc := 1, za := 1, dq := 1, qa := 2 }) ∧
  decodeTile 0 103 false 0x0001200004010A03 = some (.msta 0 {} { acc := 1, dq := 1, t := 9 }) ∧
  decodeTile 0 106 false 0x0000000330071104 = some (.lend 0 {} { rc := 7, target := 102 }) ∧
  decodeTile 0 107 false 0x0000000000000104 = some (.tend 0 {} {})

/-- O10. A word that does not decode raises ILLEGAL_INSTRUCTION whatever its guard: the task stops with its program counter
on it, FAULTED, and the fault is raised on the tile's page. A format above 5, or a set bit 7, never decodes; nor does a
C-format word whose GP or GN is not 0 (R111). -/
def Obligations.IllegalInstructionFaults : Prop :=
  (∀ (s : State) (t k : Nat) (w : BitVec 64), CoreReady s t k →
    decodeTile t (s.rf (TILE_TASK_STATE_PC t k)) ((s.gang t).testBit 11) w = none →
    exec (.illegalInstruction t w) s = .next (s.taskFault t k 0x1001)) ∧
  (∀ (t pc : Nat) (pd : Bool) (w : BitVec 64), 6 ≤ (fld64 w 0 3).toNat → decodeTile t pc pd w = none) ∧
  (∀ (t pc : Nat) (pd : Bool) (w : BitVec 64), fld64 w 7 1 ≠ 0 → decodeTile t pc pd w = none) ∧
  (∀ (t pc : Nat) (pd : Bool) (w : BitVec 64), fld64 w 0 3 = 4 → fld64 w 3 4 ≠ 0 → decodeTile t pc pd w = none)

/-! ### Format F -/

/-- O11. The scalar form of the elementwise instructions ADD, SUB, MUL, MULH, AND, OR, XOR, ANDN, SHL, SHR, MIN, MAX, ADDS,
SUBS, ABS, MOV, FADD, FSUB, FMUL, FMIN, FMAX, FNEG, FABS and FMA: with a true guard RD takes the result of the operation on
RA, RB or IMM, and RC, the flags of the result are set, and the next instruction follows; with a false guard only the
program counter moves. -/
def Obligations.ScalarArithmetic : Prop :=
  ∀ r ∈ fRows, ∀ (s : State) (t k : Nat) (g : Guard) (a : FArgs), CoreReady s t k → fDecodes r.sp a = true → a.kind = 0 →
    let x := s.tile t
    let b := if a.i = 1 then a.imm.toNat % 2 ^ tyBits a.t.toNat else (x.sreg a.rb.toNat).toNat
    let v := r.el a.t.toNat (x.sreg a.ra.toNat).toNat b (x.sreg a.rc.toNat).toNat
    (s.guardOn t k g → exec (r.ins t g a) s =
      .next (((s.updTile t fun x => x.wsreg a.rd.toNat (BitVec.ofNat 32 v.1)).setFlags t v.2).retire t k)) ∧
    (¬ s.guardOn t k g → exec (r.ins t g a) s = .next (s.retire t k))

/-- O12. The vector form of the same instructions: element e of RD becomes the result on the elements e of the sources where
the guard's bit at the element's lowest byte is true, and keeps its value elsewhere; no other register of the tile changes.
-/
def Obligations.VectorArithmetic : Prop :=
  ∀ r ∈ fRows, ∀ (s : State) (t k : Nat) (g : Guard) (a : FArgs), CoreReady s t k → fDecodes r.sp a = true → a.kind = 1 →
    ∃ s', exec (r.ins t g a) s = .next s' ∧
      let x := s.tile t
      let w := tyBits a.t.toNat
      (∀ e, e < 256 / w → elGet ((s'.tile t).vreg a.rd.toNat).toNat w e =
        if (x.guard k g).testBit (e * w / 8) then
          (r.el a.t.toNat (elGet (x.vreg a.ra.toNat).toNat w e)
            (if a.i = 1 then a.imm.toNat % 2 ^ w else elGet (x.vreg a.rb.toNat).toNat w e)
            (elGet (x.vreg a.rc.toNat).toNat w e)).1 % 2 ^ w
        else elGet (x.vreg a.rd.toNat).toNat w e) ∧
      s'.rf (TILE_TASK_STATE_PC t k) = s.rf (TILE_TASK_STATE_PC t k) + 1 ∧
      (∀ q, q ≠ a.rd.toNat → (s'.tile t).vreg q = x.vreg q) ∧ (s'.tile t).sregs = x.sregs

/-- O13. The frame of the elementwise instructions, scalar and vector: memory, every other tile, the predicates, queues and
accumulators of the tile, every register field but the program counter of the task and the four number flags, and everything
else of the module stay; of the instruction buffer only the order of use changes, the group issued from coming first. -/
def Obligations.ArithmeticFrame : Prop :=
  ∀ r ∈ fRows, ∀ (s s' : State) (t k : Nat) (g : Guard) (a : FArgs), CoreReady s t k → fDecodes r.sp a = true →
    exec (r.ins t g a) s = .next s' →
    s' = { s with fld := s'.fld, tiles := s'.tiles } ∧ RegsKept s s' (fFields t k) ∧ BytesKept s s' ∧ OtherTilesKept s s' t ∧
    s'.tile t = { (s.tile t).useGroup (s.rf (TILE_TASK_STATE_PC t k) / 4) with
      sregs := (s'.tile t).sregs, vregs := (s'.tile t).vregs } ∧
    (∀ q, q ≠ a.rd.toNat → (s'.tile t).sreg q = (s.tile t).sreg q)

/-- O14. Integer results by value (R112, R113): sums, differences and products agree modulo 2^w and set no flag; ADDS and
SUBS clamp to the type and set SATURATE exactly when they clamp; MIN and MAX order by the type; ABS leaves the least signed
value unchanged; SHR of a signed value rounds towards minus infinity. -/
def Obligations.IntegerValues : Prop :=
  ∀ ty, ty ≤ 5 → ∀ a b, a < 2 ^ tyBits ty → b < 2 ^ tyBits ty →
    let A := tyInt ty a; let B := tyInt ty b; let m : Int := 2 ^ tyBits ty
    let lo := (tyRange ty).1; let hi := (tyRange ty).2
    (tyInt ty (elAdd ty a b).1 - (A + B)) % m = 0 ∧ (tyInt ty (elSub ty a b).1 - (A - B)) % m = 0 ∧
    (tyInt ty (elMul ty a b).1 - A * B) % m = 0 ∧
    (elAdd ty a b).2 = {} ∧ (elSub ty a b).2 = {} ∧ (elMul ty a b).2 = {} ∧
    tyInt ty (elAdds ty a b).1 = max lo (min hi (A + B)) ∧ ((elAdds ty a b).2.sat = true ↔ A + B < lo ∨ hi < A + B) ∧
    tyInt ty (elSubs ty a b).1 = max lo (min hi (A - B)) ∧ ((elSubs ty a b).2.sat = true ↔ A - B < lo ∨ hi < A - B) ∧
    tyInt ty (elMin ty a b).1 = min A B ∧ tyInt ty (elMax ty a b).1 = max A B ∧
    tyInt ty (elAbs ty a).1 = (if tySigned ty = true ∧ A = lo then lo else (A.natAbs : Int)) ∧
    tyInt ty (elShr ty a b).1 = A / 2 ^ (b % tyBits ty)

/-- O15. The compares CMPEQ, CMPNE, CMPLT, CMPLE write predicate RD: a scalar compare all 32 bits, a vector compare every
bit of each guarded element's bytes; PAND, POR, PXOR and PNOT combine predicates bit by bit; PFROMS and SFROMP copy all 32
bits. Nothing else of the tile changes but the program counter. -/
def Obligations.Predicates : Prop :=
  ∀ (s : State) (t k : Nat) (g : Guard) (a : FArgs), CoreReady s t k →
    let x := s.tile t
    (∀ c ∈ cmpRows, fDecodes fsCmp a = true → a.kind = 0 → s.guardOn t k g →
      exec (c.1 t g a) s = .next ((s.updTile t fun x => x.wpred k a.rd.toNat
        (if c.2 a.t.toNat (x.sreg a.ra.toNat).toNat
            (if a.i = 1 then a.imm.toNat % 2 ^ tyBits a.t.toNat else (x.sreg a.rb.toNat).toNat)
          then BitVec.allOnes 32 else 0)).retire t k)) ∧
    (∀ c ∈ cmpRows, fDecodes fsCmp a = true → a.kind = 1 → a.rd ≠ 0 →
      ∃ s', exec (c.1 t g a) s = .next s' ∧
        let w := tyBits a.t.toNat
        (∀ e, e < 256 / w → ∀ j, e * w / 8 ≤ j → j < (e + 1) * w / 8 →
          ((s'.tile t).pred k a.rd.toNat).toNat.testBit j =
            if (x.guard k g).testBit (e * w / 8) then
              c.2 a.t.toNat (elGet (x.vreg a.ra.toNat).toNat w e)
                (if a.i = 1 then a.imm.toNat % 2 ^ w else elGet (x.vreg a.rb.toNat).toNat w e)
            else (x.pred k a.rd.toNat).toNat.testBit j)) ∧
    (∀ c ∈ predRows, fDecodes c.2.1 a = true → s.guardOn t k g →
      exec (c.1 t g a) s = .next ((s.updTile t fun y => y.wpred k a.rd.toNat
        (c.2.2 (x.pred k a.ra.toNat) (if a.i = 1 then a.imm else x.pred k a.rb.toNat))).retire t k)) ∧
    (fDecodes fsPfroms a = true → s.guardOn t k g →
      exec (.pfroms t g a) s = .next ((s.updTile t fun x => x.wpred k a.rd.toNat (x.sreg a.ra.toNat)).retire t k)) ∧
    (fDecodes fsSfromp a = true → s.guardOn t k g →
      exec (.sfromp t g a) s = .next ((s.updTile t fun x => x.wsreg a.rd.toNat (x.pred k a.ra.toNat)).retire t k))

/-- O16. SEL, CVT, REDADD, REDMAX, VBCAST, VEXT and VINS: SEL takes RA where predicate RC is true; CVT of a scalar converts
the low bits of RA; the reductions take the elements whose bit of predicate RC is true; VBCAST fills the vector; VEXT and
VINS move one element. Rests in part on the model's own choices and readings: entry 22 of the assumption log. -/
def Obligations.SelectConvertReduce : Prop :=
  ∀ (s : State) (t k : Nat) (g : Guard) (a : FArgs), CoreReady s t k → s.guardOn t k g →
    let x := s.tile t
    let ty := a.t.toNat
    let w := tyBits ty
    (fDecodes fsSel a = true → a.kind = 0 → exec (.sel t g a) s =
      .next ((s.updTile t fun y => y.wsreg a.rd.toNat
        (if (x.pred k a.rc.toNat).toNat.testBit 0 then x.sreg a.ra.toNat else x.sreg a.rb.toNat)).retire t k)) ∧
    (fDecodes fsCvt a = true → a.kind = 0 →
      let r := cvtElem a.ts.toNat ty a.scale.toInt ((x.sreg a.ra.toNat).toNat % 2 ^ tyBits a.ts.toNat)
      exec (.cvt t g a) s =
        .next (((s.updTile t fun y => y.wsreg a.rd.toNat (BitVec.ofNat 32 r.1)).setFlags t r.2).retire t k)) ∧
    (fDecodes fsRed a = true →
      let l := redElems (x.pred k a.rc.toNat).toNat ty (x.vreg a.ra.toNat).toNat
      exec (.redadd t g a) s = .next (((s.updTile t fun y => y.wsreg a.rd.toNat (BitVec.ofNat 32 (redAdd ty l).1)).setFlags t
        (redAdd ty l).2).retire t k) ∧
      exec (.redmax t g a) s = .next ((s.updTile t fun y => y.wsreg a.rd.toNat (BitVec.ofNat 32 (redMax ty l))).retire t k)) ∧
    (fDecodes fsBcast a = true → ∃ s', exec (.vbcast t g a) s = .next s' ∧
      ∀ e, e < 256 / w → (x.guard k g).testBit (e * w / 8) = true →
        elGet ((s'.tile t).vreg a.rd.toNat).toNat w e = (x.sreg a.ra.toNat).toNat % 2 ^ w) ∧
    (fDecodes fsVext a = true →
      let e := elGet (x.vreg a.ra.toNat).toNat w a.imm.toNat
      exec (.vext t g a) s = .next ((s.updTile t fun y => y.wsreg a.rd.toNat
        (BitVec.ofNat 32 (if (tyFmt ty).isSome then e else ofSigned (tyInt ty e) 32))).retire t k)) ∧
    (fDecodes fsVins a = true → (x.guard k g).testBit (a.imm.toNat * w / 8) = true → ∃ s', exec (.vins t g a) s = .next s' ∧
      ∀ e, e < 256 / w → elGet ((s'.tile t).vreg a.rd.toNat).toNat w e =
        if e = a.imm.toNat then (x.sreg a.ra.toNat).toNat % 2 ^ w else elGet (x.vreg a.rd.toNat).toNat w e)

/-! ### Control, memory, queue, system and matrix instructions -/

/-- O17. NOP, TEND, TYIELD, LOOP, LEND and JMP (R87, R126, R127). TEND leaves the task WAITING, and TYIELD leaves it READY
or, where its firing condition no longer holds, WAITING, with no disable pending; LOOP with a count enters its body and with
0 goes past its LEND; LEND branches back while the counter exceeds 1 and else falls through with counter 0; a TARGET on the
wrong side of the instruction's own index does not decode. -/
def Obligations.ControlFlow : Prop :=
  ∀ (s : State) (t k : Nat) (g : Guard) (a : CArgs), CoreReady s t k →
    let pc := s.rf (TILE_TASK_STATE_PC t k)
    let n := if a.csrc = 1 then ((s.tile t).sreg a.rn.toNat).toNat else a.count.toNat
    let c := ((s.tile t).sreg a.rc.toNat).toNat
    (cPlainDecodes g a = true → exec (.nop t g a) s = .next (s.retire t k)) ∧
    (cPlainDecodes g a = true → exec (.tend t g a) s = .next (s.leaveTask t k 1 false)) ∧
    (cPlainDecodes g a = true → exec (.tyield t g a) s = .next ((s.retire t k).leaveTask t k
      (if s.fits t ((s.tile t).task k).inMask ((s.tile t).task k).outMask ((s.tile t).task k).quantum then 2 else 1) true)) ∧
    (loopDecodes g a pc = true → n ≠ 0 →
      exec (.loop t g a) s = .next ((s.updTile t fun x => x.wsreg a.rc.toNat (BitVec.ofNat 32 n)).retire t k)) ∧
    (loopDecodes g a pc = true → n = 0 → exec (.loop t g a) s =
      .next ((s.updTile t fun x => x.wsreg a.rc.toNat 0).setPc t k (a.target.toNat + 1))) ∧
    (lendDecodes g a pc = true → 1 < c → exec (.lend t g a) s = .next ((s.updTile t fun x =>
      x.wsreg a.rc.toNat (BitVec.ofNat 32 (c - 1))).setPc t k a.target.toNat)) ∧
    (lendDecodes g a pc = true → c ≤ 1 →
      exec (.lend t g a) s = .next ((s.updTile t fun x => x.wsreg a.rc.toNat 0).retire t k)) ∧
    (a.target.toNat ≤ pc → exec (.loop t g a) s = .next (s.taskFault t k 0x1001)) ∧
    (pc < a.target.toNat → exec (.lend t g a) s = .next (s.taskFault t k 0x1001)) ∧
    (jmpDecodes g a = true → exec (.jmp t g a) s = .next (s.setPc t k a.target.toNat))

/-- O18. What ends a firing (R87, R92): after TEND the core has no task, the task that ran is remembered, and the task, with
no disable pending, is WAITING; with a disable pending it is DISABLED. (In a tile whose tasks may not fire, so that no new
firing starts with the same command.) Rests in part on the model's own choices and readings: entry 28 of the assumption log.
-/
def Obligations.TendEndsFiring : Prop :=
  ∀ (s : State) (t k : Nat) (g : Guard) (a : CArgs), CoreReady s t k → cPlainDecodes g a = true → s.mayFire t = false →
    ∃ s', exec (.tend t g a) s = .next s' ∧ (s'.tile t).cur = none ∧ (s'.tile t).last = k ∧
      (((s.tile t).task k).disablePending = false → s'.taskSt t k = 1) ∧
      (((s.tile t).task k).disablePending = true → ((s.tile t).task k).reenable = false → s'.taskSt t k = 0) ∧
      BytesKept s s' ∧ OtherTilesKept s s' t

/-- O19. LD (R119, R120): a broken check faults with the lowest source code; an access that a row operation holds waits; a
desk or bench load takes the bytes at its address into the register in the form of its size, unless a word cannot be
corrected, which faults and makes its bench row a failing one; a load of the shelf or the tile page reads them and clears
the RC registers it reads. Rests in part on the model's own choices and readings: entry 19 of the assumption log. -/
def Obligations.LoadResult : Prop :=
  ∀ (s : State) (t k : Nat) (g : Guard) (a : MArgs) (e : Ecc), CoreReady s t k → lsDecodes a = true → s.guardOn t k g →
    let p := s.lsPlace t a
    let n := szBytes a.sz.toNat
    (lowest p.2 ≠ 0 → exec (.ld t g a e) s = .next (s.taskFault t k (lowest p.2))) ∧
    (lowest p.2 = 0 → (s.tile t).benchHeld p.1 n = true → exec (.ld t g a e) s = .next s) ∧
    (lowest p.2 = 0 → (s.tile t).benchHeld p.1 n = false → areaOf p.1 = .desk ∨ areaOf p.1 = .bench →
      (s.eccOf (tkey t p.1) n e = .bad → exec (.ld t g a e) s =
        .next (((s.noteEcc (tkey t p.1) n .bad).noteRows t p.1 n).taskFault t k (ueCode p.1))) ∧
      (s.eccOf (tkey t p.1) n e ≠ .bad → exec (.ld t g a e) s =
        .next ((((s.openRowOf t p.1).updTile t fun x => x.ldWrite a (s.rdMem (tkey t p.1) n)).raiseEcc t p.1 n
          (s.eccOf (tkey t p.1) n e)).retire t k))) ∧
    (lowest p.2 = 0 → areaOf p.1 = .shelf ∨ areaOf p.1 = .page → exec (.ld t g a e) s =
      .next (((s.localClear t p.1 n).updTile t fun x => x.ldWrite a (s.localRead t p.1 n)).retire t k))

/-- O20. ST (R119, R120): the checks as for LD; a store to the desk or bench whose words carry no error puts the bytes of
the register at its address and leaves every other byte of memory, and the next instruction follows; a store to the shelf or
the tile page changes no byte of memory. Rests in part on the model's own choices and readings: entry 19 of the assumption
log. -/
def Obligations.StoreResult : Prop :=
  ∀ (s : State) (t k : Nat) (g : Guard) (a : MArgs) (e : Ecc), CoreReady s t k → lsDecodes a = true → s.guardOn t k g →
    let p := s.lsPlace t a
    let n := szBytes a.sz.toNat
    (lowest p.2 ≠ 0 → exec (.st t g a e) s = .next (s.taskFault t k (lowest p.2))) ∧
    (lowest p.2 = 0 → (s.tile t).benchHeld p.1 n = true → exec (.st t g a e) s = .next s) ∧
    (lowest p.2 = 0 → (s.tile t).benchHeld p.1 n = false → areaOf p.1 = .desk ∨ areaOf p.1 = .bench →
      ∃ s', exec (.st t g a e) s = .next s' ∧ BytesKeptBut s s' (tkey t p.1) n ∧
        (e = .clean → s.hasBad (tkey t p.1) n = false →
          s'.rdMem (tkey t p.1) n = (s.tile t).stValue a % 256 ^ n ∧
          s'.rf (TILE_TASK_STATE_PC t k) = s.rf (TILE_TASK_STATE_PC t k) + 1)) ∧
    (lowest p.2 = 0 → areaOf p.1 = .shelf ∨ areaOf p.1 = .page →
      ∃ s', exec (.st t g a e) s = .next s' ∧ s' = (s.localWrite t p.1 n ((s.tile t).stValue a)).retire t k)

/-- O21. An access whose address is no multiple of its size raises MISALIGNED, whatever range it lies in, in SPACE 0 and
through any handle that resolves, LD, ST, PUT and GET alike, since the lowest source code is raised (R120, R130); an aligned
LD or ST of an edge-memory handle raises, inside the handle, the fault 0x1007 of edge access; a handle that does not resolve
raises 0x1006. -/
def Obligations.AccessChecks : Prop :=
  (∀ (s : State) (t : Nat) (a : MArgs), a.space = 0 →
    (s.tile t).eaLocal a.rb.toNat a.off % szBytes a.sz.toNat ≠ 0 → lowest (s.lsPlace t a).2 = 0x1004) ∧
  (∀ (s : State) (t : Nat) (a : MArgs) (h : Handle), a.space = 1 → s.resolve t a.h.toNat = some h →
    ((h.base : Int) + (s.tile t).eaOff a.rb.toNat a.off) % szBytes a.sz.toNat ≠ 0 →
    lowest (s.lsPlace t a).2 = 0x1004 ∧ lowest (s.gpPlace t a).2 = 0x1004) ∧
  (∀ (s : State) (t : Nat) (a : MArgs) (h : Handle), a.space ≠ 0 → s.resolve t a.h.toNat = some h → h.place = 3 →
    ((h.base : Int) + (s.tile t).eaOff a.rb.toNat a.off) % szBytes a.sz.toNat = 0 →
    inHandle h ((s.tile t).eaOff a.rb.toNat a.off) (szBytes a.sz.toNat) = true → lowest (s.lsPlace t a).2 = 0x1007) ∧
  (∀ (s : State) (t : Nat) (a : MArgs), a.space ≠ 0 → s.resolve t a.h.toNat = none → lowest (s.lsPlace t a).2 = 0x1006)

/-- O22. PUT and GET (R119 to R121, R171): past their checks a packet enters the network at the tile: a posted WRITE of the
register's bytes, or a READ whose reply goes to queue Q; a broken check faults with the lowest source code. A PUT to the
doorbell waits while an earlier store of the task to the desk has yet to be performed (R278). Rests in part on the model's
own choices and readings: entries 20, 154 of the assumption log. -/
def Obligations.PutGet : Prop :=
  ∀ (s : State) (t k : Nat) (g : Guard) (a : MArgs), CoreReady s t k → s.guardOn t k g →
    let p := s.gpPlace t a
    let n := szBytes a.sz.toNat
    let e := s.edgeCheck t p.1
    let decl := ((s.tile t).task k).inMask.testBit a.q.toNat
    let held := (isDoorbell s p.1 && s.storesWait t k) = true
    (putDecodes a = true → lowest p.2 ≠ 0 → exec (.put t g a) s = .next (s.taskFault t k (lowest p.2))) ∧
    (putDecodes a = true → lowest p.2 = 0 → held → exec (.put t g a) s = .next s) ∧
    (putDecodes a = true → lowest p.2 = 0 → ¬ held → e.1 = true → exec (.put t g a) s =
      .next ((e.2.2.send { s.corePacket t p.1 0 n 0 ((s.tile t).stValue a) with pa := e.2.1 }).retire t k)) ∧
    (putDecodes a = true → lowest p.2 = 0 → ¬ held → e.1 = false → exec (.put t g a) s = .next (e.2.2.taskFault t k 0x1008)) ∧
    (getDecodes a = true → decl = false → exec (.get t g a) s = .next (s.taskFault t k 0x1003)) ∧
    (getDecodes a = true → decl = true → lowest p.2 = 0 → e.1 = true → exec (.get t g a) s =
      .next ((e.2.2.send { s.corePacket t p.1 1 n a.q.toNat 0 with pa := e.2.1 }).retire t k))

/-- O23. The pops POPS, POPV, POPD and SKIP (R122, R88, R90): the head entry of an input queue that the task declared leaves
the queue, and its first bytes go to a scalar, its 64 bytes to a vector pair, its 64 bytes to the desk, or nowhere; an empty
queue blocks with the queue's number; an undeclared queue faults. Rests in part on the model's own choices and readings:
entry 19 of the assumption log. -/
def Obligations.QueuePops : Prop :=
  ∀ (s : State) (t k : Nat) (g : Guard) (a : QArgs), CoreReady s t k → s.guardOn t k g →
    let q := a.qn.toNat
    let ea := (s.tile t).qAddr a
    (∀ e, ((s.tile t).task k).inMask.testBit q = true → s.headIn t q = some e →
      (qsDecodes a = true → exec (.pops t g a) s =
        .next (((s.updTile t fun x => x.wsreg a.r.toNat (BitVec.ofNat 32 e.toNat)).popIn t q).retire t k)) ∧
      (qvDecodes a = true → exec (.popv t g a) s =
        .next (((s.updTile t fun x => x.wvpair a.r.toNat e.toNat).popIn t q).retire t k)) ∧
      (skipDecodes a = true → exec (.skip t g a) s = .next ((s.popIn t q).retire t k)) ∧
      (qdDecodes a = true → ea % 64 = 0 → ea + 64 ≤ 0xC000 → exec (.popd t g a) s =
        .next (((s.wrMem (tkey t ea) 64 e.toNat).popIn t q).retire t k))) ∧
    (((s.tile t).task k).inMask.testBit q = true → s.headIn t q = none → qsDecodes a = true →
      ∃ s', exec (.pops t g a) s = .next s' ∧ s'.rf (TILE_TASK_STATE_WAIT_ON t k) = q) ∧
    (((s.tile t).task k).inMask.testBit q = false → skipDecodes a = true →
      exec (.skip t g a) s = .next (s.taskFault t k 0x1003))

/-- O24. The pushes PUSHS, PUSHV and PUSHD, and QCNT (R122, R88): with room in a declared output queue the entry joins its
end: the scalar zero-extended, the vector pair, or 64 bytes of desk that carry no error; QCNT reads the entries held or
free. Rests in part on the model's own choices and readings: entry 19 of the assumption log. -/
def Obligations.QueuePushes : Prop :=
  ∀ (s : State) (t k : Nat) (g : Guard) (a : QArgs), CoreReady s t k → s.guardOn t k g →
    let q := a.qn.toNat
    let ea := (s.tile t).qAddr a
    (((s.tile t).task k).outMask.testBit q = true → s.outRoom t q ≠ 0 →
      (qsDecodes a = true → exec (.pushs t g a) s =
        .next ((s.pushOut t q (BitVec.ofNat 512 ((s.tile t).sreg a.r.toNat).toNat)).retire t k)) ∧
      (qvDecodes a = true → exec (.pushv t g a) s =
        .next ((s.pushOut t q (BitVec.ofNat 512 ((s.tile t).vpair a.r.toNat))).retire t k)) ∧
      (qdDecodes a = true → ea % 64 = 0 → ea + 64 ≤ 0xC000 → s.hasBad (tkey t ea) 64 = false →
        exec (.pushd t g a .clean) s =
          .next ((s.pushOut t q (BitVec.ofNat 512 (s.rdMem (tkey t ea) 64))).retire t k))) ∧
    (qcntDecodes a = true → exec (.qcnt t g a) s = .next ((s.updTile t fun x => x.wsreg a.r.toNat
      (BitVec.ofNat 32 (if a.side = 0 then ((s.tile t).inQ q).length else s.outRoom t q))).retire t k)) ∧
    (((s.tile t).task k).outMask.testBit q = true → s.outRoom t q = 0 → qsDecodes a = true →
      ∃ s', exec (.pushs t g a) s = .next s' ∧ s'.rf (TILE_TASK_STATE_WAIT_ON t k) = 8 + q)

/-- O25. RDID, RDCYC, HADDR, HGEN, SSTART, SSTOP, SSTAT and ROW (Table IS-14, R144, R184, R128). Rests in part on the
model's own choices and readings: entry 21 of the assumption log. -/
def Obligations.SystemInstructions : Prop :=
  ∀ (s : State) (t k : Nat) (g : Guard) (a : SArgs), CoreReady s t k → s.guardOn t k g →
    let x := s.tile t
    let d := a.sd.toNat
    let o := (x.sreg a.ra.toNat).toNat
    let r : RowOp := { op := a.rop.toNat, fv := a.fv == 1, dst := (x.sreg a.rd.toNat).toNat, a := o,
                       b := (x.sreg a.rb.toNat).toNat, c := (x.sreg a.rc.toNat).toNat }
    (rdidDecodes a = true → exec (.rdid t g a) s = .next ((s.updTile t fun x => x.wsreg a.rd.toNat
      (BitVec.ofNat 32 (tileX t + tileY t * 2 ^ 9 + s.modNum * 2 ^ 18))).retire t k)) ∧
    (rdcycDecodes a = true → exec (.rdcyc t g a) s = .next ((s.updTile t fun y => y.wspair a.rd.toNat
      (((s.plain (plainOf t)).tileCyc - x.cycBase) % 2 ^ 64)).retire t k)) ∧
    (∀ h, haddrDecodes a = true → s.resolve t a.h.toNat = some h → o < h.len →
      exec (.haddr t g a) s = .next ((s.updTile t fun x => x.wspair a.rd.toNat (s.handleGlobal t h o)).retire t k)) ∧
    (∀ h, haddrDecodes a = true → s.resolve t a.h.toNat = some h → h.len ≤ o →
      exec (.haddr t g a) s = .next (s.taskFault t k 0x1006)) ∧
    (∀ h, hgenDecodes a = true → s.resolve t a.h.toNat = some h →
      exec (.hgen t g a) s = .next ((s.updTile t fun x => x.wsreg a.rd.toNat (BitVec.ofNat 32 h.gen)).retire t k)) ∧
    (sstartDecodes a = true → s.streamIdle t d = true → s.streamOk t d = true →
      exec (.sstart t g a) s = .next ((s.streamStart t d).retire t k)) ∧
    (sstartDecodes a = true → s.streamIdle t d = false → exec (.sstart t g a) s = .next (s.taskFault t k 0x100A)) ∧
    (sstartDecodes a = true → exec (.sstop t g a) s = .next ((s.streamStop t d).retire t k)) ∧
    (sstatDecodes a = true → exec (.sstat t g a) s = .next ((s.updTile t fun x => x.wsreg a.rd.toNat
      (BitVec.ofNat 32 (s.regWord (tilePage t + 0x700 + 8 * d)))).retire t k)) ∧
    (rowDecodes a = true → (r.rows.any fun q => decide (2016 ≤ q)) = false → rowPermitted r = true →
      exec (.row t g a) s = .next ((s.updTile t fun x => { x with rowOps := x.rowOps ++ [r] }).retire t k)) ∧
    (rowDecodes a = true → (r.rows.any fun q => decide (2016 ≤ q)) = false → rowPermitted r = false →
      exec (.row t g a) s = .next (s.taskFault t k 0x1009))

/-- O26. The matrix instructions MLDW, MMA, MMAG, MMAS, MZA, MWRA and MSTA, past their checks, join the end of the issue
queue with the operands taken at issue while it has fewer than 8 operations, and block while it is full (R98, R125); MRDA
reads an accumulator row with no queued write to it. Rests in part on the model's own choices and readings: entry 25 of the
assumption log. -/
def Obligations.MatrixIssue : Prop :=
  ∀ (s : State) (t k : Nat) (g : Guard) (a : XArgs), CoreReady s t k → s.guardOn t k g →
    let x := s.tile t
    let m := fun kd : MKind => x.mop k kd a
    let push := fun m : MOp =>
      (s.updTile t fun x => { x with mq := x.mq ++ [{ m with pc := s.rf (TILE_TASK_STATE_PC t k) }] }).retire t k
    let desk := fun al n : Nat => (x.sreg a.rb.toNat).toNat % al = 0 ∧ (x.sreg a.rb.toNat).toNat + n ≤ 0xC000
    let inOk := (x.task k).inMask.testBit a.qa.toNat = true
    let outOk := (x.task k).outMask.testBit a.qo.toNat = true
    (x.mq.length < 8 →
      (mldwDecodes a = true → (if a.dq = 1 then inOk else desk 64 512) →
        exec (.mldw t g a) s = .next (push (m .mldw))) ∧
      (mmaDecodes a = true → fmtPairOk a.fa.toNat a.fb.toNat = true →
        (if a.dq = 1 then inOk else desk 32 (15 * a.stride.toNat * 32 + 32)) →
        exec (.mma t g a) s = .next (push (m .mma))) ∧
      (mzaDecodes a = true → exec (.mza t g a) s = .next (push (m .mza))) ∧
      (mwraDecodes a = true → exec (.mwra t g a) s =
        .next (push { m .mwra with data := BitVec.ofNat 512 (x.vpair a.rb.toNat) })) ∧
      (mstaDecodes a = true → (if a.dq = 1 then outOk else desk 64 (16 * mstaRow a.t.toNat)) →
        exec (.msta t g a) s = .next (push (m .msta))) ∧
      (let b := s.gang t
       mmagDecodes a (b.testBit 11) = true → fmtPairOk a.fa.toNat a.fb.toNat = true →
        (x.task k).inMask.testBit (bits b 0 3) = true → (b.testBit 3 = true → (x.task k).outMask.testBit (bits b 4 3) = true) →
        (b.testBit 7 = true → (x.task k).inMask.testBit (bits b 8 3) = true) →
        (b.testBit 11 = false → (x.task k).outMask.testBit (bits b 12 3) = true) →
        exec (.mmag t g a) s = .next (push { m .mmag with bind := b })) ∧
      (let h := s.resolve t (s.rf (TILE_SPARSE_B_H t))
       mmasDecodes a = true → fmtPairOk a.fa.toNat a.fb.toNat = true → (if a.dq = 1 then inOk else desk 64 64) →
        (a.spb = 1 → outOk ∧ ∃ e, h = some e ∧ e.place ≠ 3) →
        exec (.mmas t g a) s = .next (push { m .mmas with
          bind := s.regWord (tilePage t + 0xE00), bBase := tkey t ((h.map (·.base)).getD 0)
          bLen := (h.map (·.len)).getD 0, bWide := (h.map (·.wide)).getD false }))) ∧
    (8 ≤ x.mq.length → mzaDecodes a = true →
      ∃ s', exec (.mza t g a) s = .next s' ∧ s'.rf (TILE_TASK_STATE_WAIT_ON t k) = 16 ∧ (s'.tile t).mq = x.mq) ∧
    (mrdaDecodes a = true → x.accPending a.acc.toNat = false → exec (.mrda t g a) s =
      .next ((s.updTile t fun x => x.wvpair a.rb.toNat (x.accRow a.acc.toNat a.row.toNat)).retire t k))

/-! ### The matrix queue, tasks, queues, memory of a tile -/

/-- O27. The steps of the matrix unit (R97, R98, R106, R123 to R125, R212): an operation starts when it has not started and
none before it that is unfinished lies on its path or conflicts; MZA zeroes its accumulator and no other; MWRA puts its pair
into its row; a row of MLDW, MMA and MSTA is processed as written; the finished operation at the head leaves; one row of
MMAG without a partial source takes the head of AIN; an output entry of MMAS goes to QO. Rests in part on the model's own
choices and readings: entries 23, 24, 25 of the assumption log. -/
def Obligations.MatrixSteps : Prop :=
  ∀ (s : State) (t i : Nat) (m : MOp) (e : Ecc), (s.tile t).mq[i]? = some m → s.tileLive t = true →
    (m.started = false →
      (((s.tile t).mq.take i).filter (!·.finished)).all (fun p => p.kind.path != m.kind.path && !p.conflicts m) = true →
      ∃ s', exec (.matrixOpStart t i) s = .next s' ∧ (s'.tile t).mq[i]? = some { m with started := true } ∧
        BytesKept s s' ∧ RegsKept s s' [] ∧ OtherTilesKept s s' t) ∧
    (m.started = true → m.finished = false →
      (m.kind = .mza → ∃ s', exec (.matrixRow t i e) s = .next s' ∧
        (∀ r n, r < 16 → n < 16 → (s'.tile t).accEl m.acc r n = 0) ∧
        (∀ b r n, b ≠ m.acc → r < 16 → n < 16 → (s'.tile t).accEl b r n = (s.tile t).accEl b r n) ∧ BytesKept s s') ∧
      (m.kind = .mwra → ∃ s', exec (.matrixRow t i e) s = .next s' ∧
        (∀ n, n < 16 → (s'.tile t).accEl m.acc m.row n = BitVec.ofNat 32 (m.data.toNat / 2 ^ (32 * n))) ∧ BytesKept s s') ∧
      (m.kind = .mldw → exec (.matrixRow t i e) s = .next (s.mldwRow t i m e)) ∧
      (m.kind = .mldw → m.dq = true → ∀ d, s.headIn t m.qa = some d → exec (.matrixRow t i e) s =
        .next (((s.popIn t m.qa).updTile t fun x => x.setWb m.wb (64 * m.done) 64 d.toNat).stepMop t i 8)) ∧
      (m.kind = .mma → m.dq = true → m.held = none → ∀ d, s.headIn t m.qa = some d → exec (.matrixRow t i e) s =
        .next (((s.popIn t m.qa).updMop t i fun m => { m with held := some d }).mmaApply t i m (d.toNat % 2 ^ 256))) ∧
      (m.kind = .mma → m.dq = true → ∀ d, m.held = some d → exec (.matrixRow t i e) s =
        .next ((s.updMop t i fun m => { m with held := none }).mmaApply t i m (d.toNat / 2 ^ 256))) ∧
      (m.kind = .msta → m.dq = false → ∃ s', exec (.matrixRow t i e) s = .next s' ∧
        BytesKeptBut s s' (tkey t (m.base + m.done * mstaRow m.ty)) (mstaRow m.ty)) ∧
      (m.kind = .mmas → m.done = 0 → m.dq = true → ∀ d, s.headIn t m.qa = some d →
        m.buf.length + 1 < groupBytes m (((m.buf ++ [d]).headD 0).toNat) / 64 → exec (.matrixRow t i e) s =
        .next ((s.popIn t m.qa).updMop t i fun m' => { m' with buf := m.buf ++ [d] }))) ∧
    (i = 0 → m.finished = true → m.kind ≠ .mmas → exec (.matrixOpComplete t) s =
      .next (s.updTile t fun x => { x with mq := (s.tile t).mq.drop 1 })) ∧
    (i = 0 → m.finished = true → m.kind = .mmas → exec (.matrixOpComplete t) s =
      .next ((s.updTile t fun x => { x with mq := (s.tile t).mq.drop 1 }).bump (TILE_SP_OPS_COUNT t))) ∧
    ((s.tile t).mq.findIdx? (fun m => m.kind == .mmag && m.started && !m.finished) = some i → m.bind.testBit 7 = false →
      m.bind.testBit 3 = false → m.bind.testBit 11 = true → m.held = none → ∀ d, s.headIn t (bits m.bind 0 3) = some d →
      ∃ s', exec (.mmagRow t) s = .next s' ∧ (s'.tile t).inQ (bits m.bind 0 3) = ((s.tile t).inQ (bits m.bind 0 3)).tail ∧
        ((s'.tile t).mq[i]?).map (·.done) = some (m.done + 1) ∧ ((s'.tile t).mq[i]?).map (·.held) = some (some d) ∧
        BytesKept s s') ∧
    ((s.tile t).mq.findIdx? (fun m => m.kind == .mmas && m.started && !m.finished && !m.outs.isEmpty) = some i →
      s.outRoom t m.qo ≠ 0 → ∀ d rest, m.outs = d :: rest → exec (.mmasRowPush t) s =
        .next ((s.pushOut t m.qo d .other).updMop t i fun m => { m with outs := rest, finished := rest.isEmpty }))

/-- O28. Tasks (R87 to R89, R92, R164, R398): the core takes an URGENT READY task before any other, each time the lowest
number above the task that ran last, wrapping; the task selected is RUNNING, and at a new firing its program counter is the
ENTRY that it captured and the firing is counted (a WAITING task whose condition holds becomes READY first); a BLOCKED task
whose cause has cleared is READY; a group of instructions comes into the buffer; a write of ENABLE sets the bit, and a
disable of a task that does not run makes it DISABLED at once; a write that clears RUN clears it alone. Rests in part on the
model's own choices and readings: entries 26, 27, 28 of the assumption log. -/
def Obligations.Tasks : Prop :=
  (∀ (s : State) (t k : Nat), t < 262144 → k < 16 → s.mayFire t = true → (s.tile t).cur = none →
    (s.promote t).selectTask t = some k →
    let x := ((s.promote t).tile t).task k
    ∃ s', exec (.taskDispatch t) s = .next s' ∧ (s'.tile t).cur = some k ∧ s'.taskSt t k = 3 ∧ (s'.tile t).ibuf = [] ∧
      BytesKept s s' ∧ OtherTilesKept s s' t ∧
      (x.mid = false → x.entry < 2 ^ 13 →
        s'.rf (TILE_TASK_STATE_PC t k) = x.entry ∧
        s'.rf (TILE_FIRES_COUNT t) = (s.rf (TILE_FIRES_COUNT t) + 1) % 2 ^ 32) ∧
      (x.mid = true → s'.rf (TILE_TASK_STATE_PC t k) = s.rf (TILE_TASK_STATE_PC t k))) ∧
  (∀ (last k : Nat) (ok : Nat → Bool), nextTask last ok = some k → ok k = true ∧ k < 16 ∧
    ∀ j, j < 16 → ok j = true → (k + 15 - last % 16) % 16 ≤ (j + 15 - last % 16) % 16) ∧
  (∀ (s : State) (t k : Nat), s.selectTask t = some k → s.taskSt t k = 2 ∧
    ((∃ j, j < 16 ∧ s.taskSt t j = 2 ∧ ((s.tile t).task j).urgent = true) → ((s.tile t).task k).urgent = true)) ∧
  (∀ (s : State) (t k : Nat), s.taskSt t k = 4 → s.causeCleared t k = true → s.tileLive t = true →
    exec (.taskUnblock t k) s = .next (s.wf (TILE_TASK_STATE_STATE t k) 2)) ∧
  (∀ (s : State) (t k g : Nat), CoreReady s t k → g = s.rf (TILE_TASK_STATE_PC t k) / 4 →
    (s.tile t).ibuf.any (·.g == g) = false → (∀ i, i < 4 → s.hasBad (tkey t (32 * g + 8 * i)) 8 = false) →
    exec (.instructionFetch t g [.clean, .clean, .clean, .clean]) s =
      .next (s.updTile t fun x => { x with
        ibuf := { g := g, words := s.rdMem (tkey t (32 * g)) 32, marks := 0 } :: x.ibuf.take 15 })) ∧
  (∀ (s : State) (t k : Nat) (en : Bool), t < 262144 → k < 16 → s.pageReady (tilePage t) = true →
    ∃ s', exec (.taskEnableWrite t k en) s = .next s' ∧ s'.rf (TILE_TASK_CFG_ENABLE t k) = b2n en ∧ BytesKept s s' ∧
      (en = false → s.taskSt t k ≠ 3 → s'.taskSt t k = 0) ∧
      (en = false → s.taskSt t k = 3 → s'.taskSt t k = 3 ∧ ((s'.tile t).task k).disablePending = true)) ∧
  (∀ (s : State) (t : Nat), t < 262144 → s.pageReady (tilePage t) = true →
    exec (.tileRunWrite t false) s = .next (s.wf (TILE_CTRL_RUN t) 0))

/-- O29. Slot tables, queue bindings and stream commands (R163, R166, R184, R185): a slot-table write to the live bank sets
ACTIVE_WRITE and changes nothing else, one to the other bank is stored with its reserved bits zero; a binding that differs
is refused while RUN is set or the queue holds an entry; STREAM_CMD START starts an idle stream whose checks hold, and else
sets HOST_REFUSED; STOP takes a RUNNING stream to STOPPING. -/
def Obligations.TileConfiguration : Prop :=
  ∀ (s : State) (t : Nat), t < 262144 → s.pageReady (tilePage t) = true →
    (∀ (b o i : Nat) (v : BitVec 64), b = s.rf (MESH_BANK_LIVE (plainOf t)) →
      exec (.slotTableWrite t b o i v) s = .next (s.wf (MESH_STATUS_ACTIVE_WRITE (plainOf t)) 1)) ∧
    (∀ (b o i : Nat) (v : BitVec 64), b < 2 → o < 9 → i < 8 → b ≠ s.rf (MESH_BANK_LIVE (plainOf t)) →
      ∃ s', exec (.slotTableWrite t b o i v) s = .next s' ∧
        s'.rf (TILE_SLOT_SLOT t b o i) = (v.toNat &&& 0x00FF00FF00FF00FF) ∧ OnlyRegs s s' [TILE_SLOT_SLOT t b o i]) ∧
    (∀ (k : Nat) (v : BitVec 64), k < 16 → s.rb (TILE_CTRL_RUN t) = true ∨ (s.tile t).holds k = true →
      bits v.toNat 0 2 ≠ s.rf (TILE_QBIND_KIND t k) →
      exec (.qbindWrite t k v) s = .next (s.wf (TILE_QBIND_REFUSED t k) 1)) ∧
    (∀ d, s.streamIdle t d = true → s.streamOk t d = true →
      exec (.streamCmdStart t d) s = .next (s.streamStart t d)) ∧
    (∀ d, s.streamIdle t d = false ∨ s.streamOk t d = false →
      exec (.streamCmdStart t d) s = .next (s.wf (TILE_STREAM_STATE_HOST_REFUSED t d) 1)) ∧
    (∀ d, s.streamSt t d = 1 → (((s.tile t).stream d).xfers.all (·.landed)) = false →
      ∃ s', exec (.streamCmdStop t d) s = .next s' ∧ s'.streamSt t d = 2 ∧ OnlyRegs s s' [TILE_STREAM_STATE_STATE t d]) ∧
    (∀ d, d < 8 → s.streamIdle t d = true → s.streamOk t d = true → ∃ s', exec (.streamCmdStart t d) s = .next s' ∧
      s'.streamSt t d = 1 ∧ s'.rf (TILE_POS_ITEM t d) = 0 ∧ s'.rf (TILE_STREAM_STATE_HOST_REFUSED t d) = 0)

/-- O30. Desk and bench (R131, R132, R135, R136, R138, R140, R141): in a tile whose clock runs, a lone desk read of 8
aligned bytes on free banks is granted and its data goes out, memory unchanged; a lone write of 8 aligned bytes is
performed; a bench read is granted while no row operation holds its pair; scrub and refresh step their counters; a reading
above 85 °C halves the refresh interval, and readings at or below 83 °C for 1 s, and no less, end that; a row operation with
clean sources writes its result to its destination row and nothing else. Rests in part on the model's own choices and
readings: entries 21, 32, 33, 34 of the assumption log. -/
def Obligations.DeskAndBench : Prop :=
  (∀ (s : State) (t : Nat) (r : Req), (s.tile t).deskWait = [] → (s.tile t).busyBanks = 0 → r.age = 0 →
    deskTier (s.tile t) r ≠ 0 → s.reqLive t r.who = true → s.memClocked t = true →
    r.len = 8 → r.addr % 8 = 0 → r.addr + 8 ≤ 0xC000 → s.hasBad (tkey t r.addr) 8 = false → r.who < 20 →
    (r.write = false → ∃ s', exec (.deskRequestGrant t [r] []) s = .next s' ∧
      s'.out = Outp.grant t r.who (s.rdMem (tkey t r.addr) 8) false :: s.out ∧ BytesKept s s' ∧ RegsKept s s' [] ∧
      (s'.tile t).deskWait = []) ∧
    (r.write = true → ∃ s', exec (.deskRequestGrant t [r] []) s = .next s' ∧
      s'.rdMem (tkey t r.addr) 8 = r.data % 2 ^ 64 ∧ BytesKeptBut s s' (tkey t r.addr) 8 ∧ RegsKept s s' [])) ∧
  (∀ (s : State) (t : Nat) (r : Req), (s.tile t).benchWait = [] → r.age = 0 → benchTier (s.tile t) r ≠ 0 →
    s.reqLive t r.who = true → r.who < 18 → r.write = false →
    r.len = 8 → r.addr % 8 = 0 → areaOf r.addr = .bench → (s.tile t).benchHeld r.addr 8 = false →
    s.hasBad (tkey t r.addr) 8 = false → ∃ s', exec (.benchRequestGrant t [r] []) s = .next s' ∧
      s'.out = Outp.grant t r.who (s.rdMem (tkey t r.addr) 8) false :: s.out ∧ BytesKept s s' ∧ RegsKept s s' []) ∧
  (∀ (s : State) (t : Nat), s.hasBad (tkey t (64 * (s.tile t).scrubAt)) 64 = false → exec (.deskScrub t .clean) s =
    .next (s.updTile t fun x => { x with scrubAt := (x.scrubAt + 1) % 768 })) ∧
  (∀ (s : State) (t : Nat), exec (.benchRefreshStep t) s =
    .next (s.updTile t fun x => { x with refreshAt := (x.refreshAt + 1) % 264, openRow := [] })) ∧
  (∀ (s : State) (p : Nat) (c : Int), s.sensed p = true →
    (85 < c → ∃ s', exec (.refreshIntervalHalve p c) s = .next s' ∧ (s'.plain p).fastRefresh = true ∧ BytesKept s s') ∧
    (c ≤ 83 → ∀ t0, ∃ s', exec (.refreshIntervalRestore p c) s = .next s' ∧ BytesKept s s' ∧
      ((s.plain p).coolFrom = none → (s'.plain p).coolFrom = some s.time) ∧
      ((s.plain p).coolFrom = some t0 → (s'.plain p).coolFrom = some t0 ∧ (s'.plain p).fastRefresh =
        ((s.plain p).fastRefresh && decide (s.time < t0 + 10 ^ 9))))) ∧
  (∀ (s : State) (t : Nat) (o : RowOp) (rest : List RowOp), (s.tile t).rowOps = o :: rest →
    (∀ r ∈ o.verified, s.hasBad (rowKey t r) 2048 = false) → o.op ≠ 0 →
    ∃ s', exec (.rowOpComplete t 0 false none) s = .next s' ∧ (s'.tile t).rowOps = rest ∧
      s'.rdMem (rowKey t o.dst) 2048 =
        o.result (s.rdMem (rowKey t o.a) 2048) (s.rdMem (rowKey t o.b) 2048) (s.rdMem (rowKey t o.c) 2048) ∧
      BytesKeptBut s s' (rowKey t o.dst) 2048 ∧ RegsKept s s' [])

/-! ### Edge memory, circuits, packets, span links -/

/-- O31. Edge memory (R150 to R155): an entry write that the partition's list of changes has room for sets the shadow alone;
PAGE_IN makes a valid non-resident page of the window resident, live and in its shadow, and is refused otherwise; a window
write in a quiet partition sets the window and empties the translation cache, and any other changes nothing but WIN_REFUSED;
the patrol scrub counts what it corrects. A translated, resident page in the window and outside the ledger pool translates
to its physical page. Rests in part on the model's own choices and readings: entry 29 of the assumption log. -/
def Obligations.EdgeMemory : Prop :=
  (∀ (s : State) (f n : Nat) (v : BitVec 64), s.writes f n = true → s.pageReady (partPage n 7) = true → s.peptChanges n < 4096 →
    exec (.peptEntryWrite f n v) s = .next (s.wsh (peptEntry n (s.rf (PEPT_SEL_VPN n))) (v.toNat &&& peptMask))) ∧
  (∀ (s : State) (f n : Nat) (v : BitVec 64), s.writes f n = true → s.pageReady (partPage n 7) = true →
    let k := peptEntry n (bits v.toNat 0 19)
    let ppn := bits v.toNat 20 18
    ((s.rf k).testBit 0 = true → (s.rf k).testBit 1 = false → s.inWindow n ppn = true → s.inPool ppn = false → s.sh k = s.rf k →
      s.rb (PSTR_CTRL_AUTO_RESUME n) = false →
      exec (.pageIn f n v) s = .next (s.wboth k ((s.rf k &&& 0xFFFFFFFFC0000FFF) ||| 2 ||| ppn * 2 ^ 12))) ∧
    ((s.rf k).testBit 1 = true → exec (.pageIn f n v) s = .next (s.wf (PEPT_STATUS_PAGE_IN_REFUSED n) 1))) ∧
  (∀ (s : State) (n : Nat) (v : BitVec 64), n < 16 → s.pf0Writes 0 = true → s.pageReady pgEDGE = true →
    let base := bits v.toNat 0 18
    let limit := bits v.toNat 18 18
    (s.quietPart n = true → base ≤ limit → limit ≤ 147423 → ∃ s', exec (.edgeWindowWrite n v) s = .next s' ∧
      s'.rf (EDGE_WIN_BASE n) = base ∧ s'.rf (EDGE_WIN_LIMIT n) = limit ∧ s'.rf (EDGE_WIN_EN n) = bits v.toNat 36 1 ∧
      (s'.part n).tcache = [] ∧ RegsKept s s' [EDGE_WIN_BASE n, EDGE_WIN_LIMIT n, EDGE_WIN_EN n] ∧ BytesKept s s') ∧
    (s.quietPart n = false ∨ limit < base ∨ 147423 < limit →
      exec (.edgeWindowWrite n v) s = .next (s.wf EDGE_STATUS_WIN_REFUSED 1))) ∧
  (∀ (s : State) (ces : Nat), exec (.edgePatrolScrub ces []) s = .next (s.bump EDGE_CE_COUNT_COUNT ces)) ∧
  (∀ (s : State) (n va : Nat), va < 2 ^ 40 →
    let e := s.rf (peptEntry n (va / 2 ^ 21))
    e.testBit 0 = true → e.testBit 1 = true → s.inWindow n (bits e 12 18) = true → s.inPool (bits e 12 18) = false →
    s.xlate n va = .hit (bits e 12 18 * 2 ^ 21 + va % 2 ^ 21))

/-- O32. The circuit plane (R161, R164, R166, R167): the head of a source queue goes out in its slot while the source holds
credit, which falls by one an entry; a flit that no output selects is dropped and counted; output L puts an entry into the
sink queue; when every branch has returned a credit the source gains one; a tick, which comes where the next round is a
multiple of 256 and no gate holds the plain, starts that round, brings a committed bank live, and starts the 48 rounds in
which the plain's sources settle; settling ends after them and not before. Rests in part on the model's own choices and
readings: entries 40, 47 of the assumption log. -/
def Obligations.CircuitPlane : Prop :=
  (∀ (s : State) (t k o u slot : Nat) (e : OEnt) (rest : List OEnt), t < 262144 → k < 8 → slot < 32 → s.routerLive t = true →
    s.rf (TILE_QBIND_KIND t (8 + k)) = 1 → s.rf (TILE_QBIND_PACK t (8 + k)) = 0 → 0 < s.rf (TILE_QCRED_CREDITS t k) →
    s.settling (plainOf t) = false → s.withheld t k = false → (s.tile t).outE k = e :: rest → s.mayFire t = false →
    (s.outputsOf t (s.rf (MESH_BANK_LIVE (plainOf t))) 8 slot).filter (fun o =>
      decide (o < 8) && bits (s.slotEntry t (s.rf (MESH_BANK_LIVE (plainOf t))) o slot) 5 3 == k) = [o] → neighbour t o = some u →
    ∃ s', exec (.circuitFlitInject t k slot false) s = .next s' ∧ (s'.tile t).outE k = rest ∧
      s'.rf (TILE_QCRED_CREDITS t k) = (s.rf (TILE_QCRED_CREDITS t k) - 1) % 128 ∧
      s'.flits = s.flits ++ [{ at_ := u, inp := oppInput o, slot := slot, par := s.parity (plainOf t), entries := [e]
                               origin := { src := t, srcQ := k, sinks := (s.routeOf t k).2 } }] ∧
      BytesKept s s' ∧ OtherTilesKept s s' t) ∧
  (∀ (s : State) (f : Flit) (rest : List Flit), s.flits = f :: rest → f.sink = none → s.routerLive f.at_ = true →
    let b := s.bankFor (plainOf f.at_) f.par
    let k := (f.slot + 1) % 32
    (s.outputsOf f.at_ b f.inp k = [] →
      exec (.circuitFlitForward 0) s = .next (({ s with flits := rest } : State).orphan f.at_)) ∧
    (s.outputsOf f.at_ b f.inp k = [8] → ∃ s', exec (.circuitFlitForward 0) s = .next s' ∧
      s'.flits = rest ++ [{ f with slot := k, sink := some (bits (s.slotEntry f.at_ b 8 k) 5 3) }] ∧ BytesKept s s' ∧
      RegsKept s s' [MESH_CIRC_FLITS_COUNT (plainOf f.at_)])) ∧
  (∀ (s : State) (f : Flit) (rest : List Flit) (q : Nat), s.flits = f :: rest → f.sink = some q → s.routerLive f.at_ = true →
    s.rf (TILE_QBIND_KIND f.at_ q) = 1 → s.roomIn f.at_ q f.entries.length = true →
    exec (.circuitFlitDeliver 0) s = .next (f.entries.foldl (fun s e =>
      s.pushIn f.at_ q { data := e.data, src := some f.origin, sender := some (f.origin.src, e.cmd) }) { s with flits := rest })) ∧
  (∀ (s : State) (t k : Nat) (o : Origin), s.creditDue t k = some o → (s.routeOf t k).1.all s.routerLive = true →
    s.withheld t k = false →
    ∃ s', exec (.creditReturn t k) s = .next s' ∧
      s'.rf (TILE_QCRED_CREDITS t k) = min (s.rf (TILE_QCRED_CREDITS t k) + 1) 127 ∧ BytesKept s s' ∧
      RegsKept s s' [TILE_QCRED_CREDITS t k]) ∧
  (∀ (s : State) (p : Nat), p < 64 → s.plnState p = 0 ∨ s.plnState p = 2 → s.gated = false → s.tickDue p = true →
    s.keeper.load = none →
    ∃ s', exec (.meshEpochTick p) s = .next s' ∧
      s'.rf (MESH_ROUND_COUNT p) = (s.rf (MESH_ROUND_COUNT p) + 1) % 2 ^ 48 ∧ s'.rf (MESH_ROUND_COUNT p) % 256 = 0 ∧
      s'.rf (MESH_TICKS_COUNT p) = (s.rf (MESH_TICKS_COUNT p) + 1) % 2 ^ 32 ∧
      ((s.plain p).bankPend = true → s.rf (MESH_BANK_SEL p) ≠ s.rf (MESH_BANK_LIVE p) →
        s'.rf (MESH_BANK_LIVE p) = s.rf (MESH_BANK_SEL p) % 2 ∧
        (s.plainPart p = none → (s'.plain p).settle = s'.rf (MESH_ROUND_COUNT p) + 48)) ∧
      ((s.plain p).bankPend = false → s'.rf (MESH_BANK_LIVE p) = s.rf (MESH_BANK_LIVE p)) ∧
      (s'.plain p).bankPend = false ∧ BytesKept s s' ∧
      RegsKept s s' [MESH_ROUND_COUNT p, MESH_TICKS_COUNT p, MESH_BANK_LIVE p]) ∧
  (∀ (s : State) (p : Nat),
    ((s.plain p).settle ≤ s.rf (MESH_ROUND_COUNT p) →
      exec (.bankSettlingEnd p) s = .next (s.updPlain p fun q => { q with settle := 0 })) ∧
    (s.rf (MESH_ROUND_COUNT p) < (s.plain p).settle → exec (.bankSettlingEnd p) s = .next s))

/-- O33. Moving packets, and the stall watch (R170, R171, R174, R177): an ORD packet off the fenced plains takes the X
first, then Y path, behind what the buffer that it comes to holds; a packet that has waited ESC_WAIT mesh cycles with no
permitted output moves to COL, which is counted, unless it is ORD; the Keeper's detour tables are those of a spanning tree
of the live plains, and every plain's tables are active exactly while some plain is full-fenced; a declared deadlock is
counted with its time; a spilled entry returns when there is room. Rests in part on the model's own choices and readings:
entries 41, 42, 43 of the assumption log. -/
def Obligations.PacketMoves : Prop :=
  (∀ (s : State) (k : Packet) (rest : List Packet) (u w d dir : Nat), s.net = k :: rest → k.loc = .tile u → k.ty < 4 → k.esc = false →
    k.ord = true → s.routerLive u = true →
    (let tg := s.target k (tileX u) (tileY u)
     u ≠ tg.1 ∧ s.takesCol u tg k = false ∧ xyDir u tg.1 = some d) → neighbour u d = some w → s.plnState (plainOf w) ≠ 3 →
    s.hopOpen u w d k = true →
    ∃ s', exec (.packetHop 0 dir) s = .next s' ∧
      s'.net = rest ++ [{ k with loc := .tile w, inp := oppInput d, since := s.countAt (.tile w) }] ∧ BytesKept s s' ∧
      RegsKept s s' [MESH_PKT_FLITS_COUNT (plainOf u)] ∧ s'.tiles = s.tiles) ∧
  (∀ (s : State) (k : Packet) (rest : List Packet) (u : Nat), s.net = k :: rest → k.loc = .tile u →
    (k.esc = false → k.ord = false → k.ty ≠ 4 → s.routerLive u = true →
      (let v := (s.target k (tileX u) (tileY u)).1
       u ≠ v ∧ ∀ d ∈ minimalDirs u v, s.dirFree u d k = none) →
      k.since + max 1 (s.rf (MESH_CTRL_ESC_WAIT (plainOf u))) ≤ s.meshAt (plainOf u) → exec (.packetEscape 0) s =
      .next (({ s with net := { k with esc := true } :: rest } : State).bump (MESH_ESCAPES_COUNT (plainOf u)))) ∧
    (k.ord = true → exec (.packetEscape 0) s = .next s)) ∧
  (∀ (s : State) (tree : List (Nat × Nat)), s.rb MOD_STATUS_KEEPER_UP = true → s.treeOk tree = true →
    ∃ s', exec (.detourTableLoaded tree) s = .next s' ∧
      (∀ p d, p < 64 → d < 64 → s.plainLive p = true →
        s'.rf (MESH_DETOUR_UP_DIR p d) = (treeExit tree false p d).1 ∧
        s'.rf (MESH_DETOUR_DOWN_DIR p d) = (treeExit tree true p d).1 ∧
        s'.rf (MESH_DETOUR_UP_IS_DOWN p d) = b2n (treeExit tree false p d).2) ∧
      (∀ p, p < 64 → s'.rf (MESH_STATUS_DETOUR_VALID p) = b2n ((List.range 64).any fun q => s.plnState q == 3)) ∧ BytesKept s s') ∧
  (∀ (s : State) (n at_ : Nat), n < 16 → (s.at at_).watchFrozen n = false →
    2 ^ (s.at at_).rf (PSTL_WINDOW_LOG2 n) * 20 / 33 ≤ (s.at at_).quietNs n →
    ((s.at at_).tilesIn n).any (s.at at_).stallHolds = true →
    exec (.stallDeclare n at_) s = .next ((s.at at_).stallDeclare n)) ∧
  (∀ (s : State) (t k : Nat) (e : QEnt) (rest : List QEnt), (s.tile t).spillQ k = e :: rest → s.inRoom t k ≠ 0 → s.mayFire t = false →
    ∃ s', exec (.spillRefill t k) s = .next s' ∧ (s'.tile t).inQ k = (s.tile t).inQ k ++ [e] ∧ (s'.tile t).spillQ k = rest ∧
      BytesKept s s' ∧ RegsKept s s' [])

/-- O34. Span links (R182, R183): the flit that is expected is taken and its packet enters at the port; a damaged one is
counted and dropped; where no acknowledgement has come for REPLAY_TO_NS, and not before, a timeout replays from the oldest
unacknowledged flit, and the eighth in a row takes the link down; a link that goes down is not UP, holds no flit and raises
its fault; a trained link starts at sequence number 0; the module number is written only while every partition is quiet.
Rests in part on the model's own choices and readings: entry 48 of the assumption log. -/
def Obligations.SpanLinks : Prop :=
  (∀ (s : State) (p seq ack : Nat) (k : Packet), p < 6 → s.rb (SPN_STATUS_UP p) = true →
    (exec (.spanFlitReceive p false seq ⟨ack, false⟩ none) s =
      .next ((s.bump (SPN_FLITS_RX_COUNT p)).bump (SPN_CRC_ERRORS_COUNT p))) ∧
    (seq < 4096 → seq = (s.span p).rxSeq → ∃ s', exec (.spanFlitReceive p true seq ⟨ack, false⟩ (some k)) s = .next s' ∧
      s'.net = s.net ++ [{ k with loc := .span p, via := some p, pa := none, inp := 4, full := false, since := 0 }] ∧ (s'.span p).rxSeq = (seq + 1) % 4096 ∧
      s'.rf (SPN_FLITS_RX_COUNT p) = (s.rf (SPN_FLITS_RX_COUNT p) + 1) % 2 ^ 64 ∧ BytesKept s s')) ∧
  (∀ (s : State) (p : Nat), p < 6 → s.rb (SPN_STATUS_UP p) = true → (s.span p).unacked ≠ [] →
    (s.time < (s.span p).since + s.rf (SPN_LINK_REPLAY_TO_NS p) → exec (.spanReplayTimeout p) s = .next s) ∧
    ((s.span p).since + s.rf (SPN_LINK_REPLAY_TO_NS p) ≤ s.time → (s.span p).replays + 1 < 8 →
      ∃ s', exec (.spanReplayTimeout p) s = .next s' ∧ (s'.span p).replays = (s.span p).replays + 1 ∧
      s'.rf (SPN_STATUS_REPLAYING p) = 1 ∧ s'.out.length = s.out.length + (s.span p).unacked.length ∧ BytesKept s s') ∧
    ((s.span p).since + s.rf (SPN_LINK_REPLAY_TO_NS p) ≤ s.time → 7 ≤ (s.span p).replays →
      exec (.spanReplayTimeout p) s = .next ((((s.bump (SPN_REPLAYS_COUNT p)).wf (SPN_STATUS_REPLAYING p)
        1).setSpan p { s.span p with replays := (s.span p).replays + 1, since := s.time }).spanDown p))) ∧
  (∀ (s : State) (p : Nat), p < 6 → s.rb (SPN_STATUS_UP p) = true →
    exec (.spanLinkDown p) s = .next (((s.wfs [(SPN_STATUS_UP p, 0), (SPN_STATUS_LANES p, 0), (SPN_STATUS_REPLAYING p,
      0)]).setSpan p {}).raise 0x4004 (pgSPN p))) ∧
  (∀ (s : State) (p lanes peer : Nat), p < 6 → s.pageReady (pgSPN p) = true →
    ∃ s', exec (.spanLinkUp p lanes peer) s = .next s' ∧ s'.rb (SPN_STATUS_UP p) = true ∧ (s'.span p).txSeq = 0 ∧
      (s'.span p).rxSeq = 0 ∧ BytesKept s s' ∧
      RegsKept s s' [SPN_STATUS_UP p, SPN_STATUS_LANES p, SPN_STATUS_PEER p, SPN_STATUS_REPLAYING p]) ∧
  (∀ (s : State) (f : Nat) (v : BitVec 64), s.pf0Writes f = true → s.pageReady (pgSPN 0) = true →
    (s.allQuiet = true → exec (.spanNodeWrite f v) s = .next (s.wf (SPN_NODE_MODULE 0) (bits v.toNat 0 10))) ∧
    (s.allQuiet = false → exec (.spanNodeWrite f v) s = .next s))

/-- O35. Packets at their tile (R168, R169, R172, R173): a WRITE to the desk stores its payload there and nowhere else; a
READ of desk words without errors is answered with their bytes; the entries of a RESP and of a QPUSH enter a packet queue
that has room; a leaf of an MWRITE stores its payload. An access that breaks a limit of R23, R27 or R168 is refused, with
the fault PACKET_REFUSED on the tile. Rests in part on the model's own choices and readings: entries 44, 45, 46 of the
assumption log. -/
def Obligations.PacketsArrive : Prop :=
  ∀ (s : State) (k : Packet) (rest : List Packet) (t : Nat), s.net = k :: rest → k.loc = .tile t → s.arrived t k = true →
    s.routerLive t = true → k.eng = none → k.dma = none →
    (k.ty = 0 → packetLocalOk k.dst k.len = true → s.tileOpen t (gLocal k.dst) k.len = true → areaOf (gLocal k.dst) = .desk →
      ∃ s', exec (.write 0 .clean) s = .next s' ∧ s'.net = rest ∧ BytesKeptBut s s' (tkey t (gLocal k.dst)) k.len ∧
        (s.hasBad (tkey t (gLocal k.dst)) k.len = false →
          s'.rdMem (tkey t (gLocal k.dst)) k.len = k.payload % 256 ^ k.len)) ∧
    (k.ty = 0 → packetLocalOk k.dst k.len = false →
      exec (.write 0 .clean) s = .next (({ s with net := rest } : State).raiseTile t 0x1015)) ∧
    (k.ty = 1 → packetLocalOk k.dst k.len = true → s.tileOpen t (gLocal k.dst) k.len = true → areaOf (gLocal k.dst) = .desk →
      s.hasBad (tkey t (gLocal k.dst)) k.len = false → ∃ s', exec (.read 0 .clean) s = .next s' ∧
        s'.net = rest ++ [{ replyTo k (s.rdMem (tkey t (gLocal k.dst)) k.len) with since := s.countAt k.loc }] ∧
        BytesKept s s') ∧
    (k.ty = 2 → s.rf (TILE_QBIND_KIND t k.rq) = 2 → s.roomIn t k.rq (ceilDiv k.len 64) = true → k.err = false →
      exec (.resp 0) s = .next (({ s with net := rest } : State).pushAll t k.rq (respEntries k))) ∧
    (k.ty = 2 → s.rf (TILE_QBIND_KIND t k.rq) ≠ 2 → exec (.resp 0) s = .next (({ s with net := rest } : State).raiseTile t 0x1015)) ∧
    (k.ty = 3 → s.rf (TILE_QBIND_KIND t k.rq) = 2 → k.len ≤ 64 → s.roomIn t k.rq 1 = true → exec (.packetQpush 0) s =
      .next (({ s with net := rest } : State).pushAll t k.rq [BitVec.ofNat 512 (k.payload % 2 ^ (8 * k.len))])) ∧
    (k.ty = 4 → s.branches t k.tree = [] → (s.treeByte t k.tree).testBit 4 = true → packetLocalOk k.dst k.len = true →
      s.tileOpen t (gLocal k.dst) k.len = true → s.tilePart t = some k.part → areaOf (gLocal k.dst) = .desk →
      ∃ s', exec (.mwrite 0 .clean) s = .next s' ∧ s'.net = rest ∧ BytesKeptBut s s' (tkey t (gLocal k.dst)) k.len)

/-! ### Streams, host DMA, sweeps -/

/-- O36. Stream transfers (R186 to R191): a stream that knows its item issues the next transfer, up to the next aligned XFER
boundary of its memory address, when it has room and its page is there; a stream that has issued every item and holds no
transfer is DONE unless it is CYCLIC; sixteen indices come from IDXQ; a landed READ transfer to a queue puts its data there
in order; a full ring slot is notified; a returned slot is counted. Rests in part on the model's own choices and readings:
entries 35, 36, 38 of the assumption log. -/
def Obligations.StreamTransfers : Prop :=
  (∀ (s : State) (t d at_ u : Nat), (s.at at_).streamSt t d = 1 → (s.at at_).tileLive t = true →
    (((s.at at_).tile t).stream d).notifyWait = false →
    ((((s.at at_).tile t).stream d).xfers.filter fun y => !y.landed).length < (s.at at_).streamOut t d →
    ((s.at at_).rf (TILE_COUNT_TOTAL t d) ≤ (s.at at_).rf (TILE_POS_ITEM t d) →
      exec (.streamTransferIssue t d .clean at_) s = .next ((s.at at_).streamEnd t d)) ∧
    ((s.at at_).rf (TILE_POS_ITEM t d) < (s.at at_).rf (TILE_COUNT_TOTAL t d) → (((s.at at_).tile t).stream d).curKnown = true →
      (((s.at at_).tile t).stream d).dataH.place ≠ 3 → (s.at at_).rb (TILE_CFG_DIR t d) = false →
      (let x := ((s.at at_).tile t).stream d
       x.curDone < 64 * x.curUnits ∧ (s.at at_).xferRoom t d u = true ∧
         u = xferLen ((s.at at_).streamXfer t d) (x.dataH.base + (x.curOff + x.curDone)) (64 * x.curUnits - x.curDone)) →
      ∃ s' y, exec (.streamTransferIssue t d .clean at_) s = .next s' ∧
        ((s'.tile t).stream d).xfers = (((s.at at_).tile t).stream d).xfers ++ [y] ∧ y.len = u ∧ y.write = false ∧
        y.key = (let x := ((s.at at_).tile t).stream d
                 tkey t (x.dataH.base + (x.curOff + x.curDone))) ∧ BytesKept s s')) ∧
  (∀ (s : State) (t d : Nat), s.streamSt t d = 1 → s.rf (TILE_COUNT_TOTAL t d) ≤ s.rf (TILE_POS_ITEM t d) →
    ((s.tile t).stream d).xfers = [] → s.rb (TILE_CFG_CYCLIC t d) = false →
    s.streamEnd t d = s.wf (TILE_STREAM_STATE_STATE t d) 4) ∧
  (∀ (s : State) (t d : Nat) (e : Entry), s.streamSt t d = 1 → s.tileLive t = true → s.rf (TILE_CFG_MODE t d) = 1 →
    s.rb (TILE_CFG_IDX_SRC t d) = true → ((s.tile t).stream d).idx = [] → s.headIn t (s.rf (TILE_CFG_IDXQ t d)) = some e →
    exec (.streamIndexPop t d) s = .next ((s.popIn t (s.rf (TILE_CFG_IDXQ t d))).setStream t d
      { (s.tile t).stream d with idx := (List.range 16).map fun i => bits e.toNat (32 * i) 32 })) ∧
  (∀ (s : State) (t d : Nat) (y : Xfer), t < 262144 → ((s.tile t).stream d).xfers = [y] →
    ((s.tile t).stream d).part = (0, 0) → y.write = false → y.len = 64 → s.xferReady t d y = true → s.rb (TILE_CFG_RING t d) = false → y.key = tkey t 0 → s.hasBad (tkey t 0) 64 = false →
    s.streamSt t d = 5 → s.mayFire t = false → ((s.tile t).spillQ (s.rf (TILE_CFG_QD t d))) = [] →
    ∃ s', exec (.streamTransferComplete t d 0 .clean) s = .next s' ∧ ((s'.tile t).stream d).xfers = [] ∧
      (s'.tile t).inQ (s.rf (TILE_CFG_QD t d)) = (s.tile t).inQ (s.rf (TILE_CFG_QD t d)) ++
        [{ data := BitVec.ofNat 512 (s.rdMem (tkey t 0) 64) }] ∧ BytesKept s s' ∧ RegsKept s s' []) ∧
  (∀ (s : State) (t d : Nat), s.rb (TILE_CFG_RING t d) = true → s.tileLive t = true → s.streamSt t d = 1 → 0 < s.slotBytes t d →
    (((s.tile t).stream d).notified + 1) * s.slotBytes t d ≤ ((s.tile t).stream d).landed →
    (s.roomIn t (s.rf (TILE_CFG_NQ t d)) 1 = false → exec (.streamRingNotify t d) s =
      .next (s.setStream t d { (s.tile t).stream d with notifyWait := true })) ∧
    (s.roomIn t (s.rf (TILE_CFG_NQ t d)) 1 = true → s.rf (TILE_POS_ITEM t d) < s.rf (TILE_COUNT_TOTAL t d) → ∃ s',
      exec (.streamRingNotify t d) s = .next s' ∧ ((s'.tile t).stream d).notified = ((s.tile t).stream d).notified + 1 ∧
      BytesKept s s')) ∧
  (∀ (s : State) (t d : Nat), s.rb (TILE_CFG_RING t d) = true → s.tileLive t = true →
    ((s.tile t).stream d).returned < ((s.tile t).stream d).notified → (s.tile t).outQ (s.rf (TILE_CFG_RQ t d)) ≠ [] →
    exec (.streamRingCredit t d) s = .next ((s.popOut t (s.rf (TILE_CFG_RQ t d)) 1).setStream t d
      { (s.tile t).stream d with returned := ((s.tile t).stream d).returned + 1 }))

/-- O37. Halts (R195 to R197): a halted stream posts a record, joins one for the same page, or, with 128 held, sets
OVERFLOW; HALT_POP returns the oldest record and removes it; RESUME makes the streams of the page check again; a stream
whose page is there runs again; one halted longer than HALT_LIMIT raises STREAM_HALT_TIMEOUT. Rests in part on the model's
own choices and readings: entry 37 of the assumption log. -/
def Obligations.StreamHalts : Prop :=
  (∀ (s : State) (t d at_ : Nat), (s.at at_).streamSt t d = 3 → (((s.at at_).tile t).stream d).postWait = true →
    let s0 := s.at at_
    let n := s0.xpart t
    let vpn := s0.rf (TILE_HALT_VA_VA t d) / 2 ^ 21
    let h : Halt := { vpn := vpn, reason := s0.rf (TILE_STREAM_STATE_REASON t d), write := ((s0.tile t).stream d).haltWrite,
                      tile := t, sd := d }
    ((s0.part n).halts = [] → ∃ s', exec (.streamHaltPost t d at_) s = .next s' ∧ (s'.part n).halts = [h] ∧
      s'.out.length = s.out.length + 1 ∧ BytesKept s s' ∧ RegsKept s s' []) ∧
    (((s0.part n).halts.any (·.vpn == vpn)) = false → 128 ≤ (s0.part n).halts.length → (((s0.tile t).stream d).postFull) = false →
      exec (.streamHaltPost t d at_) s = .next ((s0.wf (PSTR_STATUS_OVERFLOW n) 1).setStream t d
        { (s0.tile t).stream d with postFull := true }))) ∧
  (∀ (s : State) (f n : Nat), s.reaches f n = true → s.pageReady (partPage n 6) = true →
    exec (.haltPop f n) s = .next ((s.emit (.rdata (s.regWord (partPage n 6 + 0x110)))).updPart n fun p =>
      { p with halts := p.halts.tail })) ∧
  (∀ (s : State) (f n at_ : Nat) (v : BitVec 64), (s.at at_).writes f n = true → (s.at at_).pageReady (partPage n 6) = true →
    exec (.pstrResume f n v at_) s = .next ((s.at at_).recheck n fun p => v.toNat.testBit 20 || p == bits v.toNat 0 19)) ∧
  (∀ (s : State) (t d at_ pa : Nat), d < 8 → t < 262144 → (s.at at_).streamSt t d = 3 →
    (((s.at at_).tile t).stream d).recheck = true →
    (s.at at_).xlate ((s.at at_).xpart t) ((s.at at_).rf (TILE_HALT_VA_VA t d)) = .hit pa → (s.at at_).xpart t < 16 →
    ∃ s', exec (.streamResume t d at_) s = .next s' ∧ s'.streamSt t d = 1 ∧ ((s'.tile t).stream d).postWait = false ∧
      BytesKept s s' ∧ s'.rf (PSTR_RESUMES_COUNT ((s.at at_).xpart t)) = (s.rf (PSTR_RESUMES_COUNT ((s.at at_).xpart t)) + 1) % 2 ^ 32) ∧
  (∀ (s : State) (t d at_ : Nat), let s0 := s.at at_
    let x := (s0.tile t).stream d
    let limit := s0.rf (PSTR_HALT_LIMIT_MICROSECONDS (s0.xpart t))
    s0.streamSt t d = 3 → limit ≠ 0 → x.haltTimed = false → x.haltAt + limit * 1000 < s0.time →
    exec (.streamHaltTimeout t d at_) s =
      .next ((s0.setStream t d { x with haltTimed := true }).raise 0xB004 (partPage (s0.xpart t) 6))) ∧
  (∀ (s : State) (t d at_ : Nat), (s.at at_).rf (PSTR_HALT_LIMIT_MICROSECONDS ((s.at at_).xpart t)) = 0 →
    exec (.streamHaltTimeout t d at_) s = .next (s.at at_))

/-- O38. Host DMA (R200 to R203): TAIL and QCFG are written as register words, and EN rising restarts a stopped queue; a
fetched descriptor joins those in flight with its status, and one of the errors of R203 stops the queue; the oldest is
written back in ring order with its status, HEAD advances and DONE_COUNT counts it; a NOTIFY entry leaves as a QPUSH packet
for its queue, and a target that R202 does not allow makes the result NOTIFY_FAIL. Rests in part on the model's own choices
and readings: entry 50 of the assumption log. -/
def Obligations.HostDma : Prop :=
  (∀ (s : State) (f n j : Nat) (v : BitVec 64), s.writes f n = true → j < 16 → s.pageReady (partPage n 1) = true →
    exec (.pqTailWrite f n j v) s = .next (s.writeWord (partPage n 1 + (0x110 + 0x20 * j)) v.toNat (2 ^ 64 - 1))) ∧
  (∀ (s : State) (n j : Nat) (v : BitVec 64), s.writes 0 n = true → j < 16 → s.pageReady (partPage n 1) = true →
    let s1 := s.writeWord (partPage n 1 + (0x108 + 0x20 * j)) v.toNat (2 ^ 64 - 1)
    (s.rb (PQ_QCFG_EN n j) = true ∨ s1.rb (PQ_QCFG_EN n j) = false → exec (.pqQcfgWrite 0 n j v) s = .next s1) ∧
    (s.rb (PQ_QCFG_EN n j) = false → s1.rb (PQ_QCFG_EN n j) = true → exec (.pqQcfgWrite 0 n j v) s =
      .next (s1.wfs [(PQ_QHEAD_STOPPED n j, 0), (PQ_QHEAD_LAST_ERR n j, 0)]))) ∧
  (∀ (s : State) (n j : Nat) (w0 w1 w2 w3 : BitVec 64) (data : Nat) (err : Bool) (e : Ecc), n < 16 → j < 16 →
    s.rb (PQ_QCFG_EN n j) = true → s.rb (PQ_QHEAD_STOPPED n j) = false → s.pageReady (partPage n 1) = true → s.frozen = false →
    s.rf PWR_STATUS_STATE < 3 → s.dmaOf n j = [] →
    s.rf (PQ_QHEAD_HEAD n j) % s.pqSize n j ≠ s.rf (PQ_QTAIL_TAIL n j) % s.pqSize n j →
    s.dmaOpen w1.toNat (bits w2.toNat 0 32) = true →
    let r := s.dmaMove n j w0.toNat w1.toNat w2.toNat w3.toNat data err e
    let d : Dma := { index := s.rf (PQ_QHEAD_HEAD n j) % s.pqSize n j, w3 := w3.toNat, irq := w2.toNat.testBit 33, status := r.1,
                     notified := !w2.toNat.testBit 35 || dmaStops r.1 }
    (dmaStops r.1 = false → exec (.hostDmaDescriptorStart n j w0 w1 w2 w3 data err e) s = .next (r.2.setDma n j [d])) ∧
    (dmaStops r.1 = true → exec (.hostDmaDescriptorStart n j w0 w1 w2 w3 data err e) s =
      .next ((r.2.setDma n j [d]).wfs [(PQ_QHEAD_STOPPED n j, 1), (PQ_QHEAD_LAST_ERR n j, r.1)]))) ∧
  (∀ (s : State) (n j w0 w1 w2 w3 data : Nat) (err : Bool) (e : Ecc), dmaBad w0 w1 w2 w3 = true →
    s.dmaMove n j w0 w1 w2 w3 data err e = (6, s)) ∧
  (∀ (s : State) (n j : Nat) (d : Dma) (rest : List Dma), n < 16 → j < 16 → s.dmaOf n j = d :: rest → d.notified = true →
    s.frozen = false → d.irq = false → ∃ s', exec (.hostDmaWriteback n j) s = .next s' ∧ s'.dmaOf n j = rest ∧
      s'.out = Outp.hostWrite (s.rf (PQ_QBASE_ADDR n j) + 32 * d.index + 24) 8
        (d.w3 - bits d.w3 24 8 * 2 ^ 24 + d.status * 2 ^ 24) :: s.out ∧
      s'.rf (PQ_QHEAD_HEAD n j) = (d.index + 1) % s.pqSize n j % 2 ^ 16 ∧
      s'.rf (PQ_DONE_COUNT_COUNT n) = (s.rf (PQ_DONE_COUNT_COUNT n) + 1) % 2 ^ (PQ_DONE_COUNT_COUNT n).w ∧ BytesKept s s') ∧
  (∀ (s : State) (n j : Nat) (d : Dma), s.dmaOf n j = [d] → d.notified = false → d.sent = false →
    s.frozen = false →
    let t := tileAt (bits d.w3 0 9) (bits d.w3 9 9)
    let q := bits d.w3 18 3
    let entry : Packet :=
      { dst := s.tileGlobal t 0, ty := 3, len := 64, srcMod := s.modNum, rq := q, part := n, loc := .west (tileY t)
        payload := bits d.w3 32 32 + j * 2 ^ 32 + d.status * 2 ^ 48, dma := some (n, j, d.index) }
    (s.rf (TILE_QBIND_KIND t q) = 2 → s.tilePart t = some n → exec (.hostDmaNotify n j 0) s =
      .next ((s.setDma n j [{ d with sent := true }]).send entry)) ∧
    (s.rf (TILE_QBIND_KIND t q) ≠ 2 ∨ s.tilePart t ≠ some n → exec (.hostDmaNotify n j 0) s =
      .next (s.setDma n j [{ d with notified := true, status := 5 }])))

/-- O39. Sweep commands (R216, R223 to R227): DILATE, INIT, RUN, REPAIR, EXTRACT and CHECK begin on an idle PSW with a good
grid and layout, REPAIR and EXTRACT only from CONVERGED; the others are refused with the result that R226 names; ABORT ends
the command that runs with ABORTED, and with none running ends at once with that result; the end of a command sets STATE and
RESULT and sends PSW's event. Rests in part on the model's own choices and readings: entries 51, 52, 53, 54 of the
assumption log. -/
def Obligations.SweepCommands : Prop :=
  (∀ (s : State) (f n : Nat), s.writes f n = true → s.pageReady (partPage n 4) = true →
    let st := s.rf (PSW_STATUS_STATE n)
    let ok := (s.part n).sweep = none ∧ (st = 0 ∨ st = 4 ∨ st = 8) ∧ s.badGrid n = false ∧ s.badLayout n = false
    let w0 := fun op : Nat => ({ op := op, before := st, id := (s.part n).sweepSeq + 1 } : Sweep)
    let run := fun (s : State) (w : Sweep) => s.updPart n fun p => { p with sweep := some w, sweepSeq := w.id }
    let begin_ := fun op : Nat =>
      let s1 := s.wf (PSW_STATUS_STATE n) (runState op)
      if s1.gridFenced n then run s1 { w0 op with done := true, result := 12 } else (run s1 (w0 op)).sweepBegin n op
    (ok → exec (.dilate f n) s = .next (begin_ 1) ∧ exec (.init f n) s = .next (begin_ 2) ∧
      exec (.run f n) s = .next (begin_ 3) ∧ exec (.check f n) s = .next (begin_ 6)) ∧
    (ok → st = 4 → exec (.repair f n) s = .next (begin_ 4) ∧ exec (.extract f n) s = .next (begin_ 5)) ∧
    (ok → st ≠ 4 → exec (.repair f n) s = .next (s.wf (PSW_STATUS_RESULT n) 13) ∧
      exec (.extract f n) s = .next (s.wf (PSW_STATUS_RESULT n) 13)) ∧
    ((s.part n).sweep ≠ none → exec (.run f n) s = .next (s.wf (PSW_STATUS_RESULT n) 1) ∧
      exec (.dilate f n) s = .next (s.wf (PSW_STATUS_RESULT n) 1)) ∧
    ((s.part n).sweep = none → (st = 0 ∨ st = 4 ∨ st = 8) → s.badGrid n = true →
      exec (.init f n) s = .next (s.wf (PSW_STATUS_RESULT n) 2)) ∧
    (ok → exec (.abort f n) s = .next (run s { w0 7 with done := true, result := 11 })) ∧
    (∀ w, (s.part n).sweep = some w → w.done = false → exec (.abort f n) s =
      .next (s.updPart n fun p => { p with sweep := some { w with done := true, result := 11 } }))) ∧
  (∀ (s : State) (n : Nat) (w : Sweep), n < 16 → (s.part n).sweep = some w → w.done = true →
    ∃ s', exec (.sweepCommandEnd n) s = .next s' ∧ s'.rf (PSW_STATUS_STATE n) = endState w ∧
      s'.rf (PSW_STATUS_RESULT n) = w.result % 16 ∧ (s'.part n).sweep = none ∧ s'.out.length = s.out.length + 1 ∧
      BytesKept s s' ∧ RegsKept s s' [PSW_STATUS_STATE n, PSW_STATUS_RESULT n])

/-- O40. Sweep engines (R218 to R222): INIT gives a tile's cells 0 where GOAL is 1 and INFL is 0, and 0xFFFF elsewhere; an
engine in its rounds that holds its neighbours' costs runs the next round; a relaxation takes the least of the own cost and
the sums over visited neighbours, capped at 65,534; a waiting boundary entry leaves QIN and is dropped where no sweep runs.
Rests in part on the model's own choices and readings: entries 51, 52, 55 of the assumption log. -/
def Obligations.SweepEngines : Prop :=
  (∀ (s : State) (t n : Nat) (w : Sweep), s.tilePart t = some n → (s.part n).sweep = some w → w.done = false → s.inGrid n t = true →
    s.fenced t = false → s.plnState (plainOf t) = 0 → s.gated = false →
    s.sweepHeld n t = false → (s.eng t).outbox = [] → (s.eng t).inbox = [] →
    ((s.eng t).phase = 5 → s.eccBad = [] → ∃ s', exec (.sweepRound t) s = .next s' ∧
      (∀ i j, i < 128 → j < 128 → bits (s'.rdMem (tkey t (s.sweepRow n 8)) 32768) (16 * (128 * j + i)) 16 =
        if (s.rdMem (tkey t (s.sweepRow n 6)) 2048).testBit (128 * j + i) &&
          !(s.rdMem (tkey t (s.sweepRow n 1)) 2048).testBit (128 * j + i) then 0 else 0xFFFF) ∧
      (s'.eng t).phase = 4 ∧ BytesKeptBut s s' (tkey t (s.sweepRow n 8)) 32768 ∧
      RegsKept s s' [PSW_STATUS_GOAL_BLOCKED n]) ∧
    ((s.eng t).phase = 3 → s.holdsAll n t 0 (s.eng t).round (fun _ => true) = true → ∃ s', exec (.sweepRound t) s = .next s' ∧
      (s'.eng t).round = (s.eng t).round + 1 ∧
      BytesKeptBut s s' (tkey t (s.sweepRow n 8)) 32768)) ∧
  (∀ (own : Nat) (l : List (Nat × Nat)), let r := relax own l
    r.1 ≤ own ∧ (∀ q ∈ l, q.1 ≠ 0xFFFF → r.1 ≤ min (q.1 + q.2) 65534) ∧
    (r.1 = own ∨ ∃ q ∈ l, q.1 ≠ 0xFFFF ∧ r.1 = min (q.1 + q.2) 65534) ∧
    (r.2 = true ↔ ∃ q ∈ l, q.1 ≠ 0xFFFF ∧ 65534 < q.1 + q.2)) ∧
  (∀ (s : State) (t n : Nat) (x : QEnt), s.tilePart t = some n → (s.part n).sweep = none →
    ((s.tile t).inQ (s.rf (PSW_LAYOUT_QIN n))).head? = some x → s.inGrid n t = true → s.fenced t = false →
    s.plnState (plainOf t) = 0 → s.gated = false →
    exec (.sweepMessagePop t) s = .next (s.popIn t (s.rf (PSW_LAYOUT_QIN n))))

/-! ### Plains -/

/-- O41. A repair, step by step (R72 to R80, R142): the map is computed, the plain pauses, the intent is programmed, each
copy is counted, lost ranges are refilled with what the stored image of the partition holds of them or recorded, the plain
resumes with the new map in the state it came from, and the commit closes the intent. A tile that returns to service has no
fence and no firing; a failing bench row goes onto a redundant row, and with none left the tile is fenced. (While a backup
runs none of these is taken.) Rests in part on the model's own choices and readings: entries 58, 59, 60 of the assumption
log. -/
def Obligations.RepairSequence : Prop :=
  (∀ (s : State) (p : Nat) (r : Repair), s.frozen = false → p < 64 → s.plnState p ≠ 4 → s.rb MOD_STATUS_KEEPER_UP = true → (s.plain p).repair = some r →
    r.phase = 1 → r.kinds ≠ [] → (s.plain p).waitFence = [] → s.failingTiles p = [] →
    exec (.respareMapComputed p) s = .next ((s.updPlain p fun q => { q with waitFence := [], repair := some { r with phase := 2 } }).wf
      (PLN_STATE_REPAIR_PENDING p) 1)) ∧
  (∀ (s : State) (p at_ : Nat) (r : Repair), s.frozen = false → (s.plain p).repair = some r → r.phase = 2 →
    (s.at at_).quiesced p = true → s.plnState p ≠ 4 →
    ∃ s', exec (.plainQuiesced p at_) s = .next s' ∧ s'.plnState p = 1 ∧
      s'.rf (PLN_PAUSE_COUNT_COUNT p) = (s.rf (PLN_PAUSE_COUNT_COUNT p) + 1) % 2 ^ (PLN_PAUSE_COUNT_COUNT p).w ∧
      (s'.plain p).repair = some { r with phase := 3, pausedAt := max s.time at_, back := s.plnState p } ∧ BytesKept s s' ∧
      RegsKept s s' [PLN_STATE_STATE p, PLN_PAUSE_COUNT_COUNT p]) ∧
  (∀ (s : State) (p : Nat) (r : Repair), s.frozen = false → (s.plain p).repair = some r → r.phase = 3 →
    exec (.respareIntentProgrammed p) s = .next ((s.updPlain p fun q =>
      { q with repair := some { r with phase := 4 }, intent := some r.newMap }).wf (REPR_JOURNAL_INTENT_OPEN p) 1)) ∧
  (∀ (s : State) (p : Nat) (r : Repair), s.frozen = false → (s.plain p).repair = some r → r.phase = 4 ∨ r.phase = 5 →
    (r.phase = 4 → (s.plain p).waitFence = []) → r.copies < s.copiesIn p r →
    (∀ u ∈ s.copyTiles p r r.copies, (s.tile u).routerBad = false) →
    exec (.respareCopyStep p []) s = .next (s.setRepair p (some { r with phase := 5, copies := r.copies + 1 }))) ∧
  (∀ (s0 : State) (p at_ : Nat) (r : Repair), let s := s0.at at_
    s.frozen = false → (s.plain p).repair = some r → r.phase = 4 ∨ r.phase = 5 →
    (r.phase = 4 → (s.plain p).waitFence = []) → s.copiesIn p r ≤ r.copies →
    r.kinds.contains .bench = false ∨ s.failingTiles p = [] →
    (r.lost = [] → exec (.respareRefillComplete p at_) s0 = .next (s.setRepair p (some { r with phase := 6 }))) ∧
    (∀ l, r.lost = [l] → exec (.respareRefillComplete p at_) s0 =
      .next ((s.refillOne p l).setRepair p (some { r with phase := 6 })))) ∧
  (∀ (s : State) (p : Nat) (l : LostRange),
    (s.imageParts l.tile = [] → l.first ≤ l.last → s.refillOne p l = s.recordLost p l) ∧
    (∀ d, s.imageParts l.tile = [(0, 0xC000, d)] → l.desk = true → d < 2 ^ (8 * 0xC000) →
      s.refillOne p l = s.wrMem (tkey l.tile 0) 0xC000 d)) ∧
  (∀ (s : State) (p at_ : Nat) (r : Repair), s.frozen = false → p < 64 → (s.plain p).repair = some r → r.phase = 6 → r.reset = false → r.tiles = [] →
    ∃ s', exec (.plainResume p at_) s = .next s' ∧ s'.plnState p = r.back % 8 ∧ s'.rf (PLN_STATE_REPAIR_PENDING p) = 0 ∧
      (s'.plain p).map = { r.newMap with lanes := (s.plain p).map.lanes } ∧ (s'.plain p).resumedAt = max s.time at_ ∧
      (s'.plain p).repair = some { r with phase := 7 } ∧ BytesKept s s') ∧
  (∀ (s : State) (t : Nat), t < 262144 → (s.restartTile t).fenced t = false ∧ ((s.restartTile t).tile t).cur = none ∧
    ((s.restartTile t).tile t).mq = [] ∧ BytesKept s (s.restartTile t)) ∧
  (∀ (s : State) (p : Nat) (r : Repair), s.frozen = false → (s.plain p).repair = some r → r.phase = 7 →
    exec (.respareCommitProgrammed p) s = .next (((s.updPlain p fun q => { q with repair := none, intent := none }).bump
      (REPR_JOURNAL_SEQ p)).wfs [(REPR_JOURNAL_INTENT_OPEN p, 0), (REPR_CMD_STATUS_BUSY p, 0)])) ∧
  (∀ (s : State) (t row : Nat) (r : Repair), s.frozen = false → (s.plain (plainOf t)).repair = some r → r.phase = 4 ∨ r.phase = 5 →
    r.kinds.contains .bench = true → (s.tile t).failRows.contains row = true → s.eccBad = [] →
    let s1 := s.updTile t fun x => { x with failRows := x.failRows.erase row, ceRows := x.ceRows.filter fun e => e.1 != row }
    let u := s.redundantUsed t row
    (u.2 < 8 → exec (.benchRowReplacement t row []) s = .next ((s1.updPlain (plainOf t) fun q =>
      { q with redundant := sset 0 q.redundant u.1 (u.2 + 1) }).raise 4 (plainPage (plainOf t) 2))) ∧
    (8 ≤ u.2 → exec (.benchRowReplacement t row []) s = .next (s1.fenceTile t)))

/-- O42. Repair commands (R83): each is answered in CMD_STATUS, refused while a repair runs or a backup is active; RESPARE
and RETIRE_ROW start a repair that bypasses the site or retires the row unless no spare is left; RETEST takes a bypassed
site out for test, and its end clears the site, or reports TEST_FAILED and leaves it not CLEARED (R84); COMPUTE_FENCE,
FULL_FENCE and LANE_RESPARE act at once; UNFENCE resets a quiet plain that has lost no link and whose fenced sites have all
passed. Rests in part on the model's own choices and readings: entries 57, 58 of the assumption log. -/
def Obligations.RepairCommands : Prop :=
  (∀ (s : State) (p x y : Nat), p < 64 → x < 128 → y < 128 → s.pf0Writes 0 = true → s.pageReady (plainPage p 2) = true →
    let m := (s.plain p).map
    (∀ r, s.reprBusy p = some r → exec (.respare 0 p x y) s = .next (s.reprResult p 1 r) ∧
      exec (.retireRow 0 p y) s = .next (s.reprResult p 2 r) ∧ exec (.retest 0 p x y) s = .next (s.reprResult p 3 r) ∧
      exec (.computeFence 0 p) s = .next (s.reprResult p 4 r) ∧ exec (.fullFence 0 p) s = .next (s.reprResult p 5 r) ∧
      exec (.unfence 0 p) s = .next (s.reprResult p 6 r)) ∧
    (s.reprBusy p = none → s.plnState p ≠ 4 →
      (65 < x ∨ 65 < y → exec (.respare 0 p x y) s = .next (s.reprResult p 1 2) ∧
        exec (.retest 0 p x y) s = .next (s.reprResult p 3 2)) ∧
      (x ≤ 65 → y ≤ 65 →
        (m.logical x y = none → exec (.respare 0 p x y) s = .next (s.reprResult p 1 2)) ∧
        (m.logical x y ≠ none → 2 ≤ (m.bypOf y).length → exec (.respare 0 p x y) s = .next (s.reprResult p 1 1)) ∧
        (m.logical x y ≠ none → (m.bypOf y).length < 2 →
          exec (.respare 0 p x y) s = .next (s.reprStart p 1 (.site x y) (m.addByp x y))) ∧
        (m.mapped y = true → 2 ≤ m.retired.length → exec (.retireRow 0 p y) s = .next (s.reprResult p 2 1)) ∧
        (m.mapped y = true → m.retired.length < 2 →
          exec (.retireRow 0 p y) s = .next (s.reprStart p 2 (.row y) (m.addRetired y))) ∧
        (m.bypassed y x = true ∨ m.rowRetired y = true → m.logical x y = none → exec (.retest 0 p x y) s =
          .next (((s.reprResult p 3 0).wf (REPR_CMD_STATUS_BUSY p) 1).updPlain p fun q => { q with testing := some (x, y) }))) ∧
      (s.plnLevel p ≠ 3 → exec (.computeFence 0 p) s = .next ((s.reprResult p 4 0).doFence p 2)) ∧
      (s.plnLevel p = 3 → exec (.computeFence 0 p) s = .next (s.reprResult p 4 7)) ∧
      exec (.fullFence 0 p) s = .next ((s.reprResult p 5 0).doFence p 3) ∧
      (∀ n, s.plainPart p = some n → s.quietPart n = false → exec (.unfence 0 p) s = .next (s.reprResult p 6 3)) ∧
      ((∀ n, s.plainPart p = some n → s.quietPart n = true) →
        ((s.plain p).lostLinks = [] → s.fencedCleared p = true → exec (.unfence 0 p) s =
          .next (((s.reprResult p 6 0).plainReset p).rephase p)) ∧
        ((s.plain p).lostLinks ≠ [] → exec (.unfence 0 p) s = .next (s.reprResult p 6 7)) ∧
        (s.fencedCleared p = false → exec (.unfence 0 p) s = .next (s.reprResult p 6 7))))) ∧
  (∀ (s : State) (p edge link dir plane group lane : Nat), p < 64 → edge < 4 → link < 64 → dir < 2 → plane < 2 → group < 9 → lane < 68 →
    s.pf0Writes 0 = true → s.pageReady (plainPage p 2) = true → s.reprBusy p = none → s.plnState p ≠ 4 →
    let l : Lane := { edge := edge, link := link, dir := dir, plane := plane, group := group, lane := lane }
    (s.plain p).map.lanes.contains l = false →
    ((s.plain p).map.failed edge link dir plane group < 4 → exec (.laneRespare 0 p edge link dir plane group lane) s =
      .next ((s.reprResult p 7 0).replaceLane p l)) ∧
    (4 ≤ (s.plain p).map.failed edge link dir plane group → exec (.laneRespare 0 p edge link dir plane group lane) s = .next (s.reprResult p 7 1))) ∧
  (∀ (s : State) (p : Nat) (c : Nat × Nat), (s.plain p).testing = some c →
    (exec (.retestComplete p false) s = .next (((s.updPlain p fun q =>
      { q with testing := none, cleared := q.cleared.erase c }).wf (REPR_CMD_STATUS_BUSY p) 0).wf (REPR_CMD_STATUS_RESULT p) 5)) ∧
    (exec (.retestComplete p true) s = .next ((s.updPlain p fun q =>
      { q with testing := none, cleared := q.cleared.erase c ++ [c] }).wf (REPR_CMD_STATUS_BUSY p) 0))) ∧
  (∀ (s : State) (p : Nat), p < 64 → (s.plainReset p).plnState p = 0 ∧ ∀ y, y < 64 → (s.plainReset p).rf (PLN_FENCED p y) = 0)

/-- O43. Pass lanes and hardware faults (R69, R70, R336): a replayed flit is counted; a lane whose copies differ gains an
error, and at LANE_ERR_LIMIT waits for its spare on both sides of its pass, or loses the link when the group has none;
waiting lanes are replaced at the tick with AUTO_LANE 1, and stay with it 0; a hardware fault of a tile's unit is raised on
the tile. Rests in part on the model's own choices and readings: entries 56, 62, 134 of the assumption log. -/
def Obligations.LanesAndHardware : Prop :=
  (∀ (s : State) (p edge link dir plane rim at_ : Nat), p < 64 → edge < 4 → link < 64 → dir < 2 → plane < 2 → s.plnState p ≠ 4 →
    (s.plain p).lostLinks.contains (edge, link, plane) = false →
    let s1 := (s.at at_).bump (REPR_REPLAYS p edge)
    exec (.passCrcFailure p edge link dir plane rim [] at_) s = .next s1 ∧
    (∀ g l, g < 9 → l < 68 → exec (.passCrcFailure p edge link dir plane rim [(g, l)] at_) s =
      .next (s1.laneDiffers p rim { edge := edge, link := link, dir := dir, plane := plane, group := g, lane := l }))) ∧
  (∀ (s : State) (p rim : Nat) (l : Lane), p < 64 → l.edge < 4 → (s.plain p).map.lanes.contains l = false →
    (s.plain p).lanePend.contains l = false →
    let r := (s.plain p).laneError l s.time
    (r.2 < max 1 (s.rf (REPR_CTRL_LANE_ERR_LIMIT p)) → s.laneDiffers p rim l = s.setPlain p r.1) ∧
    (max 1 (s.rf (REPR_CTRL_LANE_ERR_LIMIT p)) ≤ r.2 → r.1.groupFailed l < 4 →
      ((s.laneDiffers p rim l).plain p).lanePend = (s.plain p).lanePend ++ [l] ∧
      ∀ q, acrossEdge p l.edge = some q → ((s.laneDiffers p rim l).plain q).lanePend = (s.plain q).lanePend ++ [l.mirror]) ∧
    (max 1 (s.rf (REPR_CTRL_LANE_ERR_LIMIT p)) ≤ r.2 → 4 ≤ r.1.groupFailed l →
      s.laneDiffers p rim l = (s.setPlain p r.1).linkLost p l rim)) ∧
  (∀ (s : State) (p : Nat) (l : Lane), (s.plain p).lanePend = [l] →
    (s.rb (REPR_CTRL_AUTO_LANE p) = true → exec (.laneReplacement p) s = .next (s.replaceLane p l)) ∧
    (s.rb (REPR_CTRL_AUTO_LANE p) = false → exec (.laneReplacement p) s = .next s)) ∧
  (∀ (s : State) (t unit : Nat), unit ≤ 3 → s.plnState (plainOf t) ≠ 4 →
    (unit ≠ 2 → exec (.hardwareFaultDetect t unit) s = .next (s.raiseTile t (0x1020 + unit))) ∧
    (unit = 2 → exec (.hardwareFaultDetect t unit) s =
      .next ((s.updTile t fun x => { x with routerBad := true }).raiseTile t 0x1022)))

/-! ### Ledger and shapers -/

/-- O44. The ledger (R278 to R281): a doorbell at the west rim gives its record to the ledger; the oldest waiting one is
checked, and accepted with a new sequence number, or refused with its status and counted. Rests in part on the model's own
choices and readings: entry 82 of the assumption log. -/
def Obligations.LedgerRecords : Prop :=
  (∀ (s : State) (k : Packet) (rest : List Packet) (y : Nat), s.net = k :: rest → k.loc = .west y → gSpace k.dst = 2 →
    gModule k.dst = s.modNum → k.via = none → gOff k.dst = 0x3110 → k.ty = 0 → k.len = 8 → s.routerLive (tileAt k.srcX k.srcY) = true →
    s.frozen = false → s.pageReady (partPage k.part 3) = true → s.eccBad = [] →
    let t := tileAt k.srcX k.srcY
    let addr := bits k.payload 0 16
    let units := bits k.payload 16 2 + 1
    addr % 64 = 0 → addr + 64 * units ≤ 0xC000 → ∃ s' b, exec (.ledgerSubmit 0 .clean) s = .next s' ∧ s'.net = rest ∧
      (s'.part k.part).subs = (s.part k.part).subs ++ [b] ∧ b.bad = false ∧ b.tile = t ∧ b.units = units ∧
      b.data = s.rdMem (tkey t addr) (64 * units) ∧ BytesKept s s' ∧ RegsKept s s' []) ∧
  (∀ (s : State) (n at_ : Nat) (b : Sub) (rest : List Sub), n < 16 → (s.part n).subs = b :: rest → s.frozen = false → b.reply = false →
    let s1 := (s.at at_).updPart n fun p => { p with subs := rest }
    let e := bits b.data 0 12
    (b.ok = false ∨ s.egValid e = false ∨ s.egPart e ≠ n →
      exec (.ledgerAccept n at_) s = .next (s1.bump (PLG_REFUSED_COUNT n))) ∧
    (b.ok = true → s.egValid e = true → s.egPart e = n → s.ledgerRoom n 0 = false →
      ((s.part n).items.any fun i => i.num == bits b.data 32 32 && i.tainted) = false →
      exec (.ledgerAccept n at_) s = .next (s1.bump (PLG_REFUSED_COUNT n))) ∧
    (b.ok = true → s.egValid e = true → s.egPart e = n → s.ledgerRoom n 0 = true → s.rb PWR_STATUS_ARMED = true →
      ((s.part n).items.any fun i => i.num == bits b.data 32 32 && i.tainted) = false →
      ∃ s' r, exec (.ledgerAccept n at_) s = .next s' ∧ (s'.part n).ledger = (s.part n).ledger ++ [r] ∧ r.eses = e ∧ r.kind = 0 ∧
        r.item = bits b.data 32 32 ∧ r.seq = s.rf LDG_INCARNATION_COUNT * 2 ^ 40 + (s.egre e).count ∧
        r.len = bits b.data 64 16 ∧ r.payload = bits b.data 128 (8 * r.len) ∧ r.unarmed = false ∧
        (s'.egre e).count = (s.egre e).count + 1 ∧ BytesKept s s' ∧
        s'.rf (PLG_ACCEPTED_COUNT n) = (s.rf (PLG_ACCEPTED_COUNT n) + 1) % 2 ^ (PLG_ACCEPTED_COUNT n).w ∧
        RegsKept s s' [PLG_ACCEPTED_COUNT n, PLG_HIGH_WATER_RECORDS n]))

/-- O45. LDP and the shapers (R269, R282 to R288): an open session sends the record released first to its next hop, whose
address it asks for where it is not known, and charges the bucket with its length and 36 bytes; a record whose timer ran out
is sent again with its timer doubled, up to RTO_MAX_US; a valid ACK removes its records, and any other is counted as bad; a
record held beyond AGE_LIMIT_MS raises PARTNER_SILENT; a refill adds RATE for each microsecond that has passed, up to BURST;
a rate without a burst is refused; FORGIVE clears a debt; the pool and the capacities change only in quiet partitions. Rests
in part on the model's own choices and readings: entries 81, 84, 85, 155 of the assumption log. -/
def Obligations.LdpAndShapers : Prop :=
  (∀ (s : State) (e at_ n : Nat) (r : Rec), let s1 := (s.at at_).refillShapers
    s1.ldpOpen e = true → s1.ldpPick e = some (n, r) →
    (∀ mac, s1.egMac e = some mac → ∃ s', exec (.ldpSend e at_) s = .next s' ∧
      s'.out = Outp.ldp e mac (36 + r.len) (r.datagram (bits (s.rf (sesE e 0)) 32 32) (decide (0 < r.sends) || r.again)) :: s.out ∧
      (s.egRate e ≠ 0 → (s'.egre e).tokens = (s1.egre e).tokens - ((36 + r.len) * 65536 : Nat)) ∧
      (s.egRate e = 0 → (s'.egre e).tokens = (s1.egre e).tokens) ∧ BytesKept s s' ∧
      RegsKept s s' [PRT_TX_FRAMES_COUNT (s.egPort e)]) ∧
    (s1.egMac e = none → exec (.ldpSend e at_) s = .next (s1.askHop e))) ∧
  (∀ (s : State) (e at_ : Nat), let s1 := (s.at at_).refillShapers
    s1.ldpOpen e = false → exec (.ldpSend e at_) s = .next s1) ∧
  (∀ (s : State) (e seq at_ n : Nat) (r : Rec), let s1 := s.at at_
    ((s1.recsOf e).find? fun x => x.2.seq == seq && decide (0 < x.2.sends) && !x.2.again) = some (n, r) →
    r.lastSend + r.rto * 1000 ≤ s1.time → exec (.ldpRetransmitTimeout e seq at_) s =
      .next ((s1.updRec n e seq fun r =>
        { r with again := true, rto := min (2 * r.rto) (max r.rto (bits (s1.rf (sesE e 4)) 32 32)) }).ldpSend e)) ∧
  (∀ (s : State) (e port ip a b len data : Nat), s.rb MOD_STATUS_BACKUP_ACTIVE = false → s.rb (PRT_STATUS_LINK_UP port) = true →
    (s.ackOk e port ip a b len data = false → exec (.ldpAck e port ip a b len data) s =
      .next (s.updEgr e fun x => { x with bads := x.bads + 1 })) ∧
    (s.ackOk e port ip a b len data = true → bits data 64 16 = 1 → exec (.ldpAck e port ip a b len data) s =
      .next ((s.updEgr e fun x => { x with silent := false }).ackSeq e (bits data 128 64)))) ∧
  (∀ (s : State) (e seq n : Nat) (r : Rec), n < 16 → ((s.recsOf e).find? fun x => x.2.seq == seq) = some (n, r) →
    ((s.ackSeq e seq).part n).ledger = (s.part n).ledger.filter (fun q => !(q.eses == e && q.seq == seq)) ∧
    ((s.ackSeq e seq).egre e).acked = (s.egre e).acked + 1) ∧
  (∀ (s : State) (e at_ : Nat), let s1 := s.at at_
    let limit := bits (s1.rf (sesE e 5)) 0 32
    s1.egValid e = true → limit ≠ 0 → (s1.egre e).silent = false →
    ((s1.recsOf e).any fun x => decide (x.2.born + limit * 1000000 < s1.time)) = true →
    exec (.partnerSilent e at_) s =
      .next ((s1.updEgr e fun x => { x with silent := true }).raise 0x4006 (partPage (s1.egPart e) 3))) ∧
  (∀ (s : State) (e at_ : Nat), s.shaped = [e] →
    let s1 := s.at at_
    let k := (s1.time - s1.shaperAt) / 1000
    (k = 0 → exec (.shaperRefill at_) s = .next s1) ∧
    (k ≠ 0 → exec (.shaperRefill at_) s = .next (({ s1 with shaperAt := s1.shaperAt + 1000 * k } : State).updEgr e fun x =>
      { x with tokens := min (x.tokens + (k * (s.egRate e * 65536 / 1000000) : Nat)) (s.egBurst e * 65536 : Nat) }))) ∧
  (∀ (s : State) (e : Nat) (v : BitVec 64), e < 4096 → s.pf0Writes 0 = true → s.pageReady pgSES = true →
    let s1 := s.refillShapers
    (v.toNat % 2 ^ 40 ≠ 0 → s.egBurst e = 0 → exec (.shaperRateWrite 0 e v) s =
      .next (s1.wfs [(SES_STATUS_SHAPER_REFUSED, 1), (SES_STATUS_SHAPER_SES, e)])) ∧
    (v.toNat % 2 ^ 40 = 0 ∨ s.egBurst e ≠ 0 → exec (.shaperRateWrite 0 e v) s = .next (s1.wf (sesE e 6) (v.toNat % 2 ^ 40))) ∧
    (v.toNat % 2 ^ 24 = 0 → s.egRate e ≠ 0 → exec (.shaperBurstWrite 0 e v) s =
      .next (s1.wfs [(SES_STATUS_SHAPER_REFUSED, 1), (SES_STATUS_SHAPER_SES, e)])) ∧
    (v.toNat % 2 ^ 24 ≠ 0 ∨ s.egRate e = 0 → ∃ s', exec (.shaperBurstWrite 0 e v) s = .next s' ∧
      s'.rf (sesE e 7) = v.toNat % 2 ^ 24 ∧
      (s'.egre e).tokens = (if 0 < (s1.egre e).tokens then min (s1.egre e).tokens (v.toNat % 2 ^ 24 * 65536 : Nat) else (s1.egre e).tokens) ∧
      RegsKept s s' [sesE e 7] ∧ BytesKept s s') ∧
    exec (.forgive 0 v) s = .next (s1.updEgr (bits v.toNat 0 12) fun x => { x with tokens := max x.tokens 0 })) ∧
  (∀ (s : State) (v : BitVec 64), s.pf0Writes 0 = true → s.pageReady pgLDG = true → s.allQuiet = true → bits v.toNat 18 8 ≤ 128 →
    s.givenSlots ≤ bits v.toNat 18 8 * 8192 →
    s.keepMost (bits v.toNat 18 8) 16 s.rf ≤ 48 * 2 ^ 30 →
    exec (.ledgerPoolWrite 0 v) s = .next (s.wfs [(LDG_POOL_BASE, bits v.toNat 0 18), (LDG_POOL_PAGES, bits v.toNat 18 8)])) ∧
  (∀ (s : State) (f n : Nat) (v : BitVec 64), s.writes f n = true → s.pageReady (partPage n 3) = true →
    (s.quietPart n = true → s.givenSlots - s.rf (PLG_CAPACITY_RECORDS n) + bits v.toNat 0 21 ≤ s.poolSlots →
      exec (.ledgerCapacityWrite f n v) s =
        .next (s.wfs [(PLG_CAPACITY_RECORDS n, bits v.toNat 0 21), (PLG_CAPACITY_LATE_RESERVE n, bits v.toNat 24 12)])) ∧
    (s.quietPart n = false → exec (.ledgerCapacityWrite f n v) s = .next (s.wf LDG_STATUS_CFG_REFUSED 1)))

/-! ### Staging, the timetable, timebases, sessions -/

/-- O46. Staging (R47 to R53, R60): a staged write changes the shadow and no live value; DISCARD drops the page's shadows
and disarms it; a COMMIT is held while an apply of the page runs, refused with its reason where a check fails, left armed in
a partition that is not quiet, and applied at once in a quiet one; captured shadows become live, and a seam's captured pages
apply when it completes. Rests in part on the model's own choices and readings: entries 1, 76, 133, 156 of the assumption
log. -/
def Obligations.Staging : Prop :=
  (∀ (s : State) (n w : Nat) (v : BitVec 64), n < 16 → w < 4 → s.barUp 0 = true → s.frozen = false → s.pageReady (partPage n 2) = true →
    exec (.stagedFieldWrite 0 (partPage n 2 + 0x108 + 8 * w) v) s =
      .next (s.wsh (pttWord n (s.rf (PTT_SEL_ENTRY n)) w) (v.toNat &&& pttMask w))) ∧
  (∀ (s : State) (n : Nat) (v : BitVec 64), n < 16 → s.barUp 0 = true → s.frozen = false → s.pageReady (partPage n 0) = true →
    ∃ s', exec (.stagedFieldWrite 0 (partPage n 0 + 0x110) v) s = .next s' ∧ s'.sh (PART_GEOM_X0 n) = bits v.toNat 0 3 ∧
      s'.sh (PART_GEOM_Y0 n) = bits v.toNat 4 3 ∧ s'.sh (PART_GEOM_W n) = bits v.toNat 8 4 ∧
      s'.sh (PART_GEOM_H n) = bits v.toNat 12 4 ∧ RegsKept s s' [] ∧ BytesKept s s') ∧
  (∀ (s : State) (off : Nat) (v : BitVec 64), inSessions off = true → sessionRate off = false → off % 8 = 0 → s.barUp 0 = true →
    s.frozen = false → s.pageReady pgSES = true →
    exec (.stagedFieldWrite 0 off v) s = .next (s.wsh ⟨off, 0, 64⟩ (v.toNat &&& sessionMask off))) ∧
  (∀ (s : State) (f pg : Nat) (v : BitVec 64), s.stageable f pg = true → v.toNat.testBit 9 = true → v.toNat.testBit 8 = false →
    s.inApply pg = false → ∃ s', exec (.discard f pg v) s = .next s' ∧ s'.shadows pg = [] ∧ s'.armed pg = false ∧
      s'.rf (hSTAGE_GROUP pg) = bits v.toNat 0 4 ∧ BytesKept s s' ∧
      RegsKept s s' [hSTAGE_ARMED pg, hSTAGE_GROUP pg, hSTAGE_PART pg]) ∧
  (∀ (s : State) (f n i : Nat) (v : BitVec 64), n < 16 → i < 10 → s.stageable f (partPage n i) = true → v.toNat.testBit 8 = true →
    v.toNat.testBit 9 = false →
    (s.armed (partPage n i) = false → exec (.commit f (partPage n i) v) s =
      .next ((s.wf (hSTAGE_GROUP (partPage n i)) (bits v.toNat 0 4)).commit (partPage n i))) ∧
    (s.armed (partPage n i) = true → exec (.commit f (partPage n i) v) s = .next (s.commit (partPage n i)))) ∧
  (∀ (s : State) (pg : Nat), stagedPages.contains pg = true → s.inApply pg = false →
    let s0 := s.wf (hSTAGE_ARMED pg) 1
    let c := s0.commitCheck pg (s0.geomAfter (s.stagePart pg) (s.rf (hSTAGE_GROUP pg)))
    (c ≠ 0 → (s.commit pg).armed pg = false ∧ (s.commit pg).rf (hST_REFUSED pg) = 1 ∧ (s.commit pg).rf (hST_REASON pg) = c % 8 ∧
      BytesKept s (s.commit pg)) ∧
    (c = 0 → s0.quietPart (s.stagePart pg) = false → s.commit pg = s0) ∧
    (c = 0 → s0.quietPart (s.stagePart pg) = true →
      ((s0.groupPages (s.stagePart pg) (s.rf (hSTAGE_GROUP pg))).filter fun q => !s0.inApply q) = [pg] →
      s.commit pg = s0.applyPage pg (s0.commitSet pg))) ∧
  (∀ (s : State) (sh : SMap Nat) (k : Fk), risesFrom 0 sh = true →
    (∀ v, sget? sh k.key = some v → (s.goLive sh).rf k = v) ∧ (sget? sh k.key = none → (s.goLive sh).rf k = s.rf k)) ∧
  (∀ (s : State) (n g pg : Nat) (sh : SMap Nat), s.applies = [{ part := n, group := g, pages := [(pg, sh)] }] →
    exec (.seamApplyComplete n g) s = .next (({ s with applies := [] } : State).applyPage pg sh) ∧
    (({ s with applies := [] } : State).applyPage pg sh).armed pg = false ∧
    (({ s with applies := [] } : State).applyPage pg sh).rf (hST_APPLIED pg) = 1)

/-- O47. The timetable (R255 to R261): a service notes the crossings and fires what is due, first the least due position,
then anchors, then the lower entry; a TRIGGER starts a pulse on an output that its partition owns, and otherwise counts a
drop; a JOB sends its token, or is skipped in DRAINING, DRAINED and FAULTED, and a queue that takes no token raises
JOB_BAD_TARGET; a pulse ends after its width; REARM arms an absolute entry anew. Rests in part on the model's own choices
and readings: entries 68, 69, 70, 71, 72 of the assumption log. -/
def Obligations.Timetable : Prop :=
  (∀ (s : State) (n at_ : Nat), let s1 := (s.at at_).noteAll n
    (s.at at_).serves n = true →
    (firstDue (s1.dues n) = none → exec (.timetableService n at_) s = .next s1) ∧
    (∀ d, firstDue (s1.dues n) = some d → exec (.timetableService n at_) s = .next (State.serve n 63 (s1.fire n d)))) ∧
  (∀ (l : List Due) (d : Due), firstDue l = some d → d ∈ l ∧ ∀ x ∈ l, x.before d = false) ∧
  (∀ (s : State) (n : Nat) (d : Due), n < 16 → d.entry < 1024 → d.item = none → (s.ptt n d.entry).opens = false → (s.ptt n d.entry).kind = 1 →
    (s.ptt n d.entry).period = 0 →
    ((s.fire n d).ert n d.entry).spent = true ∧ ((s.fire n d).ert n d.entry).armed = false ∧
    (s.fire n d).rf (PTT_FIRES_COUNT n) = (s.rf (PTT_FIRES_COUNT n) + 1) % 2 ^ 64 ∧ BytesKept s (s.fire n d)) ∧
  (∀ (s : State) (n arg : Nat), let o := bits arg 0 3
    (s.owns n o = false → s.pulse n arg = s.bump (PTT_TRIG_DROPPED_COUNT n)) ∧
    (s.owns n o = true → sget {} (s.pulse n arg).outs o = { active := true, ends := s.time + bits arg 8 16 * 100 } ∧
      (s.pulse n arg).rf (TBS_TO_COUNT_PULSES o) = (s.rf (TBS_TO_COUNT_PULSES o) + 1) % 2 ^ 32 ∧
      ((sget {} s.outs o).active = false → (s.pulse n arg).out = .trigger o (!s.rb (TBS_TO_CFG_POLARITY o)) :: s.out))) ∧
  (∀ (s : State) (n e : Nat) (x : PttEntry) (item : Option Nat) (a : Int) (slip : Bool),
    let t := s.jobTile n x.arg
    let q := bits x.arg 18 3
    (s.pst n = 3 ∨ s.pst n = 4 ∨ s.pst n = 6 → s.fireJob n e x item a slip = s.bump (PTT_JOBS_SKIPPED_COUNT n)) ∧
    (s.pst n = 2 ∨ s.pst n = 5 ∨ s.pst n = 7 → s.rf (TILE_QBIND_KIND t q) ≠ 2 →
      s.fireJob n e x item a slip = s.raise 0x8005 (partPage n 2)) ∧
    (s.pst n = 2 ∨ s.pst n = 5 ∨ s.pst n = 7 → s.rf (TILE_QBIND_KIND t q) = 2 → ∃ k,
      (s.fireJob n e x item a slip).net = s.net ++ [k] ∧ k.ty = 3 ∧ k.dst = s.tileGlobal t 0 ∧ k.rq = q ∧ k.len = 64 ∧ k.part = n)) ∧
  (∀ (s : State) (n e at_ : Nat), let x := s.ptt n e
    let s1 := (s.at at_).noteCrossPart x.tb n
    let r := s1.ert n e
    s1.serves n = true → x.on = true → x.kind = 1 → s1.owns n (bits x.arg 0 3) = true → s1.rf (TBS_TB_STATUS_STATE x.tb) ≠ 3 →
    (x.rel = false → r.crossed ≠ none → r.started = false →
      exec (.triggerPulseStart n e none at_) s = .next ((s1.setErt n e { r with started := true }).pulse n x.arg)) ∧
    (∀ num i, x.rel = true → s1.item n num = some i → sget? i.crossed e ≠ none → i.done.contains e = false →
      i.started.contains e = false → exec (.triggerPulseStart n e (some num) at_) s =
        .next ((s1.updItem n num fun i => { i with started := e :: i.started }).pulse n x.arg))) ∧
  (∀ (s : State) (o at_ : Nat), (sget {} s.outs o).active = true → (sget {} s.outs o).ends ≤ max s.time at_ →
    exec (.triggerPulseEnd o at_) s =
      .next (({ s.at at_ with outs := sset {} s.outs o {} } : State).emit
        (.trigger o (s.rb (TBS_TO_CFG_POLARITY o))))) ∧
  (∀ (s : State) (f n : Nat) (v : BitVec 64), s.writes f n = true → s.pageReady (partPage n 2) = true →
    (s.ptt n (bits v.toNat 0 10)).on = true → (s.ptt n (bits v.toNat 0 10)).rel = false → exec (.rearm f n v) s =
      .next (s.armEntry n (bits v.toNat 0 10) (s.ptt n (bits v.toNat 0 10)).pos))

/-- O48. Timebases (R242 to R253, R265): a quadrature edge moves the position by one count in the direction that the other
input and DIR_INV give, and edges on both in one sample are a QUAD_ERROR; a change shorter than FILTER is a glitch; an index
pulse latches the position; a sample records the position with the module time; a timebase without edges coasts, or is LOST
and holds; a PTP offset is slewed, or stepped above STEP_LIMIT_US; a query interpolates between samples to the nearest unit;
ADJUST adds to the position. Rests in part on the model's own choices and readings: entries 64, 65, 66, 67, 75 of the
assumption log. -/
def Obligations.Timebases : Prop :=
  (∀ (s : State) (b stable at_ : Nat), b < 8 → s.rb MOD_STATUS_BACKUP_ACTIVE = false →
    (stable < s.rf (TBS_TB_CFG_FILTER b) →
      exec (.timebaseEdge [b] stable at_) s = .next ((s.at at_).bump (TBS_TB_ERRORS_GLITCHES b))) ∧
    (s.rf (TBS_TB_CFG_FILTER b) ≤ stable → s.rf (TBS_TB_CFG_MODE b) = 1 → s.rf (TBS_TB_STATUS_STATE b) = 1 →
      s.rf (TBS_TB_CFG_SRC_B b) ≠ b → (∀ m, m < 8 → m ≠ b → s.rf (TBS_TB_CFG_MODE m) = 0) →
      -(2 ^ 47) + 256 ≤ (s.tb b).pos → (s.tb b).pos < 2 ^ 47 - 256 →
      ∃ s', exec (.timebaseEdge [b] stable at_) s = .next s' ∧
        (s'.tb b).pos = (s.tb b).pos + (if (!s.levels.testBit b != s.levels.testBit (s.rf (TBS_TB_CFG_SRC_B b))) !=
          s.rb (TBS_TB_CFG_DIR_INV b) then 256 else -256) ∧
        s'.levels.testBit b = !s.levels.testBit b ∧ BytesKept s s')) ∧
  (∀ (s : State) (b : Nat), s.rf (TBS_TB_CFG_MODE b) = 1 →
    ((s.tb b).quad.filter fun t => decide (s.time < t + 1000000)).length < 15 →
    let q := s.edgeSeen b
    let l := s.time :: (s.tb b).quad.filter fun t => decide (s.time < t + 1000000)
    s.tbEdge [b, s.rf (TBS_TB_CFG_SRC_B b)] b = (q.bump (TBS_TB_ERRORS_QUAD_ERRORS b)).setTb b { q.tb b with quad := l }) ∧
  (∀ (s : State) (b : Nat), (s.rf (TBS_TB_STATUS_STATE b) = 1 → s.edgeSeen b = s.setTb b { s.tb b with quietFrom := s.time }) ∧
    (s.rf (TBS_TB_STATUS_STATE b) ≠ 1 → (s.edgeSeen b).rf (TBS_TB_STATUS_STATE b) = 1 ∧ ((s.edgeSeen b).tb b).pos = s.tbPos b ∧
      BytesKept s (s.edgeSeen b) ∧ RegsKept s (s.edgeSeen b) [TBS_TB_STATUS_STATE b])) ∧
  (∀ (s : State) (z b stable at_ : Nat), z < 8 → b < 8 → s.rb MOD_STATUS_BACKUP_ACTIVE = false → s.rf (TBS_TB_CFG_FILTER z) ≤ stable →
    s.rf (TBS_TB_CFG_MODE b) = 1 ∨ s.rf (TBS_TB_CFG_MODE b) = 2 → s.rb (TBS_TB_CFG_Z_EN b) = true → s.rf (TBS_TB_CFG_SRC_Z b) = z →
    ∃ s', exec (.indexPulse z stable at_) s = .next s' ∧ s'.rf (TBS_TB_INDEX_POS b) = ofSigned ((s.at at_).tbPos b) 48 ∧
      s'.rf (TBS_TB_STATUS_INDEX_VALID b) = 1 ∧ BytesKept s s') ∧
  (∀ (s : State) (at_ : Nat), (s.at at_).mtime % 10000 = 0 → s.rb MOD_STATUS_BACKUP_ACTIVE = false →
    exec (.historySample at_) s = .next ((s.at at_).forEach (List.range 8) State.tbSample)) ∧
  (∀ (s : State) (b : Nat), b < 8 → s.rf (TBS_TB_STATUS_STATE b) ≠ 0 → posClip (s.tbRaw b) = s.tbRaw b →
    (∀ n, n < 16 → s.pttFires n = false) →
    let sm : Sample := { time := s.mtime, pos := s.tbPos b, coast := s.rf (TBS_TB_STATUS_STATE b) == 2
                         lost := s.rf (TBS_TB_STATUS_STATE b) == 3, gap := (s.tb b).mark }
    let h := (sm :: (s.tb b).hist).take 1048576
    s.tbSample b = (s.setTb b { s.tb b with hist := h, mark := false }).wf (TBS_TB_VEL_VELOCITY b)
      (ofSigned (velocity (s.rf (TBS_TB_LOSS_VEL_WIN b)) h) 64)) ∧
  (∀ (s : State) (b at_ : Nat), b < 8 → s.rb MOD_STATUS_BACKUP_ACTIVE = false →
    let s1 := (s.at at_).noteCross b
    let s2 := (s1.irqPage pgTBS).raise 0x8003 pgTBS
    (s1.lossDue b = true → s2.rf (TBS_TB_LOSS_COAST_MS b) = 0 → exec (.encoderLoss b at_) s = .next (s2.tbLost b)) ∧
    (s1.lossDue b = true → s2.rf (TBS_TB_LOSS_COAST_MS b) ≠ 0 → ∃ s', exec (.encoderLoss b at_) s = .next s' ∧
      s'.rf (TBS_TB_STATUS_STATE b) = 2 ∧ (s'.tb b).pos = s1.tbPos b ∧ (s'.tb b).coastVel = s1.tbVel b) ∧
    (s1.rf (TBS_TB_STATUS_STATE b) = 2 → (s1.tb b).base + s1.rf (TBS_TB_LOSS_COAST_MS b) * 1000000 ≤ s1.time →
      exec (.coastExpiry b at_) s = .next (s1.tbLost b))) ∧
  (∀ (s : State) (b : Nat), b < 8 → (∀ n, n < 16 → (s.part n).items = []) →
    (s.tbLost b).rf (TBS_TB_STATUS_STATE b) = 3 ∧ ((s.tbLost b).tb b).pos = s.tbPos b) ∧
  (∀ (s : State) (port domain state rate at_ : Nat) (v6 p2p : Bool) (offset : Int), s.rb TBS_PTP_CTRL_EN = true →
    s.rf TBS_PTP_CTRL_PORT = port → s.rf TBS_PTP_CTRL_DOMAIN = domain → s.rb TBS_PTP_CTRL_IPV6 = v6 → s.rb TBS_PTP_CTRL_P2P = p2p →
    s.rb (PRT_STATUS_LINK_UP port) = true → 1 ≤ state → state ≤ 3 →
    let off := ((s.at at_).ptpSettle).ptpOff
    (offset.natAbs ≤ s.rf TBS_PTP_CTRL_STEP_LIMIT_US * 1000 →
      ∃ s', exec (.ptpMessageReceive port ⟨domain, v6, p2p⟩ offset state rate at_) s = .next s' ∧
        s'.ptpSlew = -offset ∧ s'.ptpRate = min rate 500 ∧ s'.ptpOff = off ∧ s'.ptpLast = max s.time at_ ∧ BytesKept s s' ∧
        (state = 3 ∨ s.rf TBS_PTP_STATUS_STATE < 3 →
          s'.rf TBS_PTP_STATUS_STATE = state ∧ RegsKept s s' [TBS_PTP_STATUS_OFFSET, TBS_PTP_STATUS_STATE]) ∧
        (state < 3 → s.rf TBS_PTP_STATUS_STATE = 4 → s'.rf TBS_PTP_STATUS_STATE = 4)) ∧
    (s.rf TBS_PTP_CTRL_STEP_LIMIT_US * 1000 < offset.natAbs → (∀ b, b < 8 → s.rf (TBS_TB_CFG_MODE b) ≠ 5) →
      state = 3 ∨ s.rf TBS_PTP_STATUS_STATE < 3 →
      ∃ s', exec (.ptpMessageReceive port ⟨domain, v6, p2p⟩ offset state rate at_) s = .next s' ∧ s'.ptpSlew = 0 ∧ s'.ptpOff = off - offset ∧
        s'.rf TBS_STEPS_COUNT = (s.rf TBS_STEPS_COUNT + 1) % 2 ^ (TBS_STEPS_COUNT).w ∧ ∀ b, b < 8 → (s'.tb b).mark = true)) ∧
  (∀ (s : State) (at_ : Nat), s.rf TBS_PTP_STATUS_STATE = 3 → exec (.ptpHoldoverEntry at_) s =
    .next ((((s.at at_).ptpSettle).ptpState 4).raise 0x8007 pgTBS)) ∧
  (∀ (s : State) (v : BitVec 64), s.pf0Writes 0 = true → s.pageReady pgTBS = true →
    let r := s.histAt (s.rf TBS_QUERY_TB) v.toNat
    exec (.queryTime 0 v) s = .next (r.2.2.wfs [(TBS_QUERY_RESULT_POS, ofSigned r.1 48), (TBS_QUERY_RESULT_STATUS, r.2.1)])) ∧
  (∀ (a b : Sample) (t : Nat), a.time ≤ t → t ≤ b.time → a.time < b.time →
    2 * ((interpolate a b t - a.pos) * ((b.time - a.time : Nat) : Int) - (b.pos - a.pos) * ((t - a.time : Nat) : Int)).natAbs ≤
      b.time - a.time) ∧
  (∀ (s : State) (b t : Nat) (x : Sample) (l : List Sample), (s.tb b).hist = x :: l → x.time + 100000 < t →
    s.histAt b t = (x.pos, 2, s)) ∧
  (∀ (s : State) (b : Nat) (v : BitVec 64), s.pf0Writes 0 = true → b < 8 → s.pageReady pgTBS = true →
    exec (.adjust 0 b v) s = .next (s.adjust b (bits v.toNat 0 47)))

/-- O49. Ethernet ports and ingress sessions (R268 to R276): a port's link is set, raises its event, and ETH_LINK_DOWN when
it falls; a write to MODE retrains it; a frame with a bad FCS is counted, an ARP request for the port's address is answered,
and one for another is unmatched; a datagram goes to the session that it matches, is counted as UNMATCHED where none does,
and as BADFMT where its payload is malformed; a frame that is covered whole is offered with its stamp, and a short one is
counted as incomplete; a frame times out. Rests in part on the model's own choices and readings: entries 77, 78, 79 of the
assumption log. -/
def Obligations.PortsAndSessions : Prop :=
  (∀ (s : State) (p lanes : Nat) (up : Bool), p < 8 → s.pageReady (pgPRT p) = true → s.rf (PRT_CFG_MODE p) ≠ 0 ∨ up = false →
    let s0 : State := if up then s else { s with hops := s.hops.filter fun (h : Nat × Nat) => h.1 % 8 != p }
    let s1 := s0.wfs [(PRT_STATUS_LINK_UP p, b2n up), (PRT_STATUS_LANES p, lanes &&& modeLanes (s.rf (PRT_CFG_MODE p)))]
    (s.rb (PRT_STATUS_LINK_UP p) = up → exec (.ethLinkChange p up lanes) s = .next s1) ∧
    (s.rb (PRT_STATUS_LINK_UP p) = false → up = true → exec (.ethLinkChange p up lanes) s = .next (s1.irqPage (pgPRT p))) ∧
    (s.rb (PRT_STATUS_LINK_UP p) = true → up = false →
      exec (.ethLinkChange p up lanes) s = .next ((s1.irqPage (pgPRT p)).raise 0x4003 (pgPRT p)))) ∧
  (∀ (s : State) (p : Nat) (v : BitVec 64), s.pf0Writes 0 = true → p < 8 → s.pageReady (pgPRT p) = true →
    exec (.prtModeWrite 0 p v) s = .next ((s.writeWord (pgPRT p + 0x100) v.toNat (2 ^ 64 - 1)).linkChange p false 0)) ∧
  (∀ (s : State) (p bytes a fixed bad : Nat), p < 8 → s.rb (PRT_STATUS_LINK_UP p) = true →
    let s1 := (s.bump (PRT_FEC_CORRECTED_COUNT p) fixed).bump (PRT_FEC_UNCORRECTED_COUNT p) bad
    exec (.ethFrameReceive p bytes (.arp a) false fixed bad) s = .next (s1.bump (PRT_FCS_ERRORS_COUNT p)) ∧
    (bytes ≤ s.rf (PRT_CFG_MTU p) →
      (a = s.rf (PRT_IPV4_ADDR p) → exec (.ethFrameReceive p bytes (.arp a) true fixed bad) s =
        .next (((s1.bump (PRT_RX_FRAMES_COUNT p)).bump (PRT_TX_FRAMES_COUNT p)).emit (.ethReply p (.arp a)))) ∧
      (a ≠ s.rf (PRT_IPV4_ADDR p) → exec (.ethFrameReceive p bytes (.arp a) true fixed bad) s =
        .next ((s1.bump (PRT_RX_FRAMES_COUNT p)).bump (PRT_UNMATCHED_COUNT p))) ∧
      (∀ mac, exec (.ethFrameReceive p bytes (.arpReply a mac) true fixed bad) s =
        .next { s1.bump (PRT_RX_FRAMES_COUNT p) with hops := sins s.hops (hopKey p false a) mac }))) ∧
  (∀ (s : State) (p : Nat) (d : Dgram) (from_ at_ : Nat), p < 8 → s.rb (PRT_STATUS_LINK_UP p) = true →
    s.rb MOD_STATUS_BACKUP_ACTIVE = false →
    let s1 := s.at at_
    let hit := (s1.sesListed [] 0x101000).find? (s1.matches_ p d)
    (hit = none → exec (.ingressPacket p d from_ at_) s = .next (s1.bump (PRT_UNMATCHED_COUNT p))) ∧
    (∀ i, hit = some i →
      let w6 := s.rf (sesI i 6)
      let pay := if bits (s.rf (sesI i 0)) 25 2 = 0 then rtpPayload d (bits w6 0 16) (bits w6 32 4) (bits w6 36 4)
        else linePayload d (bits w6 0 16)
      (pay = none → exec (.ingressPacket p d from_ at_) s =
        .next (s1.setIngr i { s.ingr i with badfmt := (s.ingr i).badfmt + 1 })) ∧
      (∀ pl, pay = some pl → exec (.ingressPacket p d from_ at_) s =
        .next ((s1.setIngr i ((s1.ingr i).seen pl.ext)).sessionPacket i pl from_)))) ∧
  (∀ (x : Ingress) (p q : Nat), x.ext = some p →
    ((q + 2 ^ 32 - p - 1) % 2 ^ 32 < 2 ^ 31 → x.seen (some q) = { x with ext := some q, lost := x.lost + (q + 2 ^ 32 - p - 1) % 2 ^ 32 }) ∧
    (2 ^ 31 ≤ (q + 2 ^ 32 - p - 1) % 2 ^ 32 → x.seen (some q) = x)) ∧
  (∀ (s : State) (i start : Nat) (pl : Payload), (s.ingr i).cur = none → pl.last = false →
    let x := (s.sessionPacket i pl start).ingr i
    x.frames = (s.ingr i).frames + 1 ∧ x.next = ((s.ingr i).next + 1) % 2 ^ 32 ∧
    (∃ f, x.cur = some f ∧ f.seq = (s.ingr i).next ∧ f.key = pl.key) ∧
    (s.noFrames i = true → x.dropped = (s.ingr i).dropped + 1)) ∧
  (∀ (s : State) (i : Nat) (f : Frame), (s.ingr i).cur = some f → f.dropped = false →
    let whole := covered f.got (f.got.length + 1) 0
    let total := bits (s.rf (sesI i 6)) 0 16 * bits (s.rf (sesI i 6)) 16 16
    (f.broken = true ∨ whole < total →
      s.endFrame i = s.setIngr i { s.ingr i with cur := none, incomplete := (s.ingr i).incomplete + 1 }) ∧
    (f.broken = false → total ≤ whole → f.mode ≤ 1 → bits (s.rf (sesI i 0)) 27 2 = 0 →
      let h := s.histAt (bits (s.rf (sesI i 0)) 22 3) f.first
      ((s.endFrame i).ingr i).done = { seq := f.seq, pos := h.1, time := f.first, part := f.part } :: (s.ingr i).done ∧
      ((s.endFrame i).ingr i).cur = none ∧ ((s.endFrame i).ingr i).last = f.seq)) ∧
  (∀ (s : State) (i at_ : Nat) (f : Frame), (s.ingr i).cur = some f → s.rb MOD_STATUS_BACKUP_ACTIVE = false →
    f.seen + bits (s.rf (sesI i 7)) 0 32 * 1000 ≤ max s.time at_ → exec (.frameTimeout i at_) s = .next ((s.at at_).endFrame i))

/-! ### Images, partitions, backups, the supply, the start -/

/-- O50. Image loads (R230 to R241): GO is refused with RESULT and no fault, or begins a load into a free slot, and waits
for RUN in IDLE-HOLD; ABORT ends a load with its fault; a prologue that fails a check is refused with its code; a failed
shard is asked for again up to SHARD_RETRY times and then aborts the load; after the last record a warm load's copy is
BUILT, and a cold load's copy A is live, once every plain has made bank 0 live; peers are served and counted. Rests in part
on the model's own choices and readings: entries 91, 92, 93, 95, 150, 151 of the assumption log. -/
def Obligations.ImageLoads : Prop :=
  (∀ (s : State), s.pf0Writes 0 = true → s.pageReady pgIMG = true →
    (s.keeper.idle = true → exec (.imgGo 0) s = .next (s.updKeeper fun x =>
      { x with idleExit := true, deferred := x.deferred ++ [(16, 0)] })) ∧
    (s.keeper.idle = false → s.keeper.load = none → s.keeper.reloads = [] →
      let n := s.rf IMG_LOAD_PART
      (s.rf IMG_LOAD_KIND ≠ 1 → s.rf IMG_LOAD_KIND ≠ 2 → ∃ s', exec (.imgGo 0) s = .next s' ∧ s'.rf IMG_STATUS_STATE = 4 ∧
        s'.rf IMG_STATUS_RESULT = 1 ∧ s'.keeper.load = none ∧ BytesKept s s') ∧
      (s.rf IMG_LOAD_KIND = 1 → s.imgArmed n 0 = false → s.pst n ≠ 1 → ∃ s', exec (.imgGo 0) s = .next s' ∧
        s'.rf IMG_STATUS_STATE = 4 ∧ s'.rf IMG_STATUS_RESULT = 8 ∧ s'.keeper.load = none ∧ BytesKept s s') ∧
      (∀ k, s.rf IMG_LOAD_KIND = 1 → s.imgArmed n 0 = false → s.pst n = 1 → s.badReader (s.rf IMG_LOAD_READER) = false →
        ((List.range 256).find? fun k => (sget? s.chest.imgs k).isNone) = some k → s.rb SEC_STATUS_REKEYING = false →
        ∃ s', exec (.imgGo 0) s = .next s' ∧ s'.rf IMG_STATUS_STATE = 1 ∧ s'.rf IMG_STATUS_RESULT = 0 ∧
          s'.keeper.load = some { part := n, warm := false, src := s.rf IMG_LOAD_SRC, reader := s.rf IMG_LOAD_READER, copy := 0, slot := k } ∧
          BytesKept s s')) ∧
    ((s.keeper.deferred.any (·.1 == 16)) = true → exec (.imgAbort 0) s = .next (s.updKeeper fun x =>
      { x with deferred := x.deferred ++ [(16, 2)] })) ∧
    (∀ l, s.keeper.load = some l → l.placing = false → (s.keeper.deferred.any (·.1 == 16)) = false → exec (.imgAbort 0) s =
      .next (((((s.updKeeper fun x => { x with load := none }).wfs [(IMG_STATUS_STATE, 4), (IMG_STATUS_RESULT, 17)]).updChest fun x =>
        { x with imgs := sdel x.imgs l.slot }).loadReport l false).raise 0xB011 pgIMG |>.irqPage pgIMG))) ∧
  (∀ (s : State) (l : Load) (p len : Nat), s.keeper.load = some l → l.placing = false →
    let s1 := s.wfs [(IMG_IMAGE_INFO_DEVICE, proDevice p), (IMG_IMAGE_INFO_VERSION, proVersion p)]
    let c := s1.imageCheck l p (s.srcHolds l.src)
    (c ≠ 0 → exec (.imgPrologueChecked p len []) s = .next (s1.imgRefuse c)) ∧
    (c = 0 → imageBlocks (proTotal p) ≤ s1.imageFree → exec (.imgPrologueChecked p len []) s =
      .next (s1.imgStart l p (min len (proLen p)) [])) ∧
    (c = 0 → s1.imageFree < imageBlocks (proTotal p) → exec (.imgPrologueChecked p len []) s = .next (s1.imgRefuse 19)) ∧
    (s1.imgRefuse c).rf IMG_PROGRESS_DONE = s.rf IMG_PROGRESS_DONE ∧ (s1.imgRefuse c).rf IMG_PLACEMENT_ID = s.rf IMG_PLACEMENT_ID ∧
    (strAt p 0 8 ≠ 0x0A1A414943524159 → c = 2) ∧ (strAt p 0 8 = 0x0A1A414943524159 → crc32c (bytesOf p 0xFC) = strAt p 0xFC 4 →
      strAt p 0x0A 2 ≠ 0x4B → c = 3)) ∧
  (∀ (s : State) (l : Load) (data len : Nat), s.keeper.load = some l → l.placing = true →
    l.got < proShards (sget {} s.chest.imgs l.slot).pro → s.loadHeld l = false → s.loadFenced l = none →
    (l.tries < s.rf IMG_CTRL_SHARD_RETRY →
      let s1 := (s.bump IMG_RETRIES_COUNT).updKeeper fun x => { x with load := some { l with tries := l.tries + 1 } }
      exec (.imgShardArrive l.got data len false true) s = .next (if l.src = 2 then s1.emit (.resendAsk (s.rf IMG_SPAN_FROM_MODULE) l.got)
        else s1.fetchShard l (sget {} s.chest.imgs l.slot).pro l.got)) ∧
    (s.rf IMG_CTRL_SHARD_RETRY ≤ l.tries →
      exec (.imgShardArrive l.got data len false true) s = .next ((s.wf IMG_STATUS_SHARD l.got).imgAbort 11)) ∧
    (len = shardLen (sget {} s.chest.imgs l.slot).pro l.got → data < 2 ^ (8 * len) → l.secs = [] →
      crc32c (bytesOf data len) = shardCrc (sget {} s.chest.imgs l.slot).pro l.got →
      proSigned (sget {} s.chest.imgs l.slot).pro = false →
      ∃ s' l', exec (.imgShardArrive l.got data len true true) s = .next s' ∧ s'.keeper.load = some l' ∧ l'.got = l.got + 1 ∧
        l'.tries = 0 ∧ sget? (sget {} s'.chest.imgs l.slot).shards l.got = some data ∧
        s'.rf IMG_PROGRESS_DONE = (s.rf IMG_PROGRESS_DONE + 1) % 2 ^ (IMG_PROGRESS_DONE).w)) ∧
  (∀ (s : State) (l : Load), s.keeper.load = some l → l.src = 1 →
    (l.placing = true → l.got < proShards (sget {} s.chest.imgs l.slot).pro → l.tries < s.rf IMG_CTRL_SHARD_RETRY →
      exec (.nvmeReadTimeout l.got) s = .next (((s.bump IMG_RETRIES_COUNT).updKeeper fun x =>
        { x with load := some { l with tries := l.tries + 1 } }).fetchShard l (sget {} s.chest.imgs l.slot).pro l.got)) ∧
    (l.conns < 2 → exec .nvmeConnectFail s =
      .next ((s.updKeeper fun x => { x with load := some { l with conns := l.conns + 1 } }).emit (.nvmeConnect s.nvmeTarget))) ∧
    (2 ≤ l.conns → exec .nvmeConnectFail s = .next (s.imgAbort 18))) ∧
  (∀ (s : State) (l : Load), s.keeper.load = some l → l.placing = true → l.placed = true → s.allZeroed l = true → l.part < 16 →
    l.copy < 2 → l.slot < 256 → s.loadHeld l = false → s.loadFenced l = none →
    ∃ s', exec .imgLoadDone s = .next s' ∧ s'.rf IMG_STATUS_STATE = 3 ∧ s'.rf IMG_STATUS_RESULT = 0 ∧ s'.keeper.load = none ∧
      (l.warm = true → s'.copyState l.part l.copy = 2 ∧ BytesKept s s') ∧
      (l.warm = false → s'.copyState l.part 0 = 3 ∧ sget? s'.keeper.coldSlot l.part = some (l.slot + 1))) ∧
  (∀ (s : State) (l : Load), s.keeper.load = some l → l.placing = true → l.placed = false ∨ s.allZeroed l = false →
    exec .imgLoadDone s = .next s) ∧
  (∀ (s : State) (m i k : Nat), s.peerOf m = some k →
    let key := (k * 2 ^ 32 + m) * 2 ^ 32 + i
    ((sget? (sget {} s.chest.imgs k).shards i).isSome = true → sget 0 s.keeper.resends key < s.rf IMG_CTRL_SHARD_RETRY →
      exec (.imgResendRequest m i) s = .next (((s.updKeeper fun x =>
        { x with resends := sins x.resends key (sget 0 x.resends key + 1) }).bump IMG_RETRIES_COUNT).emit (.peerShard m i))) ∧
    (s.keeper.peers = [(m, k)] → s.keeper.resends = [] →
      let s1 := s.updKeeper fun x => { x with peers := [] }
      (k = s.keeper.peerSlot →
        exec (.imgPeerReport m true) s = .next (s1.bump IMG_PEERS_PEERS_DONE).freeSlots ∧
        exec (.imgPeerReport m false) s = .next (s1.bump IMG_PEERS_PEERS_FAILED).freeSlots) ∧
      (∀ ok, k ≠ s.keeper.peerSlot → exec (.imgPeerReport m ok) s = .next s1.freeSlots)) ∧
    (∀ ok, ∃ s', exec (.imgPeerReport m ok) s = .next s' ∧ s'.keeper.peers = s.keeper.peers.erase (m, k) ∧ BytesKept s s'))

/-- O51. Partitions (R40 to R46, R352, R353): START, STOP, DRAIN, RESUME and PAUSE move a partition as Table CS-12 says and
are rejected in every other state, and wait in the order of arrival in IDLE-HOLD; a drain completes when the partition is
drained, and raises DRAIN_TIMEOUT after DRAIN_LIMIT; a partition reset ends in STOPPED or EMPTY and is held while a backup
runs; a management reset takes PF0 away until it completes. Rests in part on the model's own choices and readings: entries
99, 100, 101, 102 of the assumption log. -/
def Obligations.Partitions : Prop :=
  (∀ (s : State) (f n : Nat), s.writes f n = true → s.pageReady (partPage n 0) = true → s.keeper.idle = false →
    (s.pst n = 1 → s.hasImage n = true → s.coldLoading n = false → s.rb FLT_STATUS_HALTED = false →
      exec (.start f n) s = .next ((s.armAll n).runPart n)) ∧
    (s.pst n ≠ 1 ∨ s.hasImage n = false ∨ s.coldLoading n = true ∨ s.rb FLT_STATUS_HALTED = true → exec (.start f n) s =
      .next (s.wfs [(PART_STATE_CMD_REJECTED n, 1), (PART_STATE_LAST_CMD n, 1)])) ∧
    (s.pst n = 5 ∨ s.pst n = 4 → exec (.stop f n) s = .next ((s.setPst n 1).closeItems n 4 fun _ => true)) ∧
    (s.pst n ≠ 5 → s.pst n ≠ 4 → exec (.stop f n) s =
      .next (s.wfs [(PART_STATE_CMD_REJECTED n, 1), (PART_STATE_LAST_CMD n, 2)])) ∧
    (s.pst n = 2 ∨ s.pst n = 7 ∨ s.pst n = 5 → exec (.drain f n) s =
      .next (((s.updPart n fun p => { p with drainFrom := s.time, drainRaised := false }).setPst n 3).promotePart n)) ∧
    (s.pst n = 5 ∨ s.pst n = 4 → s.rb FLT_STATUS_HALTED = false → exec (.resume f n) s = .next (s.runPart n)) ∧
    (s.pst n ≠ 2 → s.pst n ≠ 7 → s.pst n ≠ 5 → exec (.drain f n) s =
      .next (s.wfs [(PART_STATE_CMD_REJECTED n, 1), (PART_STATE_LAST_CMD n, 3)])) ∧
    ((s.pst n ≠ 5 ∧ s.pst n ≠ 4) ∨ s.rb FLT_STATUS_HALTED = true → exec (.resume f n) s =
      .next (s.wfs [(PART_STATE_CMD_REJECTED n, 1), (PART_STATE_LAST_CMD n, 4)])) ∧
    (s.pst n = 2 ∨ s.pst n = 7 → exec (.pause f n) s = .next (s.setPst n 5)) ∧
    (s.pst n ≠ 2 → s.pst n ≠ 7 → exec (.pause f n) s =
      .next (s.wfs [(PART_STATE_CMD_REJECTED n, 1), (PART_STATE_LAST_CMD n, 5)]))) ∧
  (∀ (s : State) (f n : Nat), s.writes f n = true → s.pageReady (partPage n 0) = true → s.keeper.idle = true →
    exec (.start f n) s = .next (s.updKeeper fun x => { x with idleExit := true, deferred := x.deferred ++ [(n, 1)] }) ∧
    exec (.resume f n) s = .next (s.updKeeper fun x => { x with idleExit := true, deferred := x.deferred ++ [(n, 4)] }) ∧
    (s.cmdWaits n = true → exec (.stop f n) s = .next (s.updKeeper fun x => { x with idleExit := true, deferred := x.deferred ++ [(n, 2)] }) ∧
      exec (.drain f n) s = .next (s.updKeeper fun x => { x with idleExit := true, deferred := x.deferred ++ [(n, 3)] }) ∧
      exec (.pause f n) s = .next (s.updKeeper fun x => { x with idleExit := true, deferred := x.deferred ++ [(n, 5)] }))) ∧
  (∀ (s : State) (n : Nat), n < 16 →
    (s.partImpaired n = false → (s.runPart n).pst n = 2 ∧ BytesKept s (s.runPart n)) ∧
    (s.partImpaired n = true → (s.runPart n).pst n = 7 ∧ (s.runPart n).rf (PFLT_STATUS_CAUSE n) = 3)) ∧
  (∀ (s : State) (n at_ : Nat), n < 16 → s.pst n = 3 →
    (s.drained n = true → exec (.drainComplete n) s = .next (s.setPst n 4)) ∧
    (s.drained n = false → exec (.drainComplete n) s = .next s) ∧
    ((s.part n).drainRaised = false → (s.part n).drainFrom + s.rf (PART_DRAIN_LIMIT_MICROSECONDS n) * 1000 ≤ max s.time at_ →
      exec (.drainTimeout n at_) s =
        .next (((s.at at_).updPart n fun p => { p with drainRaised := true }).raise 0xB001 (partPage n 0)))) ∧
  (∀ (s : State) (f n : Nat), s.reaches f n = true → s.pageReady (partPage n 0) = true → s.cmdWaits n = false →
    (s.frozen = true → exec (.partitionReset f n) s =
      .next (({ s with heldResets := s.heldResets ++ [.part n false] } : State).wf MOD_STATUS_RESET_HELD 1)) ∧
    (s.frozen = false → s.restoring = false → s.pst n ≠ 8 → exec (.partitionReset f n) s = .next (s.partResetGo n) ∧
      ((s.partResetGo n).part n).halts = [] ∧ ((s.partResetGo n).part n).sweep = none ∧ ((s.partResetGo n).part n).dma = [] ∧
      ((s.partResetGo n).part n).recoveries = [])) ∧
  (∀ (s : State) (n : Nat), n < 16 → s.pst n = 8 →
    (∀ p, p ∈ s.plainsOf n → (s.plain p).repair = none ∧ (s.plain p).resetWait = false) →
    (s.pcie.vfReset.contains (n + 1) = false →
      exec (.partitionResetComplete n) s = .next (s.setPst n (if s.emptyGeom n then 0 else 1))) ∧
    (s.pcie.vfReset.contains (n + 1) = true → ∃ s', exec (.partitionResetComplete n) s = .next s' ∧
      s'.out = .flrDone (n + 1) :: s.out ∧ s'.pst n = (if s.emptyGeom n then 0 else 1) ∧ BytesKept s s')) ∧
  (∀ (s : State) (k : Nat), 1 ≤ k → k ≤ 16 → s.fnUp k = true → s.rb MOD_STATUS_READY = true → exec (.vfFunctionLevelReset k) s =
    .next (if s.cmdWaits (k - 1) then s.updKeeper fun x => { x with deferred := x.deferred ++ [(k - 1, 7)] }
      else s.partReset (k - 1) true)) ∧
  (∀ (s : State), s.pcie.l0 = true → s.frozen = false → s.restoring = false → s.pcie.mgmtReset = false → s.keeper.load = none →
    ∃ s', exec .managementReset s = .next s' ∧ s'.pcie.mgmtReset = true ∧ s'.pf0Epoch = (s.pf0Epoch + 1) % 65536 ∧
      s'.fnUp 0 = false ∧ BytesKept s s') ∧
  (∀ (s : State), exec .managementResetComplete s = .next { s with pcie := { s.pcie with mgmtReset := false } }) ∧
  (∀ (s : State) (f g n : Nat) (l : List Instr), step { s with pending := .stop f n :: .start g n :: l } =
    exec (.stop f n) { s with pending := .start g n :: l })

/-- O52. Backup and restore (R299 to R312): a settled freeze captures the keep data; the backup is held, opens its record in
the slot with room for it, is written, and its commit puts it into the slot with RESULT and restarts or powers down; with no
slot no backup is taken, and an exhausted pack tears it; each phase of a restore runs once, in order, and its exit waits
until every partition has finished and the W2 is armed. Rests in part on the model's own choices and readings: entries 88,
89, 103, 104, 105, 106 of the assumption log. -/
def Obligations.BackupAndRestore : Prop :=
  (∀ (s : State) (at_ : Nat) (b : Backup), s.keeper.backup = some b →
    (b.phase = 1 → s.unsettled = false → ∃ s' b', exec (.backupFreezeComplete at_) s = .next s' ∧ s'.keeper.backup = some b' ∧
      b'.phase = 2 ∧ b'.snap.seq = max (s.rf (CHST_BSLOT_SEQ 0)) (s.rf (CHST_BSLOT_SEQ 1)) + 1 ∧ b'.snap.latches = s.latches ∧
      b'.slot = b.slot ∧ s'.rf KEEP_SEQ_STATE = 2 ∧ BytesKept s s') ∧
    (b.phase = 1 → s.unsettled = true → exec (.backupFreezeComplete at_) s = .next (s.at at_)) ∧
    (b.phase = 2 → ∃ s', exec (.backupHeld at_) s = .next s' ∧ s'.pcie.l0 = false ∧ s'.keeper.held = true ∧
      s'.keeper.backup = some { b with phase := 3 } ∧ s'.rf PWR_STATUS_STATE = 4 ∧
      (∀ p, p < 8 → s'.rf (PRT_STATUS_LINK_UP p) = 0) ∧ BytesKept s s') ∧
    (b.phase = 3 → s.backupSlot b.bytes = none → exec (.backupOpenRecord at_) s =
      .next (((s.at at_).wk KEEP_BACKUP_RESULT 3).powerOff)) ∧
    (∀ k, b.phase = 3 → s.backupSlot b.bytes = some k → k < 2 → ∃ s', exec (.backupOpenRecord at_) s = .next s' ∧
      s'.keeper.backup = some { b with phase := 4, slot := k } ∧ s'.rf (CHST_BSLOT_STATE k) = 2 ∧
      s'.rf KEEP_RESTORE_PENDING = 0 ∧ BytesKept s s') ∧
    (b.phase = 4 → let rs := s.fenceRegions b.snap.regions
      ∃ s', exec (.backupWriteComplete 0 at_) s = .next s' ∧ s'.keeper.backup =
        some { b with phase := 5, snap := { b.snap with regions := rs }, bytes := s.backupBytes rs } ∧
      s'.rf KEEP_SEQ_STATE = 3 ∧ BytesKept s s') ∧
    (∀ e, b.phase = 5 → ∃ s1 : State, s1.rf KEEP_BACKUP_RESULT = 1 ∧ s1.rf KEEP_RESTORE_PENDING = 1 ∧
      sget? s1.chest.snaps b.slot = some b.snap ∧ s1.rf PWR_PACK_ENERGY_J = e % 2 ^ (PWR_PACK_ENERGY_J).w ∧
      exec (.backupCommit e at_) s = .next (if b.restored then s1.moduleRestart 4 else s1.powerOff)) ∧
    exec (.packEnergyExhausted at_) s = .next (s.at at_).tear) ∧
  (∀ (s : State), s.tear.keeper.torn = true ∧ s.tear.keeper.phase = 0 ∧ s.tear.keeper.backup = none) ∧
  (∀ (s : State) (r : Restore) (n rebuilt at_ : Nat) (lost : List Nat), s.keeper.restore = some r →
    let s1 := (s.at at_).bump KEEP_REBUILT_COUNT rebuilt
    (r.step = 1 → exec (.restorePhaseComplete 2 n [] rebuilt at_) s =
      .next ((s1.putSystem r.snap r.parts).updRestore fun r => { r with step := 2 })) ∧
    (r.step = 1 → lost ≠ [] → exec (.restorePhaseComplete 2 n lost rebuilt at_) s = .next (s1.systemLost r)) ∧
    (r.step = 2 → exec (.restorePhaseComplete 3 n lost rebuilt at_) s =
      .next ((s1.putRegions r.snap lost).updRestore fun r => { r with step := 3 })) ∧
    (r.step = 3 → r.parts.contains n = true → r.loaded.contains n = false → exec (.restorePhaseComplete 4 n [] rebuilt at_) s =
      .next ((s1.putImage n false).updRestore fun r => { r with loaded := r.loaded ++ [n] })) ∧
    (r.loaded.contains n = true → r.kept.contains n = false → exec (.restorePhaseComplete 5 n lost rebuilt at_) s =
      .next ((s1.putHandles r.snap n lost).updRestore fun r => { r with kept := r.kept ++ [n] }))) ∧
  (∀ (s : State) (r : Restore) (energy at_ : Nat), s.keeper.restore = some r →
    let s0 := (s.at at_).wf PWR_PACK_ENERGY_J energy
    (r.parts.all r.kept.contains = false ∨ s0.armable = false → exec (.restoreExit energy at_) s = .next s) ∧
    (r.step = 3 → r.parts = [] → r.cold = [] → s0.armable = true → s.heldResets = [] → ∃ s',
      exec (.restoreExit energy at_) s = .next s' ∧ s'.keeper.restore = none ∧ s'.rf KEEP_RESTORE_RESULT = 1 ∧
      s'.rb PWR_STATUS_ARMED = true ∧ s'.rf KEEP_SEQ_STATE = 0 ∧ BytesKept s s'))

/-- O53. The supply and the pack (R290 to R298, R304, R384): a low supply is SLOW and ends so, and raises SUPPLY_LOW; a
short dip is SLOW too, and counted; a power-fail, or more than 61 V, isolates the input; a plain stretches by one step when
the droop passes its threshold and one back when it has stayed below it for RELEASE_US, and raises PLAIN_DROOP at MAX_STEP;
a charged and faultless W2 is armed, and a pack fault ends that; the handle keeps are counted again after an apply. Rests in
part on the model's own choices and readings: entries 86, 90, 103 of the assumption log. -/
def Obligations.SupplyAndPack : Prop :=
  (∀ (s : State) (mv at_ : Nat), s.onInput = true →
    (mv < 46000 → s.keeper.low = false → exec (.supplyLow mv at_) s =
      .next ((((((s.at at_).measure mv).updKeeper fun k => { k with low := true }).setSlow).setSupply.setCharging).raise 0xA001 pgPWR)) ∧
    (mv < 46000 → s.keeper.low = true → exec (.supplyLow mv at_) s = .next ((s.at at_).measure mv)) ∧
    (47000 ≤ mv → s.keeper.low = true ∨ s.keeper.dip = true → s.rb PWR_CTRL_FORCE_SLOW = false → ∃ s',
      exec (.supplyLowEnd mv at_) s = .next s' ∧ s'.keeper.low = false ∧ s'.keeper.dip = false ∧ s'.rb PWR_STATUS_SLOW = false ∧ s'.rf PWR_SUPPLY_MV_NOW = mv % 2 ^ (PWR_SUPPLY_MV_NOW).w ∧ BytesKept s s') ∧
    (∀ lo, lo < 42000 → 42000 ≤ mv → exec (.supplyDipEnd lo mv at_) s =
      .next ((((((s.at at_).measure lo).measure mv).updKeeper fun k => { k with dip := true }).setSlow).bump PWR_LOW_DIPS_COUNT)) ∧
    (mv < 42000 → exec (.powerFail mv at_) s = .next ((s.at at_).measure mv).powerFail) ∧
    (61000 < mv → exec (.overvoltIsolate mv at_) s = .next ((s.at at_).measure mv).powerFail) ∧
    (58000 < mv → s.keeper.overV = false → exec (.overvolt mv at_) s =
      .next (((((s.at at_).measure mv).updKeeper fun k => { k with overV := true }).setSupply).raise 0xA002 pgPWR)) ∧
    (mv ≤ 58000 → s.keeper.overV = true → exec (.overvoltEnd mv at_) s =
      .next ((((s.at at_).measure mv).updKeeper fun k => { k with overV := false }).setSupply))) ∧
  (∀ (s : State), s.keeper.low = true ∨ s.keeper.dip = true → (s.setSlow).rb PWR_STATUS_SLOW = true) ∧
  (∀ (s : State) (mv at_ : Nat) (b : Backup), s.keeper.backup = some b → 46000 ≤ mv → exec (.supplyRestored mv at_) s =
    .next (((s.at at_).measure mv).updKeeper fun k => { k with backup := some { b with restored := true } })) ∧
  (∀ (s : State) (p mv at_ : Nat), s.plainClocked p = true →
    let k := s.rf (DRP_STATUS_STEP p)
    (k < s.maxStep p → s.threshold p (k + 1) < mv → ∃ s', exec (.droopStepUp p mv at_) s = .next s' ∧
      s'.rf (DRP_STATUS_STEP p) = k + 1 ∧ s'.rf (DRP_STATUS_DROOP_MV p) = min mv 255 ∧ BytesKept s s') ∧
    (mv ≤ s.threshold p (k + 1) → exec (.droopStepUp p mv at_) s = .next ((s.at at_).droopRead p mv)) ∧
    (k ≠ 0 → k ≤ 4 → mv + 10 ≤ s.threshold p k → (s.at at_).released p k = true → ∃ s', exec (.droopStepDown p mv at_) s = .next s' ∧
      s'.rf (DRP_STATUS_STEP p) = k - 1 ∧ BytesKept s s') ∧
    ((s.at at_).released p k = false → exec (.droopStepDown p mv at_) s = .next ((s.at at_).droopRead p mv))) ∧
  (∀ (s : State) (p at_ t : Nat), p < 64 → (s.plain p).maxSince = some t → (s.plain p).droopRaised = false →
    s.maxStep p ≤ s.rf (DRP_STATUS_STEP p) →
    t + s.rf (DRP_CTRL_LIMIT_MS p) * 1000000 < max s.time at_ → exec (.plainDroop p at_) s =
      .next (((s.at at_).updPlain p fun q => { q with droopRaised := true }).raise 0xA003 (plainPage p 3))) ∧
  (∀ (s : State) (p at_ t : Nat), (s.plain p).maxSince = some t → max s.time at_ ≤ t + s.rf (DRP_CTRL_LIMIT_MS p) * 1000000 →
    exec (.plainDroop p at_) s = .next (s.at at_)) ∧
  (∀ (s : State) (v : BitVec 64), s.pf0Writes 0 = true → s.pageReady pgPWR = true →
    exec (.pwrCtrlWrite 0 v) s = .next (((s.writeWord (pgPWR + 0x108) v.toNat (2 ^ 64 - 1)).setSlow).setCharging)) ∧
  (∀ (s : State) (energy est at_ : Nat), s.powered = true → s.rb MOD_STATUS_KEEPER_UP = true → s.frozen = false → ∃ s',
    exec (.armEvaluate energy est at_) s = .next s' ∧
    s'.rb PWR_STATUS_ARMED = (((s.at at_).wfs [(PWR_PACK_ENERGY_J, energy), (PWR_ARM_TIME_SECONDS, est)]).armable && !s.restoring) ∧
    BytesKept s s') ∧
  (∀ (s : State) (cap at_ : Nat), s.powered = true → s.rb MOD_STATUS_KEEPER_UP = true →
    (4200 ≤ cap → exec (.packCapacityMeasure cap at_) s = .next (((s.at at_).wk PWR_PACK_CAPACITY_J cap).setCharging)) ∧
    (cap < 4200 → exec (.packCapacityMeasure cap at_) s =
      .next ((((s.at at_).wk PWR_PACK_CAPACITY_J cap).setCharging).raise 0xA004 pgPWR))) ∧
  (∀ (s : State), s.powered = true →
    exec .packFault s = .next (s.updKeeper fun k => { k with packBad := true }).packFault ∧
    (s.keeper.latchOpen = false → exec .packLatchOpen s = .next (s.updKeeper fun k => { k with latchOpen := true }).packFault) ∧
    exec .packLatchClose s = .next (s.updKeeper fun k => { k with latchOpen := false }).setPackOk) ∧
  (∀ (s : State) (n : Nat), n < 16 → (s.part n).recount = true → s.keepables n = [] →
    exec (.keepRecount n) s = .next (s.updPart n fun p => { p with recount := false }))

/-- O54. The start and the power states (R352 to R366, R391): the input starts the Keeper; each step of Table RS-2 follows
the one before it; a group of plains leaves OFF; the W2 is READY no earlier than a second after L0, and INCARNATION
advances; MOD.RESET and PERST# restart a W2 that is up; the link trains after PERST#; IDLE-HOLD and BENCH-RETAIN are entered
in quiet modules and left by RUN. Rests in part on the model's own choices and readings: entries 6, 102, 107, 108, 158 of
the assumption log. -/
def Obligations.StartAndPower : Prop :=
  (∀ (s : State) (mv rtc at_ : Nat), s.keeper.phase = 0 → 46000 ≤ mv → ∃ s', exec (.coldStart mv rtc at_) s = .next s' ∧
    s'.keeper.phase = 1 ∧ s'.mtime = rtc % 2 ^ 64 ∧ s'.rf PWR_SUPPLY_MV_NOW = mv % 2 ^ (PWR_SUPPLY_MV_NOW).w ∧ BytesKept s s') ∧
  (∀ (s : State) (at_ : Nat) (ok : Bool), s.keeper.phase = 1 → s.rb MOD_STATUS_KEEPER_UP = true → ∃ s',
    exec (.controlBlockUp ⟨ok, at_⟩) s = .next s' ∧ s'.keeper.phase = 2 ∧ s'.keeper.seqOk = ok ∧ BytesKept s s' ∧ ∀ pg, earlyPages.contains pg = true → s'.rb (hSTATUS_READY pg) = true) ∧
  (∀ (s : State) (g at_ : Nat), s.keeper.phase = 2 ∨ s.keeper.phase = 3 → s.keeper.bench = false → g = s.keeper.groups → g < 16 →
    ∃ s', exec (.plainGroupPowerUp g [] at_) s = .next s' ∧ s'.keeper.phase = 3 ∧ s'.keeper.groups = g + 1 ∧
      (∀ p, 4 * g ≤ p → p < 4 * g + 4 → s'.plnState p = 0) ∧ BytesKept s s' ∧
      RegsKept s s' ((List.range 4).map fun i => PLN_STATE_STATE (4 * g + i))) ∧
  (∀ (s : State) (at_ : Nat), s.keeper.phase = 3 → s.keeper.groups = 16 → ∃ s', exec (.passTrainingComplete at_) s = .next s' ∧
    s'.keeper.phase = 4 ∧ (∀ p, p < 64 → s'.rf (MESH_ROUND_COUNT p) = 0) ∧ BytesKept s s') ∧
  (∀ (s : State) (at_ : Nat), s.keeper.phase = 4 → ∃ s', exec (.edgeTrainingComplete [] at_) s = .next s' ∧ s'.keeper.phase = 5 ∧
    s'.rf EDGE_STATUS_TRAINED = 255 ∧ (∀ pg, rimPages.contains pg = true → s'.rb (hSTATUS_READY pg) = true) ∧ BytesKept s s') ∧
  (∀ (s : State) (at_ : Nat), s.keeper.phase = 5 → s.rb MOD_STATUS_KEEPER_UP = true → ∃ s', exec (.kFieldsLoaded at_) s = .next s' ∧
    s'.keeper.phase = 6 ∧ BytesKept s s') ∧
  (∀ (s : State) (rtc at_ t0 : Nat), s.keeper.l0At = some t0 → s.keeper.phase = 6 → s.rb MOD_STATUS_KEEPER_UP = true →
    (max s.time at_ < t0 + 1000000000 → exec (.moduleReady rtc at_) s = .next (s.at at_)) ∧
    (t0 + 1000000000 ≤ max s.time at_ → s.keeper.benchKept = false → s.rb MOD_STATUS_WARM = false → ∃ s',
      exec (.moduleReady rtc at_) s = .next s' ∧ s'.keeper.phase = 7 ∧ s'.rb MOD_STATUS_READY = true ∧
      s'.rf LDG_INCARNATION_COUNT = (s.rf LDG_INCARNATION_COUNT + 1) % 2 ^ (LDG_INCARNATION_COUNT).w ∧
      (∀ pg, latePages.contains pg = true → s'.rb (hSTATUS_READY pg) = true) ∧ BytesKept s s')) ∧
  (∀ (s : State) (v : BitVec 64) (at_ : Nat), s.fnUp 0 = true → s.pageReady pgMOD = true → v.toNat.testBit 0 = true →
    bits v.toNat 48 16 = 0x4B57 → s.keeper.phase = 7 → s.keeper.benchEntry = false → s.keeper.bench = false →
    (s.frozen = false → exec (.moduleResetWrite v at_) s = .next ((s.at at_).moduleRestart 2)) ∧
    (s.frozen = true → exec (.moduleResetWrite v at_) s = .next ((s.at at_).holdReset (.module 2)))) ∧
  (∀ (s : State) (cause : Nat), (s.moduleRestart cause).keeper.phase = 1 ∧ (s.moduleRestart cause).keeper.cause = cause ∧
    (s.moduleRestart cause).mem = [] ∧ (s.moduleRestart cause).pcie.l0 = false ∧
    (s.moduleRestart cause).pf0Epoch = (s.pf0Epoch + 1) % 65536) ∧
  (∀ (s : State) (at_ : Nat), s.pcie.perst = false → s.frozen = false → s.keeper.phase = 7 → s.keeper.benchEntry = false →
    s.keeper.bench = false → exec (.perstAssert at_) s =
      .next (({ s.at at_ with pcie := { s.pcie with perst := true } } : State).moduleRestart 1)) ∧
  (∀ (s : State) (at_ : Nat), s.pcie.perst = true → exec (.perstRelease at_) s =
    .next (({ s.at at_ with pcie := { s.pcie with perst := false } } : State).updKeeper fun k => { k with perstAt := max s.time at_ })) ∧
  (∀ (s : State) (speed width at_ : Nat) (flit : Bool), s.pcie.perst = false → s.pcie.l0 = false → 2 ≤ s.keeper.phase → s.frozen = false →
    s.keeper.perstAt + 60000000 ≤ max s.time at_ → ∃ s', exec (.pcieLinkL0 speed width flit at_) s = .next s' ∧ s'.pcie.l0 = true ∧
      s'.keeper.l0At = some (max s.time at_) ∧ BytesKept s s' ∧ RegsKept s s' [HST_LINK_SPEED, HST_LINK_WIDTH, HST_LINK_FLIT]) ∧
  (∀ (s : State) (at_ : Nat), s.pf0Writes 0 = true → s.pageReady pgMOD = true →
    (s.allQuiet = true → s.keeper.load = none → s.rb MOD_STATUS_READY = true → s.keeper.bench = false → s.keeper.held = false →
      ∃ s', exec (.idleHoldRequest 0) s = .next s' ∧ s'.keeper.idle = true ∧ s'.rf PWR_STATUS_STATE = 2 ∧ s'.rf MOD_PSTATE_REQ = 1 ∧
        BytesKept s s') ∧
    (s.allQuiet = false → exec (.idleHoldRequest 0) s = .next (s.wfs [(MOD_PSTATE_REFUSED, 1), (MOD_PSTATE_REASON, 1)])) ∧
    (∀ key : BitVec 16, key ≠ 0x4252 → exec (.benchRetainRequest 0 key) s =
      .next (s.wfs [(MOD_PSTATE_REFUSED, 1), (MOD_PSTATE_REASON, 6)])) ∧
    (s.rb MOD_STATUS_READY = true → ((List.range 16).all fun n => s.pst n == 0 || s.pst n == 1) = true → s.keeper.load = none →
      ((List.range 16).all fun n => s.occupancy n == 0) = true → s.rb KEEP_RESTORE_PENDING = false → s.rb CHST_UCFG_EN = false →
      exec (.benchRetainRequest 0 0x4252) s = .next ((s.wfs [(MOD_PSTATE_REQ, 2), (MOD_STATUS_READY, 0)]).updKeeper fun k =>
        { k with benchEntry := true, benchReset := none, spilled := s.spillEntries })) ∧
    (s.keeper.benchEntry = false → s.keeper.bench = false → s.keeper.idle = true → exec (.runRequest 0 at_) s =
      .next (((s.at at_).wf MOD_PSTATE_REQ 0).updKeeper fun k => { k with idleExit := true }))) ∧
  (∀ (s : State) (at_ : Nat), s.keeper.idle = true → s.keeper.idleExit = true → s.keeper.deferred = [] →
    exec (.idleHoldExitComplete at_) s =
      .next ((s.at at_).updKeeper fun k => { k with idle := false, idleExit := false, deferred := [] }).setPwr) ∧
  (∀ (s : State) (at_ : Nat), s.keeper.benchEntry = true → s.keeper.spilled = [] → s.keeper.benchReset = none → ∃ s',
    exec (.benchRetainEntered at_) s = .next s' ∧ s'.keeper.bench = true ∧ s'.keeper.benchEntry = false ∧
    (∀ a, benchKey a = true → s'.byte a = s.byte a) ∧ (∀ a, benchKey a = false → s'.byte a = 0))

/-! ### The Chest, the Keeper, faults, identity, the connector, the register surface -/

/-- O55. The Chest (R312 to R328): RELEASE retires committed slots; the background erase makes a retired slot READY; a
well-formed descriptor is performed and one that is not ends in BAD_DESC; an erased block is blank, a programmed page reads
as its data, a page below the next one is NOT_BLANK; the oldest descriptor is written back; the zone moves unless the image
store needs its blocks. Rests in part on the model's own choices and readings: entries 106, 109, 110, 112, 113 of the
assumption log. -/
def Obligations.ChestZones : Prop :=
  (∀ (s : State) (v : BitVec 64), s.pf0Writes 0 = true → s.pageReady pgCHST = true → v.toNat.testBit 0 = true →
    bits v.toNat 48 16 = 0x524C → s.restoring = false → s.frozen = false → ∃ s', exec (.chstRelease 0 v) s = .next s' ∧
      s'.rf KEEP_RESTORE_PENDING = 0 ∧ (∀ k, k < 2 → s'.rf (CHST_BSLOT_STATE k) =
        if s.rf (CHST_BSLOT_STATE k) = 3 then 4 else s.rf (CHST_BSLOT_STATE k)) ∧ BytesKept s s') ∧
  (∀ (s : State) (f : Nat) (v : BitVec 64), v.toNat.testBit 0 = false ∨ bits v.toNat 48 16 ≠ 0x524C ∨ s.restoring = true ∨ s.frozen = true →
    exec (.chstRelease f v) s = .next s) ∧
  (∀ (s : State) (k : Nat), s.rb MOD_STATUS_KEEPER_UP = true → s.frozen = false → s.rb SEC_STATUS_REKEYING = false →
    (k < 2 → s.rf (CHST_BSLOT_STATE k) = 1 ∨ s.rf (CHST_BSLOT_STATE k) = 4 ∨ s.rf (CHST_BSLOT_STATE k) = 5 → ∃ s',
      exec (.chestBackgroundEraseComplete false k 0 0) s = .next s' ∧ s'.rf (CHST_BSLOT_STATE k) = 0 ∧
      sget? s'.chest.snaps k = none ∧ BytesKept s s') ∧
    (∀ x, sget? s.chest.imgs k = some x → x.freed = true → exec (.chestBackgroundEraseComplete true k 0 0) s =
      .next ((s.updChest fun c => { c with imgs := sdel c.imgs k }).eraseFails 0))) ∧
  (∀ (s : State) (steps corrected : Nat), s.rb MOD_STATUS_KEEPER_UP = true → 5 ≤ steps → steps ≤ 8 →
    exec (.chestRefreshRewrite steps corrected) s = .next ((s.bump CHST_RETRIES_COUNT steps).bump CHST_CORRECTED_COUNT corrected)) ∧
  (∀ (s : State) (c : Nat), c < 32 → s.powered = true → s.chest.dead.contains c = false →
    exec (.channelFail c) s = .next ((s.updChest fun x => { x with dead := c :: x.dead }).raise 0x6006 pgCHST)) ∧
  (∀ (s : State) (v : BitVec 64), s.pf0Writes 0 = true → s.pageReady pgCHST = true →
    exec (.chestUtailWrite 0 v) s = .next (s.writeWord (pgCHST + 0x138) v.toNat (2 ^ 64 - 1)) ∧
    (let s1 := s.writeWord (pgCHST + 0x130) v.toNat (2 ^ 64 - 1)
     (s.rb CHST_UCFG_EN = true ∨ s1.rb CHST_UCFG_EN = false → exec (.chestUcfgWrite 0 v) s = .next s1) ∧
     (s.rb CHST_UCFG_EN = false → s1.rb CHST_UCFG_EN = true → exec (.chestUcfgWrite 0 v) s =
       .next ((s1.wfs [(CHST_UHEAD_STOPPED, 0), (CHST_UHEAD_LAST_ERR, 0)]).updChest fun c =>
         { c with fetch := (s1.rf CHST_UHEAD_HEAD + c.ring.length) % s1.uringSize })))) ∧
  (∀ (s : State) (w0 w1 w2 w3 : BitVec 64) (data fixed bits_ : Nat) (step : Option Nat) (err pass : Bool), s.uringGo = true →
    (udescBad w0.toNat w1.toNat w2.toNat w3.toNat = true → exec (.chestErase w0 w1 w2 w3 pass) s = .next (s.uringDone w1.toNat 12)) ∧
    (udescBad w0.toNat w1.toNat w2.toNat w3.toNat = false → bits w1.toNat 16 12 < s.rf CHST_ZONE_USER_BLOCKS →
      (bits w1.toNat 0 4 = 1 → exec (.chestErase w0 w1 w2 w3 pass) s =
        .next ((s.chestErase w1.toNat pass).1.uringDone w1.toNat (s.chestErase w1.toNat pass).2)) ∧
      (bits w1.toNat 0 4 = 2 → exec (.chestProgram w0 w1 w2 w3 data err pass) s =
        .next ((s.chestProgram w1.toNat data err pass).1.uringDone w1.toNat (s.chestProgram w1.toNat data err pass).2)) ∧
      (bits w1.toNat 0 4 = 3 → exec (.chestRead w0 w1 w2 w3 step fixed bits_ err) s =
        .next ((s.chestRead w0.toNat w1.toNat step fixed bits_ err).1.uringDone w1.toNat
          (s.chestRead w0.toNat w1.toNat step fixed bits_ err).2)) ∧
      (bits w1.toNat 0 4 = 4 → exec (.chestInfo w0 w1 w2 w3 err) s =
        .next ((s.chestInfo w0.toNat w1.toNat err).1.uringDone w1.toNat (s.chestInfo w0.toNat w1.toNat err).2)))) ∧
  (∀ (s : State) (w0 w1 data fixed bits_ : Nat), let k := s.ublockKey w1
    let b := s.ublock k
    let page := bits w1 32 10
    (b.st ≠ 2 → (s.chestErase w1 true).2 = 1 ∧ ((s.chestErase w1 true).1.ublock k).st = 0 ∧
      ((s.chestErase w1 true).1.ublock k).pages = [] ∧ ((s.chestErase w1 true).1.ublock k).next = 0 ∧
      ((s.chestErase w1 true).1.ublock k).wear = b.wear + (if w1.testBit 4 then 1 else 10)) ∧
    (b.st = 2 → s.chestErase w1 true = (s, 5) ∧ s.chestProgram w1 data false true = (s, 5)) ∧
    (b.st = 0 ∨ b.st = 1 → b.pslc = w1.testBit 4 → b.pslc = true ∨ page % 3 = 0 → page + progPages (w1.testBit 4) ≤ b.size →
      (page < b.next → s.chestProgram w1 data false true = (s, 2)) ∧
      (b.next ≤ page → (s.chestProgram w1 data false true).2 = 1 ∧ ((s.chestProgram w1 data false true).1.ublock k).st = 1 ∧
        ((s.chestProgram w1 data false true).1.ublock k).next = page + progPages (w1.testBit 4) ∧
        ∀ i, i < progPages (w1.testBit 4) → sget? ((s.chestProgram w1 data false true).1.ublock k).pages (page + i) =
          some (bits data (131072 * i) 131072))) ∧
    (∀ v, b.st ≠ 3 → page < b.size → sget? b.pages page = some v →
      (s.chestRead w0 w1 (some 0) fixed bits_ false).1.out = .hostWrite w0 16384 v :: s.out ∧
      (s.chestRead w0 w1 (some 0) fixed bits_ false).2 % 256 = 1)) ∧
  (∀ (s : State) (d : UDesc) (rest : List UDesc), s.chest.ring = d :: rest → s.rb MOD_STATUS_KEEPER_UP = true → s.pcie.l0 = true →
    s.frozen = false → bits d.w3 0 8 ≠ 11 → bits d.w3 0 8 ≠ 12 → d.w1.testBit 5 = false → exec .chestWriteback s =
      .next ((((s.updChest fun c => { c with ring := rest }).emit (.hostWrite d.addr 8 d.w3))).wfs
        [(CHST_UHEAD_HEAD, (d.index + 1) % s.uringSize), (CHST_UHEAD_BUSY, b2n !rest.isEmpty)])) ∧
  (∀ (s : State) (v : BitVec 64) (clash : Bool), s.pf0Writes 0 = true → s.pageReady pgCHST = true → s.keeper.restore = none →
    s.keeper.load = none →
    (bits v.toNat 0 13 ≤ s.rf CHST_ZONE_USER_BLOCKS → bits v.toNat 0 13 ≤ 4096 → ∃ s', exec (.chestZoneWrite 0 v clash) s = .next s' ∧
      s'.rf CHST_ZONE_USER_BLOCKS = bits v.toNat 0 13 ∧ BytesKept s s' ∧ RegsKept s s' [CHST_ZONE_USER_BLOCKS]) ∧
    (s.rf CHST_ZONE_USER_BLOCKS < bits v.toNat 0 13 → bits v.toNat 0 13 ≤ 4096 → s.chest.imgs ≠ [] →
      exec (.chestZoneWrite 0 v true) s = .next (s.wf CHST_STATUS_ZONE_REFUSED 1)))

/-- O56. The Keeper's firmware (R329 to R333, R357): UPDATE begins step 1 into the other slot and is BUSY while one runs;
each step follows the one before it, and a failed step ends the update with its slot INVALID; a slot on trial is confirmed
after a minute; a watchdog expiry, a lockstep error and RESTART stop the Keeper, which comes up again in the slot that the
newest selector word names. Rests in part on the model's own choices and readings: entries 114, 115, 116 of the assumption
log. -/
def Obligations.KeeperFirmware : Prop :=
  (∀ (s : State), s.pf0Writes 0 = true → s.pageReady pgCHST = true →
    (s.chest.fwStep = 0 → s.keeper.restore = none → s.onTrial = false → ∃ s', exec (.fwUpdate 0) s = .next s' ∧ s'.chest.fwStep = 1 ∧
      s'.chest.fwSlot = 1 - s.chest.fwRun ∧ s'.rf CHST_FW_STATUS_STATE = 1 ∧ s'.rf CHST_FW_STATUS_RESULT = 0 ∧ BytesKept s s' ∧
      RegsKept s s' [CHST_FW_STATUS_STATE, CHST_FW_STATUS_RESULT]) ∧
    (s.chest.fwStep ≠ 0 → exec (.fwUpdate 0) s = .next (s.wf CHST_FW_STATUS_RESULT 1)) ∧
    (s.rf CHST_FW_STATUS_STATE = 5 → s.rb MOD_STATUS_KEEPER_UP = true → exec (.fwRestart 0) s = .next (s.keeperDown false)) ∧
    (s.rf CHST_FW_STATUS_STATE ≠ 5 → exec (.fwRestart 0) s = .next s)) ∧
  (∀ (s : State) (wd : Bool), (s.keeperDown wd).rb MOD_STATUS_KEEPER_UP = false ∧ (s.keeperDown wd).rf PWR_STATUS_CHARGING = 0) ∧
  (∀ (s : State) (pro len : Nat), s.rb MOD_STATUS_KEEPER_UP = true → s.frozen = false → s.chest.fwSlot < 2 →
    (s.chest.fwStep = 1 → ∃ s', exec (.fwUpdateStepComplete pro len true) s = .next s' ∧ BytesKept s s' ∧
      (s.fwCheck pro = 0 → s'.chest.fwStep = 2 ∧ s'.rf CHST_FW_STATUS_STATE = 2 ∧ s'.rf (CHST_FW_SLOT_STATE s.chest.fwSlot) = 3) ∧
      (s.fwCheck pro ≠ 0 → s'.chest.fwStep = 0 ∧ s'.rf CHST_FW_STATUS_STATE = 6 ∧
        s'.rf CHST_FW_STATUS_RESULT = s.fwCheck pro % 256)) ∧
    (s.chest.fwStep = 2 → ∃ s', exec (.fwUpdateStepComplete pro len true) s = .next s' ∧ s'.chest.fwStep = 3 ∧
      s'.rf CHST_FW_STATUS_STATE = 3 ∧ BytesKept s s') ∧
    (s.chest.fwStep = 2 → ∃ s', exec (.fwUpdateStepComplete pro len false) s = .next s' ∧ s'.chest.fwStep = 0 ∧
      s'.rf CHST_FW_STATUS_STATE = 6 ∧ s'.rf CHST_FW_STATUS_RESULT = 32 ∧ s'.rf (CHST_FW_SLOT_STATE s.chest.fwSlot) = 3 ∧ BytesKept s s') ∧
    (s.chest.fwStep = 3 → ∃ s', exec (.fwUpdateStepComplete pro len true) s = .next s' ∧ s'.chest.fwStep = 4 ∧
      sget? s'.chest.fwPro s.chest.fwSlot = some s.chest.fwNew ∧ s'.rf CHST_FW_STATUS_STATE = 4 ∧ BytesKept s s') ∧
    (s.chest.fwStep = 4 → ∃ s', exec (.fwUpdateStepComplete pro len true) s = .next s' ∧ s'.chest.fwStep = 5 ∧
      s'.rf (CHST_FW_SLOT_STATE s.chest.fwSlot) = 1 ∧ BytesKept s s') ∧
    (s.chest.fwStep = 5 → ∃ s', exec (.fwUpdateStepComplete pro len true) s = .next s' ∧ s'.chest.fwStep = 6 ∧
      s'.rf CHST_FW_STATUS_STATE = 5 ∧ s'.rb (CHST_FW_SLOT_TRIAL s.chest.fwSlot) = true ∧ BytesKept s s')) ∧
  (∀ (s : State) (at_ : Nat), s.rb MOD_STATUS_KEEPER_UP = true → s.chest.fwRun < 2 → s.onTrial = true → s.frozen = false →
    (s.chest.trialFrom + 60000000000 ≤ max s.time at_ → ∃ s', exec (.fwTrialConfirm at_) s = .next s' ∧
      s'.rf (CHST_FW_SLOT_STATE s.chest.fwRun) = 2 ∧ s'.rb (CHST_FW_SLOT_TRIAL s.chest.fwRun) = false ∧ s'.chest.fwStep = 0 ∧
      BytesKept s s') ∧
    (max s.time at_ < s.chest.trialFrom + 60000000000 → exec (.fwTrialConfirm at_) s = .next (s.at at_))) ∧
  (∀ (s : State) (at_ : Nat), s.powered = true →
    exec (.keeperWatchdogExpiry at_) s =
      .next ((((s.at at_).bump KEEP_WDOG_RESTARTS_COUNT).keeperDown true).raise 0x7001 pgKEEP) ∧
    exec (.keeperLockstepError at_) s = .next (((s.at at_).keeperDown false).raise 0x7002 pgKEEP)) ∧
  (∀ (s : State) (at_ j : Nat) (x : Sel), s.powered = true → s.rb MOD_STATUS_KEEPER_UP = false → s.frozen = false →
    s.selNewest = some (j, x) → x.trial = false → x.slot < 2 → s.rf (CHST_FW_SLOT_STATE x.slot) ≠ 3 →
    s.rf (CHST_FW_SLOT_STATE x.slot) ≠ 0 → s.chest.dead = [] → ∃ s', exec (.keeperUp true true true true true at_) s = .next s' ∧
      s'.rb MOD_STATUS_KEEPER_UP = true ∧ s'.rf KEEP_FW_SLOT = x.slot ∧ s'.chest.fwRun = x.slot ∧
      s'.rf (CHST_FW_SLOT_STATE x.slot) = 2 ∧ BytesKept s s')

/-- O57. Faults and recovery (R338 to R351): the first record of a page is kept and later ones are counted; a masked class
is counted and leaves no record; no source reacts below its minimum; CLEAR empties a record; a reaction in range is written,
and one out of range refused; an override holds for its source; a partition recovers after its quiet period unless that
exceeds the limit, when it is STICKY. Rests in part on the model's own choices and readings: entries 62, 117 of the
assumption log. -/
def Obligations.FaultsAndRecovery : Prop :=
  (∀ (s : State) (code pg src tb r : Nat), (pageAt pg).isSome = true → pg % 0x1000 = 0 →
    (s.rb (hSTATUS_FAULT_VALID pg) = false → let t := s.latchFault code pg src tb r
      t.rf (hFIRST_CODE pg) = code % 2 ^ 16 ∧ t.rf (hFIRST_REACT pg) = r % 16 ∧ t.rf (hFIRST_TIME pg) = s.mtime / 256 % 2 ^ 44 ∧
      t.rf (hMORE_COUNT pg) = 0 ∧ t.rb (hSTATUS_FAULT_VALID pg) = true ∧ BytesKept s t) ∧
    (s.rb (hSTATUS_FAULT_VALID pg) = true → s.latchFault code pg src tb r = (s.sat (hMORE_COUNT pg)).wf (hMORE_OVERFLOW pg) 1)) ∧
  (∀ (s : State) (code pg src tb r : Nat), s.maskedOn code pg = true → s.offer code pg src tb r = s.bump FLT_MASKED_COUNT) ∧
  (∀ (s : State) (code pg : Nat) (parts : List Nat), faultMin code ≤ s.selectReact code pg parts) ∧
  (∀ (s : State) (f n i : Nat), n < 16 → i < 10 → s.writes f n = true → s.pageReady (partPage n i) = true → i ≠ 7 →
    ∃ s', exec (.faultClear f (partPage n i)) s = .next s' ∧ s'.rb (hSTATUS_FAULT_VALID (partPage n i)) = false ∧
      s'.rf (hFIRST_CODE (partPage n i)) = 0 ∧ s'.rf (hMORE_COUNT (partPage n i)) = 0 ∧ BytesKept s s') ∧
  (∀ (s : State) (p : Nat) (v : BitVec 64), p < 64 → s.pf0Writes 0 = true → s.pageReady (plainPage p 0) = true →
    (reactOk (v.toNat % 2 ^ 48) = true → ∃ s', exec (.faultReactWrite 0 (plainPage p 0) v) s = .next s' ∧
      (∀ c, c < 12 → s'.rf (hREACT (plainPage p 0) c) = bits v.toNat (4 * c) 4) ∧ BytesKept s s' ∧
      RegsKept s s' ((List.range 12).map (hREACT (plainPage p 0)))) ∧
    (reactOk (v.toNat % 2 ^ 48) = false →
      exec (.faultReactWrite 0 (plainPage p 0) v) s = .next (s.wf FLT_STATUS_REACT_REFUSED 1))) ∧
  (∀ (s : State) (v : BitVec 64), s.pf0Writes 0 = true → s.pageReady pgFLT = true → faultCodes.contains (s.rf FLT_SRC_SEL_CODE) = true →
    let c := s.rf FLT_SRC_SEL_CODE
    let range := reactRange (faultClass c)
    (v.toNat.testBit 4 = true → range.1 ≤ bits v.toNat 0 4 → bits v.toNat 0 4 ≤ range.2 → exec (.faultOverrideWrite 0 v) s =
      .next (s.wfs [(ovrREACT c, bits v.toNat 0 4), (ovrEN c, 1)])) ∧
    (v.toNat.testBit 4 = true → bits v.toNat 0 4 < range.1 ∨ range.2 < bits v.toNat 0 4 → exec (.faultOverrideWrite 0 v) s =
      .next (s.wf FLT_STATUS_OVR_REFUSED 1))) ∧
  (∀ (s : State) (n at_ : Nat), n < 16 → s.frozen = false → s.rb (PFLT_STATUS_STICKY n) = false → s.recoverable n = true →
    (s.at at_).quietOver n = true →
    ((s.at at_).rf (PFLT_CTRL_RECOVERY_LIMIT n) < ((s.at at_).recentRecoveries n).length + 1 → exec (.partitionRecovery n at_) s =
      .next (((s.at at_).wf (PFLT_STATUS_STICKY n) 1).irqPart n 1)) ∧
    (((s.at at_).recentRecoveries n).length + 1 ≤ s.rf (PFLT_CTRL_RECOVERY_LIMIT n) → ∃ s',
      exec (.partitionRecovery n at_) s = .next s' ∧ (s'.pst n = 2 ∨ s'.pst n = 7) ∧
      s'.rf (PFLT_RECOVERIES_COUNT n) = (s.rf (PFLT_RECOVERIES_COUNT n) + 1) % 2 ^ (PFLT_RECOVERIES_COUNT n).w ∧ BytesKept s s')) ∧
  (∀ (s : State) (f n : Nat), s.writes f n = true → s.pageReady (partPage n 9) = true →
    (s.rb FLT_STATUS_HALTED = true → exec (.stickyClear f n) s = .next s) ∧
    (s.rb FLT_STATUS_HALTED = false → s.rb (PFLT_STATUS_STICKY n) = true → ∃ s', exec (.stickyClear f n) s = .next s' ∧
      s'.rb (PFLT_STATUS_STICKY n) = false ∧ (s'.part n).recoveries = [] ∧ BytesKept s s')) ∧
  (∀ (s : State), s.pf0Writes 0 = true → s.pageReady pgFLT = true → exec (.haltedClear 0) s = .next (s.wf FLT_STATUS_HALTED 0))

/-- O58. Identity (R368 to R379): discovery names the mailbox's two protocols; the SPDM requests are answered in order, and
Busy while the Keeper is down; measurements are the values of the state at the request; a re-key makes new keys and erases,
and completes; an image key is programmed once and revoked for good; the JTAG lock opens to a signed live nonce, and three
failures lock it out. Rests in part on the model's own choices and readings: entries 96, 97, 118, 119, 120 of the assumption
log. -/
def Obligations.Identity : Prop :=
  (∀ (s : State), s.doeUp = true →
    exec (.doeDiscovery 0) s = .next (s.emit (.doe (.discovery 0 1 0 1))) ∧
    exec (.doeDiscovery 1) s = .next (s.emit (.doe (.discovery 1 1 1 0))) ∧
    (s.rb MOD_STATUS_KEEPER_UP = false → exec .getVersion s = .next (s.emit (.doe .busy)) ∧ exec .getDigests s = .next (s.emit (.doe .busy))) ∧
    (s.rb MOD_STATUS_KEEPER_UP = true →
      exec .getVersion s = .next ((s.updKeeper fun k => { k with spdm := 1 }).emit (.doe (.version [0x12, 0x13]))) ∧
      (1 ≤ s.keeper.spdm → exec .getCapabilities s = .next ((s.updKeeper fun k => { k with spdm := 2 }).emit (.doe .capabilities))) ∧
      (2 ≤ s.keeper.spdm → exec (.negotiateAlgorithms true true) s =
        .next ((s.updKeeper fun k => { k with spdm := 3 }).emit (.doe .algorithms))) ∧
      exec .spdmUnsupportedRequest s = .next (s.emit (.doe .unsupported)) ∧
      (s.keeper.spdm < 3 → exec .getDigests s = .next (s.emit (.doe .unexpected))) ∧
      (3 ≤ s.keeper.spdm →
        exec .getDigests s = .next (s.emit (.doe (.digests 1 (Config.sha384 Config.certLen Config.certChain % 2 ^ 384)))) ∧
        (∀ off len, let n := min len (Config.certLen - off)
          exec (.getCertificate 0 off len) s = .next (s.emit (.doe (if off < Config.certLen then
            .certificate off n (Config.certLen - off - n) (bits Config.certChain (8 * off) (8 * n)) else .invalid)))) ∧
        (∀ tr, exec (.spdmChallenge 0 tr) s = .next (s.emit (.doe (.challengeAuth (Config.identitySign tr))))) ∧
        (∀ i tr, measureIndices.contains i = true → exec (.getMeasurements i false tr) s =
          .next (s.emit (.doe (.measurements [(i, s.measurement i)] 0))))))) ∧
  (∀ (s : State) (v : BitVec 64), s.pf0Writes 0 = true → s.pageReady pgSEC = true → v.toNat.testBit 0 = true →
    bits v.toNat 48 16 = 0x524B → ((List.range 16).all fun n => s.pst n == 0 || s.pst n == 1) = true → s.keeper.restore = none →
    s.rb SEC_STATUS_REKEYING = false → s.rb MOD_STATUS_KEEPER_UP = true → s.keeper.load = none → ∃ s', exec (.rekey 0 v) s = .next s' ∧
      s'.rb SEC_STATUS_REKEYING = true ∧ s'.chest.snaps = [] ∧ s'.chest.imgs = [] ∧ s'.rb CHST_STATUS_KEY_OK = true ∧
      s'.rf KEEP_RESTORE_PENDING = 0 ∧ (∀ k, k < 2 → s'.rf (CHST_BSLOT_STATE k) = 1) ∧ BytesKept s s') ∧
  (∀ (s : State) (at_ : Nat), s.rb SEC_STATUS_REKEYING = true → s.rb MOD_STATUS_KEEPER_UP = true → s.frozen = false → ∃ s',
    exec (.rekeyComplete at_) s = .next s' ∧ s'.rb SEC_STATUS_REKEYING = false ∧ (∀ k, k < 2 → s'.rf (CHST_BSLOT_STATE k) = 0) ∧
    BytesKept s s') ∧
  (∀ (s : State) (slot : Nat), s.pf0Writes 0 = true → s.pageReady pgSEC = true → slot < 4 →
    let st := bits (s.rf SEC_IMGKEY_STATUS_STATES) (2 * slot) 2
    let key := s.words6 (SEC_IMGKEY_X_X slot) + 2 ^ 384 * s.words6 (SEC_IMGKEY_Y_Y slot)
    (st = 0 → s.rf SEC_IMGKEY_STATUS_STATES < 256 → ∃ s', exec (.imgkeyProgram 0 slot) s = .next s' ∧ BytesKept s s' ∧
      (Config.onCurve key = true → sget? s'.keeper.imgKeys slot = some key ∧
        bits (s'.rf SEC_IMGKEY_STATUS_STATES) (2 * slot) 2 = 1) ∧
      (Config.onCurve key = false → s' = s.wf SEC_IMGKEY_STATUS_REFUSED 1)) ∧
    (st ≠ 0 → exec (.imgkeyProgram 0 slot) s = .next (s.wf SEC_IMGKEY_STATUS_REFUSED 1)) ∧
    (st ≠ 2 → s.rf SEC_IMGKEY_STATUS_STATES < 256 → ∃ s', exec (.imgkeyRevoke 0 slot 0x5256) s = .next s' ∧
      sget? s'.keeper.imgKeys slot = none ∧ bits (s'.rf SEC_IMGKEY_STATUS_STATES) (2 * slot) 2 = 2) ∧
    (∀ key : BitVec 16, key ≠ 0x5256 → exec (.imgkeyRevoke 0 slot key) s = .next (s.wf SEC_IMGKEY_STATUS_REFUSED 1))) ∧
  (∀ (s : State) (at_ : Nat), s.pf0Writes 0 = true → s.pageReady pgSEC = true →
    (s.rb SEC_JTAG_STATE_LOCKOUT = false → ∃ s', exec (.jtagChallenge 0 at_) s = .next s' ∧ s'.rf SEC_JTAG_STATE_STATE = 1 ∧
      s'.keeper.nonce = some (Config.freeValue s.freeCtr % 2 ^ 384, max s.time at_) ∧ BytesKept s s') ∧
    (s.rb SEC_JTAG_STATE_LOCKOUT = true → exec (.jtagChallenge 0 at_) s = .next (s.at at_)) ∧
    (∀ scope, (s.at at_).liveNonce = none → ∃ s', exec (.jtagVerify 0 scope at_) s = .next s' ∧ s'.rf SEC_JTAG_STATE_STATE = 0 ∧
      s'.rf SEC_JTAG_STATE_FAILS = min 3 (s.rf SEC_JTAG_STATE_FAILS + 1) ∧
      (2 ≤ s.rf SEC_JTAG_STATE_FAILS → s'.rb SEC_JTAG_STATE_LOCKOUT = true) ∧ BytesKept s s') ∧
    (∀ v scope, 2 ≤ scope → scope < 4 → (s.at at_).liveNonce = some v → s.kept SEC_FUSE_STATE_DEBUG_KEY_SET = 1 →
      ∃ s', exec (.jtagVerify 0 scope at_) s = .next s' ∧ s'.keeper.nonce = none ∧ BytesKept s s' ∧
        s'.rf SEC_JTAG_STATE_STATE = if Config.ecdsaOk Config.debugKey (Config.sha384 97 (s.jtagMessage v scope))
          (s.words6 SEC_JTAG_RESP_SIG) (s.words6 fun j => SEC_JTAG_RESP_SIG (6 + j)) then scope else 0) ∧
    (∃ s', exec (.jtagRelock 0) s = .next s' ∧ s'.rf SEC_JTAG_STATE_STATE = 0 ∧ s'.keeper.nonce = none ∧ BytesKept s s')) ∧
  (∀ (s : State) (at_ v t0 : Nat), s.keeper.nonce = some (v, t0) → t0 + 60000000000 ≤ max s.time at_ → s.rf SEC_JTAG_STATE_STATE = 1 →
    ∃ s', exec (.jtagNonceExpiry at_) s = .next s' ∧ s'.rf SEC_JTAG_STATE_STATE = 0 ∧ s'.keeper.nonce = none ∧ BytesKept s s')

/-- O59. The connector (R336, R380 to R393): a receiver fault sets the conditions that the voltages meet and its end clears
those that they do not; a hot plain and bad coolant raise their faults once, and a plain at 115 °C is full-fenced; the SMBus
answers while VIO and power are there; the TAP takes what its lock state allows. Rests in part on the model's own choices
and readings: entries 121, 122 of the assumption log. -/
def Obligations.Connector : Prop :=
  (∀ (s : State) (i at_ : Nat) (vid vcm : Int), i < 8 → s.powered = true → s.keeper.bench = false →
    (∃ s', exec (.rxFaultDetect i vid vcm at_) s = .next s' ∧ s'.rb (TBS_TB_RX_OPEN i) = (s.rb (TBS_TB_RX_OPEN i) || rxOpen vid vcm) ∧
      s'.rb (TBS_TB_RX_SHORT i) = (s.rb (TBS_TB_RX_SHORT i) || rxShort vid vcm) ∧
      s'.rb (TBS_TB_RX_CM i) = (s.rb (TBS_TB_RX_CM i) || rxCm vcm) ∧ s'.rf (TBS_TB_RX_VID_MV i) = ofSigned vid 16 ∧ BytesKept s s') ∧
    (∃ s', exec (.rxFaultClear i vid vcm at_) s = .next s' ∧ s'.rb (TBS_TB_RX_OPEN i) = (s.rb (TBS_TB_RX_OPEN i) && rxOpen vid vcm) ∧
      s'.rb (TBS_TB_RX_SHORT i) = (s.rb (TBS_TB_RX_SHORT i) && rxShort vid vcm) ∧
      s'.rb (TBS_TB_RX_CM i) = (s.rb (TBS_TB_RX_CM i) && rxCm vcm) ∧ BytesKept s s')) ∧
  (∀ (s : State) (p at_ : Nat) (temp : Int), s.sensed p = true →
    (s.warnC p ≤ temp → (s.plain p).warn = false → exec (.thermalWarn p temp at_) s =
      .next ((((s.at at_).tempRead p temp).updPlain p fun q => { q with warn := true }).raise 0x9001 (plainPage p 3))) ∧
    (s.warnC p ≤ temp → (s.plain p).warn = true → exec (.thermalWarn p temp at_) s = .next ((s.at at_).tempRead p temp)) ∧
    (s.critC p ≤ temp → (s.plain p).crit = false → exec (.thermalCrit p temp at_) s =
      .next ((((s.at at_).tempRead p temp).updPlain p fun q => { q with crit := true }).raise 0x9002 (plainPage p 3))) ∧
    (115 ≤ temp → exec (.thermalHardwareTrip p temp at_) s =
      .next ((((s.at at_).tempRead p temp).doFence p 3).critical p)) ∧
    exec (.thermalFaultClear (some p) temp 0 0 0 0 at_) s = .next (((s.at at_).tempRead p temp).updPlain p fun q =>
      { q with warn := q.warn && decide (s.warnC p ≤ temp), crit := q.crit && decide (s.critC p ≤ temp) })) ∧
  (∀ (s : State) (flow inlet outlet drop at_ : Nat), s.powered = true →
    let s1 := (s.at at_).coolRead flow inlet outlet drop
    (flow < s.rf PWR_COOLANT_LIMITS_FLOW_MIN → s.keeper.flowBad = false → exec (.coolantFlow flow inlet outlet drop at_) s =
      .next ((s1.updKeeper fun k => { k with flowBad := true }).raise 0x9003 pgPWR)) ∧
    (s.rf PWR_COOLANT_LIMITS_INLET_MAX_C < inlet → s.keeper.hotInlet = false → exec (.coolantTemp flow inlet outlet drop at_) s =
      .next ((s1.updKeeper fun k => { k with hotInlet := true }).raise 0x9004 pgPWR)) ∧
    exec (.thermalFaultClear none 0 flow inlet outlet drop at_) s = .next (s1.updKeeper fun k =>
      { k with flowBad := k.flowBad && decide (flow < s.rf PWR_COOLANT_LIMITS_FLOW_MIN)
               hotInlet := k.hotInlet && decide (s.rf PWR_COOLANT_LIMITS_INLET_MAX_C < inlet) })) ∧
  (∀ (s : State), s.smbusUp = true →
    (∃ d, exec .smbusStatus s = .next (s.emit (.smbus 8 d)) ∧ bits d 0 1 = s.rf MOD_STATUS_READY % 2) ∧
    (∃ d, exec .smbusIdHash s = .next (s.emit (.smbus 48 d)) ∧ d % 2 ^ 64 = s.kept (SEC_ID_HASH_HASH 0) % 2 ^ 64) ∧
    (∃ d, exec .smbusSupply s = .next (s.emit (.smbus 8 d)) ∧ d % 2 ^ 16 = s.rf PWR_SUPPLY_MV_NOW % 2 ^ 16) ∧
    (∃ d, exec .smbusTemps s = .next (s.emit (.smbus 64 d)) ∧ d % 2 ^ 8 = s.rf (DRP_TEMP_NOW_C 0) % 2 ^ 8) ∧
    (∃ d, exec .smbusCoolant s = .next (s.emit (.smbus 8 d)) ∧ d % 2 ^ 16 = s.rf PWR_COOLANT_FLOW % 2 ^ 16) ∧
    (∃ d, exec .smbusFault s = .next (s.emit (.smbus 16 d)) ∧ d % 2 ^ 64 = s.readHeader (pgFLT + 0x20) % 2 ^ 64) ∧
    (∀ adr, adr < 8 → (s.keeper.alert = true → exec (.smbusAlertResponse adr) s =
        .next ((s.updKeeper fun k => { k with alert := false }).emit (.smbusAddr (0x58 + adr)))) ∧
      (s.keeper.alert = false → exec (.smbusAlertResponse adr) s = .next (s.emit .smbusNack))) ∧
    (∀ code, code = 0 ∨ 6 < code → exec (.smbusUnknownCommand code) s = .next (s.emit .smbusNack))) ∧
  (∀ (s : State), exec (.vioChange true) s = .next (s.updKeeper fun k => { k with vio := true }) ∧
    exec (.vioChange false) s = .next (s.updKeeper fun k => { k with vio := false, trst := false, tap := .idcode })) ∧
  (∀ (s : State) (i : TapInstr), s.keeper.vio = true → s.powered = true →
    (s.tapTakes i = true → exec (.jtagTapInstruction (some i) true) s =
      .next ((s.updKeeper fun k => { k with trst := true, tap := i }).emit (.tap i true))) ∧
    (s.tapTakes i = false → exec (.jtagTapInstruction (some i) true) s =
      .next ((s.updKeeper fun k => { k with trst := true }).emit (.tap i false)))) ∧
  (∀ (s : State), s.powered = true → exec .pcieError s = .next (s.raise 0x4002 pgHST))

/-- O60. The register surface and the latches (R4 to R9, R30 to R37, R54 to R58): a write changes the fields of its word and
no byte of memory; a read returns the word and clears its RC fields; an access of another size or alignment is BAD_ACCESS on
a register page, and no fault at an unassigned offset; CNT_FREEZE captures; VFs come and go; the aperture reads and writes
the bytes that it shows, a fenced tile's desk waiting; a free or broken latch goes to who reads it, its owner frees it, PF0
breaks it. Rests in part on the model's own choices and readings: entries 98, 123, 124, 125, 126, 127, 148 of the assumption
log. -/
def Obligations.SurfaceAndLatches : Prop :=
  (∀ (s : State) (f off o : Nat) (v : BitVec 64), spotOf f off = .reg o → off % 8 = 0 →
    (s.barUp f = true → s.frozen = false → exec (.registerWrite f off v) s = .next (s.regWrite (ownerOf f) o v.toNat)) ∧
    (s.frozen = true → heldWrite o v.toNat = false → exec (.registerWrite f off v) s = .next s) ∧
    (s.barUp f = true → exec (.rcRegisterRead f off) s =
      .next ((s.regRead (ownerOf f) o).2.emit (.rdata (s.regRead (ownerOf f) o).1)))) ∧
  (∀ (s : State) (v : BitVec 64), s.barUp 0 = true → s.frozen = false → s.pageReady pgFLT = true →
    exec (.registerWrite 0 (pgFLT + 0x100) v) s = .next (s.writeWord (pgFLT + 0x100) v.toNat (2 ^ 64 - 1))) ∧
  (∀ (s : State) (k : Nat) (v : BitVec 64), k < 6 → s.barUp 0 = true → s.frozen = false → s.pageReady pgSEC = true → ∃ s',
    exec (.registerWrite 0 (pgSEC + 0x180 + 8 * k) v) s = .next s' ∧ s'.rf (SEC_JTAG_RESP_SIG k) = v.toNat ∧
    RegsKept s s' [SEC_JTAG_RESP_SIG k] ∧ BytesKept s s') ∧
  (∀ (s : State) (off : Nat) (v : BitVec 64), 0x400000 ≤ off → exec (.registerWrite 0 off v) s = .next s) ∧
  (∀ (s : State) (p : Nat), p < 64 → s.barUp 0 = true → s.pageReady (plainPage p 1) = true → let k := MESH_ORPHANS_COUNT p
    (s.rb (hCTRL_CNT_FREEZE (plainPage p 1)) = false → exec (.rcRegisterRead 0 k.off) s = .next ((s.wf k 0).emit (.rdata (s.rf k)))) ∧
    (s.rb (hCTRL_CNT_FREEZE (plainPage p 1)) = true →
      exec (.rcRegisterRead 0 k.off) s = .next (s.emit (.rdata (sget (keyReset k.key) s.cap k.key))))) ∧
  (∀ (s : State) (f off o bytes : Nat) (wr : Bool), s.barUp f = true → spotOf f off = .reg o → 1 ≤ bytes →
    bytes < 8 ∨ (bytes = 8 ∧ off % 8 ≠ 0) →
    let s1 := if wr then s else s.emit (.rdata 0)
    (inRegisters o = true → s.rf HST_BAD_ACCESS_BYTES = 0 → exec (.misalignedRegisterAccess f off bytes wr) s =
      .next ((s1.wfs [(HST_BAD_ACCESS_OFFSET, off), (HST_BAD_ACCESS_BYTES, bytes), (HST_BAD_ACCESS_WRITE, b2n wr),
        (HST_BAD_ACCESS_FUNC, f)]).raise 0x4001 pgHST)) ∧
    (inRegisters o = true → s.rf HST_BAD_ACCESS_BYTES ≠ 0 → exec (.misalignedRegisterAccess f off bytes wr) s =
      .next (s1.raise 0x4001 pgHST)) ∧
    (inRegisters o = false → exec (.misalignedRegisterAccess f off bytes wr) s = .next s1)) ∧
  (∀ (s : State) (f off bytes : Nat), s.barUp f = true → spotOf f off = .none → 1 ≤ bytes → bytes < 8 →
    exec (.misalignedRegisterAccess f off bytes true) s = .next s ∧
    exec (.misalignedRegisterAccess f off bytes false) s = .next (s.emit (.rdata 0))) ∧
  (∀ (s : State) (f n i : Nat) (v : BitVec 64), n < 16 → i < 10 → s.writes f n = true → v.toNat.testBit 1 = true →
    ∃ s', exec (.cntFreezeWrite f (partPage n i) v) s = .next s' ∧ s'.rb (hCTRL_CNT_FREEZE (partPage n i)) = true ∧
      s'.rf (hCTRL_BLOCK (partPage n i)) = bits v.toNat 32 32 ∧ BytesKept s s' ∧ RegsKept s s' [hCTRL_CNT_FREEZE (partPage n i), hCTRL_SHADOW_VIEW (partPage n i),
        hCTRL_STAGE_IRQ (partPage n i), hCTRL_BLOCK (partPage n i)]) ∧
  (∀ (s : State) (f pg : Nat) (v : BitVec 64), s.mayWrite f (pageBase pg) = true →
    exec (.cntFreezeWrite f pg v) s = .next (s.writeCtrl (pageBase pg) v.toNat (2 ^ 64 - 1))) ∧
  (∀ (s : State) (pg v : Nat), (v.testBit 1 = false → (s.writeCtrl pg v (2 ^ 64 - 1)).rb (hCTRL_CNT_FREEZE pg) = false) ∧
    (v.testBit 1 = true → (s.writeCtrl pg v (2 ^ 64 - 1)).rb (hCTRL_CNT_FREEZE pg) = true) ∧ BytesKept s (s.writeCtrl pg v (2 ^ 64 - 1))) ∧
  (∀ (s : State) (n k : Nat) (msix : List Nat), n ≤ 16 → s.fnUp 0 = true → ∃ s', exec (.sriovNumvfsWrite n msix) s = .next s' ∧
    s'.pcie.numVfs = n ∧ (k ∈ s'.pcie.vfMsix ↔ 1 ≤ k ∧ k ≤ n ∧ k ∈ msix) ∧ s'.pcie.l0 = s.pcie.l0 ∧ BytesKept s s' ∧ RegsKept s s' []) ∧
  (∀ (s : State) (b t a bytes : Nat) (v : BitVec 64), s.barUp 0 = true → 1 ≤ bytes → bytes ≤ 8 → apertureHas 0 b = true →
    s.apertureAt 0 b = some (t, a) → t < 262144 → s.gated = false → s.plnState (plainOf t) ≠ 4 → localOk a bytes = true → areaOf a = .desk →
    s.eccBad = [] →
    (s.tileOpen t a bytes = true →
      (∃ s', exec (.apertureAccess 0 b bytes none .clean) s = .next s' ∧ s'.out = .rdata (s.rdMem (tkey t a) bytes) :: s.out ∧
        BytesKept s s' ∧ RegsKept s s' ((List.range 64).map MESH_PKT_FLITS_COUNT)) ∧
      (s.frozen = false → ∃ s', exec (.apertureAccess 0 b bytes (some v) .clean) s = .next s' ∧
        s'.rdMem (tkey t a) bytes = v.toNat % 2 ^ (8 * bytes) ∧ BytesKeptBut s s' (tkey t a) bytes ∧
        RegsKept s s' ((List.range 64).map MESH_PKT_FLITS_COUNT))) ∧
    (s.tileOpen t a bytes = false → exec (.apertureAccess 0 b bytes none .clean) s = .next s)) ∧
  (∀ (s : State) (n : Nat) (v : BitVec 64),
    (s.pf0Writes 0 = true → s.pageReady pgHST = true → exec (.apertureWrite 0 none v) s =
      .next (s.writeWord (pgHST + 0x100) v.toNat (2 ^ 64 - 1))) ∧
    (s.writes 0 n = true → s.pageReady (partPage n 0) = true → exec (.apertureWrite 0 (some n) v) s =
      .next (s.writeWord (partPage n 0 + 0x128) v.toNat (2 ^ 64 - 1)))) ∧
  (∀ (s : State) (w : Owner) (k : Nat), s.latchReach w k = true → s.latchGranted w k = true →
    ((s.latch k).st = 0 → ∃ s' d, exec (.latchAcquire w k) s = .next s' ∧ s'.latch k = s.latchOwner w ∧ s'.out = .rdata d :: s.out ∧
      d % 4 = 1 ∧ BytesKept s s' ∧ RegsKept s s' []) ∧
    ((s.latch k).st = 2 → ∃ s' d, exec (.latchAcquire w k) s = .next s' ∧ s'.latch k = s.latchOwner w ∧ s'.out = .rdata d :: s.out ∧
      d % 4 = 3 ∧ BytesKept s s' ∧ RegsKept s s' [LAT_BROKEN_COUNT]) ∧
    ((s.latch k).st = 1 → (s.latch k).heldBy w = false → ∃ d, exec (.latchAcquire w k) s = .next (s.emit (.rdata d)) ∧ d % 4 = 0) ∧
    (s.discards w = false →
      ((s.latch k).heldBy w = true → exec (.latchRelease w k) s = .next (s.setLatch k {})) ∧
      ((s.latch k).heldBy w = false → exec (.latchRelease w k) s = .next (s.bump LAT_DENIED_COUNT)))) ∧
  (∀ (s : State) (w : Owner) (k : Nat), s.latchReach w k = true → s.discards w = false →
    (w = .pf0 → (s.latch k).st = 1 → exec (.latchForce w k) s = .next (s.setLatch k { s.latch k with st := 2 })) ∧
    (w = .pf0 → (s.latch k).st ≠ 1 → exec (.latchForce w k) s = .next s) ∧
    (w ≠ .pf0 → exec (.latchForce w k) s = .next s))
end

