-- ==== Sys2Proof/Laws/State.lean ====
section
/-! SUPPORT. What each named update of the state leaves as it was, field by field, so that no later proof unfolds a record. -/

namespace Sys2Proof.Machine

variable (s : State)

@[simp] theorem State.wf_shd (k : Fk) (v : Nat) : (s.wf k v).shd = s.shd := rfl
@[simp] theorem State.wf_cap (k : Fk) (v : Nat) : (s.wf k v).cap = s.cap := rfl
@[simp] theorem State.wf_mem (k : Fk) (v : Nat) : (s.wf k v).mem = s.mem := rfl
@[simp] theorem State.wf_eccBad (k : Fk) (v : Nat) : (s.wf k v).eccBad = s.eccBad := rfl
@[simp] theorem State.wf_time (k : Fk) (v : Nat) : (s.wf k v).time = s.time := rfl
@[simp] theorem State.wf_ptpOff (k : Fk) (v : Nat) : (s.wf k v).ptpOff = s.ptpOff := rfl
@[simp] theorem State.wf_clockAt (k : Fk) (v : Nat) : (s.wf k v).clockAt = s.clockAt := rfl
@[simp] theorem State.wf_hops (k : Fk) (v : Nat) : (s.wf k v).hops = s.hops := rfl
@[simp] theorem State.wf_shaperAt (k : Fk) (v : Nat) : (s.wf k v).shaperAt = s.shaperAt := rfl
@[simp] theorem State.wf_ptpRate (k : Fk) (v : Nat) : (s.wf k v).ptpRate = s.ptpRate := rfl
@[simp] theorem State.wf_xferSeq (k : Fk) (v : Nat) : (s.wf k v).xferSeq = s.xferSeq := rfl
@[simp] theorem State.wf_ptpLast (k : Fk) (v : Nat) : (s.wf k v).ptpLast = s.ptpLast := rfl
@[simp] theorem State.wf_ptpSlew (k : Fk) (v : Nat) : (s.wf k v).ptpSlew = s.ptpSlew := rfl
@[simp] theorem State.wf_tiles (k : Fk) (v : Nat) : (s.wf k v).tiles = s.tiles := rfl
@[simp] theorem State.wf_plains (k : Fk) (v : Nat) : (s.wf k v).plains = s.plains := rfl
@[simp] theorem State.wf_parts (k : Fk) (v : Nat) : (s.wf k v).parts = s.parts := rfl
@[simp] theorem State.wf_latches (k : Fk) (v : Nat) : (s.wf k v).latches = s.latches := rfl
@[simp] theorem State.wf_pf0Epoch (k : Fk) (v : Nat) : (s.wf k v).pf0Epoch = s.pf0Epoch := rfl
@[simp] theorem State.wf_flits (k : Fk) (v : Nat) : (s.wf k v).flits = s.flits := rfl
@[simp] theorem State.wf_credits (k : Fk) (v : Nat) : (s.wf k v).credits = s.credits := rfl
@[simp] theorem State.wf_net (k : Fk) (v : Nat) : (s.wf k v).net = s.net := rfl
@[simp] theorem State.wf_spans (k : Fk) (v : Nat) : (s.wf k v).spans = s.spans := rfl
@[simp] theorem State.wf_applies (k : Fk) (v : Nat) : (s.wf k v).applies = s.applies := rfl
@[simp] theorem State.wf_pcie (k : Fk) (v : Nat) : (s.wf k v).pcie = s.pcie := rfl
@[simp] theorem State.wf_tbs (k : Fk) (v : Nat) : (s.wf k v).tbs = s.tbs := rfl
@[simp] theorem State.wf_levels (k : Fk) (v : Nat) : (s.wf k v).levels = s.levels := rfl
@[simp] theorem State.wf_outs (k : Fk) (v : Nat) : (s.wf k v).outs = s.outs := rfl
@[simp] theorem State.wf_ing (k : Fk) (v : Nat) : (s.wf k v).ing = s.ing := rfl
@[simp] theorem State.wf_egr (k : Fk) (v : Nat) : (s.wf k v).egr = s.egr := rfl
@[simp] theorem State.wf_heldResets (k : Fk) (v : Nat) : (s.wf k v).heldResets = s.heldResets := rfl
@[simp] theorem State.wf_keeper (k : Fk) (v : Nat) : (s.wf k v).keeper = s.keeper := rfl
@[simp] theorem State.wf_chest (k : Fk) (v : Nat) : (s.wf k v).chest = s.chest := rfl
@[simp] theorem State.wf_freeCtr (k : Fk) (v : Nat) : (s.wf k v).freeCtr = s.freeCtr := rfl
@[simp] theorem State.wf_out (k : Fk) (v : Nat) : (s.wf k v).out = s.out := rfl
@[simp] theorem State.wf_pending (k : Fk) (v : Nat) : (s.wf k v).pending = s.pending := rfl

@[simp] theorem State.bump_shd (k : Fk) (n : Nat) : (s.bump k n).shd = s.shd := rfl
@[simp] theorem State.bump_cap (k : Fk) (n : Nat) : (s.bump k n).cap = s.cap := rfl
@[simp] theorem State.bump_mem (k : Fk) (n : Nat) : (s.bump k n).mem = s.mem := rfl
@[simp] theorem State.bump_eccBad (k : Fk) (n : Nat) : (s.bump k n).eccBad = s.eccBad := rfl
@[simp] theorem State.bump_time (k : Fk) (n : Nat) : (s.bump k n).time = s.time := rfl
@[simp] theorem State.bump_ptpOff (k : Fk) (n : Nat) : (s.bump k n).ptpOff = s.ptpOff := rfl
@[simp] theorem State.bump_clockAt (k : Fk) (n : Nat) : (s.bump k n).clockAt = s.clockAt := rfl
@[simp] theorem State.bump_hops (k : Fk) (n : Nat) : (s.bump k n).hops = s.hops := rfl
@[simp] theorem State.bump_shaperAt (k : Fk) (n : Nat) : (s.bump k n).shaperAt = s.shaperAt := rfl
@[simp] theorem State.bump_ptpRate (k : Fk) (n : Nat) : (s.bump k n).ptpRate = s.ptpRate := rfl
@[simp] theorem State.bump_xferSeq (k : Fk) (n : Nat) : (s.bump k n).xferSeq = s.xferSeq := rfl
@[simp] theorem State.bump_ptpLast (k : Fk) (n : Nat) : (s.bump k n).ptpLast = s.ptpLast := rfl
@[simp] theorem State.bump_ptpSlew (k : Fk) (n : Nat) : (s.bump k n).ptpSlew = s.ptpSlew := rfl
@[simp] theorem State.bump_tiles (k : Fk) (n : Nat) : (s.bump k n).tiles = s.tiles := rfl
@[simp] theorem State.bump_plains (k : Fk) (n : Nat) : (s.bump k n).plains = s.plains := rfl
@[simp] theorem State.bump_parts (k : Fk) (n : Nat) : (s.bump k n).parts = s.parts := rfl
@[simp] theorem State.bump_latches (k : Fk) (n : Nat) : (s.bump k n).latches = s.latches := rfl
@[simp] theorem State.bump_pf0Epoch (k : Fk) (n : Nat) : (s.bump k n).pf0Epoch = s.pf0Epoch := rfl
@[simp] theorem State.bump_flits (k : Fk) (n : Nat) : (s.bump k n).flits = s.flits := rfl
@[simp] theorem State.bump_credits (k : Fk) (n : Nat) : (s.bump k n).credits = s.credits := rfl
@[simp] theorem State.bump_net (k : Fk) (n : Nat) : (s.bump k n).net = s.net := rfl
@[simp] theorem State.bump_spans (k : Fk) (n : Nat) : (s.bump k n).spans = s.spans := rfl
@[simp] theorem State.bump_applies (k : Fk) (n : Nat) : (s.bump k n).applies = s.applies := rfl
@[simp] theorem State.bump_pcie (k : Fk) (n : Nat) : (s.bump k n).pcie = s.pcie := rfl
@[simp] theorem State.bump_tbs (k : Fk) (n : Nat) : (s.bump k n).tbs = s.tbs := rfl
@[simp] theorem State.bump_levels (k : Fk) (n : Nat) : (s.bump k n).levels = s.levels := rfl
@[simp] theorem State.bump_outs (k : Fk) (n : Nat) : (s.bump k n).outs = s.outs := rfl
@[simp] theorem State.bump_ing (k : Fk) (n : Nat) : (s.bump k n).ing = s.ing := rfl
@[simp] theorem State.bump_egr (k : Fk) (n : Nat) : (s.bump k n).egr = s.egr := rfl
@[simp] theorem State.bump_heldResets (k : Fk) (n : Nat) : (s.bump k n).heldResets = s.heldResets := rfl
@[simp] theorem State.bump_keeper (k : Fk) (n : Nat) : (s.bump k n).keeper = s.keeper := rfl
@[simp] theorem State.bump_chest (k : Fk) (n : Nat) : (s.bump k n).chest = s.chest := rfl
@[simp] theorem State.bump_freeCtr (k : Fk) (n : Nat) : (s.bump k n).freeCtr = s.freeCtr := rfl
@[simp] theorem State.bump_out (k : Fk) (n : Nat) : (s.bump k n).out = s.out := rfl
@[simp] theorem State.bump_pending (k : Fk) (n : Nat) : (s.bump k n).pending = s.pending := rfl

@[simp] theorem State.sat_shd (k : Fk) (n : Nat) : (s.sat k n).shd = s.shd := rfl
@[simp] theorem State.sat_cap (k : Fk) (n : Nat) : (s.sat k n).cap = s.cap := rfl
@[simp] theorem State.sat_mem (k : Fk) (n : Nat) : (s.sat k n).mem = s.mem := rfl
@[simp] theorem State.sat_eccBad (k : Fk) (n : Nat) : (s.sat k n).eccBad = s.eccBad := rfl
@[simp] theorem State.sat_time (k : Fk) (n : Nat) : (s.sat k n).time = s.time := rfl
@[simp] theorem State.sat_ptpOff (k : Fk) (n : Nat) : (s.sat k n).ptpOff = s.ptpOff := rfl
@[simp] theorem State.sat_clockAt (k : Fk) (n : Nat) : (s.sat k n).clockAt = s.clockAt := rfl
@[simp] theorem State.sat_hops (k : Fk) (n : Nat) : (s.sat k n).hops = s.hops := rfl
@[simp] theorem State.sat_shaperAt (k : Fk) (n : Nat) : (s.sat k n).shaperAt = s.shaperAt := rfl
@[simp] theorem State.sat_ptpRate (k : Fk) (n : Nat) : (s.sat k n).ptpRate = s.ptpRate := rfl
@[simp] theorem State.sat_xferSeq (k : Fk) (n : Nat) : (s.sat k n).xferSeq = s.xferSeq := rfl
@[simp] theorem State.sat_ptpLast (k : Fk) (n : Nat) : (s.sat k n).ptpLast = s.ptpLast := rfl
@[simp] theorem State.sat_ptpSlew (k : Fk) (n : Nat) : (s.sat k n).ptpSlew = s.ptpSlew := rfl
@[simp] theorem State.sat_tiles (k : Fk) (n : Nat) : (s.sat k n).tiles = s.tiles := rfl
@[simp] theorem State.sat_plains (k : Fk) (n : Nat) : (s.sat k n).plains = s.plains := rfl
@[simp] theorem State.sat_parts (k : Fk) (n : Nat) : (s.sat k n).parts = s.parts := rfl
@[simp] theorem State.sat_latches (k : Fk) (n : Nat) : (s.sat k n).latches = s.latches := rfl
@[simp] theorem State.sat_pf0Epoch (k : Fk) (n : Nat) : (s.sat k n).pf0Epoch = s.pf0Epoch := rfl
@[simp] theorem State.sat_flits (k : Fk) (n : Nat) : (s.sat k n).flits = s.flits := rfl
@[simp] theorem State.sat_credits (k : Fk) (n : Nat) : (s.sat k n).credits = s.credits := rfl
@[simp] theorem State.sat_net (k : Fk) (n : Nat) : (s.sat k n).net = s.net := rfl
@[simp] theorem State.sat_spans (k : Fk) (n : Nat) : (s.sat k n).spans = s.spans := rfl
@[simp] theorem State.sat_applies (k : Fk) (n : Nat) : (s.sat k n).applies = s.applies := rfl
@[simp] theorem State.sat_pcie (k : Fk) (n : Nat) : (s.sat k n).pcie = s.pcie := rfl
@[simp] theorem State.sat_tbs (k : Fk) (n : Nat) : (s.sat k n).tbs = s.tbs := rfl
@[simp] theorem State.sat_levels (k : Fk) (n : Nat) : (s.sat k n).levels = s.levels := rfl
@[simp] theorem State.sat_outs (k : Fk) (n : Nat) : (s.sat k n).outs = s.outs := rfl
@[simp] theorem State.sat_ing (k : Fk) (n : Nat) : (s.sat k n).ing = s.ing := rfl
@[simp] theorem State.sat_egr (k : Fk) (n : Nat) : (s.sat k n).egr = s.egr := rfl
@[simp] theorem State.sat_heldResets (k : Fk) (n : Nat) : (s.sat k n).heldResets = s.heldResets := rfl
@[simp] theorem State.sat_keeper (k : Fk) (n : Nat) : (s.sat k n).keeper = s.keeper := rfl
@[simp] theorem State.sat_chest (k : Fk) (n : Nat) : (s.sat k n).chest = s.chest := rfl
@[simp] theorem State.sat_freeCtr (k : Fk) (n : Nat) : (s.sat k n).freeCtr = s.freeCtr := rfl
@[simp] theorem State.sat_out (k : Fk) (n : Nat) : (s.sat k n).out = s.out := rfl
@[simp] theorem State.sat_pending (k : Fk) (n : Nat) : (s.sat k n).pending = s.pending := rfl

@[simp] theorem State.wsh_fld (k : Fk) (v : Nat) : (s.wsh k v).fld = s.fld := rfl
@[simp] theorem State.wsh_cap (k : Fk) (v : Nat) : (s.wsh k v).cap = s.cap := rfl
@[simp] theorem State.wsh_mem (k : Fk) (v : Nat) : (s.wsh k v).mem = s.mem := rfl
@[simp] theorem State.wsh_eccBad (k : Fk) (v : Nat) : (s.wsh k v).eccBad = s.eccBad := rfl
@[simp] theorem State.wsh_time (k : Fk) (v : Nat) : (s.wsh k v).time = s.time := rfl
@[simp] theorem State.wsh_ptpOff (k : Fk) (v : Nat) : (s.wsh k v).ptpOff = s.ptpOff := rfl
@[simp] theorem State.wsh_clockAt (k : Fk) (v : Nat) : (s.wsh k v).clockAt = s.clockAt := rfl
@[simp] theorem State.wsh_hops (k : Fk) (v : Nat) : (s.wsh k v).hops = s.hops := rfl
@[simp] theorem State.wsh_shaperAt (k : Fk) (v : Nat) : (s.wsh k v).shaperAt = s.shaperAt := rfl
@[simp] theorem State.wsh_ptpRate (k : Fk) (v : Nat) : (s.wsh k v).ptpRate = s.ptpRate := rfl
@[simp] theorem State.wsh_xferSeq (k : Fk) (v : Nat) : (s.wsh k v).xferSeq = s.xferSeq := rfl
@[simp] theorem State.wsh_ptpLast (k : Fk) (v : Nat) : (s.wsh k v).ptpLast = s.ptpLast := rfl
@[simp] theorem State.wsh_ptpSlew (k : Fk) (v : Nat) : (s.wsh k v).ptpSlew = s.ptpSlew := rfl
@[simp] theorem State.wsh_tiles (k : Fk) (v : Nat) : (s.wsh k v).tiles = s.tiles := rfl
@[simp] theorem State.wsh_plains (k : Fk) (v : Nat) : (s.wsh k v).plains = s.plains := rfl
@[simp] theorem State.wsh_parts (k : Fk) (v : Nat) : (s.wsh k v).parts = s.parts := rfl
@[simp] theorem State.wsh_latches (k : Fk) (v : Nat) : (s.wsh k v).latches = s.latches := rfl
@[simp] theorem State.wsh_pf0Epoch (k : Fk) (v : Nat) : (s.wsh k v).pf0Epoch = s.pf0Epoch := rfl
@[simp] theorem State.wsh_flits (k : Fk) (v : Nat) : (s.wsh k v).flits = s.flits := rfl
@[simp] theorem State.wsh_credits (k : Fk) (v : Nat) : (s.wsh k v).credits = s.credits := rfl
@[simp] theorem State.wsh_net (k : Fk) (v : Nat) : (s.wsh k v).net = s.net := rfl
@[simp] theorem State.wsh_spans (k : Fk) (v : Nat) : (s.wsh k v).spans = s.spans := rfl
@[simp] theorem State.wsh_applies (k : Fk) (v : Nat) : (s.wsh k v).applies = s.applies := rfl
@[simp] theorem State.wsh_pcie (k : Fk) (v : Nat) : (s.wsh k v).pcie = s.pcie := rfl
@[simp] theorem State.wsh_tbs (k : Fk) (v : Nat) : (s.wsh k v).tbs = s.tbs := rfl
@[simp] theorem State.wsh_levels (k : Fk) (v : Nat) : (s.wsh k v).levels = s.levels := rfl
@[simp] theorem State.wsh_outs (k : Fk) (v : Nat) : (s.wsh k v).outs = s.outs := rfl
@[simp] theorem State.wsh_ing (k : Fk) (v : Nat) : (s.wsh k v).ing = s.ing := rfl
@[simp] theorem State.wsh_egr (k : Fk) (v : Nat) : (s.wsh k v).egr = s.egr := rfl
@[simp] theorem State.wsh_heldResets (k : Fk) (v : Nat) : (s.wsh k v).heldResets = s.heldResets := rfl
@[simp] theorem State.wsh_keeper (k : Fk) (v : Nat) : (s.wsh k v).keeper = s.keeper := rfl
@[simp] theorem State.wsh_chest (k : Fk) (v : Nat) : (s.wsh k v).chest = s.chest := rfl
@[simp] theorem State.wsh_freeCtr (k : Fk) (v : Nat) : (s.wsh k v).freeCtr = s.freeCtr := rfl
@[simp] theorem State.wsh_out (k : Fk) (v : Nat) : (s.wsh k v).out = s.out := rfl
@[simp] theorem State.wsh_pending (k : Fk) (v : Nat) : (s.wsh k v).pending = s.pending := rfl

@[simp] theorem State.wboth_cap (k : Fk) (v : Nat) : (s.wboth k v).cap = s.cap := rfl
@[simp] theorem State.wboth_mem (k : Fk) (v : Nat) : (s.wboth k v).mem = s.mem := rfl
@[simp] theorem State.wboth_eccBad (k : Fk) (v : Nat) : (s.wboth k v).eccBad = s.eccBad := rfl
@[simp] theorem State.wboth_time (k : Fk) (v : Nat) : (s.wboth k v).time = s.time := rfl
@[simp] theorem State.wboth_ptpOff (k : Fk) (v : Nat) : (s.wboth k v).ptpOff = s.ptpOff := rfl
@[simp] theorem State.wboth_clockAt (k : Fk) (v : Nat) : (s.wboth k v).clockAt = s.clockAt := rfl
@[simp] theorem State.wboth_hops (k : Fk) (v : Nat) : (s.wboth k v).hops = s.hops := rfl
@[simp] theorem State.wboth_shaperAt (k : Fk) (v : Nat) : (s.wboth k v).shaperAt = s.shaperAt := rfl
@[simp] theorem State.wboth_ptpRate (k : Fk) (v : Nat) : (s.wboth k v).ptpRate = s.ptpRate := rfl
@[simp] theorem State.wboth_xferSeq (k : Fk) (v : Nat) : (s.wboth k v).xferSeq = s.xferSeq := rfl
@[simp] theorem State.wboth_ptpLast (k : Fk) (v : Nat) : (s.wboth k v).ptpLast = s.ptpLast := rfl
@[simp] theorem State.wboth_ptpSlew (k : Fk) (v : Nat) : (s.wboth k v).ptpSlew = s.ptpSlew := rfl
@[simp] theorem State.wboth_tiles (k : Fk) (v : Nat) : (s.wboth k v).tiles = s.tiles := rfl
@[simp] theorem State.wboth_plains (k : Fk) (v : Nat) : (s.wboth k v).plains = s.plains := rfl
@[simp] theorem State.wboth_parts (k : Fk) (v : Nat) : (s.wboth k v).parts = s.parts := rfl
@[simp] theorem State.wboth_latches (k : Fk) (v : Nat) : (s.wboth k v).latches = s.latches := rfl
@[simp] theorem State.wboth_pf0Epoch (k : Fk) (v : Nat) : (s.wboth k v).pf0Epoch = s.pf0Epoch := rfl
@[simp] theorem State.wboth_flits (k : Fk) (v : Nat) : (s.wboth k v).flits = s.flits := rfl
@[simp] theorem State.wboth_credits (k : Fk) (v : Nat) : (s.wboth k v).credits = s.credits := rfl
@[simp] theorem State.wboth_net (k : Fk) (v : Nat) : (s.wboth k v).net = s.net := rfl
@[simp] theorem State.wboth_spans (k : Fk) (v : Nat) : (s.wboth k v).spans = s.spans := rfl
@[simp] theorem State.wboth_applies (k : Fk) (v : Nat) : (s.wboth k v).applies = s.applies := rfl
@[simp] theorem State.wboth_pcie (k : Fk) (v : Nat) : (s.wboth k v).pcie = s.pcie := rfl
@[simp] theorem State.wboth_tbs (k : Fk) (v : Nat) : (s.wboth k v).tbs = s.tbs := rfl
@[simp] theorem State.wboth_levels (k : Fk) (v : Nat) : (s.wboth k v).levels = s.levels := rfl
@[simp] theorem State.wboth_outs (k : Fk) (v : Nat) : (s.wboth k v).outs = s.outs := rfl
@[simp] theorem State.wboth_ing (k : Fk) (v : Nat) : (s.wboth k v).ing = s.ing := rfl
@[simp] theorem State.wboth_egr (k : Fk) (v : Nat) : (s.wboth k v).egr = s.egr := rfl
@[simp] theorem State.wboth_heldResets (k : Fk) (v : Nat) : (s.wboth k v).heldResets = s.heldResets := rfl
@[simp] theorem State.wboth_keeper (k : Fk) (v : Nat) : (s.wboth k v).keeper = s.keeper := rfl
@[simp] theorem State.wboth_chest (k : Fk) (v : Nat) : (s.wboth k v).chest = s.chest := rfl
@[simp] theorem State.wboth_freeCtr (k : Fk) (v : Nat) : (s.wboth k v).freeCtr = s.freeCtr := rfl
@[simp] theorem State.wboth_out (k : Fk) (v : Nat) : (s.wboth k v).out = s.out := rfl
@[simp] theorem State.wboth_pending (k : Fk) (v : Nat) : (s.wboth k v).pending = s.pending := rfl

@[simp] theorem State.watchSync_fld (n : Nat) : (s.watchSync n).fld = s.fld := by
  unfold State.watchSync; repeat first | split | rfl
@[simp] theorem State.watchSync_shd (n : Nat) : (s.watchSync n).shd = s.shd := by
  unfold State.watchSync; repeat first | split | rfl
@[simp] theorem State.watchSync_cap (n : Nat) : (s.watchSync n).cap = s.cap := by
  unfold State.watchSync; repeat first | split | rfl
@[simp] theorem State.watchSync_mem (n : Nat) : (s.watchSync n).mem = s.mem := by
  unfold State.watchSync; repeat first | split | rfl
@[simp] theorem State.watchSync_eccBad (n : Nat) : (s.watchSync n).eccBad = s.eccBad := by
  unfold State.watchSync; repeat first | split | rfl
@[simp] theorem State.watchSync_time (n : Nat) : (s.watchSync n).time = s.time := by
  unfold State.watchSync; repeat first | split | rfl
@[simp] theorem State.watchSync_clockAt (n : Nat) : (s.watchSync n).clockAt = s.clockAt := by
  unfold State.watchSync; repeat first | split | rfl
@[simp] theorem State.watchSync_ptpOff (n : Nat) : (s.watchSync n).ptpOff = s.ptpOff := by
  unfold State.watchSync; repeat first | split | rfl
@[simp] theorem State.watchSync_hops (n : Nat) : (s.watchSync n).hops = s.hops := by
  unfold State.watchSync; repeat first | split | rfl
@[simp] theorem State.watchSync_shaperAt (n : Nat) : (s.watchSync n).shaperAt = s.shaperAt := by
  unfold State.watchSync; repeat first | split | rfl
@[simp] theorem State.watchSync_ptpLast (n : Nat) : (s.watchSync n).ptpLast = s.ptpLast := by
  unfold State.watchSync; repeat first | split | rfl
@[simp] theorem State.watchSync_ptpSlew (n : Nat) : (s.watchSync n).ptpSlew = s.ptpSlew := by
  unfold State.watchSync; repeat first | split | rfl
@[simp] theorem State.watchSync_ptpRate (n : Nat) : (s.watchSync n).ptpRate = s.ptpRate := by
  unfold State.watchSync; repeat first | split | rfl
@[simp] theorem State.watchSync_tiles (n : Nat) : (s.watchSync n).tiles = s.tiles := by
  unfold State.watchSync; repeat first | split | rfl
@[simp] theorem State.watchSync_plains (n : Nat) : (s.watchSync n).plains = s.plains := by
  unfold State.watchSync; repeat first | split | rfl
@[simp] theorem State.watchSync_latches (n : Nat) : (s.watchSync n).latches = s.latches := by
  unfold State.watchSync; repeat first | split | rfl
@[simp] theorem State.watchSync_pf0Epoch (n : Nat) : (s.watchSync n).pf0Epoch = s.pf0Epoch := by
  unfold State.watchSync; repeat first | split | rfl
@[simp] theorem State.watchSync_flits (n : Nat) : (s.watchSync n).flits = s.flits := by
  unfold State.watchSync; repeat first | split | rfl
@[simp] theorem State.watchSync_credits (n : Nat) : (s.watchSync n).credits = s.credits := by
  unfold State.watchSync; repeat first | split | rfl
@[simp] theorem State.watchSync_net (n : Nat) : (s.watchSync n).net = s.net := by
  unfold State.watchSync; repeat first | split | rfl
@[simp] theorem State.watchSync_xferSeq (n : Nat) : (s.watchSync n).xferSeq = s.xferSeq := by
  unfold State.watchSync; repeat first | split | rfl
@[simp] theorem State.watchSync_spans (n : Nat) : (s.watchSync n).spans = s.spans := by
  unfold State.watchSync; repeat first | split | rfl
@[simp] theorem State.watchSync_applies (n : Nat) : (s.watchSync n).applies = s.applies := by
  unfold State.watchSync; repeat first | split | rfl
@[simp] theorem State.watchSync_pcie (n : Nat) : (s.watchSync n).pcie = s.pcie := by
  unfold State.watchSync; repeat first | split | rfl
@[simp] theorem State.watchSync_tbs (n : Nat) : (s.watchSync n).tbs = s.tbs := by
  unfold State.watchSync; repeat first | split | rfl
@[simp] theorem State.watchSync_levels (n : Nat) : (s.watchSync n).levels = s.levels := by
  unfold State.watchSync; repeat first | split | rfl
@[simp] theorem State.watchSync_outs (n : Nat) : (s.watchSync n).outs = s.outs := by
  unfold State.watchSync; repeat first | split | rfl
@[simp] theorem State.watchSync_ing (n : Nat) : (s.watchSync n).ing = s.ing := by
  unfold State.watchSync; repeat first | split | rfl
@[simp] theorem State.watchSync_egr (n : Nat) : (s.watchSync n).egr = s.egr := by
  unfold State.watchSync; repeat first | split | rfl
@[simp] theorem State.watchSync_heldResets (n : Nat) : (s.watchSync n).heldResets = s.heldResets := by
  unfold State.watchSync; repeat first | split | rfl
@[simp] theorem State.watchSync_keeper (n : Nat) : (s.watchSync n).keeper = s.keeper := by
  unfold State.watchSync; repeat first | split | rfl
@[simp] theorem State.watchSync_chest (n : Nat) : (s.watchSync n).chest = s.chest := by
  unfold State.watchSync; repeat first | split | rfl
@[simp] theorem State.watchSync_freeCtr (n : Nat) : (s.watchSync n).freeCtr = s.freeCtr := by
  unfold State.watchSync; repeat first | split | rfl
@[simp] theorem State.watchSync_out (n : Nat) : (s.watchSync n).out = s.out := by
  unfold State.watchSync; repeat first | split | rfl
@[simp] theorem State.watchSync_pending (n : Nat) : (s.watchSync n).pending = s.pending := by
  unfold State.watchSync; repeat first | split | rfl

@[simp] theorem State.setPst_shd (n st : Nat) : (s.setPst n st).shd = s.shd := by simp [State.setPst]
@[simp] theorem State.setPst_cap (n st : Nat) : (s.setPst n st).cap = s.cap := by simp [State.setPst]
@[simp] theorem State.setPst_mem (n st : Nat) : (s.setPst n st).mem = s.mem := by simp [State.setPst]
@[simp] theorem State.setPst_eccBad (n st : Nat) : (s.setPst n st).eccBad = s.eccBad := by simp [State.setPst]
@[simp] theorem State.setPst_time (n st : Nat) : (s.setPst n st).time = s.time := by simp [State.setPst]
@[simp] theorem State.setPst_clockAt (n st : Nat) : (s.setPst n st).clockAt = s.clockAt := by simp [State.setPst]
@[simp] theorem State.setPst_ptpOff (n st : Nat) : (s.setPst n st).ptpOff = s.ptpOff := by simp [State.setPst]
@[simp] theorem State.setPst_hops (n st : Nat) : (s.setPst n st).hops = s.hops := by simp [State.setPst]
@[simp] theorem State.setPst_shaperAt (n st : Nat) : (s.setPst n st).shaperAt = s.shaperAt := by simp [State.setPst]
@[simp] theorem State.setPst_ptpLast (n st : Nat) : (s.setPst n st).ptpLast = s.ptpLast := by simp [State.setPst]
@[simp] theorem State.setPst_ptpSlew (n st : Nat) : (s.setPst n st).ptpSlew = s.ptpSlew := by simp [State.setPst]
@[simp] theorem State.setPst_ptpRate (n st : Nat) : (s.setPst n st).ptpRate = s.ptpRate := by simp [State.setPst]
@[simp] theorem State.setPst_tiles (n st : Nat) : (s.setPst n st).tiles = s.tiles := by simp [State.setPst]
@[simp] theorem State.setPst_plains (n st : Nat) : (s.setPst n st).plains = s.plains := by simp [State.setPst]
@[simp] theorem State.setPst_latches (n st : Nat) : (s.setPst n st).latches = s.latches := by simp [State.setPst]
@[simp] theorem State.setPst_pf0Epoch (n st : Nat) : (s.setPst n st).pf0Epoch = s.pf0Epoch := by simp [State.setPst]
@[simp] theorem State.setPst_flits (n st : Nat) : (s.setPst n st).flits = s.flits := by simp [State.setPst]
@[simp] theorem State.setPst_credits (n st : Nat) : (s.setPst n st).credits = s.credits := by simp [State.setPst]
@[simp] theorem State.setPst_net (n st : Nat) : (s.setPst n st).net = s.net := by simp [State.setPst]
@[simp] theorem State.setPst_xferSeq (n st : Nat) : (s.setPst n st).xferSeq = s.xferSeq := by simp [State.setPst]
@[simp] theorem State.setPst_spans (n st : Nat) : (s.setPst n st).spans = s.spans := by simp [State.setPst]
@[simp] theorem State.setPst_applies (n st : Nat) : (s.setPst n st).applies = s.applies := by simp [State.setPst]
@[simp] theorem State.setPst_pcie (n st : Nat) : (s.setPst n st).pcie = s.pcie := by simp [State.setPst]
@[simp] theorem State.setPst_tbs (n st : Nat) : (s.setPst n st).tbs = s.tbs := by simp [State.setPst]
@[simp] theorem State.setPst_levels (n st : Nat) : (s.setPst n st).levels = s.levels := by simp [State.setPst]
@[simp] theorem State.setPst_outs (n st : Nat) : (s.setPst n st).outs = s.outs := by simp [State.setPst]
@[simp] theorem State.setPst_ing (n st : Nat) : (s.setPst n st).ing = s.ing := by simp [State.setPst]
@[simp] theorem State.setPst_egr (n st : Nat) : (s.setPst n st).egr = s.egr := by simp [State.setPst]
@[simp] theorem State.setPst_heldResets (n st : Nat) : (s.setPst n st).heldResets = s.heldResets := by simp [State.setPst]
@[simp] theorem State.setPst_keeper (n st : Nat) : (s.setPst n st).keeper = s.keeper := by simp [State.setPst]
@[simp] theorem State.setPst_chest (n st : Nat) : (s.setPst n st).chest = s.chest := by simp [State.setPst]
@[simp] theorem State.setPst_freeCtr (n st : Nat) : (s.setPst n st).freeCtr = s.freeCtr := by simp [State.setPst]
@[simp] theorem State.setPst_out (n st : Nat) : (s.setPst n st).out = s.out := by simp [State.setPst]
@[simp] theorem State.setPst_pending (n st : Nat) : (s.setPst n st).pending = s.pending := by simp [State.setPst]

@[simp] theorem State.setTile_fld (t : Nat) (x : Tile) : (s.setTile t x).fld = s.fld := rfl
@[simp] theorem State.setTile_shd (t : Nat) (x : Tile) : (s.setTile t x).shd = s.shd := rfl
@[simp] theorem State.setTile_cap (t : Nat) (x : Tile) : (s.setTile t x).cap = s.cap := rfl
@[simp] theorem State.setTile_mem (t : Nat) (x : Tile) : (s.setTile t x).mem = s.mem := rfl
@[simp] theorem State.setTile_eccBad (t : Nat) (x : Tile) : (s.setTile t x).eccBad = s.eccBad := rfl
@[simp] theorem State.setTile_time (t : Nat) (x : Tile) : (s.setTile t x).time = s.time := rfl
@[simp] theorem State.setTile_ptpOff (t : Nat) (x : Tile) : (s.setTile t x).ptpOff = s.ptpOff := rfl
@[simp] theorem State.setTile_clockAt (t : Nat) (x : Tile) : (s.setTile t x).clockAt = s.clockAt := rfl
@[simp] theorem State.setTile_hops (t : Nat) (x : Tile) : (s.setTile t x).hops = s.hops := rfl
@[simp] theorem State.setTile_shaperAt (t : Nat) (x : Tile) : (s.setTile t x).shaperAt = s.shaperAt := rfl
@[simp] theorem State.setTile_ptpRate (t : Nat) (x : Tile) : (s.setTile t x).ptpRate = s.ptpRate := rfl
@[simp] theorem State.setTile_xferSeq (t : Nat) (x : Tile) : (s.setTile t x).xferSeq = s.xferSeq := rfl
@[simp] theorem State.setTile_ptpLast (t : Nat) (x : Tile) : (s.setTile t x).ptpLast = s.ptpLast := rfl
@[simp] theorem State.setTile_ptpSlew (t : Nat) (x : Tile) : (s.setTile t x).ptpSlew = s.ptpSlew := rfl
@[simp] theorem State.setTile_plains (t : Nat) (x : Tile) : (s.setTile t x).plains = s.plains := rfl
@[simp] theorem State.setTile_parts (t : Nat) (x : Tile) : (s.setTile t x).parts = s.parts := rfl
@[simp] theorem State.setTile_latches (t : Nat) (x : Tile) : (s.setTile t x).latches = s.latches := rfl
@[simp] theorem State.setTile_pf0Epoch (t : Nat) (x : Tile) : (s.setTile t x).pf0Epoch = s.pf0Epoch := rfl
@[simp] theorem State.setTile_flits (t : Nat) (x : Tile) : (s.setTile t x).flits = s.flits := rfl
@[simp] theorem State.setTile_credits (t : Nat) (x : Tile) : (s.setTile t x).credits = s.credits := rfl
@[simp] theorem State.setTile_net (t : Nat) (x : Tile) : (s.setTile t x).net = s.net := rfl
@[simp] theorem State.setTile_spans (t : Nat) (x : Tile) : (s.setTile t x).spans = s.spans := rfl
@[simp] theorem State.setTile_applies (t : Nat) (x : Tile) : (s.setTile t x).applies = s.applies := rfl
@[simp] theorem State.setTile_pcie (t : Nat) (x : Tile) : (s.setTile t x).pcie = s.pcie := rfl
@[simp] theorem State.setTile_tbs (t : Nat) (x : Tile) : (s.setTile t x).tbs = s.tbs := rfl
@[simp] theorem State.setTile_levels (t : Nat) (x : Tile) : (s.setTile t x).levels = s.levels := rfl
@[simp] theorem State.setTile_outs (t : Nat) (x : Tile) : (s.setTile t x).outs = s.outs := rfl
@[simp] theorem State.setTile_ing (t : Nat) (x : Tile) : (s.setTile t x).ing = s.ing := rfl
@[simp] theorem State.setTile_egr (t : Nat) (x : Tile) : (s.setTile t x).egr = s.egr := rfl
@[simp] theorem State.setTile_heldResets (t : Nat) (x : Tile) : (s.setTile t x).heldResets = s.heldResets := rfl
@[simp] theorem State.setTile_keeper (t : Nat) (x : Tile) : (s.setTile t x).keeper = s.keeper := rfl
@[simp] theorem State.setTile_chest (t : Nat) (x : Tile) : (s.setTile t x).chest = s.chest := rfl
@[simp] theorem State.setTile_freeCtr (t : Nat) (x : Tile) : (s.setTile t x).freeCtr = s.freeCtr := rfl
@[simp] theorem State.setTile_out (t : Nat) (x : Tile) : (s.setTile t x).out = s.out := rfl
@[simp] theorem State.setTile_pending (t : Nat) (x : Tile) : (s.setTile t x).pending = s.pending := rfl

@[simp] theorem State.updTile_fld (t : Nat) (f : Tile → Tile) : (s.updTile t f).fld = s.fld := rfl
@[simp] theorem State.updTile_shd (t : Nat) (f : Tile → Tile) : (s.updTile t f).shd = s.shd := rfl
@[simp] theorem State.updTile_cap (t : Nat) (f : Tile → Tile) : (s.updTile t f).cap = s.cap := rfl
@[simp] theorem State.updTile_mem (t : Nat) (f : Tile → Tile) : (s.updTile t f).mem = s.mem := rfl
@[simp] theorem State.updTile_eccBad (t : Nat) (f : Tile → Tile) : (s.updTile t f).eccBad = s.eccBad := rfl
@[simp] theorem State.updTile_time (t : Nat) (f : Tile → Tile) : (s.updTile t f).time = s.time := rfl
@[simp] theorem State.updTile_ptpOff (t : Nat) (f : Tile → Tile) : (s.updTile t f).ptpOff = s.ptpOff := rfl
@[simp] theorem State.updTile_clockAt (t : Nat) (f : Tile → Tile) : (s.updTile t f).clockAt = s.clockAt := rfl
@[simp] theorem State.updTile_hops (t : Nat) (f : Tile → Tile) : (s.updTile t f).hops = s.hops := rfl
@[simp] theorem State.updTile_shaperAt (t : Nat) (f : Tile → Tile) : (s.updTile t f).shaperAt = s.shaperAt := rfl
@[simp] theorem State.updTile_ptpRate (t : Nat) (f : Tile → Tile) : (s.updTile t f).ptpRate = s.ptpRate := rfl
@[simp] theorem State.updTile_xferSeq (t : Nat) (f : Tile → Tile) : (s.updTile t f).xferSeq = s.xferSeq := rfl
@[simp] theorem State.updTile_ptpLast (t : Nat) (f : Tile → Tile) : (s.updTile t f).ptpLast = s.ptpLast := rfl
@[simp] theorem State.updTile_ptpSlew (t : Nat) (f : Tile → Tile) : (s.updTile t f).ptpSlew = s.ptpSlew := rfl
@[simp] theorem State.updTile_plains (t : Nat) (f : Tile → Tile) : (s.updTile t f).plains = s.plains := rfl
@[simp] theorem State.updTile_parts (t : Nat) (f : Tile → Tile) : (s.updTile t f).parts = s.parts := rfl
@[simp] theorem State.updTile_latches (t : Nat) (f : Tile → Tile) : (s.updTile t f).latches = s.latches := rfl
@[simp] theorem State.updTile_pf0Epoch (t : Nat) (f : Tile → Tile) : (s.updTile t f).pf0Epoch = s.pf0Epoch := rfl
@[simp] theorem State.updTile_flits (t : Nat) (f : Tile → Tile) : (s.updTile t f).flits = s.flits := rfl
@[simp] theorem State.updTile_credits (t : Nat) (f : Tile → Tile) : (s.updTile t f).credits = s.credits := rfl
@[simp] theorem State.updTile_net (t : Nat) (f : Tile → Tile) : (s.updTile t f).net = s.net := rfl
@[simp] theorem State.updTile_spans (t : Nat) (f : Tile → Tile) : (s.updTile t f).spans = s.spans := rfl
@[simp] theorem State.updTile_applies (t : Nat) (f : Tile → Tile) : (s.updTile t f).applies = s.applies := rfl
@[simp] theorem State.updTile_pcie (t : Nat) (f : Tile → Tile) : (s.updTile t f).pcie = s.pcie := rfl
@[simp] theorem State.updTile_tbs (t : Nat) (f : Tile → Tile) : (s.updTile t f).tbs = s.tbs := rfl
@[simp] theorem State.updTile_levels (t : Nat) (f : Tile → Tile) : (s.updTile t f).levels = s.levels := rfl
@[simp] theorem State.updTile_outs (t : Nat) (f : Tile → Tile) : (s.updTile t f).outs = s.outs := rfl
@[simp] theorem State.updTile_ing (t : Nat) (f : Tile → Tile) : (s.updTile t f).ing = s.ing := rfl
@[simp] theorem State.updTile_egr (t : Nat) (f : Tile → Tile) : (s.updTile t f).egr = s.egr := rfl
@[simp] theorem State.updTile_heldResets (t : Nat) (f : Tile → Tile) : (s.updTile t f).heldResets = s.heldResets := rfl
@[simp] theorem State.updTile_keeper (t : Nat) (f : Tile → Tile) : (s.updTile t f).keeper = s.keeper := rfl
@[simp] theorem State.updTile_chest (t : Nat) (f : Tile → Tile) : (s.updTile t f).chest = s.chest := rfl
@[simp] theorem State.updTile_freeCtr (t : Nat) (f : Tile → Tile) : (s.updTile t f).freeCtr = s.freeCtr := rfl
@[simp] theorem State.updTile_out (t : Nat) (f : Tile → Tile) : (s.updTile t f).out = s.out := rfl
@[simp] theorem State.updTile_pending (t : Nat) (f : Tile → Tile) : (s.updTile t f).pending = s.pending := rfl

@[simp] theorem State.updPlain_fld (p : Nat) (f : Plain → Plain) : (s.updPlain p f).fld = s.fld := rfl
@[simp] theorem State.updPlain_shd (p : Nat) (f : Plain → Plain) : (s.updPlain p f).shd = s.shd := rfl
@[simp] theorem State.updPlain_cap (p : Nat) (f : Plain → Plain) : (s.updPlain p f).cap = s.cap := rfl
@[simp] theorem State.updPlain_mem (p : Nat) (f : Plain → Plain) : (s.updPlain p f).mem = s.mem := rfl
@[simp] theorem State.updPlain_eccBad (p : Nat) (f : Plain → Plain) : (s.updPlain p f).eccBad = s.eccBad := rfl
@[simp] theorem State.updPlain_time (p : Nat) (f : Plain → Plain) : (s.updPlain p f).time = s.time := rfl
@[simp] theorem State.updPlain_ptpOff (p : Nat) (f : Plain → Plain) : (s.updPlain p f).ptpOff = s.ptpOff := rfl
@[simp] theorem State.updPlain_clockAt (p : Nat) (f : Plain → Plain) : (s.updPlain p f).clockAt = s.clockAt := rfl
@[simp] theorem State.updPlain_hops (p : Nat) (f : Plain → Plain) : (s.updPlain p f).hops = s.hops := rfl
@[simp] theorem State.updPlain_shaperAt (p : Nat) (f : Plain → Plain) : (s.updPlain p f).shaperAt = s.shaperAt := rfl
@[simp] theorem State.updPlain_ptpRate (p : Nat) (f : Plain → Plain) : (s.updPlain p f).ptpRate = s.ptpRate := rfl
@[simp] theorem State.updPlain_xferSeq (p : Nat) (f : Plain → Plain) : (s.updPlain p f).xferSeq = s.xferSeq := rfl
@[simp] theorem State.updPlain_ptpLast (p : Nat) (f : Plain → Plain) : (s.updPlain p f).ptpLast = s.ptpLast := rfl
@[simp] theorem State.updPlain_ptpSlew (p : Nat) (f : Plain → Plain) : (s.updPlain p f).ptpSlew = s.ptpSlew := rfl
@[simp] theorem State.updPlain_tiles (p : Nat) (f : Plain → Plain) : (s.updPlain p f).tiles = s.tiles := rfl
@[simp] theorem State.updPlain_parts (p : Nat) (f : Plain → Plain) : (s.updPlain p f).parts = s.parts := rfl
@[simp] theorem State.updPlain_latches (p : Nat) (f : Plain → Plain) : (s.updPlain p f).latches = s.latches := rfl
@[simp] theorem State.updPlain_pf0Epoch (p : Nat) (f : Plain → Plain) : (s.updPlain p f).pf0Epoch = s.pf0Epoch := rfl
@[simp] theorem State.updPlain_flits (p : Nat) (f : Plain → Plain) : (s.updPlain p f).flits = s.flits := rfl
@[simp] theorem State.updPlain_credits (p : Nat) (f : Plain → Plain) : (s.updPlain p f).credits = s.credits := rfl
@[simp] theorem State.updPlain_net (p : Nat) (f : Plain → Plain) : (s.updPlain p f).net = s.net := rfl
@[simp] theorem State.updPlain_spans (p : Nat) (f : Plain → Plain) : (s.updPlain p f).spans = s.spans := rfl
@[simp] theorem State.updPlain_applies (p : Nat) (f : Plain → Plain) : (s.updPlain p f).applies = s.applies := rfl
@[simp] theorem State.updPlain_pcie (p : Nat) (f : Plain → Plain) : (s.updPlain p f).pcie = s.pcie := rfl
@[simp] theorem State.updPlain_tbs (p : Nat) (f : Plain → Plain) : (s.updPlain p f).tbs = s.tbs := rfl
@[simp] theorem State.updPlain_levels (p : Nat) (f : Plain → Plain) : (s.updPlain p f).levels = s.levels := rfl
@[simp] theorem State.updPlain_outs (p : Nat) (f : Plain → Plain) : (s.updPlain p f).outs = s.outs := rfl
@[simp] theorem State.updPlain_ing (p : Nat) (f : Plain → Plain) : (s.updPlain p f).ing = s.ing := rfl
@[simp] theorem State.updPlain_egr (p : Nat) (f : Plain → Plain) : (s.updPlain p f).egr = s.egr := rfl
@[simp] theorem State.updPlain_heldResets (p : Nat) (f : Plain → Plain) : (s.updPlain p f).heldResets = s.heldResets := rfl
@[simp] theorem State.updPlain_keeper (p : Nat) (f : Plain → Plain) : (s.updPlain p f).keeper = s.keeper := rfl
@[simp] theorem State.updPlain_chest (p : Nat) (f : Plain → Plain) : (s.updPlain p f).chest = s.chest := rfl
@[simp] theorem State.updPlain_freeCtr (p : Nat) (f : Plain → Plain) : (s.updPlain p f).freeCtr = s.freeCtr := rfl
@[simp] theorem State.updPlain_out (p : Nat) (f : Plain → Plain) : (s.updPlain p f).out = s.out := rfl
@[simp] theorem State.updPlain_pending (p : Nat) (f : Plain → Plain) : (s.updPlain p f).pending = s.pending := rfl

@[simp] theorem State.updPart_fld (n : Nat) (f : Part → Part) : (s.updPart n f).fld = s.fld := rfl
@[simp] theorem State.updPart_shd (n : Nat) (f : Part → Part) : (s.updPart n f).shd = s.shd := rfl
@[simp] theorem State.updPart_cap (n : Nat) (f : Part → Part) : (s.updPart n f).cap = s.cap := rfl
@[simp] theorem State.updPart_mem (n : Nat) (f : Part → Part) : (s.updPart n f).mem = s.mem := rfl
@[simp] theorem State.updPart_eccBad (n : Nat) (f : Part → Part) : (s.updPart n f).eccBad = s.eccBad := rfl
@[simp] theorem State.updPart_time (n : Nat) (f : Part → Part) : (s.updPart n f).time = s.time := rfl
@[simp] theorem State.updPart_ptpOff (n : Nat) (f : Part → Part) : (s.updPart n f).ptpOff = s.ptpOff := rfl
@[simp] theorem State.updPart_clockAt (n : Nat) (f : Part → Part) : (s.updPart n f).clockAt = s.clockAt := rfl
@[simp] theorem State.updPart_hops (n : Nat) (f : Part → Part) : (s.updPart n f).hops = s.hops := rfl
@[simp] theorem State.updPart_shaperAt (n : Nat) (f : Part → Part) : (s.updPart n f).shaperAt = s.shaperAt := rfl
@[simp] theorem State.updPart_ptpRate (n : Nat) (f : Part → Part) : (s.updPart n f).ptpRate = s.ptpRate := rfl
@[simp] theorem State.updPart_xferSeq (n : Nat) (f : Part → Part) : (s.updPart n f).xferSeq = s.xferSeq := rfl
@[simp] theorem State.updPart_ptpLast (n : Nat) (f : Part → Part) : (s.updPart n f).ptpLast = s.ptpLast := rfl
@[simp] theorem State.updPart_ptpSlew (n : Nat) (f : Part → Part) : (s.updPart n f).ptpSlew = s.ptpSlew := rfl
@[simp] theorem State.updPart_tiles (n : Nat) (f : Part → Part) : (s.updPart n f).tiles = s.tiles := rfl
@[simp] theorem State.updPart_plains (n : Nat) (f : Part → Part) : (s.updPart n f).plains = s.plains := rfl
@[simp] theorem State.updPart_latches (n : Nat) (f : Part → Part) : (s.updPart n f).latches = s.latches := rfl
@[simp] theorem State.updPart_pf0Epoch (n : Nat) (f : Part → Part) : (s.updPart n f).pf0Epoch = s.pf0Epoch := rfl
@[simp] theorem State.updPart_flits (n : Nat) (f : Part → Part) : (s.updPart n f).flits = s.flits := rfl
@[simp] theorem State.updPart_credits (n : Nat) (f : Part → Part) : (s.updPart n f).credits = s.credits := rfl
@[simp] theorem State.updPart_net (n : Nat) (f : Part → Part) : (s.updPart n f).net = s.net := rfl
@[simp] theorem State.updPart_spans (n : Nat) (f : Part → Part) : (s.updPart n f).spans = s.spans := rfl
@[simp] theorem State.updPart_applies (n : Nat) (f : Part → Part) : (s.updPart n f).applies = s.applies := rfl
@[simp] theorem State.updPart_pcie (n : Nat) (f : Part → Part) : (s.updPart n f).pcie = s.pcie := rfl
@[simp] theorem State.updPart_tbs (n : Nat) (f : Part → Part) : (s.updPart n f).tbs = s.tbs := rfl
@[simp] theorem State.updPart_levels (n : Nat) (f : Part → Part) : (s.updPart n f).levels = s.levels := rfl
@[simp] theorem State.updPart_outs (n : Nat) (f : Part → Part) : (s.updPart n f).outs = s.outs := rfl
@[simp] theorem State.updPart_ing (n : Nat) (f : Part → Part) : (s.updPart n f).ing = s.ing := rfl
@[simp] theorem State.updPart_egr (n : Nat) (f : Part → Part) : (s.updPart n f).egr = s.egr := rfl
@[simp] theorem State.updPart_heldResets (n : Nat) (f : Part → Part) : (s.updPart n f).heldResets = s.heldResets := rfl
@[simp] theorem State.updPart_keeper (n : Nat) (f : Part → Part) : (s.updPart n f).keeper = s.keeper := rfl
@[simp] theorem State.updPart_chest (n : Nat) (f : Part → Part) : (s.updPart n f).chest = s.chest := rfl
@[simp] theorem State.updPart_freeCtr (n : Nat) (f : Part → Part) : (s.updPart n f).freeCtr = s.freeCtr := rfl
@[simp] theorem State.updPart_out (n : Nat) (f : Part → Part) : (s.updPart n f).out = s.out := rfl
@[simp] theorem State.updPart_pending (n : Nat) (f : Part → Part) : (s.updPart n f).pending = s.pending := rfl

@[simp] theorem State.setLatch_fld (k : Nat) (l : Latch) : (s.setLatch k l).fld = s.fld := rfl
@[simp] theorem State.setLatch_shd (k : Nat) (l : Latch) : (s.setLatch k l).shd = s.shd := rfl
@[simp] theorem State.setLatch_cap (k : Nat) (l : Latch) : (s.setLatch k l).cap = s.cap := rfl
@[simp] theorem State.setLatch_mem (k : Nat) (l : Latch) : (s.setLatch k l).mem = s.mem := rfl
@[simp] theorem State.setLatch_eccBad (k : Nat) (l : Latch) : (s.setLatch k l).eccBad = s.eccBad := rfl
@[simp] theorem State.setLatch_time (k : Nat) (l : Latch) : (s.setLatch k l).time = s.time := rfl
@[simp] theorem State.setLatch_ptpOff (k : Nat) (l : Latch) : (s.setLatch k l).ptpOff = s.ptpOff := rfl
@[simp] theorem State.setLatch_clockAt (k : Nat) (l : Latch) : (s.setLatch k l).clockAt = s.clockAt := rfl
@[simp] theorem State.setLatch_hops (k : Nat) (l : Latch) : (s.setLatch k l).hops = s.hops := rfl
@[simp] theorem State.setLatch_shaperAt (k : Nat) (l : Latch) : (s.setLatch k l).shaperAt = s.shaperAt := rfl
@[simp] theorem State.setLatch_ptpRate (k : Nat) (l : Latch) : (s.setLatch k l).ptpRate = s.ptpRate := rfl
@[simp] theorem State.setLatch_xferSeq (k : Nat) (l : Latch) : (s.setLatch k l).xferSeq = s.xferSeq := rfl
@[simp] theorem State.setLatch_ptpLast (k : Nat) (l : Latch) : (s.setLatch k l).ptpLast = s.ptpLast := rfl
@[simp] theorem State.setLatch_ptpSlew (k : Nat) (l : Latch) : (s.setLatch k l).ptpSlew = s.ptpSlew := rfl
@[simp] theorem State.setLatch_tiles (k : Nat) (l : Latch) : (s.setLatch k l).tiles = s.tiles := rfl
@[simp] theorem State.setLatch_plains (k : Nat) (l : Latch) : (s.setLatch k l).plains = s.plains := rfl
@[simp] theorem State.setLatch_parts (k : Nat) (l : Latch) : (s.setLatch k l).parts = s.parts := rfl
@[simp] theorem State.setLatch_pf0Epoch (k : Nat) (l : Latch) : (s.setLatch k l).pf0Epoch = s.pf0Epoch := rfl
@[simp] theorem State.setLatch_flits (k : Nat) (l : Latch) : (s.setLatch k l).flits = s.flits := rfl
@[simp] theorem State.setLatch_credits (k : Nat) (l : Latch) : (s.setLatch k l).credits = s.credits := rfl
@[simp] theorem State.setLatch_net (k : Nat) (l : Latch) : (s.setLatch k l).net = s.net := rfl
@[simp] theorem State.setLatch_spans (k : Nat) (l : Latch) : (s.setLatch k l).spans = s.spans := rfl
@[simp] theorem State.setLatch_applies (k : Nat) (l : Latch) : (s.setLatch k l).applies = s.applies := rfl
@[simp] theorem State.setLatch_pcie (k : Nat) (l : Latch) : (s.setLatch k l).pcie = s.pcie := rfl
@[simp] theorem State.setLatch_tbs (k : Nat) (l : Latch) : (s.setLatch k l).tbs = s.tbs := rfl
@[simp] theorem State.setLatch_levels (k : Nat) (l : Latch) : (s.setLatch k l).levels = s.levels := rfl
@[simp] theorem State.setLatch_outs (k : Nat) (l : Latch) : (s.setLatch k l).outs = s.outs := rfl
@[simp] theorem State.setLatch_ing (k : Nat) (l : Latch) : (s.setLatch k l).ing = s.ing := rfl
@[simp] theorem State.setLatch_egr (k : Nat) (l : Latch) : (s.setLatch k l).egr = s.egr := rfl
@[simp] theorem State.setLatch_heldResets (k : Nat) (l : Latch) : (s.setLatch k l).heldResets = s.heldResets := rfl
@[simp] theorem State.setLatch_keeper (k : Nat) (l : Latch) : (s.setLatch k l).keeper = s.keeper := rfl
@[simp] theorem State.setLatch_chest (k : Nat) (l : Latch) : (s.setLatch k l).chest = s.chest := rfl
@[simp] theorem State.setLatch_freeCtr (k : Nat) (l : Latch) : (s.setLatch k l).freeCtr = s.freeCtr := rfl
@[simp] theorem State.setLatch_out (k : Nat) (l : Latch) : (s.setLatch k l).out = s.out := rfl
@[simp] theorem State.setLatch_pending (k : Nat) (l : Latch) : (s.setLatch k l).pending = s.pending := rfl

@[simp] theorem State.setTb_fld (n : Nat) (x : Tb) : (s.setTb n x).fld = s.fld := rfl
@[simp] theorem State.setTb_shd (n : Nat) (x : Tb) : (s.setTb n x).shd = s.shd := rfl
@[simp] theorem State.setTb_cap (n : Nat) (x : Tb) : (s.setTb n x).cap = s.cap := rfl
@[simp] theorem State.setTb_mem (n : Nat) (x : Tb) : (s.setTb n x).mem = s.mem := rfl
@[simp] theorem State.setTb_eccBad (n : Nat) (x : Tb) : (s.setTb n x).eccBad = s.eccBad := rfl
@[simp] theorem State.setTb_time (n : Nat) (x : Tb) : (s.setTb n x).time = s.time := rfl
@[simp] theorem State.setTb_ptpOff (n : Nat) (x : Tb) : (s.setTb n x).ptpOff = s.ptpOff := rfl
@[simp] theorem State.setTb_clockAt (n : Nat) (x : Tb) : (s.setTb n x).clockAt = s.clockAt := rfl
@[simp] theorem State.setTb_hops (n : Nat) (x : Tb) : (s.setTb n x).hops = s.hops := rfl
@[simp] theorem State.setTb_shaperAt (n : Nat) (x : Tb) : (s.setTb n x).shaperAt = s.shaperAt := rfl
@[simp] theorem State.setTb_ptpRate (n : Nat) (x : Tb) : (s.setTb n x).ptpRate = s.ptpRate := rfl
@[simp] theorem State.setTb_xferSeq (n : Nat) (x : Tb) : (s.setTb n x).xferSeq = s.xferSeq := rfl
@[simp] theorem State.setTb_ptpLast (n : Nat) (x : Tb) : (s.setTb n x).ptpLast = s.ptpLast := rfl
@[simp] theorem State.setTb_ptpSlew (n : Nat) (x : Tb) : (s.setTb n x).ptpSlew = s.ptpSlew := rfl
@[simp] theorem State.setTb_tiles (n : Nat) (x : Tb) : (s.setTb n x).tiles = s.tiles := rfl
@[simp] theorem State.setTb_plains (n : Nat) (x : Tb) : (s.setTb n x).plains = s.plains := rfl
@[simp] theorem State.setTb_parts (n : Nat) (x : Tb) : (s.setTb n x).parts = s.parts := rfl
@[simp] theorem State.setTb_latches (n : Nat) (x : Tb) : (s.setTb n x).latches = s.latches := rfl
@[simp] theorem State.setTb_pf0Epoch (n : Nat) (x : Tb) : (s.setTb n x).pf0Epoch = s.pf0Epoch := rfl
@[simp] theorem State.setTb_flits (n : Nat) (x : Tb) : (s.setTb n x).flits = s.flits := rfl
@[simp] theorem State.setTb_credits (n : Nat) (x : Tb) : (s.setTb n x).credits = s.credits := rfl
@[simp] theorem State.setTb_net (n : Nat) (x : Tb) : (s.setTb n x).net = s.net := rfl
@[simp] theorem State.setTb_spans (n : Nat) (x : Tb) : (s.setTb n x).spans = s.spans := rfl
@[simp] theorem State.setTb_applies (n : Nat) (x : Tb) : (s.setTb n x).applies = s.applies := rfl
@[simp] theorem State.setTb_pcie (n : Nat) (x : Tb) : (s.setTb n x).pcie = s.pcie := rfl
@[simp] theorem State.setTb_levels (n : Nat) (x : Tb) : (s.setTb n x).levels = s.levels := rfl
@[simp] theorem State.setTb_outs (n : Nat) (x : Tb) : (s.setTb n x).outs = s.outs := rfl
@[simp] theorem State.setTb_ing (n : Nat) (x : Tb) : (s.setTb n x).ing = s.ing := rfl
@[simp] theorem State.setTb_egr (n : Nat) (x : Tb) : (s.setTb n x).egr = s.egr := rfl
@[simp] theorem State.setTb_heldResets (n : Nat) (x : Tb) : (s.setTb n x).heldResets = s.heldResets := rfl
@[simp] theorem State.setTb_keeper (n : Nat) (x : Tb) : (s.setTb n x).keeper = s.keeper := rfl
@[simp] theorem State.setTb_chest (n : Nat) (x : Tb) : (s.setTb n x).chest = s.chest := rfl
@[simp] theorem State.setTb_freeCtr (n : Nat) (x : Tb) : (s.setTb n x).freeCtr = s.freeCtr := rfl
@[simp] theorem State.setTb_out (n : Nat) (x : Tb) : (s.setTb n x).out = s.out := rfl
@[simp] theorem State.setTb_pending (n : Nat) (x : Tb) : (s.setTb n x).pending = s.pending := rfl

@[simp] theorem State.setSpan_fld (p : Nat) (x : Span) : (s.setSpan p x).fld = s.fld := rfl
@[simp] theorem State.setSpan_shd (p : Nat) (x : Span) : (s.setSpan p x).shd = s.shd := rfl
@[simp] theorem State.setSpan_cap (p : Nat) (x : Span) : (s.setSpan p x).cap = s.cap := rfl
@[simp] theorem State.setSpan_mem (p : Nat) (x : Span) : (s.setSpan p x).mem = s.mem := rfl
@[simp] theorem State.setSpan_eccBad (p : Nat) (x : Span) : (s.setSpan p x).eccBad = s.eccBad := rfl
@[simp] theorem State.setSpan_time (p : Nat) (x : Span) : (s.setSpan p x).time = s.time := rfl
@[simp] theorem State.setSpan_ptpOff (p : Nat) (x : Span) : (s.setSpan p x).ptpOff = s.ptpOff := rfl
@[simp] theorem State.setSpan_clockAt (p : Nat) (x : Span) : (s.setSpan p x).clockAt = s.clockAt := rfl
@[simp] theorem State.setSpan_hops (p : Nat) (x : Span) : (s.setSpan p x).hops = s.hops := rfl
@[simp] theorem State.setSpan_shaperAt (p : Nat) (x : Span) : (s.setSpan p x).shaperAt = s.shaperAt := rfl
@[simp] theorem State.setSpan_ptpRate (p : Nat) (x : Span) : (s.setSpan p x).ptpRate = s.ptpRate := rfl
@[simp] theorem State.setSpan_xferSeq (p : Nat) (x : Span) : (s.setSpan p x).xferSeq = s.xferSeq := rfl
@[simp] theorem State.setSpan_ptpLast (p : Nat) (x : Span) : (s.setSpan p x).ptpLast = s.ptpLast := rfl
@[simp] theorem State.setSpan_ptpSlew (p : Nat) (x : Span) : (s.setSpan p x).ptpSlew = s.ptpSlew := rfl
@[simp] theorem State.setSpan_tiles (p : Nat) (x : Span) : (s.setSpan p x).tiles = s.tiles := rfl
@[simp] theorem State.setSpan_plains (p : Nat) (x : Span) : (s.setSpan p x).plains = s.plains := rfl
@[simp] theorem State.setSpan_parts (p : Nat) (x : Span) : (s.setSpan p x).parts = s.parts := rfl
@[simp] theorem State.setSpan_latches (p : Nat) (x : Span) : (s.setSpan p x).latches = s.latches := rfl
@[simp] theorem State.setSpan_pf0Epoch (p : Nat) (x : Span) : (s.setSpan p x).pf0Epoch = s.pf0Epoch := rfl
@[simp] theorem State.setSpan_flits (p : Nat) (x : Span) : (s.setSpan p x).flits = s.flits := rfl
@[simp] theorem State.setSpan_credits (p : Nat) (x : Span) : (s.setSpan p x).credits = s.credits := rfl
@[simp] theorem State.setSpan_net (p : Nat) (x : Span) : (s.setSpan p x).net = s.net := rfl
@[simp] theorem State.setSpan_applies (p : Nat) (x : Span) : (s.setSpan p x).applies = s.applies := rfl
@[simp] theorem State.setSpan_pcie (p : Nat) (x : Span) : (s.setSpan p x).pcie = s.pcie := rfl
@[simp] theorem State.setSpan_tbs (p : Nat) (x : Span) : (s.setSpan p x).tbs = s.tbs := rfl
@[simp] theorem State.setSpan_levels (p : Nat) (x : Span) : (s.setSpan p x).levels = s.levels := rfl
@[simp] theorem State.setSpan_outs (p : Nat) (x : Span) : (s.setSpan p x).outs = s.outs := rfl
@[simp] theorem State.setSpan_ing (p : Nat) (x : Span) : (s.setSpan p x).ing = s.ing := rfl
@[simp] theorem State.setSpan_egr (p : Nat) (x : Span) : (s.setSpan p x).egr = s.egr := rfl
@[simp] theorem State.setSpan_heldResets (p : Nat) (x : Span) : (s.setSpan p x).heldResets = s.heldResets := rfl
@[simp] theorem State.setSpan_keeper (p : Nat) (x : Span) : (s.setSpan p x).keeper = s.keeper := rfl
@[simp] theorem State.setSpan_chest (p : Nat) (x : Span) : (s.setSpan p x).chest = s.chest := rfl
@[simp] theorem State.setSpan_freeCtr (p : Nat) (x : Span) : (s.setSpan p x).freeCtr = s.freeCtr := rfl
@[simp] theorem State.setSpan_out (p : Nat) (x : Span) : (s.setSpan p x).out = s.out := rfl
@[simp] theorem State.setSpan_pending (p : Nat) (x : Span) : (s.setSpan p x).pending = s.pending := rfl

@[simp] theorem State.setIngr_fld (i : Nat) (x : Ingress) : (s.setIngr i x).fld = s.fld := rfl
@[simp] theorem State.setIngr_shd (i : Nat) (x : Ingress) : (s.setIngr i x).shd = s.shd := rfl
@[simp] theorem State.setIngr_cap (i : Nat) (x : Ingress) : (s.setIngr i x).cap = s.cap := rfl
@[simp] theorem State.setIngr_mem (i : Nat) (x : Ingress) : (s.setIngr i x).mem = s.mem := rfl
@[simp] theorem State.setIngr_eccBad (i : Nat) (x : Ingress) : (s.setIngr i x).eccBad = s.eccBad := rfl
@[simp] theorem State.setIngr_time (i : Nat) (x : Ingress) : (s.setIngr i x).time = s.time := rfl
@[simp] theorem State.setIngr_ptpOff (i : Nat) (x : Ingress) : (s.setIngr i x).ptpOff = s.ptpOff := rfl
@[simp] theorem State.setIngr_clockAt (i : Nat) (x : Ingress) : (s.setIngr i x).clockAt = s.clockAt := rfl
@[simp] theorem State.setIngr_hops (i : Nat) (x : Ingress) : (s.setIngr i x).hops = s.hops := rfl
@[simp] theorem State.setIngr_shaperAt (i : Nat) (x : Ingress) : (s.setIngr i x).shaperAt = s.shaperAt := rfl
@[simp] theorem State.setIngr_ptpRate (i : Nat) (x : Ingress) : (s.setIngr i x).ptpRate = s.ptpRate := rfl
@[simp] theorem State.setIngr_xferSeq (i : Nat) (x : Ingress) : (s.setIngr i x).xferSeq = s.xferSeq := rfl
@[simp] theorem State.setIngr_ptpLast (i : Nat) (x : Ingress) : (s.setIngr i x).ptpLast = s.ptpLast := rfl
@[simp] theorem State.setIngr_ptpSlew (i : Nat) (x : Ingress) : (s.setIngr i x).ptpSlew = s.ptpSlew := rfl
@[simp] theorem State.setIngr_tiles (i : Nat) (x : Ingress) : (s.setIngr i x).tiles = s.tiles := rfl
@[simp] theorem State.setIngr_plains (i : Nat) (x : Ingress) : (s.setIngr i x).plains = s.plains := rfl
@[simp] theorem State.setIngr_parts (i : Nat) (x : Ingress) : (s.setIngr i x).parts = s.parts := rfl
@[simp] theorem State.setIngr_latches (i : Nat) (x : Ingress) : (s.setIngr i x).latches = s.latches := rfl
@[simp] theorem State.setIngr_pf0Epoch (i : Nat) (x : Ingress) : (s.setIngr i x).pf0Epoch = s.pf0Epoch := rfl
@[simp] theorem State.setIngr_flits (i : Nat) (x : Ingress) : (s.setIngr i x).flits = s.flits := rfl
@[simp] theorem State.setIngr_credits (i : Nat) (x : Ingress) : (s.setIngr i x).credits = s.credits := rfl
@[simp] theorem State.setIngr_net (i : Nat) (x : Ingress) : (s.setIngr i x).net = s.net := rfl
@[simp] theorem State.setIngr_spans (i : Nat) (x : Ingress) : (s.setIngr i x).spans = s.spans := rfl
@[simp] theorem State.setIngr_applies (i : Nat) (x : Ingress) : (s.setIngr i x).applies = s.applies := rfl
@[simp] theorem State.setIngr_pcie (i : Nat) (x : Ingress) : (s.setIngr i x).pcie = s.pcie := rfl
@[simp] theorem State.setIngr_tbs (i : Nat) (x : Ingress) : (s.setIngr i x).tbs = s.tbs := rfl
@[simp] theorem State.setIngr_levels (i : Nat) (x : Ingress) : (s.setIngr i x).levels = s.levels := rfl
@[simp] theorem State.setIngr_outs (i : Nat) (x : Ingress) : (s.setIngr i x).outs = s.outs := rfl
@[simp] theorem State.setIngr_egr (i : Nat) (x : Ingress) : (s.setIngr i x).egr = s.egr := rfl
@[simp] theorem State.setIngr_heldResets (i : Nat) (x : Ingress) : (s.setIngr i x).heldResets = s.heldResets := rfl
@[simp] theorem State.setIngr_keeper (i : Nat) (x : Ingress) : (s.setIngr i x).keeper = s.keeper := rfl
@[simp] theorem State.setIngr_chest (i : Nat) (x : Ingress) : (s.setIngr i x).chest = s.chest := rfl
@[simp] theorem State.setIngr_freeCtr (i : Nat) (x : Ingress) : (s.setIngr i x).freeCtr = s.freeCtr := rfl
@[simp] theorem State.setIngr_out (i : Nat) (x : Ingress) : (s.setIngr i x).out = s.out := rfl
@[simp] theorem State.setIngr_pending (i : Nat) (x : Ingress) : (s.setIngr i x).pending = s.pending := rfl

@[simp] theorem State.setEgr_fld (e : Nat) (x : Egress) : (s.setEgr e x).fld = s.fld := rfl
@[simp] theorem State.setEgr_shd (e : Nat) (x : Egress) : (s.setEgr e x).shd = s.shd := rfl
@[simp] theorem State.setEgr_cap (e : Nat) (x : Egress) : (s.setEgr e x).cap = s.cap := rfl
@[simp] theorem State.setEgr_mem (e : Nat) (x : Egress) : (s.setEgr e x).mem = s.mem := rfl
@[simp] theorem State.setEgr_eccBad (e : Nat) (x : Egress) : (s.setEgr e x).eccBad = s.eccBad := rfl
@[simp] theorem State.setEgr_time (e : Nat) (x : Egress) : (s.setEgr e x).time = s.time := rfl
@[simp] theorem State.setEgr_ptpOff (e : Nat) (x : Egress) : (s.setEgr e x).ptpOff = s.ptpOff := rfl
@[simp] theorem State.setEgr_clockAt (e : Nat) (x : Egress) : (s.setEgr e x).clockAt = s.clockAt := rfl
@[simp] theorem State.setEgr_hops (e : Nat) (x : Egress) : (s.setEgr e x).hops = s.hops := rfl
@[simp] theorem State.setEgr_shaperAt (e : Nat) (x : Egress) : (s.setEgr e x).shaperAt = s.shaperAt := rfl
@[simp] theorem State.setEgr_ptpRate (e : Nat) (x : Egress) : (s.setEgr e x).ptpRate = s.ptpRate := rfl
@[simp] theorem State.setEgr_xferSeq (e : Nat) (x : Egress) : (s.setEgr e x).xferSeq = s.xferSeq := rfl
@[simp] theorem State.setEgr_ptpLast (e : Nat) (x : Egress) : (s.setEgr e x).ptpLast = s.ptpLast := rfl
@[simp] theorem State.setEgr_ptpSlew (e : Nat) (x : Egress) : (s.setEgr e x).ptpSlew = s.ptpSlew := rfl
@[simp] theorem State.setEgr_tiles (e : Nat) (x : Egress) : (s.setEgr e x).tiles = s.tiles := rfl
@[simp] theorem State.setEgr_plains (e : Nat) (x : Egress) : (s.setEgr e x).plains = s.plains := rfl
@[simp] theorem State.setEgr_parts (e : Nat) (x : Egress) : (s.setEgr e x).parts = s.parts := rfl
@[simp] theorem State.setEgr_latches (e : Nat) (x : Egress) : (s.setEgr e x).latches = s.latches := rfl
@[simp] theorem State.setEgr_pf0Epoch (e : Nat) (x : Egress) : (s.setEgr e x).pf0Epoch = s.pf0Epoch := rfl
@[simp] theorem State.setEgr_flits (e : Nat) (x : Egress) : (s.setEgr e x).flits = s.flits := rfl
@[simp] theorem State.setEgr_credits (e : Nat) (x : Egress) : (s.setEgr e x).credits = s.credits := rfl
@[simp] theorem State.setEgr_net (e : Nat) (x : Egress) : (s.setEgr e x).net = s.net := rfl
@[simp] theorem State.setEgr_spans (e : Nat) (x : Egress) : (s.setEgr e x).spans = s.spans := rfl
@[simp] theorem State.setEgr_applies (e : Nat) (x : Egress) : (s.setEgr e x).applies = s.applies := rfl
@[simp] theorem State.setEgr_pcie (e : Nat) (x : Egress) : (s.setEgr e x).pcie = s.pcie := rfl
@[simp] theorem State.setEgr_tbs (e : Nat) (x : Egress) : (s.setEgr e x).tbs = s.tbs := rfl
@[simp] theorem State.setEgr_levels (e : Nat) (x : Egress) : (s.setEgr e x).levels = s.levels := rfl
@[simp] theorem State.setEgr_outs (e : Nat) (x : Egress) : (s.setEgr e x).outs = s.outs := rfl
@[simp] theorem State.setEgr_ing (e : Nat) (x : Egress) : (s.setEgr e x).ing = s.ing := rfl
@[simp] theorem State.setEgr_heldResets (e : Nat) (x : Egress) : (s.setEgr e x).heldResets = s.heldResets := rfl
@[simp] theorem State.setEgr_keeper (e : Nat) (x : Egress) : (s.setEgr e x).keeper = s.keeper := rfl
@[simp] theorem State.setEgr_chest (e : Nat) (x : Egress) : (s.setEgr e x).chest = s.chest := rfl
@[simp] theorem State.setEgr_freeCtr (e : Nat) (x : Egress) : (s.setEgr e x).freeCtr = s.freeCtr := rfl
@[simp] theorem State.setEgr_out (e : Nat) (x : Egress) : (s.setEgr e x).out = s.out := rfl
@[simp] theorem State.setEgr_pending (e : Nat) (x : Egress) : (s.setEgr e x).pending = s.pending := rfl

@[simp] theorem State.updKeeper_fld (f : Keeper → Keeper) : (s.updKeeper f).fld = s.fld := rfl
@[simp] theorem State.updKeeper_shd (f : Keeper → Keeper) : (s.updKeeper f).shd = s.shd := rfl
@[simp] theorem State.updKeeper_cap (f : Keeper → Keeper) : (s.updKeeper f).cap = s.cap := rfl
@[simp] theorem State.updKeeper_mem (f : Keeper → Keeper) : (s.updKeeper f).mem = s.mem := rfl
@[simp] theorem State.updKeeper_eccBad (f : Keeper → Keeper) : (s.updKeeper f).eccBad = s.eccBad := rfl
@[simp] theorem State.updKeeper_time (f : Keeper → Keeper) : (s.updKeeper f).time = s.time := rfl
@[simp] theorem State.updKeeper_ptpOff (f : Keeper → Keeper) : (s.updKeeper f).ptpOff = s.ptpOff := rfl
@[simp] theorem State.updKeeper_clockAt (f : Keeper → Keeper) : (s.updKeeper f).clockAt = s.clockAt := rfl
@[simp] theorem State.updKeeper_hops (f : Keeper → Keeper) : (s.updKeeper f).hops = s.hops := rfl
@[simp] theorem State.updKeeper_shaperAt (f : Keeper → Keeper) : (s.updKeeper f).shaperAt = s.shaperAt := rfl
@[simp] theorem State.updKeeper_ptpRate (f : Keeper → Keeper) : (s.updKeeper f).ptpRate = s.ptpRate := rfl
@[simp] theorem State.updKeeper_xferSeq (f : Keeper → Keeper) : (s.updKeeper f).xferSeq = s.xferSeq := rfl
@[simp] theorem State.updKeeper_ptpLast (f : Keeper → Keeper) : (s.updKeeper f).ptpLast = s.ptpLast := rfl
@[simp] theorem State.updKeeper_ptpSlew (f : Keeper → Keeper) : (s.updKeeper f).ptpSlew = s.ptpSlew := rfl
@[simp] theorem State.updKeeper_tiles (f : Keeper → Keeper) : (s.updKeeper f).tiles = s.tiles := rfl
@[simp] theorem State.updKeeper_plains (f : Keeper → Keeper) : (s.updKeeper f).plains = s.plains := rfl
@[simp] theorem State.updKeeper_parts (f : Keeper → Keeper) : (s.updKeeper f).parts = s.parts := rfl
@[simp] theorem State.updKeeper_latches (f : Keeper → Keeper) : (s.updKeeper f).latches = s.latches := rfl
@[simp] theorem State.updKeeper_pf0Epoch (f : Keeper → Keeper) : (s.updKeeper f).pf0Epoch = s.pf0Epoch := rfl
@[simp] theorem State.updKeeper_flits (f : Keeper → Keeper) : (s.updKeeper f).flits = s.flits := rfl
@[simp] theorem State.updKeeper_credits (f : Keeper → Keeper) : (s.updKeeper f).credits = s.credits := rfl
@[simp] theorem State.updKeeper_net (f : Keeper → Keeper) : (s.updKeeper f).net = s.net := rfl
@[simp] theorem State.updKeeper_spans (f : Keeper → Keeper) : (s.updKeeper f).spans = s.spans := rfl
@[simp] theorem State.updKeeper_applies (f : Keeper → Keeper) : (s.updKeeper f).applies = s.applies := rfl
@[simp] theorem State.updKeeper_pcie (f : Keeper → Keeper) : (s.updKeeper f).pcie = s.pcie := rfl
@[simp] theorem State.updKeeper_tbs (f : Keeper → Keeper) : (s.updKeeper f).tbs = s.tbs := rfl
@[simp] theorem State.updKeeper_levels (f : Keeper → Keeper) : (s.updKeeper f).levels = s.levels := rfl
@[simp] theorem State.updKeeper_outs (f : Keeper → Keeper) : (s.updKeeper f).outs = s.outs := rfl
@[simp] theorem State.updKeeper_ing (f : Keeper → Keeper) : (s.updKeeper f).ing = s.ing := rfl
@[simp] theorem State.updKeeper_egr (f : Keeper → Keeper) : (s.updKeeper f).egr = s.egr := rfl
@[simp] theorem State.updKeeper_heldResets (f : Keeper → Keeper) : (s.updKeeper f).heldResets = s.heldResets := rfl
@[simp] theorem State.updKeeper_chest (f : Keeper → Keeper) : (s.updKeeper f).chest = s.chest := rfl
@[simp] theorem State.updKeeper_freeCtr (f : Keeper → Keeper) : (s.updKeeper f).freeCtr = s.freeCtr := rfl
@[simp] theorem State.updKeeper_out (f : Keeper → Keeper) : (s.updKeeper f).out = s.out := rfl
@[simp] theorem State.updKeeper_pending (f : Keeper → Keeper) : (s.updKeeper f).pending = s.pending := rfl

@[simp] theorem State.updChest_fld (f : Chest → Chest) : (s.updChest f).fld = s.fld := rfl
@[simp] theorem State.updChest_shd (f : Chest → Chest) : (s.updChest f).shd = s.shd := rfl
@[simp] theorem State.updChest_cap (f : Chest → Chest) : (s.updChest f).cap = s.cap := rfl
@[simp] theorem State.updChest_mem (f : Chest → Chest) : (s.updChest f).mem = s.mem := rfl
@[simp] theorem State.updChest_eccBad (f : Chest → Chest) : (s.updChest f).eccBad = s.eccBad := rfl
@[simp] theorem State.updChest_time (f : Chest → Chest) : (s.updChest f).time = s.time := rfl
@[simp] theorem State.updChest_ptpOff (f : Chest → Chest) : (s.updChest f).ptpOff = s.ptpOff := rfl
@[simp] theorem State.updChest_clockAt (f : Chest → Chest) : (s.updChest f).clockAt = s.clockAt := rfl
@[simp] theorem State.updChest_hops (f : Chest → Chest) : (s.updChest f).hops = s.hops := rfl
@[simp] theorem State.updChest_shaperAt (f : Chest → Chest) : (s.updChest f).shaperAt = s.shaperAt := rfl
@[simp] theorem State.updChest_ptpRate (f : Chest → Chest) : (s.updChest f).ptpRate = s.ptpRate := rfl
@[simp] theorem State.updChest_xferSeq (f : Chest → Chest) : (s.updChest f).xferSeq = s.xferSeq := rfl
@[simp] theorem State.updChest_ptpLast (f : Chest → Chest) : (s.updChest f).ptpLast = s.ptpLast := rfl
@[simp] theorem State.updChest_ptpSlew (f : Chest → Chest) : (s.updChest f).ptpSlew = s.ptpSlew := rfl
@[simp] theorem State.updChest_tiles (f : Chest → Chest) : (s.updChest f).tiles = s.tiles := rfl
@[simp] theorem State.updChest_plains (f : Chest → Chest) : (s.updChest f).plains = s.plains := rfl
@[simp] theorem State.updChest_parts (f : Chest → Chest) : (s.updChest f).parts = s.parts := rfl
@[simp] theorem State.updChest_latches (f : Chest → Chest) : (s.updChest f).latches = s.latches := rfl
@[simp] theorem State.updChest_pf0Epoch (f : Chest → Chest) : (s.updChest f).pf0Epoch = s.pf0Epoch := rfl
@[simp] theorem State.updChest_flits (f : Chest → Chest) : (s.updChest f).flits = s.flits := rfl
@[simp] theorem State.updChest_credits (f : Chest → Chest) : (s.updChest f).credits = s.credits := rfl
@[simp] theorem State.updChest_net (f : Chest → Chest) : (s.updChest f).net = s.net := rfl
@[simp] theorem State.updChest_spans (f : Chest → Chest) : (s.updChest f).spans = s.spans := rfl
@[simp] theorem State.updChest_applies (f : Chest → Chest) : (s.updChest f).applies = s.applies := rfl
@[simp] theorem State.updChest_pcie (f : Chest → Chest) : (s.updChest f).pcie = s.pcie := rfl
@[simp] theorem State.updChest_tbs (f : Chest → Chest) : (s.updChest f).tbs = s.tbs := rfl
@[simp] theorem State.updChest_levels (f : Chest → Chest) : (s.updChest f).levels = s.levels := rfl
@[simp] theorem State.updChest_outs (f : Chest → Chest) : (s.updChest f).outs = s.outs := rfl
@[simp] theorem State.updChest_ing (f : Chest → Chest) : (s.updChest f).ing = s.ing := rfl
@[simp] theorem State.updChest_egr (f : Chest → Chest) : (s.updChest f).egr = s.egr := rfl
@[simp] theorem State.updChest_heldResets (f : Chest → Chest) : (s.updChest f).heldResets = s.heldResets := rfl
@[simp] theorem State.updChest_keeper (f : Chest → Chest) : (s.updChest f).keeper = s.keeper := rfl
@[simp] theorem State.updChest_freeCtr (f : Chest → Chest) : (s.updChest f).freeCtr = s.freeCtr := rfl
@[simp] theorem State.updChest_out (f : Chest → Chest) : (s.updChest f).out = s.out := rfl
@[simp] theorem State.updChest_pending (f : Chest → Chest) : (s.updChest f).pending = s.pending := rfl

@[simp] theorem State.wrMem_fld (k n v : Nat) : (s.wrMem k n v).fld = s.fld := rfl
@[simp] theorem State.wrMem_shd (k n v : Nat) : (s.wrMem k n v).shd = s.shd := rfl
@[simp] theorem State.wrMem_cap (k n v : Nat) : (s.wrMem k n v).cap = s.cap := rfl
@[simp] theorem State.wrMem_time (k n v : Nat) : (s.wrMem k n v).time = s.time := rfl
@[simp] theorem State.wrMem_ptpOff (k n v : Nat) : (s.wrMem k n v).ptpOff = s.ptpOff := rfl
@[simp] theorem State.wrMem_clockAt (k n v : Nat) : (s.wrMem k n v).clockAt = s.clockAt := rfl
@[simp] theorem State.wrMem_hops (k n v : Nat) : (s.wrMem k n v).hops = s.hops := rfl
@[simp] theorem State.wrMem_shaperAt (k n v : Nat) : (s.wrMem k n v).shaperAt = s.shaperAt := rfl
@[simp] theorem State.wrMem_ptpRate (k n v : Nat) : (s.wrMem k n v).ptpRate = s.ptpRate := rfl
@[simp] theorem State.wrMem_xferSeq (k n v : Nat) : (s.wrMem k n v).xferSeq = s.xferSeq := rfl
@[simp] theorem State.wrMem_ptpLast (k n v : Nat) : (s.wrMem k n v).ptpLast = s.ptpLast := rfl
@[simp] theorem State.wrMem_ptpSlew (k n v : Nat) : (s.wrMem k n v).ptpSlew = s.ptpSlew := rfl
@[simp] theorem State.wrMem_tiles (k n v : Nat) : (s.wrMem k n v).tiles = s.tiles := rfl
@[simp] theorem State.wrMem_plains (k n v : Nat) : (s.wrMem k n v).plains = s.plains := rfl
@[simp] theorem State.wrMem_parts (k n v : Nat) : (s.wrMem k n v).parts = s.parts := rfl
@[simp] theorem State.wrMem_latches (k n v : Nat) : (s.wrMem k n v).latches = s.latches := rfl
@[simp] theorem State.wrMem_pf0Epoch (k n v : Nat) : (s.wrMem k n v).pf0Epoch = s.pf0Epoch := rfl
@[simp] theorem State.wrMem_flits (k n v : Nat) : (s.wrMem k n v).flits = s.flits := rfl
@[simp] theorem State.wrMem_credits (k n v : Nat) : (s.wrMem k n v).credits = s.credits := rfl
@[simp] theorem State.wrMem_net (k n v : Nat) : (s.wrMem k n v).net = s.net := rfl
@[simp] theorem State.wrMem_spans (k n v : Nat) : (s.wrMem k n v).spans = s.spans := rfl
@[simp] theorem State.wrMem_applies (k n v : Nat) : (s.wrMem k n v).applies = s.applies := rfl
@[simp] theorem State.wrMem_pcie (k n v : Nat) : (s.wrMem k n v).pcie = s.pcie := rfl
@[simp] theorem State.wrMem_tbs (k n v : Nat) : (s.wrMem k n v).tbs = s.tbs := rfl
@[simp] theorem State.wrMem_levels (k n v : Nat) : (s.wrMem k n v).levels = s.levels := rfl
@[simp] theorem State.wrMem_outs (k n v : Nat) : (s.wrMem k n v).outs = s.outs := rfl
@[simp] theorem State.wrMem_ing (k n v : Nat) : (s.wrMem k n v).ing = s.ing := rfl
@[simp] theorem State.wrMem_egr (k n v : Nat) : (s.wrMem k n v).egr = s.egr := rfl
@[simp] theorem State.wrMem_heldResets (k n v : Nat) : (s.wrMem k n v).heldResets = s.heldResets := rfl
@[simp] theorem State.wrMem_keeper (k n v : Nat) : (s.wrMem k n v).keeper = s.keeper := rfl
@[simp] theorem State.wrMem_chest (k n v : Nat) : (s.wrMem k n v).chest = s.chest := rfl
@[simp] theorem State.wrMem_freeCtr (k n v : Nat) : (s.wrMem k n v).freeCtr = s.freeCtr := rfl
@[simp] theorem State.wrMem_out (k n v : Nat) : (s.wrMem k n v).out = s.out := rfl
@[simp] theorem State.wrMem_pending (k n v : Nat) : (s.wrMem k n v).pending = s.pending := rfl

@[simp] theorem State.markBad_fld (k : Nat) : (s.markBad k).fld = s.fld := rfl
@[simp] theorem State.markBad_shd (k : Nat) : (s.markBad k).shd = s.shd := rfl
@[simp] theorem State.markBad_cap (k : Nat) : (s.markBad k).cap = s.cap := rfl
@[simp] theorem State.markBad_mem (k : Nat) : (s.markBad k).mem = s.mem := rfl
@[simp] theorem State.markBad_time (k : Nat) : (s.markBad k).time = s.time := rfl
@[simp] theorem State.markBad_ptpOff (k : Nat) : (s.markBad k).ptpOff = s.ptpOff := rfl
@[simp] theorem State.markBad_clockAt (k : Nat) : (s.markBad k).clockAt = s.clockAt := rfl
@[simp] theorem State.markBad_hops (k : Nat) : (s.markBad k).hops = s.hops := rfl
@[simp] theorem State.markBad_shaperAt (k : Nat) : (s.markBad k).shaperAt = s.shaperAt := rfl
@[simp] theorem State.markBad_ptpRate (k : Nat) : (s.markBad k).ptpRate = s.ptpRate := rfl
@[simp] theorem State.markBad_xferSeq (k : Nat) : (s.markBad k).xferSeq = s.xferSeq := rfl
@[simp] theorem State.markBad_ptpLast (k : Nat) : (s.markBad k).ptpLast = s.ptpLast := rfl
@[simp] theorem State.markBad_ptpSlew (k : Nat) : (s.markBad k).ptpSlew = s.ptpSlew := rfl
@[simp] theorem State.markBad_tiles (k : Nat) : (s.markBad k).tiles = s.tiles := rfl
@[simp] theorem State.markBad_plains (k : Nat) : (s.markBad k).plains = s.plains := rfl
@[simp] theorem State.markBad_parts (k : Nat) : (s.markBad k).parts = s.parts := rfl
@[simp] theorem State.markBad_latches (k : Nat) : (s.markBad k).latches = s.latches := rfl
@[simp] theorem State.markBad_pf0Epoch (k : Nat) : (s.markBad k).pf0Epoch = s.pf0Epoch := rfl
@[simp] theorem State.markBad_flits (k : Nat) : (s.markBad k).flits = s.flits := rfl
@[simp] theorem State.markBad_credits (k : Nat) : (s.markBad k).credits = s.credits := rfl
@[simp] theorem State.markBad_net (k : Nat) : (s.markBad k).net = s.net := rfl
@[simp] theorem State.markBad_spans (k : Nat) : (s.markBad k).spans = s.spans := rfl
@[simp] theorem State.markBad_applies (k : Nat) : (s.markBad k).applies = s.applies := rfl
@[simp] theorem State.markBad_pcie (k : Nat) : (s.markBad k).pcie = s.pcie := rfl
@[simp] theorem State.markBad_tbs (k : Nat) : (s.markBad k).tbs = s.tbs := rfl
@[simp] theorem State.markBad_levels (k : Nat) : (s.markBad k).levels = s.levels := rfl
@[simp] theorem State.markBad_outs (k : Nat) : (s.markBad k).outs = s.outs := rfl
@[simp] theorem State.markBad_ing (k : Nat) : (s.markBad k).ing = s.ing := rfl
@[simp] theorem State.markBad_egr (k : Nat) : (s.markBad k).egr = s.egr := rfl
@[simp] theorem State.markBad_heldResets (k : Nat) : (s.markBad k).heldResets = s.heldResets := rfl
@[simp] theorem State.markBad_keeper (k : Nat) : (s.markBad k).keeper = s.keeper := rfl
@[simp] theorem State.markBad_chest (k : Nat) : (s.markBad k).chest = s.chest := rfl
@[simp] theorem State.markBad_freeCtr (k : Nat) : (s.markBad k).freeCtr = s.freeCtr := rfl
@[simp] theorem State.markBad_out (k : Nat) : (s.markBad k).out = s.out := rfl
@[simp] theorem State.markBad_pending (k : Nat) : (s.markBad k).pending = s.pending := rfl

@[simp] theorem State.emit_fld (o : Outp) : (s.emit o).fld = s.fld := rfl
@[simp] theorem State.emit_shd (o : Outp) : (s.emit o).shd = s.shd := rfl
@[simp] theorem State.emit_cap (o : Outp) : (s.emit o).cap = s.cap := rfl
@[simp] theorem State.emit_mem (o : Outp) : (s.emit o).mem = s.mem := rfl
@[simp] theorem State.emit_eccBad (o : Outp) : (s.emit o).eccBad = s.eccBad := rfl
@[simp] theorem State.emit_time (o : Outp) : (s.emit o).time = s.time := rfl
@[simp] theorem State.emit_ptpOff (o : Outp) : (s.emit o).ptpOff = s.ptpOff := rfl
@[simp] theorem State.emit_clockAt (o : Outp) : (s.emit o).clockAt = s.clockAt := rfl
@[simp] theorem State.emit_hops (o : Outp) : (s.emit o).hops = s.hops := rfl
@[simp] theorem State.emit_shaperAt (o : Outp) : (s.emit o).shaperAt = s.shaperAt := rfl
@[simp] theorem State.emit_ptpRate (o : Outp) : (s.emit o).ptpRate = s.ptpRate := rfl
@[simp] theorem State.emit_xferSeq (o : Outp) : (s.emit o).xferSeq = s.xferSeq := rfl
@[simp] theorem State.emit_ptpLast (o : Outp) : (s.emit o).ptpLast = s.ptpLast := rfl
@[simp] theorem State.emit_ptpSlew (o : Outp) : (s.emit o).ptpSlew = s.ptpSlew := rfl
@[simp] theorem State.emit_tiles (o : Outp) : (s.emit o).tiles = s.tiles := rfl
@[simp] theorem State.emit_plains (o : Outp) : (s.emit o).plains = s.plains := rfl
@[simp] theorem State.emit_parts (o : Outp) : (s.emit o).parts = s.parts := rfl
@[simp] theorem State.emit_latches (o : Outp) : (s.emit o).latches = s.latches := rfl
@[simp] theorem State.emit_pf0Epoch (o : Outp) : (s.emit o).pf0Epoch = s.pf0Epoch := rfl
@[simp] theorem State.emit_flits (o : Outp) : (s.emit o).flits = s.flits := rfl
@[simp] theorem State.emit_credits (o : Outp) : (s.emit o).credits = s.credits := rfl
@[simp] theorem State.emit_net (o : Outp) : (s.emit o).net = s.net := rfl
@[simp] theorem State.emit_spans (o : Outp) : (s.emit o).spans = s.spans := rfl
@[simp] theorem State.emit_applies (o : Outp) : (s.emit o).applies = s.applies := rfl
@[simp] theorem State.emit_pcie (o : Outp) : (s.emit o).pcie = s.pcie := rfl
@[simp] theorem State.emit_tbs (o : Outp) : (s.emit o).tbs = s.tbs := rfl
@[simp] theorem State.emit_levels (o : Outp) : (s.emit o).levels = s.levels := rfl
@[simp] theorem State.emit_outs (o : Outp) : (s.emit o).outs = s.outs := rfl
@[simp] theorem State.emit_ing (o : Outp) : (s.emit o).ing = s.ing := rfl
@[simp] theorem State.emit_egr (o : Outp) : (s.emit o).egr = s.egr := rfl
@[simp] theorem State.emit_heldResets (o : Outp) : (s.emit o).heldResets = s.heldResets := rfl
@[simp] theorem State.emit_keeper (o : Outp) : (s.emit o).keeper = s.keeper := rfl
@[simp] theorem State.emit_chest (o : Outp) : (s.emit o).chest = s.chest := rfl
@[simp] theorem State.emit_freeCtr (o : Outp) : (s.emit o).freeCtr = s.freeCtr := rfl
@[simp] theorem State.emit_pending (o : Outp) : (s.emit o).pending = s.pending := rfl

@[simp] theorem State.at_fld (t : Nat) : (s.at t).fld = s.fld := rfl
@[simp] theorem State.at_shd (t : Nat) : (s.at t).shd = s.shd := rfl
@[simp] theorem State.at_cap (t : Nat) : (s.at t).cap = s.cap := rfl
@[simp] theorem State.at_mem (t : Nat) : (s.at t).mem = s.mem := rfl
@[simp] theorem State.at_eccBad (t : Nat) : (s.at t).eccBad = s.eccBad := rfl
@[simp] theorem State.at_ptpOff (t : Nat) : (s.at t).ptpOff = s.ptpOff := rfl
@[simp] theorem State.at_clockAt (t : Nat) : (s.at t).clockAt = s.clockAt := rfl
@[simp] theorem State.at_hops (t : Nat) : (s.at t).hops = s.hops := rfl
@[simp] theorem State.at_shaperAt (t : Nat) : (s.at t).shaperAt = s.shaperAt := rfl
@[simp] theorem State.at_ptpRate (t : Nat) : (s.at t).ptpRate = s.ptpRate := rfl
@[simp] theorem State.at_xferSeq (t : Nat) : (s.at t).xferSeq = s.xferSeq := rfl
@[simp] theorem State.at_ptpLast (t : Nat) : (s.at t).ptpLast = s.ptpLast := rfl
@[simp] theorem State.at_ptpSlew (t : Nat) : (s.at t).ptpSlew = s.ptpSlew := rfl
@[simp] theorem State.at_tiles (t : Nat) : (s.at t).tiles = s.tiles := rfl
@[simp] theorem State.at_plains (t : Nat) : (s.at t).plains = s.plains := rfl
@[simp] theorem State.at_parts (t : Nat) : (s.at t).parts = s.parts := rfl
@[simp] theorem State.at_latches (t : Nat) : (s.at t).latches = s.latches := rfl
@[simp] theorem State.at_pf0Epoch (t : Nat) : (s.at t).pf0Epoch = s.pf0Epoch := rfl
@[simp] theorem State.at_flits (t : Nat) : (s.at t).flits = s.flits := rfl
@[simp] theorem State.at_credits (t : Nat) : (s.at t).credits = s.credits := rfl
@[simp] theorem State.at_net (t : Nat) : (s.at t).net = s.net := rfl
@[simp] theorem State.at_spans (t : Nat) : (s.at t).spans = s.spans := rfl
@[simp] theorem State.at_applies (t : Nat) : (s.at t).applies = s.applies := rfl
@[simp] theorem State.at_pcie (t : Nat) : (s.at t).pcie = s.pcie := rfl
@[simp] theorem State.at_tbs (t : Nat) : (s.at t).tbs = s.tbs := rfl
@[simp] theorem State.at_levels (t : Nat) : (s.at t).levels = s.levels := rfl
@[simp] theorem State.at_outs (t : Nat) : (s.at t).outs = s.outs := rfl
@[simp] theorem State.at_ing (t : Nat) : (s.at t).ing = s.ing := rfl
@[simp] theorem State.at_egr (t : Nat) : (s.at t).egr = s.egr := rfl
@[simp] theorem State.at_heldResets (t : Nat) : (s.at t).heldResets = s.heldResets := rfl
@[simp] theorem State.at_keeper (t : Nat) : (s.at t).keeper = s.keeper := rfl
@[simp] theorem State.at_chest (t : Nat) : (s.at t).chest = s.chest := rfl
@[simp] theorem State.at_freeCtr (t : Nat) : (s.at t).freeCtr = s.freeCtr := rfl
@[simp] theorem State.at_out (t : Nat) : (s.at t).out = s.out := rfl
@[simp] theorem State.at_pending (t : Nat) : (s.at t).pending = s.pending := rfl

end Sys2Proof.Machine
end

