-- ==== Sys2Proof/Laws/Faults.lean ====
section
/-! SUPPORT. Everything that raising a fault, and the reactions it sets off, can touch: register fields and shadows, the tiles',
plains' and partitions' own state, latches, ALERT# and a load that a fence ends, the image slots that this frees, what the part puts
out, and the free-value counter. Memory, its error marks, time, the queue of commands, packets, flits, spans, timebases and sessions
stay. -/

namespace Sys2Proof.Machine

/-- `t` differs from `s` at most in what a fault touches. -/
structure OnlyFault (s t : State) : Prop where
  eq : t =
    { s with
      fld := t.fld, shd := t.shd, tiles := t.tiles, plains := t.plains, parts := t.parts, latches := t.latches
      keeper := t.keeper, chest := t.chest, freeCtr := t.freeCtr, out := t.out }

namespace OnlyFault

variable {s t u : State}

theorem refl (s : State) : OnlyFault s s := ⟨rfl⟩

theorem trans (h : OnlyFault s t) (g : OnlyFault t u) : OnlyFault s u := ⟨by rw [g.eq, h.eq]⟩

theorem mem (h : OnlyFault s t) : t.mem = s.mem := by rw [h.eq]
theorem eccBad (h : OnlyFault s t) : t.eccBad = s.eccBad := by rw [h.eq]
theorem time (h : OnlyFault s t) : t.time = s.time := by rw [h.eq]
theorem pending (h : OnlyFault s t) : t.pending = s.pending := by rw [h.eq]
theorem net (h : OnlyFault s t) : t.net = s.net := by rw [h.eq]
theorem byte (h : OnlyFault s t) (a : Nat) : t.byte a = s.byte a := by unfold State.byte; rw [h.mem]

theorem ite {c : Prop} [Decidable c] {a b : State} (ha : OnlyFault s a) (hb : OnlyFault s b) : OnlyFault s (if c then a else b) := by
  split <;> assumption

/-! Named updates, after a state that is already so related. -/

theorem wf (h : OnlyFault s t) (k : Fk) (v : Nat) : OnlyFault s (t.wf k v) := h.trans ⟨rfl⟩
theorem updTile (h : OnlyFault s t) (n : Nat) (f : Tile → Tile) : OnlyFault s (t.updTile n f) := h.trans ⟨rfl⟩
theorem updPlain (h : OnlyFault s t) (n : Nat) (f : Plain → Plain) : OnlyFault s (t.updPlain n f) := h.trans ⟨rfl⟩
theorem updPart (h : OnlyFault s t) (n : Nat) (f : Part → Part) : OnlyFault s (t.updPart n f) := h.trans ⟨rfl⟩
theorem emit (h : OnlyFault s t) (o : Outp) : OnlyFault s (t.emit o) := h.trans ⟨rfl⟩
theorem setAlert (h : OnlyFault s t) : OnlyFault s t.setAlert := h.trans ⟨rfl⟩
theorem wsh (h : OnlyFault s t) (k : Fk) (v : Nat) : OnlyFault s (t.wsh k v) := h.trans ⟨rfl⟩
theorem updKeeper (h : OnlyFault s t) (f : Keeper → Keeper) : OnlyFault s (t.updKeeper f) := h.trans ⟨rfl⟩
theorem updChest (h : OnlyFault s t) (f : Chest → Chest) : OnlyFault s (t.updChest f) := h.trans ⟨rfl⟩

theorem watchSync (h : OnlyFault s t) (n : Nat) : OnlyFault s (t.watchSync n) := by
  unfold State.watchSync
  split
  · exact h.updPart _ _
  · exact h.updPart _ _
  · exact h

theorem setPst (h : OnlyFault s t) (n st : Nat) : OnlyFault s (t.setPst n st) := ((h.wf _ _).wf _ _).watchSync _

theorem bump (h : OnlyFault s t) (k : Fk) (n : Nat) : OnlyFault s (t.bump k n) := h.wf _ _
theorem breakLatches (h : OnlyFault s t) (p : Latch → Bool) : OnlyFault s (t.breakLatches p) := h.trans ⟨rfl⟩
theorem epochTile (h : OnlyFault s t) (n : Nat) : OnlyFault s (t.epochTile n) := (h.bump _ _).breakLatches _

theorem foldl {α : Type} {f : State → α → State} (h : ∀ s x, OnlyFault s (f s x)) (l : List α) (s : State) :
    OnlyFault s (l.foldl f s) := by
  induction l generalizing s with
  | nil => exact refl s
  | cons x l ih => exact (h s x).trans (ih _)

theorem wfs (h : OnlyFault s t) (l : List (Fk × Nat)) : OnlyFault s (t.wfs l) := h.trans (foldl (fun s _ => (refl s).wf _ _) l t)

theorem forEach (h : OnlyFault s t) (l : List Nat) {f : State → Nat → State} (hf : ∀ s x, OnlyFault s (f s x)) :
    OnlyFault s (t.forEach l f) := h.trans (foldl hf l t)

theorem irqPart (h : OnlyFault s t) (n v : Nat) : OnlyFault s (t.irqPart n v) := by
  unfold State.irqPart; exact ite (h.emit _) (h.emit _)

theorem irqPage (h : OnlyFault s t) (pg : Nat) : OnlyFault s (t.irqPage pg) := by
  unfold State.irqPage
  split
  · exact h
  · exact h
  · exact ite (h.irqPart _ _) (h.emit _)
  · exact h

theorem latchFault (h : OnlyFault s t) (code pg src tb r : Nat) : OnlyFault s (t.latchFault code pg src tb r) := by
  unfold State.latchFault
  refine ite ((h.wf _ _).wf _ _) ?_
  extract_lets valid s1 tilePg page
  have a : OnlyFault s s1 := h.wfs _
  split
  · exact ((a.wfs _).irqPage _).setAlert
  · exact a.wfs _
  · exact a

theorem offer (h : OnlyFault s t) (code pg src tb r : Nat) : OnlyFault s (t.offer code pg src tb r) := by
  unfold State.offer; exact ite (h.wf _ _) (h.latchFault ..)

theorem enterFault (h : OnlyFault s t) (n st c : Nat) : OnlyFault s (t.enterFault n st c) := by
  unfold State.enterFault; exact ((h.setPst n st).wf _ _).irqPart _ _

theorem reactPause (h : OnlyFault s t) (n : Nat) : OnlyFault s (t.reactPause n) := by
  unfold State.reactPause; exact ite ((h.updPart _ _).enterFault ..) h

theorem reactDegrade (h : OnlyFault s t) (n : Nat) : OnlyFault s (t.reactDegrade n) := by
  unfold State.reactDegrade; exact ite ((h.updPart _ _).enterFault ..) h

theorem reactFence (h : OnlyFault s t) (n : Nat) : OnlyFault s (t.reactFence n) := by
  unfold State.reactFence; exact ite ((h.updPart _ _).enterFault ..) h

theorem haltModule (h : OnlyFault s t) : OnlyFault s t.haltModule := by
  unfold State.haltModule
  refine ((h.wf _ _).irqPage _).forEach _ fun s n => ?_
  exact ite ((((refl s).enterFault ..).wf _ _).irqPart _ _) (refl s)

theorem sweepFenced (h : OnlyFault s t) (n : Nat) (hit : Nat → Bool) : OnlyFault s (t.sweepFenced n hit) := by
  unfold State.sweepFenced
  split
  · exact ite (h.updPart _ _) h
  · exact h

theorem taint (h : OnlyFault s t) (n u : Nat) : OnlyFault s (t.taint n u) := by
  unfold State.taint
  extract_lets r
  suffices g : ∀ (l : List Item) (p : List Item × State), OnlyFault s p.2 → OnlyFault s (l.foldl (fun (p : List Item × State) i =>
      if i.job = some u then (p.1 ++ [{ i with tainted := true }], p.2)
      else if i.job.isSome then
        let d := p.2.draw 1
        (p.1 ++ [{ i with tainted := i.tainted || d.1 == 1 }], d.2)
      else (p.1 ++ [i], p.2)) p).2 from (g _ ([], t) h).updPart _ _
  intro l
  induction l with
  | nil => exact fun p hp => hp
  | cons i l ih =>
    intro p hp
    refine ih _ ?_
    dsimp only
    split
    · exact hp
    · split
      · exact hp.trans ⟨rfl⟩
      · exact hp

theorem fenceTile (h : OnlyFault s t) (n : Nat) : OnlyFault s (t.fenceTile n) := by
  unfold State.fenceTile
  refine ite h ?_
  extract_lets k s0 s1 s2
  have a0 : OnlyFault s s0 := epochTile (bump (wf h k _) _ 1) n
  have a1 : OnlyFault s s1 := a0.updPlain _ _
  clear_value s1
  have a2 : OnlyFault s s2 := by
    unfold s2; split
    · exact (a1.sweepFenced _ _).taint _ _
    · exact a1
  clear_value s2
  exact ite (a2.updPlain _ _) a2

theorem suspendRoutes (h : OnlyFault s t) (p : Nat) : OnlyFault s (t.suspendRoutes p) := by
  unfold State.suspendRoutes
  refine h.trans (foldl (fun s u => (refl s).forEach _ fun s k => ite ?_ (refl s)) _ t)
  extract_lets s1
  split
  · exact ((refl s).wf _ _).updPart _ _
  · exact (refl s).wf _ _

theorem freeSlots (h : OnlyFault s t) : OnlyFault s t.freeSlots := (h.updChest _).updKeeper _

theorem setSel (h : OnlyFault s t) (n c : Nat) : OnlyFault s (t.setSel n c) := by
  unfold State.setSel; exact (h.wf _ _).wsh _ _

theorem putCopies (h : OnlyFault s t) (n : Nat) (c : Copies) : OnlyFault s (t.putCopies n c) := by
  unfold State.putCopies State.setCold; exact ((h.wfs _).setSel _ _).updKeeper _

theorem imgEnd (h : OnlyFault s t) (l : Load) (code : Nat) : OnlyFault s (t.imgEnd l code) := by
  unfold State.imgEnd State.loadReport
  extract_lets s1 s2
  have a1 : OnlyFault s s1 := (h.updKeeper _).wfs _
  have a2 : OnlyFault s s2 :=
    ite a1 (ite (a1.wf _ _) (ite ((a1.putCopies _ _).setSel _ _) (ite (a1.putCopies _ _) (a1.updKeeper _))))
  have a3 := ite (c := l.placing = true) a2.freeSlots (a2.updChest fun x => { x with imgs := sdel x.imgs l.slot })
  exact ite (a3.emit _) a3

theorem fenceLoad (h : OnlyFault s t) (p : Nat) : OnlyFault s (t.fenceLoad p).1 := by
  unfold State.fenceLoad
  split
  · split
    · dsimp only; exact (h.imgEnd _ _).irqPage _
    · exact h
  · exact h

theorem fencePlain (h : OnlyFault s t) (p lvl : Nat) : OnlyFault s (t.fencePlain p lvl).1 := by
  unfold State.fencePlain
  extract_lets cur s1 s2 s3 r
  have a1 : OnlyFault s s1 := ite (h.updPlain _ _) (h.wf _ _)
  have a2 : OnlyFault s s2 := ite ((a1.suspendRoutes _).updPlain _ _) a1
  have a3 : OnlyFault s s3 := by
    unfold s3; split
    · exact (a2.sweepFenced _ _).reactFence _
    · exact a2
  have a4 : OnlyFault s r.1 := by
    unfold r; split
    · exact a3.fenceLoad _
    · exact a3
  split
  · exact h
  · exact a4

theorem applyReact (h : OnlyFault s t) (pg r : Nat) (parts : List Nat) : OnlyFault s (t.applyReact pg r parts).1 := by
  unfold State.applyReact
  extract_lets s1 w
  have a1 : OnlyFault s s1 := ite (h.forEach _ fun s n => (refl s).updPart _ _) h
  clear_value s1 w
  split
  · split
    · exact a1.fenceTile _
    · exact a1
  · split
    · exact a1.fencePlain _ _
    · exact a1
  · split
    · exact a1.fencePlain _ _
    · exact a1
  · show OnlyFault s (s1.forEach parts State.reactPause)
    exact a1.forEach parts fun s n => (refl s).reactPause n
  · show OnlyFault s (s1.forEach parts State.reactDegrade)
    exact a1.forEach parts fun s n => (refl s).reactDegrade n
  · dsimp only
    exact haltModule a1
  · show OnlyFault s s1
    exact a1

theorem raise1 (h : OnlyFault s t) (code pg : Nat) (ppn : Option Nat) : OnlyFault s (t.raise1 code pg ppn).1 := by
  unfold State.raise1
  extract_lets parts s1 masked r0 r tb s2 s3 s4 s5
  have a2 : OnlyFault s s2 := (h.wf _ _).offer ..
  have a3 : OnlyFault s s3 := a2.forEach _ fun s n => (refl s).offer ..
  have a4 : OnlyFault s s4 := ite a3 (a3.offer ..)
  have a5 : OnlyFault s s5 := ite (a4.irqPage _) a4
  exact a5.applyReact ..

theorem raiseAll (h : OnlyFault s t) (n : Nat) (l : List (Nat × Nat × Option Nat)) : OnlyFault s (State.raiseAll n t l) := by
  induction n generalizing t l with
  | zero => exact h
  | succ n ih =>
    cases l with
    | nil => exact h
    | cons f l => exact ih (h.raise1 ..) _

theorem raise (h : OnlyFault s t) (code pg : Nat) : OnlyFault s (t.raise code pg) := h.raiseAll ..
theorem raiseTile (h : OnlyFault s t) (n code : Nat) : OnlyFault s (t.raiseTile n code) := h.raiseAll ..

theorem raiseEdgeUE (h : OnlyFault s t) (pa : Nat) : OnlyFault s (t.raiseEdgeUE pa) := by
  unfold State.raiseEdgeUE
  exact OnlyFault.raiseAll (ite h ((h.wf _ _).wf _ _)) ..

end OnlyFault

/-- Everything that a fault can do. -/
theorem State.raise_only (s : State) (code pg : Nat) : OnlyFault s (s.raise code pg) := (OnlyFault.refl s).raise ..

@[simp] theorem State.raise_mem (s : State) (code pg : Nat) : (s.raise code pg).mem = s.mem := (s.raise_only code pg).mem
@[simp] theorem State.raise_byte (s : State) (code pg a : Nat) : (s.raise code pg).byte a = s.byte a := (s.raise_only code pg).byte a
@[simp] theorem State.raise_time (s : State) (code pg : Nat) : (s.raise code pg).time = s.time := (s.raise_only code pg).time
@[simp] theorem State.raise_pending (s : State) (code pg : Nat) : (s.raise code pg).pending = s.pending := (s.raise_only code pg).pending

end Sys2Proof.Machine
end

