-- ==== Sys2Proof/Laws/Store.lean ====
section
/-! SUPPORT. Sparse tables: what a write reads back as, and that every operation keeps the rising order of the keys. -/

namespace Sys2Proof.Machine

variable {α : Type}

@[simp] theorem sget?_nil (k : Nat) : sget? ([] : SMap α) k = none := rfl
@[simp] theorem sget_nil (d : α) (k : Nat) : sget d ([] : SMap α) k = d := rfl

theorem sget?_sins (m : SMap α) (k j : Nat) (x : α) : sget? (sins m k x) j = if j = k then some x else sget? m j := by
  induction m with
  | nil => simp [sins, sget?, eq_comm]
  | cons e m ih =>
    obtain ⟨a, v⟩ := e
    simp only [sins]
    split
    · rename_i h; subst h; simp only [sget?]; by_cases h : a = j
      · simp [h]
      · simp [h, Ne.symm h]
    · split <;> simp only [sget?, ih] <;> by_cases h : j = k <;> by_cases h' : a = j <;> simp_all <;> omega

theorem sget?_sdel (m : SMap α) (k j : Nat) : sget? (sdel m k) j = if j = k then none else sget? m j := by
  induction m with
  | nil => simp [sdel]
  | cons e m ih =>
    obtain ⟨a, v⟩ := e
    simp only [sdel]
    split
    · rw [ih]; by_cases h : j = k <;> simp_all [sget?, eq_comm]
    · simp only [sget?, ih]; by_cases h : j = k <;> by_cases h' : a = j <;> simp_all

/-- What is written is read back, and every other key keeps its value. -/
theorem sget_sset [DecidableEq α] (d : α) (m : SMap α) (k j : Nat) (x : α) :
    sget d (sset d m k x) j = if j = k then x else sget d m j := by
  unfold sget sset
  split
  · rw [sget?_sdel]; split <;> simp_all
  · rw [sget?_sins]; split <;> simp

theorem sget_sins (d : α) (m : SMap α) (k j : Nat) (x : α) :
    sget d (sins m k x) j = if j = k then x else sget d m j := by
  unfold sget; rw [sget?_sins]; split <;> simp

@[simp] theorem sget_sset_self [DecidableEq α] (d : α) (m : SMap α) (k : Nat) (x : α) : sget d (sset d m k x) k = x := by
  rw [sget_sset]; simp

theorem sget_sset_ne [DecidableEq α] (d : α) (m : SMap α) {k j : Nat} (x : α) (h : j ≠ k) :
    sget d (sset d m k x) j = sget d m j := by
  rw [sget_sset]; simp [h]

/-! ### The order of the keys -/

theorem risesFrom_mono {m : SMap α} {a b : Nat} (h : a ≤ b) (hm : risesFrom b m = true) : risesFrom a m = true := by
  cases m with
  | nil => rfl
  | cons e m => obtain ⟨k, v⟩ := e; simp only [risesFrom, Bool.and_eq_true, decide_eq_true_eq] at *; exact ⟨by omega, hm.2⟩

theorem risesFrom_sins {m : SMap α} {lo k : Nat} (x : α) (hk : lo ≤ k) (hm : risesFrom lo m = true) :
    risesFrom lo (sins m k x) = true := by
  induction m generalizing lo with
  | nil => simp [sins, risesFrom, hk]
  | cons e m ih =>
    obtain ⟨a, v⟩ := e
    simp only [risesFrom, Bool.and_eq_true, decide_eq_true_eq] at hm
    simp only [sins]
    split
    · rename_i h; subst h; simp [risesFrom, hm]
    · split
      · simp [risesFrom, hk, hm]; omega
      · simp [risesFrom, hm.1, ih (lo := a + 1) (by omega) hm.2]

theorem risesFrom_filter {m : SMap α} {lo : Nat} (p : Nat × α → Bool) (hm : risesFrom lo m = true) :
    risesFrom lo (m.filter p) = true := by
  induction m generalizing lo with
  | nil => rfl
  | cons e m ih =>
    obtain ⟨a, v⟩ := e
    simp only [risesFrom, Bool.and_eq_true, decide_eq_true_eq] at hm
    rw [List.filter_cons]
    split
    · simp [risesFrom, hm.1, ih hm.2]
    · exact risesFrom_mono (by omega) (ih hm.2)

theorem sdel_eq_filter (m : SMap α) (k : Nat) : sdel m k = m.filter fun e => decide (e.1 ≠ k) := by
  induction m with
  | nil => rfl
  | cons e m ih => obtain ⟨a, v⟩ := e; simp only [sdel, List.filter_cons]; split <;> simp_all

theorem risesFrom_sset [DecidableEq α] {m : SMap α} {lo k : Nat} (d x : α) (hk : lo ≤ k) (hm : risesFrom lo m = true) :
    risesFrom lo (sset d m k x) = true := by
  unfold sset; split
  · rw [sdel_eq_filter]; exact risesFrom_filter _ hm
  · exact risesFrom_sins x hk hm

theorem all_sins {m : SMap α} {k : Nat} {x : α} (p : Nat × α → Bool) (hm : m.all p = true) (hx : p (k, x) = true) :
    (sins m k x).all p = true := by
  induction m with
  | nil => simp [sins, hx]
  | cons e m ih =>
    obtain ⟨a, v⟩ := e
    simp only [List.all_cons, Bool.and_eq_true] at hm
    simp only [sins]; split
    · simp only [List.all_cons, hx, hm.2, Bool.and_self]
    · split
      · simp only [List.all_cons, hx, hm.1, hm.2, Bool.and_self]
      · simp only [List.all_cons, hm.1, ih hm.2, Bool.and_self]

theorem all_filter_of_all {β : Type} {l : List β} (p q : β → Bool) (h : l.all p = true) : (l.filter q).all p = true := by
  rw [List.all_eq_true] at *; intro x hx; exact h x (List.mem_filter.mp hx).1

end Sys2Proof.Machine
end

