-- ==== Sys2Proof/Laws/Memory.lean ====
section
/-! SUPPORT. Memory: every operation on it keeps the canonical form, and what a write reads back as. -/

namespace Sys2Proof.Machine

/-! ### The canonical form -/

theorem Memory.wf_set {m : List Host.Cell} (k : Nat) (b : Byte) (h : Memory.wf m = true) : Memory.wf (sset 0 m k b) = true := by
  unfold Memory.wf at *
  simp only [Bool.and_eq_true] at *
  refine ⟨risesFrom_sset _ _ (Nat.zero_le _) h.1, ?_⟩
  unfold sset; split
  · rw [sdel_eq_filter]; exact all_filter_of_all _ _ h.2
  · rename_i hb; exact all_sins _ h.2 (by simpa using hb)

theorem Memory.wf_wr {m : List Host.Cell} (k n v : Nat) (h : Memory.wf m = true) : Memory.wf (memWr m k n v) = true := by
  induction n generalizing m k v with
  | zero => exact h
  | succ n ih => exact ih _ _ (Memory.wf_set _ _ h)

theorem Memory.wf_filter {m : List Host.Cell} (p : Host.Cell → Bool) (h : Memory.wf m = true) : Memory.wf (m.filter p) = true := by
  unfold Memory.wf at *
  simp only [Bool.and_eq_true] at *
  exact ⟨risesFrom_filter _ h.1, all_filter_of_all _ _ h.2⟩

/-- Every write to memory keeps the canonical form. -/
theorem State.wrMem_wf {s : State} (k n v : Nat) (h : Memory.wf s.mem = true) : Memory.wf (s.wrMem k n v).mem = true :=
  Memory.wf_wr k n v h

@[simp] theorem Memory.wf_reset : Memory.wf State.reset.mem = true := rfl

/-! ### Read after write -/

/-- One byte after a write: the byte of the value inside the range, and what it was outside. -/
theorem memWr_byte (m : List Host.Cell) (k n v a : Nat) :
    sget 0 (memWr m k n v) a = if k ≤ a ∧ a < k + n then BitVec.ofNat 8 (v / 256 ^ (a - k)) else sget 0 m a := by
  induction n generalizing m k v with
  | zero => rw [if_neg (by omega)]; rfl
  | succ n ih =>
    simp only [memWr, ih, sget_sset]
    by_cases h : a = k
    · subst h
      rw [if_neg (by omega), if_pos rfl, if_pos (by omega)]
      simp
    · by_cases h1 : k + 1 ≤ a ∧ a < k + 1 + n
      · have h2 : k ≤ a ∧ a < k + (n + 1) := by omega
        have h3 : a - k = (a - (k + 1)) + 1 := by omega
        simp only [h1, h2, and_self, if_true]
        rw [h3, Nat.pow_succ, Nat.mul_comm, Nat.div_div_eq_div_mul]
      · have h2 : ¬(k ≤ a ∧ a < k + (n + 1)) := by omega
        rw [if_neg h1, if_neg h, if_neg h2]

theorem State.wrMem_byte (s : State) (k n v a : Nat) :
    (s.wrMem k n v).byte a = if k ≤ a ∧ a < k + n then BitVec.ofNat 8 (v / 256 ^ (a - k)) else s.byte a :=
  memWr_byte s.mem k n v a

/-- Reading depends on the bytes of the range alone. -/
theorem State.rdMem_congr {s t : State} {k n : Nat} (h : ∀ a, k ≤ a → a < k + n → s.byte a = t.byte a) :
    s.rdMem k n = t.rdMem k n := by
  induction n generalizing k with
  | zero => rfl
  | succ n ih =>
    simp only [State.rdMem]
    rw [h k (Nat.le_refl _) (by omega), ih fun a h1 h2 => h a (by omega) (by omega)]

theorem State.rdMem_lt (s : State) (k n : Nat) : s.rdMem k n < 256 ^ n := by
  induction n generalizing k with
  | zero => simp [State.rdMem]
  | succ n ih =>
    have h1 := ih (k + 1)
    have h2 := (s.byte k).isLt
    simp only [State.rdMem, Nat.pow_succ]
    omega

end Sys2Proof.Machine
end

