-- ==== Sys2Proof/Laws/Registers.lean ====
section
/-! SUPPORT. What is read after a named update: registers, tiles, plains, partitions and bytes. -/

namespace Sys2Proof.Machine

variable (s : State)

/-! ### What an update leaves -/

@[simp] theorem State.wf_tile (k : Fk) (v : Nat) (u : Nat) : (s.wf k v).tile u = s.tile u := rfl
@[simp] theorem State.wf_plain (k : Fk) (v : Nat) (q : Nat) : (s.wf k v).plain q = s.plain q := rfl
@[simp] theorem State.wf_part (k : Fk) (v : Nat) (m : Nat) : (s.wf k v).part m = s.part m := rfl
@[simp] theorem State.wf_byte (k : Fk) (v : Nat) (a : Nat) : (s.wf k v).byte a = s.byte a := rfl

@[simp] theorem State.bump_tile (k : Fk) (n : Nat) (u : Nat) : (s.bump k n).tile u = s.tile u := rfl
@[simp] theorem State.bump_plain (k : Fk) (n : Nat) (q : Nat) : (s.bump k n).plain q = s.plain q := rfl
@[simp] theorem State.bump_part (k : Fk) (n : Nat) (m : Nat) : (s.bump k n).part m = s.part m := rfl
@[simp] theorem State.bump_byte (k : Fk) (n : Nat) (a : Nat) : (s.bump k n).byte a = s.byte a := rfl

@[simp] theorem State.sat_tile (k : Fk) (n : Nat) (u : Nat) : (s.sat k n).tile u = s.tile u := rfl
@[simp] theorem State.sat_plain (k : Fk) (n : Nat) (q : Nat) : (s.sat k n).plain q = s.plain q := rfl
@[simp] theorem State.sat_part (k : Fk) (n : Nat) (m : Nat) : (s.sat k n).part m = s.part m := rfl
@[simp] theorem State.sat_byte (k : Fk) (n : Nat) (a : Nat) : (s.sat k n).byte a = s.byte a := rfl

@[simp] theorem State.wsh_rf (k : Fk) (v : Nat) (j : Fk) : (s.wsh k v).rf j = s.rf j := rfl
@[simp] theorem State.wsh_tile (k : Fk) (v : Nat) (u : Nat) : (s.wsh k v).tile u = s.tile u := rfl
@[simp] theorem State.wsh_plain (k : Fk) (v : Nat) (q : Nat) : (s.wsh k v).plain q = s.plain q := rfl
@[simp] theorem State.wsh_part (k : Fk) (v : Nat) (m : Nat) : (s.wsh k v).part m = s.part m := rfl
@[simp] theorem State.wsh_byte (k : Fk) (v : Nat) (a : Nat) : (s.wsh k v).byte a = s.byte a := rfl

@[simp] theorem State.wboth_tile (k : Fk) (v : Nat) (u : Nat) : (s.wboth k v).tile u = s.tile u := rfl
@[simp] theorem State.wboth_plain (k : Fk) (v : Nat) (q : Nat) : (s.wboth k v).plain q = s.plain q := rfl
@[simp] theorem State.wboth_part (k : Fk) (v : Nat) (m : Nat) : (s.wboth k v).part m = s.part m := rfl
@[simp] theorem State.wboth_byte (k : Fk) (v : Nat) (a : Nat) : (s.wboth k v).byte a = s.byte a := rfl

@[simp] theorem State.setPst_tile (n st : Nat) (u : Nat) : (s.setPst n st).tile u = s.tile u := by simp [State.tile]
@[simp] theorem State.setPst_plain (n st : Nat) (q : Nat) : (s.setPst n st).plain q = s.plain q := by simp [State.plain]
@[simp] theorem State.setPst_byte (n st : Nat) (a : Nat) : (s.setPst n st).byte a = s.byte a := by simp [State.byte]

@[simp] theorem State.setTile_rf (t : Nat) (x : Tile) (j : Fk) : (s.setTile t x).rf j = s.rf j := rfl
@[simp] theorem State.setTile_plain (t : Nat) (x : Tile) (q : Nat) : (s.setTile t x).plain q = s.plain q := rfl
@[simp] theorem State.setTile_part (t : Nat) (x : Tile) (m : Nat) : (s.setTile t x).part m = s.part m := rfl
@[simp] theorem State.setTile_byte (t : Nat) (x : Tile) (a : Nat) : (s.setTile t x).byte a = s.byte a := rfl

@[simp] theorem State.updTile_rf (t : Nat) (f : Tile → Tile) (j : Fk) : (s.updTile t f).rf j = s.rf j := rfl
@[simp] theorem State.updTile_plain (t : Nat) (f : Tile → Tile) (q : Nat) : (s.updTile t f).plain q = s.plain q := rfl
@[simp] theorem State.updTile_part (t : Nat) (f : Tile → Tile) (m : Nat) : (s.updTile t f).part m = s.part m := rfl
@[simp] theorem State.updTile_byte (t : Nat) (f : Tile → Tile) (a : Nat) : (s.updTile t f).byte a = s.byte a := rfl

@[simp] theorem State.updPlain_rf (p : Nat) (f : Plain → Plain) (j : Fk) : (s.updPlain p f).rf j = s.rf j := rfl
@[simp] theorem State.updPlain_tile (p : Nat) (f : Plain → Plain) (u : Nat) : (s.updPlain p f).tile u = s.tile u := rfl
@[simp] theorem State.updPlain_part (p : Nat) (f : Plain → Plain) (m : Nat) : (s.updPlain p f).part m = s.part m := rfl
@[simp] theorem State.updPlain_byte (p : Nat) (f : Plain → Plain) (a : Nat) : (s.updPlain p f).byte a = s.byte a := rfl

@[simp] theorem State.updPart_rf (n : Nat) (f : Part → Part) (j : Fk) : (s.updPart n f).rf j = s.rf j := rfl
@[simp] theorem State.updPart_tile (n : Nat) (f : Part → Part) (u : Nat) : (s.updPart n f).tile u = s.tile u := rfl
@[simp] theorem State.updPart_plain (n : Nat) (f : Part → Part) (q : Nat) : (s.updPart n f).plain q = s.plain q := rfl
@[simp] theorem State.updPart_byte (n : Nat) (f : Part → Part) (a : Nat) : (s.updPart n f).byte a = s.byte a := rfl

@[simp] theorem State.setLatch_rf (k : Nat) (l : Latch) (j : Fk) : (s.setLatch k l).rf j = s.rf j := rfl
@[simp] theorem State.setLatch_tile (k : Nat) (l : Latch) (u : Nat) : (s.setLatch k l).tile u = s.tile u := rfl
@[simp] theorem State.setLatch_plain (k : Nat) (l : Latch) (q : Nat) : (s.setLatch k l).plain q = s.plain q := rfl
@[simp] theorem State.setLatch_part (k : Nat) (l : Latch) (m : Nat) : (s.setLatch k l).part m = s.part m := rfl
@[simp] theorem State.setLatch_byte (k : Nat) (l : Latch) (a : Nat) : (s.setLatch k l).byte a = s.byte a := rfl

@[simp] theorem State.setTb_rf (n : Nat) (x : Tb) (j : Fk) : (s.setTb n x).rf j = s.rf j := rfl
@[simp] theorem State.setTb_tile (n : Nat) (x : Tb) (u : Nat) : (s.setTb n x).tile u = s.tile u := rfl
@[simp] theorem State.setTb_plain (n : Nat) (x : Tb) (q : Nat) : (s.setTb n x).plain q = s.plain q := rfl
@[simp] theorem State.setTb_part (n : Nat) (x : Tb) (m : Nat) : (s.setTb n x).part m = s.part m := rfl
@[simp] theorem State.setTb_byte (n : Nat) (x : Tb) (a : Nat) : (s.setTb n x).byte a = s.byte a := rfl

@[simp] theorem State.setSpan_rf (p : Nat) (x : Span) (j : Fk) : (s.setSpan p x).rf j = s.rf j := rfl
@[simp] theorem State.setSpan_tile (p : Nat) (x : Span) (u : Nat) : (s.setSpan p x).tile u = s.tile u := rfl
@[simp] theorem State.setSpan_plain (p : Nat) (x : Span) (q : Nat) : (s.setSpan p x).plain q = s.plain q := rfl
@[simp] theorem State.setSpan_part (p : Nat) (x : Span) (m : Nat) : (s.setSpan p x).part m = s.part m := rfl
@[simp] theorem State.setSpan_byte (p : Nat) (x : Span) (a : Nat) : (s.setSpan p x).byte a = s.byte a := rfl

@[simp] theorem State.setIngr_rf (i : Nat) (x : Ingress) (j : Fk) : (s.setIngr i x).rf j = s.rf j := rfl
@[simp] theorem State.setIngr_tile (i : Nat) (x : Ingress) (u : Nat) : (s.setIngr i x).tile u = s.tile u := rfl
@[simp] theorem State.setIngr_plain (i : Nat) (x : Ingress) (q : Nat) : (s.setIngr i x).plain q = s.plain q := rfl
@[simp] theorem State.setIngr_part (i : Nat) (x : Ingress) (m : Nat) : (s.setIngr i x).part m = s.part m := rfl
@[simp] theorem State.setIngr_byte (i : Nat) (x : Ingress) (a : Nat) : (s.setIngr i x).byte a = s.byte a := rfl

@[simp] theorem State.setEgr_rf (e : Nat) (x : Egress) (j : Fk) : (s.setEgr e x).rf j = s.rf j := rfl
@[simp] theorem State.setEgr_tile (e : Nat) (x : Egress) (u : Nat) : (s.setEgr e x).tile u = s.tile u := rfl
@[simp] theorem State.setEgr_plain (e : Nat) (x : Egress) (q : Nat) : (s.setEgr e x).plain q = s.plain q := rfl
@[simp] theorem State.setEgr_part (e : Nat) (x : Egress) (m : Nat) : (s.setEgr e x).part m = s.part m := rfl
@[simp] theorem State.setEgr_byte (e : Nat) (x : Egress) (a : Nat) : (s.setEgr e x).byte a = s.byte a := rfl

@[simp] theorem State.updKeeper_rf (f : Keeper → Keeper) (j : Fk) : (s.updKeeper f).rf j = s.rf j := rfl
@[simp] theorem State.updKeeper_tile (f : Keeper → Keeper) (u : Nat) : (s.updKeeper f).tile u = s.tile u := rfl
@[simp] theorem State.updKeeper_plain (f : Keeper → Keeper) (q : Nat) : (s.updKeeper f).plain q = s.plain q := rfl
@[simp] theorem State.updKeeper_part (f : Keeper → Keeper) (m : Nat) : (s.updKeeper f).part m = s.part m := rfl
@[simp] theorem State.updKeeper_byte (f : Keeper → Keeper) (a : Nat) : (s.updKeeper f).byte a = s.byte a := rfl

@[simp] theorem State.updChest_rf (f : Chest → Chest) (j : Fk) : (s.updChest f).rf j = s.rf j := rfl
@[simp] theorem State.updChest_tile (f : Chest → Chest) (u : Nat) : (s.updChest f).tile u = s.tile u := rfl
@[simp] theorem State.updChest_plain (f : Chest → Chest) (q : Nat) : (s.updChest f).plain q = s.plain q := rfl
@[simp] theorem State.updChest_part (f : Chest → Chest) (m : Nat) : (s.updChest f).part m = s.part m := rfl
@[simp] theorem State.updChest_byte (f : Chest → Chest) (a : Nat) : (s.updChest f).byte a = s.byte a := rfl

@[simp] theorem State.wrMem_rf (k n v : Nat) (j : Fk) : (s.wrMem k n v).rf j = s.rf j := rfl
@[simp] theorem State.wrMem_tile (k n v : Nat) (u : Nat) : (s.wrMem k n v).tile u = s.tile u := rfl
@[simp] theorem State.wrMem_plain (k n v : Nat) (q : Nat) : (s.wrMem k n v).plain q = s.plain q := rfl
@[simp] theorem State.wrMem_part (k n v : Nat) (m : Nat) : (s.wrMem k n v).part m = s.part m := rfl

@[simp] theorem State.markBad_rf (k : Nat) (j : Fk) : (s.markBad k).rf j = s.rf j := rfl
@[simp] theorem State.markBad_tile (k : Nat) (u : Nat) : (s.markBad k).tile u = s.tile u := rfl
@[simp] theorem State.markBad_plain (k : Nat) (q : Nat) : (s.markBad k).plain q = s.plain q := rfl
@[simp] theorem State.markBad_part (k : Nat) (m : Nat) : (s.markBad k).part m = s.part m := rfl
@[simp] theorem State.markBad_byte (k : Nat) (a : Nat) : (s.markBad k).byte a = s.byte a := rfl

@[simp] theorem State.emit_rf (o : Outp) (j : Fk) : (s.emit o).rf j = s.rf j := rfl
@[simp] theorem State.emit_tile (o : Outp) (u : Nat) : (s.emit o).tile u = s.tile u := rfl
@[simp] theorem State.emit_plain (o : Outp) (q : Nat) : (s.emit o).plain q = s.plain q := rfl
@[simp] theorem State.emit_part (o : Outp) (m : Nat) : (s.emit o).part m = s.part m := rfl
@[simp] theorem State.emit_byte (o : Outp) (a : Nat) : (s.emit o).byte a = s.byte a := rfl

@[simp] theorem State.at_rf (t : Nat) (j : Fk) : (s.at t).rf j = s.rf j := rfl
@[simp] theorem State.at_tile (t : Nat) (u : Nat) : (s.at t).tile u = s.tile u := rfl
@[simp] theorem State.at_plain (t : Nat) (q : Nat) : (s.at t).plain q = s.plain q := rfl
@[simp] theorem State.at_part (t : Nat) (m : Nat) : (s.at t).part m = s.part m := rfl
@[simp] theorem State.at_byte (t : Nat) (a : Nat) : (s.at t).byte a = s.byte a := rfl

/-! ### Register fields -/

/-- A field written is read back, clipped to its width; every other field reads as before. -/
theorem State.rf_wf (k : Fk) (v : Nat) (j : Fk) : (s.wf k v).rf j = if j.key = k.key then v % 2 ^ k.w else s.rf j := by
  unfold State.rf State.wf
  by_cases h : j.key = k.key
  · simp only [h, sget_sset_self, if_true]
  · simp only [h, if_false]
    unfold sget sset
    split
    · rw [sget?_sdel]; simp [h]
    · rw [sget?_sins]; simp [h]

@[simp] theorem State.rf_wf_self (k : Fk) (v : Nat) : (s.wf k v).rf k = v % 2 ^ k.w := by rw [State.rf_wf]; simp

theorem State.rf_wf_ne {k j : Fk} (v : Nat) (h : j.key ≠ k.key) : (s.wf k v).rf j = s.rf j := by rw [State.rf_wf]; simp [h]

/-- A list of writes leaves every field that it does not name. -/
theorem State.rf_wfs_ne (l : List (Fk × Nat)) (j : Fk) (h : ∀ p ∈ l, j.key ≠ p.1.key) : (s.wfs l).rf j = s.rf j := by
  unfold State.wfs
  induction l generalizing s with
  | nil => rfl
  | cons p l ih =>
    rw [List.foldl_cons, ih _ fun q hq => h q (List.mem_cons_of_mem _ hq), State.rf_wf_ne]
    exact h p List.mem_cons_self

/-- A list of writes changes nothing but register fields. -/
theorem State.wfs_only (l : List (Fk × Nat)) : s.wfs l = { s with fld := (s.wfs l).fld } := by
  unfold State.wfs
  induction l generalizing s with
  | nil => rfl
  | cons p l ih => rw [List.foldl_cons, ih]; rfl

/-! ### Tiles, plains, partitions -/

theorem State.tile_updTile (t u : Nat) (f : Tile → Tile) : (s.updTile t f).tile u = if u = t then f (s.tile t) else s.tile u := by
  unfold State.updTile State.setTile State.tile; exact sget_sset ..

theorem State.plain_updPlain (p q : Nat) (f : Plain → Plain) : (s.updPlain p f).plain q = if q = p then f (s.plain p) else s.plain q := by
  unfold State.updPlain State.setPlain State.plain; exact sget_sset ..

theorem State.part_updPart (n m : Nat) (f : Part → Part) : (s.updPart n f).part m = if m = n then f (s.part n) else s.part m := by
  unfold State.updPart State.setPart State.part; exact sget_sset ..

@[simp] theorem State.tile_updTile_self (t : Nat) (f : Tile → Tile) : (s.updTile t f).tile t = f (s.tile t) := by
  rw [State.tile_updTile]; simp

@[simp] theorem State.plain_updPlain_self (p : Nat) (f : Plain → Plain) : (s.updPlain p f).plain p = f (s.plain p) := by
  rw [State.plain_updPlain]; simp

@[simp] theorem State.part_updPart_self (n : Nat) (f : Part → Part) : (s.updPart n f).part n = f (s.part n) := by
  rw [State.part_updPart]; simp

/-! ### The registers of a tile: s0 and p0 are hard-wired -/

@[simp] theorem Tile.sreg_zero (x : Tile) : x.sreg 0 = 0 := rfl
@[simp] theorem Tile.wsreg_zero (x : Tile) (v : W32) : x.wsreg 0 v = x := rfl
@[simp] theorem Tile.wpred_zero (x : Tile) (k : Nat) (v : W32) : x.wpred k 0 v = x := rfl

end Sys2Proof.Machine
end

