-- ==== Sys2Proof/Laws/Tile.lean ====
section
/-! SUPPORT. The shared operations of the core: what an issue comes to on a ready core, and what queues, tasks and tile faults can
touch. -/

namespace Sys2Proof.Machine

/-! ### Issue on a ready core -/

variable {s : State} {t k : Nat}

theorem issue_ready (h : CoreReady s t k) (body : Nat → Issue) : s.issue t true body = s.conclude t k (body k) := by
  obtain ⟨_, _, h1, h2, h3⟩ := h
  simp [State.issue, h1, h3, Nat.not_lt.mpr h2]

/-- A word that does not decode faults on a ready core. -/
theorem issue_undecoded (h : CoreReady s t k) (body : Nat → Issue) : s.issue t false body = s.taskFault t k 0x1001 := by
  obtain ⟨_, _, h1, h2, h3⟩ := h
  simp [State.issue, State.conclude, h1, h3, Nat.not_lt.mpr h2]

theorem issueG_ready {g : Guard} (h : CoreReady s t k) (hg : s.guardOn t k g) (body : Nat → Issue) :
    s.issueG t g true body = s.conclude t k (body k) := by
  rw [State.issueG, issue_ready h]; simp only [State.guardOn] at hg; simp [hg]

/-- With a false guard only the program counter moves. -/
theorem issueG_off {g : Guard} (h : CoreReady s t k) (hg : ¬ s.guardOn t k g) (body : Nat → Issue) :
    s.issueG t g true body = s.retire t k := by
  rw [State.issueG, issue_ready h]; simp only [State.guardOn] at hg; simp [hg, State.conclude, State.retire]

theorem pcOf_ready (h : CoreReady s t k) : s.pcOf t = s.rf (TILE_TASK_STATE_PC t k) := by
  obtain ⟨_, _, h1, _, _⟩ := h
  simp [State.pcOf, h1]

/-! ### Checks at issue -/

theorem lowest_nil : lowest [] = 0 := rfl

/-- The body runs exactly when no check is broken; else the lowest code faults. -/
theorem checked_ok {l : List (Bool × Nat)} (body : Issue) (h : lowest l = 0) : checked l body = body := by simp [checked, h]

theorem checked_broken {l : List (Bool × Nat)} (body : Issue) (h : lowest l ≠ 0) : checked l body = .fault (lowest l) := by
  simp [checked, h]

/-! ### Tasks and queues -/

variable {u : State}

theorem OnlyFault.promote (h : OnlyFault s u) (t : Nat) : OnlyFault s (u.promote t) := by
  unfold State.promote
  exact OnlyFault.ite (h.forEach _ fun s _ => OnlyFault.ite (((OnlyFault.refl s).wf _ _).updTile _ _) (OnlyFault.refl s)) h

theorem OnlyFault.pushIn (h : OnlyFault s u) (t k : Nat) (e : QEnt) : OnlyFault s (u.pushIn t k e) := (h.updTile _ _).promote _

theorem OnlyFault.pushOut (h : OnlyFault s u) (t k : Nat) (e : Entry) (ty : EType) : OnlyFault s (u.pushOut t k e ty) := by
  unfold State.pushOut State.pushOutE; exact h.updTile _ _

theorem OnlyFault.setPc (h : OnlyFault s u) (t k pc : Nat) : OnlyFault s (u.setPc t k pc) := (h.updTile _ _).wf _ _

theorem OnlyFault.popOut (h : OnlyFault s u) (t k n : Nat) : OnlyFault s (u.popOut t k n) := (h.updTile _ _).promote _

theorem OnlyFault.leaveTask (h : OnlyFault s u) (t k st : Nat) (m : Bool) : OnlyFault s (u.leaveTask t k st m) := by
  unfold State.leaveTask State.deselect
  exact (((h.wf _ _).updTile _ _).updTile _ _).promote _

theorem OnlyFault.taskFault (h : OnlyFault s u) (t k code : Nat) : OnlyFault s (u.taskFault t k code) := by
  unfold State.taskFault State.deselect
  exact (((h.wf _ _).updTile _ _).updTile _ _).raiseTile _ _

/-- Everything that a fault at issue can do. -/
theorem State.taskFault_only (s : State) (t k code : Nat) : OnlyFault s (s.taskFault t k code) := (OnlyFault.refl s).taskFault ..

/-- An issue whose body ends in a state of this kind ends in one. -/
theorem OnlyFault.conclude {i : Issue} (t k : Nat) (h : match i with
    | .done s' => OnlyFault s s'
    | .jump s' _ => OnlyFault s s'
    | .leave s' => OnlyFault s s'
    | .faultIn s' _ => OnlyFault s s'
    | _ => True) : OnlyFault s (s.conclude t k i) := by
  cases i with
  | done s' => exact OnlyFault.setPc h ..
  | jump s' pc => exact OnlyFault.setPc h ..
  | leave s' => exact h
  | fault code => exact (OnlyFault.refl s).taskFault ..
  | faultIn s' code => exact OnlyFault.taskFault h ..
  | block w => exact OnlyFault.leaveTask ((((OnlyFault.refl s).bump _ _).wf _ _).updTile _ _) ..
  | wait => exact OnlyFault.refl s

/-- What popping an input queue touches: the tile, and the credits on their way back. -/
theorem State.popIn_mem (s : State) (t k : Nat) : (s.popIn t k).mem = s.mem := by
  unfold State.popIn; dsimp only; split <;> rfl

end Sys2Proof.Machine
end

