-- ==== Sys2Proof/WellFormed.lean ====
section
/-! DEFINITION. Which commands are well formed: every index names a thing of which the spec gives that many, every length is
one that the access can have, and an F instruction holds no field that its form does not carry. -/

namespace Sys2Proof

/-- The form of an F instruction (Table IS-3): with I = 1 the immediate stands in place of RB, RC, TS and SCALE; with I = 0
there is none. -/
def FArgs.formed (a : FArgs) : Bool :=
  if a.i = 1 then a.rb == 0 && a.rc == 0 && a.ts == 0 && a.scale == 0 else a.imm == 0

/-- One of the 262,144 tiles. -/
def tileOk (t : Nat) : Bool := decide (t < 262144)

/-- A command whose operands are in the ranges that the spec gives them: functions 0 to 16, partitions 0 to 15, plains 0 to
63, tasks, queues, streams, ports, spans, latches, sessions and table entries by their numbers. [entry 8 DESIGN CHOICE] -/
def wellFormed : Instr → Bool
  | .registerWrite f off _ => decide (f < 17) && decide (off % 8 = 0)
  | .rcRegisterRead f off => decide (f < 17) && decide (off % 8 = 0)
  | .misalignedRegisterAccess f off bytes _ => decide (f < 17) && !(bytes == 8 && off % 8 == 0)
  | .cntFreezeWrite f _ _ => decide (f < 17)
  | .sriovNumvfsWrite n _ => decide (n ≤ 16)
  | .apertureAccess f _ bytes _ _ => decide (f < 17) && decide (1 ≤ bytes) && decide (bytes ≤ 8)
  | .apertureWrite f _ _ => decide (f < 17)
  | .vfFunctionLevelReset k => decide (1 ≤ k) && decide (k ≤ 16)
  | .managementReset => true
  | .start f n => decide (f < 17) && decide (n < 16)
  | .stop f n => decide (f < 17) && decide (n < 16)
  | .drain f n => decide (f < 17) && decide (n < 16)
  | .resume f n => decide (f < 17) && decide (n < 16)
  | .pause f n => decide (f < 17) && decide (n < 16)
  | .partitionReset f n => decide (f < 17) && decide (n < 16)
  | .partitionResetComplete n => decide (n < 16)
  | .drainComplete n => decide (n < 16)
  | .drainTimeout n _ => decide (n < 16)
  | .stagedFieldWrite f off _ => decide (f < 17) && decide (off % 8 = 0)
  | .commit f _ _ => decide (f < 17)
  | .discard f _ _ => decide (f < 17)
  | .seamApplyComplete n g => decide (n < 16) && decide (g < 16)
  | .latchAcquire _ k => decide (k < 256)
  | .latchRelease _ k => decide (k < 256)
  | .latchForce _ k => decide (k < 256)
  | .moduleResetWrite _ _ => true
  | .perstAssert _ => true
  | .perstRelease _ => true
  | .pcieLinkL0 _ _ _ _ => true
  | .passCrcFailure p edge link dir plane _ _ _ => decide (p < 64) && decide (edge < 4) &&
      decide (link < 64) && decide (dir < 2) && decide (plane < 2)
  | .laneReplacement p => decide (p < 64)
  | .hardwareFaultDetect t unit => tileOk t && decide (unit < 4)
  | .respareMapComputed p => decide (p < 64)
  | .plainQuiesced p _ => decide (p < 64)
  | .respareIntentProgrammed p => decide (p < 64)
  | .respareCopyStep p _ => decide (p < 64)
  | .respareRefillComplete p _ => decide (p < 64)
  | .plainResume p _ => decide (p < 64)
  | .respareCommitProgrammed p => decide (p < 64)
  | .respare f p x y => decide (f < 17) && decide (p < 64) && decide (x < 128) && decide (y < 128)
  | .retireRow f p y => decide (f < 17) && decide (p < 64) && decide (y < 128)
  | .retest f p x y => decide (f < 17) && decide (p < 64) && decide (x < 128) && decide (y < 128)
  | .retestComplete p _ => decide (p < 64)
  | .computeFence f p => decide (f < 17) && decide (p < 64)
  | .fullFence f p => decide (f < 17) && decide (p < 64)
  | .unfence f p => decide (f < 17) && decide (p < 64)
  | .laneRespare f p edge link dir plane group lane => decide (f < 17) && decide (p < 64) &&
      decide (edge < 4) && decide (link < 64) && decide (dir < 2) && decide (plane < 2) && decide (group < 9) && decide (lane < 68)
  | .instructionFetch t g _ => tileOk t && decide (g < 1536)
  | .taskDispatch t => tileOk t
  | .taskUnblock t k => tileOk t && decide (k < 16)
  | .taskEnableWrite t k _ => tileOk t && decide (k < 16)
  | .tileRunWrite t _ => tileOk t
  | .illegalInstruction t _ => tileOk t
  | .add t _ a => tileOk t && a.formed
  | .sub t _ a => tileOk t && a.formed
  | .mul t _ a => tileOk t && a.formed
  | .mulh t _ a => tileOk t && a.formed
  | .and t _ a => tileOk t && a.formed
  | .or t _ a => tileOk t && a.formed
  | .xor t _ a => tileOk t && a.formed
  | .andn t _ a => tileOk t && a.formed
  | .shl t _ a => tileOk t && a.formed
  | .shr t _ a => tileOk t && a.formed
  | .min t _ a => tileOk t && a.formed
  | .max t _ a => tileOk t && a.formed
  | .abs t _ a => tileOk t && a.formed
  | .mov t _ a => tileOk t && a.formed
  | .adds t _ a => tileOk t && a.formed
  | .subs t _ a => tileOk t && a.formed
  | .fadd t _ a => tileOk t && a.formed
  | .fsub t _ a => tileOk t && a.formed
  | .fmul t _ a => tileOk t && a.formed
  | .fma t _ a => tileOk t && a.formed
  | .fmin t _ a => tileOk t && a.formed
  | .fmax t _ a => tileOk t && a.formed
  | .fneg t _ a => tileOk t && a.formed
  | .fabs t _ a => tileOk t && a.formed
  | .cmpeq t _ a => tileOk t && a.formed
  | .cmpne t _ a => tileOk t && a.formed
  | .cmplt t _ a => tileOk t && a.formed
  | .cmple t _ a => tileOk t && a.formed
  | .sel t _ a => tileOk t && a.formed
  | .cvt t _ a => tileOk t && a.formed
  | .redadd t _ a => tileOk t && a.formed
  | .redmax t _ a => tileOk t && a.formed
  | .vbcast t _ a => tileOk t && a.formed
  | .vext t _ a => tileOk t && a.formed
  | .vins t _ a => tileOk t && a.formed
  | .pand t _ a => tileOk t && a.formed
  | .por t _ a => tileOk t && a.formed
  | .pxor t _ a => tileOk t && a.formed
  | .pnot t _ a => tileOk t && a.formed
  | .pfroms t _ a => tileOk t && a.formed
  | .sfromp t _ a => tileOk t && a.formed
  | .ld t _ _ _ => tileOk t
  | .st t _ _ _ => tileOk t
  | .put t _ _ => tileOk t
  | .get t _ _ => tileOk t
  | .pops t _ _ => tileOk t
  | .popv t _ _ => tileOk t
  | .popd t _ _ => tileOk t
  | .skip t _ _ => tileOk t
  | .pushs t _ _ => tileOk t
  | .pushv t _ _ => tileOk t
  | .pushd t _ _ _ => tileOk t
  | .qcnt t _ _ => tileOk t
  | .mldw t _ _ => tileOk t
  | .mma t _ _ => tileOk t
  | .mmag t _ _ => tileOk t
  | .mmas t _ _ => tileOk t
  | .mza t _ _ => tileOk t
  | .mwra t _ _ => tileOk t
  | .msta t _ _ => tileOk t
  | .mrda t _ _ => tileOk t
  | .matrixOpStart t _ => tileOk t
  | .matrixRow t _ _ => tileOk t
  | .mmagRow t => tileOk t
  | .matrixOpComplete t => tileOk t
  | .mmasRowPush t => tileOk t
  | .nop t _ _ => tileOk t
  | .tend t _ _ => tileOk t
  | .tyield t _ _ => tileOk t
  | .loop t _ _ => tileOk t
  | .lend t _ _ => tileOk t
  | .jmp t _ _ => tileOk t
  | .rdid t _ _ => tileOk t
  | .rdcyc t _ _ => tileOk t
  | .haddr t _ _ => tileOk t
  | .hgen t _ _ => tileOk t
  | .sstart t _ _ => tileOk t
  | .sstop t _ _ => tileOk t
  | .sstat t _ _ => tileOk t
  | .row t _ _ => tileOk t
  | .rowOpComplete t _ _ _ => tileOk t
  | .deskRequestGrant t _ _ => tileOk t
  | .benchRequestGrant t _ _ => tileOk t
  | .deskScrub t _ => tileOk t
  | .benchRefreshStep t => tileOk t
  | .refreshIntervalHalve p _ => decide (p < 64)
  | .refreshIntervalRestore p _ => decide (p < 64)
  | .benchRowReplacement t row _ => tileOk t && decide (row < 2048)
  | .edgePatrolScrub _ _ => true
  | .peptEntryWrite f n _ => decide (f < 17) && decide (n < 16)
  | .pageIn f n _ => decide (f < 17) && decide (n < 16)
  | .edgeWindowWrite n _ => decide (n < 16)
  | .meshEpochTick p => decide (p < 64)
  | .bankSettlingEnd p => decide (p < 64)
  | .slotTableWrite t b o i _ => tileOk t && decide (b < 2) && decide (o < 9) && decide (i < 8)
  | .qbindWrite t k _ => tileOk t && decide (k < 16)
  | .circuitFlitInject t k slot _ => tileOk t && decide (k < 8) && decide (slot < 32)
  | .circuitFlitForward _ => true
  | .circuitFlitDeliver _ => true
  | .creditReturn t k => tileOk t && decide (k < 8)
  | .packetHop _ dir => decide (dir < 4)
  | .packetEscape _ => true
  | .write _ _ => true
  | .read _ _ => true
  | .resp _ => true
  | .packetQpush _ => true
  | .mwrite _ _ => true
  | .detourTableLoaded _ => true
  | .stallDeclare n _ => decide (n < 16)
  | .spillRefill t k => tileOk t && decide (k < 8)
  | .spanFlitReceive p _ _ _ _ => decide (p < 6)
  | .spanReplayTimeout p => decide (p < 6)
  | .spanLinkDown p => decide (p < 6)
  | .spanLinkUp p _ _ => decide (p < 6)
  | .spanNodeWrite f _ => decide (f < 17)
  | .streamCmdStart t d => tileOk t && decide (d < 8)
  | .streamCmdStop t d => tileOk t && decide (d < 8)
  | .streamIndexPop t d => tileOk t && decide (d < 8)
  | .streamTransferIssue t d _ _ => tileOk t && decide (d < 8)
  | .streamTransferComplete t d _ _ => tileOk t && decide (d < 8)
  | .streamRingNotify t d => tileOk t && decide (d < 8)
  | .streamRingCredit t d => tileOk t && decide (d < 8)
  | .streamHaltPost t d _ => tileOk t && decide (d < 8)
  | .haltPop f n => decide (f < 17) && decide (n < 16)
  | .pstrResume f n _ _ => decide (f < 17) && decide (n < 16)
  | .streamResume t d _ => tileOk t && decide (d < 8)
  | .streamHaltTimeout t d _ => tileOk t && decide (d < 8)
  | .pqTailWrite f n j _ => decide (f < 17) && decide (n < 16) && decide (j < 16)
  | .pqQcfgWrite f n j _ => decide (f < 17) && decide (n < 16) && decide (j < 16)
  | .hostDmaDescriptorStart n j _ _ _ _ _ _ _ => decide (n < 16) && decide (j < 16)
  | .hostDmaNotify n j _ => decide (n < 16) && decide (j < 16)
  | .hostDmaWriteback n j => decide (n < 16) && decide (j < 16)
  | .dilate f n => decide (f < 17) && decide (n < 16)
  | .init f n => decide (f < 17) && decide (n < 16)
  | .run f n => decide (f < 17) && decide (n < 16)
  | .repair f n => decide (f < 17) && decide (n < 16)
  | .extract f n => decide (f < 17) && decide (n < 16)
  | .check f n => decide (f < 17) && decide (n < 16)
  | .abort f n => decide (f < 17) && decide (n < 16)
  | .sweepMessagePop t => tileOk t
  | .sweepRound t => tileOk t
  | .sweepCommandEnd n => decide (n < 16)
  | .imgGo f => decide (f < 17)
  | .imgAbort f => decide (f < 17)
  | .imgPrologueChecked _ _ _ => true
  | .imgShardArrive _ _ _ _ _ => true
  | .nvmeReadTimeout _ => true
  | .nvmeConnectFail => true
  | .imgLoadDone => true
  | .imgResendRequest _ _ => true
  | .imgPeerReport _ _ => true
  | .ptpMessageReceive port head _ _ _ _ => decide (port < 8) && decide (head.domain < 256)
  | .ptpHoldoverEntry _ => true
  | .timebaseEdge _ _ _ => true
  | .indexPulse _ _ _ => true
  | .historySample _ => true
  | .encoderLoss b _ => decide (b < 8)
  | .coastExpiry b _ => decide (b < 8)
  | .timetableService n _ => decide (n < 16)
  | .triggerPulseStart n e _ _ => decide (n < 16) && decide (e < 1024)
  | .triggerPulseEnd o _ => decide (o < 8)
  | .rearm f n _ => decide (f < 17) && decide (n < 16)
  | .queryTime f _ => decide (f < 17)
  | .adjust f b _ => decide (f < 17) && decide (b < 8)
  | .ethFrameReceive p _ _ _ _ _ => decide (p < 8)
  | .ethLinkChange p _ _ => decide (p < 8)
  | .prtModeWrite f p _ => decide (f < 17) && decide (p < 8)
  | .ingressPacket p _ _ _ => decide (p < 8)
  | .frameTimeout i _ => decide (i < 4096)
  | .ledgerSubmit _ _ => true
  | .ledgerAccept n _ => decide (n < 16)
  | .ldpSend e _ => decide (e < 4096)
  | .ldpAck e port _ _ _ _ _ => decide (e < 4096) && decide (port < 8)
  | .ldpRetransmitTimeout e _ _ => decide (e < 4096)
  | .partnerSilent e _ => decide (e < 4096)
  | .shaperRefill _ => true
  | .shaperRateWrite f e _ => decide (f < 17) && decide (e < 4096)
  | .shaperBurstWrite f e _ => decide (f < 17) && decide (e < 4096)
  | .forgive f _ => decide (f < 17)
  | .ledgerPoolWrite f _ => decide (f < 17)
  | .ledgerCapacityWrite f n _ => decide (f < 17) && decide (n < 16)
  | .supplyLow _ _ => true
  | .supplyLowEnd _ _ => true
  | .powerFail _ _ => true
  | .overvolt _ _ => true
  | .overvoltEnd _ _ => true
  | .overvoltIsolate _ _ => true
  | .supplyRestored _ _ => true
  | .droopStepUp p _ _ => decide (p < 64)
  | .droopStepDown p _ _ => decide (p < 64)
  | .plainDroop p _ => decide (p < 64)
  | .pwrCtrlWrite f _ => decide (f < 17)
  | .armEvaluate _ _ _ => true
  | .packCapacityMeasure _ _ => true
  | .packFault => true
  | .packLatchOpen => true
  | .keepRecount n => decide (n < 16)
  | .backupFreezeComplete _ => true
  | .backupHeld _ => true
  | .backupOpenRecord _ => true
  | .backupWriteComplete _ _ => true
  | .backupCommit _ _ => true
  | .packEnergyExhausted _ => true
  | .restorePhaseComplete _ _ _ _ _ => true
  | .restoreExit _ _ => true
  | .chstRelease f _ => decide (f < 17)
  | .chestUtailWrite f _ => decide (f < 17)
  | .chestUcfgWrite f _ => decide (f < 17)
  | .chestErase _ _ _ _ _ => true
  | .chestProgram _ _ _ _ _ _ _ => true
  | .chestRead _ _ _ _ _ _ _ _ => true
  | .chestInfo _ _ _ _ _ => true
  | .chestWriteback => true
  | .chestBackgroundEraseComplete _ _ _ _ => true
  | .chestRefreshRewrite _ _ => true
  | .chestZoneWrite f _ _ => decide (f < 17)
  | .fwUpdate f => decide (f < 17)
  | .fwUpdateStepComplete _ _ _ => true
  | .fwRestart f => decide (f < 17)
  | .fwTrialConfirm _ => true
  | .keeperWatchdogExpiry _ => true
  | .keeperLockstepError _ => true
  | .keeperUp _ _ _ _ _ _ => true
  | .faultClear f _ => decide (f < 17)
  | .faultReactWrite f _ _ => decide (f < 17)
  | .faultOverrideWrite f _ => decide (f < 17)
  | .partitionRecovery n _ => decide (n < 16)
  | .stickyClear f n => decide (f < 17) && decide (n < 16)
  | .haltedClear f => decide (f < 17)
  | .coldStart _ _ _ => true
  | .controlBlockUp _ => true
  | .plainGroupPowerUp g _ _ => decide (g < 16)
  | .passTrainingComplete _ => true
  | .edgeTrainingComplete _ _ => true
  | .kFieldsLoaded _ => true
  | .moduleReady _ _ => true
  | .idleHoldRequest f => decide (f < 17)
  | .benchRetainRequest f _ => decide (f < 17)
  | .runRequest f _ => decide (f < 17)
  | .benchRetainEntered _ => true
  | .idleHoldExitComplete _ => true
  | .doeDiscovery _ => true
  | .getVersion => true
  | .getCapabilities => true
  | .negotiateAlgorithms _ _ => true
  | .getDigests => true
  | .getCertificate _ _ _ => true
  | .spdmChallenge _ _ => true
  | .getMeasurements _ _ _ => true
  | .spdmUnsupportedRequest => true
  | .rekey f _ => decide (f < 17)
  | .rekeyComplete _ => true
  | .imgkeyProgram f slot => decide (f < 17) && decide (slot < 4)
  | .imgkeyRevoke f slot _ => decide (f < 17) && decide (slot < 4)
  | .jtagChallenge f _ => decide (f < 17)
  | .jtagVerify f scope _ => decide (f < 17) && decide (scope < 4)
  | .jtagRelock f => decide (f < 17)
  | .jtagNonceExpiry _ => true
  | .rxFaultDetect i _ _ _ => decide (i < 8)
  | .rxFaultClear i _ _ _ => decide (i < 8)
  | .thermalWarn p _ _ => decide (p < 64)
  | .thermalCrit p _ _ => decide (p < 64)
  | .thermalHardwareTrip p _ _ => decide (p < 64)
  | .coolantFlow _ _ _ _ _ => true
  | .coolantTemp _ _ _ _ _ => true
  | .thermalFaultClear _ _ _ _ _ _ _ => true
  | .smbusStatus => true
  | .smbusIdHash => true
  | .smbusSupply => true
  | .smbusTemps => true
  | .smbusCoolant => true
  | .smbusFault => true
  | .smbusAlertResponse _ => true
  | .smbusUnknownCommand code => decide (code < 256)
  | .supplyDipEnd _ _ _ => true
  | .packLatchClose => true
  | .vioChange _ => true
  | .jtagTapInstruction _ _ => true
  | .pcieError => true
  | .channelFail c => decide (c < 32)
  | .managementResetComplete => true

end Sys2Proof
end

