-- ==== Sys2Proof/Tests/Slice0.lean ====
section
/-! SUPPORT. Tests. First those whose results come from the spec: its worked words, addresses and records, and words written out
from the encoding tables; then the well-formedness checks; then for every statement with hypotheses a witness: a concrete state and
operands that meet all the hypotheses of each of its clauses together, at boundary values where the clause has a range. The witness
of Obligations.X is test_X. -/

set_option maxRecDepth 100000

set_option Elab.async false

namespace Sys2Proof.Tests
open Sys2Proof Sys2Proof.Machine

/-! ### States to start from -/

/-- The module after reset with the register fields given. -/
def regs (l : List (Fk × Nat)) : State := { State.reset with fld := l.map fun p => (p.1.key, p.2) }
/-- Tile 0, with task 0 RUNNING, in partition 0 that holds plain 0 alone, and the fields given. -/
def core (x : Tile) (l : List (Fk × Nat)) : State :=
  { regs ([(TILE_TASK_STATE_STATE 0 0, 3), (TILE_TASK_STATE_PC 0 0, 100), (TILE_CTRL_RUN 0, 1), (PLN_STATE_STATE 0, 0),
      (PLN_FENCED 0 0, 0), (PWR_STATUS_STATE, 0), (MOD_STATUS_BACKUP_ACTIVE, 0), (PART_GEOM_X0 0, 0), (PART_GEOM_Y0 0, 0),
      (PART_GEOM_W 0, 1), (PART_GEOM_H 0, 1), (PART_STATE_STATE 0, 2)] ++ l) with tiles := [(0, { x with cur := some 0 })] }
/-- Fields that put plain 0 into partition 0, RUN, with the module armed. -/
def part0 : List (Fk × Nat) := [(PLN_STATE_STATE 0, 0), (PLN_FENCED 0 0, 0), (PWR_STATUS_STATE, 0), (MOD_STATUS_BACKUP_ACTIVE, 0),
  (PART_GEOM_X0 0, 0), (PART_GEOM_Y0 0, 0), (PART_GEOM_W 0, 1), (PART_GEOM_H 0, 1), (PART_STATE_STATE 0, 2)]
/-- The module with the link up and the fields given, the first of equals counting. -/
def hst (l : List (Fk × Nat)) : State := { regs (l ++ part0) with pcie := { l0 := true } }

/-! ### The block -/

/-- O1: both forms of a step. -/
theorem test_StepTakesFront : ({ State.reset with pending := [.packFault] } : State).pending = .packFault :: [] ∧
    State.reset.pending = [] ∧ State.reset.keeper.phase = 0 ∧ ({ State.reset with keeper := { phase := 5 } } : State).keeper.phase ≠ 0 := by
  decide +kernel

/-- O3: a state whose memory lists bytes, and a step of it. -/
def mem0 : State := { core {} [] with mem := [(5, 1), (tkey 0 0x40000000, 0xFF)], pending := [.taskUnblock 0 0] }
theorem test_MemoryStaysCanonical : MemOk mem0 ∧ ∃ t, step mem0 = .next t := ⟨by unfold MemOk; decide +kernel, _, rfl⟩
theorem test_reset_memory : MemOk State.reset := by unfold MemOk; decide
/-- A listed zero, and addresses out of order, are no canonical memory. -/
theorem test_memory_form : Memory.wf [(5, 0)] = false ∧ Memory.wf [(6, 1), (5, 1)] = false ∧ Memory.wf [(5, 1), (5, 2)] = false := by decide

/-! ### Words (the bits of Tables IS-1, IS-3, IS-5, IS-7 and IS-13, and the worked example of chapter 05) -/

/-- ADD, format 0, opcode 0: s3 ← s1 + s2 as INT32. -/
theorem test_word_add : decodeTile 0 100 false (3 <<< 16 ||| 1 <<< 21 ||| 4 <<< 28 ||| 2 <<< 32) =
    some (.add 0 {} { rd := 3, ra := 1, t := 4, rb := 2 }) := by decide +kernel
/-- SHR, opcode 0x09, with the immediate 31, guarded by not p7, as UINT32. -/
theorem test_word_shr : decodeTile 0 100 false (7 <<< 3 ||| 1 <<< 6 ||| 9 <<< 8 ||| 31 <<< 16 ||| 1 <<< 21 ||| 1 <<< 27 ||| 5 <<< 28 ||| 31 <<< 32) =
    some (.shr 0 { gp := 7, gn := 1 } { rd := 31, ra := 1, i := 1, t := 5, imm := 31 }) := by decide +kernel
/-- LD, format 1, opcode 0, of a scalar pair through shelf handle 63 at offset -8. -/
theorem test_word_ld : decodeTile 0 100 false (1 ||| 4 <<< 16 ||| 2 <<< 21 ||| 7 <<< 26 ||| 1 <<< 29 ||| 63 <<< 32 ||| 0xFFFF8 <<< 44) =
    some (.ld 0 {} { r := 4, rb := 2, sz := 7, space := 1, h := 63, off := 0xFFFF8 } .clean) := by decide +kernel
/-- PUSHV, format 2, opcode 0x09: o7 takes v2 and v3. -/
theorem test_word_pushv : decodeTile 0 100 false (2 ||| 9 <<< 8 ||| 2 <<< 16 ||| 7 <<< 21) =
    some (.pushv 0 {} { r := 2, qn := 7 }) := by decide +kernel
/-- HADDR, format 5, opcode 0x08, of handle 63. -/
theorem test_word_haddr : decodeTile 0 100 false (5 ||| 8 <<< 8 ||| 4 <<< 16 ||| 2 <<< 21 ||| 63 <<< 40) =
    some (.haddr 0 {} { rd := 4, ra := 2, h := 63 }) := by decide +kernel
theorem test_word_mma : decodeTile 0 102 false 0x0000000016010103 = some (.mma 0 {} { acc := 1, za := 1, dq := 1, qa := 2 }) := by
  decide +kernel
/-- R110: a reserved bit, an opcode that no format has, and a guard on a C instruction do not decode. -/
theorem test_word_refused : decodeTile 0 100 false (1 <<< 7 ||| 4 <<< 28) = none ∧ decodeTile 0 100 false (0x7F <<< 8) = none ∧
    decodeTile 0 107 false (0x104 ||| 1 <<< 3) = none := by decide +kernel

/-- O6 to O8: operands that meet their hypotheses at boundary values. -/
theorem test_DecodeEncodeF : (∃ r, fOp 0x09 = some r ∧ fDecodes r.1 { rd := 31, ra := 1, i := 1, t := 5, imm := 31 } = true) ∧
    ∃ r, fOp 0 = some r ∧ fDecodes r.1 { rd := 31, t := 4, rb := 31 } = true :=
  ⟨⟨_, rfl, by decide +kernel⟩, _, rfl, by decide +kernel⟩
theorem test_DecodeEncodeOther : (∃ mk, mOp 0 { r := 4, rb := 2, sz := 7, space := 1, h := 63, off := 0xFFFF8 } = some (true, mk)) ∧
    (∃ mk, qOp 9 { r := 14, qn := 7 } = some (true, mk)) ∧ (∃ mk, xOp 1 { acc := 1, za := 1, dq := 1, qa := 2 } false = some (true, mk)) ∧
    (∃ mk, cOp 0x11 {} { rc := 7, target := 102 } 106 = some (true, mk)) ∧
    ∃ mk, sOp 8 { rd := 4, ra := 2, h := 63 } = some (true, mk) := ⟨⟨_, rfl⟩, ⟨_, rfl⟩, ⟨_, rfl⟩, ⟨_, rfl⟩, _, rfl⟩
theorem test_EncodeDecode : tileWord (.mma 0 {} { acc := 1, za := 1, dq := 1, qa := 2 }) = some 0x0000000016010103 := by decide +kernel

/-! ### Witnesses of single clauses -/

theorem test_IllegalInstructionFaults_guard : fld64 (0x0C : BitVec 64) 0 3 = 4 ∧ fld64 (0x0C : BitVec 64) 3 4 ≠ 0 := by decide +kernel
theorem test_ControlFlow_targets : CoreReady (core {} []) 0 0 ∧
    ({ target := 100 } : CArgs).target.toNat ≤ (core {} []).rf (TILE_TASK_STATE_PC 0 0) ∧
    (core {} []).rf (TILE_TASK_STATE_PC 0 0) < ({ target := 101 } : CArgs).target.toNat := by unfold CoreReady; decide +kernel
def off0 : State := regs [(PSTR_HALT_LIMIT_MICROSECONDS 0, 0)]
theorem test_StreamHalts_off : (off0.at 5).rf (PSTR_HALT_LIMIT_MICROSECONDS ((off0.at 5).xpart 0)) = 0 := by decide +kernel
def cmdIn (st h : Nat) : State := hst [(PART_STATE_STATE 15, st), (hSTATUS_READY (partPage 15 0), 1), (FLT_STATUS_HALTED, h)]
theorem test_Partitions_rejected : ((cmdIn 1 0).writes 0 15 = true ∧ (cmdIn 1 0).pageReady (partPage 15 0) = true ∧
      (cmdIn 1 0).keeper.idle = false ∧ (cmdIn 1 0).pst 15 ≠ 2 ∧ (cmdIn 1 0).pst 15 ≠ 7 ∧ (cmdIn 1 0).pst 15 ≠ 5 ∧ (cmdIn 1 0).pst 15 ≠ 4) ∧
    ((cmdIn 5 1).writes 0 15 = true ∧ (cmdIn 5 1).pageReady (partPage 15 0) = true ∧ (cmdIn 5 1).keeper.idle = false ∧
      (cmdIn 5 1).rb FLT_STATUS_HALTED = true) := by decide +kernel
def drp0 : State := { State.reset with plains := [(63, { maxSince := some 5 })] }
theorem test_SupplyAndPack_short : (drp0.plain 63).maxSince = some 5 ∧ max drp0.time 5 ≤ 5 + drp0.rf (DRP_CTRL_LIMIT_MS 63) * 1000000 := by
  decide +kernel
theorem test_ChestZones_discarded : (0 : BitVec 64).toNat.testBit 0 = false := by decide
def ltc : State := hst [(hSTATUS_READY pgLAT, 1)]
theorem test_SurfaceAndLatches_force : ltc.latchReach .pf0 255 = true ∧ ltc.discards .pf0 = false ∧ (ltc.latch 255).st ≠ 1 := by decide +kernel

/-! ### Worked values of the spec -/

/-- The global address of chapter 01: bench row 5 of the tile at x = 300, y = 130 of module 3, in plain 20. -/
theorem test_global_address : gSpace 0x003414B040002800 = 0 ∧ gModule 0x003414B040002800 = 3 ∧ gTile 0x003414B040002800 = 130 * 512 + 300 ∧
    gLocal 0x003414B040002800 = 0x40000000 + 5 * 0x800 ∧ plainOf (130 * 512 + 300) = 20 := by decide +kernel

/-- The fault record of chapter 16: DESK_UE at time 0x1_0000_0000_00 with TB3 at 150,000 counts, on a page that pauses. -/
def ue : State := { regs [(hREACT (tilePage 0) 1, 6), (PART_STATE_STATE 8, 2), (PART_GEOM_W 8, 1), (PART_GEOM_H 8, 1),
  (PLN_STATE_STATE 0, 0), (PFLT_CTRL_TB 8, 3), (TBS_TB_STATUS_STATE 3, 1)] with
    time := 0x10000000000, tbs := [(3, { pos := 150000 * 256, base := 0x10000000000 })] }
theorem test_fault_record : (ue.raiseTile 0 0x1010).regWord (tilePage 0 + 0x20) = 0x0010000000061010 ∧
    (ue.raiseTile 0 0x1010).regWord (tilePage 0 + 0x28) = 0x0B00000249F00000 := by decide +kernel

/-- By hand, from R112 to R117: wrap and clamp, products, rounding to nearest even, scaled conversion with saturation. -/
theorem test_integer_values : (elAdd 4 0xFFFFFFFF 2).1 = 1 ∧ (elAdds 0 100 100).1 = 127 ∧ (elAdds 0 100 100).2.sat = true ∧
    (elMulh 4 0x80000000 0x80000000).1 = 0x40000000 ∧ (elMulh 5 0xFFFFFFFF 0xFFFFFFFF).1 = 0xFFFFFFFE ∧
    (elShr 4 0x80000000 33).1 = 0xC0000000 ∧ (elShr 5 0x80000000 31).1 = 1 ∧ (elAbs 4 0x80000000).1 = 0x80000000 := by decide +kernel
theorem test_float_values : (elFadd 8 0x3F800000 0x33800000).1 = 0x3F800000 ∧ (elFadd 8 0x3F800001 0x33800000).1 = 0x3F800002 ∧
    (elFmul 8 0x7F7FFFFF 0x40000000).2.ov = true ∧ (elFmin 8 0x00000000 0x80000000).1 = 0x80000000 ∧
    (elFma 8 0x3F800001 0x3F800001 0xBF800002).1 = 0x28800000 ∧ (elFneg 9 0x0000).1 = 0x8000 := by decide +kernel
theorem test_conversions : (cvtElem 8 9 0 0x3F808000).1 = 0x3F80 ∧ (cvtElem 8 9 0 0x3F818000).1 = 0x3F82 ∧
    (cvtElem 4 0 0 200).1 = 127 ∧ (cvtElem 4 0 0 200).2.sat = true ∧ (cvtElem 4 8 (-1) 3).1 = 0x3FC00000 := by decide +kernel
/-- The usual check value of CRC-32C, of the bytes of "123456789". -/
theorem test_crc32c : crc32c [0x31, 0x32, 0x33, 0x34, 0x35, 0x36, 0x37, 0x38, 0x39] = 0xE3069283 := by decide +kernel


/-! ### Well-formedness: for each check a term that it refuses, and terms that it takes -/

theorem test_illFormed_1 : (([.registerWrite 17 0 0, .registerWrite 0 4 0, .sriovNumvfsWrite 17 [], .vfFunctionLevelReset 0,
     .vfFunctionLevelReset 17, .start 0 16, .seamApplyComplete 0 16, .latchAcquire .pf0 256,
     .passCrcFailure 64 0 0 0 0 0 [] 0, .passCrcFailure 0 4 0 0 0 0 [] 0, .passCrcFailure 0 0 64 0 0 0 [] 0,
     .passCrcFailure 0 0 0 2 0 0 [] 0, .passCrcFailure 0 0 0 0 2 0 [] 0, .hardwareFaultDetect 262144 0,
     .hardwareFaultDetect 0 4, .respare 0 0 128 0, .respare 0 0 0 128, .laneRespare 0 0 0 0 0 0 9 0,
     .laneRespare 0 0 0 0 0 0 0 68, .instructionFetch 0 1536 [], .taskUnblock 0 16, .add 0 {} { imm := 1 },
     .benchRowReplacement 0 2048 []] : List Instr).any wellFormed) = false := by decide +kernel
theorem test_illFormed_2 : (([.slotTableWrite 0 2 0 0 0, .slotTableWrite 0 0 9 0 0, .slotTableWrite 0 0 0 8 0, .circuitFlitInject 0 8 0 false,
     .circuitFlitInject 0 0 32 false, .packetHop 0 4, .spanFlitReceive 6 false 0 ⟨0, false⟩ none, .streamCmdStart 0 8,
     .pqTailWrite 0 0 16 0, .ptpMessageReceive 8 ⟨0, false, false⟩ 0 0 0 0, .ptpMessageReceive 0 ⟨256, false, false⟩ 0 0 0 0, .encoderLoss 8 0,
     .triggerPulseStart 0 1024 none 0, .ethFrameReceive 8 0 .other false 0 0, .frameTimeout 4096 0, .ldpSend 4096 0,
     .imgkeyProgram 0 4, .jtagVerify 0 4 0, .smbusUnknownCommand 256, .channelFail 32, .add 0 {} { i := 1, rb := 1 },
     .misalignedRegisterAccess 0 8 8 false, .apertureAccess 0 0 0 none .clean, .apertureAccess 0 0 9 none .clean] : List Instr).any wellFormed) = false := by decide +kernel
theorem test_wellFormed : (([.registerWrite 0 0 0, .stop 0 0, .stagedFieldWrite 0 0 0, .laneReplacement 0, .respareCommitProgrammed 0,
     .laneRespare 0 0 0 0 0 0 0 0, .sub 0 {} {}, .shr 0 {} {}, .fsub 0 {} {}, .cmpne 0 {} {}, .vext 0 {} {},
     .ld 0 {} {} .clean, .pushs 0 {} {}, .mza 0 {} {}, .mmasRowPush 0, .rdcyc 0 {} {}, .deskRequestGrant 0 [] [],
     .pageIn 0 0 0, .packetHop 0 0, .streamCmdStart 0 0, .haltPop 0 0, .hostDmaWriteback 0 0, .sweepMessagePop 0,
     .timetableService 0 0, .prtModeWrite 0 0 0, .shaperRateWrite 0 0 0, .pwrCtrlWrite 0 0, .faultClear 0 0,
     .benchRetainRequest 0 0, .rxFaultDetect 0 0 0 0] : List Instr).all wellFormed) = true := by decide +kernel

end Sys2Proof.Tests

set_option Elab.async false

namespace Sys2Proof.Tests.Arith
open Sys2Proof Sys2Proof.Machine

def a0 := core {} []
def aS :=
  core { sregs := [(1, 0x80000000), (2, 5)], vregs := [(1, 77), (2, 99)], tasks := [(0, { preds := [(1, 0xF0F0F0F0)] })] } []
def aY := core { tasks := [(0, { inMask := 1 })] } []
def aW :=
  { core {} [] with fld := (core {} []).fld.map fun (e : Nat × Nat) => if e.1 = (PART_STATE_STATE 0).key then (e.1, 5) else e }
def aD := { core { tasks := [(0, { disablePending := true })] } [] with fld := aW.fld }
def g0 : Guard := {}
def g1 : Guard := { gp := 1, gn := 1 }
def fa : FArgs := { rd := 3, ra := 1, rb := 2, t := 5 }
def fv : FArgs := { rd := 3, ra := 1, rb := 2, t := 5, kind := 1 }
def ffma : FArgs := { rd := 3, ra := 1, rb := 2, rc := 2, t := 8 }
def addRow : FRow := ⟨.add, fsInt2, fun t x y _ => elAdd t x y⟩
def fmaRow : FRow := ⟨.fma, fsFma, elFma⟩
def pa : FArgs := { rd := 3, ra := 1, rb := 2 }
def pn : FArgs := { rd := 3, ra := 1 }
def c0 : CArgs := {}
def aL := core { sregs := [(7, 2)] } []
def y1 : FArgs := { rd := 3, ra := 1, kind := 1, i := 1, t := 2, imm := 15 }
def y2 : FArgs := { rd := 3, ra := 1, t := 8, ts := 5, scale := 1 }
def y3 : CArgs := { rc := 7, csrc := 1, rn := 7, target := 6143 }
def y4 : CArgs := { rc := 7, csrc := 1, rn := 6, target := 6143 }
def y5 : FArgs := { rd := 3, ra := 1, t := 4, rb := 2, rc := 1 }
def y6 : CArgs := { rc := 7, target := 106, count := 200 }
def y7 : FArgs := { rd := 3, ra := 1, kind := 1, t := 2 }
def y8 : CArgs := { rc := 7, target := 100 }
def y9 : CArgs := { rc := 6, target := 99 }
def y10 : CArgs := { target := 6143 }

theorem test_IllegalInstructionFaults :
    (CoreReady a0 0 0 ∧ (decodeTile 0 (a0.rf (TILE_TASK_STATE_PC 0 0)) ((a0.gang 0).testBit 11) 7#64 = none)) ∧ ((6 ≤
      (fld64 (6#64) 0 3).toNat)) ∧ ((fld64 (128#64) 7 1 ≠ 0)) := by
  unfold CoreReady
  decide +kernel

theorem test_ScalarArithmetic :
    (CoreReady aS 0 0 ∧ (fDecodes addRow.sp fa = true) ∧ (fa.kind = 0) ∧ aS.guardOn 0 0 g0) ∧ (CoreReady aS 0 0 ∧
      (fDecodes addRow.sp fa = true) ∧ (fa.kind = 0) ∧ (¬aS.guardOn 0 0 { gp := 1 : Guard })) ∧ (CoreReady aS 0 0 ∧
      (fDecodes fmaRow.sp ffma = true) ∧ (ffma.kind = 0) ∧ aS.guardOn 0 0 g1) := by
  unfold CoreReady
  unfold State.guardOn
  decide +kernel

theorem test_VectorArithmetic :
    CoreReady aS 0 0 ∧ (fDecodes addRow.sp fv = true) ∧ (fv.kind = 1) := by
  unfold CoreReady
  decide +kernel

theorem test_IntegerValues :
    ((128 < 2 ^ tyBits 1) ∧ (127 < 2 ^ tyBits 1)) ∧ ((128 < 2 ^ tyBits 1) ∧ (129 < 2 ^ tyBits 1)) ∧ ((200 < 2 ^ tyBits
      0) ∧ (100 < 2 ^ tyBits 0)) ∧ ((20 < 2 ^ tyBits 0) ∧ (100 < 2 ^ tyBits 0)) ∧ ((2147483648 < 2 ^ tyBits 5)) ∧
      ((32767 < 2 ^ tyBits 3) ∧ (65535 < 2 ^ tyBits 3)) := by
  decide +kernel

theorem test_Predicates :
    ((fDecodes fsCmp fa = true) ∧ (fa.kind = 0) ∧ aS.guardOn 0 0 g0) ∧ ((fDecodes fsCmp fv = true) ∧ (fv.kind = 1) ∧
      (fv.rd ≠ 0)) ∧ ((fDecodes fsPred2 pa = true) ∧ aS.guardOn 0 0 g0) ∧ ((fDecodes fsPfroms pn = true) ∧ aS.guardOn
      0 0 g0 ∧ (fDecodes fsSfromp pn = true)) := by
  unfold State.guardOn
  decide +kernel

theorem test_SelectConvertReduce :
    (CoreReady aS 0 0 ∧ aS.guardOn 0 0 g0 ∧ (fDecodes fsSel y5 = true) ∧ (y5.kind = 0)) ∧ (CoreReady aS 0 0 ∧
      aS.guardOn 0 0 g0 ∧ (fDecodes fsCvt y2 = true) ∧ (y2.kind = 0)) ∧ (CoreReady aS 0 0 ∧ aS.guardOn 0 0 g0 ∧
      (fDecodes fsRed { rd := 3, ra := 1, kind := 1, rc := 1 : FArgs } = true)) ∧ (CoreReady aS 0 0 ∧ aS.guardOn 0 0
      g0 ∧ (fDecodes fsRed { rd := 3, ra := 1, kind := 1, t := 1, rc := 1 : FArgs } = true)) ∧ (CoreReady aS 0 0 ∧
      aS.guardOn 0 0 g0 ∧ (fDecodes fsRed y7 = true) ∧ (fDecodes fsBcast y7 = true)) ∧ (CoreReady aS 0 0 ∧ aS.guardOn
      0 0 g0 ∧ (fDecodes fsVext y1 = true) ∧ (fDecodes fsVins y1 = true) ∧
      (let x := aS.tile 0; let ty := y1.t.toNat; let w := tyBits ty; (x.guard 0 g0).testBit (y1.imm.toNat * w / 8) = true)) := by
  unfold CoreReady
  unfold State.guardOn
  decide +kernel

theorem test_ControlFlow_1 :
    (CoreReady aS 0 0 ∧ (cPlainDecodes g0 c0 = true) ∧
      (let pc := aS.rf (TILE_TASK_STATE_PC 0 0); lendDecodes g0 c0 pc = true) ∧
      (let c := BitVec.toNat ((aS.tile 0).sreg c0.rc.toNat); c ≤ 1) ∧ (jmpDecodes g0 c0 = true)) ∧ (CoreReady aY 0 0 ∧
      (cPlainDecodes g0 c0 = true) ∧ (let pc := aY.rf (TILE_TASK_STATE_PC 0 0); lendDecodes g0 c0 pc = true) ∧
      (let c := BitVec.toNat ((aY.tile 0).sreg c0.rc.toNat); c ≤ 1) ∧ (jmpDecodes g0 c0 = true)) ∧ (CoreReady aL 0 0 ∧
      (let pc := aL.rf (TILE_TASK_STATE_PC 0 0); loopDecodes g0 y6 pc = true) ∧
      (let n := if y6.csrc = 1 then BitVec.toNat ((aL.tile 0).sreg y6.rn.toNat) else y6.count.toNat; n ≠ 0)) ∧
      (CoreReady aL 0 0 ∧ (let pc := aL.rf (TILE_TASK_STATE_PC 0 0); loopDecodes g0 y3 pc = true) ∧
      (let n := if y3.csrc = 1 then BitVec.toNat ((aL.tile 0).sreg y3.rn.toNat) else y3.count.toNat; n ≠ 0)) ∧
      (CoreReady aL 0 0 ∧ (let pc := aL.rf (TILE_TASK_STATE_PC 0 0); loopDecodes g0 y4 pc = true) ∧
      (let n := if y4.csrc = 1 then BitVec.toNat ((aL.tile 0).sreg y4.rn.toNat) else y4.count.toNat; n = 0)) ∧
      (CoreReady aL 0 0 ∧ (let pc := aL.rf (TILE_TASK_STATE_PC 0 0); lendDecodes g0 y8 pc = true) ∧
      (let c := BitVec.toNat ((aL.tile 0).sreg y8.rc.toNat); 1 < c)) ∧ (CoreReady aL 0 0 ∧
      (let pc := aL.rf (TILE_TASK_STATE_PC 0 0); lendDecodes g0 y9 pc = true) ∧
      (let c := BitVec.toNat ((aL.tile 0).sreg y9.rc.toNat); c ≤ 1)) := by
  unfold CoreReady
  decide +kernel

theorem test_ControlFlow_2 :
    CoreReady aL 0 0 ∧ (let pc := aL.rf (TILE_TASK_STATE_PC 0 0); loopDecodes g0 y10 pc = true) ∧
      (let n := if y10.csrc = 1 then BitVec.toNat ((aL.tile 0).sreg y10.rn.toNat) else y10.count.toNat; n = 0) ∧
      (jmpDecodes g0 y10 = true) := by
  unfold CoreReady
  decide +kernel

theorem test_TendEndsFiring :
    (CoreReady aW 0 0 ∧ (cPlainDecodes g0 c0 = true) ∧ (aW.mayFire 0 = false)) ∧ (CoreReady aD 0 0 ∧ (cPlainDecodes g0
      c0 = true) ∧ (aD.mayFire 0 = false)) := by
  unfold CoreReady
  decide +kernel

/-- The scalar and the vector form of ADD on a ready core, both of which answer a next state. -/
theorem test_ArithmeticFrame :
    (CoreReady aS 0 0 ∧ fDecodes addRow.sp fa = true ∧ ∃ s', exec (addRow.ins 0 g0 fa) aS = .next s') ∧
      CoreReady aS 0 0 ∧ fDecodes addRow.sp fv = true ∧ ∃ s', exec (addRow.ins 0 g0 fv) aS = .next s' :=
  ⟨⟨by unfold CoreReady; decide +kernel, by decide +kernel, _, rfl⟩, by unfold CoreReady; decide +kernel, by decide +kernel, _, rfl⟩

end Sys2Proof.Tests.Arith

set_option Elab.async false

namespace Sys2Proof.Tests.Memory
open Sys2Proof Sys2Proof.Machine

def g0 : Guard := {}
/-- Handle entries: 0 desk of 256 B, 1 edge of 1 MB, 2 desk. -/
def sh : SMap Shelf := [(0, { w0 := 256 * 2 ^ 32 + 1, w1 := 0x100 }), (1,
  { w0 := 0x100000 * 2 ^ 32 + 3, w1 := 0x200000 })]
def aM :=
  core { sregs := [(1, 2), (2, 0x40000000), (3, 0xBFF8), (4, 0x100000), (5, 7)], vregs := [(2, 5)], shelf := sh, rowOps := [{ op := 1, fv := true, dst := 600, a := 0, b := 0, c := 0 }] } []
def aB := { aM with eccBad := [(0xBFF8 / 8, ())] }
def aP :=
  core { sregs := [(1, 2), (2, 0x40000000), (3, 0xBFF8), (4, 0x100000), (5, 7)], shelf := sh, tasks := [(0, { inMask := 4, outMask := 4 })], inq := [(2, [{ data := 0x1234 }])], outq := [(2, [{ data := 9 }])] } [(TILE_QBIND_KIND
  0 10, 3), (TILE_QBIND_DEPTH 0 10, 2)]
def aX :=
  core { sregs := [(1, 2)], shelf := sh, tasks := [(0, { inMask := 4, outMask := 4 })], outq := [(2, [{ data := 9 }])] } []
def aPg := core { sregs := [(1, 0)], shelf := sh } [(peptEntry 0 1, 3 + 5 * 2 ^ 12), (EDGE_WIN_EN 0, 1),
  (EDGE_WIN_LIMIT 0, 9)]
/-- The doorbell's address in s6 and s7; with an MSTA of the task to the desk queued, a PUT to it waits. -/
def aDoor (q : List MOp) : State := core { sregs := [(6, 0x3110), (7, 0x80000000)], mq := q } []
def aDoor0 : State := aDoor []
def aDoor1 : State := aDoor [{ kind := .msta, task := 0 }]
def w19_1 :=
  { aM with tiles := [(0, { aM.tile 0 with rowOps := [{ op := 1, fv := true, dst := 0, a := 0, b := 0, c := 0 }] })] }
def y1 : Handle := { place := 3, base := 2097152, len := 1048576, entry := 1 }
def y2 : MArgs := { r := 1, rb := 2, sz := 4, off := 16384 }
def y3 : MArgs := { r := 2, rb := 1, sz := 7, space := 1 }
def y4 : MArgs := { r := 2, sz := 7, space := 1, h := 1 }
def y5 : MArgs := { r := 5, rb := 3, sz := 1, off := 7 }
def y6 : QArgs := { qn := 2, rb := 3, off := 1048520 }
def y7 : MArgs := { sz := 4, space := 1, h := 63 }
def y8 : MArgs := { sz := 4, space := 1, h := 1 }
def y9 : MArgs := { r := 2, sz := 7, space := 1 }
def y10 : MArgs := { sz := 7, space := 1, q := 3 }
def y11 : MArgs := { sz := 7, space := 1, q := 2 }
def y12 : MArgs := { r := 1, rb := 1, sz := 4 }
def y13 : MArgs := { r := 1, rb := 2, sz := 4 }
def y14 : MArgs := { r := 2, rb := 3, sz := 7 }
def y15 : MArgs := { r := 2, rb := 4, sz := 7 }
def y16 : MArgs := { rb := 1, sz := 4 }
def y17 : QArgs := { r := 2, qn := 2 }
def y18 : QArgs := { qn := 2 }
def y19 : QArgs := { qn := 7 }
def y20 : MArgs := { r := 2, rb := 6, sz := 7, space := 2 }
def y21 : MArgs := { sz := 7, space := 1, h := 0, off := 0xFFFF9 }
def y22 : MArgs := { sz := 7, space := 1, h := 1, off := 4 }
def y23 : Handle := { place := 1, base := 0x100, len := 256 }

theorem test_LoadResult_1 :
    (CoreReady aM 0 0 ∧ (lsDecodes y12 = true) ∧ aM.guardOn 0 0 g0 ∧ (let p := aM.lsPlace 0 y12; lowest p.snd ≠ 0)) ∧
      (CoreReady aM 0 0 ∧ (lsDecodes y2 = true) ∧ aM.guardOn 0 0 g0 ∧ (let p := aM.lsPlace 0 y2; lowest p.snd = 0) ∧
      (let p := aM.lsPlace 0 y2; let n := szBytes y2.sz.toNat; (aM.tile 0).benchHeld p.fst n = false) ∧
      (let p := aM.lsPlace 0 y2; areaOf p.fst = Area.desk ∨ areaOf p.fst = Area.bench) ∧
      (let p := aM.lsPlace 0 y2; let n := szBytes y2.sz.toNat; aM.eccOf (tkey 0 p.fst) n Ecc.clean ≠ Ecc.bad)) ∧
      (CoreReady w19_1 0 0 ∧ (lsDecodes y13 = true) ∧ w19_1.guardOn 0 0 g0 ∧
      (let p := w19_1.lsPlace 0 y13; lowest p.snd = 0) ∧
      (let p := w19_1.lsPlace 0 y13; let n := szBytes y13.sz.toNat; (w19_1.tile 0).benchHeld p.fst n = true)) ∧
      (CoreReady aM 0 0 ∧ (lsDecodes y14 = true) ∧ aM.guardOn 0 0 g0 ∧ (let p := aM.lsPlace 0 y14; lowest p.snd = 0) ∧
      (let p := aM.lsPlace 0 y14; let n := szBytes y14.sz.toNat; (aM.tile 0).benchHeld p.fst n = false) ∧
      (let p := aM.lsPlace 0 y14; areaOf p.fst = Area.desk ∨ areaOf p.fst = Area.bench) ∧
      (let p := aM.lsPlace 0 y14; let n := szBytes y14.sz.toNat; aM.eccOf (tkey 0 p.fst) n Ecc.clean ≠ Ecc.bad)) := by
  unfold CoreReady
  unfold State.guardOn
  decide +kernel

theorem test_LoadResult_2 :
    (CoreReady aB 0 0 ∧ (lsDecodes y14 = true) ∧ aB.guardOn 0 0 g0 ∧ (let p := aB.lsPlace 0 y14; lowest p.snd = 0) ∧
      (let p := aB.lsPlace 0 y14; let n := szBytes y14.sz.toNat; (aB.tile 0).benchHeld p.fst n = false) ∧
      (let p := aB.lsPlace 0 y14; areaOf p.fst = Area.desk ∨ areaOf p.fst = Area.bench) ∧
      (let p := aB.lsPlace 0 y14; let n := szBytes y14.sz.toNat; aB.eccOf (tkey 0 p.fst) n Ecc.clean = Ecc.bad)) ∧
      (CoreReady aM 0 0 ∧ (lsDecodes y14 = true) ∧ aM.guardOn 0 0 g0 ∧ (let p := aM.lsPlace 0 y14; lowest p.snd = 0) ∧
      (let p := aM.lsPlace 0 y14; let n := szBytes y14.sz.toNat; (aM.tile 0).benchHeld p.fst n = false) ∧
      (let p := aM.lsPlace 0 y14; areaOf p.fst = Area.desk ∨ areaOf p.fst = Area.bench) ∧
      (let p := aM.lsPlace 0 y14; let n := szBytes y14.sz.toNat; aM.eccOf (tkey 0 p.fst) n Ecc.corrected ≠ Ecc.bad)) ∧
      (CoreReady aM 0 0 ∧ (lsDecodes y15 = true) ∧ aM.guardOn 0 0 g0 ∧ (let p := aM.lsPlace 0 y15; lowest p.snd = 0) ∧
      (let p := aM.lsPlace 0 y15; areaOf p.fst = Area.shelf ∨ areaOf p.fst = Area.page)) := by
  unfold CoreReady
  unfold State.guardOn
  decide +kernel

theorem test_StoreResult :
    (CoreReady aM 0 0 ∧ (lsDecodes y12 = true) ∧ aM.guardOn 0 0 g0 ∧ (let p := aM.lsPlace 0 y12; lowest p.snd ≠ 0)) ∧
      (CoreReady w19_1 0 0 ∧ (lsDecodes y13 = true) ∧ w19_1.guardOn 0 0 g0 ∧
      (let p := w19_1.lsPlace 0 y13; lowest p.snd = 0) ∧
      (let p := w19_1.lsPlace 0 y13; let n := szBytes y13.sz.toNat; (w19_1.tile 0).benchHeld p.fst n = true)) ∧
      (CoreReady aM 0 0 ∧ (lsDecodes y14 = true) ∧ aM.guardOn 0 0 g0 ∧ (let p := aM.lsPlace 0 y14; lowest p.snd = 0) ∧
      (let p := aM.lsPlace 0 y14; let n := szBytes y14.sz.toNat; (aM.tile 0).benchHeld p.fst n = false) ∧
      (let p := aM.lsPlace 0 y14; areaOf p.fst = Area.desk ∨ areaOf p.fst = Area.bench)) ∧ (CoreReady aM 0 0 ∧
      (lsDecodes y5 = true) ∧ aM.guardOn 0 0 g0 ∧ (let p := aM.lsPlace 0 y5; lowest p.snd = 0) ∧
      (let p := aM.lsPlace 0 y5; let n := szBytes y5.sz.toNat; (aM.tile 0).benchHeld p.fst n = false) ∧
      (let p := aM.lsPlace 0 y5; areaOf p.fst = Area.desk ∨ areaOf p.fst = Area.bench) ∧
      (let p := aM.lsPlace 0 y5; let n := szBytes y5.sz.toNat; aM.hasBad (tkey 0 p.fst) n = false)) ∧ (CoreReady aB 0 0 ∧
      (lsDecodes y5 = true) ∧ aB.guardOn 0 0 g0 ∧ (let p := aB.lsPlace 0 y5; lowest p.snd = 0) ∧
      (let p := aB.lsPlace 0 y5; let n := szBytes y5.sz.toNat; (aB.tile 0).benchHeld p.fst n = false) ∧
      (let p := aB.lsPlace 0 y5; areaOf p.fst = Area.desk ∨ areaOf p.fst = Area.bench)) ∧ (CoreReady aM 0 0 ∧
      (lsDecodes y15 = true) ∧ aM.guardOn 0 0 g0 ∧ (let p := aM.lsPlace 0 y15; lowest p.snd = 0) ∧
      (let p := aM.lsPlace 0 y15; areaOf p.fst = Area.shelf ∨ areaOf p.fst = Area.page)) := by
  unfold CoreReady
  unfold State.guardOn
  decide +kernel

theorem test_AccessChecks :
    ((y16.space = 0) ∧ ((aM.tile 0).eaLocal y16.rb.toNat y16.off % szBytes y16.sz.toNat ≠ 0)) ∧ ((y21.space = 1) ∧
      (aM.resolve 0 y21.h.toNat = some { y23 with entry := 0 }) ∧
      (((y23.base : Int) + (aM.tile 0).eaOff y21.rb.toNat y21.off) % szBytes y21.sz.toNat ≠ 0)) ∧ ((y22.space = 1) ∧
      (aM.resolve 0 y22.h.toNat = some y1) ∧
      (((y1.base : Int) + (aM.tile 0).eaOff y22.rb.toNat y22.off) % szBytes y22.sz.toNat ≠ 0)) ∧ ((y8.space ≠ 0) ∧
      (aM.resolve 0 y8.h.toNat = some y1) ∧ (y1.place = 3) ∧
      (((y1.base : Int) + (aM.tile 0).eaOff y8.rb.toNat y8.off) % szBytes y8.sz.toNat = 0) ∧
      (inHandle y1 ((aM.tile 0).eaOff y8.rb.toNat y8.off) (szBytes y8.sz.toNat) = true)) ∧ ((y7.space ≠ 0) ∧
      (aM.resolve 0 y7.h.toNat = none)) := by
  decide +kernel

theorem test_PutGet_1 :
    (CoreReady aP 0 0 ∧ aP.guardOn 0 0 g0 ∧ (putDecodes y3 = true) ∧ (let p := aP.gpPlace 0 y3; lowest p.snd ≠ 0)) ∧
      (CoreReady aP 0 0 ∧ aP.guardOn 0 0 g0 ∧ (putDecodes y9 = true) ∧ (let p := aP.gpPlace 0 y9; lowest p.snd = 0) ∧
      (let p := aP.gpPlace 0 y9; ¬(isDoorbell aP p.fst && aP.storesWait 0 0) = true) ∧
      (let p := aP.gpPlace 0 y9; let e := aP.edgeCheck 0 p.fst; e.fst = true)) ∧ (CoreReady aDoor1 0 0 ∧
      aDoor1.guardOn 0 0 g0 ∧ (putDecodes y20 = true) ∧ (let p := aDoor1.gpPlace 0 y20; lowest p.snd = 0) ∧
      (let p := aDoor1.gpPlace 0 y20; (isDoorbell aDoor1 p.fst && aDoor1.storesWait 0 0) = true)) ∧
      (CoreReady aDoor0 0 0 ∧ aDoor0.guardOn 0 0 g0 ∧ (putDecodes y20 = true) ∧
      (let p := aDoor0.gpPlace 0 y20; lowest p.snd = 0) ∧
      (let p := aDoor0.gpPlace 0 y20; ¬(isDoorbell aDoor0 p.fst && aDoor0.storesWait 0 0) = true) ∧
      (let p := aDoor0.gpPlace 0 y20; let e := aDoor0.edgeCheck 0 p.fst; e.fst = true)) := by
  unfold CoreReady
  unfold State.guardOn
  decide +kernel

theorem test_PutGet_2 :
    (CoreReady aP 0 0 ∧ aP.guardOn 0 0
      g0 ∧ (putDecodes y4 = true) ∧ (let p := aP.gpPlace 0 y4; lowest p.snd = 0) ∧
      (let p := aP.gpPlace 0 y4; ¬(isDoorbell aP p.fst && aP.storesWait 0 0) = true) ∧
      (let p := aP.gpPlace 0 y4; let e := aP.edgeCheck 0 p.fst; e.fst = false)) ∧ (CoreReady aPg 0 0 ∧ aPg.guardOn 0 0
      g0 ∧ (putDecodes y4 = true) ∧ (let p := aPg.gpPlace 0 y4; lowest p.snd = 0) ∧
      (let p := aPg.gpPlace 0 y4; ¬(isDoorbell aPg p.fst && aPg.storesWait 0 0) = true) ∧
      (let p := aPg.gpPlace 0 y4; let e := aPg.edgeCheck 0 p.fst; e.fst = true)) ∧ (CoreReady aP 0 0 ∧ aP.guardOn 0 0
      g0 ∧ (getDecodes y10 = true) ∧ (let decl := ((aP.tile 0).task 0).inMask.testBit y10.q.toNat; decl = false)) ∧
      (CoreReady aP 0 0 ∧ aP.guardOn 0 0 g0 ∧ (getDecodes y11 = true) ∧
      (let decl := ((aP.tile 0).task 0).inMask.testBit y11.q.toNat; decl = true) ∧
      (let p := aP.gpPlace 0 y11; lowest p.snd = 0) ∧
      (let p := aP.gpPlace 0 y11; let e := aP.edgeCheck 0 p.fst; e.fst = true)) := by
  unfold CoreReady
  unfold State.guardOn
  decide +kernel

theorem test_QueuePops :
    ((((aP.tile 0).task 0).inMask.testBit y17.qn.toNat = true) ∧ (aP.headIn 0 y17.qn.toNat = some 4660) ∧ (qsDecodes
      y17 = true) ∧ (qvDecodes y17 = true)) ∧ ((((aP.tile 0).task 0).inMask.testBit y18.qn.toNat = true) ∧ (aP.headIn
      0 y18.qn.toNat = some 4660) ∧ (qsDecodes y18 = true) ∧ (qvDecodes y18 = true) ∧ (skipDecodes y18 = true) ∧
      (qdDecodes y18 = true) ∧ ((aP.tile 0).qAddr y18 % 64 = 0) ∧ ((aP.tile 0).qAddr y18 + 64 ≤ 49152)) ∧ ((((aP.tile
      0).task 0).inMask.testBit y6.qn.toNat = true) ∧ (aP.headIn 0 y6.qn.toNat = some 4660) ∧ (qdDecodes y6 = true) ∧
      ((aP.tile 0).qAddr y6 % 64 = 0) ∧ ((aP.tile 0).qAddr y6 + 64 ≤ 49152)) ∧ ((((aX.tile 0).task 0).inMask.testBit
      y17.qn.toNat = true) ∧ (aX.headIn 0 y17.qn.toNat = none) ∧ (qsDecodes y17 = true)) ∧ ((((aX.tile 0).task
      0).inMask.testBit y19.qn.toNat = false) ∧ (skipDecodes y19 = true)) := by
  decide +kernel

theorem test_QueuePushes :
    (CoreReady aP 0 0 ∧ aP.guardOn 0 0 g0 ∧ (let q := y17.qn.toNat; ((aP.tile 0).task 0).outMask.testBit q = true) ∧
      (let q := y17.qn.toNat; aP.outRoom 0 q ≠ 0) ∧ (qsDecodes y17 = true) ∧ (qvDecodes y17 = true) ∧ (qcntDecodes y17
      = true)) ∧ (CoreReady aP 0 0 ∧ aP.guardOn 0 0 g0 ∧
      (let q := y6.qn.toNat; ((aP.tile 0).task 0).outMask.testBit q = true) ∧
      (let q := y6.qn.toNat; aP.outRoom 0 q ≠ 0) ∧ (qdDecodes y6 = true) ∧
      (let ea := (aP.tile 0).qAddr y6; ea % 64 = 0) ∧ (let ea := (aP.tile 0).qAddr y6; ea + 64 ≤ 49152) ∧
      (let ea := (aP.tile 0).qAddr y6; aP.hasBad (tkey 0 ea) 64 = false)) ∧ (CoreReady aP 0 0 ∧ aP.guardOn 0 0 g0 ∧
      (qcntDecodes { r := 2, qn := 2, side := 1 : QArgs } = true)) ∧ (CoreReady aX 0 0 ∧ aX.guardOn 0 0 g0 ∧
      (qcntDecodes y17 = true) ∧ (let q := y17.qn.toNat; ((aX.tile 0).task 0).outMask.testBit q = true) ∧
      (let q := y17.qn.toNat; aX.outRoom 0 q = 0) ∧ (qsDecodes y17 = true)) := by
  unfold CoreReady
  unfold State.guardOn
  decide +kernel

end Sys2Proof.Tests.Memory

set_option Elab.async false

namespace Sys2Proof.Tests.MatrixUnit
open Sys2Proof Sys2Proof.Machine

def g0 : Guard := {}
def sh : SMap Shelf := [(0, { w0 := 256 * 2 ^ 32 + 1, w1 := 0x100 }), (1,
  { w0 := 0x100000 * 2 ^ 32 + 3, w1 := 0x200000 })]
def aM := core { sregs := [(1, 255), (2, 256), (3, 2015), (4, 1990), (5, 512)], shelf := sh } [(TILE_COUNT_TOTAL 0 1,
  5), (TILE_CFG_QD 0 1, 0), (TILE_QBIND_KIND 0 0, 3), (TILE_STREAM_STATE_STATE 0 2, 1), (TILE_CFG_QD 0 2, 5)]
def aQ :=
  core { sregs := [(1, 64)], shelf := sh, tasks := [(0, { inMask := 4, outMask := 4 })], vregs := [(2, 5)], acc := [(17, 3)] } [(TILE_SPARSE_B_H
  0, 0), (TILE_GANG_AIN 0, 2), (TILE_GANG_POUT_DST 0, 1)]
def aF := core { mq := List.replicate 8 { kind := .mza, task := 0 } } []
def mz : MOp := { kind := .mza, task := 0, acc := 1, started := true }
def aO (m : MOp) :=
  { core { mq := [m], inq := [(2, [{ data := 0x1234 }])], acc := [(256, 7), (512, 7)], tasks := [(0, {})] } [(TILE_QBIND_KIND 0 10, 3), (TILE_QBIND_DEPTH 0 10, 2)] with mem := [(tkey 0 0, 5)] }
def o1 := aO { kind := .mza, task := 0, acc := 1 }
def o2 := aO mz
def o3 := aO { kind := .mwra, task := 0, acc := 1, row := 15, data := 0x500000007, started := true }
def o4 := aO { kind := .mldw, task := 0, wb := 1, qa := 2, dq := true, started := true, done := 7 }
def o5 := aO { kind := .mma, task := 0, qa := 2, dq := true, started := true }
def o7 := aO { kind := .msta, task := 0, base := 64, ty := 9, started := true, done := 15 }
def o8 := aO { kind := .mmas, task := 0, qa := 2, dq := true, started := true, buf := [192], spb := true }
def o9 := aO { kind := .mza, task := 0, acc := 1, started := true, finished := true }
def o10 := aO { kind := .mmas, task := 0, acc := 1, started := true, finished := true }
def o11 := aO { kind := .mmag, task := 0, started := true, bind := 2 + 2048 }
def m3 : MOp := { kind := .mwra, task := 0, acc := 1, row := 15, data := 0x500000007, started := true }
def m4 : MOp := { kind := .mldw, task := 0, wb := 1, qa := 2, dq := true, started := true, done := 7 }
def m5 : MOp := { kind := .mma, task := 0, qa := 2, dq := true, started := true }
def m6 : MOp := { kind := .mma, task := 0, qa := 2, dq := true, started := true, held := some 99, done := 15 }
def m8 : MOp := { kind := .mmas, task := 0, qa := 2, dq := true, started := true, buf := [192], spb := true }
def m11 : MOp := { kind := .mmag, task := 0, started := true, bind := 2 + 2048 }
def m12 : MOp := { kind := .mmas, task := 0, qo := 2, started := true, outs := [8, 9], spb := true }
def y1 : MOp := { kind := MKind.msta, task := 0, base := 64, ty := 9, started := true, done := 15 }
def y2 : MOp := { kind := MKind.mmas, task := 0, acc := 1, started := true, finished := true }
def y3 : MOp := { kind := MKind.mza, task := 0, acc := 1, started := true, finished := true }
def y4 : Handle := { place := 1, base := 256, len := 256 }
def y5 : MOp := { kind := MKind.mza, task := 0, acc := 1 }
def y6 : XArgs := { acc := 3, rb := 2, row := 15 }
def y7 : SArgs := { rd := 3, ra := 4, rop := 5 }
def y8 : SArgs := { rd := 3, ra := 5, rop := 5 }
def y9 : XArgs := { rb := 1, qo := 2, spb := 1 }
def y10 : XArgs := { dq := 1, qo := 2, t := 9 }
def y11 : SArgs := { rd := 4, ra := 1 }
def y12 : SArgs := { rd := 4, ra := 2 }
def y13 : XArgs := { dq := 1, qa := 2 }
def y14 : SArgs := { rd := 5, h := 1 }
def y15 : XArgs := { rb := 1, t := 9 }
def y16 : XArgs := { acc := 3 }
def y17 : SArgs := { rd := 3 }
def y18 : SArgs := { rd := 4 }
def y19 : SArgs := { sd := 1 }
def y20 : SArgs := { sd := 2 }
def y21 : XArgs := { rb := 1 }

theorem test_SystemInstructions_1 :
    (CoreReady aM 0 0 ∧ aM.guardOn 0 0 g0 ∧ (rdidDecodes y17 = true) ∧ (sstatDecodes y17 = true) ∧ (rowDecodes y17 =
      true) ∧
      (let x := aM.tile 0; let o := BitVec.toNat (x.sreg y17.ra.toNat); let r := { op := y17.rop.toNat, fv := y17.fv == 1, dst := BitVec.toNat (x.sreg y17.rd.toNat), a := o, b := BitVec.toNat (x.sreg y17.rb.toNat), c := BitVec.toNat (x.sreg y17.rc.toNat) : RowOp }; (r.rows.any fun q => decide (2016 ≤ q)) = false) ∧
      (let x := aM.tile 0; let o := BitVec.toNat (x.sreg y17.ra.toNat); let r := { op := y17.rop.toNat, fv := y17.fv == 1, dst := BitVec.toNat (x.sreg y17.rd.toNat), a := o, b := BitVec.toNat (x.sreg y17.rb.toNat), c := BitVec.toNat (x.sreg y17.rc.toNat) : RowOp }; rowPermitted r = true)) ∧
      (CoreReady aM 0 0 ∧ aM.guardOn 0 0 g0 ∧ (rdidDecodes y18 = true) ∧ (rdcycDecodes y18 = true) ∧ (sstatDecodes y18
      = true) ∧ (rowDecodes y18 = true) ∧
      (let x := aM.tile 0; let o := BitVec.toNat (x.sreg y18.ra.toNat); let r := { op := y18.rop.toNat, fv := y18.fv == 1, dst := BitVec.toNat (x.sreg y18.rd.toNat), a := o, b := BitVec.toNat (x.sreg y18.rb.toNat), c := BitVec.toNat (x.sreg y18.rc.toNat) : RowOp }; (r.rows.any fun q => decide (2016 ≤ q)) = false) ∧
      (let x := aM.tile 0; let o := BitVec.toNat (x.sreg y18.ra.toNat); let r := { op := y18.rop.toNat, fv := y18.fv == 1, dst := BitVec.toNat (x.sreg y18.rd.toNat), a := o, b := BitVec.toNat (x.sreg y18.rb.toNat), c := BitVec.toNat (x.sreg y18.rc.toNat) : RowOp }; rowPermitted r = true)) := by
  unfold CoreReady
  unfold State.guardOn
  decide +kernel

theorem test_SystemInstructions_2 :
    ((haddrDecodes y11 = true) ∧ (aM.resolve 0 y11.h.toNat = some y4) ∧ (BitVec.toNat ((aM.tile 0).sreg y11.ra.toNat)
      < y4.len)) ∧ ((haddrDecodes y12 = true) ∧ (aM.resolve 0 y12.h.toNat = some y4) ∧ (y4.len ≤ BitVec.toNat
      ((aM.tile 0).sreg y12.ra.toNat))) ∧ ((hgenDecodes y14 = true) ∧ (aM.resolve 0 y14.h.toNat = some
      { place := 3, base := 2097152, len := 1048576, entry := 1 : Handle })) ∧ (CoreReady aM 0 0 ∧ aM.guardOn 0 0 g0 ∧
      (sstartDecodes y19 = true) ∧ (let d := y19.sd.toNat; aM.streamIdle 0 d = true) ∧
      (let d := y19.sd.toNat; aM.streamOk 0 d = true) ∧ (sstatDecodes y19 = true)) ∧ (CoreReady aM 0 0 ∧ aM.guardOn 0
      0 g0 ∧ (sstartDecodes y20 = true) ∧ (let d := y20.sd.toNat; aM.streamIdle 0 d = false) ∧ (sstatDecodes y20 =
      true)) ∧ (CoreReady aM 0 0 ∧ aM.guardOn 0 0 g0 ∧ (rowDecodes y7 = true) ∧
      (let x := aM.tile 0; let o := BitVec.toNat (x.sreg y7.ra.toNat); let r := { op := y7.rop.toNat, fv := y7.fv == 1, dst := BitVec.toNat (x.sreg y7.rd.toNat), a := o, b := BitVec.toNat (x.sreg y7.rb.toNat), c := BitVec.toNat (x.sreg y7.rc.toNat) : RowOp }; (r.rows.any fun q => decide (2016 ≤ q)) = false) ∧
      (let x := aM.tile 0; let o := BitVec.toNat (x.sreg y7.ra.toNat); let r := { op := y7.rop.toNat, fv := y7.fv == 1, dst := BitVec.toNat (x.sreg y7.rd.toNat), a := o, b := BitVec.toNat (x.sreg y7.rb.toNat), c := BitVec.toNat (x.sreg y7.rc.toNat) : RowOp }; rowPermitted r = true)) := by
  unfold CoreReady
  unfold State.guardOn
  decide +kernel

theorem test_SystemInstructions_3 :
    CoreReady aM 0 0 ∧ aM.guardOn 0 0 g0 ∧ (rowDecodes y8 = true) ∧
      (let x := aM.tile 0; let o := BitVec.toNat (x.sreg y8.ra.toNat); let r := { op := y8.rop.toNat, fv := y8.fv == 1, dst := BitVec.toNat (x.sreg y8.rd.toNat), a := o, b := BitVec.toNat (x.sreg y8.rb.toNat), c := BitVec.toNat (x.sreg y8.rc.toNat) : RowOp }; (r.rows.any fun q => decide (2016 ≤ q)) = false) ∧
      (let x := aM.tile 0; let o := BitVec.toNat (x.sreg y8.ra.toNat); let r := { op := y8.rop.toNat, fv := y8.fv == 1, dst := BitVec.toNat (x.sreg y8.rd.toNat), a := o, b := BitVec.toNat (x.sreg y8.rb.toNat), c := BitVec.toNat (x.sreg y8.rc.toNat) : RowOp }; rowPermitted r = false) := by
  unfold CoreReady
  unfold State.guardOn
  decide +kernel

theorem test_MatrixIssue_1 :
    CoreReady aQ 0 0 ∧ aQ.guardOn 0 0 g0 ∧ (let x := aQ.tile 0; x.mq.length < 8) ∧ (mldwDecodes y21 = true) ∧
      (let x := aQ.tile 0; let desk := fun al n => BitVec.toNat (x.sreg y21.rb.toNat) % al = 0 ∧ BitVec.toNat (x.sreg y21.rb.toNat) + n ≤ 49152; let inOk := (x.task 0).inMask.testBit y21.qa.toNat = true; if y21.dq = 1 then inOk else desk 64 512) ∧
      (mmaDecodes y21 = true) ∧ (fmtPairOk y21.fa.toNat y21.fb.toNat = true) ∧
      (let x := aQ.tile 0; let desk := fun al n => BitVec.toNat (x.sreg y21.rb.toNat) % al = 0 ∧ BitVec.toNat (x.sreg y21.rb.toNat) + n ≤ 49152; let inOk := (x.task 0).inMask.testBit y21.qa.toNat = true; if y21.dq = 1 then inOk else desk 32 (15 * y21.stride.toNat * 32 + 32)) ∧
      (mstaDecodes y21 = true) ∧
      (let x := aQ.tile 0; let desk := fun al n => BitVec.toNat (x.sreg y21.rb.toNat) % al = 0 ∧ BitVec.toNat (x.sreg y21.rb.toNat) + n ≤ 49152; let outOk := (x.task 0).outMask.testBit y21.qo.toNat = true; if y21.dq = 1 then outOk else desk 64 (16 * mstaRow y21.t.toNat)) ∧
      (mmasDecodes y21 = true) ∧
      (let x := aQ.tile 0; let desk := fun al n => BitVec.toNat (x.sreg y21.rb.toNat) % al = 0 ∧ BitVec.toNat (x.sreg y21.rb.toNat) + n ≤ 49152; let inOk := (x.task 0).inMask.testBit y21.qa.toNat = true; if y21.dq = 1 then inOk else desk 64 64) ∧
      (let x := aQ.tile 0; let outOk := (x.task 0).outMask.testBit y21.qo.toNat = true; let h := aQ.resolve 0 (aQ.rf (TILE_SPARSE_B_H 0)); y21.spb = 1 → outOk ∧ ∃ e, h = some e ∧ e.place ≠ 3) := by
  unfold CoreReady
  unfold State.guardOn
  decide +kernel

theorem test_MatrixIssue_2 :
    CoreReady aQ 0 0 ∧ aQ.guardOn 0 0 g0 ∧ (let x := aQ.tile 0; x.mq.length < 8) ∧ (mldwDecodes y13 = true) ∧
      (let x := aQ.tile 0; let desk := fun al n => BitVec.toNat (x.sreg y13.rb.toNat) % al = 0 ∧ BitVec.toNat (x.sreg y13.rb.toNat) + n ≤ 49152; let inOk := (x.task 0).inMask.testBit y13.qa.toNat = true; if y13.dq = 1 then inOk else desk 64 512) ∧
      (mmaDecodes y13 = true) ∧ (fmtPairOk y13.fa.toNat y13.fb.toNat = true) ∧
      (let x := aQ.tile 0; let desk := fun al n => BitVec.toNat (x.sreg y13.rb.toNat) % al = 0 ∧ BitVec.toNat (x.sreg y13.rb.toNat) + n ≤ 49152; let inOk := (x.task 0).inMask.testBit y13.qa.toNat = true; if y13.dq = 1 then inOk else desk 32 (15 * y13.stride.toNat * 32 + 32)) ∧
      (mmasDecodes y13 = true) ∧
      (let x := aQ.tile 0; let desk := fun al n => BitVec.toNat (x.sreg y13.rb.toNat) % al = 0 ∧ BitVec.toNat (x.sreg y13.rb.toNat) + n ≤ 49152; let inOk := (x.task 0).inMask.testBit y13.qa.toNat = true; if y13.dq = 1 then inOk else desk 64 64) ∧
      (let x := aQ.tile 0; let outOk := (x.task 0).outMask.testBit y13.qo.toNat = true; let h := aQ.resolve 0 (aQ.rf (TILE_SPARSE_B_H 0)); y13.spb = 1 → outOk ∧ ∃ e, h = some e ∧ e.place ≠ 3) := by
  unfold CoreReady
  unfold State.guardOn
  decide +kernel

theorem test_MatrixIssue_3 :
    (CoreReady aQ 0 0 ∧ aQ.guardOn 0 0 g0 ∧ (let x := aQ.tile 0; x.mq.length < 8) ∧ (mmaDecodes y16 = true) ∧
      (fmtPairOk y16.fa.toNat y16.fb.toNat = true) ∧
      (let x := aQ.tile 0; let desk := fun al n => BitVec.toNat (x.sreg y16.rb.toNat) % al = 0 ∧ BitVec.toNat (x.sreg y16.rb.toNat) + n ≤ 49152; let inOk := (x.task 0).inMask.testBit y16.qa.toNat = true; if y16.dq = 1 then inOk else desk 32 (15 * y16.stride.toNat * 32 + 32)) ∧
      (mzaDecodes y16 = true) ∧ (mwraDecodes y16 = true) ∧ (mstaDecodes y16 = true) ∧
      (let x := aQ.tile 0; let desk := fun al n => BitVec.toNat (x.sreg y16.rb.toNat) % al = 0 ∧ BitVec.toNat (x.sreg y16.rb.toNat) + n ≤ 49152; let outOk := (x.task 0).outMask.testBit y16.qo.toNat = true; if y16.dq = 1 then outOk else desk 64 (16 * mstaRow y16.t.toNat)) ∧
      (mmasDecodes y16 = true) ∧
      (let x := aQ.tile 0; let desk := fun al n => BitVec.toNat (x.sreg y16.rb.toNat) % al = 0 ∧ BitVec.toNat (x.sreg y16.rb.toNat) + n ≤ 49152; let inOk := (x.task 0).inMask.testBit y16.qa.toNat = true; if y16.dq = 1 then inOk else desk 64 64) ∧
      (let x := aQ.tile 0; let outOk := (x.task 0).outMask.testBit y16.qo.toNat = true; let h := aQ.resolve 0 (aQ.rf (TILE_SPARSE_B_H 0)); y16.spb = 1 → outOk ∧ ∃ e, h = some e ∧ e.place ≠ 3) ∧
      (mrdaDecodes y16 = true) ∧ (let x := aQ.tile 0; x.accPending y16.acc.toNat = false)) ∧ (CoreReady aQ 0 0 ∧
      aQ.guardOn 0 0 g0 ∧ (let x := aQ.tile 0; x.mq.length < 8) ∧ (mwraDecodes y6 = true) ∧ (mrdaDecodes y6 = true) ∧
      (let x := aQ.tile 0; x.accPending y6.acc.toNat = false)) := by
  unfold CoreReady
  unfold State.guardOn
  decide +kernel

theorem test_MatrixIssue_4 :
    (CoreReady aQ 0 0 ∧ aQ.guardOn 0 0 g0 ∧ (let x := aQ.tile 0; x.mq.length < 8) ∧ (mstaDecodes y15 = true) ∧
      (let x := aQ.tile 0; let desk := fun al n => BitVec.toNat (x.sreg y15.rb.toNat) % al = 0 ∧ BitVec.toNat (x.sreg y15.rb.toNat) + n ≤ 49152; let outOk := (x.task 0).outMask.testBit y15.qo.toNat = true; if y15.dq = 1 then outOk else desk 64 (16 * mstaRow y15.t.toNat))) ∧
      (CoreReady aQ 0 0 ∧ aQ.guardOn 0 0 g0 ∧ (let x := aQ.tile 0; x.mq.length < 8) ∧ (mstaDecodes y10 = true) ∧
      (let x := aQ.tile 0; let desk := fun al n => BitVec.toNat (x.sreg y10.rb.toNat) % al = 0 ∧ BitVec.toNat (x.sreg y10.rb.toNat) + n ≤ 49152; let outOk := (x.task 0).outMask.testBit y10.qo.toNat = true; if y10.dq = 1 then outOk else desk 64 (16 * mstaRow y10.t.toNat))) := by
  unfold CoreReady
  unfold State.guardOn
  decide +kernel

theorem test_MatrixIssue_5 :
    CoreReady aQ 0 0 ∧ aQ.guardOn 0 0 g0 ∧ (let x := aQ.tile 0; x.mq.length < 8) ∧ (mldwDecodes { : XArgs } = true) ∧
      (let x := aQ.tile 0; let desk := fun al n => BitVec.toNat (x.sreg { : XArgs }.rb.toNat) % al = 0 ∧ BitVec.toNat (x.sreg { : XArgs }.rb.toNat) + n ≤ 49152; let inOk := (x.task 0).inMask.testBit { : XArgs }.qa.toNat = true; if { : XArgs }.dq = 1 then inOk else desk 64 512) ∧
      (mmaDecodes { : XArgs } = true) ∧ (fmtPairOk { : XArgs }.fa.toNat { : XArgs }.fb.toNat = true) ∧
      (let x := aQ.tile 0; let desk := fun al n => BitVec.toNat (x.sreg { : XArgs }.rb.toNat) % al = 0 ∧ BitVec.toNat (x.sreg { : XArgs }.rb.toNat) + n ≤ 49152; let inOk := (x.task 0).inMask.testBit { : XArgs }.qa.toNat = true; if { : XArgs }.dq = 1 then inOk else desk 32 (15 * { : XArgs }.stride.toNat * 32 + 32)) ∧
      (mzaDecodes { : XArgs } = true) ∧ (mwraDecodes { : XArgs } = true) ∧ (mstaDecodes { : XArgs } = true) ∧
      (let x := aQ.tile 0; let desk := fun al n => BitVec.toNat (x.sreg { : XArgs }.rb.toNat) % al = 0 ∧ BitVec.toNat (x.sreg { : XArgs }.rb.toNat) + n ≤ 49152; let outOk := (x.task 0).outMask.testBit { : XArgs }.qo.toNat = true; if { : XArgs }.dq = 1 then outOk else desk 64 (16 * mstaRow { : XArgs }.t.toNat)) ∧
      (let b := aQ.gang 0; mmagDecodes { : XArgs } (b.testBit 11) = true) ∧
      (let x := aQ.tile 0; let b := aQ.gang 0; (x.task 0).inMask.testBit (bits b 0 3) = true) ∧
      (let x := aQ.tile 0; let b := aQ.gang 0; b.testBit 3 = true → (x.task 0).outMask.testBit (bits b 4 3) = true) ∧
      (let x := aQ.tile 0; let b := aQ.gang 0; b.testBit 7 = true → (x.task 0).inMask.testBit (bits b 8 3) = true) ∧
      (let x := aQ.tile 0; let b := aQ.gang 0; b.testBit 11 = false → (x.task 0).outMask.testBit (bits b 12 3) = true) ∧
      (mmasDecodes { : XArgs } = true) ∧
      (let x := aQ.tile 0; let desk := fun al n => BitVec.toNat (x.sreg { : XArgs }.rb.toNat) % al = 0 ∧ BitVec.toNat (x.sreg { : XArgs }.rb.toNat) + n ≤ 49152; let inOk := (x.task 0).inMask.testBit { : XArgs }.qa.toNat = true; if { : XArgs }.dq = 1 then inOk else desk 64 64) ∧
      (let x := aQ.tile 0; let outOk := (x.task 0).outMask.testBit { : XArgs }.qo.toNat = true; let h := aQ.resolve 0 (aQ.rf (TILE_SPARSE_B_H 0)); { : XArgs }.spb = 1 → outOk ∧ ∃ e, h = some e ∧ e.place ≠ 3) ∧
      (mrdaDecodes { : XArgs } = true) ∧ (let x := aQ.tile 0; x.accPending { : XArgs }.acc.toNat = false) := by
  unfold CoreReady
  unfold State.guardOn
  decide +kernel

theorem test_MatrixIssue_6 :
    (CoreReady aQ 0 0 ∧ aQ.guardOn 0 0 g0 ∧ (let x := aQ.tile 0; x.mq.length < 8) ∧ (mmasDecodes y9 = true) ∧
      (fmtPairOk y9.fa.toNat y9.fb.toNat = true) ∧
      (let x := aQ.tile 0; let desk := fun al n => BitVec.toNat (x.sreg y9.rb.toNat) % al = 0 ∧ BitVec.toNat (x.sreg y9.rb.toNat) + n ≤ 49152; let inOk := (x.task 0).inMask.testBit y9.qa.toNat = true; if y9.dq = 1 then inOk else desk 64 64) ∧
      (let x := aQ.tile 0; let outOk := (x.task 0).outMask.testBit y9.qo.toNat = true; let h := aQ.resolve 0 (aQ.rf (TILE_SPARSE_B_H 0)); y9.spb = 1 → outOk ∧ ∃ e, h = some e ∧ e.place ≠ 3)) ∧
      (CoreReady aF 0 0 ∧ aF.guardOn 0 0 g0 ∧ (let x := aF.tile 0; 8 ≤ x.mq.length) ∧ (mzaDecodes y16 = true) ∧
      (mrdaDecodes y16 = true) ∧ (let x := aF.tile 0; x.accPending y16.acc.toNat = false)) := by
  unfold CoreReady
  unfold State.guardOn
  decide +kernel

theorem test_MatrixSteps :
    (((o1.tile 0).mq[0]? = some y5) ∧ (o1.tileLive 0 = true) ∧ (y5.started = false) ∧ (((List.filter
      (fun x => !x.finished) (List.take 0 (o1.tile 0).mq)).all
      fun p => p.kind.path != y5.kind.path && !p.conflicts y5) = true)) ∧ (((o2.tile 0).mq[0]? = some mz) ∧
      (o2.tileLive 0 = true) ∧ (mz.started = true) ∧ (mz.finished = false) ∧ (mz.kind = MKind.mza)) ∧ (((o3.tile
      0).mq[0]? = some m3) ∧ (o3.tileLive 0 = true) ∧ (m3.started = true) ∧ (m3.finished = false) ∧ (m3.kind =
      MKind.mwra)) ∧ (((o4.tile 0).mq[0]? = some m4) ∧ (o4.tileLive 0 = true) ∧ (m4.started = true) ∧ (m4.finished =
      false) ∧ (m4.kind = MKind.mldw)) ∧ ((o4.headIn 0 m4.qa = some 4660)) ∧ ((o5.headIn 0 m5.qa = some 4660)) ∧
      ((m6.held = some 99)) ∧ (((o7.tile 0).mq[0]? = some y1) ∧ (o7.tileLive 0 = true) ∧ (y1.started = true) ∧
      (y1.finished = false) ∧ (y1.kind = MKind.msta) ∧ (y1.dq = false)) ∧ ((o8.headIn 0 m8.qa = some 4660) ∧
      (m8.buf.length + 1 < groupBytes m8 (BitVec.toNat ((m8.buf ++ [4660]).headD 0)) / 64)) ∧ (((o9.tile 0).mq[0]? =
      some y3) ∧ (o9.tileLive 0 = true) ∧ (0 = 0) ∧ (y3.finished = true) ∧ (y3.kind ≠ MKind.mmas)) ∧ (((o10.tile
      0).mq[0]? = some y2) ∧ (o10.tileLive 0 = true) ∧ (0 = 0) ∧ (y2.finished = true) ∧ (y2.kind = MKind.mmas)) ∧
      ((o11.headIn 0 (bits m11.bind 0 3) = some 4660)) ∧ ((m12.outs = [8, 9])) := by
  decide +kernel

end Sys2Proof.Tests.MatrixUnit

set_option Elab.async false

namespace Sys2Proof.Tests.TasksAndTile
open Sys2Proof Sys2Proof.Machine

def live := [(PLN_STATE_STATE 0, 0), (PLN_FENCED 0 0, 0), (PWR_STATUS_STATE, 0), (MOD_STATUS_BACKUP_ACTIVE, 0),
  (PART_GEOM_X0 0, 0), (PART_GEOM_Y0 0, 0), (PART_GEOM_W 0, 1), (PART_GEOM_H 0, 1), (PART_STATE_STATE 0, 2),
  (TILE_CTRL_RUN 0, 1)]
def tl (x : Tile) (l : List (Fk × Nat)) : State := { regs (live ++ l) with tiles := [(0, x)] }
def d1 := tl { tasks := [(3, { entry := 0x1FFF }), (5, { urgent := true, entry := 7 })] } [(TILE_TASK_STATE_STATE 0 3,
  2), (TILE_TASK_STATE_STATE 0 5, 2)]
def d2 := tl { tasks := [(3, { mid := true })] } [(TILE_TASK_STATE_STATE 0 3, 2), (TILE_TASK_STATE_PC 0 3, 55)]
def d3 := tl { inq := [(2, [{ data := 9 }])], mq := [] } [(TILE_TASK_STATE_STATE 0 3, 4), (TILE_TASK_STATE_WAIT_ON 0
  3, 2), (TILE_TASK_STATE_STATE 0 4, 4), (TILE_TASK_STATE_WAIT_ON 0 4, 16)]
def sh : SMap Shelf := [(0, { w0 := 256 * 2 ^ 32 + 1, w1 := 0x100 })]
def c1 :=
  tl { inq := [(2, [{ data := 9 }])], shelf := sh, streams := [(2, { xfers := [{ key := 0, len := 64, write := false }] })] } [(TILE_COUNT_TOTAL
  0 1, 5), (TILE_CFG_QD 0 1, 0), (TILE_QBIND_KIND 0 0, 3), (TILE_STREAM_STATE_STATE 0 2, 1), (TILE_CFG_QD 0 2, 5)]
def rq : Req := { who := 0, addr := 0xBFF8, len := 8, write := false, data := 0 }
def c2 :=
  { tl { openRow := [(0, 3)], rowOps := [{ op := 2, fv := false, dst := 700, a := 513, b := 514, c := 0 }], scrubAt := 767, refreshAt := 263 } [] with mem := [(tkey 0 0xBFF8, 0xAB), (tkey 0 0x40000000, 0x11), (rowKey 0 513, 0xF0), (rowKey 0 514, 0x3C)] }
/-- A plain that has read cool from time 5 on. -/
def c3 : State := { c2 with plains := [(0, { fastRefresh := true, coolFrom := some 5 })] }
def w30_1_1 := { rq with who := 17, write := true, data := 2^64 + 5 }
def w30_2_2 := { rq with who := 15, addr := 0x40000000 }
def y1 : RowOp := { op := 2, fv := false, dst := 700, a := 513, b := 514, c := 0 }
def z1 : State := core { : Tile } []

theorem test_Tasks :
    ((0 < 262144) ∧ (5 < 16) ∧ (d1.mayFire 0 = true) ∧ ((d1.tile 0).cur = none) ∧ ((d1.promote 0).selectTask 0 = some 5)
      ∧ (let x := ((d1.promote 0).tile 0).task 5; x.mid = false ∧ x.entry < 2 ^ 13)) ∧ ((0 <
      262144) ∧ (3 < 16) ∧ (d2.mayFire 0 = true) ∧ ((d2.tile 0).cur = none) ∧ ((d2.promote 0).selectTask 0 = some 3) ∧
      (let x := ((d2.promote 0).tile 0).task 3; x.mid = true)) ∧
      (((nextTask 15 fun k => k == 0 || k == 15) = some 0)) ∧ (((nextTask 7 fun k => k == 3 || k == 15) = some 15)) ∧
      ((d1.selectTask 0 = some 5) ∧ (∃ j, j < 16 ∧ d1.taskSt 0 j = 2 ∧ ((d1.tile 0).task j).urgent = true)) ∧
      ((d2.selectTask 0 = some 3)) ∧ ((d3.taskSt 0 3 = 4) ∧ (d3.causeCleared 0 3 = true) ∧ (d3.tileLive 0 = true)) ∧
      ((d3.taskSt 0 4 = 4) ∧ (d3.causeCleared 0 4 = true) ∧ (d3.tileLive 0 = true)) ∧ ((CoreReady z1 0 0) ∧ (25 =
      z1.rf (TILE_TASK_STATE_PC 0 0) / 4) ∧ (((z1.tile 0).ibuf.any fun x => x.g == 25) = false) ∧ (∀ (i : Nat), i <
      4 → z1.hasBad (tkey 0 (32 * 25 + 8 * i)) 8 = false)) ∧ ((0 < 262144) ∧ (3 < 16) ∧ (d3.pageReady (tilePage 0) =
      true)) ∧ ((0 < 262144) ∧ (0 < 16) ∧ (z1.pageReady (tilePage 0) = true)) ∧ ((0 < 262144) ∧ (d3.pageReady
      (tilePage 0) = true)) := by
  unfold CoreReady
  decide +kernel

theorem test_TileConfiguration :
    ((0 = c1.rf (MESH_BANK_LIVE (plainOf 0)))) ∧ ((1 < 2) ∧ (8 < 9) ∧ (7 < 8) ∧ (1 ≠ c1.rf (MESH_BANK_LIVE (plainOf
      0)))) ∧ ((2 < 16) ∧ (c1.rb (TILE_CTRL_RUN 0) = true ∨ (c1.tile 0).holds 2 = true) ∧ (bits (3) 0 2 ≠ c1.rf
      (TILE_QBIND_KIND 0 2))) ∧ ((15 < 16) ∧ (c1.rb (TILE_CTRL_RUN 0) = true ∨ (c1.tile 0).holds 15 = true) ∧ (bits
      (3) 0 2 ≠ c1.rf (TILE_QBIND_KIND 0 15))) ∧ ((c1.streamIdle 0 1 = true) ∧ (c1.streamOk 0 1 = true)) ∧
      ((c1.streamIdle 0 2 = false ∨ c1.streamOk 0 2 = false)) ∧ ((c1.streamIdle 0 7 = false ∨ c1.streamOk 0 7 =
      false)) ∧ ((c1.streamSt 0 2 = 1) ∧ ((((c1.tile 0).stream 2).xfers.all fun x => x.landed) = false)) ∧ ((1 < 8) ∧
      (c1.streamIdle 0 1 = true) ∧ (c1.streamOk 0 1 = true)) := by
  decide +kernel

theorem test_DeskAndBench :
    (((c2.tile 0).deskWait = []) ∧ ((c2.tile 0).busyBanks = 0) ∧ (rq.age = 0) ∧ (deskTier (c2.tile 0) rq ≠ 0) ∧
      (c2.reqLive 0 rq.who = true) ∧ (c2.memClocked 0 = true) ∧ (rq.len = 8) ∧
      (rq.addr % 8 = 0) ∧ (rq.addr + 8 ≤ 49152) ∧ (c2.hasBad (tkey 0 rq.addr) 8 = false) ∧ (rq.who < 20) ∧ (rq.write =
      false)) ∧ (((c2.tile 0).deskWait = []) ∧ ((c2.tile 0).busyBanks = 0) ∧ (w30_1_1.age = 0) ∧ (deskTier (c2.tile 0) w30_1_1 ≠ 0) ∧
      (c2.reqLive 0 w30_1_1.who = true) ∧ (c2.memClocked 0 = true) ∧ (w30_1_1.len = 8) ∧ (w30_1_1.addr % 8 = 0) ∧ (w30_1_1.addr + 8 ≤ 49152) ∧ (c2.hasBad (tkey 0 w30_1_1.addr)
      8 = false) ∧ (w30_1_1.who < 20) ∧ (w30_1_1.write = true)) ∧ (((c2.tile 0).benchWait = []) ∧ (w30_2_2.age = 0) ∧
      (benchTier (c2.tile 0) w30_2_2 ≠ 0) ∧ (c2.reqLive 0 w30_2_2.who = true) ∧ (w30_2_2.who < 18) ∧ (w30_2_2.write = false) ∧ (w30_2_2.len = 8) ∧ (w30_2_2.addr % 8 =
      0) ∧ (areaOf w30_2_2.addr = Area.bench) ∧ ((c2.tile 0).benchHeld w30_2_2.addr 8 = false) ∧ (c2.hasBad (tkey 0
      w30_2_2.addr) 8 = false)) ∧ ((c2.hasBad (tkey 0 (64 * (c2.tile 0).scrubAt)) 64 = false)) ∧ ((c2.sensed 0 =
      true) ∧ (85 < 86)) ∧ ((c2.sensed 0 = true) ∧ (83 ≤ 83) ∧ ((c2.plain 0).coolFrom = none)) ∧ ((c3.sensed 0 = true) ∧ (83 ≤ 83) ∧
      ((c3.plain 0).coolFrom = some 5) ∧ ((c3.at (5 + 10 ^ 9)).time = 5 + 10 ^ 9)) ∧ (((c2.tile 0).rowOps = [y1]) ∧ (∀ (r : Nat), r ∈
      y1.verified → c2.hasBad (rowKey 0 r) 2048 = false) ∧ (y1.op ≠ 0)) := by
  decide +kernel

end Sys2Proof.Tests.TasksAndTile

set_option Elab.async false

namespace Sys2Proof.Tests.Fabric
open Sys2Proof Sys2Proof.Machine

def e1 := hst [(hSTATUS_READY (partPage 0 7), 1), (PEPT_SEL_VPN 0, 5), (peptEntry 0 5, 1), (peptEntry 0 6, 3 + 2 ^
  12), (EDGE_WIN_EN 0, 1), (EDGE_WIN_LIMIT 0, 9), (PSTR_CTRL_AUTO_RESUME 0, 0), (hSTATUS_READY pgEDGE, 1),
  (PART_STATE_STATE 1, 0)]
def x0 : Tile := { outq := [(7, [{ data := 5 }, { data := 6 }])], inq := [(2, [{ data := 3 }])] }
def circ (l : List (Fk × Nat)) (x : Tile) : State :=
  { hst ([(TILE_QBIND_KIND 0 15, 1), (TILE_QCRED_CREDITS 0 7, 1), (TILE_QBIND_DEPTH 0 15, 4), (MESH_BANK_LIVE 0, 1), (TILE_SLOT_SLOT 0 1 1 7, (1 + 8 * 2 + 7 * 32) * 2 ^ 48)] ++ l) with tiles := [(0, x)] }
def e2 := circ [] x0
def og : Origin := { src := 0, srcQ := 7, sinks := [(1, 3)] }
def fl (l : List (Fk × Nat)) (sk : Option Nat) : State :=
  { circ ([(TILE_QBIND_KIND 1 3, 1), (TILE_QBIND_DEPTH 1 3, 2), (TILE_QCRED_CREDITS 0 7, 1)] ++ l) x0 with flits := [{ at_ := 1, inp := 3, slot := 31, par := false, entries := [{ data := 5 }], origin := og, sink := sk }], credits := [{ origin := og, snk := 1, snkQ := 3 }] }
def f0 : Flit := { at_ := 1, inp := 3, slot := 31, par := false, entries := [{ data := 5 }], origin := og }
def w32_3_1 := { f0 with sink := some 3 }
def w32_5_2 :=
  { fl [(MESH_BANK_SEL 0, 0), (MESH_ROUND_COUNT 0, 255)] none with plains := [(0, { bankPend := true, settle := 256, meshSub := 31 })] }
def k0 : Packet :=
  { dst := 5 * 2 ^ 34 + 0x100, ty := 0, len := 8, ord := true, srcX := 0, srcY := 0, payload := 7, loc := .tile 1 }
def e3 (k : Packet) : State := { hst [(MOD_STATUS_KEEPER_UP, 1)] with net := [k] }
/-- A packet that waits at the east side of plain 0 for a plain that is off, and one that has not waited. -/
def w33_2_3 := { k0 with ord := false, loc := .tile 63, dst := 100 * 2 ^ 34 + 0x100 }
def e3w : State := { hst [(MESH_ROUND_COUNT 0, 10), (MESH_CTRL_ESC_WAIT 0, 320)] with net := [w33_2_3] }
def e4 :=
  { hst [(PSTL_WINDOW_LOG2 0, 10), (TILE_QBIND_KIND 0 2, 3), (TILE_QBIND_DEPTH 0 2, 2)] with tiles := [(0, { x0 with spill := [(2, [{ data := 9 }])] })], parts := [(0, { quiet := 700 })] }
def e5 (n : Nat) :=
  { hst [(SPN_STATUS_UP 5, 1), (hSTATUS_READY (pgSPN 5), 1), (hSTATUS_READY (pgSPN 0), 1),
      (SPN_LINK_REPLAY_TO_NS 5, 1000)] with spans := [(5, { rxSeq := 4095, replays := n, unacked := [(7, 9)], since := 5 })] }
def w34_5_4 := { e5 0 with fld := ((PART_STATE_STATE 0).key, 1) :: (e5 0).fld }
def kt (ty : Nat) : Packet :=
  { dst := 1 * 2 ^ 34 + 0x100, ty := ty, len := 8, ord := true, srcX := 0, srcY := 0, payload := 7, loc := .tile 1, rq := 2, part := 0, rsp := ty == 2, tree := 3 }
def e6 (k : Packet) (l : List (Fk × Nat)) : State :=
  { hst ([(TILE_QBIND_DEPTH 1 2, 2)] ++ l) with net := [k], mem := [(tkey 1 0x100, 0xAA)] }
def w35_5 := { kt 0 with len := 255 + 8 }
/-- Plains 0 and 1 live, the tree's root at plain 0. -/
def e3t : State := hst [(MOD_STATUS_KEEPER_UP, 1), (PLN_STATE_STATE 1, 0), (PLN_STATE_STATE 2, 3)]
def z1 : State := fl [(TILE_SLOT_SLOT 1 1 8 0, 1 + 3 * 2 + 3 * 32)] none
def z2 : State :=
  { fl [(MESH_BANK_SEL 0, 0), (MESH_ROUND_COUNT 0, 2 ^ 48 - 1), (PART_GEOM_W 0, 0)] none with
      plains := [(0, { bankPend := true, meshSub := 31 })] }
def z3 : State := e6 (kt 2) [(TILE_QBIND_KIND 1 2, 2)]
def z4 : State := e6 (kt 3) [(TILE_QBIND_KIND 1 2, 2)]
def z5 : State := e6 (kt 4) [(TILE_TREE_MASK 1 0, 16 * 2 ^ 24)]

theorem test_EdgeMemory_1 :
    ((e1.writes 0 0 = true) ∧ (e1.pageReady (partPage 0 7) = true) ∧ (e1.peptChanges 0 < 4096)) ∧ ((e1.writes 0 0 =
      true) ∧ (e1.pageReady (partPage 0 7) = true) ∧
      (let k := peptEntry 0 (bits (BitVec.ofNat 64 (5 + 9 * 2 ^ 20)).toNat 0 19); (e1.rf k).testBit 0 = true) ∧
      (let k := peptEntry 0 (bits (BitVec.ofNat 64 (5 + 9 * 2 ^ 20)).toNat 0 19); (e1.rf k).testBit 1 = false) ∧
      (let ppn := bits (BitVec.ofNat 64 (5 + 9 * 2 ^ 20)).toNat 20 18; e1.inWindow 0 ppn = true) ∧
      (let ppn := bits (BitVec.ofNat 64 (5 + 9 * 2 ^ 20)).toNat 20 18; e1.inPool ppn = false) ∧
      (let k := peptEntry 0 (bits (BitVec.ofNat 64 (5 + 9 * 2 ^ 20)).toNat 0 19); e1.sh k = e1.rf k) ∧ (e1.rb
      (PSTR_CTRL_AUTO_RESUME 0) = false)) ∧ ((e1.writes 0 0 = true) ∧ (e1.pageReady (partPage 0 7) = true) ∧
      (let k := peptEntry 0 (bits (BitVec.ofNat 64 (6 + 9 * 2 ^ 20)).toNat 0 19); (e1.rf k).testBit 1 = true)) ∧ ((1 <
      16) ∧ (e1.pf0Writes 0 = true) ∧ (e1.pageReady pgEDGE = true) ∧ (e1.quietPart 1 = true) ∧
      (let base := bits (BitVec.ofNat 64 (147423 + 147423 * 2 ^ 18 + 2 ^ 36)).toNat 0 18; let limit := bits (BitVec.ofNat 64 (147423 + 147423 * 2 ^ 18 + 2 ^ 36)).toNat 18 18; base ≤ limit) ∧
      (let limit := bits (BitVec.ofNat 64 (147423 + 147423 * 2 ^ 18 + 2 ^ 36)).toNat 18 18; limit ≤ 147423)) := by
  decide +kernel

theorem test_EdgeMemory_2 :
    ((0 < 16) ∧ (e1.pf0Writes 0 = true) ∧ (e1.pageReady pgEDGE = true) ∧
      (let base := bits (BitVec.ofNat 64 (147423 + 147423 * 2 ^ 18 + 2 ^ 36)).toNat 0 18; let limit := bits (BitVec.ofNat 64 (147423 + 147423 * 2 ^ 18 + 2 ^ 36)).toNat 18 18; e1.quietPart 0 = false ∨ limit < base ∨ 147423 < limit)) ∧
      ((6 * 2 ^ 21 + 2 ^ 21 - 1 < 2 ^ 40) ∧
      (let e := e1.rf (peptEntry 0 ((6 * 2 ^ 21 + 2 ^ 21 - 1) / 2 ^ 21)); e.testBit 0 = true) ∧
      (let e := e1.rf (peptEntry 0 ((6 * 2 ^ 21 + 2 ^ 21 - 1) / 2 ^ 21)); e.testBit 1 = true) ∧
      (let e := e1.rf (peptEntry 0 ((6 * 2 ^ 21 + 2 ^ 21 - 1) / 2 ^ 21)); e1.inWindow 0 (bits e 12 18) = true) ∧
      (let e := e1.rf (peptEntry 0 ((6 * 2 ^ 21 + 2 ^ 21 - 1) / 2 ^ 21)); e1.inPool (bits e 12 18) = false)) := by
  decide +kernel

theorem test_CircuitPlane :
    ((0 < 262144) ∧ (7 < 8) ∧ (31 < 32) ∧ (e2.routerLive 0 = true) ∧ (e2.rf (TILE_QBIND_KIND 0 (8 + 7)) = 1) ∧ (e2.rf
      (TILE_QBIND_PACK 0 (8 + 7)) = 0) ∧ (0 < e2.rf (TILE_QCRED_CREDITS 0 7)) ∧ (e2.settling (plainOf 0) = false) ∧
      (e2.withheld 0 7 = false) ∧ ((e2.tile 0).outE 7 = [{ data := 5 }, { data := 6 }]) ∧ (e2.mayFire 0 = false) ∧ (List.filter
      (fun o => decide (o < 8) && bits (e2.slotEntry 0 (e2.rf (MESH_BANK_LIVE (plainOf 0))) o 31) 5 3 == 7)
      (e2.outputsOf 0 (e2.rf (MESH_BANK_LIVE (plainOf 0))) 8 31) = [1]) ∧ (neighbour 0 1 = some 1)) ∧ (((fl []
      none).flits = [f0]) ∧ (f0.sink = none) ∧ ((fl [] none).routerLive f0.at_ = true) ∧
      (let b := (fl [] none).bankFor (plainOf f0.at_) f0.par; let k := (f0.slot + 1) % 32; (fl [] none).outputsOf f0.at_ b f0.inp k = [])) ∧
      ((z1.flits = [f0]) ∧ (f0.sink = none) ∧ (z1.routerLive f0.at_ = true) ∧
      (let b := z1.bankFor (plainOf f0.at_) f0.par; let k := (f0.slot + 1) % 32; z1.outputsOf f0.at_ b f0.inp k = [8])) ∧
      (((fl [] (some 3)).flits = [w32_3_1]) ∧ (w32_3_1.sink = some 3) ∧ ((fl [] (some 3)).routerLive w32_3_1.at_ =
      true) ∧ ((fl [] (some 3)).rf (TILE_QBIND_KIND w32_3_1.at_ 3) = 1) ∧ ((fl [] (some 3)).roomIn w32_3_1.at_ 3
      w32_3_1.entries.length = true)) ∧ ((z1.creditDue 0 7 = some og) ∧
      ((z1.routeOf 0 7).fst.all z1.routerLive = true) ∧ (z1.withheld 0 7 = false)) ∧ ((0 < 64) ∧
      (w32_5_2.plnState 0 = 0 ∨ w32_5_2.plnState 0 = 2) ∧ (w32_5_2.gated = false) ∧ (w32_5_2.tickDue 0 = true) ∧
      (w32_5_2.keeper.load = none) ∧ ((w32_5_2.plain 0).bankPend = true) ∧
      (w32_5_2.rf (MESH_BANK_SEL 0) ≠ w32_5_2.rf (MESH_BANK_LIVE 0))) ∧ ((0 < 64) ∧ (z2.plnState 0 = 0 ∨
      z2.plnState 0 = 2) ∧ (z2.gated = false) ∧ (z2.tickDue 0 = true) ∧ (z2.keeper.load = none) ∧
      ((z2.plain 0).bankPend = true) ∧ (z2.rf (MESH_BANK_SEL 0) ≠ z2.rf (MESH_BANK_LIVE 0)) ∧ (z2.plainPart 0 = none)) ∧
      ((w32_5_2.rf (MESH_ROUND_COUNT 0) < (w32_5_2.plain 0).settle)) ∧
      (((z2.plain 0).settle ≤ z2.rf (MESH_ROUND_COUNT 0))) := by
  decide +kernel

theorem test_PacketMoves :
    (((e3 k0).net = [k0]) ∧ (k0.loc = Loc.tile 1) ∧ (k0.ty < 4) ∧ (k0.esc = false) ∧ (k0.ord = true) ∧ ((e3
      k0).routerLive 1 = true) ∧
      (let tg := (e3 k0).target k0 (tileX 1) (tileY 1); 1 ≠ tg.fst ∧ (e3 k0).takesCol 1 tg k0 = false ∧ xyDir 1 tg.fst = some 1) ∧
      (neighbour 1 1 = some 2) ∧ ((e3 k0).plnState (plainOf 2) ≠ 3) ∧ ((e3 k0).hopOpen 1 2 1 k0 = true)) ∧ (((e3 k0).net =
      [k0]) ∧ (k0.loc = Loc.tile 1) ∧ (k0.ord = true)) ∧ ((e3w.net = [w33_2_3]) ∧ (w33_2_3.loc = Loc.tile
      63) ∧ (w33_2_3.esc = false) ∧ (w33_2_3.ord = false) ∧ (w33_2_3.ty ≠ 4) ∧ (e3w.routerLive 63 = true) ∧
      (let v := (e3w.target w33_2_3 (tileX 63) (tileY 63)).1; 63 ≠ v ∧ ∀ d ∈ minimalDirs 63 v, e3w.dirFree 63 d w33_2_3 = none) ∧
      (w33_2_3.since + max 1 (e3w.rf (MESH_CTRL_ESC_WAIT (plainOf 63))) ≤ e3w.meshAt (plainOf 63))) ∧ ((e3t.rb MOD_STATUS_KEEPER_UP = true) ∧
      (e3t.treeOk [(1, 3)] = true) ∧ (e3t.plainLive 1 = true)) ∧ ((0 < 16) ∧ ((e4.at 1000000000).watchFrozen 0 = false) ∧
      (2 ^ (e4.at 1000000000).rf (PSTL_WINDOW_LOG2 0) * 20 / 33 ≤ (e4.at 1000000000).quietNs 0) ∧
      (((e4.at 1000000000).tilesIn 0).any (e4.at 1000000000).stallHolds = true)) ∧
      (((e4.tile 0).spillQ 2 = [{ data := 9 : QEnt }]) ∧ (e4.inRoom 0 2 ≠ 0) ∧ (e4.mayFire 0 = false)) := by
  decide +kernel

theorem test_SpanLinks :
    ((5 < 6) ∧ ((e5 0).rb (SPN_STATUS_UP 5) = true) ∧ (4095 < 4096) ∧ (4095 = ((e5 0).span 5).rxSeq)) ∧ (let s := (e5 6).at 1004; (5 < 6) ∧ (s.rb (SPN_STATUS_UP 5) = true) ∧ ((s.span 5).unacked ≠ []) ∧
      (s.time < (s.span 5).since + s.rf (SPN_LINK_REPLAY_TO_NS 5))) ∧
      (let s := (e5 6).at 1005; (5 < 6) ∧ (s.rb (SPN_STATUS_UP 5) = true) ∧ ((s.span 5).unacked ≠ []) ∧
      ((s.span 5).since + s.rf (SPN_LINK_REPLAY_TO_NS 5) ≤ s.time) ∧ ((s.span 5).replays + 1 < 8)) ∧
      (let s := (e5 7).at 1005; (5 < 6) ∧ (s.rb (SPN_STATUS_UP 5) = true) ∧ ((s.span 5).unacked ≠ []) ∧
      ((s.span 5).since + s.rf (SPN_LINK_REPLAY_TO_NS 5) ≤ s.time) ∧ (7 ≤ (s.span 5).replays)) ∧
      ((5 < 6) ∧ ((e5 0).rb (SPN_STATUS_UP 5) = true)) ∧ ((5 < 6) ∧ ((e5 0).pageReady (pgSPN 5) = true)) ∧ (((e5
      0).pf0Writes 0 = true) ∧ ((e5 0).pageReady (pgSPN 0) = true) ∧ ((e5 0).allQuiet = false)) ∧ ((w34_5_4.pf0Writes
      0 = true) ∧ (w34_5_4.pageReady (pgSPN 0) = true) ∧ (w34_5_4.allQuiet = true)) := by
  decide +kernel

theorem test_PacketsArrive_1 :
    (((e6 (kt 0) []).net = [kt 0]) ∧ ((kt 0).loc = Loc.tile 1) ∧ ((e6 (kt 0) []).arrived 1 (kt 0) = true) ∧ ((e6 (kt
      0) []).routerLive 1 = true) ∧ ((kt 0).ty = 0) ∧ (packetLocalOk (kt 0).dst (kt 0).len = true) ∧ ((e6 (kt 0)
      []).tileOpen 1 (gLocal (kt 0).dst) (kt 0).len = true) ∧ (areaOf (gLocal (kt 0).dst) = Area.desk)) ∧ (((e6 w35_5
      []).net = [w35_5]) ∧ (w35_5.loc = Loc.tile 1) ∧ ((e6 w35_5 []).arrived 1 w35_5 = true) ∧ ((e6 w35_5
      []).routerLive 1 = true) ∧ (w35_5.ty = 0) ∧ (packetLocalOk w35_5.dst w35_5.len = false)) ∧ (((e6 (kt 1) []).net
      = [kt 1]) ∧ ((kt 1).loc = Loc.tile 1) ∧ ((e6 (kt 1) []).arrived 1 (kt 1) = true) ∧ ((e6 (kt 1) []).routerLive 1
      = true) ∧ ((kt 1).ty = 1) ∧ (packetLocalOk (kt 1).dst (kt 1).len = true) ∧ ((e6 (kt 1) []).tileOpen 1 (gLocal
      (kt 1).dst) (kt 1).len = true) ∧ (areaOf (gLocal (kt 1).dst) = Area.desk) ∧ ((e6 (kt 1) []).hasBad (tkey 1
      (gLocal (kt 1).dst)) (kt 1).len = false)) ∧ ((z3.net = [kt 2]) ∧ ((kt 2).loc = Loc.tile 1) ∧ (z3.arrived 1 (kt
      2) = true) ∧ (z3.routerLive 1 = true) ∧ ((kt 2).ty = 2) ∧ (z3.rf (TILE_QBIND_KIND 1 (kt 2).rq) = 2) ∧ (z3.roomIn
      1 (kt 2).rq (ceilDiv (kt 2).len 64) = true) ∧ ((kt 2).err = false)) ∧ (((e6 (kt 2) []).net = [kt 2]) ∧ ((kt
      2).loc = Loc.tile 1) ∧ ((e6 (kt 2) []).arrived 1 (kt 2) = true) ∧ ((e6 (kt 2) []).routerLive 1 = true) ∧ ((kt
      2).ty = 2) ∧ ((e6 (kt 2) []).rf (TILE_QBIND_KIND 1 (kt 2).rq) ≠ 2)) := by
  decide +kernel

theorem test_PacketsArrive_2 :
    ((z4.net = [kt 3]) ∧ ((kt 3).loc = Loc.tile 1) ∧ (z4.arrived 1 (kt 3) = true) ∧ (z4.routerLive 1 = true) ∧ ((kt
      3).ty = 3) ∧ (z4.rf (TILE_QBIND_KIND 1 (kt 3).rq) = 2) ∧ ((kt 3).len ≤ 64) ∧ (z4.roomIn 1 (kt 3).rq 1 = true)) ∧
      ((z5.net = [kt 4]) ∧ ((kt 4).loc = Loc.tile 1) ∧ (z5.arrived 1 (kt 4) = true) ∧ (z5.routerLive 1 = true) ∧ ((kt
      4).ty = 4) ∧ (z5.branches 1 (kt 4).tree = []) ∧ ((z5.treeByte 1 (kt 4).tree).testBit 4 = true) ∧ (packetLocalOk
      (kt 4).dst (kt 4).len = true) ∧ (z5.tileOpen 1 (gLocal (kt 4).dst) (kt 4).len = true) ∧ (z5.tilePart 1 = some
      (kt 4).part) ∧ (areaOf (gLocal (kt 4).dst) = Area.desk)) ∧
      (([kt 0, kt 1, kt 2, kt 3, kt 4, w35_5].all fun k => k.eng == none && k.dma == none) = true) := by
  decide +kernel

end Sys2Proof.Tests.Fabric

set_option Elab.async false

namespace Sys2Proof.Tests.StreamsAndSweeps
open Sys2Proof Sys2Proof.Machine

def strm (st : Nat) (x : Stream) (l : List (Fk × Nat)) : State :=
  { hst (l ++ [(TILE_CTRL_RUN 0, 1), (TILE_STREAM_STATE_STATE 0 7, st), (TILE_COUNT_TOTAL 0 7, 4)]) with tiles := [(0, { streams := [(7, x)], inq := [(2, [{ data := 0xFFFFFFFF00000005 }])], outq := [(3, [{ data := 1 }])] })], mem := [(tkey 0 0, 0xAA)] }
def a1 := strm 1 {} [(TILE_POS_ITEM 0 7, 4)]
def a2 :=
  strm 1 { curKnown := true, curOff := 192, curUnits := 9, dataH := { place := 1, base := 32, len := 0x400 } } [(TILE_QBIND_DEPTH
  0 0, 8), (TILE_QBIND_KIND 0 0, 3), (TILE_CFG_XFER 0 7, 2)]
def y0 : Xfer := { key := tkey 0 0, len := 64, write := false }
def a3 (l : List (Fk × Nat)) := strm 1 { landed := 256, notified := 1 } ([(TILE_CFG_RING 0 7, 1),
  (TILE_RINGCFG_SLOT_UNITS 0 7, 2), (TILE_CFG_NQ 0 7, 2), (TILE_CFG_RQ 0 7, 3), (TILE_QBIND_KIND 0 2, 3)] ++ l)
def hlt (x : Stream) (p : Part) (l : List (Fk × Nat)) : State :=
  { strm 3 x ([(TILE_HALT_VA_VA 0 7, 5 * 2 ^ 21), (PSTR_HALT_LIMIT_MICROSECONDS 0, 1), (hSTATUS_READY (partPage 0 6), 1), (PART_STATE_STATE 0, 2), (peptEntry 0 5, 3)] ++ l) with parts := [(0, p)], time := 1000 }
def h1 : Halt := { vpn := 9, reason := 0, write := false, tile := 3, sd := 1 }
def dq (p : Part) (l : List (Fk × Nat)) : State :=
  { hst (l ++ [(PQ_QCFG_EN 0 15, 1), (PQ_QCFG_LOG2_SIZE 0 15, 15), (PQ_QHEAD_HEAD 0 15, 32767), (PQ_QTAIL_TAIL 0 15, 0), (hSTATUS_READY (partPage 0 1), 1)]) with parts := [(0, p)] }
def d0 : Dma := { index := 32767, w3 := 5 + 2 * 2 ^ 18, irq := false, status := 1, notified := true }
def d1 : Dma := { d0 with notified := false }
def psw (l : List (Fk × Nat)) (w : Option Sweep) (x : Tile) : State :=
  { hst (l ++ [(hSTATUS_READY (partPage 0 4), 1), (PSW_GRID_W 0, 1), (PSW_GRID_H 0, 1), (PSW_LAYOUT_BASE_ROW 0, 0), (PSW_LAYOUT_QIN 0, 5), (PSW_LAYOUT_QOUT 0, 6)]) with parts := [(0, { sweep := w })], tiles := [(0, x)] }
def y1 : Machine.Stream := { postWait := true, recheck := true }
def y2 : Sweep := { op := 3, result := 10, done := true }
def y3 : Tile := { inq := [(5, [{ data := 3 : QEnt }])] }
def y4 : Tile := { sweep := { phase := 3 : SweepEng } }
def y5 : Part := { halts := List.replicate 128 h1 }
def y6 : Machine.Stream := { postWait := true }
def y7 : Machine.Stream := { haltAt := 1000 }
def y8 : Machine.Stream := { xfers := [y0] }
def y9 : Part := { dma := [(15, [d1])] }
def y11 : Part := { halts := [h1] }
def y12 : Machine.Stream := { }
def y13 : QEnt := { data := 3 }
def y14 : Sweep := { op := 3 }
def z1 : State := strm 1 y12 [(TILE_CFG_MODE 0 7, 1), (TILE_CFG_IDX_SRC 0 7, 1), (TILE_CFG_IDXQ 0 7, 2)]
def z2 : State := strm 5 y8 [(TILE_CTRL_RUN 0, 0), (TILE_CFG_QD 0 7, 2), (TILE_COUNT_TOTAL 0 7, 9)]
def z3 : State := hlt y1 { : Part } [(EDGE_WIN_EN 0, 1), (EDGE_WIN_LIMIT 0, 9)]
def z4 : State := hlt y7 { : Part } []
def z5 : State := dq { : Part } []
def z6 : State := dq { : Part } [(PQ_QCFG_EN 0 15, 0)]
def z7 : State := dq { : Part } [(PQ_QCFG_EN 0 15, 1)]
def z8 : State := dq y9 [(TILE_QBIND_KIND 5 2, 2), (TILE_QBIND_DEPTH 5 2, 1)]
def z9 : State := psw [(PSW_STATUS_STATE 0, 8)] none { : Tile }
def z10 : State := psw [(PSW_STATUS_STATE 0, 4)] none { : Tile }
def z11 : State := psw [(PSW_STATUS_STATE 0, 3)] (some y14) { : Tile }
def z12 : State := psw [(PSW_STATUS_STATE 0, 0), (PSW_GRID_W 0, 65)] none { : Tile }
def z13 : State := psw [(PSW_STATUS_STATE 0, 3)] (some y14) y4
def z14 : State := psw [] none y3
def z15 : State := psw [(PSW_STATUS_STATE 0, 2)] (some { op := 2 }) { sweep := { phase := 5 } }

theorem test_StreamTransfers_1 :
    (((a1.at 5).streamSt 0 7 = 1) ∧ ((a1.at 5).tileLive 0 = true) ∧ ((((a1.at 5).tile 0).stream 7).notifyWait =
      false) ∧ ((List.filter (fun y => !y.landed) (((a1.at 5).tile 0).stream 7).xfers).length < (a1.at 5).streamOut 0
      7) ∧ ((a1.at 5).rf (TILE_COUNT_TOTAL 0 7) ≤ (a1.at 5).rf (TILE_POS_ITEM 0 7))) ∧ (((a2.at 5).streamSt 0 7 = 1) ∧
      ((a2.at 5).tileLive 0 = true) ∧ ((((a2.at 5).tile 0).stream 7).notifyWait = false) ∧ ((List.filter
      (fun y => !y.landed) (((a2.at 5).tile 0).stream 7).xfers).length < (a2.at 5).streamOut 0 7) ∧ ((a2.at 5).rf
      (TILE_POS_ITEM 0 7) < (a2.at 5).rf (TILE_COUNT_TOTAL 0 7)) ∧ ((((a2.at 5).tile 0).stream 7).curKnown = true) ∧
      ((((a2.at 5).tile 0).stream 7).dataH.place ≠ 3) ∧ ((a2.at 5).rb (TILE_CFG_DIR 0 7) = false) ∧
      (let x := ((a2.at 5).tile 0).stream 7
       x.curDone < 64 * x.curUnits ∧ (a2.at 5).xferRoom 0 7 32 = true ∧
         32 = xferLen ((a2.at 5).streamXfer 0 7) (x.dataH.base + (x.curOff + x.curDone)) (64 * x.curUnits - x.curDone))) ∧
      ((a1.streamSt 0 7 = 1) ∧ (a1.rf (TILE_COUNT_TOTAL 0 7) ≤ a1.rf (TILE_POS_ITEM 0 7)) ∧ (((a1.tile 0).stream
      7).xfers = []) ∧ (a1.rb (TILE_CFG_CYCLIC 0 7) = false)) ∧ ((z1.streamSt 0 7 = 1) ∧ (z1.tileLive 0 = true) ∧
      (z1.rf (TILE_CFG_MODE 0 7) = 1) ∧ (z1.rb (TILE_CFG_IDX_SRC 0 7) = true) ∧ (((z1.tile 0).stream 7).idx = []) ∧
      (z1.headIn 0 (z1.rf (TILE_CFG_IDXQ 0 7)) = some 18446744069414584325#512)) := by
  decide +kernel

theorem test_StreamTransfers_2 :
    ((((z2.tile 0).stream 7).xfers = [y0]) ∧ (((z2.tile 0).stream 7).part = (0, 0)) ∧ (0 < 262144) ∧ (y0.write = false) ∧ (y0.len = 64) ∧
      (z2.xferReady 0 7 y0 = true) ∧ (z2.rb (TILE_CFG_RING 0 7) = false) ∧ (y0.key = tkey 0 0) ∧ (z2.hasBad (tkey 0 0) 64 = false) ∧
      (z2.streamSt 0 7 = 5) ∧ (z2.mayFire 0 = false) ∧ ((z2.tile 0).spillQ (z2.rf (TILE_CFG_QD 0 7)) = [])) ∧ (((a3
      [(TILE_QBIND_DEPTH 0 2, 1)]).rb (TILE_CFG_RING 0 7) = true) ∧ ((a3 [(TILE_QBIND_DEPTH 0 2, 1)]).tileLive 0 =
      true) ∧ ((a3 [(TILE_QBIND_DEPTH 0 2, 1)]).streamSt 0 7 = 1) ∧ (0 < (a3 [(TILE_QBIND_DEPTH 0 2, 1)]).slotBytes 0
      7) ∧ (((((a3 [(TILE_QBIND_DEPTH 0 2, 1)]).tile 0).stream 7).notified + 1) * (a3 [(TILE_QBIND_DEPTH 0 2,
      1)]).slotBytes 0 7 ≤ (((a3 [(TILE_QBIND_DEPTH 0 2, 1)]).tile 0).stream 7).landed) ∧ ((a3 [(TILE_QBIND_DEPTH
      0 2, 1)]).roomIn 0 ((a3 [(TILE_QBIND_DEPTH 0 2, 1)]).rf (TILE_CFG_NQ 0 7)) 1 = false)) ∧ (((a3
      [(TILE_QBIND_DEPTH 0 2, 2)]).rb (TILE_CFG_RING 0 7) = true) ∧ ((a3 [(TILE_QBIND_DEPTH 0 2, 2)]).tileLive 0 =
      true) ∧ ((a3 [(TILE_QBIND_DEPTH 0 2, 2)]).streamSt 0 7 = 1) ∧ (0 < (a3 [(TILE_QBIND_DEPTH 0 2, 2)]).slotBytes 0
      7) ∧ (((((a3 [(TILE_QBIND_DEPTH 0 2, 2)]).tile 0).stream 7).notified + 1) * (a3 [(TILE_QBIND_DEPTH 0 2,
      2)]).slotBytes 0 7 ≤ (((a3 [(TILE_QBIND_DEPTH 0 2, 2)]).tile 0).stream 7).landed) ∧ ((a3 [(TILE_QBIND_DEPTH
      0 2, 2)]).roomIn 0 ((a3 [(TILE_QBIND_DEPTH 0 2, 2)]).rf (TILE_CFG_NQ 0 7)) 1 = true) ∧ ((a3 [(TILE_QBIND_DEPTH 0
      2, 2)]).rf (TILE_POS_ITEM 0 7) < (a3 [(TILE_QBIND_DEPTH 0 2, 2)]).rf (TILE_COUNT_TOTAL 0 7))) := by
  decide +kernel

theorem test_StreamTransfers_3 :
    ((a3 []).rb (TILE_CFG_RING 0 7) = true) ∧ ((a3 []).tileLive 0 = true) ∧ ((((a3 []).tile 0).stream 7).returned <
      (((a3 []).tile 0).stream 7).notified) ∧ (((a3 []).tile 0).outQ ((a3 []).rf (TILE_CFG_RQ 0 7)) ≠ []) := by
  decide +kernel

theorem test_StreamHalts :
    ((((hlt y6 { : Part } []).at 1001).streamSt 0 7 = 3) ∧ (((((hlt y6 { : Part } []).at 1001).tile 0).stream
      7).postWait = true) ∧ (let s0 := (hlt y6 { : Part } []).at 1001; let n := s0.xpart 0; (s0.part n).halts = [])) ∧
      ((((hlt y6 y5 []).at 1001).streamSt 0 7 = 3) ∧ (((((hlt y6 y5 []).at 1001).tile 0).stream 7).postWait = true) ∧
      (let s0 := (hlt y6 y5 []).at 1001; let n := s0.xpart 0; let vpn := s0.rf (TILE_HALT_VA_VA 0 7) / 2 ^ 21; ((s0.part n).halts.any fun x => x.vpn == vpn) = false) ∧
      (let s0 := (hlt y6 y5 []).at 1001; let n := s0.xpart 0; 128 ≤ (s0.part n).halts.length) ∧
      (let s0 := (hlt y6 y5 []).at 1001; ((s0.tile 0).stream 7).postFull = false)) ∧ (((hlt y12 y11 []).reaches 0 0 =
      true) ∧ ((hlt y12 y11 []).pageReady (partPage 0 6) = true)) ∧ ((((hlt y12 y11 []).at 2000).writes 0 0 = true) ∧
      (((hlt y12 y11 []).at 2000).pageReady (partPage 0 6) = true)) ∧ ((7 < 8) ∧ (0 < 262144) ∧ ((z3.at 2000).streamSt
      0 7 = 3) ∧ ((((z3.at 2000).tile 0).stream 7).recheck = true) ∧ ((z3.at 2000).xlate ((z3.at 2000).xpart 0)
      ((z3.at 2000).rf (TILE_HALT_VA_VA 0 7)) = Xlate.hit 0) ∧ ((z3.at 2000).xpart 0 < 16)) ∧
      ((let s0 := z4.at 2001; s0.streamSt 0 7 = 3) ∧
      (let s0 := z4.at 2001; let limit := s0.rf (PSTR_HALT_LIMIT_MICROSECONDS (s0.xpart 0)); limit ≠ 0) ∧
      (let s0 := z4.at 2001; let x := (s0.tile 0).stream 7; x.haltTimed = false) ∧
      (let s0 := z4.at 2001; let x := (s0.tile 0).stream 7; let limit := s0.rf (PSTR_HALT_LIMIT_MICROSECONDS (s0.xpart 0)); x.haltAt + limit * 1000 < s0.time)) := by
  decide +kernel

theorem test_HostDma_1 :
    ((z5.writes 0 0 = true) ∧ (15 < 16) ∧ (z5.pageReady (partPage 0 1) = true)) ∧ ((z5.writes 0 0 = true) ∧ (15 <
      16) ∧ (z5.pageReady (partPage 0 1) = true) ∧
      (let s1 := z5.writeWord (partPage 0 1 + (264 + 32 * 15)) (65535#64).toNat (2 ^ 64 - 1); z5.rb (PQ_QCFG_EN 0 15) = true ∨ s1.rb (PQ_QCFG_EN 0 15) = false)) ∧
      ((z6.writes 0 0 = true) ∧ (15 < 16) ∧ (z6.pageReady (partPage 0 1) = true) ∧ (z6.rb (PQ_QCFG_EN 0 15) = false) ∧
      (let s1 := z6.writeWord (partPage 0 1 + (264 + 32 * 15)) (65535#64).toNat (2 ^ 64 - 1); s1.rb (PQ_QCFG_EN 0 15) = true)) ∧
      ((0 < 16) ∧ (15 < 16) ∧ (z7.rb (PQ_QCFG_EN 0 15) = true) ∧ (z7.rb (PQ_QHEAD_STOPPED 0 15) = false) ∧
      (z7.pageReady (partPage 0 1) = true) ∧ (z7.frozen = false) ∧ (z7.rf PWR_STATUS_STATE < 3) ∧ (z7.dmaOf 0 15 =
      []) ∧ (z7.rf (PQ_QHEAD_HEAD 0 15) % z7.pqSize 0 15 ≠ z7.rf (PQ_QTAIL_TAIL 0 15) % z7.pqSize 0 15) ∧ (z7.dmaOpen
      (BitVec.ofNat 64 (2 ^ 36)).toNat (bits (BitVec.ofNat 64 (64 + 2 ^ 32)).toNat 0 32) = true) ∧
      (let r := z7.dmaMove 0 15 (64#64).toNat (BitVec.ofNat 64 (2 ^ 36)).toNat (BitVec.ofNat 64 (64 + 2 ^ 32)).toNat (0#64).toNat 7 false Ecc.clean; dmaStops r.fst = false)) := by
  decide +kernel

theorem test_HostDma_2 :
    ((0 < 16) ∧ (15 < 16) ∧ (z7.rb (PQ_QCFG_EN 0 15) = true) ∧ (z7.rb (PQ_QHEAD_STOPPED 0 15) = false) ∧ (z7.pageReady
      (partPage 0 1) = true) ∧ (z7.frozen = false) ∧ (z7.rf PWR_STATUS_STATE < 3) ∧ (z7.dmaOf 0 15 = []) ∧ (z7.rf
      (PQ_QHEAD_HEAD 0 15) % z7.pqSize 0 15 ≠ z7.rf (PQ_QTAIL_TAIL 0 15) % z7.pqSize 0 15) ∧ (z7.dmaOpen (0#64).toNat
      (bits (64#64).toNat 0 32) = true) ∧
      (let r := z7.dmaMove 0 15 (1#64).toNat (0#64).toNat (64#64).toNat (0#64).toNat 7 false Ecc.clean; dmaStops r.fst = true)) ∧
      ((dmaBad 1 0 64 0 = true)) ∧ ((0 < 16) ∧ (15 < 16) ∧ ((dq { dma := [(15, [d0])] : Part } []).dmaOf 0 15 =
      [d0]) ∧ (d0.notified = true) ∧
      ((dq { dma := [(15, [d0])] : Part } []).frozen = false) ∧ (d0.irq = false)) ∧ ((z8.dmaOf 0 15 = [d1]) ∧ (d1.notified = false) ∧ (d1.sent = false) ∧
      (z8.frozen = false) ∧ (let t := tileAt (bits d1.w3 0 9) (bits d1.w3 9 9); let q := bits d1.w3 18 3; z8.rf (TILE_QBIND_KIND t q) = 2) ∧
      (let t := tileAt (bits d1.w3 0 9) (bits d1.w3 9 9); z8.tilePart t = some 0)) ∧ (((dq y9 []).dmaOf 0 15 = [d1]) ∧ (d1.notified = false) ∧
      (d1.sent = false) ∧ ((dq y9 []).frozen = false) ∧
      (let t := tileAt (bits d1.w3 0 9) (bits d1.w3 9 9); let q := bits d1.w3 18 3; (dq y9 []).rf (TILE_QBIND_KIND t q) ≠ 2)) := by
  decide +kernel

theorem test_SweepCommands :
    ((z9.writes 0 0 = true) ∧ (z9.pageReady (partPage 0 4) = true) ∧ ((z9.part 0).sweep = none ∧ (z9.rf
      (PSW_STATUS_STATE 0) = 0 ∨ z9.rf (PSW_STATUS_STATE 0) = 4 ∨ z9.rf (PSW_STATUS_STATE 0) = 8) ∧ z9.badGrid 0 =
      false ∧ z9.badLayout 0 = false)) ∧ ((z10.writes 0 0 = true) ∧ (z10.pageReady (partPage 0 4) = true) ∧ ((z10.part
      0).sweep = none ∧ (z10.rf (PSW_STATUS_STATE 0) = 0 ∨ z10.rf (PSW_STATUS_STATE 0) = 4 ∨ z10.rf (PSW_STATUS_STATE
      0) = 8) ∧ z10.badGrid 0 = false ∧ z10.badLayout 0 = false) ∧ (z10.rf (PSW_STATUS_STATE 0) = 4)) ∧ ((z9.writes 0
      0 = true) ∧ (z9.pageReady (partPage 0 4) = true) ∧ ((z9.part 0).sweep = none ∧ (z9.rf (PSW_STATUS_STATE 0) = 0 ∨
      z9.rf (PSW_STATUS_STATE 0) = 4 ∨ z9.rf (PSW_STATUS_STATE 0) = 8) ∧ z9.badGrid 0 = false ∧ z9.badLayout 0 =
      false) ∧ (z9.rf (PSW_STATUS_STATE 0) ≠ 4)) ∧ ((z11.writes 0 0 = true) ∧ (z11.pageReady (partPage 0 4) = true) ∧
      ((z11.part 0).sweep ≠ none)) ∧ ((z12.writes 0 0 = true) ∧ (z12.pageReady (partPage 0 4) = true) ∧ ((z12.part
      0).sweep = none) ∧ (z12.rf (PSW_STATUS_STATE 0) = 0 ∨ z12.rf (PSW_STATUS_STATE 0) = 4 ∨ z12.rf (PSW_STATUS_STATE
      0) = 8) ∧ (z12.badGrid 0 = true)) ∧ ((z11.writes 0 0 = true) ∧ (z11.pageReady (partPage 0 4) = true) ∧
      ((z11.part 0).sweep = some y14) ∧ (y14.done = false)) ∧ ((0 < 16) ∧ (((psw [(PSW_STATUS_STATE 0, 3)] (some y2)
      { : Tile }).part 0).sweep = some y2) ∧ (y2.done = true)) := by
  decide +kernel

theorem test_SweepEngines :
    ((z13.tilePart 0 = some 0) ∧ ((z13.part 0).sweep = some y14) ∧ (y14.done = false) ∧ (z13.inGrid 0 0 = true) ∧
      (z13.fenced 0 = false) ∧ (z13.plnState (plainOf 0) = 0) ∧ (z13.gated = false) ∧ (z13.sweepHeld 0 0 = false) ∧
      ((z13.eng 0).outbox = []) ∧ ((z13.eng 0).inbox = []) ∧ ((z13.eng 0).phase = 3) ∧ ((z13.holdsAll 0
      0 0 (z13.eng 0).round fun _ => true) = true)) ∧ ((z14.tilePart 0 = some 0) ∧ ((z14.part 0).sweep = none) ∧
      (((z14.tile 0).inQ (z14.rf (PSW_LAYOUT_QIN 0))).head? = some y13) ∧ (z14.inGrid 0 0 = true) ∧ (z14.fenced 0 =
      false) ∧ (z14.plnState (plainOf 0) = 0) ∧ (z14.gated = false)) ∧ ((z15.tilePart 0 = some 0) ∧
      ((z15.part 0).sweep = some { op := 2 }) ∧ (z15.inGrid 0 0 = true) ∧ (z15.fenced 0 = false) ∧
      (z15.plnState (plainOf 0) = 0) ∧ (z15.gated = false) ∧ (z15.sweepHeld 0 0 = false) ∧ ((z15.eng 0).outbox = []) ∧
      ((z15.eng 0).inbox = []) ∧ ((z15.eng 0).phase = 5) ∧ (z15.eccBad = [])) := by
  decide +kernel

end Sys2Proof.Tests.StreamsAndSweeps

set_option Elab.async false

namespace Sys2Proof.Tests.RepairWork
open Sys2Proof Sys2Proof.Machine

def o40 :=
  { hst [(PSW_GRID_W 0, 1), (PSW_GRID_H 0, 1), (PSW_LAYOUT_BASE_ROW 0, 0), (PSW_LAYOUT_QIN 0, 5), (PSW_LAYOUT_QOUT 0, 6)] with parts := [(0, { sweep := some { op := 2 } })], tiles := [(0, { sweep := { phase := 5 } })] }
def t63 : Nat := tileIn 63 63 63
def rp0 : Repair := { kinds := [.site 2 3], newMap := {}, phase := 1 }
def rps (r : Repair) (l : List (Fk × Nat)) : State :=
  { hst (l ++ [(MOD_STATUS_KEEPER_UP, 1), (PLN_STATE_STATE 63, 0), (PLN_STATE_REPAIR_PENDING 63, 1)]) with plains := [(63, { repair := some r })], tiles := [(t63, { failRows := [2047] })] }
def w41_1_1 := { rps rp0 [] with tiles := [] }
def w41_2_2 := { rp0 with phase := 2 }
def w41_3_3 := { rp0 with phase := 3 }
def w41_4_4 := { rp0 with phase := 5, copies := 61 }
def rp1 (l : List LostRange) : Repair := { rp0 with phase := 5, copies := 62, lost := l }
def lr : LostRange := { tile := t63, desk := false, first := 2047, last := 2047 }
/-- An image of one section with one record, which puts 5 into the desk of tile 0, whole; partition 0 was placed from it. -/
def proR : Nat := 1 * 2 ^ 128 + 1 * 2 ^ 144 + 1 * 2 ^ 160 + (4096 + 16 + 0xC000) * 2 ^ (8 * 0x18) + 4096 * 2 ^ (8 * 0x20) +
  (1 + 4096 * 2 ^ 64 + (16 + 0xC000) * 2 ^ 128) * 2 ^ (8 * 0x100)
def imgd : State :=
  { hst [(IMG_PCOPY_A_STATE 0, 3), (IMG_PCOPY_A_SLOT 0, 0)] with
      keeper := { coldSlot := [(0, 1)] }
      chest := { imgs := [(0, { plen := 4096, pro := proR, shards := [(0, 0xC000 * 2 ^ 16 + 5 * 2 ^ 128)], complete := true })] } }
def ld0 : LostRange := { tile := 0, desk := true, first := 0, last := 0 }
def w41_6_5 := { rp0 with phase := 6, back := 2 }
def w41_8_6 := { rp0 with phase := 7 }
def rp9 : Repair := { rp0 with phase := 4, kinds := [.bench] }
def w41_9_7 :=
  { rps rp9 [] with plains := [(63, { repair := some rp9, redundant := [((63 * 66 + 63) * 8 + 7, 8)] })] }
def cmd (q : Plain) (l : List (Fk × Nat)) : State :=
  { hst (l ++ [(MOD_STATUS_KEEPER_UP, 1), (PLN_STATE_STATE 63, 0), (hSTATUS_READY (plainPage 63 2), 1), (PART_GEOM_X0 0, 7), (PART_GEOM_Y0 0, 7)]) with plains := [(63, q)] }
def c1 := cmd { repair := some rp0 } []
def m2 : PMap :=
  { byp := [(63, [{ col := 1, field := true }, { col := 2, field := false }])], retired := [{ col := 0, field := true }, { col := 9, field := true }] }
def l8 : Lane := { edge := 3, link := 63, dir := 1, plane := 1, group := 8, lane := 67 }
def y1 : Lane := { edge := 3, link := 63, dir := 1, plane := 1, group := 8, lane := 67 }
def y2 : Plain := { testing := some (65, 65) }
def y3 : Plain := { map := m2 }
def y4 : Sweep := { op := 2 }
def z1 : State := rps (rp1 [lr]) []
def z3 : State := cmd { : Plain } []
def z4 : State := cmd y3 [(PLN_STATE_STATE 63, 3), (PART_STATE_STATE 0, 2)]
def z5 : State := cmd y3 [(PLN_STATE_STATE 63, 3), (PART_STATE_STATE 0, 1)]
def z6 : State := cmd y3 [(PLN_STATE_STATE 63, 3), (PART_STATE_STATE 0, 1), (PLN_FENCED 63 0, 1)]
def z6l : State := cmd { lostLinks := [(3, 63, 1)] } [(PLN_STATE_STATE 63, 2), (PART_STATE_STATE 0, 1)]
def z7 : State :=
  cmd { map := { lanes := List.replicate 4 (let __src := l8; { edge := __src.edge, link := __src.link, dir := __src.dir, plane := __src.plane, group := __src.group, lane := 1 : Lane }) : PMap } : Plain } []
def z8 : State := cmd { : Plain } [(REPR_CTRL_LANE_ERR_LIMIT 63, 2), (REPR_CTRL_AUTO_LANE 63, 1)]
def z9 : State := cmd { : Plain } [(REPR_CTRL_LANE_ERR_LIMIT 63, 0), (REPR_CTRL_AUTO_LANE 63, 1)]
def z10 : State :=
  cmd { map := { lanes := List.replicate 4 (let __src := l8; { edge := __src.edge, link := __src.link, dir := __src.dir, plane := __src.plane, group := __src.group, lane := 1 : Lane }) : PMap } : Plain } [(REPR_CTRL_LANE_ERR_LIMIT
  63, 1), (REPR_CTRL_AUTO_LANE 63, 1)]

def z11 : State := cmd { lanePend := [l8] } [(REPR_CTRL_AUTO_LANE 63, 1)]
def z12 : State := cmd { lanePend := [l8] } [(REPR_CTRL_AUTO_LANE 63, 0)]

theorem test_SweepEngines :
    (o40.tilePart 0 = some 0) ∧ ((o40.part 0).sweep = some y4) ∧ (y4.done = false) ∧ (o40.inGrid 0 0 = true) ∧
      (o40.fenced 0 = false) ∧ (o40.plnState (plainOf 0) = 0) ∧ (o40.gated = false) ∧ (o40.sweepHeld 0 0 = false) ∧
      ((o40.eng 0).outbox = []) ∧ ((o40.eng 0).inbox = []) ∧ ((o40.eng 0).phase = 5) ∧ (o40.eccBad =
      []) := by
  decide +kernel

theorem test_RepairSequence_1 :
    ((63 < 64) ∧ (w41_1_1.plnState 63 ≠ 4) ∧ (w41_1_1.rb MOD_STATUS_KEEPER_UP = true) ∧ ((w41_1_1.plain 63).repair =
      some rp0) ∧ (rp0.phase = 1) ∧ (rp0.kinds ≠ []) ∧ ((w41_1_1.plain 63).waitFence = []) ∧ (w41_1_1.failingTiles 63
      = [])) ∧ ((((rps w41_2_2 []).plain 63).repair = some w41_2_2) ∧ (w41_2_2.phase = 2) ∧ (((rps w41_2_2 []).at 9).quiesced
      63 = true) ∧ ((rps w41_2_2 []).plnState 63 ≠ 4)) ∧ ((((rps w41_3_3 []).plain 63).repair = some w41_3_3) ∧
      (w41_3_3.phase = 3)) ∧ ((((rps w41_4_4 []).plain 63).repair = some w41_4_4) ∧ (w41_4_4.phase = 4 ∨ w41_4_4.phase
      = 5) ∧ (w41_4_4.phase = 4 → ((rps w41_4_4 []).plain 63).waitFence = []) ∧
      (w41_4_4.copies < (rps w41_4_4 []).copiesIn 63 w41_4_4) ∧ (∀ u ∈ (rps w41_4_4 []).copyTiles 63
      w41_4_4 w41_4_4.copies, ((rps w41_4_4 []).tile u).routerBad = false)) ∧ (((((rps (rp1 []) []).at 5).plain
      63).repair = some (rp1 [])) ∧ ((rp1 []).phase = 4 ∨ (rp1 []).phase = 5) ∧ (((rps (rp1 []) []).at 5).copiesIn 63 (rp1
      []) ≤ (rp1 []).copies) ∧ ((rp1 []).kinds.contains RepairKind.bench = false ∨ ((rps (rp1 []) []).at 5).failingTiles 63 =
      []) ∧ ((rp1 []).lost = [])) ∧ ((((z1.at 5).plain 63).repair = some (rp1 [lr])) ∧ ((rp1 [lr]).phase = 4 ∨ (rp1 [lr]).phase = 5) ∧
      ((rp1 [lr]).phase = 4 → ((z1.at 5).plain 63).waitFence = []) ∧ ((z1.at 5).copiesIn 63 (rp1 [lr]) ≤ (rp1 [lr]).copies) ∧
      ((rp1 [lr]).kinds.contains RepairKind.bench = false ∨ (z1.at 5).failingTiles 63 = []) ∧ ((rp1 [lr]).lost = [lr])) ∧
      (([w41_1_1, rps w41_2_2 [], rps w41_3_3 [], rps w41_4_4 [], (rps (rp1 []) []).at 5, z1.at 5, rps w41_6_5 [], rps w41_8_6 [], rps rp9 [],
        w41_9_7].all fun s => !s.frozen) = true) := by
  decide +kernel

theorem test_RepairSequence_2 :
    ((z1.imageParts lr.tile = []) ∧ (lr.first ≤ lr.last)) ∧ ((imgd.imageParts ld0.tile = [(0, 0xC000, 5)]) ∧ (ld0.desk = true) ∧
      (5 < 2 ^ (8 * 0xC000))) ∧ ((63 < 64) ∧
      (((rps w41_6_5 []).plain 63).repair = some w41_6_5) ∧ (w41_6_5.phase = 6) ∧ (w41_6_5.reset = false) ∧
      (w41_6_5.tiles = [])) ∧ ((t63 < 262144)) ∧ ((((rps w41_8_6 []).plain 63).repair = some w41_8_6) ∧ (w41_8_6.phase
      = 7)) ∧ ((((rps rp9 []).plain (plainOf t63)).repair = some rp9) ∧ (rp9.phase = 4 ∨ rp9.phase = 5) ∧
      (rp9.kinds.contains RepairKind.bench = true) ∧ (((rps rp9 []).tile t63).failRows.contains 2047 = true) ∧ ((rps
      rp9 []).eccBad = []) ∧ (let u := (rps rp9 []).redundantUsed t63 2047; u.snd < 8)) ∧ (((w41_9_7.plain (plainOf
      t63)).repair = some rp9) ∧ (rp9.phase = 4 ∨ rp9.phase = 5) ∧ (rp9.kinds.contains RepairKind.bench = true) ∧
      ((w41_9_7.tile t63).failRows.contains 2047 = true) ∧ (w41_9_7.eccBad = []) ∧
      (let u := w41_9_7.redundantUsed t63 2047; 8 ≤ u.snd)) := by
  decide +kernel

theorem test_RepairCommands_1 :
    ((63 < 64) ∧ (65 < 128) ∧ (c1.pf0Writes 0 = true) ∧ (c1.pageReady (plainPage 63 2) = true) ∧ (c1.reprBusy 63 =
      some 4)) ∧ ((63 < 64) ∧ (66 < 128) ∧ (0 < 128) ∧ (z3.pf0Writes 0 = true) ∧ (z3.pageReady (plainPage 63 2) =
      true) ∧ (z3.reprBusy 63 = none) ∧ (z3.plnState 63 ≠ 4) ∧ (65 < 66 ∨ 65 < 0) ∧ (z3.plnLevel 63 ≠ 3)) ∧ ((63 <
      64) ∧ (63 < 128) ∧ (0 < 128) ∧ (z3.pf0Writes 0 = true) ∧ (z3.pageReady (plainPage 63 2) = true) ∧ (z3.reprBusy
      63 = none) ∧ (z3.plnState 63 ≠ 4) ∧ (63 ≤ 65) ∧ (0 ≤ 65) ∧ ((z3.plain 63).map.logical 63 0 ≠ none) ∧ (((z3.plain
      63).map.bypOf 0).length < 2) ∧ ((z3.plain 63).map.mapped 0 = true) ∧ ((z3.plain 63).map.retired.length < 2) ∧
      (z3.plnLevel 63 ≠ 3)) ∧ ((63 < 64) ∧ (63 < 128) ∧ (z4.pf0Writes 0 = true) ∧ (z4.pageReady (plainPage 63 2) =
      true) ∧ (z4.reprBusy 63 = none) ∧ (z4.plnState 63 ≠ 4) ∧ (63 ≤ 65) ∧ ((z4.plain 63).map.logical 63 63 ≠ none) ∧
      (2 ≤ ((z4.plain 63).map.bypOf 63).length) ∧ ((z4.plain 63).map.mapped 63 = true) ∧ (2 ≤ (z4.plain
      63).map.retired.length) ∧ (z4.plnLevel 63 = 3)) := by
  decide +kernel

theorem test_RepairCommands_2 :
    ((63 < 64) ∧ (1 < 128) ∧ (63 < 128) ∧ (z5.pf0Writes 0 = true) ∧ (z5.pageReady (plainPage 63 2) = true) ∧
      (z5.reprBusy 63 = none) ∧ (z5.plnState 63 ≠ 4) ∧ (1 ≤ 65) ∧ (63 ≤ 65) ∧ ((z5.plain 63).map.logical 1 63 =
      none) ∧ ((z5.plain 63).map.mapped 63 = true) ∧ (2 ≤ (z5.plain 63).map.retired.length) ∧ ((z5.plain
      63).map.bypassed 63 1 = true ∨ (z5.plain 63).map.rowRetired 63 = true) ∧ (z5.plnLevel 63 = 3) ∧ (∀ (n : Nat),
      z5.plainPart 63 = some n → z5.quietPart n = true) ∧ ((z5.plain 63).lostLinks = []) ∧ (z5.fencedCleared 63 =
      true)) ∧ ((63 < 64) ∧ (1 < 128) ∧ (63 < 128) ∧ (z6.pf0Writes 0 = true) ∧ (z6.pageReady (plainPage 63 2) =
      true) ∧ (z6.reprBusy 63 = none) ∧ (z6.plnState 63 ≠ 4) ∧ (1 ≤ 65) ∧ (63 ≤ 65) ∧ ((z6.plain 63).map.logical 1 63
      = none) ∧ ((z6.plain 63).map.mapped 63 = true) ∧ (2 ≤ (z6.plain 63).map.retired.length) ∧ ((z6.plain
      63).map.bypassed 63 1 = true ∨ (z6.plain 63).map.rowRetired 63 = true) ∧ (z6.plnLevel 63 = 3) ∧ (∀ (n : Nat),
      z6.plainPart 63 = some n → z6.quietPart n = true) ∧ (z6.fencedCleared 63 = false)) ∧ ((z6l.pf0Writes 0 = true) ∧ (z6l.pageReady (plainPage 63 2) = true) ∧
      (z6l.reprBusy 63 = none) ∧ (z6l.plnState 63 ≠ 4) ∧ (∀ (n : Nat), z6l.plainPart 63 = some n → z6l.quietPart n = true) ∧
      ((z6l.plain 63).lostLinks ≠ [])) ∧ ((63 < 64) ∧ (3 < 4) ∧ (1 <
      2) ∧ (8 < 9) ∧ (67 < 68) ∧ (z3.pf0Writes 0 = true) ∧ (z3.pageReady (plainPage 63 2) = true) ∧ (z3.reprBusy 63 =
      none) ∧ (z3.plnState 63 ≠ 4) ∧ (let l := y1; (z3.plain 63).map.lanes.contains l = false) ∧
      ((z3.plain 63).map.failed 3 63 1 1 8 < 4)) := by
  decide +kernel

theorem test_RepairCommands_3 :
    ((63 < 64) ∧ (3 < 4) ∧ (1 < 2) ∧ (8 < 9) ∧ (67 < 68) ∧ (z7.pf0Writes 0 = true) ∧ (z7.pageReady (plainPage 63 2) =
      true) ∧ (z7.reprBusy 63 = none) ∧ (z7.plnState 63 ≠ 4) ∧
      (let l := y1; (z7.plain 63).map.lanes.contains l = false) ∧ (4 ≤ (z7.plain 63).map.failed 3 63 1 1 8)) ∧
      ((((cmd y2 []).plain 63).testing = some (65, 65))) ∧ ((63 < 64)) := by
  decide +kernel

theorem test_LanesAndHardware :
    ((63 < 64) ∧ (3 < 4) ∧ (1 < 2) ∧ (z3.plnState 63 ≠ 4) ∧ ((z3.plain 63).lostLinks.contains (3, 63, 1) = false)) ∧ ((63 <
      64) ∧ (3 < 4) ∧ (1 < 2) ∧ (z3.plnState 63 ≠ 4) ∧ ((z3.plain 63).lostLinks.contains (3, 63, 1) = false) ∧ (8 < 9) ∧ (67 <
      68)) ∧ ((63 < 64) ∧ (l8.edge < 4) ∧ ((z8.plain 63).map.lanes.contains l8 = false) ∧ ((z8.plain 63).lanePend.contains l8 = false) ∧
      (let r := (z8.plain 63).laneError l8 z8.time; r.snd < max 1 (z8.rf (REPR_CTRL_LANE_ERR_LIMIT 63)))) ∧
      ((63 < 64) ∧ (l8.edge < 4) ∧ ((z9.plain 63).map.lanes.contains l8 = false) ∧ ((z9.plain 63).lanePend.contains l8 = false) ∧
      (let r := (z9.plain 63).laneError l8 z9.time; max 1 (z9.rf (REPR_CTRL_LANE_ERR_LIMIT 63)) ≤ r.snd) ∧
      (let r := (z9.plain 63).laneError l8 z9.time; r.fst.groupFailed l8 < 4)) ∧ ((63 < 64) ∧ (l8.edge < 4) ∧ ((z10.plain 63).map.lanes.contains l8 = false) ∧ ((z10.plain 63).lanePend.contains l8 = false) ∧
      (let r := (z10.plain 63).laneError l8 z10.time; max 1 (z10.rf (REPR_CTRL_LANE_ERR_LIMIT 63)) ≤ r.snd) ∧
      (let r := (z10.plain 63).laneError l8 z10.time; 4 ≤ r.fst.groupFailed l8)) ∧ (((z11.plain 63).lanePend = [l8]) ∧ (z11.rb (REPR_CTRL_AUTO_LANE 63) = true)) ∧
      (((z12.plain 63).lanePend = [l8]) ∧ (z12.rb (REPR_CTRL_AUTO_LANE 63) = false)) ∧ ((3 ≤ 3) ∧ (z3.plnState (plainOf t63) ≠ 4) ∧ (3 ≠
      2)) ∧ ((2 ≤ 3) ∧ (z3.plnState (plainOf t63) ≠ 4) ∧ (2 = 2)) := by
  decide +kernel

end Sys2Proof.Tests.RepairWork

set_option Elab.async false

namespace Sys2Proof.Tests.PartnerLinks
open Sys2Proof Sys2Proof.Machine

def rec0 : Nat := 4095 + 7 * 2 ^ 32 + 8 * 2 ^ 64 + 0xABCD * 2 ^ 128
def bell : Packet :=
  { dst := 2 * 2 ^ 36, ty := 0, len := 8, ord := true, srcX := 0, srcY := 0, payload := 0xBFC0, loc := .west 0, part := 0 }
def led (p : Part) (l : List (Fk × Nat)) : State :=
  { hst (l ++ [(hSTATUS_READY (partPage 0 3), 1), (PLG_CAPACITY_RECORDS 0, 1), (PLG_CAPACITY_LATE_RESERVE 0, 0), (LDG_POOL_PAGES, 1), (PWR_STATUS_ARMED, 1), (sesE 4095 0, 1 + 7 * 2 ^ 1), (PRT_STATUS_LINK_UP 7, 1), (hSTATUS_READY pgSES, 1), (hSTATUS_READY pgLDG, 1)]) with parts := [(0, p)], time := 5000000 }
def bk : Packet :=
  { bell with dst := ((List.range 8).map fun sp => sp * 2 ^ 61 + 0x3110).find? (fun g => gSpace g == 2 && gModule g == 0 && gOff g == 0x3110) |>.getD 0 }
def w44_1_1 := { led {} [] with net := [bk] }
def sub0 : Sub := { tile := 0, units := 1, rq := 0, reply := false, bad := false, data := rec0 }
def w44_2_2 := { sub0 with bad := true }
def r0 : Rec :=
  { eses := 4095, kind := 0, item := 7, seq := 2 ^ 40, len := 8, payload := 3, time := 0, rel := some 0, born := 0 }
def ldp (r : Rec) (l : List (Fk × Nat)) := led { ledger := [r] } (l ++ [(sesE 4095 1, 1 * 2 ^ 32), (sesE 4095 4, 100 +
  2 ^ 32 * 150), (sesE 4095 5, 4)])
def w45_1_3 :=
  { ldp r0 [(sesE 4095 6, 1), (sesE 4095 7, 1)] with egr := [(4095, { tokens := 1 })], hops := [(hopKey 7 false 0, 0x1122)] }
def w45_1_4 := { ldp r0 [] with hops := [(hopKey 7 false 0, 0x1122)] }
def r1 : Rec := { r0 with sends := 1, rto := 100, lastSend := 4900000 }
def ackBody : Nat := 0x02014C50 + 1 * 2 ^ 64 + 2 ^ 40 * 2 ^ 128
def ack0 : Nat := ackBody + crc32c (bytesOf ackBody 24) * 2 ^ (8 * 24)
def shp (r b : Nat) := { led {} [(sesE 4095 6, r), (sesE 4095 7, b)] with shaperAt := 5000000 }
def quiet : List (Fk × Nat) := (PART_STATE_STATE 0, 1) :: (List.range 16).map fun n => (PART_STATE_STATE n, 1)
def y1 : Part := { subs := [sub0] }
def z1 : State := led y1 []
def z2 : State := led y1 [(PLG_CAPACITY_RECORDS 0, 0)]
def z3 : State :=
  led { subs := [let __src := sub0; { tile := __src.tile, units := __src.units, rq := __src.rq, reply := __src.reply, bad := true, data := __src.data : Machine.Sub }] : Part } []
def z4 : State := led { : Part } quiet

theorem test_LedgerRecords :
    ((w44_1_1.net = [bk]) ∧ (bk.loc = Loc.west 0) ∧ (gSpace bk.dst = 2) ∧ (gModule bk.dst = w44_1_1.modNum) ∧ (bk.via
      = none) ∧ (gOff bk.dst = 12560) ∧ (bk.ty = 0) ∧ (bk.len = 8) ∧ (w44_1_1.routerLive (tileAt bk.srcX bk.srcY) =
      true) ∧ (w44_1_1.frozen = false) ∧ (w44_1_1.pageReady (partPage bk.part 3) = true) ∧ (w44_1_1.eccBad = []) ∧
      (let addr := bits bk.payload 0 16; addr % 64 = 0) ∧
      (let addr := bits bk.payload 0 16; let units := bits bk.payload 16 2 + 1; addr + 64 * units ≤ 49152)) ∧ ((0 <
      16) ∧ ((z1.part 0).subs = [sub0]) ∧ (z1.frozen = false) ∧ (sub0.reply = false) ∧ (sub0.ok = true) ∧
      (let e := bits sub0.data 0 12; z1.egValid e = true) ∧ (let e := bits sub0.data 0 12; z1.egPart e = 0) ∧
      (z1.ledgerRoom 0 0 = true) ∧ (z1.rb PWR_STATUS_ARMED = true) ∧ (((z1.part 0).items.any
      fun i => i.num == bits sub0.data 32 32 && i.tainted) = false)) ∧ ((0 < 16) ∧ ((z2.part 0).subs = [sub0]) ∧
      (z2.frozen = false) ∧ (sub0.reply = false) ∧ (sub0.ok = true) ∧
      (let e := bits sub0.data 0 12; z2.egValid e = true) ∧ (let e := bits sub0.data 0 12; z2.egPart e = 0) ∧
      (z2.ledgerRoom 0 0 = false) ∧ (((z2.part 0).items.any fun i => i.num == bits sub0.data 32 32 && i.tainted) =
      false)) ∧ ((0 < 16) ∧ ((z3.part 0).subs = [w44_2_2]) ∧ (z3.frozen = false) ∧ (w44_2_2.reply = false) ∧
      (let e := bits w44_2_2.data 0 12; w44_2_2.ok = false ∨ z3.egValid e = false ∨ z3.egPart e ≠ 0)) := by
  decide +kernel

theorem test_LdpAndShapers_1 :
    (let s1 := ((ldp r0 []).at 5000001).refillShapers;
        s1.ldpOpen 4095 = true ∧ s1.ldpPick 4095 = some (0, r0) ∧ s1.egMac 4095 = none) ∧
      (let s1 := (w45_1_3.at 5000001).refillShapers;
        s1.ldpOpen 4095 = true ∧ s1.ldpPick 4095 = some (0, r0) ∧ s1.egMac 4095 = some 0x1122 ∧ w45_1_3.egRate 4095 ≠ 0) ∧
      (let s1 := (w45_1_4.at 5000001).refillShapers;
        s1.ldpOpen 4095 = true ∧ s1.ldpPick 4095 = some (0, r0) ∧ s1.egMac 4095 = some 0x1122 ∧ w45_1_4.egRate 4095 = 0) ∧
      (let s1 := ((ldp r0 [(PRT_STATUS_LINK_UP 7, 0)]).at 5000001).refillShapers; s1.ldpOpen 4095 = false) ∧
      ((let s1 := (ldp r1 []).at 5000000; List.find? (fun x => x.snd.seq == 2 ^ 40 && decide (0 < x.snd.sends) && !x.snd.again) (s1.recsOf 4095) = some (0, r1)) ∧
      (let s1 := (ldp r1 []).at 5000000; r1.lastSend + r1.rto * 1000 ≤ s1.time)) ∧ (((ldp r1 []).rb
      MOD_STATUS_BACKUP_ACTIVE = false) ∧ ((ldp r1 []).rb (PRT_STATUS_LINK_UP 7) = true) ∧ ((ldp r1 []).ackOk 4095 7 0
      0 0 28 ack0 = true) ∧ (bits ack0 64 16 = 1)) ∧ (((ldp r1 []).rb MOD_STATUS_BACKUP_ACTIVE = false) ∧ ((ldp r1
      []).rb (PRT_STATUS_LINK_UP 7) = true) ∧ ((ldp r1 []).ackOk 4095 7 0 0 0 28 (ack0 + 2 ^ 200) = false)) ∧ ((0 <
      16) ∧ (List.find? (fun x => x.snd.seq == 2 ^ 40) ((ldp r1 []).recsOf 4095) = some (0, r1))) ∧
      ((let s1 := (ldp r1 []).at 5000000; s1.egValid 4095 = true) ∧
      (let s1 := (ldp r1 []).at 5000000; let limit := bits (s1.rf (sesE 4095 5)) 0 32; limit ≠ 0) ∧
      (let s1 := (ldp r1 []).at 5000000; (s1.egre 4095).silent = false) ∧
      (let s1 := (ldp r1 []).at 5000000; let limit := bits (s1.rf (sesE 4095 5)) 0 32; ((s1.recsOf 4095).any fun x => decide (x.snd.born + limit * 1000000 < s1.time)) = true)) ∧
      (((shp 5 9).shaped = [4095]) ∧ (let s1 := (shp 5 9).at 5000999; (s1.time - s1.shaperAt) / 1000 = 0)) ∧
      (((shp 5 9).shaped = [4095]) ∧ (let s1 := (shp 5 9).at 5001000; (s1.time - s1.shaperAt) / 1000 ≠ 0)) := by
  decide +kernel

theorem test_LdpAndShapers_2 :
    ((4095 < 4096) ∧ ((shp 0 0).pf0Writes 0 = true) ∧ ((shp 0 0).pageReady pgSES = true) ∧ ((4095#64).toNat % 2 ^ 40 ≠
      0) ∧ ((shp 0 0).egBurst 4095 = 0) ∧ ((4095#64).toNat % 2 ^ 24 ≠ 0 ∨ (shp 0 0).egRate 4095 = 0)) ∧ ((4095 < 4096) ∧ ((shp 0 0).pf0Writes 0 = true) ∧ ((shp 0 0).pageReady pgSES =
      true) ∧ ((BitVec.ofNat 64 (2 ^ 40)).toNat % 2 ^ 40 = 0 ∨ (shp 0 0).egBurst 4095 ≠ 0) ∧ ((BitVec.ofNat 64 (2 ^
      40)).toNat % 2 ^ 24 ≠ 0 ∨ (shp 0 0).egRate 4095 = 0)) ∧ ((4095 < 4096) ∧ ((shp 1 1).pf0Writes 0 = true) ∧ ((shp
      1 1).pageReady pgSES = true) ∧ ((BitVec.ofNat 64 (2 ^ 24)).toNat % 2 ^ 40 = 0 ∨ (shp 1 1).egBurst 4095 ≠ 0) ∧
      ((BitVec.ofNat 64 (2 ^ 24)).toNat % 2 ^ 24 = 0) ∧ ((shp 1 1).egRate 4095 ≠ 0)) ∧
      ((z4.pf0Writes 0 = true) ∧ (z4.pageReady pgLDG = true) ∧ (z4.allQuiet = true) ∧ (bits (BitVec.ofNat 64 (128 * 2
      ^ 18 + 5)).toNat 18 8 ≤ 128) ∧ (z4.givenSlots ≤ bits (BitVec.ofNat 64 (128 * 2 ^ 18 + 5)).toNat 18 8 * 8192) ∧
      (z4.keepMost (bits (BitVec.ofNat 64 (128 * 2 ^ 18 + 5)).toNat 18 8) 16 z4.rf ≤
      48 * 2 ^ 30)) ∧ ((z4.writes 0 0 = true) ∧ (z4.pageReady (partPage 0 3) = true) ∧ (z4.quietPart 0 = true) ∧
      (z4.givenSlots - z4.rf (PLG_CAPACITY_RECORDS 0) + bits (8192#64).toNat 0 21 ≤ z4.poolSlots)) ∧ (((led { : Part }
      []).writes 0 0 = true) ∧ ((led { : Part } []).pageReady (partPage 0 3) = true) ∧ ((led { : Part } []).quietPart
      0 = false)) := by
  decide +kernel

end Sys2Proof.Tests.PartnerLinks

set_option Elab.async false

namespace Sys2Proof.Tests.Times
open Sys2Proof Sys2Proof.Machine

def stg (l : List (Fk × Nat)) : State := hst (l ++ [(hSTATUS_READY (partPage 15 2), 1), (hSTATUS_READY (partPage 15
  0), 1), (hSTATUS_READY (partPage 15 5), 1), (hSTATUS_READY pgSES, 1), (PTT_SEL_ENTRY 15, 1023)])
def pg5 : Nat := partPage 15 5
def sd (l : List (Fk × Nat)) : State :=
  { stg (l ++ [(PART_STATE_STATE 15, 1)]) with shd := [((PSTL_WINDOW_LOG2 15).key, 31)] }
def w46_6_1 := { sd [] with shd := [((PSTL_WINDOW_LOG2 15).key, 11)] }
def w46_8_2 :=
  { sd [] with applies := [{ part := 15, group := 3, pages := [(pg5, [((PSTL_WINDOW_LOG2 15).key, 31)])] }] }
def w0 (kind tb rel opens anchor : Nat) : Nat := kind + tb * 8 + rel * 64 + opens * 128 + 256 + anchor * 1024
def tt (p : Part) (l : List (Fk × Nat)) : State :=
  { hst (l ++ [(pttWord 0 1023 0, w0 1 7 0 0 0), (pttWord 0 1023 1, 5), (pttWord 0 1023 3, 7 + 3 * 256), (TBS_TB_STATUS_STATE 7, 1), (TBS_TB_CFG_MODE 7, 3), (TBS_TO_CFG_OWN_EN 7, 1), (TBS_TO_CFG_OWNER 7, 0), (hSTATUS_READY (partPage 0 2), 1)]) with parts := [(0, p)], tbs := [(7, { pos := 10, base := 900 })], time := 1000 }
def p1 (c : Option Nat) : Part := { rt := [(1023, { due := 5, armed := true, below := true, crossed := c })] }
def je : PttEntry :=
  { kind := 2, tb := 7, rel := false, opens := false, enable := true, anchor := 0, pos := 5, period := 0, arg := 511 + 511 * 512 + 7 * 2 ^ 18 + 0xFFF * 2 ^ 21 }
def i0 : Item := { num := 3, anchor := 0, pos := 1, crossed := [(1023, 950)] }
def w47_7_3 := { tt {} [] with outs := [(7, { active := true, ends := 1001 })] }
def tb1 (x : Tb) (l : List (Fk × Nat)) : State :=
  { hst (l ++ [(TBS_TB_CFG_MODE 7, 1), (TBS_TB_CFG_SRC_B 7, 6), (TBS_TB_STATUS_STATE 7, 1), (TBS_TB_CFG_FILTER 7, 2), (TBS_TB_CFG_Z_EN 7, 1), (TBS_TB_CFG_SRC_Z 7, 5), (TBS_TB_LOSS_ENC_TIMEOUT_US 7, 1), (TBS_TB_LOSS_STILL_OK 7, 0), (hSTATUS_READY pgTBS, 1), (TBS_QUERY_TB, 7)]) with tbs := [(7, x)], time := 1000000 }
def mz : List (Fk × Nat) := (List.range 7).map fun n => (TBS_TB_CFG_MODE n, 0)
def ptp (l : List (Fk × Nat)) : State := tb1 {} (l ++ [(TBS_PTP_CTRL_EN, 1), (TBS_PTP_CTRL_PORT, 7),
  (TBS_PTP_CTRL_DOMAIN, 3), (PRT_STATUS_LINK_UP 7, 1), (TBS_PTP_CTRL_STEP_LIMIT_US, 1)])
def hs : List Sample := [{ time := 20000, pos := 7 }, { time := 10000, pos := 4 }]
def y1 : Due := { pos := 5, rel := false, entry := 1023, item := none, cross := 900 }
def y2 : Tb := { quad := List.replicate 14 999999 }
def y3 : Sample := { time := 20000, pos := -4 }
def y4 : Sample := { time := 10000, pos := 7 }
def y5 : Sample := { time := 20000, pos := 7 }
def y6 : Tb := { pos := -2 ^ 47 + 256 }
def y7 : Part := { items := [i0] }
def y8 : Tb := { hist := hs }
def y9 : Tb := { pos := -5 }
def z1 : State := stg []
def z2 : State := sd [(hSTAGE_ARMED pg5, 1)]
def z3 : State := sd []
def z4 : State := sd [(PART_STATE_STATE 15, 2)]
def z5 : State := tt { : Part } []
def z6 : State := tt (p1 none) []
def z7 : State := tt { : Part } [(PART_STATE_STATE 0, 6)]
def z8 : State := tt { : Part } [(TILE_QBIND_KIND (tileAt 511 511) 7, 2)]
def z9 : State := tt y7 [(pttWord 0 1023 0, w0 1 7 1 0 0)]
def z10 : State := tb1 y6 mz
def z11 : State := tb1 y9 []
def z12 : State := tb1 y9 [(PART_STATE_STATE 0, 1)]
def z13 : State := tb1 y9 [(TBS_TB_LOSS_COAST_MS 7, 0)]
def z14 : State := tb1 y9 [(TBS_TB_LOSS_COAST_MS 7, 1)]
def z15 : State := tb1 y9 [(TBS_TB_STATUS_STATE 7, 2), (TBS_TB_LOSS_COAST_MS 7, 1)]
def z16 : State := ptp []
def z17 : State := ptp [(TBS_PTP_STATUS_STATE, 4), (TBS_PTP_CTRL_IPV6, 1), (TBS_PTP_CTRL_P2P, 1)]

theorem test_Staging_1 :
    ((15 < 16) ∧ (3 < 4) ∧ (z1.barUp 0 = true) ∧ (z1.frozen = false) ∧ (z1.pageReady (partPage 15 2) = true)) ∧ ((15 <
      16) ∧ (z1.barUp 0 = true) ∧ (z1.frozen = false) ∧ (z1.pageReady (partPage 15 0) = true)) ∧ ((inSessions 1052672
      = true) ∧ (sessionRate 1052672 = false) ∧ (1052672 % 8 = 0) ∧ (z1.barUp 0 = true) ∧ (z1.frozen = false) ∧
      (z1.pageReady pgSES = true)) ∧ ((z2.stageable 0 pg5 = true) ∧ ((BitVec.ofNat 64 (2 ^ 9 + 15)).toNat.testBit 9 =
      true) ∧ ((BitVec.ofNat 64 (2 ^ 9 + 15)).toNat.testBit 8 = false) ∧ (z2.inApply pg5 = false)) ∧ ((15 < 16) ∧ (5 <
      10) ∧ (z2.stageable 0 (partPage 15 5) = true) ∧ ((BitVec.ofNat 64 (2 ^ 8 + 15)).toNat.testBit 8 = true) ∧
      ((BitVec.ofNat 64 (2 ^ 8 + 15)).toNat.testBit 9 = false) ∧ (z2.armed (partPage 15 5) = true)) ∧ ((15 < 16) ∧ (5
      < 10) ∧ (z3.stageable 0 (partPage 15 5) = true) ∧ ((BitVec.ofNat 64 (2 ^ 8 + 15)).toNat.testBit 8 = true) ∧
      ((BitVec.ofNat 64 (2 ^ 8 + 15)).toNat.testBit 9 = false) ∧ (z3.armed (partPage 15 5) = false)) ∧
      ((stagedPages.contains pg5 = true) ∧ (z3.inApply pg5 = false) ∧
      (let s0 := z3.wf (hSTAGE_ARMED pg5) 1; let c := s0.commitCheck pg5 (s0.geomAfter (z3.stagePart pg5) (z3.rf (hSTAGE_GROUP pg5))); c = 0) ∧
      (let s0 := z3.wf (hSTAGE_ARMED pg5) 1; s0.quietPart (z3.stagePart pg5) = true) ∧
      (let s0 := z3.wf (hSTAGE_ARMED pg5) 1; List.filter (fun q => !s0.inApply q) (s0.groupPages (z3.stagePart pg5) (z3.rf (hSTAGE_GROUP pg5))) = [pg5])) := by
  decide +kernel

theorem test_Staging_2 :
    ((stagedPages.contains pg5 = true) ∧ (z4.inApply pg5 = false) ∧
      (let s0 := z4.wf (hSTAGE_ARMED pg5) 1; let c := s0.commitCheck pg5 (s0.geomAfter (z4.stagePart pg5) (z4.rf (hSTAGE_GROUP pg5))); c = 0) ∧
      (let s0 := z4.wf (hSTAGE_ARMED pg5) 1; s0.quietPart (z4.stagePart pg5) = false)) ∧ ((stagedPages.contains pg5 =
      true) ∧ (w46_6_1.inApply pg5 = false) ∧
      (let s0 := w46_6_1.wf (hSTAGE_ARMED pg5) 1; let c := s0.commitCheck pg5 (s0.geomAfter (w46_6_1.stagePart pg5) (w46_6_1.rf (hSTAGE_GROUP pg5))); c ≠ 0)) ∧
      ((risesFrom 0 [((PSTL_WINDOW_LOG2 15).key, 31)] = true)) ∧ ((w46_8_2.applies =
      [{ part := 15, group := 3, pages := [(pg5, [((PSTL_WINDOW_LOG2 15).key, 31)])] : Apply }])) := by
  decide +kernel

theorem test_Timetable_1 :
    (((z5.at 1001).serves 0 = true) ∧ (let s1 := (z5.at 1001).noteAll 0; firstDue (s1.dues 0) = none)) ∧ (((z6.at
      1001).serves 0 = true) ∧ (firstDue (((z6.at 1001).noteAll 0).dues 0) = some y1)) ∧ ((firstDue
      [{ pos := 5, rel := true, entry := 1023, item := none, cross := 900 : Due }, y1] = some y1)) ∧ ((0 < 16) ∧
      (y1.entry < 1024) ∧ (y1.item = none) ∧ (((tt (p1 (some 900)) []).ptt 0 y1.entry).opens = false) ∧ (((tt (p1
      (some 900)) []).ptt 0 y1.entry).kind = 1) ∧ (((tt (p1 (some 900)) []).ptt 0 y1.entry).period = 0)) ∧
      ((let o := bits (7 + 65535 * 256) 0 3; z5.owns 0 o = true) ∧
      (let o := bits (7 + 65535 * 256) 0 3; (sget { : Pulse } z5.outs o).active = false)) ∧
      ((let o := bits (7 + 65535 * 256) 0 3; z5.owns 1 o = false)) ∧ ((z7.pst 0 = 3 ∨ z7.pst 0 = 4 ∨ z7.pst 0 = 6)) ∧
      ((z5.pst 0 = 2 ∨ z5.pst 0 = 5 ∨ z5.pst 0 = 7) ∧
      (let t := z5.jobTile 0 je.arg; let q := bits je.arg 18 3; z5.rf (TILE_QBIND_KIND t q) ≠ 2)) ∧ ((z8.pst 0 = 2 ∨
      z8.pst 0 = 5 ∨ z8.pst 0 = 7) ∧
      (let t := z8.jobTile 0 je.arg; let q := bits je.arg 18 3; z8.rf (TILE_QBIND_KIND t q) = 2)) := by
  decide +kernel

theorem test_Timetable_2 :
    ((((z6.at 1001).noteCrossPart (z6.ptt 0 1023).tb 0).serves 0 = true) ∧ ((z6.ptt 0 1023).on = true) ∧ ((z6.ptt 0
      1023).kind = 1) ∧ (((z6.at 1001).noteCrossPart (z6.ptt 0 1023).tb 0).owns 0 (bits (z6.ptt 0 1023).arg 0 3) =
      true) ∧ (((z6.at 1001).noteCrossPart (z6.ptt 0 1023).tb 0).rf (TBS_TB_STATUS_STATE (z6.ptt 0 1023).tb) ≠ 3) ∧
      ((z6.ptt 0 1023).rel = false) ∧ ((((z6.at 1001).noteCrossPart (z6.ptt 0 1023).tb 0).ert 0 1023).crossed ≠
      none) ∧ ((((z6.at 1001).noteCrossPart (z6.ptt 0 1023).tb 0).ert 0 1023).started = false)) ∧ ((((z9.at
      1001).noteCrossPart (z9.ptt 0 1023).tb 0).serves 0 = true) ∧ ((z9.ptt 0 1023).on = true) ∧ ((z9.ptt 0 1023).kind
      = 1) ∧ (((z9.at 1001).noteCrossPart (z9.ptt 0 1023).tb 0).owns 0 (bits (z9.ptt 0 1023).arg 0 3) = true) ∧
      (((z9.at 1001).noteCrossPart (z9.ptt 0 1023).tb 0).rf (TBS_TB_STATUS_STATE (z9.ptt 0 1023).tb) ≠ 3) ∧ ((z9.ptt 0
      1023).rel = true) ∧ (((z9.at 1001).noteCrossPart (z9.ptt 0 1023).tb 0).item 0 3 = some i0) ∧ (sget? i0.crossed
      1023 ≠ none) ∧ (i0.done.contains 1023 = false) ∧ (i0.started.contains 1023 = false)) ∧ (((sget { : Pulse }
      w47_7_3.outs 7).active = true) ∧ ((sget { : Pulse } w47_7_3.outs 7).ends ≤ max w47_7_3.time 1001)) ∧ ((z5.writes
      0 0 = true) ∧ (z5.pageReady (partPage 0 2) = true) ∧ ((z5.ptt 0 (bits (1023#64).toNat 0 10)).on = true) ∧
      ((z5.ptt 0 (bits (1023#64).toNat 0 10)).rel = false)) := by
  decide +kernel

theorem test_Timebases_1 :
    ((7 < 8) ∧ (z10.rb MOD_STATUS_BACKUP_ACTIVE = false) ∧ (1 < z10.rf (TBS_TB_CFG_FILTER 7))) ∧ ((7 < 8) ∧ (z10.rb
      MOD_STATUS_BACKUP_ACTIVE = false) ∧ (z10.rf (TBS_TB_CFG_FILTER 7) ≤ 2) ∧ (z10.rf (TBS_TB_CFG_MODE 7) = 1) ∧
      (z10.rf (TBS_TB_STATUS_STATE 7) = 1) ∧ (z10.rf (TBS_TB_CFG_SRC_B 7) ≠ 7) ∧ (∀ (m : Nat), m < 8 → m ≠ 7 → z10.rf
      (TBS_TB_CFG_MODE m) = 0) ∧ (-2 ^ 47 + 256 ≤ (z10.tb 7).pos) ∧ ((z10.tb 7).pos < 2 ^ 47 - 256)) ∧ (((tb1 y2
      []).rf (TBS_TB_CFG_MODE 7) = 1) ∧ ((List.filter (fun t => decide ((tb1 y2 []).time < t + 1000000)) ((tb1 y2
      []).tb 7).quad).length < 15)) ∧ ((z11.rf (TBS_TB_STATUS_STATE 7) = 1)) ∧ ((z15.rf (TBS_TB_STATUS_STATE 7) ≠ 1)) ∧ ((5 < 8) ∧ (7 < 8) ∧ (z11.rb MOD_STATUS_BACKUP_ACTIVE = false) ∧ (z11.rf
      (TBS_TB_CFG_FILTER 5) ≤ 65535) ∧ (z11.rf (TBS_TB_CFG_MODE 7) = 1 ∨ z11.rf (TBS_TB_CFG_MODE 7) = 2) ∧ (z11.rb
      (TBS_TB_CFG_Z_EN 7) = true) ∧ (z11.rf (TBS_TB_CFG_SRC_Z 7) = 5)) ∧ (((z11.at 1000000).mtime % 10000 = 0) ∧
      (z11.rb MOD_STATUS_BACKUP_ACTIVE = false)) ∧ ((7 < 8) ∧ (z12.rf (TBS_TB_STATUS_STATE 7) ≠ 0) ∧ (posClip
      (z12.tbRaw 7) = z12.tbRaw 7) ∧ (∀ (n : Nat), n < 16 → z12.pttFires n = false)) ∧ ((7 < 8) ∧ (z13.rb
      MOD_STATUS_BACKUP_ACTIVE = false) ∧ (let s1 := (z13.at 1000001).noteCross 7; s1.lossDue 7 = true) ∧
      (let s1 := (z13.at 1000001).noteCross 7; let s2 := (s1.irqPage pgTBS).raise 32771 pgTBS; s2.rf (TBS_TB_LOSS_COAST_MS 7) = 0)) := by
  decide +kernel

theorem test_Timebases_2 :
    ((7 < 8) ∧ (z14.rb MOD_STATUS_BACKUP_ACTIVE = false) ∧
      (let s1 := (z14.at 1000001).noteCross 7; s1.lossDue 7 = true) ∧
      (let s1 := (z14.at 1000001).noteCross 7; let s2 := (s1.irqPage pgTBS).raise 32771 pgTBS; s2.rf (TBS_TB_LOSS_COAST_MS 7) ≠ 0)) ∧
      ((7 < 8) ∧ (z15.rb MOD_STATUS_BACKUP_ACTIVE = false) ∧
      (let s1 := (z15.at 1000000).noteCross 7; s1.rf (TBS_TB_STATUS_STATE 7) = 2) ∧
      (let s1 := (z15.at 1000000).noteCross 7; (s1.tb 7).base + s1.rf (TBS_TB_LOSS_COAST_MS 7) * 1000000 ≤ s1.time)) ∧
      ((7 < 8) ∧ (∀ (n : Nat), n < 16 → (z11.part n).items = [])) ∧ ((z16.rb TBS_PTP_CTRL_EN = true) ∧ (z16.rf
      TBS_PTP_CTRL_PORT = 7) ∧ (z16.rf TBS_PTP_CTRL_DOMAIN = 3) ∧ (z16.rb (PRT_STATUS_LINK_UP 7) = true) ∧ (1 ≤ 3) ∧
      (3 ≤ 3) ∧ (z16.rb TBS_PTP_CTRL_IPV6 = false) ∧ (z16.rb TBS_PTP_CTRL_P2P = false) ∧
      (Int.natAbs 1000 ≤ z16.rf TBS_PTP_CTRL_STEP_LIMIT_US * 1000)) ∧ ((z17.rb TBS_PTP_CTRL_EN = true) ∧
      (z17.rf TBS_PTP_CTRL_PORT = 7) ∧ (z17.rf TBS_PTP_CTRL_DOMAIN = 3) ∧ (z17.rb TBS_PTP_CTRL_IPV6 = true) ∧
      (z17.rb TBS_PTP_CTRL_P2P = true) ∧ (z17.rb (PRT_STATUS_LINK_UP 7) = true) ∧ (1 ≤ 2 ∧ 2 < 3) ∧
      (Int.natAbs (-1000) ≤ z17.rf TBS_PTP_CTRL_STEP_LIMIT_US * 1000) ∧ (z17.rf TBS_PTP_STATUS_STATE = 4)) ∧ ((z16.rb
      TBS_PTP_CTRL_EN = true) ∧ (z16.rf TBS_PTP_CTRL_PORT = 7) ∧ (z16.rf TBS_PTP_CTRL_DOMAIN = 3) ∧ (z16.rb
      (PRT_STATUS_LINK_UP 7) = true) ∧ (1 ≤ 1) ∧ (1 ≤ 3) ∧ (z16.rf TBS_PTP_STATUS_STATE < 3) ∧ (z16.rf TBS_PTP_CTRL_STEP_LIMIT_US *
      1000 < (-1001).natAbs) ∧ (∀ (b : Nat), b < 8 → z16.rf (TBS_TB_CFG_MODE b) ≠ 5)) ∧ (((ptp [(TBS_PTP_STATUS_STATE,
      3)]).rf TBS_PTP_STATUS_STATE = 3)) ∧ (((tb1 y8 []).pf0Writes 0 = true) ∧ ((tb1 y8 []).pageReady pgTBS = true)) ∧
      ((y4.time ≤ 15000) ∧ (15000 ≤ y3.time) ∧ (y4.time < y3.time)) ∧ ((((tb1 y8 []).tb 7).hist = [y5,
      { time := 10000, pos := 4 : Sample }]) ∧ (y5.time + 100000 < 120001)) ∧ (((tb1 y8 []).pf0Writes 0 = true) ∧ (7 <
      8) ∧ ((tb1 y8 []).pageReady pgTBS = true)) := by
  decide +kernel

end Sys2Proof.Tests.Times

set_option Elab.async false

namespace Sys2Proof.Tests.PortsAndImages
open Sys2Proof Sys2Proof.Machine

def prt (l : List (Fk × Nat)) : State := hst (l ++ [(hSTATUS_READY (pgPRT 7), 1), (PRT_CFG_MODE 7, 3), (PRT_IPV4_ADDR
  7, 9), (sesI 0xFFF 0, 1 + 7 * 2 + 2 ^ 25), (sesI 0xFFF 1, 5), (sesI 0xFFF 6, 64 + 2 * 2 ^ 16), (PRT_STATUS_LINK_UP
  7, 1), (PRT_CFG_MTU 7, 9000)])
def d0 : Dgram :=
  { vid := none, ipv6 := false, srcIp := 0, srcUdp := 3, dstUdp := 5, len := 24 + 64, data := 0x00014B42 + 1 * 2 ^ 80 + 77 * 2 ^ 192 }
def dBad : Dgram := { d0 with len := 24 + 63 }
def w49_4_1 := { d0 with dstUdp := 6 }
def f0 (g : List (Nat × Nat)) : Frame := { seq := 3, key := 4, got := g, first := 800, seen := 900, mode := 1 }
def ing (f : Frame) : State := { prt [(sesI 0xFFF 7, 1)] with ing := [(0xFFF, { cur := some f, next := 4 })] }
def hd (c t : Nat) : Nat :=
  0x0A1A414943524159 + 2 * 2 ^ 64 + 0x4B * 2 ^ 80 + 2 * 2 ^ 96 + 1 * 2 ^ 128 + 1 * 2 ^ 144 + 1 * 2 ^ 160 + 4112 * 2 ^ (8
  * 0x18) + 4096 * 2 ^ (8 * 0x20) + 0x120 * 2 ^ (8 * 0x38) + 1 * 2 ^ (8 * 0x3C) + t * 2 ^ (8 * 0x44) + c * 2 ^ (8 *
  0xFC)
def sect : Nat := 1 + 4096 * 2 ^ 64 + 16 * 2 ^ 128
def shrd : Nat := 0x00000000 + 16 * 2 ^ 32
def body16 : Nat := 0x7
def tblCrc : Nat := crc32c (bytesOf sect 32 ++ bytesOf (shrd + crc32c (bytesOf body16 16)) 64)
def pro0 : Nat := hd (crc32c (bytesOf (hd 0 tblCrc) 0xFC)) tblCrc + sect * 2 ^ (8 * 0x100) + (shrd + crc32c (bytesOf
  body16 16)) * 2 ^ (8 * 0x120)
def img (k : Keeper) (c : Chest) (l : List (Fk × Nat)) : State :=
  { hst (l ++ [(hSTATUS_READY pgIMG, 1), (PART_STATE_STATE 0, 1), (IMG_CTRL_REQUIRE_SIG, 0), (IMG_LOAD_KIND, 1), (IMG_LOAD_PART, 0)]) with keeper := k, chest := c }
def ld : Load := { part := 0, warm := false, src := 0, reader := 0, copy := 0, slot := 255 }
def ld2 : Load := { ld with placing := true, slot := 0, tries := 3 }
def img2 (l : Load) (r : Nat) : State :=
  img { load := some l } { imgs := [(0, { plen := 4096, pro := pro0 })] } [(IMG_CTRL_SHARD_RETRY, r)]
def ld3 : Load := { ld2 with src := 1, conns := 1 }
def w50_5_2 := { ld3 with conns := 2 }
def ld4 : Load := { ld2 with got := 1, placed := true, zeroed := [0] }
def w50_6_3 := { ld4 with warm := true, copy := 1 }
def ld5 : Load := { ld2 with got := 1, placed := true }
def pt (st : Nat) (l : List (Fk × Nat)) : State := hst (l ++ [(hSTATUS_READY (partPage 15 0), 1), (PART_STATE_STATE
  15, st), (IMG_PCOPY_A_STATE 15, 3), (FLT_STATUS_HALTED, 0), (PART_DRAIN_LIMIT_MICROSECONDS 15, 1),
  (MOD_STATUS_READY, 1)])
def w51_3_4 :=
  { pt 3 [(PART_GEOM_X0 15, 7), (PART_GEOM_Y0 15, 7), (PART_GEOM_W 15, 1), (PART_GEOM_H 15, 1)] with net := [{ dst := State.reset.tileGlobal 262143 0, ty := 3, len := 8, ord := true, srcX := 511, srcY := 511, payload := 7, loc := .tile 262143, part := 15 }] }
def w51_5_5 := { pt 8 [] with pcie := { l0 := true, vfReset := [16] } }
def w51_6_6 := { pt 2 [] with pcie := { l0 := true, numVfs := 16, perst := false } }
def y1 : Chest := { imgs := [(0, { plen := 4096, pro := pro0, shards := [(0, body16)] : Stored })] }
def y2 : Payload := { key := 0, last := false, capture := none, pieces := [(0, 64, 77)] }
def y4 : Keeper := { load := some ld }
def y5 : Keeper := { peers := [(255, 0)] }
def y8 : Keeper := { peers := [(255, 0)], peerSlot := 1 }
def y6 : Keeper := { idle := true }
def y7 : Keeper := { idle := true, deferred := [(16, 0)] }
/-- An RTP session and datagrams of it: one line header of 54 bytes, and no version 2. -/
def dr : Dgram := { vid := none, ipv6 := false, srcIp := 0, srcUdp := 3, dstUdp := 5, len := 20 + 54, data := 0x80 + 54 * 2 ^ 120 + 77 * 2 ^ 160 }
def drBad : Dgram := { dr with data := 0 }
def zr : State := prt [(sesI 0xFFF 0, 1 + 7 * 2), (sesI 0xFFF 6, 64 + 2 * 2 ^ 16)]
def x9 : Ingress := { ext := some (2 ^ 32 - 1) }
def z1 : State := prt []
def z2 : State := prt [(PRT_STATUS_LINK_UP 7, 0)]
def z3 : State := ing (f0 [(64, 64), (0, 64)])
def z4 : State := img { : Keeper } { : Chest } []
def z5 : State := img { : Keeper } { : Chest } [(IMG_LOAD_KIND, 0)]
def z6 : State := img { : Keeper } { : Chest } [(PART_STATE_STATE 0, 2)]
def z7 : State := img y4 { : Chest } []
def z8 : State := img y4 { : Chest } [(IMG_HOST_CHUNKS_COUNT, 1)]
/-- No block of the store is free. -/
def z8f : State := { z8 with chest := { imgs := [(1, { blocks := 2000000 })] } }
def z9 : State := img2 ld2 3
def z10 : State := img y5 y1 [(IMG_CTRL_SHARD_RETRY, 1)]
def z11 : State := pt 1 []
def z12 : State := pt 5 []
def z13 : State := pt 7 []
def z14 : State := pt 2 [(MOD_STATUS_BACKUP_ACTIVE, 1)]
def z15 : State := pt 2 []
def z16 : State := { pt 1 [] with keeper := { idle := true, deferred := [(15, 1)] } }

theorem test_PortsAndSessions_1 :
    ((7 < 8) ∧ (z1.pageReady (pgPRT 7) = true) ∧ (z1.rf (PRT_CFG_MODE 7) ≠ 0 ∨ true = false) ∧ (z1.rb
      (PRT_STATUS_LINK_UP 7) = true)) ∧ ((7 < 8) ∧ (z1.pageReady (pgPRT 7) = true) ∧ (z1.rf (PRT_CFG_MODE 7) ≠ 0 ∨
      false = false) ∧ (z1.rb (PRT_STATUS_LINK_UP 7) = true) ∧ (false = false)) ∧ ((7 < 8) ∧ (z2.pageReady (pgPRT 7) =
      true) ∧ (z2.rf (PRT_CFG_MODE 7) ≠ 0 ∨ true = false) ∧ (z2.rb (PRT_STATUS_LINK_UP 7) = false) ∧ (true = true)) ∧
      ((z1.pf0Writes 0 = true) ∧ (7 < 8) ∧ (z1.pageReady (pgPRT 7) = true)) ∧ ((7 < 8) ∧ (z1.rb (PRT_STATUS_LINK_UP 7)
      = true) ∧ (9000 ≤ z1.rf (PRT_CFG_MTU 7)) ∧ (9 = z1.rf (PRT_IPV4_ADDR 7))) ∧ ((7 < 8) ∧ (z1.rb
      (PRT_STATUS_LINK_UP 7) = true) ∧ (9000 ≤ z1.rf (PRT_CFG_MTU 7)) ∧ (8 ≠ z1.rf (PRT_IPV4_ADDR 7))) ∧ ((7 < 8) ∧
      (z1.rb (PRT_STATUS_LINK_UP 7) = true) ∧ (z1.rb MOD_STATUS_BACKUP_ACTIVE = false)) ∧ ((7 < 8) ∧ (z1.rb
      (PRT_STATUS_LINK_UP 7) = true) ∧ (z1.rb MOD_STATUS_BACKUP_ACTIVE = false) ∧
      (let s1 := z1.at 1000; let hit := List.find? (s1.matches_ 7 w49_4_1) (s1.sesListed [] 1052672); hit = none)) ∧
      ((7 < 8) ∧ (z1.rb (PRT_STATUS_LINK_UP 7) = true) ∧ (z1.rb MOD_STATUS_BACKUP_ACTIVE = false) ∧ (List.find?
      ((z1.at 1000).matches_ 7 dBad) ((z1.at 1000).sesListed [] 1052672) = some 4095) ∧ (let w6 := z1.rf (sesI 4095 6); let pay := if bits (z1.rf (sesI 4095 0)) 25 2 = 0 then rtpPayload dBad (bits w6 0 16) (bits w6 32 4) (bits w6 36 4) else linePayload dBad (bits w6 0 16); pay = none)) ∧
      ((7 < 8) ∧ (zr.rb (PRT_STATUS_LINK_UP 7) = true) ∧ (zr.rb MOD_STATUS_BACKUP_ACTIVE = false) ∧
      (List.find? ((zr.at 1000).matches_ 7 drBad) ((zr.at 1000).sesListed [] 1052672) = some 4095) ∧ (let w6 := zr.rf (sesI 4095 6); let pay := if bits (zr.rf (sesI 4095 0)) 25 2 = 0 then rtpPayload drBad (bits w6 0 16) (bits w6 32 4) (bits w6 36 4) else linePayload drBad (bits w6 0 16); pay = none)) ∧
      ((List.find? ((zr.at 1000).matches_ 7 dr) ((zr.at 1000).sesListed [] 1052672) = some 4095) ∧ (let w6 := zr.rf (sesI 4095 6); let pay := if bits (zr.rf (sesI 4095 0)) 25 2 = 0 then rtpPayload dr (bits w6 0 16) (bits w6 32 4) (bits w6 36 4) else linePayload dr (bits w6 0 16); pay ≠ none)) ∧
      ((x9.ext = some (2 ^ 32 - 1)) ∧ ((3 + 2 ^ 32 - (2 ^ 32 - 1) - 1) % 2 ^ 32 < 2 ^ 31)) ∧
      ((x9.ext = some (2 ^ 32 - 1)) ∧ (2 ^ 31 ≤ ((2 ^ 32 - 2) + 2 ^ 32 - (2 ^ 32 - 1) - 1) % 2 ^ 32)) := by
  decide +kernel

theorem test_PortsAndSessions_2 :
    ((7 < 8) ∧ (z1.rb (PRT_STATUS_LINK_UP 7) = true) ∧ (z1.rb MOD_STATUS_BACKUP_ACTIVE = false) ∧ (List.find? ((z1.at
      1000).matches_ 7 d0) ((z1.at 1000).sesListed [] 1052672) = some 4095) ∧ (let w6 := z1.rf (sesI 4095 6); let pay := if bits (z1.rf (sesI 4095 0)) 25 2 = 0 then rtpPayload d0 (bits w6 0 16) (bits w6 32 4) (bits w6 36 4) else linePayload d0 (bits w6 0 16); pay = some y2)) ∧ (((z1.ingr 4095).cur = none) ∧ (y2.last =
      false)) ∧ ((((prt [(PART_STATE_STATE 0, 1)]).ingr 4095).cur = none) ∧ (y2.last = false) ∧ ((prt
      [(PART_STATE_STATE 0, 1)]).noFrames 4095 = true)) ∧ (((z3.ingr 4095).cur = some (f0 [(64, 64), (0, 64)])) ∧ ((f0
      [(64, 64), (0, 64)]).dropped = false) ∧ ((f0 [(64, 64), (0, 64)]).broken = false) ∧
      (let whole := covered (f0 [(64, 64), (0, 64)]).got ((f0 [(64, 64), (0, 64)]).got.length + 1) 0; let total := bits (z3.rf (sesI 4095 6)) 0 16 * bits (z3.rf (sesI 4095 6)) 16 16; total ≤ whole) ∧
      ((f0 [(64, 64), (0, 64)]).mode ≤ 1) ∧ (bits (z3.rf (sesI 4095 0)) 27 2 = 0)) ∧ ((((ing (f0 [(64, 64), (0,
      63)])).ingr 4095).cur = some (f0 [(64, 64), (0, 63)])) ∧ ((f0 [(64, 64), (0, 63)]).dropped = false) ∧
      (let whole := covered (f0 [(64, 64), (0, 63)]).got ((f0 [(64, 64), (0, 63)]).got.length + 1) 0; let total := bits ((ing (f0 [(64, 64), (0, 63)])).rf (sesI 4095 6)) 0 16 * bits ((ing (f0 [(64, 64), (0, 63)])).rf (sesI 4095 6)) 16 16; (f0 [(64, 64), (0, 63)]).broken = true ∨ whole < total)) ∧
      ((((ing (f0 [])).ingr 4095).cur = some (f0 [])) ∧ ((ing (f0 [])).rb MOD_STATUS_BACKUP_ACTIVE = false) ∧ ((f0
      []).seen + bits ((ing (f0 [])).rf (sesI 4095 7)) 0 32 * 1000 ≤ max (ing (f0 [])).time 1900)) := by
  decide +kernel

theorem test_ImageLoads_1 :
    (((img y6 { : Chest } []).pf0Writes 0 = true) ∧ ((img y6 { : Chest } []).pageReady pgIMG = true) ∧ ((img y6
      { : Chest } []).keeper.idle = true)) ∧ ((z4.pf0Writes 0 = true) ∧ (z4.pageReady pgIMG = true) ∧ (z4.keeper.idle
      = false) ∧ (z4.keeper.load = none) ∧ (z4.keeper.reloads = [])) ∧ ((z5.pf0Writes 0 = true) ∧ (z5.pageReady pgIMG = true) ∧ (z5.keeper.idle =
      false) ∧ (z5.keeper.load = none) ∧ (z5.keeper.reloads = []) ∧ (z5.rf IMG_LOAD_KIND ≠ 1) ∧ (z5.rf IMG_LOAD_KIND ≠ 2)) ∧ ((z6.pf0Writes 0 =
      true) ∧ (z6.pageReady pgIMG = true) ∧ (z6.keeper.idle = false) ∧ (z6.keeper.load = none) ∧ (z6.keeper.reloads = []) ∧ (z6.rf IMG_LOAD_KIND
      = 1) ∧ (let n := z6.rf IMG_LOAD_PART; z6.imgArmed n 0 = false) ∧ (let n := z6.rf IMG_LOAD_PART; z6.pst n ≠ 1)) ∧
      ((z4.pf0Writes 0 = true) ∧ (z4.pageReady pgIMG = true) ∧ (z4.keeper.idle = false) ∧ (z4.keeper.load = none) ∧ (z4.keeper.reloads = []) ∧
      (z4.rf IMG_LOAD_KIND = 1) ∧ (z4.imgArmed (z4.rf IMG_LOAD_PART) 0 = false) ∧ (z4.pst (z4.rf IMG_LOAD_PART) = 1) ∧
      (z4.badReader (z4.rf IMG_LOAD_READER) = false) ∧ (List.find? (fun k => (sget? z4.chest.imgs k).isNone)
      (List.range 256) = some 0) ∧ (z4.rb SEC_STATUS_REKEYING = false)) ∧ ((z7.pf0Writes 0 = true) ∧ (z7.pageReady
      pgIMG = true) ∧ (z7.keeper.load = some ld) ∧ (ld.placing = false) ∧ ((z7.keeper.deferred.any (·.1 == 16)) = false)) ∧
      ((img y7 { : Chest } []).pf0Writes 0 = true ∧ (img y7 { : Chest } []).pageReady pgIMG = true ∧
        ((img y7 { : Chest } []).keeper.deferred.any (·.1 == 16)) = true) ∧ ((z7.keeper.load = some ld) ∧ (ld.placing =
      false) ∧
      (let s1 := z7.wfs [(IMG_IMAGE_INFO_DEVICE, proDevice pro0), (IMG_IMAGE_INFO_VERSION, proVersion pro0)]; let c := s1.imageCheck ld pro0 (z7.srcHolds ld.src); c ≠ 0)) := by
  decide +kernel

theorem test_ImageLoads_2 :
    ((z7.keeper.load = some ld) ∧ (ld.placing = false) ∧
      (let s1 := z7.wfs [(IMG_IMAGE_INFO_DEVICE, proDevice (pro0 + 1)), (IMG_IMAGE_INFO_VERSION, proVersion (pro0 + 1))]; let c := s1.imageCheck ld (pro0 + 1) (z7.srcHolds ld.src); c ≠ 0) ∧
      (strAt (pro0 + 1) 0 8 ≠ 727966072691638617)) ∧ ((z7.keeper.load = some ld) ∧ (ld.placing = false) ∧
      (let s1 := z7.wfs [(IMG_IMAGE_INFO_DEVICE, proDevice (hd (crc32c (bytesOf (hd 0 0 + 2 ^ 82) 252)) 0 + 2 ^ 82)), (IMG_IMAGE_INFO_VERSION, proVersion (hd (crc32c (bytesOf (hd 0 0 + 2 ^ 82) 252)) 0 + 2 ^ 82))]; let c := s1.imageCheck ld (hd (crc32c (bytesOf (hd 0 0 + 2 ^ 82) 252)) 0 + 2 ^ 82) (z7.srcHolds ld.src); c ≠ 0) ∧
      (strAt (hd (crc32c (bytesOf (hd 0 0 + 2 ^ 82) 252)) 0 + 2 ^ 82) 0 8 = 727966072691638617) ∧ (crc32c (bytesOf (hd
      (crc32c (bytesOf (hd 0 0 + 2 ^ 82) 252)) 0 + 2 ^ 82) 252) = strAt (hd (crc32c (bytesOf (hd 0 0 + 2 ^ 82) 252)) 0
      + 2 ^ 82) 252 4) ∧ (strAt (hd (crc32c (bytesOf (hd 0 0 + 2 ^ 82) 252)) 0 + 2 ^ 82) 10 2 ≠ 75)) := by
  decide +kernel

theorem test_ImageLoads_3 :
    ((z8.keeper.load = some ld) ∧ (ld.placing = false) ∧
      (let s1 := z8.wfs [(IMG_IMAGE_INFO_DEVICE, proDevice pro0), (IMG_IMAGE_INFO_VERSION, proVersion pro0)]; let c := s1.imageCheck ld pro0 (z8.srcHolds ld.src); c = 0) ∧
      (let s1 := z8.wfs [(IMG_IMAGE_INFO_DEVICE, proDevice pro0), (IMG_IMAGE_INFO_VERSION, proVersion pro0)]; imageBlocks (proTotal pro0) ≤ s1.imageFree)) ∧
      ((z8f.keeper.load = some ld) ∧ (let s1 := z8f.wfs [(IMG_IMAGE_INFO_DEVICE, proDevice pro0), (IMG_IMAGE_INFO_VERSION, proVersion pro0)]
        s1.imageCheck ld pro0 (z8f.srcHolds ld.src) = 0 ∧ s1.imageFree < imageBlocks (proTotal pro0))) ∧
      (((img2 ld2 4).keeper.load = some ld2) ∧ (ld2.placing = true) ∧ (ld2.got < proShards (sget { : Stored } (img2
      ld2 4).chest.imgs ld2.slot).pro) ∧ ((img2 ld2 4).loadHeld ld2 = false) ∧ ((img2 ld2 4).loadFenced ld2 = none) ∧
      (ld2.tries < (img2 ld2 4).rf IMG_CTRL_SHARD_RETRY) ∧ (ld2.src ≠ 2)) ∧ ((z9.keeper.load = some ld2) ∧
      (ld2.placing = true) ∧ (ld2.got < proShards (sget { : Stored } z9.chest.imgs ld2.slot).pro) ∧ (z9.loadHeld ld2 =
      false) ∧ (z9.loadFenced ld2 = none) ∧ (z9.rf IMG_CTRL_SHARD_RETRY ≤ ld2.tries) ∧ (16 = shardLen (sget
      { : Stored } z9.chest.imgs ld2.slot).pro ld2.got) ∧ (body16 < 2 ^ (8 * 16)) ∧ (ld2.secs = []) ∧ (crc32c (bytesOf
      body16 16) = shardCrc (sget { : Stored } z9.chest.imgs ld2.slot).pro ld2.got) ∧ (proSigned (sget { : Stored }
      z9.chest.imgs ld2.slot).pro = false)) := by
  decide +kernel

theorem test_ImageLoads_4 :
    (((img2 ld3 4).keeper.load = some ld3) ∧ (ld3.src = 1) ∧ (ld3.placing = true) ∧ (ld3.got < proShards (sget
      { : Stored } (img2 ld3 4).chest.imgs ld3.slot).pro) ∧ (ld3.tries < (img2 ld3 4).rf IMG_CTRL_SHARD_RETRY) ∧
      (ld3.conns < 2)) ∧ (((img2 w50_5_2 4).keeper.load = some w50_5_2) ∧ (w50_5_2.src = 1) ∧ (w50_5_2.placing =
      true) ∧ (w50_5_2.got < proShards (sget { : Stored } (img2 w50_5_2 4).chest.imgs w50_5_2.slot).pro) ∧
      (w50_5_2.tries < (img2 w50_5_2 4).rf IMG_CTRL_SHARD_RETRY) ∧ (2 ≤ w50_5_2.conns)) ∧ (((img2 ld4 4).keeper.load =
      some ld4) ∧ (ld4.placing = true) ∧ (ld4.part < 16) ∧ (ld4.copy < 2) ∧ (ld4.placed = true) ∧ ((img2 ld4 4).allZeroed ld4 = true) ∧
      (ld4.slot < 256) ∧ ((img2 ld4 4).loadHeld ld4 = false) ∧ ((img2 ld4
      4).loadFenced ld4 = none)) ∧ (((img2 w50_6_3 4).keeper.load = some w50_6_3) ∧ (w50_6_3.placing = true) ∧
      (w50_6_3.part < 16) ∧ (w50_6_3.copy < 2) ∧ (w50_6_3.placed = true) ∧ ((img2 w50_6_3 4).allZeroed w50_6_3 = true) ∧
      (w50_6_3.slot < 256) ∧ ((img2 w50_6_3 4).loadHeld w50_6_3 = false) ∧ ((img2 w50_6_3
      4).loadFenced w50_6_3 = none)) ∧ (((img2 ld5 4).keeper.load = some ld5) ∧ (ld5.placing = true) ∧
      (ld5.placed = false ∨ (img2 ld5 4).allZeroed ld5 = false)) ∧ ((z10.peerOf 255 = some 0) ∧ ((sget? (sget { : Stored }
      z10.chest.imgs 0).shards 0).isSome = true) ∧ (sget 0 z10.keeper.resends ((0 * 2 ^ 32 + 255) * 2 ^ 32 + 0) <
      z10.rf IMG_CTRL_SHARD_RETRY)) ∧ ((z10.keeper.peers = [(255, 0)]) ∧ (z10.keeper.resends = []) ∧ (0 = z10.keeper.peerSlot)) ∧
      (((img y8 y1 []).peerOf 255 = some 0) ∧ ((img y8 y1 []).keeper.peers = [(255, 0)]) ∧ ((img y8 y1 []).keeper.resends = []) ∧
      (0 ≠ (img y8 y1 []).keeper.peerSlot)) := by
  decide +kernel

theorem test_Partitions_1 :
    ((z11.writes 0 15 = true) ∧ (z11.pageReady (partPage 15 0) = true) ∧ (z11.keeper.idle = false) ∧ (z11.pst 15 =
      1) ∧ (z11.hasImage 15 = true) ∧ (z11.coldLoading 15 = false) ∧ (z11.rb FLT_STATUS_HALTED = false) ∧ (z11.pst 15 ≠ 5) ∧ (z11.pst 15 ≠ 4) ∧
      (z11.pst 15 ≠ 2) ∧ (z11.pst 15 ≠ 7)) ∧ ((z12.writes 0 15 = true) ∧ (z12.pageReady (partPage 15 0) = true) ∧
      (z12.keeper.idle = false) ∧ (z12.pst 15 ≠ 1 ∨ z12.hasImage 15 = false ∨ z12.rb FLT_STATUS_HALTED = true) ∧
      (z12.pst 15 = 5 ∨ z12.pst 15 = 4) ∧ (z12.pst 15 = 2 ∨ z12.pst 15 = 7 ∨ z12.pst 15 = 5) ∧ (z12.rb
      FLT_STATUS_HALTED = false) ∧ (z12.pst 15 ≠ 2) ∧ (z12.pst 15 ≠ 7)) ∧ ((z13.writes 0 15 = true) ∧ (z13.pageReady
      (partPage 15 0) = true) ∧ (z13.keeper.idle = false) ∧ (z13.pst 15 ≠ 1 ∨ z13.hasImage 15 = false ∨ z13.rb
      FLT_STATUS_HALTED = true) ∧ (z13.pst 15 ≠ 5) ∧ (z13.pst 15 ≠ 4) ∧ (z13.pst 15 = 2 ∨ z13.pst 15 = 7 ∨ z13.pst 15
      = 5) ∧ (z13.pst 15 = 2 ∨ z13.pst 15 = 7)) ∧ ((15 < 16) ∧ (z12.partImpaired 15 = false)) ∧ ((15 < 16) ∧ ((pt 5
      [(PLN_STATE_STATE 63, 2), (PART_GEOM_X0 15, 7), (PART_GEOM_Y0 15, 7), (PART_GEOM_W 15, 1), (PART_GEOM_H 15,
      1)]).partImpaired 15 = true)) ∧ ((15 < 16) ∧ ((pt 3 []).pst 15 = 3) ∧ ((pt 3 []).drained 15 = true) ∧ (((pt 3
      []).part 15).drainRaised = false) ∧ (((pt 3 []).part 15).drainFrom + (pt 3 []).rf (PART_DRAIN_LIMIT_MICROSECONDS
      15) * 1000 ≤ max (pt 3 []).time 1000)) := by
  decide +kernel

theorem test_Partitions_2 :
    ((z16.writes 0 15 = true) ∧ (z16.pageReady (partPage 15 0) = true) ∧ (z16.keeper.idle = true) ∧ (z16.cmdWaits 15 = true)) ∧ ((15 < 16) ∧ (w51_3_4.pst 15 = 3) ∧ (w51_3_4.drained 15 = false) ∧ ((w51_3_4.part 15).drainRaised = false) ∧
      ((w51_3_4.part 15).drainFrom + w51_3_4.rf (PART_DRAIN_LIMIT_MICROSECONDS 15) * 1000 ≤ max w51_3_4.time 1000)) ∧
      ((z14.reaches 0 15 = true) ∧ (z14.pageReady (partPage 15 0) = true) ∧ (z14.cmdWaits 15 = false) ∧ (z14.frozen = true)) ∧ ((z15.reaches 0 15
      = true) ∧ (z15.pageReady (partPage 15 0) = true) ∧ (z15.cmdWaits 15 = false) ∧ (z15.frozen = false) ∧ (z15.restoring = false) ∧ (z15.pst 15
      ≠ 8)) ∧ ((15 < 16) ∧ ((pt 8 []).pst 15 = 8) ∧ (∀ (p : Nat), p ∈ (pt 8 []).plainsOf 15 → ((pt 8 []).plain
      p).repair = none ∧ ((pt 8 []).plain p).resetWait = false) ∧ ((pt 8 []).pcie.vfReset.contains (15 + 1) =
      false)) ∧ ((15 < 16) ∧ (w51_5_5.pst 15 = 8) ∧ (∀ (p : Nat), p ∈ w51_5_5.plainsOf 15 → (w51_5_5.plain p).repair =
      none ∧ (w51_5_5.plain p).resetWait = false) ∧ (w51_5_5.pcie.vfReset.contains (15 + 1) = true)) ∧ ((1 ≤ 16) ∧ (16
      ≤ 16) ∧ (w51_6_6.fnUp 16 = true) ∧ (w51_6_6.rb MOD_STATUS_READY = true)) ∧ ((z15.pcie.l0 = true) ∧ (z15.frozen =
      false) ∧ (z15.restoring = false) ∧ (z15.pcie.mgmtReset = false) ∧ (z15.keeper.load = none)) := by
  decide +kernel

end Sys2Proof.Tests.PortsAndImages

set_option Elab.async false

namespace Sys2Proof.Tests.PowerWork
open Sys2Proof Sys2Proof.Machine

def bk (k : Keeper) (l : List (Fk × Nat)) : State :=
  { hst (l ++ [(MOD_STATUS_KEEPER_UP, 1), (hSTATUS_READY pgPWR, 1), (hSTATUS_READY pgMOD, 1)]) with keeper := k, chest := { bwear := [] } }
def b0 (ph : Nat) : Backup := { phase := ph, from_ := 0, energy := 6000, bytes := 100 }
def k0 (ph : Nat) : Keeper := { phase := 7, backup := some (b0 ph) }
def w52_1_1 :=
  { bk (k0 1) [] with net := [{ dst := 0, ty := 4, len := 8, ord := true, srcX := 0, srcY := 0, payload := 7, loc := .tile 0, part := 0 }] }
def snap0 : Snap := { seq := 3 }
def r0 (st : Nat) : Restore := { snap := snap0, step := st, parts := [15] }
def rs (r : Restore) (l : List (Fk × Nat)) : State := bk { phase := 7, restore := some r } l
def w52_3_2 := { r0 3 with loaded := [15] }
def arm : List (Fk × Nat) := [(PWR_STATUS_PACK_OK, 1), (CHST_STATUS_KEY_OK, 1), (MOD_STATUS_READY, 1),
  (CHST_BSLOT_STATE 0, 0), (CHST_BSLOT_STRIPES 0, 100000)]
def w52_4_3 := { r0 3 with parts := [] }
/-- A charged pack, a good self-test and the restore of no partition. -/
def rse : State := bk { phase := 7, seqOk := true, restore := some w52_4_3 } ((PWR_PACK_CAPACITY_J, 6000) :: arm)
def drp (l : List (Fk × Nat)) : State := bk { phase := 7 } (l ++ [(PLN_STATE_STATE 63, 0), (DRP_CTRL_MAX_STEP 63, 4),
  (DRP_CTRL_THRESH_MV 63, 30)])
def w53_5_4 := { drp [(DRP_CTRL_LIMIT_MS 63, 1), (DRP_STATUS_STEP 63, 4)] with plains := [(63, { maxSince := some 5 })] }
def w53_10_5 := { drp [] with parts := [(15, { recount := true })] }
def pc (a b : Bool) : Pcie := { perst := a, l0 := b }
def w54_10_6 := { bk { phase := 7 } [] with pcie := pc false true }
def w54_11_7 := { bk { phase := 7 } [] with pcie := pc true false }
def w54_12_8 := { bk { phase := 2 } [] with pcie := pc false false }
def y1 : Keeper := { phase := 7, idle := true, idleExit := true }
def y2 : Keeper := { phase := 7, benchEntry := true }
def y3 : Keeper := { phase := 6, l0At := some 5 }
def y4 : Keeper := { phase := 7, overV := true }
def y5 : Keeper := { phase := 3, groups := 15 }
def y6 : Keeper := { phase := 3, groups := 16 }
def y7 : Keeper := { phase := 7, idle := true }
def y8 : Keeper := { phase := 7, low := true }
def y9 : Keeper := { phase := 7 }
def y10 : Keeper := { phase := 1 }
def y11 : Keeper := { phase := 2 }
def y12 : Keeper := { phase := 5 }
def z1 : State := bk (k0 3) [(CHST_BSLOT_STATE 0, 3), (CHST_BSLOT_STATE 1, 3)]
def z2 : State := bk (k0 3) [(CHST_BSLOT_STATE 0, 3), (CHST_BSLOT_STATE 1, 0), (CHST_BSLOT_STRIPES 1, 2)]
def z3 : State := bk y9 []
def z4 : State := bk y8 [(PWR_CTRL_FORCE_SLOW, 0)]
def z4d : State := bk { phase := 7, dip := true } [(PWR_CTRL_FORCE_SLOW, 0)]
def z5 : State := drp [(DRP_STATUS_STEP 63, 3)]
def z6 : State := { drp [(DRP_STATUS_STEP 63, 4), (DRP_CTRL_RELEASE_US 63, 1)] with plains := [(63, { droops := [(5, 70)] })] }
def z7 : State := drp arm
def z8 : State := bk y3 [(MOD_STATUS_WARM, 0)]
def z9 : State := bk y9 [(MOD_STATUS_BACKUP_ACTIVE, 1)]
def z10 : State := bk y9 [(PART_STATE_STATE 0, 1), (MOD_STATUS_READY, 1)]
def z11 : State := bk y7 [(MOD_STATUS_READY, 1)]

theorem test_BackupAndRestore :
    (((bk (k0 1) []).keeper.backup = some (b0 1)) ∧ ((b0 1).phase = 1) ∧ ((bk (k0 1) []).unsettled = false)) ∧
      ((w52_1_1.keeper.backup = some (b0 1)) ∧ ((b0 1).phase = 1) ∧ (w52_1_1.unsettled = true)) ∧ (((bk (k0 2)
      []).keeper.backup = some (b0 2)) ∧ ((b0 2).phase = 2)) ∧ ((z1.keeper.backup = some (b0 3)) ∧ ((b0 3).phase =
      3) ∧ (z1.backupSlot (b0 3).bytes = none)) ∧ ((z2.keeper.backup = some (b0 3)) ∧ ((b0 3).phase = 3) ∧
      (z2.backupSlot (b0 3).bytes = some 1) ∧ (1 < 2)) ∧ (((bk (k0 4) []).keeper.backup = some (b0 4)) ∧ ((b0 4).phase
      = 4)) ∧ (((bk (k0 5) []).keeper.backup = some (b0 5)) ∧ ((b0 5).phase = 5)) ∧ (((rs (r0 1) []).keeper.restore =
      some (r0 1)) ∧ ((r0 1).step = 1)) ∧ (((rs (r0 1) []).keeper.restore = some (r0 1)) ∧ ((r0 1).step = 1) ∧ ([0] ≠
      [])) ∧ (((rs (r0 2) []).keeper.restore = some (r0 2)) ∧ ((r0 2).step = 2)) ∧ (((rs (r0 3) []).keeper.restore =
      some (r0 3)) ∧ ((r0 3).step = 3) ∧ ((r0 3).parts.contains 15 = true) ∧ ((r0 3).loaded.contains 15 = false)) ∧
      (((rs w52_3_2 []).keeper.restore = some w52_3_2) ∧ (w52_3_2.loaded.contains 15 = true) ∧ (w52_3_2.kept.contains
      15 = false)) ∧ (((rs (r0 3) []).keeper.restore = some (r0 3)) ∧
      (let s0 := ((rs (r0 3) []).at 9).wf PWR_PACK_ENERGY_J 6000; (r0 3).parts.all (r0 3).kept.contains = false ∨ s0.armable = false)) ∧
      ((rse.keeper.restore = some w52_4_3) ∧ (w52_4_3.step = 3) ∧ (w52_4_3.parts = []) ∧ (w52_4_3.cold =
      []) ∧ (let s0 := (rse.at 9).wf PWR_PACK_ENERGY_J 6000; s0.armable = true) ∧ (rse.heldResets = [])) := by
  decide +kernel

theorem test_SupplyAndPack_1 :
    ((z3.onInput = true) ∧ (45999 < 46000) ∧ (z3.keeper.low = false)) ∧ (((bk y8 []).onInput = true) ∧ (45999 <
      46000) ∧ ((bk y8 []).keeper.low = true)) ∧ ((z4.onInput = true) ∧ (47000 ≤ 47000) ∧ (z4.keeper.low = true) ∧
      (z4.rb PWR_CTRL_FORCE_SLOW = false)) ∧
      ((z4d.onInput = true) ∧ (47000 ≤ 47000) ∧ (z4d.keeper.low = true ∨ z4d.keeper.dip = true) ∧ (z4d.rb PWR_CTRL_FORCE_SLOW = false)) ∧ (((bk y4 []).onInput = true) ∧ (58000 ≤ 58000) ∧ ((bk y4 []).keeper.overV
      = true)) ∧ ((z3.onInput = true) ∧ (61000 < 61001) ∧ (58000 < 61001) ∧ (z3.keeper.overV = false)) ∧ ((z3.onInput =
      true) ∧ (41999 < 46000) ∧ (z3.keeper.low = false) ∧ (41999 < 42000)) ∧ ((z3.onInput = true) ∧ (41999 < 42000) ∧
      (42000 ≤ 42000)) ∧ (((bk y8 []).keeper.low = true)) ∧ (((bk (k0 3) []).keeper.backup = some (b0 3)) ∧ (46000 ≤
      46000)) ∧ ((z5.plainClocked 63 = true) ∧ (let k := z5.rf (DRP_STATUS_STEP 63); k < z5.maxStep 63) ∧
      (let k := z5.rf (DRP_STATUS_STEP 63); z5.threshold 63 (k + 1) < 76)) ∧ ((z5.plainClocked 63 = true) ∧
      (let k := z5.rf (DRP_STATUS_STEP 63); 75 ≤ z5.threshold 63 (k + 1))) ∧ ((z6.plainClocked 63 = true) ∧
      (let k := z6.rf (DRP_STATUS_STEP 63); k ≠ 0) ∧ (let k := z6.rf (DRP_STATUS_STEP 63); k ≤ 4) ∧
      (let k := z6.rf (DRP_STATUS_STEP 63); 65 + 10 ≤ z6.threshold 63 k) ∧
      (let k := z6.rf (DRP_STATUS_STEP 63); (z6.at 1005).released 63 k = true)) ∧ ((z6.plainClocked 63 = true) ∧
      (let k := z6.rf (DRP_STATUS_STEP 63); (z6.at 1004).released 63 k = false)) ∧ ((63 < 64) ∧ ((w53_5_4.plain 63).maxSince
      = some 5) ∧ ((w53_5_4.plain 63).droopRaised = false) ∧
      (w53_5_4.maxStep 63 ≤ w53_5_4.rf (DRP_STATUS_STEP 63)) ∧ (5 + w53_5_4.rf (DRP_CTRL_LIMIT_MS 63) * 1000000 < max
      w53_5_4.time 1000006)) ∧ (((drp []).pf0Writes 0 = true) ∧ ((drp []).pageReady pgPWR = true)) ∧ ((z7.powered =
      true) ∧ (z7.rb MOD_STATUS_KEEPER_UP = true) ∧ (z7.frozen = false)) ∧ ((z7.powered = true) ∧ (z7.rb
      MOD_STATUS_KEEPER_UP = true) ∧ (4200 ≤ 4200)) ∧ ((z7.powered = true) ∧ (z7.rb MOD_STATUS_KEEPER_UP = true) ∧
      (4199 < 4200)) ∧ ((z7.powered = true) ∧ (z7.keeper.latchOpen = false)) := by
  decide +kernel

theorem test_SupplyAndPack_2 :
    (15 < 16) ∧ ((w53_10_5.part 15).recount = true) ∧ (w53_10_5.keepables 15 = []) := by
  decide +kernel

theorem test_StartAndPower_1 :
    (((bk { : Keeper } []).keeper.phase = 0) ∧ (46000 ≤ 46000)) ∧ (((bk y10 []).keeper.phase = 1) ∧ ((bk y10 []).rb
      MOD_STATUS_KEEPER_UP = true)) ∧ (((bk y5 []).keeper.phase = 2 ∨ (bk y5 []).keeper.phase = 3) ∧ ((bk y5
      []).keeper.bench = false) ∧ (15 = (bk y5 []).keeper.groups) ∧ (15 < 16)) ∧ (((bk y11 []).keeper.phase = 2 ∨ (bk
      y11 []).keeper.phase = 3) ∧ ((bk y11 []).keeper.bench = false) ∧ (0 = (bk y11 []).keeper.groups) ∧ (0 < 16)) ∧
      (((bk y6 []).keeper.phase = 3) ∧ ((bk y6 []).keeper.groups = 16)) ∧ (((bk { phase := 4 : Keeper }
      []).keeper.phase = 4)) ∧ (((bk y12 []).keeper.phase = 5) ∧ ((bk y12 []).rb MOD_STATUS_KEEPER_UP = true)) ∧
      ((z8.keeper.l0At = some 5) ∧ (z8.keeper.phase = 6) ∧ (z8.rb MOD_STATUS_KEEPER_UP = true) ∧ (5 + 1000000000 ≤ max
      z8.time 1000000005) ∧ (z8.keeper.benchKept = false) ∧ (z8.rb MOD_STATUS_WARM = false)) ∧ ((z8.keeper.l0At = some
      5) ∧ (z8.keeper.phase = 6) ∧ (z8.rb MOD_STATUS_KEEPER_UP = true) ∧ (max z8.time 1000000004 < 5 + 1000000000)) ∧
      ((z3.fnUp 0 = true) ∧ (z3.pageReady pgMOD = true) ∧ ((BitVec.ofNat 64 (1 + 19287 * 2 ^ 48)).toNat.testBit 0 =
      true) ∧ (bits (BitVec.ofNat 64 (1 + 19287 * 2 ^ 48)).toNat 48 16 = 19287) ∧ (z3.keeper.phase = 7) ∧
      (z3.keeper.benchEntry = false) ∧ (z3.keeper.bench = false) ∧ (z3.frozen = false)) := by
  decide +kernel

theorem test_StartAndPower_2 :
    ((z9.fnUp 0 = true) ∧ (z9.pageReady pgMOD = true) ∧ ((BitVec.ofNat 64 (1 + 19287 * 2 ^ 48)).toNat.testBit 0 =
      true) ∧ (bits (BitVec.ofNat 64 (1 + 19287 * 2 ^ 48)).toNat 48 16 = 19287) ∧ (z9.keeper.phase = 7) ∧
      (z9.keeper.benchEntry = false) ∧ (z9.keeper.bench = false) ∧ (z9.frozen = true)) ∧ ((w54_10_6.pcie.perst =
      false) ∧ (w54_10_6.frozen = false) ∧ (w54_10_6.keeper.phase = 7) ∧ (w54_10_6.keeper.benchEntry = false) ∧
      (w54_10_6.keeper.bench = false)) ∧ ((w54_11_7.pcie.perst = true)) ∧ ((w54_12_8.pcie.perst = false) ∧
      (w54_12_8.pcie.l0 = false) ∧ (2 ≤ w54_12_8.keeper.phase) ∧ (w54_12_8.frozen = false) ∧ (w54_12_8.keeper.perstAt
      + 60000000 ≤ max w54_12_8.time 60000000)) ∧ ((z10.pf0Writes 0 = true) ∧ (z10.pageReady pgMOD = true) ∧
      (z10.allQuiet = true) ∧ (z10.keeper.load = none) ∧ (z10.rb MOD_STATUS_READY = true) ∧ (z10.keeper.bench =
      false) ∧ (z10.keeper.held = false) ∧ (((List.range 16).all fun n => z10.pst n == 0 || z10.pst n == 1) = true) ∧
      (((List.range 16).all fun n => z10.occupancy n == 0) = true) ∧ (z10.rb KEEP_RESTORE_PENDING = false) ∧ (z10.rb
      CHST_UCFG_EN = false)) ∧ ((z11.pf0Writes 0 = true) ∧ (z11.pageReady pgMOD = true) ∧ (z11.allQuiet = false) ∧
      (z11.keeper.benchEntry = false) ∧ (z11.keeper.bench = false) ∧ (z11.keeper.idle = true)) ∧ ((z11.pf0Writes 0 =
      true) ∧ (z11.pageReady pgMOD = true) ∧ (16979#16 ≠ 16978)) ∧ (((bk y1 []).keeper.idle = true) ∧ ((bk y1
      []).keeper.idleExit = true) ∧ ((bk y1 []).keeper.deferred = [])) := by
  decide +kernel

theorem test_StartAndPower_3 :
    ((bk y2 []).keeper.benchEntry = true) ∧ ((bk y2 []).keeper.spilled = []) ∧ ((bk y2 []).keeper.benchReset = none) := by
  decide +kernel

end Sys2Proof.Tests.PowerWork

set_option Elab.async false

namespace Sys2Proof.Tests.Maintenance
open Sys2Proof Sys2Proof.Machine

def chs (k : Keeper) (c : Chest) (l : List (Fk × Nat)) : State :=
  { hst (l ++ [(hSTATUS_READY pgCHST, 1), (MOD_STATUS_KEEPER_UP, 1), (hSTATUS_READY pgFLT, 1), (hSTATUS_READY pgSEC, 1), (hSTATUS_READY pgHST, 1)]) with keeper := k, chest := c }
def k7 : Keeper := { phase := 7, vio := true }
def ur : List (Fk × Nat) := [(CHST_UCFG_EN, 1), (CHST_UTAIL_TAIL, 5), (CHST_ZONE_USER_BLOCKS, 1)]
def kk : Nat := 5463
def ub (b : UBlock) : State := chs k7 { user := [(kk, b)] } ur
def ud : UDesc := { index := 15, w1 := 1, addr := 64, w3 := 1 }
def sel0 : Sel := { seq := 3, slot := 1, trial := false }
def flt (p : Part) (l : List (Fk × Nat)) : State :=
  { hst (l ++ [(hSTATUS_READY pgFLT, 1), (hSTATUS_READY (partPage 15 9), 1), (hSTATUS_READY (plainPage 63 0), 1), (PART_STATE_STATE 15, 6), (PFLT_CTRL_QUIET_MS 15, 1), (PFLT_CTRL_RECOVERY_LIMIT 15, 0), (FLT_STATUS_HALTED, 0)]) with parts := [(15, p)] }
def y1 : Chest := { imgs := [(255, { freed := true : Stored })] }
def y2 : UBlock := { st := 1, next := 768, pages := [(767, 9)] }
def y3 : UBlock := { st := 1, next := 768, lost := false }
def y4 : Chest := { imgs := [(0, { : Stored })] }
def y5 : Chest := { fwStep := 1, fwSlot := 1 }
def y6 : Chest := { fwStep := 2, fwSlot := 1 }
def y7 : Chest := { fwStep := 3, fwSlot := 1 }
def y8 : Chest := { fwStep := 4, fwSlot := 1 }
def y9 : Chest := { fwStep := 5, fwSlot := 1 }
def y10 : UBlock := { st := 0, lost := false }
def y11 : Chest := { fwStep := 6, fwRun := 1 }
def y12 : Chest := { sels := [(0, sel0)] }
def y13 : Part := { recoveries := [5] }
def y14 : Stored := { freed := true }
def y15 : Chest := { ring := [ud] }
def y16 : Chest := { fwStep := 3 }
def y17 : UBlock := { st := 2 }
def z1 : State := chs k7 { : Chest } [(CHST_BSLOT_STATE 0, 3)]
def z2 : State := chs k7 { : Chest } [(CHST_BSLOT_STATE 1, 5)]
def z3 : State := chs k7 { : Chest } []
def z4 : State := chs k7 { : Chest } [(CHST_UCFG_EN, 0)]
def z5 : State := chs k7 { : Chest } [(CHST_UCFG_EN, 1)]
def z6 : State := ub { : UBlock }
def z7 : State := ub y10
def z8 : State := ub y3
def z9 : State := chs k7 y4 ur
def z10 : State := chs k7 { : Chest } [(CHST_FW_SLOT_TRIAL 0, 0), (CHST_FW_STATUS_STATE, 5)]
def z11 : State := chs k7 y16 [(CHST_FW_STATUS_STATE, 3)]
def z12 : State := chs k7 y6 [(CHST_FW_SLOT_STATE 1, 3)]
def z13 : State := chs k7 y11 [(CHST_FW_SLOT_TRIAL 1, 1)]
def z14 : State := chs k7 y12 [(MOD_STATUS_KEEPER_UP, 0), (CHST_FW_SLOT_STATE 1, 1)]
def z15 : State := flt { : Part } []
def z16 : State := flt { : Part } [(hSTATUS_FAULT_VALID (partPage 15 9), 1)]
def z17 : State := flt { : Part } [(FLT_SRC_SEL_CODE, 4118)]
def z18 : State := flt { : Part } [(PFLT_CTRL_RECOVERY_LIMIT 15, 1)]
def z19 : State := flt y13 [(PFLT_STATUS_STICKY 15, 1)]
def z20 : State := flt { : Part } [(PFLT_STATUS_STICKY 15, 1), (FLT_STATUS_HALTED, 1)]

theorem test_ChestZones_1 :
    ((z1.pf0Writes 0 = true) ∧ (z1.pageReady pgCHST = true) ∧ ((BitVec.ofNat 64 (1 + 21068 * 2 ^ 48)).toNat.testBit 0
      = true) ∧ (bits (BitVec.ofNat 64 (1 + 21068 * 2 ^ 48)).toNat 48 16 = 21068) ∧ (z1.restoring = false) ∧
      (z1.frozen = false)) ∧ ((z2.rb MOD_STATUS_KEEPER_UP = true) ∧ (z2.frozen = false) ∧ (z2.rb SEC_STATUS_REKEYING =
      false) ∧ (1 < 2) ∧ (z2.rf (CHST_BSLOT_STATE 1) = 1 ∨ z2.rf (CHST_BSLOT_STATE 1) = 4 ∨ z2.rf (CHST_BSLOT_STATE 1)
      = 5)) ∧ (((chs k7 y1 []).rb MOD_STATUS_KEEPER_UP = true) ∧ ((chs k7 y1 []).frozen = false) ∧ ((chs k7 y1 []).rb
      SEC_STATUS_REKEYING = false) ∧ (sget? (chs k7 y1 []).chest.imgs 255 = some y14) ∧ (y14.freed = true)) ∧ ((z3.rb
      MOD_STATUS_KEEPER_UP = true) ∧ (5 ≤ 8) ∧ (8 ≤ 8)) ∧ ((31 < 32) ∧ (z3.powered = true) ∧ (z3.chest.dead.contains
      31 = false)) ∧ ((z4.pf0Writes 0 = true) ∧ (z4.pageReady pgCHST = true) ∧ (z4.rb CHST_UCFG_EN = false) ∧
      (let s1 := z4.writeWord (pgCHST + 304) (1025#64).toNat (2 ^ 64 - 1); s1.rb CHST_UCFG_EN = true)) ∧
      ((z5.pf0Writes 0 = true) ∧ (z5.pageReady pgCHST = true) ∧
      (let s1 := z5.writeWord (pgCHST + 304) (1025#64).toNat (2 ^ 64 - 1); z5.rb CHST_UCFG_EN = true ∨ s1.rb CHST_UCFG_EN = false)) ∧
      ((z6.uringGo = true) ∧ (udescBad (0#64).toNat (0#64).toNat (0#64).toNat (0#64).toNat = true)) ∧ ((z6.uringGo =
      true) ∧ (udescBad (0#64).toNat (1#64).toNat (0#64).toNat (0#64).toNat = false) ∧ (bits (1#64).toNat 16 12 <
      z6.rf CHST_ZONE_USER_BLOCKS) ∧ (bits (1#64).toNat 0 4 = 1)) := by
  decide +kernel

theorem test_ChestZones_2 :
    ((z6.uringGo = true) ∧ (udescBad (0#64).toNat (2#64).toNat (0#64).toNat (0#64).toNat = false) ∧ (bits (2#64).toNat
      16 12 < z6.rf CHST_ZONE_USER_BLOCKS) ∧ (bits (2#64).toNat 0 4 = 2)) ∧ ((z6.uringGo = true) ∧ (udescBad
      (0#64).toNat (3#64).toNat (0#64).toNat (0#64).toNat = false) ∧ (bits (3#64).toNat 16 12 < z6.rf
      CHST_ZONE_USER_BLOCKS) ∧ (bits (3#64).toNat 0 4 = 3)) ∧ ((z6.uringGo = true) ∧ (udescBad (0#64).toNat
      (4#64).toNat (0#64).toNat (0#64).toNat = false) ∧ (bits (4#64).toNat 16 12 < z6.rf CHST_ZONE_USER_BLOCKS) ∧
      (bits (4#64).toNat 0 4 = 4)) ∧ ((let k := z7.ublockKey (765 * 2 ^ 32); let b := z7.ublock k; b.st ≠ 2) ∧
      (let k := z7.ublockKey (765 * 2 ^ 32); let b := z7.ublock k; b.st = 0 ∨ b.st = 1) ∧
      (let k := z7.ublockKey (765 * 2 ^ 32); let b := z7.ublock k; b.pslc = (765 * 2 ^ 32).testBit 4) ∧
      (let k := z7.ublockKey (765 * 2 ^ 32); let b := z7.ublock k; let page := bits (765 * 2 ^ 32) 32 10; b.pslc = true ∨ page % 3 = 0) ∧
      (let k := z7.ublockKey (765 * 2 ^ 32); let b := z7.ublock k; let page := bits (765 * 2 ^ 32) 32 10; page + progPages ((765 * 2 ^ 32).testBit 4) ≤ b.size) ∧
      (let k := z7.ublockKey (765 * 2 ^ 32); let b := z7.ublock k; let page := bits (765 * 2 ^ 32) 32 10; b.next ≤ page)) := by
  decide +kernel

theorem test_ChestZones_3 :
    ((let k := z8.ublockKey (765 * 2 ^ 32); let b := z8.ublock k; b.st ≠ 2) ∧
      (let k := z8.ublockKey (765 * 2 ^ 32); let b := z8.ublock k; b.st = 0 ∨ b.st = 1) ∧
      (let k := z8.ublockKey (765 * 2 ^ 32); let b := z8.ublock k; b.pslc = (765 * 2 ^ 32).testBit 4) ∧
      (let k := z8.ublockKey (765 * 2 ^ 32); let b := z8.ublock k; let page := bits (765 * 2 ^ 32) 32 10; b.pslc = true ∨ page % 3 = 0) ∧
      (let k := z8.ublockKey (765 * 2 ^ 32); let b := z8.ublock k; let page := bits (765 * 2 ^ 32) 32 10; page + progPages ((765 * 2 ^ 32).testBit 4) ≤ b.size) ∧
      (let k := z8.ublockKey (765 * 2 ^ 32); let b := z8.ublock k; let page := bits (765 * 2 ^ 32) 32 10; page < b.next)) ∧
      ((let k := (ub y17).ublockKey (765 * 2 ^ 32); let b := (ub y17).ublock k; b.st = 2)) ∧ ((((ub y2).ublock ((ub
      y2).ublockKey (767 * 2 ^ 32))).st ≠ 3) ∧ (bits (767 * 2 ^ 32) 32 10 < ((ub y2).ublock ((ub y2).ublockKey (767 *
      2 ^ 32))).size) ∧ (sget? ((ub y2).ublock ((ub y2).ublockKey (767 * 2 ^ 32))).pages (bits (767 * 2 ^ 32) 32 10) =
      some 9)) ∧ (((chs k7 y15 ur).chest.ring = [ud]) ∧ ((chs k7 y15 ur).rb MOD_STATUS_KEEPER_UP = true) ∧ ((chs k7
      y15 ur).pcie.l0 = true) ∧ ((chs k7 y15 ur).frozen = false) ∧ (bits ud.w3 0 8 ≠ 11) ∧ (bits ud.w3 0 8 ≠ 12) ∧
      (ud.w1.testBit 5 = false)) ∧ ((z9.pf0Writes 0 = true) ∧ (z9.pageReady pgCHST = true) ∧ (z9.keeper.restore =
      none) ∧ (z9.keeper.load = none) ∧ (z9.rf CHST_ZONE_USER_BLOCKS < bits (4096#64).toNat 0 13) ∧ (bits
      (4096#64).toNat 0 13 ≤ 4096) ∧ (z9.chest.imgs ≠ [])) := by
  decide +kernel

theorem test_ChestZones_4 :
    (z9.pf0Writes 0 = true) ∧ (z9.pageReady pgCHST = true) ∧ (z9.keeper.restore = none) ∧ (z9.keeper.load = none) ∧
      (bits (1#64).toNat 0 13 ≤ z9.rf CHST_ZONE_USER_BLOCKS) ∧ (bits (1#64).toNat 0 13 ≤ 4096) := by
  decide +kernel

theorem test_KeeperFirmware_1 :
    ((z10.pf0Writes 0 = true) ∧ (z10.pageReady pgCHST = true) ∧ (z10.chest.fwStep = 0) ∧ (z10.keeper.restore = none) ∧
      (z10.onTrial = false) ∧ (z10.rf CHST_FW_STATUS_STATE = 5) ∧ (z10.rb MOD_STATUS_KEEPER_UP = true)) ∧
      ((z11.pf0Writes 0 = true) ∧ (z11.pageReady pgCHST = true) ∧ (z11.chest.fwStep ≠ 0) ∧ (z11.rf
      CHST_FW_STATUS_STATE ≠ 5)) ∧ (((chs k7 y5 []).rb MOD_STATUS_KEEPER_UP = true) ∧ ((chs k7 y5 []).frozen =
      false) ∧ ((chs k7 y5 []).chest.fwSlot < 2) ∧ ((chs k7 y5 []).chest.fwStep = 1)) ∧ ((z12.rb MOD_STATUS_KEEPER_UP
      = true) ∧ (z12.frozen = false) ∧ (z12.chest.fwSlot < 2) ∧ (z12.chest.fwStep = 2)) ∧ (((chs k7 y7 []).rb
      MOD_STATUS_KEEPER_UP = true) ∧ ((chs k7 y7 []).frozen = false) ∧ ((chs k7 y7 []).chest.fwSlot < 2) ∧ ((chs k7 y7
      []).chest.fwStep = 3)) ∧ (((chs k7 y8 []).rb MOD_STATUS_KEEPER_UP = true) ∧ ((chs k7 y8 []).frozen = false) ∧
      ((chs k7 y8 []).chest.fwSlot < 2) ∧ ((chs k7 y8 []).chest.fwStep = 4)) ∧ (((chs k7 y9 []).rb
      MOD_STATUS_KEEPER_UP = true) ∧ ((chs k7 y9 []).frozen = false) ∧ ((chs k7 y9 []).chest.fwSlot < 2) ∧ ((chs k7 y9
      []).chest.fwStep = 5)) ∧ ((z13.rb MOD_STATUS_KEEPER_UP = true) ∧ (z13.chest.fwRun < 2) ∧ (z13.onTrial = true) ∧
      (z13.frozen = false) ∧ (z13.chest.trialFrom + 60000000000 ≤ max z13.time 60000000000)) ∧ ((z13.rb
      MOD_STATUS_KEEPER_UP = true) ∧ (z13.chest.fwRun < 2) ∧ (z13.onTrial = true) ∧ (z13.frozen = false) ∧ (max
      z13.time 59999999999 < z13.chest.trialFrom + 60000000000)) ∧ ((z3.powered = true)) := by
  decide +kernel

theorem test_KeeperFirmware_2 :
    (z14.powered = true) ∧ (z14.rb MOD_STATUS_KEEPER_UP = false) ∧ (z14.frozen = false) ∧ (z14.selNewest = some (0,
      sel0)) ∧ (sel0.trial = false) ∧ (sel0.slot < 2) ∧ (z14.rf (CHST_FW_SLOT_STATE sel0.slot) ≠ 3) ∧ (z14.rf
      (CHST_FW_SLOT_STATE sel0.slot) ≠ 0) ∧ (z14.chest.dead = []) := by
  decide +kernel

theorem test_FaultsAndRecovery_1 :
    (((pageAt (partPage 15 9)).isSome = true) ∧ (partPage 15 9 % 4096 = 0) ∧ (z15.rb (hSTATUS_FAULT_VALID (partPage 15
      9)) = false)) ∧ (((pageAt (partPage 15 9)).isSome = true) ∧ (partPage 15 9 % 4096 = 0) ∧ (z16.rb
      (hSTATUS_FAULT_VALID (partPage 15 9)) = true)) ∧ (((flt { : Part } [(hMASK (partPage 15 9), 4095)]).maskedOn
      4118 (partPage 15 9) = true)) ∧ ((15 < 16) ∧ (9 < 10) ∧ (z16.writes 0 15 = true) ∧ (z16.pageReady (partPage 15
      9) = true) ∧ (9 ≠ 7)) ∧ ((63 < 64) ∧ (z15.pf0Writes 0 = true) ∧ (z15.pageReady (plainPage 63 0) = true) ∧
      (reactOk ((18764998447376#64).toNat % 2 ^ 48) = true)) ∧ ((63 < 64) ∧ (z15.pf0Writes 0 = true) ∧ (z15.pageReady
      (plainPage 63 0) = true) ∧ (reactOk ((18764998447391#64).toNat % 2 ^ 48) = false)) ∧ ((z17.pf0Writes 0 = true) ∧
      (z17.pageReady pgFLT = true) ∧ (faultCodes.contains (z17.rf FLT_SRC_SEL_CODE) = true) ∧ ((24#64).toNat.testBit 4
      = true) ∧
      (let c := z17.rf FLT_SRC_SEL_CODE; let range := reactRange (faultClass c); range.fst ≤ bits (24#64).toNat 0 4) ∧
      (let c := z17.rf FLT_SRC_SEL_CODE; let range := reactRange (faultClass c); bits (24#64).toNat 0 4 ≤ range.snd)) ∧
      ((z17.pf0Writes 0 = true) ∧ (z17.pageReady pgFLT = true) ∧ (faultCodes.contains (z17.rf FLT_SRC_SEL_CODE) =
      true) ∧ ((25#64).toNat.testBit 4 = true) ∧
      (let c := z17.rf FLT_SRC_SEL_CODE; let range := reactRange (faultClass c); bits (25#64).toNat 0 4 < range.fst ∨ range.snd < bits (25#64).toNat 0 4)) := by
  decide +kernel

theorem test_FaultsAndRecovery_2 :
    ((15 < 16) ∧ (z15.frozen = false) ∧ (z15.rb (PFLT_STATUS_STICKY 15) = false) ∧ (z15.recoverable 15 = true) ∧
      ((z15.at 1000000).quietOver 15 = true) ∧ ((z15.at 1000000).rf (PFLT_CTRL_RECOVERY_LIMIT 15) < ((z15.at
      1000000).recentRecoveries 15).length + 1)) ∧ ((15 < 16) ∧ (z18.frozen = false) ∧ (z18.rb (PFLT_STATUS_STICKY 15)
      = false) ∧ (z18.recoverable 15 = true) ∧ ((z18.at 1000000).quietOver 15 = true) ∧ (((z18.at
      1000000).recentRecoveries 15).length + 1 ≤ z18.rf (PFLT_CTRL_RECOVERY_LIMIT 15))) ∧ ((z19.writes 0 15 = true) ∧
      (z19.pageReady (partPage 15 9) = true) ∧ (z19.rb FLT_STATUS_HALTED = false) ∧ (z19.rb (PFLT_STATUS_STICKY 15) =
      true)) ∧ ((z20.writes 0 15 = true) ∧ (z20.pageReady (partPage 15 9) = true) ∧ (z20.rb FLT_STATUS_HALTED =
      true)) ∧ (((flt { : Part } [(FLT_STATUS_HALTED, 1)]).pf0Writes 0 = true) ∧ ((flt { : Part } [(FLT_STATUS_HALTED,
      1)]).pageReady pgFLT = true)) := by
  decide +kernel

end Sys2Proof.Tests.Maintenance

set_option Elab.async false

namespace Sys2Proof.Tests.Outside
open Sys2Proof Sys2Proof.Machine

def idn (k : Keeper) (l : List (Fk × Nat)) : State :=
  { hst (l ++ [(hSTATUS_READY pgSEC, 1), (hSTATUS_READY pgHST, 1), (hSTATUS_READY pgFLT, 1), (MOD_STATUS_KEEPER_UP, 1)]) with keeper := k }
def k7 : Keeper := { phase := 7, vio := true, spdm := 3 }
def w58_1_1 := { k7 with spdm := 2 }
def quiet : List (Fk × Nat) := (List.range 16).map fun n => (PART_STATE_STATE n, 1)
def kn : Keeper := { k7 with nonce := some (9, 0), nv := [(SEC_FUSE_STATE_DEBUG_KEY_SET.key, 1)] }
def w59_2_2 := { idn k7 [(PLN_STATE_STATE 63, 0)] with plains := [(63, { warn := true, crit := true })] }
def w59_4a_3 := { k7 with alert := true }
def w59_4a_4 := { k7 with alert := false }
def w59_6_5 := { k7 with nv := [(SEC_FUSE_STATE_JTAG_LOCK.key, 1)] }
def msh (l : List (Fk × Nat)) : State := idn k7 (l ++ [(hSTATUS_READY (plainPage 63 1), 1), (MESH_ORPHANS_COUNT 63,
  7)])
def w60_4_6 := { msh [(hCTRL_CNT_FREEZE (plainPage 63 1), 1)] with cap := [((MESH_ORPHANS_COUNT 63).key, 6)] }
def apt (l : List (Fk × Nat)) : State := idn k7 (l ++ [(HST_APERTURE_X, 0), (HST_APERTURE_Y, 0), (HST_APERTURE_BASE,
  0)])
def w60_8_7 := { apt [] with mem := [(tkey 0 0xBFF8, 7)] }
def lat (x : Latch) (l : List (Fk × Nat)) : State :=
  { idn k7 (l ++ [(hSTATUS_READY pgLAT, 1), (hSTATUS_READY (partPage 0 0), 1), (LAT_GRANT_GRANT 0 3, 2 ^ 63)]) with latches := [(255, x)] }
def y1 : Latch := { st := 2, kind := 1 }
def y2 : Latch := { st := 1, kind := 1 }
def z1 : State := idn k7 []
def zf : State := idn k7 [(MOD_STATUS_BACKUP_ACTIVE, 1)]
def z2 : State := idn w58_1_1 []
def z3 : State := idn k7 quiet
def z4 : State := idn k7 [(SEC_STATUS_REKEYING, 1)]
def z5 : State := idn k7 [(SEC_IMGKEY_STATUS_STATES, 0)]
def z6 : State := idn k7 [(SEC_IMGKEY_STATUS_STATES, 64)]
def z7 : State := idn k7 [(SEC_JTAG_STATE_LOCKOUT, 0)]
def z8 : State := idn k7 [(SEC_JTAG_STATE_LOCKOUT, 1), (SEC_JTAG_STATE_FAILS, 2)]
def z9 : State := idn k7 [(SEC_JTAG_STATE_FAILS, 2)]
def z10 : State := idn kn [(SEC_JTAG_STATE_STATE, 1)]
def z11 : State := idn k7 [(PLN_STATE_STATE 63, 0)]
def z12 : State := idn k7 [(PWR_COOLANT_LIMITS_FLOW_MIN, 10), (PWR_COOLANT_LIMITS_INLET_MAX_C, 45)]
def z13 : State := idn w59_6_5 [(SEC_JTAG_STATE_STATE, 2)]
def z14 : State := idn w59_6_5 [(SEC_JTAG_STATE_STATE, 3)]
def z15 : State := apt [(PLN_FENCED 0 0, 1)]
def z16 : State := idn k7 [(hSTATUS_READY (partPage 15 0), 1)]
def z17 : State := lat { : Latch } []
def z18 : State := lat y2 []

theorem test_Identity_1 :
    ((z1.doeUp = true) ∧ (z1.rb MOD_STATUS_KEEPER_UP = true) ∧ (1 ≤ z1.keeper.spdm) ∧ (2 ≤ z1.keeper.spdm) ∧ (3 ≤
      z1.keeper.spdm)) ∧ ((z2.doeUp = true) ∧ (z2.rb MOD_STATUS_KEEPER_UP = true) ∧ (1 ≤ z2.keeper.spdm) ∧ (2 ≤
      z2.keeper.spdm) ∧ (z2.keeper.spdm < 3)) ∧ (((idn k7 [(MOD_STATUS_KEEPER_UP, 0)]).doeUp = true) ∧ ((idn k7
      [(MOD_STATUS_KEEPER_UP, 0)]).rb MOD_STATUS_KEEPER_UP = false)) ∧ ((z1.doeUp = true) ∧ (z1.rb
      MOD_STATUS_KEEPER_UP = true) ∧ (3 ≤ z1.keeper.spdm)) ∧ ((z1.doeUp = true) ∧ (z1.rb MOD_STATUS_KEEPER_UP =
      true) ∧ (3 ≤ z1.keeper.spdm) ∧ (measureIndices.contains 1 = true)) ∧ ((z3.pf0Writes 0 = true) ∧ (z3.pageReady
      pgSEC = true) ∧ ((BitVec.ofNat 64 (1 + 21067 * 2 ^ 48)).toNat.testBit 0 = true) ∧ (bits (BitVec.ofNat 64 (1 +
      21067 * 2 ^ 48)).toNat 48 16 = 21067) ∧ (((List.range 16).all fun n => z3.pst n == 0 || z3.pst n == 1) = true) ∧
      (z3.keeper.restore = none) ∧ (z3.rb SEC_STATUS_REKEYING = false) ∧ (z3.rb MOD_STATUS_KEEPER_UP = true) ∧
      (z3.keeper.load = none)) ∧ ((z4.rb SEC_STATUS_REKEYING = true) ∧ (z4.rb MOD_STATUS_KEEPER_UP = true) ∧
      (z4.frozen = false)) ∧ ((z5.pf0Writes 0 = true) ∧ (z5.pageReady pgSEC = true) ∧ (3 < 4) ∧
      (let st := bits (z5.rf SEC_IMGKEY_STATUS_STATES) (2 * 3) 2; st = 0) ∧ (z5.rf SEC_IMGKEY_STATUS_STATES < 256) ∧
      (let st := bits (z5.rf SEC_IMGKEY_STATUS_STATES) (2 * 3) 2; st ≠ 2)) := by
  decide +kernel

theorem test_Identity_2 :
    ((z6.pf0Writes 0 = true) ∧ (z6.pageReady pgSEC = true) ∧ (3 < 4) ∧
      (let st := bits (z6.rf SEC_IMGKEY_STATUS_STATES) (2 * 3) 2; st ≠ 0) ∧
      (let st := bits (z6.rf SEC_IMGKEY_STATUS_STATES) (2 * 3) 2; st ≠ 2) ∧ (z6.rf SEC_IMGKEY_STATUS_STATES < 256)) ∧
      ((z1.pf0Writes 0 = true) ∧ (z1.pageReady pgSEC = true) ∧ (3 < 4) ∧ (21077#16 ≠ 21078)) ∧ ((z7.pf0Writes 0 =
      true) ∧ (z7.pageReady pgSEC = true) ∧ (z7.rb SEC_JTAG_STATE_LOCKOUT = false)) ∧ ((z8.pf0Writes 0 = true) ∧
      (z8.pageReady pgSEC = true) ∧ (z8.rb SEC_JTAG_STATE_LOCKOUT = true)) ∧ ((z9.pf0Writes 0 = true) ∧ (z9.pageReady
      pgSEC = true) ∧ ((z9.at 5).liveNonce = none)) ∧ ((z10.pf0Writes 0 = true) ∧ (z10.pageReady pgSEC = true) ∧ (2 ≤
      3) ∧ (3 < 4) ∧ ((z10.at 59999999999).liveNonce = some 9) ∧ (z10.kept SEC_FUSE_STATE_DEBUG_KEY_SET = 1)) ∧
      ((z10.keeper.nonce = some (9, 0)) ∧ (0 + 60000000000 ≤ max z10.time 60000000000) ∧ (z10.rf SEC_JTAG_STATE_STATE
      = 1)) := by
  decide +kernel

theorem test_Connector :
    ((7 < 8) ∧ (z1.powered = true) ∧ (z1.keeper.bench = false)) ∧ ((z11.sensed 63 = true) ∧ (z11.warnC 63 ≤ 115) ∧
      ((z11.plain 63).warn = false) ∧ (z11.critC 63 ≤ 115) ∧ ((z11.plain 63).crit = false) ∧ (115 ≤ 115)) ∧
      ((w59_2_2.sensed 63 = true) ∧ (w59_2_2.warnC 63 ≤ 115) ∧ ((w59_2_2.plain 63).warn = true) ∧ (115 ≤ 115)) ∧
      ((z12.powered = true) ∧ (9 < z12.rf PWR_COOLANT_LIMITS_FLOW_MIN) ∧ (z12.keeper.flowBad = false) ∧ (z12.rf
      PWR_COOLANT_LIMITS_INLET_MAX_C < 46) ∧ (z12.keeper.hotInlet = false)) ∧ ((z1.smbusUp = true)) ∧ (((idn w59_4a_3
      []).smbusUp = true) ∧ (7 < 8) ∧ ((idn w59_4a_3 []).keeper.alert = true)) ∧ (((idn w59_4a_4 []).smbusUp = true) ∧
      (7 < 8) ∧ ((idn w59_4a_4 []).keeper.alert = false)) ∧ (((idn w59_4a_4 []).smbusUp = true) ∧ (7 = 0 ∨ 6 < 7)) ∧
      ((z13.keeper.vio = true) ∧ (z13.powered = true) ∧ (z13.tapTakes TapInstr.debug = false)) ∧ ((z14.keeper.vio =
      true) ∧ (z14.powered = true) ∧ (z14.tapTakes TapInstr.debug = true)) ∧ ((z1.powered = true)) := by
  decide +kernel

theorem test_SurfaceAndLatches_1 :
    ((z1.barUp 0 = true) ∧ (z1.frozen = false) ∧ (z1.pageReady pgFLT = true)) ∧ ((5 < 6) ∧ (z1.barUp 0 = true) ∧
      (z1.frozen = false) ∧ (z1.pageReady pgSEC = true)) ∧ ((4194304 ≤ 4194304)) ∧ ((63 < 64) ∧ ((msh []).barUp 0 =
      true) ∧ ((msh []).pageReady (plainPage 63 1) = true) ∧ ((msh []).rb (hCTRL_CNT_FREEZE (plainPage 63 1)) =
      false)) ∧ ((63 < 64) ∧ (w60_4_6.barUp 0 = true) ∧ (w60_4_6.pageReady (plainPage 63 1) = true) ∧ (w60_4_6.rb
      (hCTRL_CNT_FREEZE (plainPage 63 1)) = true)) ∧ ((spotOf 0 (pgFLT + 0x100) = .reg (pgFLT + 0x100)) ∧ ((pgFLT + 0x100) % 8 = 0) ∧
      (z1.barUp 0 = true) ∧ (z1.frozen = false)) ∧ ((spotOf 16 0x100 = .reg (partPage 15 0 + 0x100)) ∧ (zf.frozen = true) ∧
      (heldWrite (partPage 15 0 + 0x100) 1 = false)) := by
  decide +kernel

theorem test_SurfaceAndLatches_2 :
    ((z1.barUp 0 = true) ∧ (spotOf 0 (pgHST + 1) = .reg (pgHST + 1)) ∧
      (7 < 8 ∨ (7 = 8 ∧ (pgHST + 1) % 8 ≠ 0)) ∧ (inRegisters (pgHST + 1) = true) ∧ (z1.rf HST_BAD_ACCESS_BYTES = 0)) ∧
      (((idn k7 [(HST_BAD_ACCESS_BYTES, 4)]).barUp 0 = true) ∧ (8 < 8 ∨ (8 = 8 ∧ (pgHST + 1) % 8 ≠ 0)) ∧
      ((idn k7 [(HST_BAD_ACCESS_BYTES, 4)]).rf HST_BAD_ACCESS_BYTES ≠ 0)) ∧ ((z1.barUp 0 = true) ∧
      (spotOf 0 0x3FFFF8 = .reg 0x3FFFF8) ∧ (inRegisters 0x3FFFF8 = false)) ∧ ((z1.barUp 0 = true) ∧
      (spotOf 0 0x400000 = .none) ∧ (1 ≤ 7) ∧ (7 < 8)) ∧ ((z1.mayWrite 0 (pageBase (pgFLT + 5)) = true)) ∧
      ((15 < 16) ∧ (9 < 10) ∧
      ((idn k7 [(hSTATUS_READY (partPage 15 9), 1)]).writes 0 15 = true) ∧ ((15#64).toNat.testBit 1 = true)) ∧ ((16 ≤
      16) ∧ (z1.fnUp 0 = true)) ∧ ((w60_8_7.barUp 0 = true) ∧ (1 ≤ 8) ∧ (8 ≤ 8) ∧ (apertureHas 0 49144 = true) ∧
      (w60_8_7.apertureAt 0 49144 = some (0, 49144)) ∧ (0 < 262144) ∧ (w60_8_7.gated = false) ∧ (w60_8_7.plnState
      (plainOf 0) ≠ 4) ∧ (localOk 49144 8 = true) ∧ (areaOf 49144 = Area.desk) ∧ (w60_8_7.eccBad = []) ∧
      (w60_8_7.tileOpen 0 49144 8 = true) ∧ (w60_8_7.frozen = false)) := by
  decide +kernel

theorem test_SurfaceAndLatches_3 :
    ((z15.barUp 0 = true) ∧ (1 ≤ 8) ∧ (8 ≤ 8) ∧ (apertureHas 0 49144 = true) ∧ (z15.apertureAt 0 49144 = some (0,
      49144)) ∧ (0 < 262144) ∧ (z15.gated = false) ∧ (z15.plnState (plainOf 0) ≠ 4) ∧ (localOk 49144 8 = true) ∧
      (areaOf 49144 = Area.desk) ∧ (z15.eccBad = []) ∧ (z15.tileOpen 0 49144 8 = false)) ∧ ((z16.pf0Writes 0 = true) ∧
      (z16.pageReady pgHST = true) ∧ (z16.writes 0 15 = true) ∧ (z16.pageReady (partPage 15 0) = true)) ∧
      ((z17.latchReach (Owner.tile 5) 255 = true) ∧ (z17.latchGranted (Owner.tile 5) 255 = true) ∧ ((z17.latch 255).st
      = 0) ∧ (z17.discards (Owner.tile 5) = false) ∧ ((z17.latch 255).heldBy (Owner.tile 5) = false)) ∧ (((lat y1
      []).latchReach (Owner.tile 5) 255 = true) ∧ ((lat y1 []).latchGranted (Owner.tile 5) 255 = true) ∧ (((lat y1
      []).latch 255).st = 2) ∧ ((lat y1 []).discards (Owner.tile 5) = false) ∧ (((lat y1 []).latch 255).heldBy
      (Owner.tile 5) = false)) ∧ ((z18.latchReach (Owner.tile 5) 255 = true) ∧ (z18.latchGranted (Owner.tile 5) 255 =
      true) ∧ ((z18.latch 255).st = 1) ∧ ((z18.latch 255).heldBy (Owner.tile 5) = false) ∧ (z18.discards (Owner.tile
      5) = false)) ∧ ((z18.latchReach Owner.pf0 255 = true) ∧ (z18.latchGranted Owner.pf0 255 = true) ∧ (z18.discards
      Owner.pf0 = false) ∧ ((z18.latch 255).heldBy Owner.pf0 = true)) ∧ ((z18.latchReach Owner.pf0 255 = true) ∧
      (z18.discards Owner.pf0 = false) ∧ (Owner.pf0 = Owner.pf0) ∧ ((z18.latch 255).st = 1)) ∧ ((z18.latchReach
      (Owner.tile 5) 255 = true) ∧ (z18.discards (Owner.tile 5) = false) ∧ (Owner.tile 5 ≠ Owner.pf0)) := by
  decide +kernel

end Sys2Proof.Tests.Outside
end

/-! PROOF. Integer elements by value: reading an element back gives the one number in the range of its type that agrees with
its bits modulo 2^w, and O14 follows operation by operation. -/

namespace Sys2Proof.Machine

section

variable {ty : Nat}

/-! ### The range of an integer type -/

theorem tyBits_pos_of_le (h : ty ≤ 5) : 0 < tyBits ty := by
  interval_cases ty <;> decide

theorem two_pow_tyBits (hw : 0 < tyBits ty) : (2 : Int) ^ tyBits ty = 2 * 2 ^ (tyBits ty - 1) := by
  rw [← pow_succ', Nat.sub_add_cancel hw]

theorem tyRange_signed (hs : tySigned ty = true) :
    tyRange ty = (-(2 ^ (tyBits ty - 1) : Int), 2 ^ (tyBits ty - 1) - 1) := by
  simp [tyRange, hs]

theorem tyRange_unsigned (hs : tySigned ty = false) : tyRange ty = (0, 2 ^ tyBits ty - 1) := by
  simp [tyRange, hs]

/-- The range holds 0 and as many numbers as there are bit patterns. -/
theorem tyRange_spans (hw : 0 < tyBits ty) :
    (tyRange ty).1 ≤ 0 ∧ 0 ≤ (tyRange ty).2 ∧ (tyRange ty).2 = (tyRange ty).1 + 2 ^ tyBits ty - 1 := by
  have hpos : (0 : Int) < 2 ^ (tyBits ty - 1) := by positivity
  have htwo := two_pow_tyBits hw
  cases hs : tySigned ty with
  | true => simp only [tyRange_signed hs]; omega
  | false => simp only [tyRange_unsigned hs]; omega

/-- A number is one of the type's values. -/
def InTyRange (ty : Nat) (x : Int) : Prop := (tyRange ty).1 ≤ x ∧ x ≤ (tyRange ty).2

/-- Two values of a type that agree modulo 2^w are equal. -/
theorem InTyRange.eq_of_modEq {x y : Int} (hw : 0 < tyBits ty) (hx : InTyRange ty x) (hy : InTyRange ty y)
    (h : x ≡ y [ZMOD 2 ^ tyBits ty]) : x = y := by
  obtain ⟨-, -, hspan⟩ := tyRange_spans hw
  obtain ⟨hx1, hx2⟩ := hx
  obtain ⟨hy1, hy2⟩ := hy
  have hlt : |y - x| < 2 ^ tyBits ty := by rw [abs_lt]; omega
  have := Int.eq_zero_of_abs_lt_dvd h.dvd hlt
  omega

/-! ### Elements and their values -/

theorem natCast_mod_two_pow_modEq (v w : Nat) : ((v % 2 ^ w : Nat) : Int) ≡ v [ZMOD 2 ^ w] := by
  push_cast
  exact Int.mod_modEq _ _

theorem toSigned_modEq (v w : Nat) : toSigned v w ≡ v [ZMOD 2 ^ w] := by
  have hmod := natCast_mod_two_pow_modEq v w
  unfold toSigned
  split
  · exact hmod
  · exact (Int.modEq_sub_modulus_iff.mpr hmod.symm).symm

/-- An element's value agrees with its bits modulo 2^w. -/
theorem tyInt_modEq (ty v : Nat) : tyInt ty v ≡ v [ZMOD 2 ^ tyBits ty] := by
  unfold tyInt
  split
  · exact toSigned_modEq v _
  · exact natCast_mod_two_pow_modEq v _

theorem tyInt_inTyRange (hw : 0 < tyBits ty) (v : Nat) : InTyRange ty (tyInt ty v) := by
  have hlt : ((v % 2 ^ tyBits ty : Nat) : Int) < 2 ^ tyBits ty := by
    exact_mod_cast Nat.mod_lt v (Nat.two_pow_pos _)
  have htwo := two_pow_tyBits hw
  cases hs : tySigned ty with
  | true =>
    have hhalf : ((2 ^ (tyBits ty - 1) : Nat) : Int) = 2 ^ (tyBits ty - 1) := by push_cast; rfl
    simp only [InTyRange, tyRange_signed hs, tyInt, hs, if_true, toSigned]
    split <;> omega
  | false => simp only [InTyRange, tyRange_unsigned hs, tyInt, hs, Bool.false_eq_true, if_false]; omega

theorem ofSigned_modEq (v : Int) (w : Nat) : (ofSigned v w : Int) ≡ v [ZMOD 2 ^ w] := by
  have hne : ((2 ^ w : Nat) : Int) ≠ 0 := by positivity
  rw [ofSigned, Int.toNat_of_nonneg (Int.emod_nonneg v hne)]
  push_cast
  exact Int.mod_modEq _ _

/-- The bits of a number read back as the value of the type that it agrees with modulo 2^w. -/
theorem tyInt_ofSigned_of_modEq {v r : Int} (hw : 0 < tyBits ty) (hr : InTyRange ty r) (h : v ≡ r [ZMOD 2 ^ tyBits ty]) :
    tyInt ty (ofSigned v (tyBits ty)) = r :=
  (tyInt_inTyRange hw _).eq_of_modEq hw hr (((tyInt_modEq ty _).trans (ofSigned_modEq v _)).trans h)

theorem tyInt_ofSigned {v : Int} (hw : 0 < tyBits ty) (hv : InTyRange ty v) : tyInt ty (ofSigned v (tyBits ty)) = v :=
  tyInt_ofSigned_of_modEq hw hv rfl

/-! ### Wrapping operations (R113) -/

/-- A result taken modulo 2^w is known by the number that its bits agree with. -/
theorem tyInt_mod_sub_emod {n : Nat} {v : Int} (h : (n : Int) ≡ v [ZMOD 2 ^ tyBits ty]) :
    (tyInt ty (n % 2 ^ tyBits ty) - v) % 2 ^ tyBits ty = 0 :=
  Int.emod_eq_emod_iff_emod_sub_eq_zero.mp
    (((tyInt_modEq ty _).trans (natCast_mod_two_pow_modEq n _)).trans h)

theorem elAdd_wraps (ty a b : Nat) : (tyInt ty (elAdd ty a b).1 - (tyInt ty a + tyInt ty b)) % 2 ^ tyBits ty = 0 :=
  tyInt_mod_sub_emod (by push_cast; exact ((tyInt_modEq ty a).add (tyInt_modEq ty b)).symm)

theorem elMul_wraps (ty a b : Nat) : (tyInt ty (elMul ty a b).1 - tyInt ty a * tyInt ty b) % 2 ^ tyBits ty = 0 :=
  tyInt_mod_sub_emod (by push_cast; exact ((tyInt_modEq ty a).mul (tyInt_modEq ty b)).symm)

theorem elSub_wraps (ty a b : Nat) : (tyInt ty (elSub ty a b).1 - (tyInt ty a - tyInt ty b)) % 2 ^ tyBits ty = 0 := by
  refine tyInt_mod_sub_emod ?_
  have hb : b % 2 ^ tyBits ty ≤ a % 2 ^ tyBits ty + 2 ^ tyBits ty :=
    (Nat.mod_lt b (Nat.two_pow_pos _)).le.trans (Nat.le_add_left _ _)
  rw [Nat.cast_sub hb]
  push_cast
  calc (a : Int) % 2 ^ tyBits ty + 2 ^ tyBits ty - b % 2 ^ tyBits ty
      ≡ a + 0 - b [ZMOD 2 ^ tyBits ty] :=
        ((Int.mod_modEq _ _).add (Int.emod_self.trans (Int.zero_emod _).symm)).sub (Int.mod_modEq _ _)
    _ ≡ tyInt ty a - tyInt ty b [ZMOD 2 ^ tyBits ty] := by
        rw [add_zero]; exact ((tyInt_modEq ty a).sub (tyInt_modEq ty b)).symm

/-! ### Saturating operations (R113) -/

/-- A clamped result is the number itself within the range, and the nearer end of the range outside it. -/
theorem tyInt_clampInt (hw : 0 < tyBits ty) (v : Int) :
    tyInt ty (clampInt ty v).1 = max (tyRange ty).1 (min (tyRange ty).2 v) := by
  obtain ⟨hlo, hhi, -⟩ := tyRange_spans hw
  simp only [clampInt]
  split
  case isTrue hbelow => rw [tyInt_ofSigned hw ⟨le_rfl, by omega⟩]; omega
  case isFalse hlow =>
    split
    case isTrue habove => rw [tyInt_ofSigned hw ⟨by omega, le_rfl⟩]; omega
    case isFalse hhigh => rw [tyInt_ofSigned hw ⟨by omega, by omega⟩]; omega

theorem clampInt_sat_iff (ty : Nat) (v : Int) :
    (clampInt ty v).2.sat = true ↔ v < (tyRange ty).1 ∨ (tyRange ty).2 < v := by
  simp only [clampInt]
  split
  case isTrue hbelow => simp [hbelow]
  case isFalse hlow =>
    split
    case isTrue habove => simp [habove]
    case isFalse hhigh => simp [hlow, hhigh]

/-! ### Order, absolute value and shift (Table IS-4) -/

theorem tyInt_elMin (ty a b : Nat) : tyInt ty (elMin ty a b).1 = min (tyInt ty a) (tyInt ty b) := by
  simp only [elMin]
  split <;> omega

theorem tyInt_elMax (ty a b : Nat) : tyInt ty (elMax ty a b).1 = max (tyInt ty a) (tyInt ty b) := by
  simp only [elMax]
  split <;> omega

/-- The bits of 2^(w-1) are those of the least signed value, so ABS leaves that one unchanged. -/
theorem tyInt_elAbs_least {a : Nat} (hw : 0 < tyBits ty) (hs : tySigned ty = true) (ha : tyInt ty a = (tyRange ty).1) :
    tyInt ty (elAbs ty a).1 = (tyRange ty).1 := by
  obtain ⟨hlo, hhi, -⟩ := tyRange_spans hw
  refine tyInt_ofSigned_of_modEq (v := ((tyInt ty a).natAbs : Int)) hw ⟨le_rfl, by omega⟩ ?_
  have hdiff : (tyRange ty).1 - ((tyInt ty a).natAbs : Int) = 2 ^ tyBits ty * (-1) := by
    have htwo := two_pow_tyBits hw
    rw [tyRange_signed hs] at ha hlo ⊢
    simp only at ha hlo ⊢
    omega
  exact Int.modEq_iff_dvd.mpr ⟨-1, hdiff⟩

theorem tyInt_elAbs {a : Nat} (hw : 0 < tyBits ty) (h : ¬(tySigned ty = true ∧ tyInt ty a = (tyRange ty).1)) :
    tyInt ty (elAbs ty a).1 = ((tyInt ty a).natAbs : Int) := by
  obtain ⟨hlo, hhi⟩ := tyInt_inTyRange hw a
  have hneg : -(tyInt ty a) ≤ (tyRange ty).2 := by
    cases hs : tySigned ty with
    | true =>
      have hne : tyInt ty a ≠ (tyRange ty).1 := fun he => h ⟨hs, he⟩
      rw [tyRange_signed hs] at hlo hne ⊢
      simp only at hlo hne ⊢
      omega
    | false =>
      have hpos : (0 : Int) < 2 ^ tyBits ty := by positivity
      rw [tyRange_unsigned hs] at hlo ⊢
      simp only at hlo ⊢
      omega
  obtain ⟨hzero, -, -⟩ := tyRange_spans hw
  exact tyInt_ofSigned (v := ((tyInt ty a).natAbs : Int)) hw ⟨by omega, by omega⟩

/-- Division by a power of two, rounded towards minus infinity, stays in the range. -/
theorem InTyRange.ediv_two_pow {x : Int} (hw : 0 < tyBits ty) (hx : InTyRange ty x) (n : Nat) :
    InTyRange ty (x / 2 ^ n) := by
  obtain ⟨hlo, hhi, -⟩ := tyRange_spans hw
  obtain ⟨hx1, hx2⟩ := hx
  have hone : (1 : Int) ≤ 2 ^ n := one_le_pow₀ (by norm_num)
  constructor
  · rw [Int.le_ediv_iff_mul_le (by omega)]; nlinarith
  · rw [← Int.lt_add_one_iff, Int.ediv_lt_iff_lt_mul (by omega)]; nlinarith

theorem tyInt_elShr (hw : 0 < tyBits ty) (a b : Nat) :
    tyInt ty (elShr ty a b).1 = tyInt ty a / 2 ^ (b % tyBits ty) :=
  tyInt_ofSigned hw ((tyInt_inTyRange hw a).ediv_two_pow hw _)

end

/-- Settles O14: each operation's value by its lemma above, for every integer type of Table IS-2. -/
theorem integerValues : Obligations.IntegerValues := by
  unfold Obligations.IntegerValues
  intro ty hty a b _ _
  have hw := tyBits_pos_of_le hty
  refine ⟨elAdd_wraps ty a b, elSub_wraps ty a b, elMul_wraps ty a b, rfl, rfl, rfl, tyInt_clampInt hw _,
    clampInt_sat_iff ty _, tyInt_clampInt hw _, clampInt_sat_iff ty _, tyInt_elMin ty a b, tyInt_elMax ty a b, ?_,
    tyInt_elShr hw a b⟩
  split
  case isTrue hleast => exact tyInt_elAbs_least hw hleast.1 hleast.2
  case isFalse hother => exact tyInt_elAbs hw hother

end Sys2Proof.Machine

/-! PROOF. The control instructions of format C on a ready core: one lemma for each way that one of them ends (R87, R126,
R127). -/

namespace Sys2Proof.Machine

section

variable {s : State} {t k : Nat} {g : Guard} {a : CArgs}

/-- The count of a LOOP: RN with CSRC 1, COUNT with CSRC 0 (R126). -/
def State.loopCount (s : State) (t : Nat) (a : CArgs) : Nat :=
  if a.csrc = 1 then ((s.tile t).sreg a.rn.toNat).toNat else a.count.toNat

theorem exec_nop_ready (h : CoreReady s t k) (hd : cPlainDecodes g a = true) :
    exec (.nop t g a) s = .next (s.retire t k) := by
  rw [show exec (.nop t g a) s = execNop t g a s from rfl, execNop, hd, issue_ready h]
  rfl

theorem exec_tend_ready (h : CoreReady s t k) (hd : cPlainDecodes g a = true) :
    exec (.tend t g a) s = .next (s.leaveTask t k 1 false) := by
  rw [show exec (.tend t g a) s = execTend t g a s from rfl, execTend, hd, issue_ready h]
  rfl

theorem exec_tyield_ready (h : CoreReady s t k) (hd : cPlainDecodes g a = true) :
    exec (.tyield t g a) s = .next ((s.retire t k).leaveTask t k
      (if s.fits t ((s.tile t).task k).inMask ((s.tile t).task k).outMask ((s.tile t).task k).quantum then 2 else 1)
      true) := by
  rw [show exec (.tyield t g a) s = execTyield t g a s from rfl, execTyield, hd, issue_ready h]
  rfl

theorem exec_jmp_ready (h : CoreReady s t k) (hd : jmpDecodes g a = true) :
    exec (.jmp t g a) s = .next (s.setPc t k a.target.toNat) := by
  rw [show exec (.jmp t g a) s = execJmp t g a s from rfl, execJmp, hd, issue_ready h]
  rfl

/-- A TARGET not after the LOOP itself does not decode. -/
theorem loopDecodes_eq_false {pc : Nat} (h : a.target.toNat ≤ pc) : loopDecodes g a pc = false := by
  simp [loopDecodes, Nat.not_lt.mpr h]

/-- A TARGET after the LEND itself does not decode. -/
theorem lendDecodes_eq_false {pc : Nat} (h : pc < a.target.toNat) : lendDecodes g a pc = false := by
  simp [lendDecodes, Nat.not_le.mpr h]

/-- LOOP on its own count (R126). -/
theorem exec_loop_eq (t : Nat) (g : Guard) (a : CArgs) (s : State) :
    exec (.loop t g a) s = .next (s.issue t (loopDecodes g a (s.pcOf t)) fun _ =>
      if s.loopCount t a = 0 then
        .jump (s.updTile t fun x => x.wsreg a.rc.toNat (BitVec.ofNat 32 (s.loopCount t a))) (a.target.toNat + 1)
      else .done (s.updTile t fun x => x.wsreg a.rc.toNat (BitVec.ofNat 32 (s.loopCount t a)))) := rfl

theorem exec_loop_enters (h : CoreReady s t k) (hd : loopDecodes g a (s.rf (TILE_TASK_STATE_PC t k)) = true)
    (hn : s.loopCount t a ≠ 0) :
    exec (.loop t g a) s =
      .next ((s.updTile t fun x => x.wsreg a.rc.toNat (BitVec.ofNat 32 (s.loopCount t a))).retire t k) := by
  rw [exec_loop_eq, pcOf_ready h, hd, issue_ready h, if_neg hn]
  rfl

theorem exec_loop_skips (h : CoreReady s t k) (hd : loopDecodes g a (s.rf (TILE_TASK_STATE_PC t k)) = true)
    (hn : s.loopCount t a = 0) :
    exec (.loop t g a) s =
      .next ((s.updTile t fun x => x.wsreg a.rc.toNat 0).setPc t k (a.target.toNat + 1)) := by
  rw [exec_loop_eq, pcOf_ready h, hd, issue_ready h, if_pos hn, hn]
  rfl

theorem exec_loop_undecoded (h : CoreReady s t k) (ht : a.target.toNat ≤ s.rf (TILE_TASK_STATE_PC t k)) :
    exec (.loop t g a) s = .next (s.taskFault t k 0x1001) := by
  rw [exec_loop_eq, pcOf_ready h, loopDecodes_eq_false ht, issue_undecoded h]

/-- The counter that an LEND reads (R126). -/
def State.loopCounter (s : State) (t : Nat) (a : CArgs) : Nat := ((s.tile t).sreg a.rc.toNat).toNat

/-- LEND on its loop counter (R126). -/
theorem exec_lend_eq (t : Nat) (g : Guard) (a : CArgs) (s : State) :
    exec (.lend t g a) s = .next (s.issue t (lendDecodes g a (s.pcOf t)) fun _ =>
      if 1 < s.loopCounter t a then
        .jump (s.updTile t fun x => x.wsreg a.rc.toNat (BitVec.ofNat 32 (s.loopCounter t a - 1))) a.target.toNat
      else .done (s.updTile t fun x => x.wsreg a.rc.toNat 0)) := rfl

theorem exec_lend_branches (h : CoreReady s t k) (hd : lendDecodes g a (s.rf (TILE_TASK_STATE_PC t k)) = true)
    (hc : 1 < s.loopCounter t a) :
    exec (.lend t g a) s = .next ((s.updTile t fun x =>
      x.wsreg a.rc.toNat (BitVec.ofNat 32 (s.loopCounter t a - 1))).setPc t k a.target.toNat) := by
  rw [exec_lend_eq, pcOf_ready h, hd, issue_ready h, if_pos hc]
  rfl

theorem exec_lend_falls_through (h : CoreReady s t k) (hd : lendDecodes g a (s.rf (TILE_TASK_STATE_PC t k)) = true)
    (hc : s.loopCounter t a ≤ 1) :
    exec (.lend t g a) s = .next ((s.updTile t fun x => x.wsreg a.rc.toNat 0).retire t k) := by
  rw [exec_lend_eq, pcOf_ready h, hd, issue_ready h, if_neg (Nat.not_lt.mpr hc)]
  rfl

theorem exec_lend_undecoded (h : CoreReady s t k) (ht : s.rf (TILE_TASK_STATE_PC t k) < a.target.toNat) :
    exec (.lend t g a) s = .next (s.taskFault t k 0x1001) := by
  rw [exec_lend_eq, pcOf_ready h, lendDecodes_eq_false ht, issue_undecoded h]

end

/-- Settles O17, clause by clause: on a ready core each control instruction ends in one of the ways above. -/
theorem controlFlow : Obligations.ControlFlow := by
  unfold Obligations.ControlFlow
  intro s t k g a h
  exact ⟨exec_nop_ready h, exec_tend_ready h, exec_tyield_ready h, exec_loop_enters h, exec_loop_skips h,
    exec_lend_branches h, exec_lend_falls_through h, exec_loop_undecoded h, exec_lend_undecoded h, exec_jmp_ready h⟩

end Sys2Proof.Machine

/-! PROOF. Words that do not decode (R110, R111), and the fault that they raise. -/

namespace Sys2Proof.Machine

/-- A word with a reserved field that is not zero does not decode (R110). -/
theorem decodeTile_of_not_reservedOk {w : BitVec 64} (h : reservedOk w = false) (t pc : Nat) (pd : Bool) :
    decodeTile t pc pd w = none := by
  simp [decodeTile, h]

theorem reservedOk_of_bit7 {w : BitVec 64} (h : fld64 w 7 1 ≠ 0) : reservedOk w = false := by
  have hbit : (fld64 w 7 1 == 0) = false := beq_eq_false_iff_ne.mpr h
  rw [reservedOk, hbit, Bool.false_and]

theorem decodeTile_of_format_ge (t pc : Nat) (pd : Bool) {w : BitVec 64} (h : 6 ≤ (fld64 w 0 3).toNat) :
    decodeTile t pc pd w = none := by
  have hlt : (fld64 w 0 3).toNat < 8 := (fld64 w 0 3).isLt
  unfold decodeTile
  obtain h6 | h7 : (fld64 w 0 3).toNat = 6 ∨ (fld64 w 0 3).toNat = 7 := by omega
  · simp [h6]
  · simp [h7]

/-- GP and GN together are the four bits from bit 3. -/
theorem cGuardOk_wordGuard (w : BitVec 64) : cGuardOk (wordGuard w) = true ↔ fld64 w 3 4 = 0 := by
  simp only [cGuardOk, wordGuard, fld64, Bool.and_eq_true, beq_iff_eq, ← BitVec.toNat_inj, BitVec.ofNat_eq_ofNat,
    BitVec.toNat_ofNat, Nat.zero_mod]
  omega

/-- No opcode of format C decodes under a guard (R111). -/
theorem cOp_not_decodes_of_guard {op pc : Nat} {g : Guard} {a : CArgs} {r : Bool × (Nat → Guard → CArgs → Instr)}
    (hg : cGuardOk g = false) (h : cOp op g a pc = some r) : r.1 = false := by
  unfold cOp at h
  split at h <;> cases h <;> simp [cPlainDecodes, loopDecodes, lendDecodes, jmpDecodes, hg]

theorem decodeTile_of_guarded_c (t pc : Nat) (pd : Bool) {w : BitVec 64} (hf : fld64 w 0 3 = 4) (hg : fld64 w 3 4 ≠ 0) :
    decodeTile t pc pd w = none := by
  have hguard : cGuardOk (wordGuard w) = false := by
    rw [← Bool.not_eq_true, cGuardOk_wordGuard]; exact hg
  unfold decodeTile
  rw [hf]
  cases hop : cOp (fld64 w 8 8).toNat (wordGuard w) (wordC w) pc with
  | none => simp [hop]
  | some r => simp [hop, cOp_not_decodes_of_guard hguard hop]

/-- The command of a word that does not decode faults on a ready core, whatever the word's guard. -/
theorem exec_illegalInstruction_ready {s : State} {t k : Nat} {w : BitVec 64} (h : CoreReady s t k)
    (hw : decodeTile t (s.rf (TILE_TASK_STATE_PC t k)) ((s.gang t).testBit 11) w = none) :
    exec (.illegalInstruction t w) s = .next (s.taskFault t k 0x1001) := by
  rw [show exec (.illegalInstruction t w) s = execIllegalInstruction t w s from rfl, execIllegalInstruction,
    pcOf_ready h, hw, issue_undecoded h]
  rfl

/-- Settles O10: the fault at issue, and the three ways named in which a word fails to decode. -/
theorem illegalInstructionFaults : Obligations.IllegalInstructionFaults := by
  unfold Obligations.IllegalInstructionFaults
  exact ⟨fun _ _ _ _ h hw => exec_illegalInstruction_ready h hw,
    fun t pc pd _ h => decodeTile_of_format_ge t pc pd h,
    fun t pc pd _ h => decodeTile_of_not_reservedOk (reservedOk_of_bit7 h) t pc pd,
    fun t pc pd _ hf hg => decodeTile_of_guarded_c t pc pd hf hg⟩

end Sys2Proof.Machine

/-! PROOF. Tile instruction words: the fields of an encoded word are its operands, and a word that decodes is put together
again from its fields (R109 to R111). -/

namespace Sys2Proof.Machine

/-! ### A word as a row of fields -/

/-- A number laid out as fields, each a width and a value, lowest first. -/
def packFields : List (Nat × Nat) → Nat
  | [] => 0
  | (n, v) :: l => v + 2 ^ n * packFields l

/-- The bits that the fields take. -/
def fieldsWidth (l : List (Nat × Nat)) : Nat := (l.map (·.1)).sum

/-- Every value fits in its field. -/
def FieldsFit (l : List (Nat × Nat)) : Prop := ∀ f ∈ l, f.2 < 2 ^ f.1

theorem packFields_lt {l : List (Nat × Nat)} (h : FieldsFit l) : packFields l < 2 ^ fieldsWidth l := by
  induction l with
  | nil => simp [packFields, fieldsWidth]
  | cons f l ih =>
    obtain ⟨n, v⟩ := f
    have hv : v < 2 ^ n := h _ List.mem_cons_self
    have hl : packFields l + 1 ≤ 2 ^ fieldsWidth l := ih fun g hg => h g (List.mem_cons_of_mem _ hg)
    have hw : fieldsWidth ((n, v) :: l) = n + fieldsWidth l := by simp [fieldsWidth]
    calc v + 2 ^ n * packFields l < 2 ^ n * (packFields l + 1) := by rw [Nat.mul_add]; omega
      _ ≤ 2 ^ n * 2 ^ fieldsWidth l := Nat.mul_le_mul_left _ hl
      _ = 2 ^ fieldsWidth ((n, v) :: l) := by rw [hw, pow_add]

/-- Each of the fields stands in the word, one after the other from bit `lo`. -/
def ReadsAt (w : BitVec 64) : Nat → List (Nat × Nat) → Prop
  | _, [] => True
  | lo, (n, v) :: l => fld64 w lo n = BitVec.ofNat n v ∧ ReadsAt w (lo + n) l

theorem readsAt_of_div {w : BitVec 64} {l : List (Nat × Nat)} {lo : Nat} (hfit : FieldsFit l)
    (h : w.toNat / 2 ^ lo = packFields l) : ReadsAt w lo l := by
  induction l generalizing lo with
  | nil => trivial
  | cons f l ih =>
    obtain ⟨n, v⟩ := f
    have hv : v < 2 ^ n := hfit _ List.mem_cons_self
    refine ⟨?_, ih (fun g hg => hfit g (List.mem_cons_of_mem _ hg)) ?_⟩
    · apply BitVec.eq_of_toNat_eq
      simp [fld64, h, packFields, Nat.add_mul_mod_self_left]
    · rw [pow_add, ← Nat.div_div_eq_div_mul, h, packFields, Nat.add_mul_div_left _ _ (Nat.two_pow_pos _),
        Nat.div_eq_of_lt hv, zero_add]

/-- The fields that a word is made of are read back from it. -/
theorem readsAt_packFields {l : List (Nat × Nat)} (hfit : FieldsFit l) (h64 : fieldsWidth l ≤ 64) :
    ReadsAt (BitVec.ofNat 64 (packFields l)) 0 l := by
  refine readsAt_of_div hfit ?_
  have hlt : packFields l < 2 ^ 64 := (packFields_lt hfit).trans_le (pow_le_pow_right₀ (by omega) h64)
  rw [BitVec.toNat_ofNat, Nat.mod_eq_of_lt hlt, pow_zero, Nat.div_one]

/-- A number cut into fields of the given widths, lowest first. -/
def cutFields (v : Nat) : List Nat → List (Nat × Nat)
  | [] => []
  | n :: l => (n, v % 2 ^ n) :: cutFields (v / 2 ^ n) l

theorem packFields_cutFields (v : Nat) (l : List Nat) : packFields (cutFields v l) = v % 2 ^ l.sum := by
  induction l generalizing v with
  | nil => simp [packFields, cutFields, Nat.mod_one]
  | cons n l ih => simp only [cutFields, packFields, ih, List.sum_cons, pow_add, Nat.mod_mul]

/-- A word is put together again from fields that take all of its 64 bits. -/
theorem ofNat_packFields_cutFields (w : BitVec 64) {l : List Nat} (h : l.sum = 64) :
    BitVec.ofNat 64 (packFields (cutFields w.toNat l)) = w := by
  apply BitVec.eq_of_toNat_eq
  rw [packFields_cutFields, h, BitVec.toNat_ofNat, Nat.mod_mod, Nat.mod_eq_of_lt w.isLt]

/-! ### The common head (Table IS-1) -/

/-- FORMAT, GP, GN, the reserved bit 7 and OP. -/
def headFields (fmt op : Nat) (g : Guard) : List (Nat × Nat) :=
  [(3, fmt), (3, g.gp.toNat), (1, g.gn.toNat), (1, 0), (8, op)]

theorem fieldsFit_nil : FieldsFit [] := by simp [FieldsFit]

theorem fieldsFit_cons {n v : Nat} {l : List (Nat × Nat)} : FieldsFit ((n, v) :: l) ↔ v < 2 ^ n ∧ FieldsFit l := by
  simp [FieldsFit]

section

variable {fmt op : Nat} {g : Guard} {l : List (Nat × Nat)}

theorem fieldsFit_headFields (hf : fmt < 8) (ho : op < 256) (hl : FieldsFit l) : FieldsFit (headFields fmt op g ++ l) := by
  simp only [headFields, List.cons_append, List.nil_append, fieldsFit_cons]
  exact ⟨hf, g.gp.isLt, g.gn.isLt, Nat.two_pow_pos _, ho, hl⟩

/-- A word laid out behind the common head. -/
def layWord (fmt op : Nat) (g : Guard) (l : List (Nat × Nat)) : BitVec 64 :=
  BitVec.ofNat 64 (packFields (headFields fmt op g ++ l))

theorem readsAt_layWord (hf : fmt < 8) (ho : op < 256) (hl : FieldsFit l) (h64 : fieldsWidth l ≤ 48) :
    ReadsAt (layWord fmt op g l) 0 (headFields fmt op g ++ l) := by
  refine readsAt_packFields (fieldsFit_headFields hf ho hl) ?_
  simp only [fieldsWidth, headFields, List.cons_append, List.nil_append, List.map_cons, List.sum_cons] at h64 ⊢
  omega

end

/-! ### Formats -/

/-- Table IS-3 behind the head, with an immediate. -/
def fImmFields (a : FArgs) : List (Nat × Nat) :=
  [(5, a.rd.toNat), (5, a.ra.toNat), (1, a.kind.toNat), (1, a.i.toNat), (4, a.t.toNat), (32, a.imm.toNat)]

/-- Table IS-3 behind the head, with RB, RC, TS and SCALE. -/
def fRegFields (a : FArgs) : List (Nat × Nat) :=
  [(5, a.rd.toNat), (5, a.ra.toNat), (1, a.kind.toNat), (1, a.i.toNat), (4, a.t.toNat), (5, a.rb.toNat),
   (5, a.rc.toNat), (4, a.ts.toNat), (8, a.scale.toNat), (10, 0)]

/-- Table IS-5 behind the head. -/
def mFields (a : MArgs) : List (Nat × Nat) :=
  [(5, a.r.toNat), (5, a.rb.toNat), (3, a.sz.toNat), (2, a.space.toNat), (1, 0), (6, a.h.toNat), (3, a.q.toNat), (3, 0),
   (20, a.off.toNat)]

/-- Table IS-7 behind the head. -/
def qFields (a : QArgs) : List (Nat × Nat) :=
  [(5, a.r.toNat), (3, a.qn.toNat), (1, a.side.toNat), (5, a.rb.toNat), (14, 0), (20, a.off.toNat)]

/-- Table IS-9 behind the head. -/
def xFields (a : XArgs) : List (Nat × Nat) :=
  [(2, a.acc.toNat), (1, a.wb.toNat), (3, a.fa.toNat), (3, a.fb.toNat), (1, a.za.toNat), (1, a.dq.toNat),
   (3, a.qa.toNat), (5, a.rb.toNat), (7, a.stride.toNat), (3, a.qo.toNat), (4, a.t.toNat), (8, a.scale.toNat),
   (4, a.row.toNat), (2, a.spm.toNat), (1, a.spb.toNat)]

/-- Table IS-11 behind the head. -/
def cFields (a : CArgs) : List (Nat × Nat) :=
  [(5, a.rc.toNat), (1, a.csrc.toNat), (5, a.rn.toNat), (13, a.target.toNat), (24, a.count.toNat)]

/-- Table IS-13 behind the head. -/
def sFields (a : SArgs) : List (Nat × Nat) :=
  [(5, a.rd.toNat), (5, a.ra.toNat), (5, a.rb.toNat), (5, a.rc.toNat), (3, a.rop.toNat), (1, a.fv.toNat),
   (6, a.h.toNat), (3, a.sd.toNat), (15, 0)]

section

variable {op : Nat} {g : Guard}

theorem fieldsFit_fImmFields (a : FArgs) : FieldsFit (fImmFields a) := by
  simp only [fImmFields, fieldsFit_cons, fieldsFit_nil, BitVec.isLt, and_self]

theorem fieldsFit_fRegFields (a : FArgs) : FieldsFit (fRegFields a) := by
  simp only [fRegFields, fieldsFit_cons, fieldsFit_nil, BitVec.isLt, Nat.two_pow_pos, and_self]

theorem fieldsFit_mFields (a : MArgs) : FieldsFit (mFields a) := by
  simp only [mFields, fieldsFit_cons, fieldsFit_nil, BitVec.isLt, Nat.two_pow_pos, and_self]

theorem fieldsFit_qFields (a : QArgs) : FieldsFit (qFields a) := by
  simp only [qFields, fieldsFit_cons, fieldsFit_nil, BitVec.isLt, Nat.two_pow_pos, and_self]

theorem fieldsFit_xFields (a : XArgs) : FieldsFit (xFields a) := by
  simp only [xFields, fieldsFit_cons, fieldsFit_nil, BitVec.isLt, and_self]

theorem fieldsFit_cFields (a : CArgs) : FieldsFit (cFields a) := by
  simp only [cFields, fieldsFit_cons, fieldsFit_nil, BitVec.isLt, and_self]

theorem fieldsFit_sFields (a : SArgs) : FieldsFit (sFields a) := by
  simp only [sFields, fieldsFit_cons, fieldsFit_nil, BitVec.isLt, Nat.two_pow_pos, and_self]

/-! Each encoder lays its fields out one after the other. -/

theorem encF_eq_layWord_imm {a : FArgs} (hi : a.i = 1) : encF op g a = layWord 0 op g (fImmFields a) := by
  simp only [encF, encHead, layWord, headFields, fImmFields, packFields, List.cons_append, List.nil_append, if_pos hi]
  exact congrArg (BitVec.ofNat 64) (by ring)

theorem encF_eq_layWord_reg {a : FArgs} (hi : a.i ≠ 1) : encF op g a = layWord 0 op g (fRegFields a) := by
  simp only [encF, encHead, layWord, headFields, fRegFields, packFields, List.cons_append, List.nil_append, if_neg hi]
  exact congrArg (BitVec.ofNat 64) (by ring)

theorem encM_eq_layWord (a : MArgs) : encM op g a = layWord 1 op g (mFields a) := by
  simp only [encM, encHead, layWord, headFields, mFields, packFields, List.cons_append, List.nil_append]
  exact congrArg (BitVec.ofNat 64) (by ring)

theorem encQ_eq_layWord (a : QArgs) : encQ op g a = layWord 2 op g (qFields a) := by
  simp only [encQ, encHead, layWord, headFields, qFields, packFields, List.cons_append, List.nil_append]
  exact congrArg (BitVec.ofNat 64) (by ring)

theorem encX_eq_layWord (a : XArgs) : encX op g a = layWord 3 op g (xFields a) := by
  simp only [encX, encHead, layWord, headFields, xFields, packFields, List.cons_append, List.nil_append]
  exact congrArg (BitVec.ofNat 64) (by ring)

theorem encC_eq_layWord (a : CArgs) : encC op g a = layWord 4 op g (cFields a) := by
  simp only [encC, encHead, layWord, headFields, cFields, packFields, List.cons_append, List.nil_append]
  exact congrArg (BitVec.ofNat 64) (by ring)

theorem encS_eq_layWord (a : SArgs) : encS op g a = layWord 5 op g (sFields a) := by
  simp only [encS, encHead, layWord, headFields, sFields, packFields, List.cons_append, List.nil_append]
  exact congrArg (BitVec.ofNat 64) (by ring)

end

/-! ### An encoded word decodes to its instruction -/

/-- What the head of a word says (Table IS-1), with the reserved bit 7 zero. -/
structure HeadReads (w : BitVec 64) (fmt op : Nat) (g : Guard) : Prop where
  format : (fld64 w 0 3).toNat = fmt
  guard : wordGuard w = g
  bit7 : fld64 w 7 1 = 0
  opcode : (fld64 w 8 8).toNat = op

section

variable {fmt op : Nat} {g : Guard} {l : List (Nat × Nat)} {w : BitVec 64}

theorem headReads_of_readsAt (hf : fmt < 8) (ho : op < 256) (h : ReadsAt w 0 (headFields fmt op g ++ l)) :
    HeadReads w fmt op g := by
  simp only [headFields, List.cons_append, List.nil_append, ReadsAt, BitVec.ofNat_toNat, BitVec.setWidth_eq] at h
  obtain ⟨hfmt, hgp, hgn, h7, hop, -⟩ := h
  exact
    { format := by rw [hfmt, BitVec.toNat_ofNat, Nat.mod_eq_of_lt hf]
      guard := by simp only [wordGuard, hgp, hgn]
      bit7 := h7
      opcode := by rw [hop, BitVec.toNat_ofNat, Nat.mod_eq_of_lt ho] }

/-- The fields behind the head stand from bit 16. -/
theorem readsAt_behind_head (h : ReadsAt w 0 (headFields fmt op g ++ l)) : ReadsAt w 16 l := by
  simp only [headFields, List.cons_append, List.nil_append, ReadsAt] at h
  exact h.2.2.2.2.2

end

theorem fOp_lt {op : Nat} {r : FSpec × (Nat → Guard → FArgs → Instr)} (h : fOp op = some r) : op < 256 := by
  unfold fOp at h; split at h <;> simp_all

theorem mOp_lt {op : Nat} {a : MArgs} {r : Bool × (Nat → Guard → MArgs → Instr)} (h : mOp op a = some r) : op < 256 := by
  unfold mOp at h; split at h <;> simp_all

theorem qOp_lt {op : Nat} {a : QArgs} {r : Bool × (Nat → Guard → QArgs → Instr)} (h : qOp op a = some r) : op < 256 := by
  unfold qOp at h; split at h <;> simp_all

theorem xOp_lt {op : Nat} {a : XArgs} {pd : Bool} {r : Bool × (Nat → Guard → XArgs → Instr)} (h : xOp op a pd = some r) :
    op < 256 := by
  unfold xOp at h; split at h <;> simp_all

theorem cOp_lt {op pc : Nat} {g : Guard} {a : CArgs} {r : Bool × (Nat → Guard → CArgs → Instr)}
    (h : cOp op g a pc = some r) : op < 256 := by
  unfold cOp at h; split at h <;> simp_all

theorem sOp_lt {op : Nat} {a : SArgs} {r : Bool × (Nat → Guard → SArgs → Instr)} (h : sOp op a = some r) : op < 256 := by
  unfold sOp at h; split at h <;> simp_all

section

variable {op t pc : Nat} {pd : Bool} {g : Guard}

/-! Format F (Table IS-3): with an immediate, and without one. -/

theorem readsAt_encF_imm (ho : op < 256) {a : FArgs} (hi : a.i = 1) :
    ReadsAt (encF op g a) 0 (headFields 0 op g ++ fImmFields a) := by
  rw [encF_eq_layWord_imm hi]
  exact readsAt_layWord (by omega) ho (fieldsFit_fImmFields a) (by simp [fieldsWidth, fImmFields])

theorem readsAt_encF_reg (ho : op < 256) {a : FArgs} (hi : a.i ≠ 1) :
    ReadsAt (encF op g a) 0 (headFields 0 op g ++ fRegFields a) := by
  rw [encF_eq_layWord_reg hi]
  exact readsAt_layWord (by omega) ho (fieldsFit_fRegFields a) (by simp [fieldsWidth, fRegFields])

theorem wordF_encF_imm (ho : op < 256) {a : FArgs} (hi : a.i = 1) (hz : a.rb = 0 ∧ a.rc = 0 ∧ a.ts = 0 ∧ a.scale = 0) :
    wordF (encF op g a) = a ∧ reservedOk (encF op g a) = true := by
  have hhead := headReads_of_readsAt (by omega) ho (readsAt_encF_imm (g := g) ho hi)
  have hl := readsAt_behind_head (readsAt_encF_imm (g := g) ho hi)
  simp only [fImmFields, ReadsAt, BitVec.ofNat_toNat, BitVec.setWidth_eq] at hl
  obtain ⟨hrd, hra, hkind, hi', ht, himm, -⟩ := hl
  obtain ⟨hrb, hrc, hts, hscale⟩ := hz
  constructor
  · change _ = FArgs.mk a.rd a.ra a.kind a.i a.t a.rb a.rc a.ts a.scale a.imm
    simp only [wordF, hrd, hra, hkind, hi', ht, himm, if_pos hi, hrb, hrc, hts, hscale]
  · simp [reservedOk, hhead.bit7, hhead.format, hi', hi]

theorem wordF_encF_reg (ho : op < 256) {a : FArgs} (hi : a.i ≠ 1) (hz : a.imm = 0) :
    wordF (encF op g a) = a ∧ reservedOk (encF op g a) = true := by
  have hhead := headReads_of_readsAt (by omega) ho (readsAt_encF_reg (g := g) ho hi)
  have hl := readsAt_behind_head (readsAt_encF_reg (g := g) ho hi)
  simp only [fRegFields, ReadsAt, BitVec.ofNat_toNat, BitVec.setWidth_eq] at hl
  obtain ⟨hrd, hra, hkind, hi', ht, hrb, hrc, hts, hscale, hres, -⟩ := hl
  constructor
  · change _ = FArgs.mk a.rd a.ra a.kind a.i a.t a.rb a.rc a.ts a.scale a.imm
    simp only [wordF, hrd, hra, hkind, hi', ht, hrb, hrc, hts, hscale, if_neg hi, hz]
  · simp [reservedOk, hhead.bit7, hhead.format, hres]

theorem decodeTile_encF {a : FArgs} {r : FSpec × (Nat → Guard → FArgs → Instr)} (h : fOp op = some r)
    (hd : fDecodes r.1 a = true)
    (hz : if a.i = 1 then a.rb = 0 ∧ a.rc = 0 ∧ a.ts = 0 ∧ a.scale = 0 else a.imm = 0) :
    decodeTile t pc pd (encF op g a) = some (r.2 t g a) := by
  have ho := fOp_lt h
  have hread : wordF (encF op g a) = a ∧ reservedOk (encF op g a) = true ∧ HeadReads (encF op g a) 0 op g := by
    split at hz
    case isTrue hi =>
      obtain ⟨hw, hok⟩ := wordF_encF_imm (g := g) ho hi hz
      exact ⟨hw, hok, headReads_of_readsAt (by omega) ho (readsAt_encF_imm ho hi)⟩
    case isFalse hi =>
      obtain ⟨hw, hok⟩ := wordF_encF_reg (g := g) ho hi hz
      exact ⟨hw, hok, headReads_of_readsAt (by omega) ho (readsAt_encF_reg ho hi)⟩
  obtain ⟨hw, hok, hhead⟩ := hread
  simp [decodeTile, hok, hhead.format, hhead.opcode, hhead.guard, h, hw, hd]

/-! Formats M, Q, X, C and S (Tables IS-5, IS-7, IS-9, IS-11, IS-13). -/

theorem readsAt_encM (ho : op < 256) (a : MArgs) : ReadsAt (encM op g a) 0 (headFields 1 op g ++ mFields a) := by
  rw [encM_eq_layWord]
  exact readsAt_layWord (by omega) ho (fieldsFit_mFields a) (by simp [fieldsWidth, mFields])

theorem decodeTile_encM {a : MArgs} {mk : Nat → Guard → MArgs → Instr} (h : mOp op a = some (true, mk)) :
    decodeTile t pc pd (encM op g a) = some (mk t g a) := by
  have hread := readsAt_encM (g := g) (mOp_lt h) a
  have hhead := headReads_of_readsAt (by omega) (mOp_lt h) hread
  have hl := readsAt_behind_head hread
  simp only [mFields, ReadsAt, BitVec.ofNat_toNat, BitVec.setWidth_eq] at hl
  obtain ⟨hr, hrb, hsz, hspace, hres1, hh, hq, hres2, hoff, -⟩ := hl
  have hw : wordM (encM op g a) = a := by
    change _ = MArgs.mk a.r a.rb a.sz a.space a.h a.q a.off
    simp only [wordM, hr, hrb, hsz, hspace, hh, hq, hoff]
  have hok : reservedOk (encM op g a) = true := by simp [reservedOk, hhead.bit7, hhead.format, hres1, hres2]
  simp [decodeTile, hok, hhead.format, hhead.opcode, hhead.guard, h, hw]

theorem readsAt_encQ (ho : op < 256) (a : QArgs) : ReadsAt (encQ op g a) 0 (headFields 2 op g ++ qFields a) := by
  rw [encQ_eq_layWord]
  exact readsAt_layWord (by omega) ho (fieldsFit_qFields a) (by simp [fieldsWidth, qFields])

theorem decodeTile_encQ {a : QArgs} {mk : Nat → Guard → QArgs → Instr} (h : qOp op a = some (true, mk)) :
    decodeTile t pc pd (encQ op g a) = some (mk t g a) := by
  have hread := readsAt_encQ (g := g) (qOp_lt h) a
  have hhead := headReads_of_readsAt (by omega) (qOp_lt h) hread
  have hl := readsAt_behind_head hread
  simp only [qFields, ReadsAt, BitVec.ofNat_toNat, BitVec.setWidth_eq] at hl
  obtain ⟨hr, hqn, hside, hrb, hres, hoff, -⟩ := hl
  have hw : wordQ (encQ op g a) = a := by
    change _ = QArgs.mk a.r a.qn a.side a.rb a.off
    simp only [wordQ, hr, hqn, hside, hrb, hoff]
  have hok : reservedOk (encQ op g a) = true := by simp [reservedOk, hhead.bit7, hhead.format, hres]
  simp [decodeTile, hok, hhead.format, hhead.opcode, hhead.guard, h, hw]

theorem readsAt_encX (ho : op < 256) (a : XArgs) : ReadsAt (encX op g a) 0 (headFields 3 op g ++ xFields a) := by
  rw [encX_eq_layWord]
  exact readsAt_layWord (by omega) ho (fieldsFit_xFields a) (by simp [fieldsWidth, xFields])

theorem decodeTile_encX {a : XArgs} {mk : Nat → Guard → XArgs → Instr} (h : xOp op a pd = some (true, mk)) :
    decodeTile t pc pd (encX op g a) = some (mk t g a) := by
  have hread := readsAt_encX (g := g) (xOp_lt h) a
  have hhead := headReads_of_readsAt (by omega) (xOp_lt h) hread
  have hl := readsAt_behind_head hread
  simp only [xFields, ReadsAt, BitVec.ofNat_toNat, BitVec.setWidth_eq] at hl
  obtain ⟨hacc, hwb, hfa, hfb, hza, hdq, hqa, hrb, hstride, hqo, ht, hscale, hrow, hspm, hspb, -⟩ := hl
  have hw : wordX (encX op g a) = a := by
    change _ = XArgs.mk a.acc a.wb a.fa a.fb a.za a.dq a.qa a.rb a.stride a.qo a.t a.scale a.row a.spm a.spb
    simp only [wordX, hacc, hwb, hfa, hfb, hza, hdq, hqa, hrb, hstride, hqo, ht, hscale, hrow, hspm, hspb]
  have hok : reservedOk (encX op g a) = true := by simp [reservedOk, hhead.bit7, hhead.format]
  simp [decodeTile, hok, hhead.format, hhead.opcode, hhead.guard, h, hw]

theorem readsAt_encC (ho : op < 256) (a : CArgs) : ReadsAt (encC op g a) 0 (headFields 4 op g ++ cFields a) := by
  rw [encC_eq_layWord]
  exact readsAt_layWord (by omega) ho (fieldsFit_cFields a) (by simp [fieldsWidth, cFields])

theorem decodeTile_encC {a : CArgs} {mk : Nat → Guard → CArgs → Instr} (h : cOp op g a pc = some (true, mk)) :
    decodeTile t pc pd (encC op g a) = some (mk t g a) := by
  have hread := readsAt_encC (g := g) (cOp_lt h) a
  have hhead := headReads_of_readsAt (by omega) (cOp_lt h) hread
  have hl := readsAt_behind_head hread
  simp only [cFields, ReadsAt, BitVec.ofNat_toNat, BitVec.setWidth_eq] at hl
  obtain ⟨hrc, hcsrc, hrn, htarget, hcount, -⟩ := hl
  have hw : wordC (encC op g a) = a := by
    change _ = CArgs.mk a.rc a.csrc a.rn a.target a.count
    simp only [wordC, hrc, hcsrc, hrn, htarget, hcount]
  have hok : reservedOk (encC op g a) = true := by simp [reservedOk, hhead.bit7, hhead.format]
  simp [decodeTile, hok, hhead.format, hhead.opcode, hhead.guard, h, hw]

theorem readsAt_encS (ho : op < 256) (a : SArgs) : ReadsAt (encS op g a) 0 (headFields 5 op g ++ sFields a) := by
  rw [encS_eq_layWord]
  exact readsAt_layWord (by omega) ho (fieldsFit_sFields a) (by simp [fieldsWidth, sFields])

theorem decodeTile_encS {a : SArgs} {mk : Nat → Guard → SArgs → Instr} (h : sOp op a = some (true, mk)) :
    decodeTile t pc pd (encS op g a) = some (mk t g a) := by
  have hread := readsAt_encS (g := g) (sOp_lt h) a
  have hhead := headReads_of_readsAt (by omega) (sOp_lt h) hread
  have hl := readsAt_behind_head hread
  simp only [sFields, ReadsAt, BitVec.ofNat_toNat, BitVec.setWidth_eq] at hl
  obtain ⟨hrd, hra, hrb, hrc, hrop, hfv, hh, hsd, hres, -⟩ := hl
  have hw : wordS (encS op g a) = a := by
    change _ = SArgs.mk a.rd a.ra a.rb a.rc a.rop a.fv a.h a.sd
    simp only [wordS, hrd, hra, hrb, hrc, hrop, hfv, hh, hsd]
  have hok : reservedOk (encS op g a) = true := by simp [reservedOk, hhead.bit7, hhead.format, hres]
  simp [decodeTile, hok, hhead.format, hhead.opcode, hhead.guard, h, hw]

end

/-- Settles O6: the fields of an encoded word are read back, in the form with an immediate and in the one without. -/
theorem decodeEncodeF : Obligations.DecodeEncodeF := by
  unfold Obligations.DecodeEncodeF
  intro op r h t pc pd g a hd hz
  exact decodeTile_encF h hd hz

/-- Settles O7, format by format. -/
theorem decodeEncodeOther : Obligations.DecodeEncodeOther := by
  unfold Obligations.DecodeEncodeOther
  exact ⟨fun _ _ _ h _ _ _ _ => decodeTile_encM h, fun _ _ _ h _ _ _ _ => decodeTile_encQ h,
    fun _ _ _ _ h _ _ _ => decodeTile_encX h, fun _ _ _ _ _ h _ _ => decodeTile_encC h,
    fun _ _ _ h _ _ _ _ => decodeTile_encS h⟩


/-! ### A word that decodes is its instruction's word -/

section

variable {w : BitVec 64}

theorem toNat_fld64 (w : BitVec 64) (lo n : Nat) : (fld64 w lo n).toNat = w.toNat / 2 ^ lo % 2 ^ n :=
  BitVec.toNat_ofNat ..

/-- A field that reads zero, as a number. -/
theorem div_mod_of_fld64_eq_zero {lo n : Nat} (h : fld64 w lo n = 0) : w.toNat / 2 ^ lo % 2 ^ n = 0 := by
  rw [← toNat_fld64, h]; simp

/-- A word is laid out again from the fields that it is cut into. -/
theorem layWord_of_cut {fmt : Nat} {l : List (Nat × Nat)} (hf : (fld64 w 0 3).toNat = fmt) (h7 : fld64 w 7 1 = 0)
    (ns : List Nat) (hl : l = cutFields (w.toNat / 2 ^ 16) ns) (h48 : ns.sum = 48) :
    layWord fmt (fld64 w 8 8).toNat (wordGuard w) l = w := by
  have h := ofNat_packFields_cutFields w (l := 3 :: 3 :: 1 :: 1 :: 8 :: ns) (by simp [h48])
  have h7' := div_mod_of_fld64_eq_zero h7
  simp only [cutFields, Nat.div_div_eq_div_mul, ← pow_add] at h
  rw [layWord, headFields, ← hf, hl]
  simp only [toNat_fld64, wordGuard, List.cons_append, List.nil_append, pow_zero, Nat.div_one]
  rw [← h7']
  exact h

/-- The reserved fields are zero where a word decodes (R110): bit 7 in every format. -/
theorem reservedOk_bit7 (h : reservedOk w = true) : fld64 w 7 1 = 0 := by
  simp only [reservedOk, Bool.and_eq_true, beq_iff_eq] at h; exact h.1

theorem encM_wordM (hf : (fld64 w 0 3).toNat = 1) (h : reservedOk w = true) :
    encM (fld64 w 8 8).toNat (wordGuard w) (wordM w) = w := by
  have hres := h
  simp only [reservedOk, hf, Bool.and_eq_true, beq_iff_eq] at hres
  obtain ⟨-, h31, h41⟩ := hres
  rw [encM_eq_layWord]
  refine layWord_of_cut hf (reservedOk_bit7 h) [5, 5, 3, 2, 1, 6, 3, 3, 20] ?_ rfl
  simp only [mFields, wordM, cutFields, toNat_fld64, Nat.div_div_eq_div_mul, ← pow_add, Nat.reduceAdd,
    div_mod_of_fld64_eq_zero h31, div_mod_of_fld64_eq_zero h41]

theorem encQ_wordQ (hf : (fld64 w 0 3).toNat = 2) (h : reservedOk w = true) :
    encQ (fld64 w 8 8).toNat (wordGuard w) (wordQ w) = w := by
  have hres := h
  simp only [reservedOk, hf, Bool.and_eq_true, beq_iff_eq] at hres
  obtain ⟨-, h30⟩ := hres
  rw [encQ_eq_layWord]
  refine layWord_of_cut hf (reservedOk_bit7 h) [5, 3, 1, 5, 14, 20] ?_ rfl
  simp only [qFields, wordQ, cutFields, toNat_fld64, Nat.div_div_eq_div_mul, ← pow_add, Nat.reduceAdd,
    div_mod_of_fld64_eq_zero h30]

theorem encX_wordX (hf : (fld64 w 0 3).toNat = 3) (h : reservedOk w = true) :
    encX (fld64 w 8 8).toNat (wordGuard w) (wordX w) = w := by
  rw [encX_eq_layWord]
  refine layWord_of_cut hf (reservedOk_bit7 h) [2, 1, 3, 3, 1, 1, 3, 5, 7, 3, 4, 8, 4, 2, 1] ?_ rfl
  simp only [xFields, wordX, cutFields, toNat_fld64, Nat.div_div_eq_div_mul, ← pow_add, Nat.reduceAdd]

theorem encC_wordC (hf : (fld64 w 0 3).toNat = 4) (h : reservedOk w = true) :
    encC (fld64 w 8 8).toNat (wordGuard w) (wordC w) = w := by
  rw [encC_eq_layWord]
  refine layWord_of_cut hf (reservedOk_bit7 h) [5, 1, 5, 13, 24] ?_ rfl
  simp only [cFields, wordC, cutFields, toNat_fld64, Nat.div_div_eq_div_mul, ← pow_add, Nat.reduceAdd]

theorem encS_wordS (hf : (fld64 w 0 3).toNat = 5) (h : reservedOk w = true) :
    encS (fld64 w 8 8).toNat (wordGuard w) (wordS w) = w := by
  have hres := h
  simp only [reservedOk, hf, Bool.and_eq_true, beq_iff_eq] at hres
  obtain ⟨-, h49⟩ := hres
  rw [encS_eq_layWord]
  refine layWord_of_cut hf (reservedOk_bit7 h) [5, 5, 5, 5, 3, 1, 6, 3, 15] ?_ rfl
  simp only [sFields, wordS, cutFields, toNat_fld64, Nat.div_div_eq_div_mul, ← pow_add, Nat.reduceAdd,
    div_mod_of_fld64_eq_zero h49]

theorem encF_wordF_imm (hf : (fld64 w 0 3).toNat = 0) (h7 : fld64 w 7 1 = 0) (hi : fld64 w 27 1 = 1) :
    encF (fld64 w 8 8).toNat (wordGuard w) (wordF w) = w := by
  have hw : (wordF w).i = 1 := by simp [wordF, hi]
  rw [encF_eq_layWord_imm hw]
  refine layWord_of_cut hf h7 [5, 5, 1, 1, 4, 32] ?_ rfl
  simp only [fImmFields, wordF, if_pos hi, cutFields, toNat_fld64, Nat.div_div_eq_div_mul, ← pow_add, Nat.reduceAdd]

theorem encF_wordF_reg (hf : (fld64 w 0 3).toNat = 0) (h7 : fld64 w 7 1 = 0) (hi : fld64 w 27 1 ≠ 1)
    (h54 : fld64 w 54 10 = 0) : encF (fld64 w 8 8).toNat (wordGuard w) (wordF w) = w := by
  have hw : (wordF w).i ≠ 1 := by simp only [wordF, if_neg hi]; exact hi
  rw [encF_eq_layWord_reg hw]
  refine layWord_of_cut hf h7 [5, 5, 1, 1, 4, 5, 5, 4, 8, 10] ?_ rfl
  simp only [fRegFields, wordF, if_neg hi, cutFields, toNat_fld64, Nat.div_div_eq_div_mul, ← pow_add, Nat.reduceAdd,
    div_mod_of_fld64_eq_zero h54]

theorem encF_wordF (hf : (fld64 w 0 3).toNat = 0) (h : reservedOk w = true) :
    encF (fld64 w 8 8).toNat (wordGuard w) (wordF w) = w := by
  have h7 := reservedOk_bit7 h
  simp only [reservedOk, hf, Bool.and_eq_true, Bool.or_eq_true, beq_iff_eq] at h
  by_cases hi : fld64 w 27 1 = 1
  · exact encF_wordF_imm hf h7 hi
  · exact encF_wordF_reg hf h7 hi (h.2.resolve_left hi)

end

/-! Each opcode's command has the word of that opcode (Tables IS-4 to IS-14). -/

section

variable {op t pc : Nat} {g : Guard}

theorem tileWord_of_fOp {a : FArgs} {r : FSpec × (Nat → Guard → FArgs → Instr)} (h : fOp op = some r) :
    tileWord (r.2 t g a) = some (encF op g a) := by
  unfold fOp at h; split at h <;> cases h <;> rfl

theorem tileWord_of_mOp {a b : MArgs} {r : Bool × (Nat → Guard → MArgs → Instr)} (h : mOp op b = some r) :
    tileWord (r.2 t g a) = some (encM op g a) := by
  unfold mOp at h; split at h <;> cases h <;> rfl

theorem tileWord_of_qOp {a b : QArgs} {r : Bool × (Nat → Guard → QArgs → Instr)} (h : qOp op b = some r) :
    tileWord (r.2 t g a) = some (encQ op g a) := by
  unfold qOp at h; split at h <;> cases h <;> rfl

theorem tileWord_of_xOp {a b : XArgs} {pd : Bool} {r : Bool × (Nat → Guard → XArgs → Instr)} (h : xOp op b pd = some r) :
    tileWord (r.2 t g a) = some (encX op g a) := by
  unfold xOp at h; split at h <;> cases h <;> rfl

theorem tileWord_of_cOp {a b : CArgs} {g' : Guard} {r : Bool × (Nat → Guard → CArgs → Instr)}
    (h : cOp op g' b pc = some r) : tileWord (r.2 t g a) = some (encC op g a) := by
  unfold cOp at h; split at h <;> cases h <;> rfl

theorem tileWord_of_sOp {a b : SArgs} {r : Bool × (Nat → Guard → SArgs → Instr)} (h : sOp op b = some r) :
    tileWord (r.2 t g a) = some (encS op g a) := by
  unfold sOp at h; split at h <;> cases h <;> rfl

end

theorem tileWord_of_decodeTile {t pc : Nat} {pd : Bool} {w : BitVec 64} {i : Instr} (h : decodeTile t pc pd w = some i) :
    tileWord i = some w := by
  unfold decodeTile at h
  split at h
  case isTrue => cases h
  case isFalse hok =>
    rw [Bool.not_eq_true, Bool.not_eq_false'] at hok
    split at h
    case h_1 hf =>
      obtain ⟨r, hr, h⟩ := Option.bind_eq_some_iff.mp h
      obtain ⟨-, h⟩ := Option.ite_none_right_eq_some.mp h
      rw [← Option.some_inj.mp h, tileWord_of_fOp hr, encF_wordF hf hok]
    case h_2 hf =>
      obtain ⟨r, hr, h⟩ := Option.bind_eq_some_iff.mp h
      obtain ⟨-, h⟩ := Option.ite_none_right_eq_some.mp h
      rw [← Option.some_inj.mp h, tileWord_of_mOp hr, encM_wordM hf hok]
    case h_3 hf =>
      obtain ⟨r, hr, h⟩ := Option.bind_eq_some_iff.mp h
      obtain ⟨-, h⟩ := Option.ite_none_right_eq_some.mp h
      rw [← Option.some_inj.mp h, tileWord_of_qOp hr, encQ_wordQ hf hok]
    case h_4 hf =>
      obtain ⟨r, hr, h⟩ := Option.bind_eq_some_iff.mp h
      obtain ⟨-, h⟩ := Option.ite_none_right_eq_some.mp h
      rw [← Option.some_inj.mp h, tileWord_of_xOp hr, encX_wordX hf hok]
    case h_5 hf =>
      obtain ⟨r, hr, h⟩ := Option.bind_eq_some_iff.mp h
      obtain ⟨-, h⟩ := Option.ite_none_right_eq_some.mp h
      rw [← Option.some_inj.mp h, tileWord_of_cOp hr, encC_wordC hf hok]
    case h_6 hf =>
      obtain ⟨r, hr, h⟩ := Option.bind_eq_some_iff.mp h
      obtain ⟨-, h⟩ := Option.ite_none_right_eq_some.mp h
      rw [← Option.some_inj.mp h, tileWord_of_sOp hr, encS_wordS hf hok]
    case h_7 => cases h

/-- Settles O8: the reserved fields are zero, so the fields of the tables hold every bit of the word. -/
theorem encodeDecode : Obligations.EncodeDecode := by
  unfold Obligations.EncodeDecode
  exact fun _ _ _ _ _ h => tileWord_of_decodeTile h

/-- Settles O9: six words, each decoded by evaluation. -/
theorem workedExampleWords : Obligations.WorkedExampleWords := by
  unfold Obligations.WorkedExampleWords
  decide

end Sys2Proof.Machine

/-! PROOF. Branches and folds of steps that leave memory as it was. -/

namespace Sys2Proof.Machine

/-! ### Memory after a branch and after a fold -/

@[simp] theorem State.mem_ite (c : Prop) [Decidable c] (a b : State) :
    (if c then a else b).mem = if c then a.mem else b.mem := apply_ite State.mem c a b

/-- A fold whose step keeps what a view of the state shows keeps it. -/
theorem foldl_keeps {α σ β : Type} {f : σ → α → σ} (view : σ → β) (hf : ∀ p x, view (f p x) = view p) (l : List α) (p : σ) :
    view (l.foldl f p) = view p := by
  induction l generalizing p with
  | nil => rfl
  | cons x l ih => rw [List.foldl_cons, ih, hf]

section

variable {α β γ : Type}

@[simp] theorem foldl_mem {f : State → α → State} (hf : ∀ s x, (f s x).mem = s.mem) (l : List α) (s : State) :
    (l.foldl f s).mem = s.mem := foldl_keeps State.mem hf l s

@[simp] theorem foldl_fst_mem {f : State × β → α → State × β} (hf : ∀ p x, (f p x).1.mem = p.1.mem) (l : List α)
    (p : State × β) : (l.foldl f p).1.mem = p.1.mem := foldl_keeps (fun p => p.1.mem) hf l p

@[simp] theorem foldl_snd_mem {f : β × State → α → β × State} (hf : ∀ p x, (f p x).2.mem = p.2.mem) (l : List α)
    (p : β × State) : (l.foldl f p).2.mem = p.2.mem := foldl_keeps (fun p => p.2.mem) hf l p

@[simp] theorem foldl_snd_fst_mem {f : β × State × γ → α → β × State × γ} (hf : ∀ p x, (f p x).2.1.mem = p.2.1.mem)
    (l : List α) (p : β × State × γ) : (l.foldl f p).2.1.mem = p.2.1.mem := foldl_keeps (fun p => p.2.1.mem) hf l p

end

@[simp] theorem State.forEach_mem_of {f : State → Nat → State} (s : State) (l : List Nat)
    (hf : ∀ s x, (f s x).mem = s.mem) : (s.forEach l f).mem = s.mem := foldl_mem hf l s

@[simp] theorem State.raiseAll_mem (n : Nat) (s : State) (l : List (Nat × Nat × Option Nat)) :
    (State.raiseAll n s l).mem = s.mem := ((OnlyFault.refl s).raiseAll n l).mem

@[simp] theorem State.wfs_mem (s : State) (l : List (Fk × Nat)) : (s.wfs l).mem = s.mem := by
  rw [State.wfs_only]

@[simp] theorem State.mem_popIn (s : State) (t k : Nat) : (s.popIn t k).mem = s.mem := s.popIn_mem t k

end Sys2Proof.Machine

/-! PROOF. Which operations leave memory as it was: one lemma for each named operation of the model that stores nothing, in
the order of their definitions. -/

namespace Sys2Proof.Machine

@[simp] theorem State.clearPages_mem (s : State) (a b : Nat) : (s.clearPages a b).mem = s.mem := by
  simp [State.clearPages]

@[simp] theorem State.setPlain_mem (s : State) (p : Nat) (x : Plain) : (s.setPlain p x).mem = s.mem := by
  simp [State.setPlain]

@[simp] theorem State.setPart_mem (s : State) (n : Nat) (x : Part) : (s.setPart n x).mem = s.mem := by
  simp [State.setPart]

@[simp] theorem State.stretchTo_mem (s : State) (p : Nat) : (s.stretchTo p).mem = s.mem := by simp [State.stretchTo]
@[simp] theorem State.watchRestart_mem (s : State) (n : Nat) : (s.watchRestart n).mem = s.mem := by
  simp [State.watchRestart]

@[simp] theorem State.watchSyncAll_mem (s : State) : s.watchSyncAll.mem = s.mem := by simp [State.watchSyncAll]
@[simp] theorem State.irqPart_mem (s : State) (n vec : Nat) : (s.irqPart n vec).mem = s.mem :=
  ((OnlyFault.refl s).irqPart n vec).mem

@[simp] theorem State.irqPage_mem (s : State) (pg : Nat) : (s.irqPage pg).mem = s.mem :=
  ((OnlyFault.refl s).irqPage pg).mem

/-- Memory is the same after as before: the equation under a name, which keeps the states of its sides folded. -/
def MemKept (s s' : State) : Prop := s'.mem = s.mem

section

variable {s s' : State}

theorem MemKept.refl (s : State) : MemKept s s := rfl
theorem MemKept.foldl {α : Type} {f : State → α → State} (hf : ∀ s x, MemKept s (f s x)) (l : List α) (s : State) :
    MemKept s (l.foldl f s) := foldl_mem hf l s
theorem MemKept.bump (h : MemKept s s') (k : Fk) (n : Nat := 1) : MemKept s (s'.bump k n) :=
  (State.bump_mem ..).trans h
theorem MemKept.updPart (h : MemKept s s') (n : Nat) (f : Part → Part) : MemKept s (s'.updPart n f) :=
  (State.updPart_mem ..).trans h
theorem MemKept.updTile (h : MemKept s s') (t : Nat) (f : Tile → Tile) : MemKept s (s'.updTile t f) :=
  (State.updTile_mem ..).trans h

end

@[simp] theorem State.ptpSettle_mem (s : State) : s.ptpSettle.mem = s.mem := by simp [State.ptpSettle]
@[simp] theorem State.draw_mem (s : State) (w : Nat) : (s.draw w).2.mem = s.mem := by simp [State.draw]
@[simp] theorem State.breakLatches_mem (s : State) (p : Latch → Bool) : (s.breakLatches p).mem = s.mem :=
  ((OnlyFault.refl s).breakLatches p).mem

@[simp] theorem State.epochPf0_mem (s : State) : s.epochPf0.mem = s.mem := by simp [State.epochPf0]
@[simp] theorem State.epochPart_mem (s : State) (n : Nat) : (s.epochPart n).mem = s.mem := by simp [State.epochPart]
@[simp] theorem State.epochTile_mem (s : State) (t : Nat) : (s.epochTile t).mem = s.mem :=
  ((OnlyFault.refl s).epochTile t).mem

@[simp] theorem State.markSlowed_mem (s : State) (ps : List Nat) : (s.markSlowed ps).mem = s.mem :=
  foldl_mem (fun _ _ => by simp) _ _

@[simp] theorem State.setSel_mem (s : State) (n c : Nat) : (s.setSel n c).mem = s.mem :=
  ((OnlyFault.refl s).setSel n c).mem

@[simp] theorem State.setCold_mem (s : State) (n : Nat) (k : Option Nat) : (s.setCold n k).mem = s.mem := by
  simp [State.setCold]

@[simp] theorem State.freeSlots_mem (s : State) : s.freeSlots.mem = s.mem := ((OnlyFault.refl s).freeSlots).mem
@[simp] theorem State.putCopies_mem (s : State) (n : Nat) (c : Copies) : (s.putCopies n c).mem = s.mem :=
  ((OnlyFault.refl s).putCopies n c).mem

@[simp] theorem State.loadReport_mem (s : State) (l : Load) (ok : Bool) : (s.loadReport l ok).mem = s.mem := by
  simp [State.loadReport]

@[simp] theorem State.imgEnd_mem (s : State) (l : Load) (code : Nat) : (s.imgEnd l code).mem = s.mem :=
  ((OnlyFault.refl s).imgEnd l code).mem

@[simp] theorem State.fenceLoad_mem (s : State) (p : Nat) : (s.fenceLoad p).1.mem = s.mem :=
  ((OnlyFault.refl s).fenceLoad p).mem

@[simp] theorem State.setAlert_mem (s : State) : s.setAlert.mem = s.mem := ((OnlyFault.refl s).setAlert).mem
@[simp] theorem State.latchFault_mem (s : State) (code pg src tb r : Nat) :
    (s.latchFault code pg src tb r).mem = s.mem :=
  ((OnlyFault.refl s).latchFault code pg src tb r).mem

@[simp] theorem State.offer_mem (s : State) (code pg src tb r : Nat) : (s.offer code pg src tb r).mem = s.mem :=
  ((OnlyFault.refl s).offer code pg src tb r).mem

@[simp] theorem State.enterFault_mem (s : State) (n st cause : Nat) : (s.enterFault n st cause).mem = s.mem :=
  ((OnlyFault.refl s).enterFault n st cause).mem

@[simp] theorem State.reactPause_mem (s : State) (n : Nat) : (s.reactPause n).mem = s.mem :=
  ((OnlyFault.refl s).reactPause n).mem

@[simp] theorem State.reactDegrade_mem (s : State) (n : Nat) : (s.reactDegrade n).mem = s.mem :=
  ((OnlyFault.refl s).reactDegrade n).mem

@[simp] theorem State.reactFence_mem (s : State) (n : Nat) : (s.reactFence n).mem = s.mem :=
  ((OnlyFault.refl s).reactFence n).mem

@[simp] theorem State.haltModule_mem (s : State) : s.haltModule.mem = s.mem := ((OnlyFault.refl s).haltModule).mem
@[simp] theorem State.sweepFenced_mem (s : State) (n : Nat) (hit : Nat → Bool) :
    (s.sweepFenced n hit).mem = s.mem :=
  ((OnlyFault.refl s).sweepFenced n hit).mem

@[simp] theorem State.taint_mem (s : State) (n t : Nat) : (s.taint n t).mem = s.mem :=
  ((OnlyFault.refl s).taint n t).mem

@[simp] theorem State.fenceTile_mem (s : State) (t : Nat) : (s.fenceTile t).mem = s.mem :=
  ((OnlyFault.refl s).fenceTile t).mem

@[simp] theorem State.suspendRoutes_mem (s : State) (p : Nat) : (s.suspendRoutes p).mem = s.mem :=
  ((OnlyFault.refl s).suspendRoutes p).mem

@[simp] theorem State.fencePlain_mem (s : State) (p lvl : Nat) : (s.fencePlain p lvl).1.mem = s.mem :=
  ((OnlyFault.refl s).fencePlain p lvl).mem

@[simp] theorem State.applyReact_mem (s : State) (pg r : Nat) (parts : List Nat) :
    (s.applyReact pg r parts).1.mem = s.mem :=
  ((OnlyFault.refl s).applyReact pg r parts).mem

@[simp] theorem State.raise1_mem (s : State) (code pg : Nat) (ppn : Option Nat) :
    (s.raise1 code pg ppn).1.mem = s.mem :=
  ((OnlyFault.refl s).raise1 code pg ppn).mem

@[simp] theorem State.raiseEdgeUE_mem (s : State) (pa : Nat) : (s.raiseEdgeUE pa).mem = s.mem :=
  ((OnlyFault.refl s).raiseEdgeUE pa).mem

@[simp] theorem State.doFence_mem (s : State) (p lvl : Nat) : (s.doFence p lvl).mem = s.mem := by simp [State.doFence]
@[simp] theorem State.raiseTile_mem (s : State) (t code : Nat) : (s.raiseTile t code).mem = s.mem :=
  ((OnlyFault.refl s).raiseTile t code).mem

@[simp] theorem State.setFlags_mem (s : State) (t : Nat) (f : NFlags) : (s.setFlags t f).mem = s.mem := by
  have set (u : State) (b : Bool) (j : Fk) : (if b then u.wf j 1 else u).mem = u.mem := by
    cases b <;> rfl
  rw [State.setFlags]
  exact (set _ _ _).trans ((set _ _ _).trans ((set _ _ _).trans (set _ _ _)))

@[simp] theorem State.promote_mem (s : State) (t : Nat) : (s.promote t).mem = s.mem :=
  ((OnlyFault.refl s).promote t).mem

@[simp] theorem State.pushIn_mem (s : State) (t k : Nat) (e : QEnt) : (s.pushIn t k e).mem = s.mem :=
  ((OnlyFault.refl s).pushIn t k e).mem

@[simp] theorem State.pushOutE_mem (s : State) (t k : Nat) (e : OEnt) : (s.pushOutE t k e).mem = s.mem := by
  simp [State.pushOutE]

@[simp] theorem State.pushOut_mem (s : State) (t k : Nat) (e : Entry) (ty : EType) :
    (s.pushOut t k e ty).mem = s.mem :=
  ((OnlyFault.refl s).pushOut t k e ty).mem

@[simp] theorem State.popOut_mem (s : State) (t k n : Nat) : (s.popOut t k n).mem = s.mem :=
  ((OnlyFault.refl s).popOut t k n).mem

@[simp] theorem State.deselect_mem (s : State) (t k : Nat) : (s.deselect t k).mem = s.mem := by simp [State.deselect]
@[simp] theorem State.leaveTask_mem (s : State) (t k st : Nat) (mid : Bool) :
    (s.leaveTask t k st mid).mem = s.mem :=
  ((OnlyFault.refl s).leaveTask t k st mid).mem

@[simp] theorem State.taskFault_mem (s : State) (t k code : Nat) : (s.taskFault t k code).mem = s.mem :=
  ((OnlyFault.refl s).taskFault t k code).mem

@[simp] theorem State.setPc_mem (s : State) (t k pc : Nat) : (s.setPc t k pc).mem = s.mem :=
  ((OnlyFault.refl s).setPc t k pc).mem

@[simp] theorem State.dropShadows_mem (s : State) (pg : Nat) : (s.dropShadows pg).mem = s.mem := by
  simp [State.dropShadows]

@[simp] theorem State.regClear_mem (s : State) (off : Nat) : (s.regClear off).mem = s.mem := by simp [State.regClear]
@[simp] theorem State.writeField_mem (s : State) (off v m : Nat) (f : RegField) :
    (s.writeField off v m f).mem = s.mem := by
  unfold State.writeField
  split <;> simp

@[simp] theorem State.writeWord_mem (s : State) (off v m : Nat) : (s.writeWord off v m).mem = s.mem := by
  simp [State.writeWord]

@[simp] theorem State.clearRecord_mem (s : State) (pg : Nat) : (s.clearRecord pg).mem = s.mem := by
  unfold State.clearRecord
  split <;> simp

@[simp] theorem State.writeReact_mem (s : State) (pg v m : Nat) : (s.writeReact pg v m).mem = s.mem := by
  rw [State.writeReact]
  split <;> simp -implicitDefEqProofs

@[simp] theorem State.countTime_mem (s : State) (pg : Nat) : (s.countTime pg).mem = s.mem := by
  unfold State.countTime
  split <;> simp

@[simp] theorem State.writeCtrl_mem (s : State) (pg v m : Nat) : (s.writeCtrl pg v m).mem = s.mem := by
  simp [State.writeCtrl]

@[simp] theorem State.writeFaultReg_mem (s : State) (off v m : Nat) : (s.writeFaultReg off v m).mem = s.mem := by
  rw [State.writeFaultReg]
  (repeat' split) <;> simp -implicitDefEqProofs

@[simp] theorem State.setStream_mem (s : State) (t d : Nat) (v : Stream) : (s.setStream t d v).mem = s.mem := by
  simp [State.setStream]

@[simp] theorem State.streamStart_mem (s : State) (t d : Nat) : (s.streamStart t d).mem = s.mem := by
  simp [State.streamStart]

@[simp] theorem State.haltEnd_mem (s : State) (t d : Nat) : (s.haltEnd t d).mem = s.mem := by simp [State.haltEnd]
@[simp] theorem State.streamSettle_mem (s : State) (t d : Nat) : (s.streamSettle t d).mem = s.mem := by
  simp [State.streamSettle]

@[simp] theorem State.streamStop_mem (s : State) (t d : Nat) : (s.streamStop t d).mem = s.mem := by
  simp [State.streamStop]

@[simp] theorem State.streamCmdStart_mem (s : State) (t d : Nat) : (s.streamCmdStart t d).mem = s.mem := by
  simp [State.streamCmdStart]

@[simp] theorem State.taskEnable_mem (s : State) (t k : Nat) (en : Bool) : (s.taskEnable t k en).mem = s.mem := by
  simp [State.taskEnable]

@[simp] theorem State.tileRun_mem (s : State) (t : Nat) (run : Bool) : (s.tileRun t run).mem = s.mem := by
  simp [State.tileRun]

@[simp] theorem State.qbind_mem (s : State) (t k v m : Nat) : (s.qbind t k v m).mem = s.mem := by simp [State.qbind]
@[simp] theorem State.slotWrite_mem (s : State) (t b o i v m : Nat) : (s.slotWrite t b o i v m).mem = s.mem := by
  simp -implicitDefEqProofs [State.slotWrite]

@[simp] theorem State.keepEntry_mem (s : State) (t h : Nat) : (s.keepEntry t h).mem = s.mem := by
  unfold State.keepEntry
  split <;> simp -implicitDefEqProofs

@[simp] theorem State.shelfLive_mem (s : State) (t h w0 : Nat) : (s.shelfLive t h w0).mem = s.mem := by
  simp [State.shelfLive]

@[simp] theorem State.shelfKill_mem (s : State) (t h : Nat) : (s.shelfKill t h).mem = s.mem := by
  simp [State.shelfKill]

@[simp] theorem State.shelfWord_mem (s : State) (t w v m : Nat) : (s.shelfWord t w v m).mem = s.mem := by
  simp [State.shelfWord]

@[simp] theorem State.shelfWrite_mem (s : State) (t a n v : Nat) : (s.shelfWrite t a n v).mem = s.mem := by
  unfold State.shelfWrite
  refine foldl_mem (fun s h => ?_) _ _
  dsimp only
  split <;> split <;> simp

@[simp] theorem State.tileWord_mem (s : State) (t rel v m : Nat) : (s.tileWord t rel v m).mem = s.mem := by
  simp [State.tileWord]

@[simp] theorem State.tilePageWrite_mem (s : State) (t a n v : Nat) : (s.tilePageWrite t a n v).mem = s.mem := by
  simp [State.tilePageWrite]

@[simp] theorem State.tilePageClear_mem (s : State) (t a n : Nat) : (s.tilePageClear t a n).mem = s.mem := by
  simp [State.tilePageClear]

@[simp] theorem State.localClear_mem (s : State) (t a n : Nat) : (s.localClear t a n).mem = s.mem := by
  unfold State.localClear
  split <;> simp

@[simp] theorem State.noteEcc_mem (s : State) (k n : Nat) (e : Ecc) : (s.noteEcc k n e).mem = s.mem := by
  simp [State.noteEcc]

section

variable {s s' : State}

theorem MemKept.noteEcc (h : MemKept s s') (k n : Nat) (e : Ecc) : MemKept s (s'.noteEcc k n e) :=
  (State.noteEcc_mem ..).trans h

end

@[simp] theorem State.noteRow_mem (s : State) (t r : Nat) : (s.noteRow t r).mem = s.mem := by simp [State.noteRow]
@[simp] theorem State.noteRows_mem (s : State) (t a n : Nat) : (s.noteRows t a n).mem = s.mem := by
  refine (?_ : MemKept s _)
  unfold State.noteRows
  split
  · refine MemKept.foldl (fun s r => ?_) _ _
    dsimp only
    split
    · exact s.noteRow_mem _ _
    · exact MemKept.refl s
  · exact MemKept.refl s

@[simp] theorem State.noteCe_mem (s : State) (t a : Nat) : (s.noteCe t a).mem = s.mem := by simp [State.noteCe]
@[simp] theorem State.raiseEcc_mem (s : State) (t a n : Nat) (e : Ecc) : (s.raiseEcc t a n e).mem = s.mem := by
  cases e <;> simp [State.raiseEcc]

section

variable {s s' : State}

theorem MemKept.raiseEcc (h : MemKept s s') (t a n : Nat) (e : Ecc) : MemKept s (s'.raiseEcc t a n e) :=
  (State.raiseEcc_mem ..).trans h

end

@[simp] theorem State.wideRead_mem (s : State) (k n : Nat) (e : Ecc) : (s.wideRead k n e).2.1.mem = s.mem := by
  unfold State.wideRead
  refine (foldl_snd_fst_mem (fun p w => ?_) _ _).trans (s.noteEcc_mem k n e)
  dsimp only
  split <;> simp

section

variable {s s' : State}

theorem MemKept.wideRead (h : MemKept s s') (k n : Nat) (e : Ecc) : MemKept s ((s'.wideRead k n e).2.1) :=
  (State.wideRead_mem ..).trans h

end

@[simp] theorem State.openRowOf_mem (s : State) (t a : Nat) : (s.openRowOf t a).mem = s.mem := by
  simp [State.openRowOf]

section

variable {s s' : State}

theorem MemKept.openRowOf (h : MemKept s s') (t a : Nat) : MemKept s (s'.openRowOf t a) :=
  (State.openRowOf_mem ..).trans h

end

section

variable {s s' : State}

theorem MemKept.raiseTile (h : MemKept s s') (t code : Nat) : MemKept s (s'.raiseTile t code) :=
  (State.raiseTile_mem ..).trans h

end

@[simp] theorem State.lookup_mem (s : State) (n vpn : Nat) (ok : Bool) : (s.lookup n vpn ok).mem = s.mem := by
  simp [State.lookup]

@[simp] theorem State.translate_mem (s : State) (n va : Nat) : (s.translate n va).2.mem = s.mem := by
  unfold State.translate
  split <;> simp

theorem State.mem_of_translate {s s1 : State} {n va : Nat} {x : Xlate} (h : s.translate n va = (x, s1)) :
    s1.mem = s.mem := by
  rw [← s.translate_mem n va, h]

@[simp] theorem State.edgeEcc_mem (s : State) (pa n : Nat) (e : Ecc) : (s.edgeEcc pa n e).mem = s.mem := by
  cases e <;> simp [State.edgeEcc]

section

variable {s s' : State}

theorem MemKept.edgeEcc (h : MemKept s s') (pa n : Nat) (e : Ecc) : MemKept s (s'.edgeEcc pa n e) :=
  (State.edgeEcc_mem ..).trans h

end

@[simp] theorem State.edgeRead_mem (s : State) (pa n : Nat) (e : Ecc) : (s.edgeRead pa n e).2.1.mem = s.mem := by
  rw [State.edgeRead]
  simp -implicitDefEqProofs

@[simp] theorem State.send_mem (s : State) (p : Packet) : (s.send p).mem = s.mem := by simp [State.send]
@[simp] theorem State.peptEntryWrite_mem (s : State) (n v m : Nat) : (s.peptEntryWrite n v m).mem = s.mem := by
  simp -implicitDefEqProofs [State.peptEntryWrite]

@[simp] theorem State.recheck_mem (s : State) (n : Nat) (ok : Nat → Bool) : (s.recheck n ok).mem = s.mem := by
  simp [State.recheck]

@[simp] theorem State.pageIn_mem (s : State) (n v : Nat) : (s.pageIn n v).mem = s.mem := by
  simp -implicitDefEqProofs [State.pageIn]

@[simp] theorem State.edgeWindow_mem (s : State) (n v : Nat) : (s.edgeWindow n v).mem = s.mem := by
  simp [State.edgeWindow]

@[simp] theorem State.orphan_mem (s : State) (u : Nat) : (s.orphan u).mem = s.mem := by simp [State.orphan]
@[simp] theorem State.spillFull_mem (s : State) (t : Nat) : (s.spillFull t).mem = s.mem := by
  unfold State.spillFull
  split <;> simp

@[simp] theorem State.epochTick_mem (s : State) (p : Nat) : (s.epochTick p).mem = s.mem := by
  rw [State.epochTick]
  split
  · split <;> simp -implicitDefEqProofs
  · simp

@[simp] theorem State.bankZeroAt_mem (s : State) (p : Nat) : (s.bankZeroAt p).mem = s.mem := by
  simp -implicitDefEqProofs [State.bankZeroAt]

@[simp] theorem State.loadTick_mem (s : State) (p : Nat) : (s.loadTick p).mem = s.mem := by
  unfold State.loadTick
  split <;> simp -implicitDefEqProofs

@[simp] theorem State.rephase_mem (s : State) (p : Nat) : (s.rephase p).mem = s.mem := by
  unfold State.rephase
  split <;> simp

@[simp] theorem State.carryFrom_mem (n v : Nat) (col : Bool) (fuel : Nat) (s : State) (u : Nat) (ph : Bool) :
    (State.carryFrom n v col fuel s u ph).mem = s.mem := by
  induction fuel generalizing s u ph with
  | zero => rfl
  | succ fuel ih =>
    rw [State.carryFrom.eq_def]
    dsimp only
    split
    · rfl
    · split
      · split <;> simp [ih]
      · rfl

@[simp] theorem State.carryIn_mem (s : State) (t n : Nat) : (s.carryIn t n).mem = s.mem := by
  rw [State.carryIn]
  simp -implicitDefEqProofs

@[simp] theorem State.carryOut_mem (s : State) (t n : Nat) : (s.carryOut t n).mem = s.mem := by
  rw [State.carryOut]
  simp -implicitDefEqProofs

@[simp] theorem State.updXfer_mem (s : State) (t d id : Nat) (f : Xfer → Xfer) :
    (s.updXfer t d id f).mem = s.mem := by simp [State.updXfer]

@[simp] theorem State.updNotify_mem (s : State) (k : Packet) (f : Dma → Dma) : (s.updNotify k f).mem = s.mem := by
  unfold State.updNotify
  split <;> simp

@[simp] theorem State.dropPacket_mem (s : State) (i : Nat) : (s.dropPacket i).mem = s.mem := by
  unfold State.dropPacket
  split <;> (try split) <;> simp

@[simp] theorem State.refusePacket_mem (s : State) (i t : Nat) (k : Packet) : (s.refusePacket i t k).mem = s.mem := by
  simp [State.refusePacket]

@[simp] theorem State.spanSend_mem (s : State) (p payload : Nat) : (s.spanSend p payload).mem = s.mem := by
  simp [State.spanSend]

@[simp] theorem State.spanOut_mem (s : State) (i t : Nat) (k : Packet) : (s.spanOut i t k).mem = s.mem := by
  simp [State.spanOut]

@[simp] theorem State.movePacket_mem (s : State) (i : Nat) (k : Packet) : (s.movePacket i k).mem = s.mem := by
  simp [State.movePacket]

@[simp] theorem State.enterTile_mem (s : State) (i u e : Nat) (k : Packet) : (s.enterTile i u e k).mem = s.mem := by
  simp [State.enterTile]

@[simp] theorem State.hopTile_mem (s : State) (i u d : Nat) (down : Bool) (k : Packet) :
    (s.hopTile i u d down k).mem = s.mem := by
  unfold State.hopTile
  split <;> simp

@[simp] theorem State.hopFrom_mem (s : State) (i u dir : Nat) (tg : Nat × Option Loc) (k : Packet) :
    (s.hopFrom i u dir tg k).mem = s.mem := by
  unfold State.hopFrom
  (repeat' split) <;> simp

@[simp] theorem State.spillQueue_mem (s : State) (n t k : Nat) : (s.spillQueue n t k).mem = s.mem := by
  simp [State.spillQueue]

@[simp] theorem State.stallDeclare_mem (s : State) (n : Nat) : (s.stallDeclare n).mem = s.mem := by
  simp [State.stallDeclare]

@[simp] theorem State.spanDown_mem (s : State) (p : Nat) : (s.spanDown p).mem = s.mem := by
  rw [State.spanDown]
  split
  · simp -implicitDefEqProofs
  · rfl

@[simp] theorem State.spanReplay_mem (s : State) (p : Nat) : (s.spanReplay p).mem = s.mem := by
  rw [State.spanReplay]
  split
  · rfl
  · split <;> simp -implicitDefEqProofs

@[simp] theorem State.setDma_mem (s : State) (n j : Nat) (l : List Dma) : (s.setDma n j l).mem = s.mem := by
  simp [State.setDma]

@[simp] theorem State.pqWord_mem (s : State) (f n rel v m : Nat) : (s.pqWord f n rel v m).mem = s.mem := by
  simp [State.pqWord]

@[simp] theorem State.dmaPieces_mem (s : State) (n fuel va len : Nat) : (s.dmaPieces n fuel va len).2.mem = s.mem := by
  induction fuel generalizing s va len with
  | zero => rfl
  | succ fuel ih =>
    rw [State.dmaPieces]
    split
    · rfl
    · dsimp only
      split
      · next h => exact (ih _ _ _).trans (State.mem_of_translate h)
      · next h => exact State.mem_of_translate h

@[simp] theorem State.dmaLoad_mem (s : State) (k l : Nat) (e : Ecc) : (s.dmaLoad k l e).2.2.mem = s.mem := by
  refine (?_ : MemKept s _)
  rw [State.dmaLoad]
  split
  · exact (((MemKept.refl s).noteEcc _ _ _).bump _ _).edgeEcc _ _ _
  · exact (((MemKept.refl s).noteEcc _ _ _).openRowOf _ _).raiseEcc _ _ _ _

@[simp] theorem State.dmaLoads_mem (s : State) (e : Ecc) (l : List (Nat × Nat)) : (s.dmaLoads e l).2.2.mem = s.mem := by
  induction l generalizing s e with
  | nil => rfl
  | cons p ps ih => rw [State.dmaLoads, ih, State.dmaLoad_mem]

@[simp] theorem State.updEgr_mem (s : State) (e : Nat) (f : Egress → Egress) : (s.updEgr e f).mem = s.mem := by
  simp [State.updEgr]

@[simp] theorem State.poolWrite_mem (s : State) (v : Nat) : (s.poolWrite v).mem = s.mem := by simp [State.poolWrite]
@[simp] theorem State.capacityWrite_mem (s : State) (n v : Nat) : (s.capacityWrite n v).mem = s.mem := by
  simp [State.capacityWrite]

@[simp] theorem State.ledgerPut_mem (s : State) (n e kind item len payload : Nat) (unarmed : Bool) :
    (s.ledgerPut n e kind item len payload unarmed).mem = s.mem := by simp [State.ledgerPut]

@[simp] theorem State.ledgerOffer_mem (s : State) (n e kind item len payload : Nat) :
    (s.ledgerOffer n e kind item len payload).2.mem = s.mem := by
  unfold State.ledgerOffer
  dsimp only
  split <;> (try split) <;> simp

@[simp] theorem State.lateRecord_mem (s : State) (n e item entry cause : Nat) (slowed : Bool) (due : Int) :
    (s.lateRecord n e item entry cause slowed due).mem = s.mem := by simp [State.lateRecord]

@[simp] theorem State.release_mem (s : State) (n : Nat) (f : Rec → Bool) : (s.release n f).mem = s.mem := by
  simp [State.release]

@[simp] theorem State.emitItem_mem (s : State) (n e item : Nat) : (s.emitItem n e item).mem = s.mem := by
  simp [State.emitItem]

@[simp] theorem State.plgSubmit_mem (s : State) (n t v : Nat) (ecc : Ecc) : (s.plgSubmit n t v ecc).mem = s.mem := by
  refine (?_ : MemKept s _)
  rw [State.plgSubmit]
  split
  · exact (((MemKept.refl s).wideRead _ _ _).updPart _ _).raiseEcc _ _ _ _
  · exact (MemKept.refl s).updPart _ _

@[simp] theorem State.ledgerCheck_mem (s : State) (n : Nat) (b : Sub) : (s.ledgerCheck n b).mem = s.mem := by
  rw [State.ledgerCheck]
  split
  · rw [State.send_mem]
    (repeat' split) <;> simp -implicitDefEqProofs
  · (repeat' split) <;> simp -implicitDefEqProofs

@[simp] theorem State.refillShapers_mem (s : State) : s.refillShapers.mem = s.mem := by simp [State.refillShapers]
@[simp] theorem State.askHop_mem (s : State) (e : Nat) : (s.askHop e).mem = s.mem := by simp [State.askHop]
@[simp] theorem State.updRec_mem (s : State) (n e seq : Nat) (f : Rec → Rec) : (s.updRec n e seq f).mem = s.mem := by
  simp [State.updRec]

@[simp] theorem State.ldpOut_mem (s : State) (e mac n : Nat) (r : Rec) : (s.ldpOut e mac n r).mem = s.mem := by
  simp [State.ldpOut]

@[simp] theorem State.ldpSend_mem (s0 : State) (e : Nat) : (s0.ldpSend e).mem = s0.mem := by
  unfold State.ldpSend
  dsimp only
  split <;> (try split) <;> simp

@[simp] theorem State.ackSeq_mem (s : State) (e seq : Nat) : (s.ackSeq e seq).mem = s.mem := by
  unfold State.ackSeq
  split <;> simp

@[simp] theorem State.shaperRefuse_mem (s : State) (e : Nat) : (s.shaperRefuse e).mem = s.mem := by
  simp [State.shaperRefuse]

@[simp] theorem State.rateWrite_mem (s0 : State) (e v : Nat) : (s0.rateWrite e v).mem = s0.mem := by
  simp [State.rateWrite]

@[simp] theorem State.burstWrite_mem (s0 : State) (e v : Nat) : (s0.burstWrite e v).mem = s0.mem := by
  simp [State.burstWrite]

@[simp] theorem State.forgive_mem (s : State) (e : Nat) : (s.forgive e).mem = s.mem := by simp [State.forgive]
@[simp] theorem State.setErt_mem (s : State) (n e : Nat) (x : EntryRt) : (s.setErt n e x).mem = s.mem := by
  simp [State.setErt]

@[simp] theorem State.armEntry_mem (s : State) (n e : Nat) (due : Int) : (s.armEntry n e due).mem = s.mem := by
  simp [State.armEntry]

@[simp] theorem State.disarmEntry_mem (s : State) (n e : Nat) : (s.disarmEntry n e).mem = s.mem := by
  simp [State.disarmEntry]

@[simp] theorem State.armAll_mem (s : State) (n : Nat) : (s.armAll n).mem = s.mem := by simp [State.armAll]
@[simp] theorem State.noteCrossPart_mem (s : State) (b n : Nat) : (s.noteCrossPart b n).mem = s.mem := by
  simp [State.noteCrossPart]

@[simp] theorem State.noteCross_mem (s : State) (b : Nat) : (s.noteCross b).mem = s.mem := by simp [State.noteCross]
@[simp] theorem State.updItem_mem (s : State) (n num : Nat) (f : Item → Item) : (s.updItem n num f).mem = s.mem := by
  simp [State.updItem]

@[simp] theorem State.lateVerdict_mem (s : State) (n e : Nat) (i : Item) (cause : Nat) :
    (s.lateVerdict n e i cause).mem = s.mem := by simp [State.lateVerdict]

@[simp] theorem State.finalCheck_mem (s : State) (n e num cause : Nat) :
    (s.finalCheck n e num cause).mem = s.mem := by
  unfold State.finalCheck
  split <;> simp

@[simp] theorem State.leadCheck_mem (s : State) (n e num : Nat) : (s.leadCheck n e num).mem = s.mem := by
  unfold State.leadCheck
  split <;> simp

@[simp] theorem State.sweepItems_mem (s : State) (n : Nat) : (s.sweepItems n).mem = s.mem := by
  simp [State.sweepItems]

@[simp] theorem State.closeItems_mem (s : State) (n cause : Nat) (f : Item → Bool) :
    (s.closeItems n cause f).mem = s.mem := by
  unfold State.closeItems
  dsimp only
  rw [State.wf_mem, State.updPart_mem]
  refine State.forEach_mem_of _ _ fun s num => ?_
  split
  · rfl
  · exact State.forEach_mem_of _ _ fun s e => s.finalCheck_mem n e num cause

@[simp] theorem State.histAt_mem (s : State) (b t : Nat) : (s.histAt b t).2.2.mem = s.mem := by
  unfold State.histAt
  (repeat' split) <;> simp

@[simp] theorem State.stageIrq_mem (s : State) (pg : Nat) : (s.stageIrq pg).mem = s.mem := by simp [State.stageIrq]
@[simp] theorem State.refuseCommit_mem (s : State) (pg reason : Nat) : (s.refuseCommit pg reason).mem = s.mem := by
  unfold State.refuseCommit
  (repeat' split) <;> simp

@[simp] theorem State.goLive_mem (s : State) (sh : SMap Nat) : (s.goLive sh).mem = s.mem := by simp [State.goLive]
@[simp] theorem State.movedRel_mem (s : State) (n e : Nat) : (s.movedRel n e).mem = s.mem := by simp [State.movedRel]
@[simp] theorem State.pttApply_mem (s : State) (old : State) (n : Nat) (sh : SMap Nat) :
    (s.pttApply old n sh).mem = s.mem := by simp [State.pttApply]

@[simp] theorem State.tbApply_mem (s : State) (old : State) (b : Nat) : (s.tbApply old b).mem = s.mem := by
  simp [State.tbApply]

@[simp] theorem State.copyFlip_mem (s : State) (n : Nat) : (s.copyFlip n).mem = s.mem := by simp [State.copyFlip]
@[simp] theorem State.geomApply_mem (s : State) (n : Nat) : (s.geomApply n).mem = s.mem := by simp [State.geomApply]
@[simp] theorem State.pageApply_mem (s old : State) (pg : Nat) (sh : SMap Nat) : (s.pageApply old pg sh).mem = s.mem := by
  unfold State.pageApply
  split
  case h_4 =>
    split <;> simp
  case h_7 =>
    dsimp only
    split <;> simp
  all_goals simp

@[simp] theorem State.applyPage_mem (s : State) (pg : Nat) (sh : SMap Nat) : (s.applyPage pg sh).mem = s.mem := by
  simp [State.applyPage]

@[simp] theorem State.groupCheck_mem (s : State) (part group : Nat) : (s.groupCheck part group).1.mem = s.mem := by
  unfold State.groupCheck
  refine foldl_fst_mem (fun p pg => ?_) _ _
  split <;> simp

@[simp] theorem State.captureSeam_mem (s : State) (part group : Nat) : (s.captureSeam part group).mem = s.mem := by
  simp [State.captureSeam]

@[simp] theorem State.commitNow_mem (s : State) (pg : Nat) : (s.commitNow pg).mem = s.mem := by
  unfold State.commitNow
  simp only []
  split <;> simp

@[simp] theorem State.commit_mem (s : State) (pg : Nat) : (s.commit pg).mem = s.mem := by simp [State.commit]
@[simp] theorem State.discard_mem (s : State) (pg : Nat) : (s.discard pg).mem = s.mem := by simp [State.discard]
@[simp] theorem State.stageCtrl_mem (s : State) (pg v m : Nat) : (s.stageCtrl pg v m).mem = s.mem := by
  unfold State.stageCtrl
  split <;> simp

@[simp] theorem State.stageStatus_mem (s : State) (pg v m : Nat) : (s.stageStatus pg v m).mem = s.mem := by
  simp [State.stageStatus]

@[simp] theorem State.pulse_mem (s : State) (n arg : Nat) : (s.pulse n arg).mem = s.mem := by simp [State.pulse]
@[simp] theorem State.fireJob_mem (s : State) (n e : Nat) (x : PttEntry) (item : Option Nat) (a : Int) (slip : Bool) :
    (s.fireJob n e x item a slip).mem = s.mem := by
  unfold State.fireJob
  split <;> simp

@[simp] theorem State.countFire_mem (s : State) (n e : Nat) : (s.countFire n e).mem = s.mem := by
  simp [State.countFire]

@[simp] theorem State.openItem_mem (s : State) (n e : Nat) (due : Int) (cross : Nat) :
    (s.openItem n e due cross).2.mem = s.mem := by
  unfold State.openItem
  split <;> simp

@[simp] theorem State.fireAct_mem (s : State) (n e : Nat) (x : PttEntry) (item : Option Nat) (a : Int) (slip started : Bool) :
    (s.fireAct n e x item a slip started).mem = s.mem := by
  unfold State.fireAct
  split <;> (try split) <;> simp

@[simp] theorem State.afterFire_mem (s : State) (n e : Nat) (x : PttEntry) : (s.afterFire n e x).mem = s.mem := by
  simp [State.afterFire]

@[simp] theorem State.fire_mem (s : State) (n : Nat) (d : Due) : (s.fire n d).mem = s.mem := by
  unfold State.fire
  dsimp only
  split <;> (try split) <;> simp

@[simp] theorem State.serve_mem (n fuel : Nat) (s : State) : (State.serve n fuel s).mem = s.mem := by
  induction fuel generalizing s with
  | zero => rfl
  | succ fuel ih =>
    rw [State.serve]
    split <;> simp [ih]

@[simp] theorem State.noteAll_mem (s : State) (n : Nat) : (s.noteAll n).mem = s.mem := by simp [State.noteAll]
@[simp] theorem State.rearm_mem (s : State) (n e : Nat) : (s.rearm n e).mem = s.mem := by simp [State.rearm]
@[simp] theorem State.dropFirings_mem (s : State) (n e : Nat) (x : PttEntry) (k : Nat) :
    (s.dropFirings n e x k).mem = s.mem := by
  unfold State.dropFirings
  split <;> simp

@[simp] theorem State.jumpPart_mem (s : State) (b : Nat) (old new : Int) (n : Nat) :
    (s.jumpPart b old new n).mem = s.mem := by
  unfold State.jumpPart
  dsimp only
  rw [State.sweepItems_mem, State.forEach_mem_of, State.forEach_mem_of]
  · intro s e
    (repeat' split) <;> simp
  · intro s num
    split
    · rfl
    · refine State.forEach_mem_of _ _ fun s e => ?_
      rw [State.updItem_mem]
      split <;> simp

@[simp] theorem State.jump_mem (s : State) (b : Nat) (old new : Int) : (s.jump b old new).mem = s.mem := by
  simp [State.jump]

@[simp] theorem State.rangeFault_mem (s : State) (raw : Int) : (s.rangeFault raw).mem = s.mem := by
  simp [State.rangeFault]

@[simp] theorem State.edgeSeen_mem (s : State) (b : Nat) : (s.edgeSeen b).mem = s.mem := by simp [State.edgeSeen]
@[simp] theorem State.tbCount_mem (s : State) (b : Nat) (d : Int) : (s.tbCount b d).mem = s.mem := by
  simp [State.tbCount]

@[simp] theorem State.quadError_mem (s : State) (b : Nat) : (s.quadError b).mem = s.mem := by simp [State.quadError]
@[simp] theorem State.tbStep_mem (s : State) (acc : List Nat) (b : Nat) : (s.tbStep acc b).mem = s.mem := by
  unfold State.tbStep
  simp only []
  split <;> simp

@[simp] theorem State.tbEdge_mem (s : State) (acc : List Nat) (b : Nat) : (s.tbEdge acc b).mem = s.mem := by
  simp [State.tbEdge]

@[simp] theorem State.glitches_mem (s : State) (l : List Nat) : (s.glitches l).mem = s.mem :=
  foldl_mem (fun _ _ => by simp) _ _

@[simp] theorem State.leadPart_mem (s : State) (b n : Nat) : (s.leadPart b n).mem = s.mem := by
  unfold State.leadPart
  dsimp only
  split
  · rfl
  · refine State.forEach_mem_of _ _ fun s num => ?_
    split <;> simp

@[simp] theorem State.tbSample_mem (s : State) (b : Nat) : (s.tbSample b).mem = s.mem := by simp [State.tbSample]
@[simp] theorem State.tbLost_mem (s : State) (b : Nat) : (s.tbLost b).mem = s.mem := by simp [State.tbLost]
@[simp] theorem State.ptpState_mem (s : State) (st : Nat) : (s.ptpState st).mem = s.mem := by simp [State.ptpState]
@[simp] theorem State.timeStep_mem (s : State) (d : Int) : (s.timeStep d).mem = s.mem := by simp [State.timeStep]
@[simp] theorem State.ptpServo_mem (s : State) (state : Nat) : (s.ptpServo state).mem = s.mem := by
  simp [State.ptpServo]

@[simp] theorem State.queryTime_mem (s : State) (t : Nat) : (s.queryTime t).mem = s.mem := by simp [State.queryTime]
@[simp] theorem State.adjust_mem (s : State) (b add : Nat) : (s.adjust b add).mem = s.mem := by simp [State.adjust]
@[simp] theorem State.wk_mem (s : State) (k : Fk) (v : Nat) : (s.wk k v).mem = s.mem := by simp [State.wk]
@[simp] theorem State.wks_mem (s : State) (l : List (Fk × Nat)) : (s.wks l).mem = s.mem := by simp [State.wks]
@[simp] theorem State.loadPage_mem (s : State) (pg : Nat) : (s.loadPage pg).mem = s.mem := by
  unfold State.loadPage
  split
  · exact foldl_mem (fun s f => foldl_mem (fun _ _ => by simp) _ _) _ _
  · rfl

@[simp] theorem State.setPwr_mem (s : State) : s.setPwr.mem = s.mem := by simp [State.setPwr]
@[simp] theorem State.setSlow_mem (s : State) : s.setSlow.mem = s.mem := by simp [State.setSlow]
@[simp] theorem State.setSupply_mem (s : State) : s.setSupply.mem = s.mem := by simp [State.setSupply]
@[simp] theorem State.setCharging_mem (s : State) : s.setCharging.mem = s.mem := by simp [State.setCharging]
@[simp] theorem State.measure_mem (s : State) (mv : Nat) : (s.measure mv).mem = s.mem := by simp [State.measure]
@[simp] theorem State.setPackOk_mem (s : State) : s.setPackOk.mem = s.mem := by simp [State.setPackOk]
@[simp] theorem State.setArmed_mem (s : State) (v : Bool) : (s.setArmed v).mem = s.mem := by simp [State.setArmed]
@[simp] theorem State.measChange_mem (s : State) : s.measChange.mem = s.mem := by simp [State.measChange]
@[simp] theorem State.setMeas_mem (s : State) (f : Keeper → Keeper) : (s.setMeas f).mem = s.mem := by
  simp [State.setMeas]

@[simp] theorem State.rowsRead_mem (s : State) (n t r k : Nat) : (s.rowsRead n t r k).2.mem = s.mem := by
  simp [State.rowsRead]

@[simp] theorem State.cellBit_mem (s : State) (n t r i j : Nat) : (s.cellBit n t r i j).2.mem = s.mem := by
  simp [State.cellBit]

@[simp] theorem State.cellCost_mem (s : State) (n t i j : Nat) : (s.cellCost n t i j).2.mem = s.mem := by
  simp [State.cellCost]

@[simp] theorem State.setEng_mem (s : State) (t : Nat) (e : SweepEng) : (s.setEng t e).mem = s.mem := by
  simp [State.setEng]

@[simp] theorem State.flushOut_mem (s : State) (n t fuel : Nat) : (s.flushOut n t fuel).mem = s.mem := by
  induction fuel generalizing s with
  | zero => rfl
  | succ fuel ih =>
    rw [State.flushOut]
    dsimp only
    split
    · rfl
    · split
      · rfl
      · simp [ih]

@[simp] theorem State.sendMsg_mem (s : State) (n t : Nat) (m : List Entry) : (s.sendMsg n t m).mem = s.mem := by
  unfold State.sendMsg
  dsimp only
  split <;> simp

@[simp] theorem State.holdMsg_mem (s : State) (t d : Nat) (m : List Entry) : (s.holdMsg t d m).mem = s.mem := by
  unfold State.holdMsg
  split <;> simp

@[simp] theorem State.roundsStart_mem (s : State) (n t : Nat) (kept : Bool) :
    (s.roundsStart n t kept).mem = s.mem := by simp [State.roundsStart]

@[simp] theorem State.sweepReport_mem (s : State) (n round : Nat) (report : Bool) :
    (s.sweepReport n round report).mem = s.mem := by
  unfold State.sweepReport
  split <;> simp

@[simp] theorem State.cutMin_mem (s : State) (n t : Nat) : (s.cutMin n t).2.mem = s.mem := by simp [State.cutMin]
@[simp] theorem State.sweepDone_mem (s : State) (n : Nat) : (s.sweepDone n).mem = s.mem := by
  unfold State.sweepDone
  split <;> simp

@[simp] theorem State.costAt_mem (s : State) (n : Nat) (cx cy : Int) : (s.costAt n cx cy).2.mem = s.mem := by
  unfold State.costAt
  split <;> (try split) <;> simp

@[simp] theorem State.inflAt_mem (s : State) (n cx cy : Nat) : (s.inflAt n cx cy).2.mem = s.mem := by
  unfold State.inflAt
  split <;> simp

@[simp] theorem State.bestNb_mem (s : State) (n cx cy : Nat) : (s.bestNb n cx cy).2.2.2.mem = s.mem := by
  unfold State.bestNb
  refine foldl_keeps (fun p : Nat × Nat × Nat × State => p.2.2.2.mem) (fun p v => ?_) _ _
  dsimp only
  split <;> simp

@[simp] theorem State.checkFrom_mem (s : State) (n fuel k : Nat) : (s.checkFrom n fuel k).2.mem = s.mem := by
  induction fuel generalizing s k with
  | zero => rfl
  | succ fuel ih =>
    rw [State.checkFrom]
    split
    · next h =>
      dsimp only
      split <;> split <;> simp [ih, State.mem_of_translate h]
    · next h => exact State.mem_of_translate h

@[simp] theorem State.sweepBegin_mem (s : State) (n op : Nat) : (s.sweepBegin n op).mem = s.mem := by
  unfold State.sweepBegin
  dsimp only
  split
  · exact foldl_mem (fun v t => v.setEng_mem t _) _ s
  · exact foldl_mem (fun v t => v.setEng_mem t _) _ s
  · exact (foldl_mem (fun v t => v.setEng_mem t _) _ _).trans (s.wf_mem _ _)
  · exact (foldl_mem (fun v t => v.setEng_mem t _) _ _).trans (s.wf_mem _ _)
  · rfl

@[simp] theorem State.pswCmd_mem (s : State) (n op : Nat) : (s.pswCmd n op).mem = s.mem := by
  unfold State.pswCmd
  split <;> (try split) <;> simp -implicitDefEqProofs

@[simp] theorem State.pswWord_mem (s : State) (n rel v m : Nat) : (s.pswWord n rel v m).mem = s.mem := by
  simp [State.pswWord]

@[simp] theorem State.pswHost_mem (s : State) (f n op : Nat) : (s.pswHost f n op).mem = s.mem := by
  simp [State.pswHost]

@[simp] theorem State.headerWord_mem (s : State) (off v m : Nat) : (s.headerWord off v m).mem = s.mem := by
  simp [State.headerWord]

@[simp] theorem State.pttEntryWrite_mem (s : State) (n w v m : Nat) : (s.pttEntryWrite n w v m).mem = s.mem := by
  simp [State.pttEntryWrite]

@[simp] theorem State.cfgWord_mem (s : State) (n i rel v m : Nat) : (s.cfgWord n i rel v m).mem = s.mem := by
  simp [State.cfgWord]

@[simp] theorem State.clearForLoad_mem (s : State) (n : Nat) : (s.clearForLoad n).mem = s.mem := by
  have disabled (u : State) (t : Nat) : (u.forEach (List.range 16) fun s k =>
      if s.rb (TILE_TASK_CFG_ENABLE t k) then s.taskEnable t k false else s).mem = u.mem :=
    State.forEach_mem_of _ _ fun u k => by split <;> simp
  have killed (u : State) (t : Nat) : (u.forEach (List.range 64) fun s h => s.shelfKill t h).mem = u.mem :=
    State.forEach_mem_of _ _ fun u h => u.shelfKill_mem t h
  rw [State.clearForLoad]
  refine (State.forEach_mem_of _ _ fun u p => u.wf_mem _ _).trans ((foldl_mem (fun u t => ?_) _ _).trans
    (foldl_mem (fun u t => ?_) _ _))
  · exact State.forEach_mem_of _ _ fun u e => u.wf_mem _ _
  · exact (State.clearPages_mem _ _ _).trans ((State.clearPages_mem _ _ _).trans ((killed _ t).trans (disabled u t)))

@[simp] theorem State.placePage_mem (s : State) (n i rel len v : Nat) : (s.placePage n i rel len v).mem = s.mem := by
  simp [State.placePage]

@[simp] theorem State.applyCfg_mem (s : State) (n : Nat) (cfg : List Nat) : (s.applyCfg n cfg).mem = s.mem := by
  rw [State.applyCfg]
  refine foldl_mem (fun u i => ?_) _ _
  rw [State.mem_ite, State.stageCtrl_mem, ite_self]

@[simp] theorem State.imgRefuse_mem (s : State) (code : Nat) : (s.imgRefuse code).mem = s.mem := by
  unfold State.imgRefuse
  split <;> simp

@[simp] theorem State.imgAbort_mem (s : State) (code : Nat) : (s.imgAbort code).mem = s.mem := by
  unfold State.imgAbort
  split <;> simp

@[simp] theorem State.fetch_mem (s : State) (src off n : Nat) : (s.fetch src off n).mem = s.mem := by
  unfold State.fetch
  dsimp only
  split
  · exact foldl_mem (fun _ _ => by simp) _ _
  · simp
  · rfl

@[simp] theorem State.fetchShard_mem (s : State) (l : Load) (p i : Nat) : (s.fetchShard l p i).mem = s.mem := by
  simp [State.fetchShard]

@[simp] theorem State.imgGo_mem (s : State) : s.imgGo.mem = s.mem := by
  unfold State.imgGo
  dsimp only
  (repeat' split) <;> simp

@[simp] theorem State.shardBad_mem (s : State) (l : Load) : (s.shardBad l).mem = s.mem := by simp [State.shardBad]
@[simp] theorem State.coldDone_mem (s : State) (l : Load) : (s.coldDone l).mem = s.mem := by simp [State.coldDone]
@[simp] theorem State.streamHalt_mem (s : State) (t d va reason : Nat) (write : Bool) :
    (s.streamHalt t d va reason write).mem = s.mem := by simp [State.streamHalt]

@[simp] theorem State.streamRange_mem (s : State) (t d : Nat) : (s.streamRange t d).mem = s.mem := by
  simp [State.streamRange]

/-- The state that a reached or a halting access leaves. -/
def Reach.next : Reach → State
  | .halted s => s
  | .at_ _ s => s

@[simp] theorem Reach.next_halted (s : State) : (Reach.halted s).next = s := rfl
@[simp] theorem Reach.next_at (k : Nat) (s : State) : (Reach.at_ k s).next = s := rfl

@[simp] theorem State.streamReach_mem (s : State) (t d : Nat) (h : Handle) (off : Nat) (write : Bool) :
    (s.streamReach t d h off write).next.mem = s.mem := by
  unfold State.streamReach
  split
  · split
    · next h => exact State.mem_of_translate h
    · next h => exact (State.streamHalt_mem ..).trans (State.mem_of_translate h)
    · next h => exact (State.streamHalt_mem ..).trans (State.mem_of_translate h)
  · rfl

@[simp] theorem State.listReach_mem (s : State) (t d off n : Nat) : (s.listReach t d off n).next.mem = s.mem := by
  unfold State.listReach
  dsimp only
  split
  · rfl
  · simp

@[simp] theorem State.engineRead_mem (s : State) (t key n : Nat) (e : Ecc) :
    (s.engineRead t key n e).2.mem = s.mem := by
  refine (?_ : MemKept s _)
  unfold State.engineRead
  dsimp only
  split
  · exact ((((MemKept.refl s).noteEcc _ _ _).openRowOf _ _).raiseEcc _ _ _ _).raiseTile _ _
  · exact (((MemKept.refl s).noteEcc _ _ _).openRowOf _ _).raiseEcc _ _ _ _

@[simp] theorem State.listRead_mem (s : State) (t key n : Nat) (e : Ecc) : (s.listRead t key n e).2.mem = s.mem := by
  unfold State.listRead
  dsimp only
  split <;> (try split) <;> simp

@[simp] theorem State.setItem_mem (s : State) (t d off units : Nat) : (s.setItem t d off units).mem = s.mem := by
  simp [State.setItem]

@[simp] theorem State.blockItem_mem (s : State) (t d : Nat) (e : Ecc) : (s.blockItem t d e).mem = s.mem := by
  have hr := s.listReach_mem t d (8 * s.rf (TILE_POS_ITEM t d)) 8
  unfold State.blockItem
  dsimp only
  split
  · simp
  · split
    · next h => exact (congrArg (·.next.mem) h).symm.trans hr
    · next h =>
      have hs := (congrArg (·.next.mem) h).symm.trans hr
      split <;> exact Eq.trans (by simp) hs

@[simp] theorem State.indexFill_mem (s : State) (t d : Nat) (e : Ecc) : (s.indexFill t d e).mem = s.mem := by
  have hr n := s.listReach_mem t d (64 * ((s.tile t).stream d).taken) n
  unfold State.indexFill
  dsimp only
  split
  · simp
  · split
    · next h => exact (congrArg (·.next.mem) h).symm.trans (hr _)
    · next h => exact Eq.trans (by simp) ((congrArg (·.next.mem) h).symm.trans (hr _))

@[simp] theorem State.indexItem_mem (s : State) (t d : Nat) (e : Ecc) : (s.indexItem t d e).mem = s.mem := by
  unfold State.indexItem
  simp only []
  split <;> simp

@[simp] theorem State.xferIssue_mem (s : State) (t d u key va : Nat) : (s.xferIssue t d u key va).mem = s.mem := by
  simp [State.xferIssue]

@[simp] theorem State.streamEnd_mem (s : State) (t d : Nat) : (s.streamEnd t d).mem = s.mem := by
  simp [State.streamEnd]

@[simp] theorem State.nextTransfer_mem (s : State) (t d : Nat) : (s.nextTransfer t d).mem = s.mem := by
  have hr off := s.streamReach_mem t d ((s.tile t).stream d).dataH off (s.rb (TILE_CFG_DIR t d))
  unfold State.nextTransfer
  dsimp only
  split
  · simp
  · split
    · rfl
    · split
      · next h => exact (congrArg (·.next.mem) h).symm.trans (hr _)
      · next h =>
        split
        · rfl
        · exact Eq.trans (by simp) ((congrArg (·.next.mem) h).symm.trans (hr _))

@[simp] theorem State.haltPop_mem (s : State) (n : Nat) : (s.haltPop n).mem = s.mem := by simp [State.haltPop]
@[simp] theorem State.pstrResume_mem (s : State) (n v : Nat) : (s.pstrResume n v).mem = s.mem := by
  simp [State.pstrResume]

@[simp] theorem State.dropInbound_mem (s : State) (t : Nat) : (s.dropInbound t).mem = s.mem := by
  simp [State.dropInbound]

@[simp] theorem State.dropCredits_mem (s : State) (t : Nat) : (s.dropCredits t).mem = s.mem := by
  simp [State.dropCredits]

@[simp] theorem State.dropHalts_mem (s : State) (t : Nat) : (s.dropHalts t).mem = s.mem := by simp [State.dropHalts]
@[simp] theorem State.tileReset_mem (s : State) (t : Nat) : (s.tileReset t).mem = s.mem := by simp [State.tileReset]
@[simp] theorem State.plainReset_mem (s : State) (p : Nat) : (s.plainReset p).mem = s.mem := by
  rw [State.plainReset]
  simp -implicitDefEqProofs

@[simp] theorem State.clearRc_mem (s : State) (a b : Nat) : (s.clearRc a b).mem = s.mem := by simp [State.clearRc]
@[simp] theorem State.partTileReset_mem (s : State) (t : Nat) : (s.partTileReset t).mem = s.mem := by
  simp -implicitDefEqProofs [State.partTileReset]

@[simp] theorem State.updLane_mem (s : State) (p : Nat) (l : Lane) (f : Lane → Plain → Plain) :
    (s.updLane p l f).mem = s.mem := by
  unfold State.updLane
  split <;> simp

@[simp] theorem State.failLane_mem (s : State) (p : Nat) (l : Lane) : (s.failLane p l).mem = s.mem := by
  simp [State.failLane]

@[simp] theorem State.rimLost_mem (s : State) (e rim : Nat) : (s.rimLost e rim).mem = s.mem := by
  unfold State.rimLost
  split <;> (try split) <;> simp

@[simp] theorem State.linkLost_mem (s : State) (p : Nat) (l : Lane) (rim : Nat) :
    (s.linkLost p l rim).mem = s.mem := by
  unfold State.linkLost
  split <;> simp

@[simp] theorem State.laneDiffers_mem (s : State) (p rim : Nat) (l : Lane) : (s.laneDiffers p rim l).mem = s.mem := by
  simp [State.laneDiffers]

@[simp] theorem State.replaceLane_mem (s : State) (p : Nat) (l : Lane) : (s.replaceLane p l).mem = s.mem := by
  simp [State.replaceLane]

@[simp] theorem State.setRepair_mem (s : State) (p : Nat) (r : Option Repair) : (s.setRepair p r).mem = s.mem := by
  simp [State.setRepair]

@[simp] theorem State.recordLost_mem (s : State) (p : Nat) (l : LostRange) : (s.recordLost p l).mem = s.mem := by
  simp [State.recordLost]

@[simp] theorem State.restartTile_mem (s : State) (t : Nat) : (s.restartTile t).mem = s.mem := by
  rw [State.restartTile]
  split <;> simp -implicitDefEqProofs

@[simp] theorem State.plainResume_mem (s : State) (p : Nat) (r : Repair) : (s.plainResume p r).mem = s.mem := by
  rw [State.plainResume]
  split <;> simp -implicitDefEqProofs

@[simp] theorem State.reprResult_mem (s : State) (p op r : Nat) : (s.reprResult p op r).mem = s.mem := by
  simp [State.reprResult]

@[simp] theorem State.reprStart_mem (s : State) (p op : Nat) (kd : RepairKind) (m : PMap) :
    (s.reprStart p op kd m).mem = s.mem := by simp -implicitDefEqProofs [State.reprStart]

@[simp] theorem State.reprCmd_mem (s : State) (p v : Nat) : (s.reprCmd p v).mem = s.mem := by
  unfold State.reprCmd
  dsimp only
  (repeat' split) <;> simp -implicitDefEqProofs

@[simp] theorem State.reprWord_mem (s : State) (p rel v m : Nat) : (s.reprWord p rel v m).mem = s.mem := by
  simp [State.reprWord]

@[simp] theorem State.reprHost_mem (s : State) (f p v : Nat) : (s.reprHost f p v).mem = s.mem := by
  simp [State.reprHost]

@[simp] theorem State.rejectCmd_mem (s : State) (n c : Nat) : (s.rejectCmd n c).mem = s.mem := by
  simp [State.rejectCmd]

@[simp] theorem State.promotePart_mem (s : State) (n : Nat) : (s.promotePart n).mem = s.mem := by
  simp [State.promotePart]

@[simp] theorem State.runPart_mem (s : State) (n : Nat) : (s.runPart n).mem = s.mem := by simp [State.runPart]
@[simp] theorem State.stopPart_mem (s : State) (n : Nat) : (s.stopPart n).mem = s.mem := by simp [State.stopPart]
@[simp] theorem State.cmdNow_mem (s : State) (n c : Nat) : (s.cmdNow n c).mem = s.mem := by
  unfold State.cmdNow
  split <;> simp

@[simp] theorem State.disarmPart_mem (s : State) (n : Nat) : (s.disarmPart n).mem = s.mem := by
  simp [State.disarmPart]

@[simp] theorem State.partStatus_mem (s : State) (n : Nat) : (s.partStatus n).mem = s.mem := by
  simp [State.partStatus]

@[simp] theorem State.resuspend_mem (s : State) (n : Nat) : (s.resuspend n).mem = s.mem := by simp [State.resuspend]
@[simp] theorem State.partResetGo_mem (s : State) (n : Nat) : (s.partResetGo n).mem = s.mem := by
  unfold State.partResetGo
  extract_lets used paused s1 s2 s3 s4 s5 s6 s7
  have h1 : s1.mem = s.mem := (foldl_mem (fun u t => u.epochTile_mem t) _ _).trans (s.epochPart_mem n)
  clear_value s1
  have h2 : s2.mem = s1.mem := by
    unfold s2
    split
    · split
      · exact s1.imgAbort_mem 17
      · rfl
    · rfl
  clear_value s2
  have h3 : s3.mem = s2.mem := (State.setPst_mem _ _ _).trans (State.closeItems_mem _ _ _ _)
  clear_value s3
  have h4 : s4.mem = s3.mem := foldl_mem (fun u t => u.partTileReset_mem t) _ _
  clear_value s4
  have h5 : s5.mem = s4.mem := foldl_mem (fun u p => u.updPlain_mem p _) _ _
  clear_value s5
  have h6 : s6.mem = s5.mem := s5.disarmPart_mem n
  clear_value s6
  have h7 : s7.mem = s6.mem := foldl_mem (fun u i => u.dropShadows_mem _) _ _
  clear_value s7
  exact (State.resuspend_mem _ _).trans ((State.updPart_mem _ _ _).trans ((s7.partStatus_mem n).trans
    (h7.trans (h6.trans (h5.trans (h4.trans (h3.trans (h2.trans h1))))))))

@[simp] theorem State.holdReset_mem (s : State) (h : HeldReset) : (s.holdReset h).mem = s.mem := by
  simp [State.holdReset]

@[simp] theorem State.partReset_mem (s : State) (n : Nat) (flr : Bool) : (s.partReset n flr).mem = s.mem := by
  simp [State.partReset]

@[simp] theorem State.flrReport_mem (s : State) (n : Nat) : (s.flrReport n).mem = s.mem := by simp [State.flrReport]
@[simp] theorem State.waitedReset_mem (s : State) (p : Nat) : (s.waitedReset p).mem = s.mem := by
  unfold State.waitedReset
  (repeat' split) <;> simp

@[simp] theorem State.partCmd_mem (s : State) (n c : Nat) : (s.partCmd n c).mem = s.mem := by simp [State.partCmd]
@[simp] theorem State.partFlr_mem (s : State) (n : Nat) : (s.partFlr n).mem = s.mem := by simp [State.partFlr]
@[simp] theorem State.partHost_mem (s : State) (f n c : Nat) : (s.partHost f n c).mem = s.mem := by
  simp [State.partHost]

@[simp] theorem State.mgmtResetGo_mem (s : State) : s.mgmtResetGo.mem = s.mem := by simp [State.mgmtResetGo]
@[simp] theorem State.mgmtReset_mem (s : State) : s.mgmtReset.mem = s.mem := by simp [State.mgmtReset]
@[simp] theorem State.setUblock_mem (s : State) (k : Nat) (b : UBlock) : (s.setUblock k b).mem = s.mem := by
  simp [State.setUblock]

@[simp] theorem State.freePages_mem (s : State) (k page n : Nat) : (s.freePages k page n).mem = s.mem := by
  simp [State.freePages]

@[simp] theorem State.stopDesc_mem (s : State) (d : UDesc) : (s.stopDesc d).mem = s.mem := by
  unfold State.stopDesc
  split <;> (try split) <;> simp

@[simp] theorem State.restartRing_mem (s : State) : s.restartRing.mem = s.mem := by simp [State.restartRing]
@[simp] theorem State.powerStopRing_mem (s : State) : s.powerStopRing.mem = s.mem := by simp [State.powerStopRing]
@[simp] theorem State.fwState_mem (s : State) (st result : Nat) : (s.fwState st result).mem = s.mem := by
  simp [State.fwState]

@[simp] theorem State.fwEnd_mem (s : State) (result : Nat) : (s.fwEnd result).mem = s.mem := by simp [State.fwEnd]
@[simp] theorem State.selWrite_mem (s : State) (slot : Nat) (trial : Bool) : (s.selWrite slot trial).mem = s.mem := by
  simp [State.selWrite]

@[simp] theorem State.fwRestart_mem (s : State) : s.fwRestart.mem = s.mem := by
  unfold State.fwRestart
  dsimp only
  split
  · split <;> simp
  · rfl

@[simp] theorem State.fwPowerFail_mem (s : State) : s.fwPowerFail.mem = s.mem := by simp [State.fwPowerFail]
@[simp] theorem State.setSeq_mem (s : State) (st : Nat) : (s.setSeq st).mem = s.mem := by simp [State.setSeq]
@[simp] theorem State.setSlot_mem (s : State) (k st : Nat) : (s.setSlot k st).mem = s.mem := by simp [State.setSlot]
@[simp] theorem State.capture_mem (s : State) (seq : Nat) : (s.capture seq).2.2.mem = s.mem := by simp [State.capture]
@[simp] theorem State.freezeTbs_mem (s : State) : s.freezeTbs.mem = s.mem := by
  rw [State.freezeTbs]
  exact State.forEach_mem_of _ _ fun _ _ => by rw [State.setTb_mem, State.noteCross_mem]

@[simp] theorem State.keepReloads_mem (s : State) : s.keepReloads.mem = s.mem := by simp [State.keepReloads]
@[simp] theorem State.restoreBegin_mem (s : State) (x : Snap) : (s.restoreBegin x).mem = s.mem := by
  simp -implicitDefEqProofs [State.restoreBegin]

@[simp] theorem State.lostRegion_mem (s : State) (r : Region) (kind : Nat) : (s.lostRegion r kind).mem = s.mem := by
  simp [State.lostRegion]

@[simp] theorem State.updRestore_mem (s : State) (f : Restore → Restore) : (s.updRestore f).mem = s.mem := by
  simp [State.updRestore]

@[simp] theorem State.goCold_mem (s : State) (n : Nat) : (s.goCold n).mem = s.mem := by simp [State.goCold]
@[simp] theorem State.loseRegion_mem (s : State) (r : Region) (kind : Nat) : (s.loseRegion r kind).mem = s.mem := by
  simp [State.loseRegion]

@[simp] theorem State.putSystem_mem (s : State) (x : Snap) (parts : List Nat) :
    (s.putSystem x parts).mem = s.mem := by simp [State.putSystem]

@[simp] theorem State.exitWarm_mem (s : State) (n st : Nat) : (s.exitWarm n st).mem = s.mem := by
  simp [State.exitWarm]

@[simp] theorem State.atMax_mem (s : State) (p : Nat) : (s.atMax p).mem = s.mem := by simp [State.atMax]
@[simp] theorem State.setStep_mem (s : State) (p k : Nat) : (s.setStep p k).mem = s.mem := by simp [State.setStep]
@[simp] theorem State.droopRead_mem (s : State) (p mv : Nat) : (s.droopRead p mv).mem = s.mem := by
  simp [State.droopRead]

@[simp] theorem State.drpCtrl_mem (s : State) (p v m : Nat) : (s.drpCtrl p v m).mem = s.mem := by simp [State.drpCtrl]
@[simp] theorem State.pwrCtrl_mem (s : State) (v m : Nat) : (s.pwrCtrl v m).mem = s.mem := by simp [State.pwrCtrl]
@[simp] theorem State.meshTo_mem (s : State) (p n v : Nat) : (s.meshTo p n v).mem = s.mem := by simp [State.meshTo]
@[simp] theorem State.runTask_mem (s : State) (t k : Nat) : (s.runTask t k).mem = s.mem := by
  unfold State.runTask
  split <;> simp

@[simp] theorem State.updMop_mem (s : State) (t i : Nat) (f : MOp → MOp) : (s.updMop t i f).mem = s.mem := by
  simp [State.updMop]

section

variable {s s' : State}

theorem MemKept.popIn (h : MemKept s s') (t k : Nat) : MemKept s (s'.popIn t k) := (s'.mem_popIn t k).trans h
theorem MemKept.updMop (h : MemKept s s') (t i : Nat) (f : MOp → MOp) : MemKept s (s'.updMop t i f) :=
  (State.updMop_mem ..).trans h

end

@[simp] theorem State.stepMop_mem (s : State) (t i n : Nat) : (s.stepMop t i n).mem = s.mem := by simp [State.stepMop]
@[simp] theorem State.faultIssuer_mem (s : State) (t : Nat) (m : MOp) (code : Nat) :
    (s.faultIssuer t m code).mem = s.mem := by simp [State.faultIssuer]

@[simp] theorem State.mxEcc_mem (s : State) (t : Nat) (m : MOp) (a n : Nat) (e : Ecc) :
    (s.mxEcc t m a n e).mem = s.mem := by
  cases e <;> simp [State.mxEcc]

section

variable {s s' : State}

theorem MemKept.mxEcc (h : MemKept s s') (t : Nat) (m : MOp) (a n : Nat) (e : Ecc) : MemKept s (s'.mxEcc t m a n e) :=
  (State.mxEcc_mem ..).trans h
theorem MemKept.stepMop (h : MemKept s s') (t i n : Nat) : MemKept s (s'.stepMop t i n) :=
  (State.stepMop_mem ..).trans h

end

@[simp] theorem State.mldwRow_mem (s : State) (t i : Nat) (m : MOp) (e : Ecc) : (s.mldwRow t i m e).mem = s.mem := by
  refine (?_ : MemKept s _)
  rw [State.mldwRow]
  split
  · split
    · exact MemKept.refl s
    · exact (((MemKept.refl s).popIn _ _).updTile _ _).stepMop _ _ _
  · exact ((((MemKept.refl s).wideRead _ _ _).updTile _ _).stepMop _ _ _).mxEcc _ _ _ _ _

@[simp] theorem State.mmaApply_mem (s : State) (t i : Nat) (m : MOp) (a : Nat) :
    (s.mmaApply t i m a).mem = s.mem := by simp [State.mmaApply]

section

variable {s s' : State}

theorem MemKept.mmaApply (h : MemKept s s') (t i : Nat) (m : MOp) (a : Nat) : MemKept s (s'.mmaApply t i m a) :=
  (State.mmaApply_mem ..).trans h

end

@[simp] theorem State.mmaRow_mem (s : State) (t i : Nat) (m : MOp) (e : Ecc) : (s.mmaRow t i m e).mem = s.mem := by
  refine (?_ : MemKept s _)
  rw [State.mmaRow]
  split
  · split
    · exact ((MemKept.refl s).updMop _ _ _).mmaApply _ _ _ _
    · split
      · exact MemKept.refl s
      · exact (((MemKept.refl s).popIn _ _).updMop _ _ _).mmaApply _ _ _ _
  · exact (((MemKept.refl s).wideRead _ _ _).mmaApply _ _ _ _).mxEcc _ _ _ _ _

@[simp] theorem State.mmagRow_mem (s : State) (t i : Nat) (m : MOp) : (s.mmagRow t i m).mem = s.mem := by
  rw [State.mmagRow]
  (repeat' split) <;> simp -implicitDefEqProofs

@[simp] theorem State.copyMarks_mem (s : State) (src dst : Nat) : (s.copyMarks src dst).mem = s.mem := by
  simp [State.copyMarks]

@[simp] theorem State.grantBad_mem (s : State) (t : Nat) (r : Req) : (s.grantBad t r).mem = s.mem := by
  unfold State.grantBad
  (repeat' split) <;> simp

@[simp] theorem State.tempRead_mem (s : State) (p : Nat) (c : Int) : (s.tempRead p c).mem = s.mem := by
  simp [State.tempRead]

@[simp] theorem State.setReady_mem (s : State) (l : List Nat) : (s.setReady l).mem = s.mem :=
  foldl_mem (fun _ _ => by simp) _ _

@[simp] theorem State.search_mem (s : State) : s.search.mem = s.mem := by
  unfold State.search
  dsimp only
  (repeat' split) <;> simp

@[simp] theorem State.benchExit_mem (s : State) (cause : Nat) : (s.benchExit cause).mem = s.mem := by
  simp [State.benchExit]

@[simp] theorem State.pstateRefuse_mem (s : State) (reason : Nat) : (s.pstateRefuse reason).mem = s.mem := by
  simp [State.pstateRefuse]

@[simp] theorem State.idleRequest_mem (s : State) : s.idleRequest.mem = s.mem := by
  unfold State.idleRequest
  split <;> simp

@[simp] theorem State.benchRequest_mem (s : State) (key : Nat) : (s.benchRequest key).mem = s.mem := by
  unfold State.benchRequest
  simp only []
  split <;> simp

@[simp] theorem State.runRequest_mem (s : State) : s.runRequest.mem = s.mem := by
  unfold State.runRequest
  dsimp only
  (repeat' split) <;> simp

@[simp] theorem State.pstateWrite_mem (s : State) (v : Nat) : (s.pstateWrite v).mem = s.mem := by
  unfold State.pstateWrite
  simp only []
  split <;> simp

@[simp] theorem State.pstateHost_mem (s : State) (f v : Nat) : (s.pstateHost f v).mem = s.mem := by
  simp [State.pstateHost]

@[simp] theorem State.chstRelease_mem (s : State) (v : Nat) : (s.chstRelease v).mem = s.mem := by
  simp [State.chstRelease]

@[simp] theorem State.eraseFails_mem (s : State) (n : Nat) : (s.eraseFails n).mem = s.mem := by
  simp [State.eraseFails]

@[simp] theorem State.wearMax_mem (s : State) (tenths : Nat) : (s.wearMax tenths).mem = s.mem := by
  simp [State.wearMax]

@[simp] theorem State.uringWord_mem (s : State) (rel v m : Nat) : (s.uringWord rel v m).mem = s.mem := by
  simp [State.uringWord]

@[simp] theorem State.uringDone_mem (s : State) (w1 w3 : Nat) : (s.uringDone w1 w3).mem = s.mem := by
  simp [State.uringDone]

theorem State.udesc_mem (s : State) (op w0 w1 w2 w3 : Nat) (act : State → State × Nat)
    (h : (act s).1.mem = s.mem) : (s.udesc op w0 w1 w2 w3 act).mem = s.mem := by
  unfold State.udesc
  dsimp only
  (repeat' split) <;> simp [h]

@[simp] theorem State.chestErase_mem (s : State) (w1 : Nat) (pass : Bool) : (s.chestErase w1 pass).1.mem = s.mem := by
  unfold State.chestErase
  dsimp only
  split <;> (try split) <;> simp

@[simp] theorem State.pageBeyond_mem (s : State) : (s.pageBeyond).1.mem = s.mem := by simp [State.pageBeyond]
@[simp] theorem State.chestProgram_mem (s : State) (w1 data : Nat) (hostErr pass : Bool) :
    (s.chestProgram w1 data hostErr pass).1.mem = s.mem := by
  unfold State.chestProgram
  dsimp only
  (repeat' split) <;> simp

@[simp] theorem State.pageData_mem (s : State) (b : UBlock) (page : Nat) : (s.pageData b page).2.mem = s.mem := by
  unfold State.pageData
  split <;> (try split) <;> simp

@[simp] theorem State.chestRead_mem (s : State) (w0 w1 : Nat) (step : Option Nat) (corrected bits_ : Nat) (hostErr : Bool) :
    (s.chestRead w0 w1 step corrected bits_ hostErr).1.mem = s.mem := by
  unfold State.chestRead
  dsimp only
  (repeat' split) <;> simp

@[simp] theorem State.chestInfo_mem (s : State) (w0 w1 : Nat) (hostErr : Bool) :
    (s.chestInfo w0 w1 hostErr).1.mem = s.mem := by
  unfold State.chestInfo
  split <;> simp

@[simp] theorem State.zoneWrite_mem (s : State) (v : Nat) (clash : Bool) : (s.zoneWrite v clash).mem = s.mem := by
  simp [State.zoneWrite]

@[simp] theorem State.fwUpdate_mem (s : State) : s.fwUpdate.mem = s.mem := by simp [State.fwUpdate]
@[simp] theorem State.fwRestartCmd_mem (s : State) : s.fwRestartCmd.mem = s.mem := by
  unfold State.fwRestartCmd
  split
  · simp [State.keeperDown]
  · rfl

@[simp] theorem State.fwCmd_mem (s : State) (v : Nat) : (s.fwCmd v).mem = s.mem := by
  unfold State.fwCmd
  split <;> simp

@[simp] theorem State.slotInvalid_mem (s : State) (k : Nat) : (s.slotInvalid k).mem = s.mem := by
  simp [State.slotInvalid]

@[simp] theorem State.bootSlot_mem (s : State) (good : Nat → Bool) : (s.bootSlot good).2.mem = s.mem := by
  unfold State.bootSlot
  dsimp only
  (repeat' split) <;> simp

@[simp] theorem State.fwBoot_mem (s : State) (k : Nat) : (s.fwBoot k).mem = s.mem := by simp [State.fwBoot]
@[simp] theorem State.unwrapKey_mem (s : State) (ok : Bool) : (s.unwrapKey ok).mem = s.mem := by
  simp [State.unwrapKey]

@[simp] theorem State.readJournal_mem (s : State) (a b : Bool) : (s.readJournal a b).mem = s.mem := by
  simp [State.readJournal]

theorem State.spdmAnswer_mem (s : State) (need : Nat) (act : State → SpdmReply × State)
    (h : (act s).2.mem = s.mem) : (s.spdmAnswer need act).mem = s.mem := by
  unfold State.spdmAnswer
  dsimp only
  (repeat' split) <;> simp [h]

@[simp] theorem State.rekey_mem (s : State) (v : Nat) : (s.rekey v).mem = s.mem := by simp [State.rekey]
@[simp] theorem State.setKeyState_mem (s : State) (k st : Nat) : (s.setKeyState k st).mem = s.mem := by
  simp [State.setKeyState]

@[simp] theorem State.imgkeyCmd_mem (s : State) (v : Nat) : (s.imgkeyCmd v).mem = s.mem := by
  unfold State.imgkeyCmd
  split <;> simp

@[simp] theorem State.jtagState_mem (s : State) (st : Nat) : (s.jtagState st).mem = s.mem := by simp [State.jtagState]
@[simp] theorem State.jtagChallenge_mem (s : State) : s.jtagChallenge.mem = s.mem := by
  rw [State.jtagChallenge]
  split <;> simp -implicitDefEqProofs

@[simp] theorem State.jtagFail_mem (s : State) : s.jtagFail.mem = s.mem := by simp [State.jtagFail]
@[simp] theorem State.jtagVerify_mem (s : State) (scope : Nat) : (s.jtagVerify scope).mem = s.mem := by
  unfold State.jtagVerify
  split <;> simp

@[simp] theorem State.jtagRelock_mem (s : State) : s.jtagRelock.mem = s.mem := by simp [State.jtagRelock]
@[simp] theorem State.jtagCmd_mem (s : State) (v : Nat) : (s.jtagCmd v).mem = s.mem := by
  unfold State.jtagCmd
  split <;> simp

@[simp] theorem State.rxRead_mem (s : State) (i : Nat) (vid vcm : Int) : (s.rxRead i vid vcm).mem = s.mem := by
  simp [State.rxRead]

@[simp] theorem State.rxSet_mem (s : State) (i : Nat) : (s.rxSet i).mem = s.mem := by simp [State.rxSet]
@[simp] theorem State.critical_mem (s : State) (p : Nat) : (s.critical p).mem = s.mem := by simp [State.critical]
@[simp] theorem State.coolRead_mem (s : State) (flow inlet outlet drop : Nat) :
    (s.coolRead flow inlet outlet drop).mem = s.mem := by simp [State.coolRead]

@[simp] theorem State.smbusReply_mem (s : State) (len data : Nat) : (s.smbusReply len data).mem = s.mem := by
  simp [State.smbusReply]

@[simp] theorem State.faultHost_mem (s : State) (f off v : Nat) : (s.faultHost f off v).mem = s.mem := by
  simp [State.faultHost]

@[simp] theorem State.overrideWrite_mem (s : State) (v m : Nat) : (s.overrideWrite v m).mem = s.mem := by
  simp [State.overrideWrite]

@[simp] theorem State.recover_mem (s : State) (n : Nat) : (s.recover n).mem = s.mem := by
  simp -implicitDefEqProofs [State.recover]

@[simp] theorem State.stickyClear_mem (s : State) (n : Nat) : (s.stickyClear n).mem = s.mem := by
  simp -implicitDefEqProofs [State.stickyClear]

@[simp] theorem State.latchRead_mem (s : State) (w : Owner) (k : Nat) : (s.latchRead w k).2.mem = s.mem := by
  unfold State.latchRead
  dsimp only
  (repeat' split) <;> simp

@[simp] theorem State.latchFree_mem (s : State) (w : Owner) (k : Nat) : (s.latchFree w k).mem = s.mem := by
  simp [State.latchFree]

@[simp] theorem State.latchBreak_mem (s : State) (w : Owner) (k : Nat) : (s.latchBreak w k).mem = s.mem := by
  simp [State.latchBreak]

@[simp] theorem State.latchWrite_mem (s : State) (w : Owner) (k v : Nat) : (s.latchWrite w k v).mem = s.mem := by
  simp [State.latchWrite]

@[simp] theorem State.edgeCheck_mem (s : State) (t g : Nat) : (s.edgeCheck t g).2.2.mem = s.mem := by
  unfold State.edgeCheck
  split
  · split <;> next h => exact State.mem_of_translate h
  · rfl

@[simp] theorem State.linkChange_mem (s : State) (p : Nat) (up : Bool) (lanes : Nat) :
    (s.linkChange p up lanes).mem = s.mem := by simp [State.linkChange]

@[simp] theorem State.prtCfg_mem (s : State) (p v m : Nat) : (s.prtCfg p v m).mem = s.mem := by simp [State.prtCfg]
@[simp] theorem State.stamp_mem (s : State) (i : Nat) (f : Frame) : (s.stamp i f).2.mem = s.mem := by
  unfold State.stamp
  split <;> (try split) <;> simp

@[simp] theorem State.endFrame_mem (s : State) (i : Nat) : (s.endFrame i).mem = s.mem := by
  unfold State.endFrame
  simp only []
  split <;> simp

@[simp] theorem State.framePieces_mem (s : State) (n base : Nat) (l : List (Nat × Nat × Nat)) :
    (s.framePieces n base l).2.mem = s.mem := by
  induction l generalizing s with
  | nil => rfl
  | cons p ps ih =>
    obtain ⟨off, len, d⟩ := p
    have hp := s.dmaPieces_mem n (len / 2 ^ 21 + 2) (base + off) len
    rw [State.framePieces]
    split
    · next h => rwa [h] at hp
    · next h =>
      rw [h] at hp
      exact (ih _).trans hp

@[simp] theorem State.frameOf_mem (s : State) (i : Nat) (pl : Payload) (start : Nat) :
    (s.frameOf i pl start).2.mem = s.mem := by
  unfold State.frameOf
  dsimp only
  split <;> (try split) <;> simp

@[simp] theorem State.sessionWrite_mem (s : State) (off v : Nat) : (s.sessionWrite off v).mem = s.mem := by
  simp [State.sessionWrite]

@[simp] theorem State.tbsWord_mem (s : State) (rel v : Nat) : (s.tbsWord rel v).mem = s.mem := by simp [State.tbsWord]
@[simp] theorem State.secWord_mem (s : State) (rel v : Nat) : (s.secWord rel v).mem = s.mem := by simp [State.secWord]
@[simp] theorem State.chstWord_mem (s : State) (rel v : Nat) : (s.chstWord rel v).mem = s.mem := by
  simp [State.chstWord]

@[simp] theorem State.spnWord_mem (s : State) (p rel v : Nat) : (s.spnWord p rel v).mem = s.mem := by
  simp [State.spnWord]

@[simp] theorem State.partWord_mem (s : State) (w : Owner) (n rel v : Nat) : (s.partWord w n rel v).mem = s.mem := by
  simp [State.partWord]

@[simp] theorem State.plgWord_mem (s : State) (n rel v : Nat) : (s.plgWord n rel v).mem = s.mem := by
  simp [State.plgWord]

@[simp] theorem State.regRead_mem (s : State) (w : Owner) (off : Nat) : (s.regRead w off).2.mem = s.mem := by
  unfold State.regRead
  (repeat' split) <;> simp

@[simp] theorem State.hostRead_mem (s : State) (f off : Nat) : (s.hostRead f off).mem = s.mem := by
  unfold State.hostRead
  split <;> (try split) <;> simp

@[simp] theorem State.routerRead_mem (s : State) (t a n : Nat) (e : Ecc) :
    (s.routerRead t a n e).2.1.mem = s.mem := by
  refine (?_ : MemKept s _)
  unfold State.routerRead
  dsimp only
  split
  · exact (((MemKept.refl s).openRowOf _ _).wideRead _ _ _).raiseEcc _ _ _ _
  · exact (((MemKept.refl s).openRowOf _ _).wideRead _ _ _).raiseEcc _ _ _ _
  · exact s.localClear_mem t a n

@[simp] theorem State.packetPa_mem (s : State) (k : Packet) : (s.packetPa k).2.mem = s.mem := by
  have go (n : Nat) : (match s.translate n (gEdge k.dst) with
      | (.hit pa, s1) => (some pa, s1)
      | (_, s1) => (none, s1)).2.mem = s.mem := by
    split <;> next h => exact State.mem_of_translate h
  unfold State.packetPa
  dsimp only
  split
  · rfl
  · split
    · exact go _
    · rfl
  · exact go _

@[simp] theorem State.pushAll_mem (s : State) (t q : Nat) (l : List Entry) : (s.pushAll t q l).mem = s.mem := by
  simp [State.pushAll]

@[simp] theorem State.strayQueue_mem (s : State) (i : Nat) (k : Packet) : (s.strayQueue i k).mem = s.mem := by
  unfold State.strayQueue
  split <;> simp

@[simp] theorem State.packetFull_mem (s : State) (i t : Nat) (k : Packet) : (s.packetFull i t k).mem = s.mem := by
  simp [State.packetFull]

@[simp] theorem State.streamReply_mem (s : State) (t : Nat) (e : Nat × Nat) (k : Packet) :
    (s.streamReply t e k).mem = s.mem := by simp [State.streamReply]

@[simp] theorem State.sparseDense_mem (s : State) (t i : Nat) (m : MOp) (data : Nat) :
    (s.sparseDense t i m data).mem = s.mem := by simp -implicitDefEqProofs [State.sparseDense]

@[simp] theorem State.front_mem (s : State) (c : Instr) : (s.front c).mem = s.mem := by simp [State.front]
@[simp] theorem State.withFetchWord_mem (s : State) (nbits w : Nat) : (s.withFetchWord nbits w).mem = s.mem := by
  unfold State.withFetchWord
  split <;> simp

end Sys2Proof.Machine

/-! PROOF. The operations that store keep memory in its canonical form. -/

namespace Sys2Proof.Machine

/-! ### Canonical memory through stores, folds and restarts -/

theorem MemOk.of_mem {s t : State} (h : MemOk s) (e : t.mem = s.mem) : MemOk t := by
  rw [MemOk, e]
  exact h

theorem MemOk.kept {s t : State} (h : MemOk s) (k : MemKept s t) : MemOk t := h.of_mem k

theorem MemOk.foldl {α : Type} {f : State → α → State} (hf : ∀ s x, MemOk s → MemOk (f s x)) (l : List α) {s : State}
    (h : MemOk s) : MemOk (l.foldl f s) := by
  induction l generalizing s with
  | nil => exact h
  | cons x l ih => exact ih (hf s x h)

theorem MemOk.foldl_fst {α β : Type} {f : State × β → α → State × β} (hf : ∀ p x, MemOk p.1 → MemOk (f p x).1) (l : List α)
    {p : State × β} (h : MemOk p.1) : MemOk (l.foldl f p).1 := by
  induction l generalizing p with
  | nil => exact h
  | cons x l ih => exact ih (hf p x h)

theorem memOk_reset : MemOk State.reset := Memory.wf_reset

section

variable {s : State}

theorem MemOk.wrMem (h : MemOk s) (k n v : Nat) : MemOk (s.wrMem k n v) := State.wrMem_wf k n v h

theorem MemOk.blank (k : Keeper) (keep : List Fk) (pl : Plain → Plain) : MemOk (s.blank k keep pl) :=
  memOk_reset.of_mem rfl

theorem MemOk.moduleRestart (cause : Nat) : MemOk (s.moduleRestart cause) := by
  unfold State.moduleRestart
  refine (MemOk.blank (s := s) (s.keeperRestart cause) resetKeeps fun q => (q.kept false).uncleared).of_mem ?_
  dsimp only
  split <;> simp

theorem MemOk.powerOff : MemOk s.powerOff := memOk_reset.of_mem rfl

theorem MemOk.tear : MemOk s.tear := MemOk.powerOff

/-! ### Desk, bench and edge memory -/

theorem MemOk.localWrite (h : MemOk s) (t a n v : Nat) : MemOk (s.localWrite t a n v) := by
  unfold State.localWrite
  split
  · exact h.wrMem _ _ _
  · exact h.wrMem _ _ _
  · exact h.of_mem (s.shelfWrite_mem ..)
  · exact h.of_mem (s.tilePageWrite_mem ..)
  · exact h

theorem MemOk.storeEcc (h : MemOk s) (k n v : Nat) (e : Ecc) : MemOk (s.storeEcc k n v e).1 := by
  unfold State.storeEcc
  refine MemOk.foldl_fst (fun p w hp => ?_) _ h
  dsimp only
  split
  · exact hp.wrMem _ _ _
  · split
    · exact hp.of_mem (p.1.noteEcc_mem ..)
    · exact hp.wrMem _ _ _

theorem MemOk.raiseEcc (h : MemOk s) (t a n : Nat) (e : Ecc) : MemOk (s.raiseEcc t a n e) :=
  h.of_mem (s.raiseEcc_mem t a n e)

theorem MemOk.edgeEcc (h : MemOk s) (pa n : Nat) (e : Ecc) : MemOk (s.edgeEcc pa n e) := h.of_mem (s.edgeEcc_mem pa n e)

theorem MemOk.bump (h : MemOk s) (k : Fk) (n : Nat := 1) : MemOk (s.bump k n) := h

theorem MemOk.wf (h : MemOk s) (k : Fk) (v : Nat) : MemOk (s.wf k v) := h

theorem MemOk.tileStore (h : MemOk s) (t a n v : Nat) (e : Ecc) : MemOk (s.tileStore t a n v e) :=
  (h.storeEcc (tkey t a) n v e).raiseEcc _ _ _ _

theorem MemOk.edgeStore (h : MemOk s) (pa n v : Nat) (e : Ecc) : MemOk (s.edgeStore pa n v e) :=
  ((h.bump _ _).storeEcc (ekey pa) n v e).edgeEcc _ _ _

theorem MemOk.dmaStore (h : MemOk s) (v : Nat) (l : List (Nat × Nat)) : MemOk (s.dmaStore v l) := by
  induction l generalizing s v with
  | nil => exact h
  | cons p ps ih =>
    rw [State.dmaStore]
    refine ih ?_ _
    split
    · exact (h.wrMem _ _ _).bump _ _
    · exact h.wrMem _ _ _

theorem MemOk.ringStore (h : MemOk s) (t : Nat) (hd : Handle) (n pos len v : Nat) :
    MemOk (s.ringStore t hd n pos len v) := by
  unfold State.ringStore
  dsimp only
  split
  · exact h
  · split
    · exact (h.wrMem _ _ _).wrMem _ _ _
    · exact h.wrMem _ _ _

theorem MemOk.xferPerform (h : MemOk s) (t : Nat) (y : Xfer) (e : Ecc) : MemOk (s.xferPerform t y e).2.2 := by
  unfold State.xferPerform
  split
  · exact h.tileStore _ _ _ _ _
  · exact h.of_mem (s.engineRead_mem ..)

theorem MemOk.routerWrite (h : MemOk s) (t a n v : Nat) (e : Ecc) : MemOk (s.routerWrite t a n v e) := by
  unfold State.routerWrite
  split
  · exact (h.of_mem (s.openRowOf_mem t a)).tileStore _ _ _ _ _
  · exact (h.of_mem (s.openRowOf_mem t a)).tileStore _ _ _ _ _
  · exact h.localWrite _ _ _ _

theorem MemOk.leafWrite (h : MemOk s) (t : Nat) (k : Packet) (e : Ecc) : MemOk (s.leafWrite t k e) := by
  unfold State.leafWrite
  split
  · exact h.of_mem (s.raiseTile_mem ..)
  · split
    · exact h.routerWrite _ _ _ _ _
    · exact h.of_mem (s.imgAbort_mem ..)

theorem MemOk.emit (h : MemOk s) (o : Outp) : MemOk (s.emit o) := h

theorem MemOk.grantAccess (h : MemOk s) (t : Nat) (r : Req) (e : Ecc) : MemOk (s.grantAccess t r e) := by
  have ho := (((MemKept.refl s).noteEcc (tkey t r.addr) r.len e).openRowOf t r.addr)
  unfold State.grantAccess
  dsimp only
  split
  · exact h.tileStore _ _ _ _ _
  · split
    · exact ((h.kept ho).of_mem (State.grantBad_mem ..)).emit _
    · exact ((h.kept ho).raiseEcc _ _ _ _).emit _

theorem MemOk.mstaRowOut (h : MemOk s) (t i : Nat) (m : MOp) : MemOk (s.mstaRowOut t i m) := by
  unfold State.mstaRowOut
  dsimp only
  split
  · split
    · exact h
    · split
      · exact h.of_mem (by simp)
      · exact h.of_mem (by simp)
  · exact (h.wrMem _ _ _).of_mem (by rw [State.stepMop_mem, State.setFlags_mem])

/-! ### Host DMA and frames -/

theorem MemOk.dmaPieces (h : MemOk s) (n fuel va len : Nat) : MemOk (s.dmaPieces n fuel va len).2 :=
  h.of_mem (s.dmaPieces_mem n fuel va len)

theorem MemOk.ite {c : Prop} [Decidable c] {a b : State} (ha : MemOk a) (hb : MemOk b) : MemOk (if c then a else b) := by
  split
  · exact ha
  · exact hb

theorem MemOk.dmaMove (h : MemOk s) (n j w0 w1 w2 w3 hostData : Nat) (hostErr : Bool) (e : Ecc) :
    MemOk (s.dmaMove n j w0 w1 w2 w3 hostData hostErr e).2 := by
  unfold State.dmaMove
  extract_lets len r t tile
  have hr : MemOk r.2 := by
    unfold r
    split
    · exact h
    · split
      · exact h
      · exact h.dmaPieces _ _ _ _
  split
  · exact h
  split
  · exact h
  clear_value r
  obtain ⟨_ | ps, s1⟩ := r
  · exact hr
  have h1 : MemOk s1 := hr
  dsimp only
  split
  · exact h1
  split
  · refine ((MemOk.of_mem ?_ (State.dmaLoads_mem ..)).bump _ _).emit _
    exact (h1.of_mem ((State.carryOut_mem ..).trans (State.carryIn_mem ..))).ite h1
  · exact (((h1.of_mem (State.carryIn_mem ..)).ite h1).dmaStore _ _).bump _ _

theorem MemOk.framePieces (h : MemOk s) (n base : Nat) (l : List (Nat × Nat × Nat)) : MemOk (s.framePieces n base l).2 :=
  h.of_mem (s.framePieces_mem n base l)

theorem MemOk.frameWrite (h : MemOk s) (i : Nat) (f : Frame) (pl : Payload) : MemOk (s.frameWrite i f pl).2 := by
  unfold State.frameWrite
  extract_lets slotBytes slots base drop
  split
  · exact h
  · split
    · next s1 e => exact (congrArg (·.2) e : _ = s1) ▸ h.framePieces _ _ _
    · next l s1 e =>
      have h1 : MemOk s1 := (congrArg (·.2) e : _ = s1) ▸ h.framePieces _ _ _
      exact MemOk.foldl (fun s q hs => hs.dmaStore _ _) _ h1

theorem MemOk.sessionPacket (h : MemOk s) (i : Nat) (pl : Payload) (start : Nat) : MemOk (s.sessionPacket i pl start) := by
  unfold State.sessionPacket
  extract_lets r f0 f _ q _ s1
  have hr : MemOk r.2 := h.of_mem (s.frameOf_mem i pl start)
  have hq : MemOk q.2 := by
    unfold q
    split
    · exact MemOk.ite hr hr
    · exact hr.frameWrite _ _ _
  exact MemOk.ite (MemOk.of_mem hq (State.endFrame_mem ..)) hq

/-! ### Sweep engines -/

theorem MemOk.rowsWrite (h : MemOk s) (n t r k v : Nat) : MemOk (s.rowsWrite n t r k v) := h.wrMem _ _ _

theorem MemOk.rowsRead (h : MemOk s) (n t r k : Nat) : MemOk (s.rowsRead n t r k).2 := h.of_mem (s.rowsRead_mem n t r k)

theorem MemOk.setEng (h : MemOk s) (t : Nat) (e : SweepEng) : MemOk (s.setEng t e) := h

theorem MemOk.sendMsg (h : MemOk s) (n t : Nat) (m : List Entry) : MemOk (s.sendMsg n t m) := h.of_mem (s.sendMsg_mem n t m)

theorem MemOk.sweepDone (h : MemOk s) (n : Nat) : MemOk (s.sweepDone n) := h.of_mem (s.sweepDone_mem n)

theorem MemOk.roundsStart (h : MemOk s) (n t : Nat) (b : Bool) : MemOk (s.roundsStart n t b) :=
  h.of_mem (s.roundsStart_mem n t b)

theorem MemOk.holdCosts (h : MemOk s) (n t d : Nat) (m : List Entry) : MemOk (s.holdCosts n t d m) := (h.setEng _ _).wrMem _ _ _

theorem MemOk.absorb (h : MemOk s) (n t : Nat) : MemOk (s.absorb n t) :=
  MemOk.foldl (fun _ _ hs => hs.holdCosts _ _ _ _) _ (h.setEng _ _)

theorem MemOk.dilateStart (h : MemOk s) (n t : Nat) (repair : Bool) : MemOk (s.dilateStart n t repair) := by
  unfold State.dilateStart
  extract_lets e o i s1 s2
  have ho : MemOk o.2 := h.rowsRead _ _ _ _
  have hi : MemOk i.2 := by
    unfold i
    split
    · exact ho.rowsRead _ _ _ _
    · exact ho
  have h1 : MemOk s1 := hi.setEng _ _
  have h2 : MemOk s2 := h1.ite (h1.rowsWrite _ _ _ _ _)
  exact h2.ite (h2.sendMsg _ _ _)

theorem MemOk.dilateStep (h : MemOk s) (n t : Nat) : MemOk (s.dilateStep n t) := by
  unfold State.dilateStep
  extract_lets e r bm f _ s1 s2
  have h1 : MemOk s1 := ((h.of_mem (s.draw_mem 32768)).rowsWrite _ _ _ _ _).setEng _ _
  have h2 : MemOk s2 := h1.ite (h1.rowsWrite _ _ _ _ _)
  exact (h2.sendMsg _ _ _).ite h2

theorem MemOk.costRound (h : MemOk s) (n t : Nat) : MemOk (s.costRound n t) := by
  unfold State.costRound
  extract_lets e r nb hl skip c i ss sd c0 p changed rep report _ s1 s2 s3 s4 g
  have hh : MemOk hl.2 := h.rowsRead _ _ _ _
  have hc : MemOk c.2 := hh.rowsRead _ _ _ _
  have hi : MemOk i.2 := hc.rowsRead _ _ _ _
  have h1 : MemOk s1 := hi.setEng _ _
  have h2 : MemOk s2 := (h1.bump _).ite (h1.rowsWrite _ _ _ _ _)
  have h3 : MemOk s3 := (h2.wf _ _).ite h2
  have h4 : MemOk s4 := h3.sendMsg _ _ _
  exact (h4.of_mem (State.sweepReport_mem ..)).ite h4

theorem MemOk.initTile (h : MemOk s) (n t : Nat) : MemOk (s.initTile n t) := by
  unfold State.initTile
  extract_lets g i c _ s1
  have h1 : MemOk s1 := (((h.rowsRead n t 6 1).rowsRead n t 1 1).rowsWrite _ _ _ _ _).setEng _ _
  exact h1.ite (h1.wf _ _)

theorem MemOk.cutTile (h : MemOk s) (n t least : Nat) : MemOk (s.cutTile n t least) := by
  unfold State.cutTile
  extract_lets e c i g old v
  exact ((((h.rowsRead n t 8 16).rowsRead n t 1 1).rowsRead n t 6 1).rowsWrite _ _ _ _ _).roundsStart _ _ _

theorem MemOk.cutHere (h : MemOk s) (n t least : Nat) : MemOk (s.cutHere n t least) :=
  (h.ite (h.sendMsg _ _ _)).cutTile _ _ _

theorem MemOk.minUp (h : MemOk s) (n t : Nat) : MemOk (s.minUp n t) := by
  unfold State.minUp
  extract_lets e own least
  have ho : MemOk own.2 := by
    unfold own
    split
    · exact h.of_mem (s.cutMin_mem n t)
    · exact h
  exact (ho.cutHere _ _ _).ite ((ho.setEng _ _).sendMsg _ _ _)

theorem MemOk.engStep (h : MemOk s) (n t : Nat) (w : Sweep) : MemOk (s.engStep n t w) := by
  unfold State.engStep
  extract_lets e s1
  refine ((h.initTile _ _).sweepDone _).ite ((h.dilateStart _ _ _).ite (MemOk.ite ?_ (MemOk.ite ?_ (MemOk.ite ?_ ?_))))
  · have h1 : MemOk s1 := MemOk.ite ((h.dilateStep _ _).ite h) h
    exact h1.ite ((h1.setEng _ _).ite ((h1.setEng _ _).sweepDone _))
  · exact (h.minUp _ _).ite h
  · split
    · exact (h.cutHere _ _ _).ite h
    · exact h
  · exact (h.roundsStart _ _ _).ite (((h.costRound _ _).ite h).ite h)

theorem MemOk.translated {s1 : State} {n va : Nat} {x : Xlate} (h : MemOk s) (e : s.translate n va = (x, s1)) : MemOk s1 :=
  h.of_mem (State.mem_of_translate e)

theorem MemOk.extractFrom (h : MemOk s) (n fuel cx cy cost k : Nat) : MemOk (s.extractFrom n fuel cx cy cost k).2 := by
  induction fuel generalizing s cx cy cost k with
  | zero => exact h
  | succ fuel ih =>
    rw [State.extractFrom]
    split
    · next s1 e =>
      extract_lets s2 b
      have h2 : MemOk s2 := ((h.translated e).edgeStore _ _ _ _).wf _ _
      split
      · exact h2
      · split
        · exact h2
        · exact ih (h2.of_mem (s2.bestNb_mem n cx cy)) _ _ _ _
    · next e => exact h.translated e

theorem MemOk.startInfl (h : MemOk s) (n x y : Nat) :
    MemOk (if (s.gridCell n x y).isSome then s.inflAt n x y else (0, s)).2 := by
  split
  · exact h.of_mem (s.inflAt_mem n x y)
  · exact h

/-- The result of EXTRACT from the start's inflation and cost. -/
theorem MemOk.extractFound {b c : Nat × State} (hb : MemOk b.2) (hc : MemOk c.2) (n m cx cy : Nat) :
    MemOk (if b.1 = 1 then (4, b.2) else if c.1 = 0xFFFF then (5, c.2) else c.2.extractFrom n m cx cy c.1 0).2 := by
  split
  · exact hb
  · split
    · exact hc
    · exact hc.extractFrom _ _ _ _ _ _

theorem MemOk.extract (h : MemOk s) (n : Nat) : MemOk (s.extract n).2 := by
  rw [State.extract]
  have hb := (h.wf (PSW_OUTCOME_PATH_LEN n) 0).startInfl n (s.rf (PSW_START_X n)) (s.rf (PSW_START_Y n))
  exact hb.extractFound (hb.of_mem (State.costAt_mem _ n _ _)) n _ _ _

theorem MemOk.sweepResult (h : MemOk s) (n : Nat) (w : Sweep) {r : Nat × State} (e : s.sweepResult n w = some r) : MemOk r.2 := by
  unfold State.sweepResult at e
  split at e
  · cases e
    exact h
  · split at e
    · cases e
    · split at e
      · cases e
        exact h.extract n
      · split at e
        · cases e
          exact h.of_mem (s.checkFrom_mem ..)
        · cases e

/-! ### Images -/

theorem MemOk.wfs (h : MemOk s) (l : List (Fk × Nat)) : MemOk (s.wfs l) := h.of_mem (s.wfs_mem l)

theorem MemOk.updKeeper (h : MemOk s) (f : Keeper → Keeper) : MemOk (s.updKeeper f) := h

theorem MemOk.imgAbort (h : MemOk s) (code : Nat) : MemOk (s.imgAbort code) := h.of_mem (s.imgAbort_mem code)

theorem MemOk.freeSlots (h : MemOk s) : MemOk s.freeSlots := h.of_mem s.freeSlots_mem

theorem MemOk.setCold (h : MemOk s) (n : Nat) (k : Option Nat) : MemOk (s.setCold n k) := h.of_mem (s.setCold_mem n k)

theorem MemOk.clearForLoad (h : MemOk s) (n : Nat) : MemOk (s.clearForLoad n) := h.of_mem (s.clearForLoad_mem n)

theorem MemOk.loadTile (h : MemOk s) (t a len v : Nat) : MemOk (s.loadTile t a len v) := h.localWrite t a len v

theorem MemOk.placeTile (h : MemOk s) (n org : Nat) (tree : Option Nat) (t a len v : Nat) :
    MemOk (s.placeTile n org tree t a len v).1 := by
  unfold State.placeTile
  extract_lets flits s1 ok
  split
  · have h1 : MemOk s1 := h.of_mem (State.carryFrom_mem flits t false 1100 s org false)
    split
    · exact h1
    · exact h1.loadTile _ _ _ _
  · extract_lets walk leaves s2
    have h2 : MemOk s2 := h.of_mem (foldl_mem (fun _ _ => State.bump_mem ..) _ _)
    exact MemOk.foldl (fun _ _ hs => hs.loadTile _ _ _ _) _ h2

theorem MemOk.placeEdge (h : MemOk s) (n va len v : Nat) : MemOk (s.placeEdge n va len v).1 := by
  have hp := h.dmaPieces n (len / 2 ^ 21 + 2) va len
  unfold State.placeEdge
  split
  · next s1 e => exact MemOk.dmaStore ((congrArg (·.2) e : _ = s1) ▸ hp) _ _
  · next s1 e => exact (congrArg (·.2) e : _ = s1) ▸ hp

theorem MemOk.placeRecord (h : MemOk s) (pl : Placer) (typ paired w0 addr data : Nat) :
    MemOk (s.placeRecord pl typ paired w0 addr data).1 := by
  unfold State.placeRecord
  dsimp only
  split
  · exact h
  split
  · split
    · exact h.placeTile _ _ _ _ _ _ _
    · exact h
  · split
    · exact h
    split
    · exact h
    split
    · exact h
    split
    · exact h.placeEdge _ _ _ _
    · exact h.placeTile _ _ _ _ _ _ _
  · split
    · exact h
    · exact h.placeEdge _ _ _ _
  · split
    · exact h
    split
    · exact h
    · exact h.of_mem (State.placePage_mem ..)
  · exact h

theorem MemOk.placeAvail (h : MemOk s) (pl : Placer) (img : Stored) (avail : Nat) (crc : Bool) (fuel : Nat)
    (secs : List (Nat × Nat × Nat × Nat × Nat)) (pos : Nat) (cfg : List Nat) :
    MemOk (State.placeAvail pl img avail crc fuel s secs pos cfg).1 := by
  fun_induction State.placeAvail pl img avail crc fuel s secs pos cfg
  case case3 ih => exact ih h
  case case6 ih => exact ih h
  case case11 => exact h.placeRecord _ _ _ _ _ _
  case case12 ih => exact ih (h.placeRecord _ _ _ _ _ _)
  all_goals exact h

theorem MemOk.reloadImage (h : MemOk s) (n : Nat) (c : Copies) (cfg : Bool) : MemOk (s.reloadImage n c cfg).1 := by
  unfold State.reloadImage
  extract_lets back secs place first r0 r1 x r2 s3
  have hplace (y : Stored) l (r : State × List Nat) (hr : MemOk r.1) : MemOk (place y l r).1 := hr.placeAvail _ _ _ _ _ _ _ _
  have h0 : MemOk r0.1 := (h.of_mem (s.setSel_mem n c.sel)).clearForLoad n
  clear_value first r0
  have h1 : MemOk r1.1 := by
    unfold r1
    split
    · exact hplace _ _ _ h0
    · exact h0
  have h2 : MemOk r2.1 := hplace _ _ _ h1
  have h3 : MemOk s3 := (h2.of_mem (State.forEach_mem_of _ _ fun s p => s.bankZeroAt_mem p)).of_mem (State.applyCfg_mem ..)
  split
  · exact ((h3.wfs _).setCold _ _).freeSlots
  · exact ((h.wfs _).setCold _ _).freeSlots

theorem MemOk.finishReloads (h : MemOk s) : MemOk s.finishReloads :=
  MemOk.foldl (fun _ _ hs => (hs.reloadImage _ _ _).updKeeper _) _ h

theorem MemOk.imgCmd (h : MemOk s) (op : Nat) : MemOk (s.imgCmd op) := by
  unfold State.imgCmd
  extract_lets wait
  have hw c : MemOk (wait c) := h.updKeeper _
  split
  · exact ((hw 0).updKeeper _).ite (h.finishReloads.of_mem (State.imgGo_mem _))
  · exact (hw 2).ite (h.imgAbort 17)
  · exact h

theorem MemOk.loadStep (h : MemOk s) (l : Load) (img : Stored) (got : Nat) : MemOk (s.loadStep l img got) := by
  unfold State.loadStep
  extract_lets p avail r l1 s1
  have h1 : MemOk s1 := (h.placeAvail _ _ _ _ _ _ _ _).updKeeper _
  exact (h1.imgAbort _).ite (h1.of_mem (State.fetchShard_mem ..))

theorem MemOk.imgStart (h : MemOk s) (l : Load) (p len : Nat) (started : List Nat) : MemOk (s.imgStart l p len started) := by
  unfold State.imgStart
  extract_lets n img peers live l1 s1 s2 s3
  have h1 : MemOk s1 := h
  have h3 : MemOk s3 := (h1.wfs _).of_mem (foldl_mem (fun s m => s.emit_mem _) _ _)
  refine MemOk.loadStep (MemOk.freeSlots (MemOk.ite (h3.wf _ _) ?_)) _ _ _
  exact ((h3.wfs _).setCold _ _).clearForLoad _

/-! ### Repair, refill and free bytes -/

theorem MemOk.draw (h : MemOk s) (w : Nat) : MemOk (s.draw w).2 := h

theorem MemOk.loseRange (h : MemOk s) (l : LostRange) : MemOk (s.loseRange l) := (h.draw _).wrMem _ _ _

theorem MemOk.freeBad (h : MemOk s) (keys : List (Nat × Nat)) : MemOk (s.freeBad keys) :=
  MemOk.foldl (fun _ _ hs => (hs.draw _).wrMem _ _ _) _ h

theorem MemOk.asRead (h : MemOk s) (k n : Nat) : MemOk (s.asRead k n) :=
  MemOk.foldl (fun _ _ hs => (hs.draw _).wrMem _ _ _) _ h

theorem MemOk.refill (h : MemOk s) (l : LostRange) (ps : List (Nat × Nat × Nat)) : MemOk (s.refill l ps) :=
  MemOk.foldl (fun _ _ hs => (hs.wrMem _ _ _).ite hs) _ h

theorem MemOk.refillOne (h : MemOk s) (p : Nat) (l : LostRange) : MemOk (s.refillOne p l) :=
  MemOk.foldl (fun s x hs => hs.of_mem (s.recordLost_mem p x)) _ (h.refill l _)

theorem MemOk.toHome (h : MemOk s) (x : Nat × Nat × Nat × Nat) : MemOk (s.toHome x) := h.wrMem _ _ _

theorem MemOk.fromHome (h : MemOk s) (x : Nat × Nat × Nat × Nat) : MemOk (s.fromHome x) := by
  unfold State.fromHome
  extract_lets e s1
  have h1 : MemOk s1 := h.wrMem _ _ _
  exact h1.of_mem (by rw [State.shelfLive_mem, State.updTile_mem])

/-! ### Restarts, power and restore -/

theorem MemOk.takeResets (l : List HeldReset) (h : MemOk s) : MemOk (State.takeResets l s) := by
  induction l generalizing s with
  | nil => exact h
  | cons x l ih =>
    cases x with
    | module c => exact MemOk.moduleRestart c
    | mgmt => exact ih (h.ite (h.of_mem s.mgmtResetGo_mem))
    | part n w => exact ih (h.ite (h.of_mem (s.partResetGo_mem n)))

theorem MemOk.endHold (h : MemOk s) : MemOk s.endHold := by
  unfold State.endHold
  exact MemOk.takeResets _ (MemOk.wf (s := { s with heldResets := [] }) h _ _)

theorem MemOk.holdReset (h : MemOk s) (r : HeldReset) : MemOk (s.holdReset r) := h.of_mem (s.holdReset_mem r)

theorem MemOk.moduleReset (h : MemOk s) (cause : Nat) : MemOk (s.moduleReset cause) := by
  unfold State.moduleReset
  split
  · exact h.holdReset _
  split
  · exact h
  split
  · exact h
  split
  · exact h.of_mem (s.benchExit_mem cause)
  split
  · exact MemOk.ite h h
  · exact MemOk.moduleRestart cause

theorem MemOk.powerFail (h : MemOk s) : MemOk s.powerFail := by
  unfold State.powerFail
  extract_lets s0 s1 s2 s3
  have h0 : MemOk s0 := (h.of_mem (s.powerStopRing_mem)).of_mem (State.fwPowerFail_mem _)
  have h1 : MemOk s1 := h0.of_mem (by simp [s1])
  have h2 : MemOk s2 := h1.of_mem (by simp [s2])
  have h3 : MemOk s3 := h2.of_mem (by simp [s3])
  exact MemOk.ite (h3.of_mem (by simp)) MemOk.powerOff

theorem MemOk.packFault (h : MemOk s) : MemOk s.packFault := by
  unfold State.packFault
  extract_lets s1
  have h1 : MemOk s1 := (h.of_mem s.setPackOk_mem).of_mem (State.raise_mem ..)
  exact MemOk.tear.ite (h1.of_mem (s1.setArmed_mem false))

theorem MemOk.keeperDown (h : MemOk s) (wd : Bool) : MemOk (s.keeperDown wd) := by
  unfold State.keeperDown
  exact h.of_mem (by simp)

theorem MemOk.systemLost (h : MemOk s) (r : Restore) : MemOk (s.systemLost r) := by
  unfold State.systemLost
  extract_lets s1
  have h1 : MemOk s1 := (h.of_mem (State.forEach_mem_of _ _ fun _ _ => State.setPst_mem ..)).of_mem (State.wks_mem ..)
  exact (MemOk.of_mem (h1.wf MOD_STATUS_WARM 0) (by simp)).endHold

theorem MemOk.putCells (h : MemOk s) (l : List Host.Cell) : MemOk (s.putCells l) :=
  MemOk.foldl (fun _ _ hs => hs.wrMem _ _ _) _ h

theorem MemOk.loseRegion (h : MemOk s) (r : Region) (kind : Nat) : MemOk (s.loseRegion r kind) :=
  h.of_mem (s.loseRegion_mem r kind)

theorem MemOk.putRegions (h : MemOk s) (x : Snap) (lost : List Nat) : MemOk (s.putRegions x lost) := by
  unfold State.putRegions
  exact MemOk.foldl (fun _ _ hs => hs.loseRegion _ _) _
    (MemOk.foldl (fun s r hs => MemOk.ite (MemOk.of_mem hs (s.updPart_mem ..)) (hs.putCells _)) _ h)

theorem MemOk.putImage (h : MemOk s) (n : Nat) (bad : Bool) : MemOk (s.putImage n bad) := by
  unfold State.putImage
  extract_lets c back s1 r s2
  have h1 : MemOk s1 := MemOk.ite (h.of_mem (s.updChest_mem _)) h
  have h2 : MemOk s2 := (h1.reloadImage n c false).of_mem (State.setMeas_mem ..)
  exact h2.ite ((h2.of_mem (s2.goCold_mem n)).of_mem (State.raise_mem ..))

theorem MemOk.putHandles (h : MemOk s) (x : Snap) (n : Nat) (lost : List Nat) : MemOk (s.putHandles x n lost) :=
  MemOk.foldl (fun _ _ hs => hs.loseRegion _ _) _ (MemOk.foldl (fun _ _ hs => hs.loseRegion _ _) _
    (MemOk.foldl (fun _ _ hs => hs.putCells _) _ h))

/-! ### Partition commands, registers and control packets -/

theorem MemOk.runDeferred (h : MemOk s) (c : Nat × Nat) : MemOk (s.runDeferred c) := by
  unfold State.runDeferred
  exact (h.imgCmd _).ite ((h.of_mem (s.partReset_mem ..)).ite ((h.of_mem (s.partReset_mem ..)).ite (h.of_mem (s.cmdNow_mem ..))))

theorem MemOk.imgWord (h : MemOk s) (rel v : Nat) : MemOk (s.imgWord rel v) :=
  (h.imgCmd _).ite (h.ite (h.of_mem (s.writeWord_mem ..)))

theorem MemOk.blockWrite (h : MemOk s) (w : Owner) (kd : PageKind) (n rel v : Nat) : MemOk (s.blockWrite w kd n rel v) := by
  cases kd with
  | mod =>
    refine MemOk.ite ((h.moduleReset 2).ite h) (MemOk.ite ?_ ?_)
    · exact h.of_mem (s.pstateWrite_mem v)
    · exact h.of_mem (s.writeWord_mem ..)
  | img => exact h.imgWord _ _
  | tile => exact h
  | _ =>
    refine h.of_mem ?_
    unfold State.blockWrite
    dsimp only
    (repeat' split) <;> simp

theorem MemOk.regWrite (h : MemOk s) (w : Owner) (off v : Nat) : MemOk (s.regWrite w off v) := by
  unfold State.regWrite
  split
  · exact MemOk.ite (h.of_mem (s.headerWord_mem ..)) (h.ite (h.blockWrite _ _ _ _ _))
  · exact MemOk.ite (h.of_mem (s.sessionWrite_mem ..)) h

theorem MemOk.hostWrite (h : MemOk s) (f off v : Nat) : MemOk (s.hostWrite f off v) := by
  unfold State.hostWrite
  split
  · exact h.ite (h.ite (h.regWrite _ _ _))
  · exact h

theorem MemOk.dropPacket (h : MemOk s) (i : Nat) : MemOk (s.dropPacket i) := h.of_mem (s.dropPacket_mem i)

theorem MemOk.controlWrite (h : MemOk s) (i : Nat) (k : Packet) (y : Nat) (e : Ecc) : MemOk (s.controlWrite i k y e) := by
  unfold State.controlWrite
  extract_lets t
  split
  · exact h.of_mem (s.refusePacket_mem ..)
  · refine MemOk.ite ((h.dropPacket i).ite ((h.dropPacket i).ite (h.ite ?_))) ((h.dropPacket i).regWrite _ _ _)
    exact (h.dropPacket i).of_mem (State.plgSubmit_mem ..)

end

end Sys2Proof.Machine

/-! PROOF. What the issue of an instruction does with memory, and what a command may leave of it. -/

namespace Sys2Proof.Machine

/-! ### Memory after an issue -/

/-- Every state that an issue's outcome hands on has a memory that meets `Q`. -/
def Issue.MemAll (Q : List Host.Cell → Prop) : Issue → Prop
  | .done s => Q s.mem
  | .jump s _ => Q s.mem
  | .leave s => Q s.mem
  | .faultIn s _ => Q s.mem
  | .fault _ => True
  | .block _ => True
  | .wait => True

section

variable {Q : List Host.Cell → Prop} {s : State}

theorem State.conclude_memAll (h : Q s.mem) (t k : Nat) {i : Issue} (hi : i.MemAll Q) : Q (s.conclude t k i).mem := by
  cases i with
  | done s' => exact (s'.setPc_mem t k _).symm ▸ hi
  | jump s' pc => exact (s'.setPc_mem t k pc).symm ▸ hi
  | leave s' => exact hi
  | fault code => exact (s.taskFault_mem t k code).symm ▸ h
  | faultIn s' code => exact (s'.taskFault_mem t k code).symm ▸ hi
  | block w => exact (State.leaveTask_mem ..).symm ▸ h
  | wait => exact h

theorem State.issue_memAll (h : Q s.mem) (t : Nat) (decodes : Bool) {body : Nat → Issue} (hb : ∀ k, (body k).MemAll Q) :
    Q (s.issue t decodes body).mem := by
  unfold State.issue
  split
  · exact h
  · refine State.conclude_memAll h t _ ?_
    split
    · trivial
    split
    · trivial
    split
    · trivial
    · exact hb _

theorem State.issueG_memAll (h : Q s.mem) (t : Nat) (g : Guard) (decodes : Bool) {body : Nat → Issue}
    (hb : ∀ k, (body k).MemAll Q) : Q (s.issueG t g decodes body).mem := by
  refine State.issue_memAll h t decodes fun k => ?_
  split
  · exact hb k
  · exact h

theorem Issue.memAll_checked {l : List (Bool × Nat)} {body : Issue} (hb : body.MemAll Q) : (checked l body).MemAll Q := by
  unfold checked
  split
  · exact hb
  · trivial

end

section

variable (s : State)

theorem State.fWrite_memAll (t k : Nat) (g : Guard) (a : FArgs) (f : Nat → Nat × NFlags) :
    (s.fWrite t k g a f).MemAll (· = s.mem) := by
  unfold State.fWrite
  dsimp only
  split
  · simp [Issue.MemAll]
  · split
    · simp [Issue.MemAll]
    · rfl

@[simp] theorem State.fArith_mem (t : Nat) (g : Guard) (sp : FSpec) (a : FArgs) (el : Nat → Nat → Nat → Nat → Nat × NFlags) :
    (s.fArith t g sp a el).mem = s.mem :=
  State.issue_memAll (Q := (· = s.mem)) rfl t _ fun _ => s.fWrite_memAll ..

@[simp] theorem State.fCompare_mem (t : Nat) (g : Guard) (a : FArgs) (el : Nat → Nat → Nat → Bool) :
    (s.fCompare t g a el).mem = s.mem := by
  refine State.issue_memAll (Q := (· = s.mem)) rfl t _ fun k => ?_
  dsimp only
  split
  · rfl
  · split <;> rfl

@[simp] theorem State.fPred_mem (t : Nat) (g : Guard) (sp : FSpec) (a : FArgs) (f : W32 → W32 → W32) :
    (s.fPred t g sp a f).mem = s.mem :=
  State.issueG_memAll (Q := (· = s.mem)) rfl t g _ fun _ => rfl

/-! ### The operations that step through a list, and the tick -/

@[simp] theorem State.streamRelease_mem (t d fuel : Nat) : (s.streamRelease t d fuel).mem = s.mem := by
  induction fuel generalizing s with
  | zero => rfl
  | succ fuel ih =>
    rw [State.streamRelease]
    split
    · rfl
    · split
      · rfl
      · rw [ih]
        split
        · exact State.setStream_mem ..
        · exact (foldl_mem (fun _ _ => State.pushIn_mem ..) _ _).trans ((State.setStream_mem ..).trans (State.setStream_mem ..))

@[simp] theorem State.tick_mem : s.tick.mem = s.mem := by
  unfold State.tick
  split
  · rfl
  · extract_lets n s0 m s1
    split
    · rfl
    · rw [State.forEach_mem_of _ _ fun _ _ => by simp]
      exact State.forEach_mem_of _ _ fun _ _ => by simp

theorem State.sparseSparse_kept (t i : Nat) (m : MOp) (data : Nat) (e : Ecc) : MemKept s (s.sparseSparse t i m data e) := by
  unfold State.sparseSparse
  extract_lets first s1 sB r s' s2 bad s3 s4
  have h1 : MemKept s s1 := (MemKept.refl s).noteEcc _ _ _
  have h2 : MemKept s s2 := MemKept.updMop (s' := _) (by
    refine (?_ : State.mem _ = s.mem)
    rw [State.bump_mem, State.bump_mem, State.bump_mem, State.bump_mem, State.setFlags_mem]
    exact h1) t i _
  have h3 : MemKept s s3 := Eq.trans (foldl_mem (fun s q => s.noteRows_mem t _ _) _ _) h2
  have h4 : MemKept s s4 := by
    unfold s4
    clear_value bad s3
    split
    · exact (State.faultIssuer_mem ..).trans h3
    · split
      · exact h3.mxEcc _ _ _ _ _
      · exact h3
  split
  · exact (State.faultIssuer_mem ..).trans h4
  · exact h4

theorem State.mmasGroup_kept (t i : Nat) (m : MOp) (data : Nat) (e : Ecc) : MemKept s (s.mmasGroup t i m data e) := by
  unfold State.mmasGroup
  dsimp only
  split
  · exact s.sparseSparse_kept t i m data e
  split
  · exact (State.faultIssuer_mem ..).trans ((MemKept.refl s).updMop _ _ _)
  split
  · exact (State.faultIssuer_mem ..).trans ((MemKept.refl s).updMop _ _ _)
  · exact s.sparseDense_mem t i m data

theorem MemKept.trans {s t u : State} (h : MemKept s t) (h' : MemKept t u) : MemKept s u := Eq.trans h' h

theorem State.mmasRow_kept (t i : Nat) (m : MOp) (e : Ecc) : MemKept s (s.mmasRow t i m e) := by
  rw [State.mmasRow]
  split
  · exact MemKept.refl s
  split
  · split
    · exact MemKept.refl s
    · extract_lets buf s1 need data
      have h1 : MemKept s s1 := ((MemKept.refl s).popIn _ _).updMop _ _ _
      split
      · exact h1
      split
      · exact MemKept.refl s
      · exact h1.trans (State.mmasGroup_kept ..)
  · dsimp only
    split
    · exact MemKept.refl s
    · exact (((MemKept.refl s).wideRead _ _ _).trans (State.mmasGroup_kept ..)).mxEcc _ _ _ _ _

end

/-! ### What a command leaves of memory -/

/-- A command answers a next state, with the memory that it met. -/
def NextKept (s : State) (o : Host.Outcome State Fault Refusal) : Prop := ∃ t, o = .next t ∧ t.mem = s.mem

/-- A command answers a next state, whose memory is canonical where the one it met was. -/
def NextOk (s : State) (o : Host.Outcome State Fault Refusal) : Prop := ∃ t, o = .next t ∧ (MemOk s → MemOk t)

theorem NextKept.ok {s : State} {o : Host.Outcome State Fault Refusal} (h : NextKept s o) : NextOk s o := by
  obtain ⟨t, ho, hm⟩ := h
  exact ⟨t, ho, fun hs => hs.of_mem hm⟩

end Sys2Proof.Machine

/-! PROOF. The commands that store nothing answer a next state with the memory that they met. -/

namespace Sys2Proof.Machine

theorem execTaskEnableWrite_kept (t k : Nat) (en : Bool) (s : State) : NextKept s (execTaskEnableWrite t k en s) :=
  ⟨_, rfl, by simp⟩
theorem execTileRunWrite_kept (t : Nat) (run : Bool) (s : State) : NextKept s (execTileRunWrite t run s) :=
  ⟨_, rfl, by simp⟩
theorem execSlotTableWrite_kept (t b o i : Nat) (v : BitVec 64) (s : State) :
    NextKept s (execSlotTableWrite t b o i v s) :=
  ⟨_, rfl, by simp⟩
theorem execQbindWrite_kept (t k : Nat) (v : BitVec 64) (s : State) : NextKept s (execQbindWrite t k v s) :=
  ⟨_, rfl, by simp⟩
theorem execStreamCmdStart_kept (t d : Nat) (s : State) : NextKept s (execStreamCmdStart t d s) := ⟨_, rfl, by simp⟩
theorem execStreamCmdStop_kept (t d : Nat) (s : State) : NextKept s (execStreamCmdStop t d s) := ⟨_, rfl, by simp⟩
theorem execPeptEntryWrite_kept (f n : Nat) (v : BitVec 64) (s : State) : NextKept s (execPeptEntryWrite f n v s) :=
  ⟨_, rfl, by simp⟩
theorem execPageIn_kept (f n : Nat) (v : BitVec 64) (s : State) : NextKept s (execPageIn f n v s) := ⟨_, rfl, by simp⟩
theorem execEdgeWindowWrite_kept (n : Nat) (v : BitVec 64) (s : State) : NextKept s (execEdgeWindowWrite n v s) :=
  ⟨_, rfl, by simp⟩
theorem execEdgePatrolScrub_kept (ces : Nat) (ues : List Nat) (s : State) :
    NextKept s (execEdgePatrolScrub ces ues s) :=
  ⟨_, rfl, by simp⟩
theorem execCircuitFlitInject_kept (t k slot : Nat) (bf16 : Bool) (s : State) :
    NextKept s (execCircuitFlitInject t k slot bf16 s) :=
  ⟨_, rfl, by simp⟩
theorem execCircuitFlitForward_kept (i : Nat) (s : State) : NextKept s (execCircuitFlitForward i s) :=
  ⟨_, rfl, by split <;> simp⟩
theorem execCircuitFlitDeliver_kept (i : Nat) (s : State) : NextKept s (execCircuitFlitDeliver i s) :=
  ⟨_, rfl, by (repeat' split) <;> simp⟩
theorem execCreditReturn_kept (t k : Nat) (s : State) : NextKept s (execCreditReturn t k s) :=
  ⟨_, rfl, by split <;> simp⟩
theorem execMeshEpochTick_kept (p : Nat) (s : State) : NextKept s (execMeshEpochTick p s) := ⟨_, rfl, by simp⟩
theorem execBankSettlingEnd_kept (p : Nat) (s : State) : NextKept s (execBankSettlingEnd p s) := ⟨_, rfl, by simp⟩
theorem execPacketHop_kept (i dir : Nat) (s : State) : NextKept s (execPacketHop i dir s) :=
  ⟨_, rfl, by
    dsimp only
    (repeat' split) <;> simp⟩
theorem execPacketEscape_kept (i : Nat) (s : State) : NextKept s (execPacketEscape i s) :=
  ⟨_, rfl, by (repeat' split) <;> simp⟩
theorem execDetourTableLoaded_kept (tree : List (Nat × Nat)) (s : State) :
    NextKept s (execDetourTableLoaded tree s) :=
  ⟨_, rfl, by simp⟩
theorem execStallDeclare_kept (n at_ : Nat) (s : State) : NextKept s (execStallDeclare n at_ s) := ⟨_, rfl, by simp⟩
theorem execSpillRefill_kept (t k : Nat) (s : State) : NextKept s (execSpillRefill t k s) :=
  ⟨_, rfl, by split <;> simp⟩
theorem execSpanFlitReceive_kept (p : Nat) (crcOk : Bool) (seq : Nat) (ack : SpanAck) (pkt : Option Packet) (s : State) :
    NextKept s (execSpanFlitReceive p crcOk seq ack pkt s) :=
  ⟨_, rfl, by (repeat' split) <;> simp⟩
theorem execSpanReplayTimeout_kept (p : Nat) (s : State) : NextKept s (execSpanReplayTimeout p s) := ⟨_, rfl, by simp⟩
theorem execSpanLinkDown_kept (p : Nat) (s : State) : NextKept s (execSpanLinkDown p s) := ⟨_, rfl, by simp⟩
theorem execSpanLinkUp_kept (p lanes peer : Nat) (s : State) : NextKept s (execSpanLinkUp p lanes peer s) :=
  ⟨_, rfl, by simp⟩
theorem execSpanNodeWrite_kept (f : Nat) (v : BitVec 64) (s : State) : NextKept s (execSpanNodeWrite f v s) :=
  ⟨_, rfl, by simp⟩
theorem execPqTailWrite_kept (f n j : Nat) (v : BitVec 64) (s : State) : NextKept s (execPqTailWrite f n j v s) :=
  ⟨_, rfl, by simp⟩
theorem execPqQcfgWrite_kept (f n j : Nat) (v : BitVec 64) (s : State) : NextKept s (execPqQcfgWrite f n j v s) :=
  ⟨_, rfl, by simp⟩
theorem execHostDmaNotify_kept (n j i : Nat) (s : State) : NextKept s (execHostDmaNotify n j i s) :=
  ⟨_, rfl, by split <;> simp⟩
theorem execHostDmaWriteback_kept (n j : Nat) (s : State) : NextKept s (execHostDmaWriteback n j s) :=
  ⟨_, rfl, by split <;> simp⟩
theorem execLedgerSubmit_kept (i : Nat) (ecc : Ecc) (s : State) : NextKept s (execLedgerSubmit i ecc s) :=
  ⟨_, rfl, by (repeat' split) <;> simp⟩
theorem execLedgerAccept_kept (n at_ : Nat) (s : State) : NextKept s (execLedgerAccept n at_ s) :=
  ⟨_, rfl, by split <;> simp⟩
theorem execLdpSend_kept (e at_ : Nat) (s : State) : NextKept s (execLdpSend e at_ s) := ⟨_, rfl, by simp⟩
theorem execLdpRetransmitTimeout_kept (e seq at_ : Nat) (s : State) :
    NextKept s (execLdpRetransmitTimeout e seq at_ s) :=
  ⟨_, rfl, by split <;> simp⟩
theorem execLdpAck_kept (e port srcIp srcUdp dstUdp len data : Nat) (s : State) :
    NextKept s (execLdpAck e port srcIp srcUdp dstUdp len data s) :=
  ⟨_, rfl, by simp⟩
theorem execShaperRefill_kept (at_ : Nat) (s : State) : NextKept s (execShaperRefill at_ s) := ⟨_, rfl, by simp⟩
theorem execShaperRateWrite_kept (f e : Nat) (v : BitVec 64) (s : State) : NextKept s (execShaperRateWrite f e v s) :=
  ⟨_, rfl, by simp⟩
theorem execShaperBurstWrite_kept (f e : Nat) (v : BitVec 64) (s : State) :
    NextKept s (execShaperBurstWrite f e v s) :=
  ⟨_, rfl, by simp⟩
theorem execForgive_kept (f : Nat) (v : BitVec 64) (s : State) : NextKept s (execForgive f v s) := ⟨_, rfl, by simp⟩
theorem execLedgerPoolWrite_kept (f : Nat) (v : BitVec 64) (s : State) : NextKept s (execLedgerPoolWrite f v s) :=
  ⟨_, rfl, by simp⟩
theorem execLedgerCapacityWrite_kept (f n : Nat) (v : BitVec 64) (s : State) :
    NextKept s (execLedgerCapacityWrite f n v s) :=
  ⟨_, rfl, by simp⟩
theorem execCommit_kept (f page : Nat) (v : BitVec 64) (s : State) : NextKept s (execCommit f page v s) :=
  ⟨_, rfl, by simp⟩
theorem execDiscard_kept (f page : Nat) (v : BitVec 64) (s : State) : NextKept s (execDiscard f page v s) :=
  ⟨_, rfl, by simp⟩
theorem execSeamApplyComplete_kept (n g : Nat) (s : State) : NextKept s (execSeamApplyComplete n g s) :=
  ⟨_, rfl, by split <;> simp⟩
theorem execTimetableService_kept (n at_ : Nat) (s : State) : NextKept s (execTimetableService n at_ s) :=
  ⟨_, rfl, by simp⟩
theorem execTriggerPulseStart_kept (n e : Nat) (item : Option Nat) (at_ : Nat) (s : State) :
    NextKept s (execTriggerPulseStart n e item at_ s) :=
  ⟨_, rfl, by (repeat' split) <;> simp⟩
theorem execTriggerPulseEnd_kept (o at_ : Nat) (s : State) : NextKept s (execTriggerPulseEnd o at_ s) :=
  ⟨_, rfl, by simp⟩
theorem execRearm_kept (f n : Nat) (v : BitVec 64) (s : State) : NextKept s (execRearm f n v s) := ⟨_, rfl, by simp⟩
theorem execTimebaseEdge_kept (edges : List Nat) (stable at_ : Nat) (s : State) :
    NextKept s (execTimebaseEdge edges stable at_ s) :=
  ⟨_, rfl, by simp⟩
theorem execIndexPulse_kept (z stable at_ : Nat) (s : State) : NextKept s (execIndexPulse z stable at_ s) :=
  ⟨_, rfl, by simp⟩
theorem execHistorySample_kept (at_ : Nat) (s : State) : NextKept s (execHistorySample at_ s) := ⟨_, rfl, by simp⟩
theorem execEncoderLoss_kept (b at_ : Nat) (s : State) : NextKept s (execEncoderLoss b at_ s) := ⟨_, rfl, by simp⟩
theorem execCoastExpiry_kept (b at_ : Nat) (s : State) : NextKept s (execCoastExpiry b at_ s) := ⟨_, rfl, by simp⟩
theorem execPtpMessageReceive_kept (port : Nat) (head : PtpHead) (offset : Int) (state rate at_ : Nat) (s : State) :
    NextKept s (execPtpMessageReceive port head offset state rate at_ s) :=
  ⟨_, rfl, by simp⟩
theorem execPtpHoldoverEntry_kept (at_ : Nat) (s : State) : NextKept s (execPtpHoldoverEntry at_ s) :=
  ⟨_, rfl, by simp⟩
theorem execQueryTime_kept (f : Nat) (v : BitVec 64) (s : State) : NextKept s (execQueryTime f v s) :=
  ⟨_, rfl, by simp⟩
theorem execAdjust_kept (f b : Nat) (v : BitVec 64) (s : State) : NextKept s (execAdjust f b v s) := ⟨_, rfl, by simp⟩
theorem execDilate_kept (f n : Nat) (s : State) : NextKept s (execDilate f n s) := ⟨_, rfl, by simp⟩
theorem execInit_kept (f n : Nat) (s : State) : NextKept s (execInit f n s) := ⟨_, rfl, by simp⟩
theorem execRun_kept (f n : Nat) (s : State) : NextKept s (execRun f n s) := ⟨_, rfl, by simp⟩
theorem execRepair_kept (f n : Nat) (s : State) : NextKept s (execRepair f n s) := ⟨_, rfl, by simp⟩
theorem execExtract_kept (f n : Nat) (s : State) : NextKept s (execExtract f n s) := ⟨_, rfl, by simp⟩
theorem execCheck_kept (f n : Nat) (s : State) : NextKept s (execCheck f n s) := ⟨_, rfl, by simp⟩
theorem execAbort_kept (f n : Nat) (s : State) : NextKept s (execAbort f n s) := ⟨_, rfl, by simp⟩
theorem execNvmeReadTimeout_kept (i : Nat) (s : State) : NextKept s (execNvmeReadTimeout i s) :=
  ⟨_, rfl, by split <;> simp⟩
theorem execNvmeConnectFail_kept (s : State) : NextKept s (execNvmeConnectFail s) := ⟨_, rfl, by split <;> simp⟩
theorem execImgResendRequest_kept (m i : Nat) (s : State) : NextKept s (execImgResendRequest m i s) :=
  ⟨_, rfl, by split <;> simp⟩
theorem execImgPeerReport_kept (m : Nat) (ok : Bool) (s : State) : NextKept s (execImgPeerReport m ok s) :=
  ⟨_, rfl, by split <;> simp⟩
theorem execStreamTransferIssue_kept (t d : Nat) (ecc : Ecc) (at_ : Nat) (s : State) :
    NextKept s (execStreamTransferIssue t d ecc at_ s) :=
  ⟨_, rfl, by
    dsimp only
    (repeat' split) <;> simp⟩
theorem execStreamIndexPop_kept (t d : Nat) (s : State) : NextKept s (execStreamIndexPop t d s) :=
  ⟨_, rfl, by (repeat' split) <;> simp⟩
theorem execStreamRingNotify_kept (t d : Nat) (s : State) : NextKept s (execStreamRingNotify t d s) :=
  ⟨_, rfl, by simp⟩
theorem execStreamRingCredit_kept (t d : Nat) (s : State) : NextKept s (execStreamRingCredit t d s) :=
  ⟨_, rfl, by simp⟩
theorem execStreamHaltPost_kept (t d at_ : Nat) (s : State) : NextKept s (execStreamHaltPost t d at_ s) :=
  ⟨_, rfl, by simp -implicitDefEqProofs⟩
theorem execHaltPop_kept (f n : Nat) (s : State) : NextKept s (execHaltPop f n s) := ⟨_, rfl, by simp⟩
theorem execPstrResume_kept (f n : Nat) (v : BitVec 64) (at_ : Nat) (s : State) :
    NextKept s (execPstrResume f n v at_ s) :=
  ⟨_, rfl, by simp⟩
theorem execStreamResume_kept (t d at_ : Nat) (s : State) : NextKept s (execStreamResume t d at_ s) :=
  ⟨_, rfl, by (repeat' split) <;> simp⟩
theorem execStreamHaltTimeout_kept (t d at_ : Nat) (s : State) : NextKept s (execStreamHaltTimeout t d at_ s) :=
  ⟨_, rfl, by simp⟩
theorem execPassCrcFailure_kept (p edge link dir plane rim : Nat) (bad : List (Nat × Nat)) (at_ : Nat) (s : State) :
    NextKept s (execPassCrcFailure p edge link dir plane rim bad at_ s) :=
  ⟨_, rfl, by simp⟩
theorem execLaneReplacement_kept (p : Nat) (s : State) : NextKept s (execLaneReplacement p s) := ⟨_, rfl, by simp⟩
theorem execHardwareFaultDetect_kept (t unit : Nat) (s : State) : NextKept s (execHardwareFaultDetect t unit s) :=
  ⟨_, rfl, by simp⟩
theorem execRespareMapComputed_kept (p : Nat) (s : State) : NextKept s (execRespareMapComputed p s) :=
  ⟨_, rfl, by simp⟩
theorem execPlainQuiesced_kept (p at_ : Nat) (s : State) : NextKept s (execPlainQuiesced p at_ s) :=
  ⟨_, rfl, by split <;> simp⟩
theorem execRespareIntentProgrammed_kept (p : Nat) (s : State) : NextKept s (execRespareIntentProgrammed p s) :=
  ⟨_, rfl, by split <;> simp -implicitDefEqProofs⟩
theorem execPlainResume_kept (p at_ : Nat) (s : State) : NextKept s (execPlainResume p at_ s) :=
  ⟨_, rfl, by split <;> simp⟩
theorem execRespareCommitProgrammed_kept (p : Nat) (s : State) : NextKept s (execRespareCommitProgrammed p s) :=
  ⟨_, rfl, by split <;> simp⟩
theorem execRespare_kept (f p x y : Nat) (s : State) : NextKept s (execRespare f p x y s) := ⟨_, rfl, by simp⟩
theorem execRetireRow_kept (f p y : Nat) (s : State) : NextKept s (execRetireRow f p y s) := ⟨_, rfl, by simp⟩
theorem execRetest_kept (f p x y : Nat) (s : State) : NextKept s (execRetest f p x y s) := ⟨_, rfl, by simp⟩
theorem execComputeFence_kept (f p : Nat) (s : State) : NextKept s (execComputeFence f p s) := ⟨_, rfl, by simp⟩
theorem execFullFence_kept (f p : Nat) (s : State) : NextKept s (execFullFence f p s) := ⟨_, rfl, by simp⟩
theorem execUnfence_kept (f p : Nat) (s : State) : NextKept s (execUnfence f p s) := ⟨_, rfl, by simp⟩
theorem execLaneRespare_kept (f p edge link dir plane group lane : Nat) (s : State) :
    NextKept s (execLaneRespare f p edge link dir plane group lane s) :=
  ⟨_, rfl, by simp⟩
theorem execRetestComplete_kept (p : Nat) (pass : Bool) (s : State) : NextKept s (execRetestComplete p pass s) :=
  ⟨_, rfl, by split <;> simp -implicitDefEqProofs⟩
theorem execPartitionResetComplete_kept (n : Nat) (s : State) : NextKept s (execPartitionResetComplete n s) :=
  ⟨_, rfl, by simp⟩
theorem execStart_kept (f n : Nat) (s : State) : NextKept s (execStart f n s) := ⟨_, rfl, by simp⟩
theorem execStop_kept (f n : Nat) (s : State) : NextKept s (execStop f n s) := ⟨_, rfl, by simp⟩
theorem execDrain_kept (f n : Nat) (s : State) : NextKept s (execDrain f n s) := ⟨_, rfl, by simp⟩
theorem execResume_kept (f n : Nat) (s : State) : NextKept s (execResume f n s) := ⟨_, rfl, by simp⟩
theorem execPause_kept (f n : Nat) (s : State) : NextKept s (execPause f n s) := ⟨_, rfl, by simp⟩
theorem execPartitionReset_kept (f n : Nat) (s : State) : NextKept s (execPartitionReset f n s) := ⟨_, rfl, by simp⟩
theorem execVfFunctionLevelReset_kept (k : Nat) (s : State) : NextKept s (execVfFunctionLevelReset k s) :=
  ⟨_, rfl, by simp⟩
theorem execDrainComplete_kept (n : Nat) (s : State) : NextKept s (execDrainComplete n s) := ⟨_, rfl, by simp⟩
theorem execDrainTimeout_kept (n at_ : Nat) (s : State) : NextKept s (execDrainTimeout n at_ s) := ⟨_, rfl, by simp⟩
theorem execManagementReset_kept (s : State) : NextKept s (execManagementReset s) := ⟨_, rfl, by simp⟩
theorem execManagementResetComplete_kept (s : State) : NextKept s (execManagementResetComplete s) := ⟨_, rfl, by simp⟩
theorem execBackupWriteComplete_kept (fails at_ : Nat) (s : State) :
    NextKept s (execBackupWriteComplete fails at_ s) :=
  ⟨_, rfl, by split <;> simp⟩
theorem execSupplyLow_kept (mv at_ : Nat) (s : State) : NextKept s (execSupplyLow mv at_ s) :=
  ⟨_, rfl, by (repeat' split) <;> simp⟩
theorem execSupplyLowEnd_kept (mv at_ : Nat) (s : State) : NextKept s (execSupplyLowEnd mv at_ s) := ⟨_, rfl, by simp⟩
theorem execSupplyDipEnd_kept (lowest mv at_ : Nat) (s : State) : NextKept s (execSupplyDipEnd lowest mv at_ s) :=
  ⟨_, rfl, by simp⟩
theorem execOvervolt_kept (mv at_ : Nat) (s : State) : NextKept s (execOvervolt mv at_ s) :=
  ⟨_, rfl, by (repeat' split) <;> simp⟩
theorem execOvervoltEnd_kept (mv at_ : Nat) (s : State) : NextKept s (execOvervoltEnd mv at_ s) := ⟨_, rfl, by simp⟩
theorem execSupplyRestored_kept (mv at_ : Nat) (s : State) : NextKept s (execSupplyRestored mv at_ s) :=
  ⟨_, rfl, by split <;> simp⟩
theorem execDroopStepUp_kept (p mv at_ : Nat) (s : State) : NextKept s (execDroopStepUp p mv at_ s) :=
  ⟨_, rfl, by (repeat' split) <;> simp⟩
theorem execDroopStepDown_kept (p mv at_ : Nat) (s : State) : NextKept s (execDroopStepDown p mv at_ s) :=
  ⟨_, rfl, by simp⟩
theorem execPlainDroop_kept (p at_ : Nat) (s : State) : NextKept s (execPlainDroop p at_ s) :=
  ⟨_, rfl, by (repeat' split) <;> simp⟩
theorem execPwrCtrlWrite_kept (f : Nat) (v : BitVec 64) (s : State) : NextKept s (execPwrCtrlWrite f v s) :=
  ⟨_, rfl, by simp⟩
theorem execArmEvaluate_kept (energy est at_ : Nat) (s : State) : NextKept s (execArmEvaluate energy est at_ s) :=
  ⟨_, rfl, by simp⟩
theorem execPackCapacityMeasure_kept (cap at_ : Nat) (s : State) : NextKept s (execPackCapacityMeasure cap at_ s) :=
  ⟨_, rfl, by simp⟩
theorem execPackLatchClose_kept (s : State) : NextKept s (execPackLatchClose s) := ⟨_, rfl, by simp⟩
theorem execAdd_kept (t : Nat) (g : Guard) (a : FArgs) (s : State) : NextKept s (execAdd t g a s) := ⟨_, rfl, by simp⟩
theorem execSub_kept (t : Nat) (g : Guard) (a : FArgs) (s : State) : NextKept s (execSub t g a s) := ⟨_, rfl, by simp⟩
theorem execMul_kept (t : Nat) (g : Guard) (a : FArgs) (s : State) : NextKept s (execMul t g a s) := ⟨_, rfl, by simp⟩
theorem execMulh_kept (t : Nat) (g : Guard) (a : FArgs) (s : State) : NextKept s (execMulh t g a s) :=
  ⟨_, rfl, by simp⟩
theorem execAnd_kept (t : Nat) (g : Guard) (a : FArgs) (s : State) : NextKept s (execAnd t g a s) := ⟨_, rfl, by simp⟩
theorem execOr_kept (t : Nat) (g : Guard) (a : FArgs) (s : State) : NextKept s (execOr t g a s) := ⟨_, rfl, by simp⟩
theorem execXor_kept (t : Nat) (g : Guard) (a : FArgs) (s : State) : NextKept s (execXor t g a s) := ⟨_, rfl, by simp⟩
theorem execAndn_kept (t : Nat) (g : Guard) (a : FArgs) (s : State) : NextKept s (execAndn t g a s) :=
  ⟨_, rfl, by simp⟩
theorem execShl_kept (t : Nat) (g : Guard) (a : FArgs) (s : State) : NextKept s (execShl t g a s) := ⟨_, rfl, by simp⟩
theorem execShr_kept (t : Nat) (g : Guard) (a : FArgs) (s : State) : NextKept s (execShr t g a s) := ⟨_, rfl, by simp⟩
theorem execMin_kept (t : Nat) (g : Guard) (a : FArgs) (s : State) : NextKept s (execMin t g a s) := ⟨_, rfl, by simp⟩
theorem execMax_kept (t : Nat) (g : Guard) (a : FArgs) (s : State) : NextKept s (execMax t g a s) := ⟨_, rfl, by simp⟩
theorem execAdds_kept (t : Nat) (g : Guard) (a : FArgs) (s : State) : NextKept s (execAdds t g a s) :=
  ⟨_, rfl, by simp⟩
theorem execSubs_kept (t : Nat) (g : Guard) (a : FArgs) (s : State) : NextKept s (execSubs t g a s) :=
  ⟨_, rfl, by simp⟩
theorem execFadd_kept (t : Nat) (g : Guard) (a : FArgs) (s : State) : NextKept s (execFadd t g a s) :=
  ⟨_, rfl, by simp⟩
theorem execFsub_kept (t : Nat) (g : Guard) (a : FArgs) (s : State) : NextKept s (execFsub t g a s) :=
  ⟨_, rfl, by simp⟩
theorem execFmul_kept (t : Nat) (g : Guard) (a : FArgs) (s : State) : NextKept s (execFmul t g a s) :=
  ⟨_, rfl, by simp⟩
theorem execFmin_kept (t : Nat) (g : Guard) (a : FArgs) (s : State) : NextKept s (execFmin t g a s) :=
  ⟨_, rfl, by simp⟩
theorem execFmax_kept (t : Nat) (g : Guard) (a : FArgs) (s : State) : NextKept s (execFmax t g a s) :=
  ⟨_, rfl, by simp⟩
theorem execAbs_kept (t : Nat) (g : Guard) (a : FArgs) (s : State) : NextKept s (execAbs t g a s) := ⟨_, rfl, by simp⟩
theorem execFneg_kept (t : Nat) (g : Guard) (a : FArgs) (s : State) : NextKept s (execFneg t g a s) :=
  ⟨_, rfl, by simp⟩
theorem execFabs_kept (t : Nat) (g : Guard) (a : FArgs) (s : State) : NextKept s (execFabs t g a s) :=
  ⟨_, rfl, by simp⟩
theorem execMov_kept (t : Nat) (g : Guard) (a : FArgs) (s : State) : NextKept s (execMov t g a s) := ⟨_, rfl, by simp⟩
theorem execFma_kept (t : Nat) (g : Guard) (a : FArgs) (s : State) : NextKept s (execFma t g a s) := ⟨_, rfl, by simp⟩
theorem execCmpeq_kept (t : Nat) (g : Guard) (a : FArgs) (s : State) : NextKept s (execCmpeq t g a s) :=
  ⟨_, rfl, by simp⟩
theorem execCmpne_kept (t : Nat) (g : Guard) (a : FArgs) (s : State) : NextKept s (execCmpne t g a s) :=
  ⟨_, rfl, by simp⟩
theorem execCmplt_kept (t : Nat) (g : Guard) (a : FArgs) (s : State) : NextKept s (execCmplt t g a s) :=
  ⟨_, rfl, by simp⟩
theorem execCmple_kept (t : Nat) (g : Guard) (a : FArgs) (s : State) : NextKept s (execCmple t g a s) :=
  ⟨_, rfl, by simp⟩
theorem execPand_kept (t : Nat) (g : Guard) (a : FArgs) (s : State) : NextKept s (execPand t g a s) :=
  ⟨_, rfl, by simp⟩
theorem execPor_kept (t : Nat) (g : Guard) (a : FArgs) (s : State) : NextKept s (execPor t g a s) := ⟨_, rfl, by simp⟩
theorem execPxor_kept (t : Nat) (g : Guard) (a : FArgs) (s : State) : NextKept s (execPxor t g a s) :=
  ⟨_, rfl, by simp⟩
theorem execPnot_kept (t : Nat) (g : Guard) (a : FArgs) (s : State) : NextKept s (execPnot t g a s) :=
  ⟨_, rfl, by simp⟩
theorem execTaskDispatch_kept (t : Nat) (s : State) : NextKept s (execTaskDispatch t s) :=
  ⟨_, rfl, by
    dsimp only
    (repeat' split) <;> simp⟩
theorem execTaskUnblock_kept (t k : Nat) (s : State) : NextKept s (execTaskUnblock t k s) := ⟨_, rfl, by simp⟩
theorem execMatrixOpStart_kept (t i : Nat) (s : State) : NextKept s (execMatrixOpStart t i s) :=
  ⟨_, rfl, by split <;> simp⟩
theorem execMmagRow_kept (t : Nat) (s : State) : NextKept s (execMmagRow t s) := ⟨_, rfl, by (repeat' split) <;> simp⟩
theorem execMatrixOpComplete_kept (t : Nat) (s : State) : NextKept s (execMatrixOpComplete t s) :=
  ⟨_, rfl, by split <;> simp⟩
theorem execDeskScrub_kept (t : Nat) (ecc : Ecc) (s : State) : NextKept s (execDeskScrub t ecc s) := ⟨_, rfl, by simp⟩
theorem execBenchRefreshStep_kept (t : Nat) (s : State) : NextKept s (execBenchRefreshStep t s) := ⟨_, rfl, by simp⟩
theorem execRefreshIntervalHalve_kept (p : Nat) (temp : Int) (s : State) :
    NextKept s (execRefreshIntervalHalve p temp s) :=
  ⟨_, rfl, by simp⟩
theorem execRefreshIntervalRestore_kept (p : Nat) (temp : Int) (s : State) :
    NextKept s (execRefreshIntervalRestore p temp s) :=
  ⟨_, rfl, by simp⟩
theorem execColdStart_kept (mv rtc at_ : Nat) (s : State) : NextKept s (execColdStart mv rtc at_ s) :=
  ⟨_, rfl, by simp⟩
theorem execControlBlockUp_kept (r : SelfTest) (s : State) : NextKept s (execControlBlockUp r s) := ⟨_, rfl, by simp⟩
theorem execEdgeTrainingComplete_kept (fails : List Nat) (at_ : Nat) (s : State) :
    NextKept s (execEdgeTrainingComplete fails at_ s) :=
  ⟨_, rfl, by split <;> simp⟩
theorem execPerstRelease_kept (at_ : Nat) (s : State) : NextKept s (execPerstRelease at_ s) :=
  ⟨_, rfl, by split <;> simp⟩
theorem execPcieLinkL0_kept (speed width : Nat) (flit : Bool) (at_ : Nat) (s : State) :
    NextKept s (execPcieLinkL0 speed width flit at_ s) :=
  ⟨_, rfl, by simp⟩
theorem execIdleHoldRequest_kept (f : Nat) (s : State) : NextKept s (execIdleHoldRequest f s) := ⟨_, rfl, by simp⟩
theorem execBenchRetainRequest_kept (f : Nat) (key : BitVec 16) (s : State) :
    NextKept s (execBenchRetainRequest f key s) :=
  ⟨_, rfl, by simp⟩
theorem execRunRequest_kept (f at_ : Nat) (s : State) : NextKept s (execRunRequest f at_ s) := ⟨_, rfl, by simp⟩
theorem execChstRelease_kept (f : Nat) (v : BitVec 64) (s : State) : NextKept s (execChstRelease f v s) :=
  ⟨_, rfl, by simp⟩
theorem execChestBackgroundEraseComplete_kept (image : Bool) (k fails stripes : Nat) (s : State) :
    NextKept s (execChestBackgroundEraseComplete image k fails stripes s) :=
  ⟨_, rfl, by (repeat' split) <;> simp⟩
theorem execChestRefreshRewrite_kept (steps corrected : Nat) (s : State) :
    NextKept s (execChestRefreshRewrite steps corrected s) :=
  ⟨_, rfl, by simp⟩
theorem execChannelFail_kept (c : Nat) (s : State) : NextKept s (execChannelFail c s) := ⟨_, rfl, by simp⟩
theorem execChestUtailWrite_kept (f : Nat) (v : BitVec 64) (s : State) : NextKept s (execChestUtailWrite f v s) :=
  ⟨_, rfl, by simp⟩
theorem execChestUcfgWrite_kept (f : Nat) (v : BitVec 64) (s : State) : NextKept s (execChestUcfgWrite f v s) :=
  ⟨_, rfl, by simp⟩
theorem execChestWriteback_kept (s : State) : NextKept s (execChestWriteback s) := ⟨_, rfl, by split <;> simp⟩
theorem execChestZoneWrite_kept (f : Nat) (v : BitVec 64) (clash : Bool) (s : State) :
    NextKept s (execChestZoneWrite f v clash s) :=
  ⟨_, rfl, by simp⟩
theorem execFwUpdate_kept (f : Nat) (s : State) : NextKept s (execFwUpdate f s) := ⟨_, rfl, by simp⟩
theorem execFwRestart_kept (f : Nat) (s : State) : NextKept s (execFwRestart f s) := ⟨_, rfl, by simp⟩
theorem execFwUpdateStepComplete_kept (pro len : Nat) (ok : Bool) (s : State) :
    NextKept s (execFwUpdateStepComplete pro len ok s) :=
  ⟨_, rfl, by (repeat' split) <;> simp⟩
theorem execFwTrialConfirm_kept (at_ : Nat) (s : State) : NextKept s (execFwTrialConfirm at_ s) :=
  ⟨_, rfl, by
    dsimp only
    (repeat' split) <;> simp⟩
theorem execKeeperUp_kept (ok0 ok1 unwrap copyA copyB : Bool) (at_ : Nat) (s : State) :
    NextKept s (execKeeperUp ok0 ok1 unwrap copyA copyB at_ s) :=
  ⟨_, rfl, by
    dsimp only
    (repeat' split) <;> simp⟩
theorem execDoeDiscovery_kept (index : Nat) (s : State) : NextKept s (execDoeDiscovery index s) := ⟨_, rfl, by simp⟩
theorem execRekey_kept (f : Nat) (v : BitVec 64) (s : State) : NextKept s (execRekey f v s) := ⟨_, rfl, by simp⟩
theorem execRekeyComplete_kept (at_ : Nat) (s : State) : NextKept s (execRekeyComplete at_ s) := ⟨_, rfl, by simp⟩
theorem execImgkeyProgram_kept (f slot : Nat) (s : State) : NextKept s (execImgkeyProgram f slot s) :=
  ⟨_, rfl, by simp⟩
theorem execImgkeyRevoke_kept (f slot : Nat) (key : BitVec 16) (s : State) :
    NextKept s (execImgkeyRevoke f slot key s) :=
  ⟨_, rfl, by simp⟩
theorem execJtagChallenge_kept (f at_ : Nat) (s : State) : NextKept s (execJtagChallenge f at_ s) := ⟨_, rfl, by simp⟩
theorem execJtagVerify_kept (f scope at_ : Nat) (s : State) : NextKept s (execJtagVerify f scope at_ s) :=
  ⟨_, rfl, by simp⟩
theorem execJtagRelock_kept (f : Nat) (s : State) : NextKept s (execJtagRelock f s) := ⟨_, rfl, by simp⟩
theorem execJtagNonceExpiry_kept (at_ : Nat) (s : State) : NextKept s (execJtagNonceExpiry at_ s) :=
  ⟨_, rfl, by
    dsimp only
    (repeat' split) <;> simp⟩
theorem execRxFaultDetect_kept (i : Nat) (vid vcm : Int) (at_ : Nat) (s : State) :
    NextKept s (execRxFaultDetect i vid vcm at_ s) :=
  ⟨_, rfl, by simp⟩
theorem execRxFaultClear_kept (i : Nat) (vid vcm : Int) (at_ : Nat) (s : State) :
    NextKept s (execRxFaultClear i vid vcm at_ s) :=
  ⟨_, rfl, by simp⟩
theorem execThermalWarn_kept (p : Nat) (temp : Int) (at_ : Nat) (s : State) :
    NextKept s (execThermalWarn p temp at_ s) :=
  ⟨_, rfl, by simp⟩
theorem execThermalCrit_kept (p : Nat) (temp : Int) (at_ : Nat) (s : State) :
    NextKept s (execThermalCrit p temp at_ s) :=
  ⟨_, rfl, by simp⟩
theorem execThermalHardwareTrip_kept (p : Nat) (temp : Int) (at_ : Nat) (s : State) :
    NextKept s (execThermalHardwareTrip p temp at_ s) :=
  ⟨_, rfl, by simp⟩
theorem execCoolantFlow_kept (flow inlet outlet drop at_ : Nat) (s : State) :
    NextKept s (execCoolantFlow flow inlet outlet drop at_ s) :=
  ⟨_, rfl, by simp⟩
theorem execCoolantTemp_kept (flow inlet outlet drop at_ : Nat) (s : State) :
    NextKept s (execCoolantTemp flow inlet outlet drop at_ s) :=
  ⟨_, rfl, by simp⟩
theorem execThermalFaultClear_kept (p : Option Nat) (temp : Int) (flow inlet outlet drop at_ : Nat) (s : State) :
    NextKept s (execThermalFaultClear p temp flow inlet outlet drop at_ s) :=
  ⟨_, rfl, by split <;> simp⟩
theorem execSmbusStatus_kept (s : State) : NextKept s (execSmbusStatus s) := ⟨_, rfl, by simp⟩
theorem execSmbusIdHash_kept (s : State) : NextKept s (execSmbusIdHash s) := ⟨_, rfl, by simp⟩
theorem execSmbusSupply_kept (s : State) : NextKept s (execSmbusSupply s) := ⟨_, rfl, by simp⟩
theorem execSmbusTemps_kept (s : State) : NextKept s (execSmbusTemps s) := ⟨_, rfl, by simp⟩
theorem execSmbusCoolant_kept (s : State) : NextKept s (execSmbusCoolant s) := ⟨_, rfl, by simp⟩
theorem execSmbusFault_kept (s : State) : NextKept s (execSmbusFault s) := ⟨_, rfl, by simp⟩
theorem execSmbusAlertResponse_kept (adr : Nat) (s : State) : NextKept s (execSmbusAlertResponse adr s) :=
  ⟨_, rfl, by simp⟩
theorem execSmbusUnknownCommand_kept (code : Nat) (s : State) : NextKept s (execSmbusUnknownCommand code s) :=
  ⟨_, rfl, by simp⟩
theorem execVioChange_kept (present : Bool) (s : State) : NextKept s (execVioChange present s) := ⟨_, rfl, by simp⟩
theorem execJtagTapInstruction_kept (i : Option TapInstr) (trst : Bool) (s : State) :
    NextKept s (execJtagTapInstruction i trst s) :=
  ⟨_, rfl, by (repeat' split) <;> simp⟩
theorem execPcieError_kept (s : State) : NextKept s (execPcieError s) := ⟨_, rfl, by simp⟩
theorem execFaultClear_kept (f page : Nat) (s : State) : NextKept s (execFaultClear f page s) := ⟨_, rfl, by simp⟩
theorem execFaultReactWrite_kept (f page : Nat) (v : BitVec 64) (s : State) :
    NextKept s (execFaultReactWrite f page v s) :=
  ⟨_, rfl, by simp⟩
theorem execFaultOverrideWrite_kept (f : Nat) (v : BitVec 64) (s : State) :
    NextKept s (execFaultOverrideWrite f v s) :=
  ⟨_, rfl, by simp⟩
theorem execPartitionRecovery_kept (n at_ : Nat) (s : State) : NextKept s (execPartitionRecovery n at_ s) :=
  ⟨_, rfl, by simp⟩
theorem execStickyClear_kept (f n : Nat) (s : State) : NextKept s (execStickyClear f n s) := ⟨_, rfl, by simp⟩
theorem execHaltedClear_kept (f : Nat) (s : State) : NextKept s (execHaltedClear f s) := ⟨_, rfl, by simp⟩
theorem execLatchAcquire_kept (who : Owner) (k : Nat) (s : State) : NextKept s (execLatchAcquire who k s) :=
  ⟨_, rfl, by simp⟩
theorem execLatchRelease_kept (who : Owner) (k : Nat) (s : State) : NextKept s (execLatchRelease who k s) :=
  ⟨_, rfl, by simp⟩
theorem execLatchForce_kept (who : Owner) (k : Nat) (s : State) : NextKept s (execLatchForce who k s) :=
  ⟨_, rfl, by simp⟩
theorem execEthLinkChange_kept (p : Nat) (up : Bool) (lanes : Nat) (s : State) :
    NextKept s (execEthLinkChange p up lanes s) :=
  ⟨_, rfl, by simp⟩
theorem execPrtModeWrite_kept (f p : Nat) (v : BitVec 64) (s : State) : NextKept s (execPrtModeWrite f p v s) :=
  ⟨_, rfl, by simp⟩
theorem execEthFrameReceive_kept (p bytes : Nat) (k : EthKind) (fcsOk : Bool) (fecFixed fecBad : Nat) (s : State) :
    NextKept s (execEthFrameReceive p bytes k fcsOk fecFixed fecBad s) :=
  ⟨_, rfl, by (repeat' split) <;> simp⟩
theorem execRcRegisterRead_kept (f off : Nat) (s : State) : NextKept s (execRcRegisterRead f off s) :=
  ⟨_, rfl, by simp⟩
theorem execMisalignedRegisterAccess_kept (f off bytes : Nat) (write : Bool) (s : State) :
    NextKept s (execMisalignedRegisterAccess f off bytes write s) :=
  ⟨_, rfl, by (repeat' split) <;> simp⟩
theorem execCntFreezeWrite_kept (f page : Nat) (v : BitVec 64) (s : State) :
    NextKept s (execCntFreezeWrite f page v s) :=
  ⟨_, rfl, by simp⟩
theorem execSriovNumvfsWrite_kept (n : Nat) (msix : List Nat) (s : State) :
    NextKept s (execSriovNumvfsWrite n msix s) :=
  ⟨_, rfl, by simp⟩
theorem execApertureWrite_kept (f : Nat) (part : Option Nat) (v : BitVec 64) (s : State) :
    NextKept s (execApertureWrite f part v s) :=
  ⟨_, rfl, by split <;> simp⟩
theorem execResp_kept (i : Nat) (s : State) : NextKept s (execResp i s) := ⟨_, rfl, by (repeat' split) <;> simp⟩
theorem execPacketQpush_kept (i : Nat) (s : State) : NextKept s (execPacketQpush i s) :=
  ⟨_, rfl, by (repeat' split) <;> simp⟩
theorem execMmasRowPush_kept (t : Nat) (s : State) : NextKept s (execMmasRowPush t s) :=
  ⟨_, rfl, by (repeat' split) <;> simp⟩

end Sys2Proof.Machine

/-! PROOF. The tile instructions, and the commands that store: a next state, and canonical memory in it. -/

namespace Sys2Proof.Machine

/-! ### Bodies of instructions -/

section

variable (s : State)

theorem State.mqPush_memAll (t : Nat) (m : MOp) : (s.mqPush t m).MemAll (· = s.mem) := by
  unfold State.mqPush
  split
  · trivial
  · rfl

theorem State.pop_memAll {Q : List Host.Cell → Prop} (t k q : Nat) (chk : List (Bool × Nat)) {f : State → Entry → State}
    (hf : ∀ e, Q (f s e).mem) : (s.pop t k q chk f).MemAll Q := by
  refine Issue.memAll_checked ?_
  split
  · trivial
  · next e _ =>
    show Q ((f s e).popIn t q).mem
    rw [State.mem_popIn]
    exact hf e

theorem State.push_memAll {Q : List Host.Cell → Prop} (t k q : Nat) (chk : List (Bool × Nat)) {e : Issue}
    (he : e.MemAll Q) : (s.push t k q chk e).MemAll Q := by
  refine Issue.memAll_checked ?_
  split
  · trivial
  · exact he

theorem State.ldBody_memAll (t ea : Nat) (a : MArgs) (ecc : Ecc) : (s.ldBody t ea a ecc).MemAll (· = s.mem) := by
  have bad n : MemKept s ((s.noteEcc (tkey t ea) n .bad).noteRows t ea n) :=
    ((MemKept.refl s).noteEcc _ _ _).trans (State.noteRows_mem ..)
  have good n f e : MemKept s (((s.openRowOf t ea).updTile t f).raiseEcc t ea n e) :=
    (((MemKept.refl s).openRowOf _ _).updTile _ _).raiseEcc _ _ _ _
  rw [State.ldBody]
  split
  · trivial
  · generalize s.eccOf (tkey t ea) (szBytes a.sz.toNat) ecc = o
    generalize areaOf ea = ar
    cases ar with
    | desk | bench =>
      cases o with
      | bad => exact bad _
      | clean | corrected => exact good _ _ _
    | _ => exact s.localClear_mem t ea _

theorem State.stBody_memAll (h : MemOk s) (t ea : Nat) (a : MArgs) (ecc : Ecc) :
    (s.stBody t ea a ecc).MemAll fun m => Memory.wf m = true := by
  have ho := (h.of_mem (s.openRowOf_mem t ea)).tileStore t ea (szBytes a.sz.toNat) ((s.tile t).stValue a) ecc
  unfold State.stBody
  dsimp only
  split
  · trivial
  · split
    · exact ho
    · exact ho
    · exact h.localWrite _ _ _ _

theorem State.gpBody_memAll (t g : Nat) (p : Packet) : (s.gpBody t g p).MemAll (· = s.mem) := by
  unfold State.gpBody
  dsimp only
  split
  · exact (State.send_mem ..).trans (s.edgeCheck_mem t g)
  · exact s.edgeCheck_mem t g

end

/-! ### Tile instructions -/

theorem execRedmax_kept (t : Nat) (g : Guard) (a : FArgs) (s : State) : NextKept s (execRedmax t g a s) :=
  ⟨_, rfl, State.issueG_memAll (Q := (· = s.mem)) rfl t g _ fun _ => rfl⟩
theorem execVext_kept (t : Nat) (g : Guard) (a : FArgs) (s : State) : NextKept s (execVext t g a s) :=
  ⟨_, rfl, State.issueG_memAll (Q := (· = s.mem)) rfl t g _ fun _ => rfl⟩
theorem execPfroms_kept (t : Nat) (g : Guard) (a : FArgs) (s : State) : NextKept s (execPfroms t g a s) :=
  ⟨_, rfl, State.issueG_memAll (Q := (· = s.mem)) rfl t g _ fun _ => rfl⟩
theorem execSfromp_kept (t : Nat) (g : Guard) (a : FArgs) (s : State) : NextKept s (execSfromp t g a s) :=
  ⟨_, rfl, State.issueG_memAll (Q := (· = s.mem)) rfl t g _ fun _ => rfl⟩
theorem execRdid_kept (t : Nat) (g : Guard) (a : SArgs) (s : State) : NextKept s (execRdid t g a s) :=
  ⟨_, rfl, State.issueG_memAll (Q := (· = s.mem)) rfl t g _ fun _ => rfl⟩
theorem execRdcyc_kept (t : Nat) (g : Guard) (a : SArgs) (s : State) : NextKept s (execRdcyc t g a s) :=
  ⟨_, rfl, State.issueG_memAll (Q := (· = s.mem)) rfl t g _ fun _ => rfl⟩
theorem execHgen_kept (t : Nat) (g : Guard) (a : SArgs) (s : State) : NextKept s (execHgen t g a s) :=
  ⟨_, rfl, State.issueG_memAll (Q := (· = s.mem)) rfl t g _ fun _ => rfl⟩
theorem execQcnt_kept (t : Nat) (g : Guard) (a : QArgs) (s : State) : NextKept s (execQcnt t g a s) :=
  ⟨_, rfl, State.issueG_memAll (Q := (· = s.mem)) rfl t g _ fun _ => rfl⟩
theorem execSstat_kept (t : Nat) (g : Guard) (a : SArgs) (s : State) : NextKept s (execSstat t g a s) :=
  ⟨_, rfl, State.issueG_memAll (Q := (· = s.mem)) rfl t g _ fun _ => rfl⟩
theorem execRedadd_kept (t : Nat) (g : Guard) (a : FArgs) (s : State) : NextKept s (execRedadd t g a s) :=
  ⟨_, rfl, State.issueG_memAll (Q := (· = s.mem)) rfl t g _ fun _ => State.setFlags_mem ..⟩
theorem execSel_kept (t : Nat) (g : Guard) (a : FArgs) (s : State) : NextKept s (execSel t g a s) :=
  ⟨_, rfl, State.issue_memAll (Q := (· = s.mem)) rfl t _ fun k => s.fWrite_memAll t k g a _⟩
theorem execVbcast_kept (t : Nat) (g : Guard) (a : FArgs) (s : State) : NextKept s (execVbcast t g a s) :=
  ⟨_, rfl, State.issue_memAll (Q := (· = s.mem)) rfl t _ fun _ => rfl⟩
theorem execNop_kept (t : Nat) (g : Guard) (a : CArgs) (s : State) : NextKept s (execNop t g a s) :=
  ⟨_, rfl, State.issue_memAll (Q := (· = s.mem)) rfl t _ fun _ => rfl⟩
theorem execJmp_kept (t : Nat) (g : Guard) (a : CArgs) (s : State) : NextKept s (execJmp t g a s) :=
  ⟨_, rfl, State.issue_memAll (Q := (· = s.mem)) rfl t _ fun _ => rfl⟩
theorem execTend_kept (t : Nat) (g : Guard) (a : CArgs) (s : State) : NextKept s (execTend t g a s) :=
  ⟨_, rfl, State.issue_memAll (Q := (· = s.mem)) rfl t _ fun k => s.leaveTask_mem t k 1 false⟩
theorem execTyield_kept (t : Nat) (g : Guard) (a : CArgs) (s : State) : NextKept s (execTyield t g a s) :=
  ⟨_, rfl, State.issue_memAll (Q := (· = s.mem)) rfl t _ fun _ => State.leaveTask_mem ..⟩
theorem execVins_kept (t : Nat) (g : Guard) (a : FArgs) (s : State) : NextKept s (execVins t g a s) := by
  refine ⟨_, rfl, State.issue_memAll (Q := (· = s.mem)) rfl t _ fun _ => ?_⟩
  dsimp only
  split <;> rfl

theorem execLoop_kept (t : Nat) (g : Guard) (a : CArgs) (s : State) : NextKept s (execLoop t g a s) := by
  refine ⟨_, rfl, State.issue_memAll (Q := (· = s.mem)) rfl t _ fun _ => ?_⟩
  dsimp only
  split <;> split <;> rfl

theorem execLend_kept (t : Nat) (g : Guard) (a : CArgs) (s : State) : NextKept s (execLend t g a s) := by
  refine ⟨_, rfl, State.issue_memAll (Q := (· = s.mem)) rfl t _ fun _ => ?_⟩
  dsimp only
  split <;> rfl

theorem execCvt_kept (t : Nat) (g : Guard) (a : FArgs) (s : State) : NextKept s (execCvt t g a s) := by
  refine ⟨_, rfl, State.issue_memAll (Q := (· = s.mem)) rfl t _ fun _ => ?_⟩
  dsimp only
  split
  · exact State.setFlags_mem ..
  · split
    · exact State.setFlags_mem ..
    · rfl

theorem execHaddr_kept (t : Nat) (g : Guard) (a : SArgs) (s : State) : NextKept s (execHaddr t g a s) := by
  refine ⟨_, rfl, State.issueG_memAll (Q := (· = s.mem)) rfl t g _ fun _ => ?_⟩
  dsimp only
  split
  · split
    · rfl
    · trivial
  · trivial

theorem execMldw_kept (t : Nat) (g : Guard) (a : XArgs) (s : State) : NextKept s (execMldw t g a s) :=
  ⟨_, rfl, State.issueG_memAll (Q := (· = s.mem)) rfl t g _ fun _ => Issue.memAll_checked (s.mqPush_memAll t _)⟩
theorem execMma_kept (t : Nat) (g : Guard) (a : XArgs) (s : State) : NextKept s (execMma t g a s) :=
  ⟨_, rfl, State.issueG_memAll (Q := (· = s.mem)) rfl t g _ fun _ => Issue.memAll_checked (s.mqPush_memAll t _)⟩
theorem execMmag_kept (t : Nat) (g : Guard) (a : XArgs) (s : State) : NextKept s (execMmag t g a s) :=
  ⟨_, rfl, State.issueG_memAll (Q := (· = s.mem)) rfl t g _ fun _ => Issue.memAll_checked (s.mqPush_memAll t _)⟩
theorem execMmas_kept (t : Nat) (g : Guard) (a : XArgs) (s : State) : NextKept s (execMmas t g a s) :=
  ⟨_, rfl, State.issueG_memAll (Q := (· = s.mem)) rfl t g _ fun _ => Issue.memAll_checked (s.mqPush_memAll t _)⟩
theorem execMsta_kept (t : Nat) (g : Guard) (a : XArgs) (s : State) : NextKept s (execMsta t g a s) :=
  ⟨_, rfl, State.issueG_memAll (Q := (· = s.mem)) rfl t g _ fun _ => Issue.memAll_checked (s.mqPush_memAll t _)⟩
theorem execMwra_kept (t : Nat) (g : Guard) (a : XArgs) (s : State) : NextKept s (execMwra t g a s) :=
  ⟨_, rfl, State.issueG_memAll (Q := (· = s.mem)) rfl t g _ fun _ => s.mqPush_memAll t _⟩
theorem execMza_kept (t : Nat) (g : Guard) (a : XArgs) (s : State) : NextKept s (execMza t g a s) :=
  ⟨_, rfl, State.issueG_memAll (Q := (· = s.mem)) rfl t g _ fun _ => s.mqPush_memAll t _⟩
theorem execRow_kept (t : Nat) (g : Guard) (a : SArgs) (s : State) : NextKept s (execRow t g a s) :=
  ⟨_, rfl, State.issueG_memAll (Q := (· = s.mem)) rfl t g _ fun _ => Issue.memAll_checked rfl⟩
theorem execSstop_kept (t : Nat) (g : Guard) (a : SArgs) (s : State) : NextKept s (execSstop t g a s) :=
  ⟨_, rfl, State.issueG_memAll (Q := (· = s.mem)) rfl t g _ fun _ => s.streamStop_mem t _⟩
theorem execPops_kept (t : Nat) (g : Guard) (a : QArgs) (s : State) : NextKept s (execPops t g a s) :=
  ⟨_, rfl, State.issueG_memAll (Q := (· = s.mem)) rfl t g _ fun k => s.pop_memAll t k _ _ fun _ => rfl⟩
theorem execPopv_kept (t : Nat) (g : Guard) (a : QArgs) (s : State) : NextKept s (execPopv t g a s) :=
  ⟨_, rfl, State.issueG_memAll (Q := (· = s.mem)) rfl t g _ fun k => s.pop_memAll t k _ _ fun _ => rfl⟩
theorem execSkip_kept (t : Nat) (g : Guard) (a : QArgs) (s : State) : NextKept s (execSkip t g a s) :=
  ⟨_, rfl, State.issueG_memAll (Q := (· = s.mem)) rfl t g _ fun k => s.pop_memAll t k _ _ fun _ => rfl⟩
theorem execPushs_kept (t : Nat) (g : Guard) (a : QArgs) (s : State) : NextKept s (execPushs t g a s) :=
  ⟨_, rfl, State.issueG_memAll (Q := (· = s.mem)) rfl t g _ fun k => s.push_memAll t k _ _ (s.pushOut_mem ..)⟩
theorem execPushv_kept (t : Nat) (g : Guard) (a : QArgs) (s : State) : NextKept s (execPushv t g a s) :=
  ⟨_, rfl, State.issueG_memAll (Q := (· = s.mem)) rfl t g _ fun k => s.push_memAll t k _ _ (s.pushOut_mem ..)⟩
theorem execLd_kept (t : Nat) (g : Guard) (a : MArgs) (ecc : Ecc) (s : State) : NextKept s (execLd t g a ecc s) :=
  ⟨_, rfl, State.issueG_memAll (Q := (· = s.mem)) rfl t g _ fun _ => Issue.memAll_checked (s.ldBody_memAll t _ a ecc)⟩
theorem execGet_kept (t : Nat) (g : Guard) (a : MArgs) (s : State) : NextKept s (execGet t g a s) :=
  ⟨_, rfl, State.issueG_memAll (Q := (· = s.mem)) rfl t g _ fun _ => Issue.memAll_checked (s.gpBody_memAll t _ _)⟩
theorem execMrda_kept (t : Nat) (g : Guard) (a : XArgs) (s : State) : NextKept s (execMrda t g a s) := by
  refine ⟨_, rfl, State.issueG_memAll (Q := (· = s.mem)) rfl t g _ fun _ => ?_⟩
  split
  · trivial
  · rfl

theorem execSstart_kept (t : Nat) (g : Guard) (a : SArgs) (s : State) : NextKept s (execSstart t g a s) := by
  refine ⟨_, rfl, State.issueG_memAll (Q := (· = s.mem)) rfl t g _ fun _ => ?_⟩
  dsimp only
  split
  · trivial
  split
  · trivial
  · exact s.streamStart_mem t _

theorem execPut_kept (t : Nat) (g : Guard) (a : MArgs) (s : State) : NextKept s (execPut t g a s) := by
  refine ⟨_, rfl, State.issueG_memAll (Q := (· = s.mem)) rfl t g _ fun _ => Issue.memAll_checked ?_⟩
  split
  · trivial
  · exact s.gpBody_memAll t _ _

theorem execPushd_kept (t : Nat) (g : Guard) (a : QArgs) (ecc : Ecc) (s : State) :
    NextKept s (execPushd t g a ecc s) := by
  refine ⟨_, rfl, State.issueG_memAll (Q := (· = s.mem)) rfl t g _ fun k => s.push_memAll t k _ _ ?_⟩
  split
  · exact s.noteEcc_mem ..
  · exact ((MemKept.refl s).trans (s.pushOut_mem ..)).raiseEcc _ _ _ _

theorem execPopd_ok (t : Nat) (g : Guard) (a : QArgs) (s : State) : NextOk s (execPopd t g a s) :=
  ⟨_, rfl, fun h => State.issueG_memAll (Q := fun m => Memory.wf m = true) h t g _ fun k =>
    s.pop_memAll t k _ _ fun _ => MemOk.wrMem h _ _ _⟩
theorem execSt_ok (t : Nat) (g : Guard) (a : MArgs) (ecc : Ecc) (s : State) : NextOk s (execSt t g a ecc s) :=
  ⟨_, rfl, fun h => State.issueG_memAll (Q := fun m => Memory.wf m = true) h t g _ fun _ =>
    Issue.memAll_checked (s.stBody_memAll h t _ a ecc)⟩
theorem execIllegalInstruction_kept (t : Nat) (w : BitVec 64) (s : State) :
    NextKept s (execIllegalInstruction t w s) := by
  refine ⟨_, rfl, ?_⟩
  split
  · exact State.issue_memAll (Q := (· = s.mem)) rfl t _ fun _ => rfl
  · rfl


/-! ### Chest descriptors and SPDM requests -/

theorem execChestErase_kept (w0 w1 w2 w3 : BitVec 64) (pass : Bool) (s : State) :
    NextKept s (execChestErase w0 w1 w2 w3 pass s) :=
  ⟨_, rfl, s.udesc_mem _ _ _ _ _ _ (State.chestErase_mem ..)⟩
theorem execChestInfo_kept (w0 w1 w2 w3 : BitVec 64) (hostErr : Bool) (s : State) :
    NextKept s (execChestInfo w0 w1 w2 w3 hostErr s) :=
  ⟨_, rfl, s.udesc_mem _ _ _ _ _ _ (State.chestInfo_mem ..)⟩
theorem execChestProgram_kept (w0 w1 w2 w3 : BitVec 64) (data : Nat) (hostErr pass : Bool) (s : State) :
    NextKept s (execChestProgram w0 w1 w2 w3 data hostErr pass s) :=
  ⟨_, rfl, s.udesc_mem _ _ _ _ _ _ (State.chestProgram_mem ..)⟩
theorem execChestRead_kept (w0 w1 w2 w3 : BitVec 64) (step : Option Nat) (corrected bits_ : Nat) (hostErr : Bool) (s : State) :
    NextKept s (execChestRead w0 w1 w2 w3 step corrected bits_ hostErr s) :=
  ⟨_, rfl, s.udesc_mem _ _ _ _ _ _ (State.chestRead_mem ..)⟩
theorem execGetCapabilities_kept (s : State) : NextKept s (execGetCapabilities s) :=
  ⟨_, rfl, s.spdmAnswer_mem _ _ rfl⟩
theorem execGetDigests_kept (s : State) : NextKept s (execGetDigests s) := ⟨_, rfl, s.spdmAnswer_mem _ _ rfl⟩
theorem execGetVersion_kept (s : State) : NextKept s (execGetVersion s) := ⟨_, rfl, s.spdmAnswer_mem _ _ rfl⟩
theorem execSpdmUnsupportedRequest_kept (s : State) : NextKept s (execSpdmUnsupportedRequest s) :=
  ⟨_, rfl, s.spdmAnswer_mem _ _ rfl⟩
theorem execGetCertificate_kept (slot off len : Nat) (s : State) : NextKept s (execGetCertificate slot off len s) :=
  ⟨_, rfl, s.spdmAnswer_mem _ _ (by split <;> rfl)⟩
theorem execGetMeasurements_kept (index : Nat) (signed : Bool) (transcript : Nat) (s : State) :
    NextKept s (execGetMeasurements index signed transcript s) :=
  ⟨_, rfl, s.spdmAnswer_mem _ _ (by split <;> rfl)⟩
theorem execNegotiateAlgorithms_kept (p384 sha384 : Bool) (s : State) :
    NextKept s (execNegotiateAlgorithms p384 sha384 s) :=
  ⟨_, rfl, s.spdmAnswer_mem _ _ (by split <;> rfl)⟩
theorem execSpdmChallenge_kept (slot transcript : Nat) (s : State) :
    NextKept s (execSpdmChallenge slot transcript s) :=
  ⟨_, rfl, s.spdmAnswer_mem _ _ (by split <;> rfl)⟩

end Sys2Proof.Machine

/-! PROOF. The remaining commands, and with them every step: a next state, and canonical memory in it. -/

namespace Sys2Proof.Machine

/-! ### Steps of operations that these commands share -/

section

variable {s : State}

theorem MemOk.at_ (h : MemOk s) (t : Nat) : MemOk (s.at t) := h

theorem MemOk.send (h : MemOk s) (p : Packet) : MemOk (s.send p) := h.of_mem (s.send_mem p)

theorem MemOk.raise (h : MemOk s) (code pg : Nat) : MemOk (s.raise code pg) := h.of_mem (s.raise_mem code pg)

theorem MemOk.updPart (h : MemOk s) (n : Nat) (f : Part → Part) : MemOk (s.updPart n f) := h

theorem MemOk.updPlain (h : MemOk s) (p : Nat) (f : Plain → Plain) : MemOk (s.updPlain p f) := h

theorem MemOk.updTile (h : MemOk s) (t : Nat) (f : Tile → Tile) : MemOk (s.updTile t f) := h

theorem MemOk.updRestore (h : MemOk s) (f : Restore → Restore) : MemOk (s.updRestore f) := h.of_mem (s.updRestore_mem f)

theorem MemOk.setRepair (h : MemOk s) (p : Nat) (r : Option Repair) : MemOk (s.setRepair p r) := h.of_mem (s.setRepair_mem p r)

theorem MemOk.setStream (h : MemOk s) (t d : Nat) (x : Stream) : MemOk (s.setStream t d x) := h.of_mem (s.setStream_mem t d x)

theorem MemOk.refusePacket (h : MemOk s) (i t : Nat) (k : Packet) : MemOk (s.refusePacket i t k) :=
  h.of_mem (s.refusePacket_mem i t k)

theorem MemOk.setIngr (h : MemOk s) (i : Nat) (x : Ingress) : MemOk (s.setIngr i x) := h

theorem MemKept.ite {c : Prop} [Decidable c] {a b : State} (ha : MemKept s a) (hb : MemKept s b) :
    MemKept s (if c then a else b) := by
  split
  · exact ha
  · exact hb

theorem MemKept.forEach {t : State} (h : MemKept s t) (l : List Nat) {f : State → Nat → State}
    (hf : ∀ u x, MemKept u (f u x)) : MemKept s (t.forEach l f) := (State.forEach_mem_of t l hf).trans h

end

section

variable (s : State)

/-! ### Desk, bench and the matrix unit -/

theorem execApertureAccess_ok (f b bytes : Nat) (write : Option (BitVec 64)) (ecc : Ecc) :
    NextOk s (execApertureAccess f b bytes write ecc s) := by
  refine ⟨_, rfl, fun h => ?_⟩
  have hu : MemOk (match write with
      | some _ => s
      | none => s.emit (.rdata 0)) := by
    split
    · exact h
    · exact h.emit _
  split
  · exact h
  split
  · exact hu
  · split
    · exact hu
    split
    · exact h
    split
    · exact h
    split
    · exact (h.of_mem (s.carryIn_mem ..)).routerWrite _ _ _ _ _
    · exact (h.of_mem ((State.routerRead_mem ..).trans ((State.carryOut_mem ..).trans (s.carryIn_mem ..)))).emit _

theorem execDeskRequestGrant_ok (t : Nat) (reqs : List Req) (ecc : List (Nat × Ecc)) :
    NextOk s (execDeskRequestGrant t reqs ecc s) := by
  refine ⟨_, rfl, fun h => ?_⟩
  exact (MemOk.foldl (fun _ _ hs => hs.grantAccess _ _ _) _ (h.updTile _ _)).ite h

theorem execBenchRequestGrant_ok (t : Nat) (reqs : List Req) (ecc : List (Nat × Ecc)) :
    NextOk s (execBenchRequestGrant t reqs ecc s) := by
  refine ⟨_, rfl, fun h => ?_⟩
  split
  · exact (h.updTile _ _).ite ((h.updTile _ _).grantAccess _ _ _)
  · exact h.updTile _ _

theorem execMatrixRow_ok (t i : Nat) (ecc : Ecc) : NextOk s (execMatrixRow t i ecc s) := by
  refine ⟨_, rfl, fun h => ?_⟩
  split
  · exact h
  split
  · exact h
  split
  · exact h.of_mem (s.mldwRow_mem ..)
  · exact h.of_mem (s.mmaRow_mem ..)
  · exact h
  · exact h.kept (s.mmasRow_kept ..)
  · exact (h.updTile _ _).of_mem (State.stepMop_mem ..)
  · exact (h.updTile _ _).of_mem (State.stepMop_mem ..)
  · exact h.mstaRowOut _ _ _

theorem execRowOpComplete_ok (t i : Nat) (corr : Bool) (badSrc : Option Nat) :
    NextOk s (execRowOpComplete t i corr badSrc s) := by
  refine ⟨_, rfl, fun h => ?_⟩
  split
  · exact h
  split
  · exact h
  extract_lets s1 bad v s2 s3
  have h1 : MemOk s1 := h.updTile _ _
  have h2 : MemOk s2 := h1.wrMem _ _ _
  have h3 : MemOk s3 := (h2.of_mem (s2.copyMarks_mem ..)).ite h2
  clear_value s1 bad s3
  split
  · exact (h1.of_mem (s1.noteEcc_mem ..)).raiseEcc _ _ _ _
  · exact (h3.raiseEcc _ _ _ _).ite h3

theorem execInstructionFetch_kept (t g : Nat) (ecc : List Ecc) : NextKept s (execInstructionFetch t g ecc s) := by
  refine ⟨_, rfl, (?_ : MemKept s _)⟩
  split
  · exact MemKept.refl s
  extract_lets x cur held demand ahead word marks e s1
  have h1 : MemKept s s1 := (MemKept.refl s).updTile _ _
  refine (MemKept.refl s).ite (h1.forEach _ fun u i => ?_)
  split
  · exact (MemKept.refl u).raiseTile t 1
  · exact (MemKept.refl u).noteEcc _ _ _

theorem execBenchRowReplacement_ok (t row : Nat) (lost : List Nat) : NextOk s (execBenchRowReplacement t row lost s) := by
  refine ⟨_, rfl, fun h => ?_⟩
  split
  · split
    · exact h
    extract_lets u s1 s2 bad s3 s4
    have h1 : MemOk s1 := h.updTile _ _
    have h2 : MemOk s2 := h1.updPlain _ _
    have h3 : MemOk s3 := MemOk.foldl (fun _ _ hs => (hs.draw _).wrMem _ _ _) _ h2
    have h4 : MemOk s4 := h3.raise _ _
    exact (h1.of_mem (s1.fenceTile_mem t)).ite (h4.ite (h4.of_mem (s4.recordLost_mem ..)))
  · exact h

/-! ### Packets, DMA and sessions -/

theorem execWrite_ok (i : Nat) (ecc : Ecc) : NextOk s (execWrite i ecc s) := by
  refine ⟨_, rfl, fun h => ?_⟩
  have edge (k : Packet) : MemOk (match s.packetPa k with
      | (some pa, s1) => (s1.dropPacket i).edgeStore pa k.len (k.payload % 2 ^ (8 * k.len)) ecc
      | (none, s1) => s1.refusePacket i (rimTile k.loc) k) := by
    have hp : MemOk (s.packetPa k).2 := h.of_mem (s.packetPa_mem k)
    split
    · next e => exact ((e ▸ hp).dropPacket i).edgeStore _ _ _ _
    · next e => exact (e ▸ hp).refusePacket _ _ _
  split
  · exact h
  next k _ =>
  split
  · exact h
  split
  · exact h.ite ((h.refusePacket _ _ _).ite (h.ite ((h.dropPacket i).routerWrite _ _ _ _ _)))
  · exact h.ite ((h.refusePacket _ _ _).ite (edge k))
  · exact h.ite ((h.refusePacket _ _ _).ite (edge k))
  · exact h.ite ((h.refusePacket _ _ _).ite (h.controlWrite _ _ _ _))
  · exact h

theorem execMwrite_ok (i : Nat) (ecc : Ecc) : NextOk s (execMwrite i ecc s) := by
  refine ⟨_, rfl, fun h => ?_⟩
  split
  · exact h
  split
  · exact h
  split
  · dsimp only
    split
    · exact h
    · have h2 l k n (f : Nat → Packet) : MemOk (List.foldl (fun s u => s.send (f u)) ((s.dropPacket i).bump k n) l) :=
        MemOk.foldl (fun _ _ hs => hs.send _) _ ((h.dropPacket i).bump _ _)
      have h3 (c : Prop) [Decidable c] {u : State} (hu : MemOk u) (t : Nat) :
          MemOk (if c then u else (u.raiseTile t 0x1015).imgAbort 14) :=
        hu.ite (MemOk.imgAbort (hu.of_mem (u.raiseTile_mem t _)) _)
      split
      · exact (h3 _ (h2 _ _ _ _) _).leafWrite _ _ _
      · exact h3 _ (h2 _ _ _ _) _
  · exact h

theorem MemKept.dropPacket {s t : State} (h : MemKept s t) (i : Nat) : MemKept s (t.dropPacket i) :=
  (t.dropPacket_mem i).trans h

theorem MemKept.send {s t : State} (h : MemKept s t) (p : Packet) : MemKept s (t.send p) := (t.send_mem p).trans h

theorem MemKept.refusePacket {s t : State} (h : MemKept s t) (i u : Nat) (k : Packet) : MemKept s (t.refusePacket i u k) :=
  (t.refusePacket_mem i u k).trans h

theorem MemKept.edgeRead {s t : State} (h : MemKept s t) (pa n : Nat) (e : Ecc) : MemKept s (t.edgeRead pa n e).2.1 :=
  (t.edgeRead_mem pa n e).trans h

theorem MemKept.routerRead {s t : State} (h : MemKept s t) (u a n : Nat) (e : Ecc) : MemKept s (t.routerRead u a n e).2.1 :=
  (t.routerRead_mem u a n e).trans h

theorem MemKept.regRead {s t : State} (h : MemKept s t) (w : Owner) (off : Nat) : MemKept s (t.regRead w off).2 :=
  (t.regRead_mem w off).trans h

theorem execRead_kept (i : Nat) (ecc : Ecc) : NextKept s (execRead i ecc s) := by
  have h0 := MemKept.refl s
  refine ⟨_, rfl, (?_ : MemKept s _)⟩
  split
  · exact h0
  next k _ =>
  have edge : MemKept s (match s.packetPa k with
      | (some pa, s1) =>
        ((s1.edgeRead pa k.len ecc).2.1.dropPacket i).send
          (if (s1.edgeRead pa k.len ecc).2.2 then errReply k k.loc else replyTo k (s1.edgeRead pa k.len ecc).1)
      | (none, s1) => s1.refusePacket i (rimTile k.loc) k) := by
    have hp : MemKept s (s.packetPa k).2 := s.packetPa_mem k
    split
    · next e => exact (((e ▸ hp).edgeRead _ _ _).dropPacket _).send _
    · next e => exact (e ▸ hp).refusePacket _ _ _
  split
  · exact h0
  dsimp only
  split
  · exact h0.ite ((h0.refusePacket _ _ _).ite (h0.ite (((h0.routerRead _ _ _ _).dropPacket _).send _)))
  · exact h0.ite ((h0.refusePacket _ _ _).ite edge)
  · exact h0.ite ((h0.refusePacket _ _ _).ite edge)
  · refine h0.ite ?_
    split
    · exact h0.refusePacket _ _ _
    · exact ((h0.regRead _ _).dropPacket _).send _
  · exact h0

theorem execHostDmaDescriptorStart_ok (n j : Nat) (w0 w1 w2 w3 : BitVec 64) (hostData : Nat) (hostErr : Bool) (ecc : Ecc) :
    NextOk s (execHostDmaDescriptorStart n j w0 w1 w2 w3 hostData hostErr ecc s) := by
  refine ⟨_, rfl, fun h => ?_⟩
  have hm l : MemOk ((s.dmaMove n j w0.toNat w1.toNat w2.toNat w3.toNat hostData hostErr ecc).2.setDma n j l) :=
    (h.dmaMove _ _ _ _ _ _ _ _ _).of_mem (State.setDma_mem ..)
  exact h.ite (((hm _).wfs _).ite (hm _))

theorem execIngressPacket_ok (p : Nat) (d : Dgram) (from_ at_ : Nat) : NextOk s (execIngressPacket p d from_ at_ s) := by
  refine ⟨_, rfl, fun h => ?_⟩
  split
  · exact h
  split
  · exact (h.at_ _).bump _ _
  extract_lets w6 pl
  clear_value pl
  split
  · exact (h.at_ _).setIngr _ _
  · exact ((h.at_ _).setIngr _ _).sessionPacket _ _ _

theorem execFrameTimeout_kept (i at_ : Nat) : NextKept s (execFrameTimeout i at_ s) := by
  refine ⟨_, rfl, (?_ : MemKept s _)⟩
  split
  · exact MemKept.ite (State.endFrame_mem ..) (MemKept.refl s)
  · exact MemKept.refl s

theorem execPartnerSilent_kept (e at_ : Nat) : NextKept s (execPartnerSilent e at_ s) :=
  ⟨_, rfl, MemKept.ite ((State.raise_mem ..).trans (State.setEgr_mem ..)) (MemKept.refl s)⟩

theorem execStreamTransferComplete_ok (t d i : Nat) (ecc : Ecc) : NextOk s (execStreamTransferComplete t d i ecc s) := by
  refine ⟨_, rfl, fun h => ?_⟩
  split
  · exact h
  next y _ =>
  split
  · exact h
  extract_lets r s1 s2 x' s3
  have h1 : MemOk s1 := by
    unfold s1 r
    split
    · exact h
    · exact h.xferPerform _ _ _
  have h2 : MemOk s2 := (h1.ringStore _ _ _ _ _ _).ite h1
  have h3 : MemOk s3 := h2.setStream _ _ _
  exact h3.of_mem ((State.streamEnd_mem ..).trans ((State.streamSettle_mem ..).trans (State.streamRelease_mem ..)))

/-! ### Sweeps and images -/

theorem execSweepCommandEnd_ok (n : Nat) : NextOk s (execSweepCommandEnd n s) := by
  refine ⟨_, rfl, fun h => ?_⟩
  split
  · exact h
  split
  · exact h
  · next r e =>
    extract_lets s1 s2
    have h1 : MemOk s1 := (h.sweepResult _ _ e).wfs _
    have h2 : MemOk s2 := MemOk.foldl (fun _ _ hs => hs.setEng _ _) _ h1
    exact MemOk.of_mem (h2.updPart _ _) (State.irqPart_mem ..)

theorem execSweepMessagePop_ok (t : Nat) : NextOk s (execSweepMessagePop t s) := by
  refine ⟨_, rfl, fun h => ?_⟩
  split
  · exact h
  extract_lets q s1 e
  have h1 : MemOk s1 := h.of_mem (s.mem_popIn t q)
  split
  · exact h
  split
  · exact h
  split
  · extract_lets m s2
    have h2 : MemOk s2 := h1.setEng _ _
    refine MemOk.ite h1 (MemOk.ite (h1.setEng _ _) ?_)
    split
    · have h3 d : MemOk (s2.holdMsg t d m) := h2.of_mem (s2.holdMsg_mem t d m)
      exact (h3 _).ite ((h3 _).absorb _ _)
    · exact h2
  · exact h1

theorem execSweepRound_ok (t : Nat) : NextOk s (execSweepRound t s) := by
  refine ⟨_, rfl, fun h => ?_⟩
  split
  · exact h
  next n _ =>
  have h1 : MemOk (s.flushOut n t (s.eng t).outbox.length) := h.of_mem (s.flushOut_mem ..)
  split
  · exact h
  dsimp only
  split
  · exact h1
  · exact h1.ite ((h1.absorb _ _).engStep _ _ _)

theorem execImgAbort_ok (f : Nat) : NextOk s (execImgAbort f s) := ⟨_, rfl, fun h => (h.imgCmd 2).ite h⟩

theorem execImgGo_ok (f : Nat) : NextOk s (execImgGo f s) := ⟨_, rfl, fun h => (h.imgCmd 1).ite h⟩

theorem execImgLoadDone_ok : NextOk s (execImgLoadDone s) := by
  refine ⟨_, rfl, fun h => ?_⟩
  split
  · exact h.finishReloads
  extract_lets img s1 s2 s3
  have h2 : MemOk s2 := MemOk.ite (MemOk.wfs (h.of_mem (s.updChest_mem _)) _) (h.of_mem (State.coldDone_mem ..))
  have h3 : MemOk s3 := h2.of_mem (s2.setMeas_mem _)
  refine MemOk.ite h ?_
  split
  · exact h.imgAbort _
  · exact ((h3.wfs _).freeSlots).of_mem ((State.irqPage_mem ..).trans (State.loadReport_mem ..))

theorem execImgPrologueChecked_ok (p len : Nat) (started : List Nat) : NextOk s (execImgPrologueChecked p len started s) := by
  refine ⟨_, rfl, fun h => ?_⟩
  have refuse l c : MemOk ((s.wfs l).imgRefuse c) := (h.wfs l).of_mem (State.imgRefuse_mem ..)
  split
  · exact h
  split
  · exact h
  dsimp only
  split
  · exact (refuse _ _).ite ((h.wfs _).imgStart _ _ _ _)
  · exact refuse _ _

theorem execImgShardArrive_ok (i data len : Nat) (ok stored : Bool) : NextOk s (execImgShardArrive i data len ok stored s) := by
  refine ⟨_, rfl, fun h => ?_⟩
  split
  · exact h
  dsimp only
  split
  · exact h
  split
  · exact h.imgAbort _
  split
  · exact h.of_mem (s.shardBad_mem _)
  split
  · exact (h.raise _ _).imgAbort _
  · refine MemOk.loadStep (MemOk.foldl (fun _ _ hs => hs.emit _) _ (MemOk.bump ?_ _)) _ _ _
    exact h.of_mem (s.updChest_mem _)

/-! ### Repair -/

theorem execRespareCopyStep_ok (p : Nat) (lost : List LostRange) : NextOk s (execRespareCopyStep p lost s) := by
  refine ⟨_, rfl, fun h => ?_⟩
  split
  · exact h.ite ((MemOk.foldl (fun _ _ hs => hs.loseRange _) _ h).setRepair _ _)
  · exact h

theorem execRespareRefillComplete_ok (p at_ : Nat) : NextOk s (execRespareRefillComplete p at_ s) := by
  refine ⟨_, rfl, fun h => ?_⟩
  split
  · exact (h.at_ _).ite ((MemOk.foldl (fun _ _ hs => hs.refillOne _ _) _ (h.at_ _)).setRepair _ _)
  · exact h.at_ _

/-! ### Registers, restarts and power -/

theorem execRegisterWrite_ok (f off : Nat) (v : BitVec 64) : NextOk s (execRegisterWrite f off v s) :=
  ⟨_, rfl, fun h => h.hostWrite _ _ _⟩

theorem execStagedFieldWrite_ok (f off : Nat) (v : BitVec 64) : NextOk s (execStagedFieldWrite f off v s) := by
  refine ⟨_, rfl, fun h => ?_⟩
  split
  · exact (h.hostWrite _ _ _).ite h
  · exact h

theorem execModuleResetWrite_ok (v : BitVec 64) (at_ : Nat) : NextOk s (execModuleResetWrite v at_ s) :=
  ⟨_, rfl, fun h => ((h.at_ at_).moduleReset 2).ite (h.at_ at_)⟩

theorem execPerstAssert_ok (at_ : Nat) : NextOk s (execPerstAssert at_ s) :=
  ⟨_, rfl, fun h => MemOk.ite h (MemOk.moduleReset (s := { s.at at_ with pcie := { (s.at at_).pcie with perst := true } }) h 1)⟩

theorem execIdleHoldExitComplete_ok (at_ : Nat) : NextOk s (execIdleHoldExitComplete at_ s) := by
  refine ⟨_, rfl, fun h => MemOk.ite h (MemOk.foldl (fun _ _ hs => hs.runDeferred _) _ ?_)⟩
  exact MemOk.of_mem ((h.at_ at_).updKeeper _) (State.setPwr_mem _)

theorem execKeeperLockstepError_ok (at_ : Nat) : NextOk s (execKeeperLockstepError at_ s) :=
  ⟨_, rfl, fun h => (h.at_ at_).ite (((h.at_ at_).keeperDown false).raise _ _)⟩

theorem execKeeperWatchdogExpiry_ok (at_ : Nat) : NextOk s (execKeeperWatchdogExpiry at_ s) :=
  ⟨_, rfl, fun h => (h.at_ at_).ite ((((h.at_ at_).bump _).keeperDown true).raise _ _)⟩

theorem execPackFault_ok : NextOk s (execPackFault s) := ⟨_, rfl, fun h => (h.updKeeper _).packFault.ite h⟩

theorem execPackLatchOpen_ok : NextOk s (execPackLatchOpen s) := ⟨_, rfl, fun h => (h.updKeeper _).packFault.ite (h.updKeeper _)⟩

theorem execPackEnergyExhausted_ok (at_ : Nat) : NextOk s (execPackEnergyExhausted at_ s) :=
  ⟨_, rfl, fun h => MemOk.tear.ite (h.at_ at_)⟩

theorem MemOk.measure {s : State} (h : MemOk s) (mv : Nat) : MemOk (s.measure mv) := h.of_mem (s.measure_mem mv)

theorem execPowerFail_ok (mv at_ : Nat) : NextOk s (execPowerFail mv at_ s) :=
  ⟨_, rfl, fun h => (h.at_ at_).ite (((h.at_ at_).measure mv).ite ((h.at_ at_).measure mv).powerFail)⟩

theorem execOvervoltIsolate_ok (mv at_ : Nat) : NextOk s (execOvervoltIsolate mv at_ s) :=
  ⟨_, rfl, fun h => (h.at_ at_).ite (((h.at_ at_).measure mv).ite ((h.at_ at_).measure mv).powerFail)⟩

theorem execPassTrainingComplete_kept (at_ : Nat) : NextKept s (execPassTrainingComplete at_ s) := by
  refine ⟨_, rfl, ?_⟩
  split
  · rfl
  · exact (State.updKeeper_mem _ _).trans ((State.forEach_mem_of _ _ fun u p =>
      ((u.wf (MESH_ROUND_COUNT p) 0).updPlain_mem p _).trans (u.wf_mem _ _)).trans (s.at_mem at_))

theorem execPlainGroupPowerUp_kept (g : Nat) (fails : List Nat) (at_ : Nat) :
    NextKept s (execPlainGroupPowerUp g fails at_ s) := by
  refine ⟨_, rfl, ?_⟩
  split
  · rfl
  · refine (State.forEach_mem_of _ _ fun s p => s.doFence_mem p 3).trans ((State.updKeeper_mem ..).trans ?_)
    exact State.forEach_mem_of _ _ fun s p => s.wf_mem _ _

theorem execKFieldsLoaded_kept (at_ : Nat) : NextKept s (execKFieldsLoaded at_ s) := by
  refine ⟨_, rfl, ?_⟩
  split
  · rfl
  · exact (State.setCharging_mem _).trans ((State.updKeeper_mem ..).trans (foldl_mem (fun s pg => s.loadPage_mem pg) _ _))

theorem execModuleReady_ok (rtc at_ : Nat) : NextOk s (execModuleReady rtc at_ s) := by
  refine ⟨_, rfl, fun h => ?_⟩
  split
  · exact h
  split
  · exact h
  extract_lets k s1 s2 _ s3
  have h1 : MemOk s1 := by
    unfold s1
    refine MemOk.of_mem (s := s.at at_) h ?_
    rw [State.wks_mem, State.wf_mem, State.setReady_mem]
  have h2 : MemOk s2 := MemOk.foldl (fun _ _ hs => hs.emit _) _ h1
  have h3 : MemOk s3 := h2
  split
  · exact MemOk.foldl (fun _ _ hs => hs.fromHome _) _ h3
  split
  · split
    · exact h3.of_mem (State.restoreBegin_mem ..)
    · exact h3.freeSlots
  · exact h3.freeSlots

theorem execKeepRecount_kept (n : Nat) : NextKept s (execKeepRecount n s) := by
  refine ⟨_, rfl, ?_⟩
  split
  · rfl
  extract_lets l s1 s2
  have h1 : s1.mem = s.mem := s.updPart_mem n _
  clear_value s1
  have h2 : s2.mem = s1.mem := foldl_mem (fun s x => s.updTile_mem x.1 _) l s1
  clear_value s2
  split
  · exact (State.raise_mem _ _ _).trans ((State.irqPart_mem _ _ _).trans ((s2.wf_mem _ _).trans (h2.trans h1)))
  · exact h2.trans h1

/-! ### Backup, retention and restore -/

theorem execBackupFreezeComplete_kept (at_ : Nat) : NextKept s (execBackupFreezeComplete at_ s) := by
  refine ⟨_, rfl, ?_⟩
  split
  · rfl
  split
  · rfl
  dsimp only
  rw [State.setSeq_mem, State.updKeeper_mem, State.capture_mem]
  exact foldl_mem (fun s t => s.updTile_mem t _) _ _

theorem execBackupHeld_kept (at_ : Nat) : NextKept s (execBackupHeld at_ s) := by
  refine ⟨_, rfl, ?_⟩
  split
  · rfl
  split
  · rfl
  · dsimp only
    rw [State.setPwr_mem, State.updKeeper_mem]
    exact (State.forEach_mem_of _ _ fun s p => s.wf_mem _ _).trans (State.forEach_mem_of _ _ fun s p => s.wf_mem _ _)

theorem execBackupOpenRecord_ok (at_ : Nat) : NextOk s (execBackupOpenRecord at_ s) := by
  refine ⟨_, rfl, fun h => ?_⟩
  split
  · exact h
  split
  · exact h
  split
  · exact MemOk.powerOff
  · refine MemOk.of_mem (h.at_ at_) ?_
    dsimp only
    split <;> simp

theorem execBackupCommit_ok (energy at_ : Nat) : NextOk s (execBackupCommit energy at_ s) := by
  refine ⟨_, rfl, fun h => ?_⟩
  split
  · exact h
  split
  · exact h
  · exact (MemOk.moduleRestart 4).ite MemOk.powerOff

theorem execBenchRetainEntered_ok (at_ : Nat) : NextOk s (execBenchRetainEntered at_ s) := by
  refine ⟨_, rfl, fun h => ?_⟩
  split
  · exact h
  extract_lets s1 k b s2 s3
  have h1 : MemOk s1 := MemOk.foldl (fun _ _ hs => hs.toHome _) _ h
  have h2 : MemOk s2 := Memory.wf_filter _ h1
  have h3 : MemOk s3 := ((h2.ite (h2.of_mem s2.measChange_mem)).freeSlots).of_mem (State.setPwr_mem _)
  split
  · exact h3.of_mem (State.benchExit_mem ..)
  · exact h3

theorem execRestorePhaseComplete_ok (phase n : Nat) (lost : List Nat) (rebuilt at_ : Nat) :
    NextOk s (execRestorePhaseComplete phase n lost rebuilt at_ s) := by
  refine ⟨_, rfl, fun h => ?_⟩
  have h1 : MemOk ((s.at at_).bump KEEP_REBUILT_COUNT rebuilt) := (h.at_ at_).bump _ _
  split
  · exact h
  dsimp only
  split
  · refine MemOk.ite h ((h1.systemLost _).ite (MemOk.updRestore ?_ _))
    exact h1.of_mem (State.putSystem_mem ..)
  · exact MemOk.ite h ((h1.putRegions _ _).updRestore _)
  · exact MemOk.ite h ((h1.putImage _ _).updRestore _)
  · exact MemOk.ite h ((h1.putHandles _ _ _).updRestore _)
  · exact h

theorem execRestoreExit_ok (energy at_ : Nat) : NextOk s (execRestoreExit energy at_ s) := by
  refine ⟨_, rfl, fun h => ?_⟩
  split
  · exact h
  split
  · exact h
  extract_lets warm s1 s2 s3
  have h1 : MemOk s1 := MemOk.foldl (fun s n hs => hs.of_mem (s.exitWarm_mem n _)) _ h
  have h2 : MemOk s2 := MemOk.foldl (fun s n hs => hs.of_mem (s.stopPart_mem n)) _ h1
  have h3 : MemOk s3 := h2.of_mem (State.wks_mem ..)
  exact MemOk.endHold (h3.of_mem (by simp))

end

end Sys2Proof.Machine

/-! PROOF. Every command, and so every step: a next state, with canonical memory where memory was canonical before. -/

namespace Sys2Proof.Machine

/-- Every command answers a next state, whose memory is canonical where the one that it met was. -/
theorem exec_ok (i : Instr) (s : State) : NextOk s (exec i s) := by
  cases i with
  | registerWrite f off v => exact execRegisterWrite_ok s f off v
  | rcRegisterRead f off => exact (execRcRegisterRead_kept f off s).ok
  | misalignedRegisterAccess f off bytes write => exact (execMisalignedRegisterAccess_kept f off bytes write s).ok
  | cntFreezeWrite f page v => exact (execCntFreezeWrite_kept f page v s).ok
  | sriovNumvfsWrite n msix => exact (execSriovNumvfsWrite_kept n msix s).ok
  | apertureAccess f b bytes write ecc => exact execApertureAccess_ok s f b bytes write ecc
  | apertureWrite f part v => exact (execApertureWrite_kept f part v s).ok
  | vfFunctionLevelReset k => exact (execVfFunctionLevelReset_kept k s).ok
  | managementReset => exact (execManagementReset_kept s).ok
  | start f n => exact (execStart_kept f n s).ok
  | stop f n => exact (execStop_kept f n s).ok
  | drain f n => exact (execDrain_kept f n s).ok
  | resume f n => exact (execResume_kept f n s).ok
  | pause f n => exact (execPause_kept f n s).ok
  | partitionReset f n => exact (execPartitionReset_kept f n s).ok
  | partitionResetComplete n => exact (execPartitionResetComplete_kept n s).ok
  | drainComplete n => exact (execDrainComplete_kept n s).ok
  | drainTimeout n at_ => exact (execDrainTimeout_kept n at_ s).ok
  | stagedFieldWrite f off v => exact execStagedFieldWrite_ok s f off v
  | commit f page v => exact (execCommit_kept f page v s).ok
  | discard f page v => exact (execDiscard_kept f page v s).ok
  | seamApplyComplete n g => exact (execSeamApplyComplete_kept n g s).ok
  | latchAcquire who k => exact (execLatchAcquire_kept who k s).ok
  | latchRelease who k => exact (execLatchRelease_kept who k s).ok
  | latchForce who k => exact (execLatchForce_kept who k s).ok
  | moduleResetWrite v at_ => exact execModuleResetWrite_ok s v at_
  | perstAssert at_ => exact execPerstAssert_ok s at_
  | perstRelease at_ => exact (execPerstRelease_kept at_ s).ok
  | pcieLinkL0 speed width flit at_ => exact (execPcieLinkL0_kept speed width flit at_ s).ok
  | passCrcFailure p edge link dir plane rim bad at_ => exact (execPassCrcFailure_kept p edge link dir plane rim bad at_ s).ok
  | laneReplacement p => exact (execLaneReplacement_kept p s).ok
  | hardwareFaultDetect t unit => exact (execHardwareFaultDetect_kept t unit s).ok
  | respareMapComputed p => exact (execRespareMapComputed_kept p s).ok
  | plainQuiesced p at_ => exact (execPlainQuiesced_kept p at_ s).ok
  | respareIntentProgrammed p => exact (execRespareIntentProgrammed_kept p s).ok
  | respareCopyStep p lost => exact execRespareCopyStep_ok s p lost
  | respareRefillComplete p at_ => exact execRespareRefillComplete_ok s p at_
  | plainResume p at_ => exact (execPlainResume_kept p at_ s).ok
  | respareCommitProgrammed p => exact (execRespareCommitProgrammed_kept p s).ok
  | respare f p x y => exact (execRespare_kept f p x y s).ok
  | retireRow f p y => exact (execRetireRow_kept f p y s).ok
  | retest f p x y => exact (execRetest_kept f p x y s).ok
  | retestComplete p pass => exact (execRetestComplete_kept p pass s).ok
  | computeFence f p => exact (execComputeFence_kept f p s).ok
  | fullFence f p => exact (execFullFence_kept f p s).ok
  | unfence f p => exact (execUnfence_kept f p s).ok
  | laneRespare f p edge link dir plane group lane => exact (execLaneRespare_kept f p edge link dir plane group lane s).ok
  | instructionFetch t g ecc => exact (execInstructionFetch_kept s t g ecc).ok
  | taskDispatch t => exact (execTaskDispatch_kept t s).ok
  | taskUnblock t k => exact (execTaskUnblock_kept t k s).ok
  | taskEnableWrite t k en => exact (execTaskEnableWrite_kept t k en s).ok
  | tileRunWrite t run => exact (execTileRunWrite_kept t run s).ok
  | illegalInstruction t w => exact (execIllegalInstruction_kept t w s).ok
  | add t g a => exact (execAdd_kept t g a s).ok
  | sub t g a => exact (execSub_kept t g a s).ok
  | mul t g a => exact (execMul_kept t g a s).ok
  | mulh t g a => exact (execMulh_kept t g a s).ok
  | and t g a => exact (execAnd_kept t g a s).ok
  | or t g a => exact (execOr_kept t g a s).ok
  | xor t g a => exact (execXor_kept t g a s).ok
  | andn t g a => exact (execAndn_kept t g a s).ok
  | shl t g a => exact (execShl_kept t g a s).ok
  | shr t g a => exact (execShr_kept t g a s).ok
  | min t g a => exact (execMin_kept t g a s).ok
  | max t g a => exact (execMax_kept t g a s).ok
  | abs t g a => exact (execAbs_kept t g a s).ok
  | mov t g a => exact (execMov_kept t g a s).ok
  | adds t g a => exact (execAdds_kept t g a s).ok
  | subs t g a => exact (execSubs_kept t g a s).ok
  | fadd t g a => exact (execFadd_kept t g a s).ok
  | fsub t g a => exact (execFsub_kept t g a s).ok
  | fmul t g a => exact (execFmul_kept t g a s).ok
  | fma t g a => exact (execFma_kept t g a s).ok
  | fmin t g a => exact (execFmin_kept t g a s).ok
  | fmax t g a => exact (execFmax_kept t g a s).ok
  | fneg t g a => exact (execFneg_kept t g a s).ok
  | fabs t g a => exact (execFabs_kept t g a s).ok
  | cmpeq t g a => exact (execCmpeq_kept t g a s).ok
  | cmpne t g a => exact (execCmpne_kept t g a s).ok
  | cmplt t g a => exact (execCmplt_kept t g a s).ok
  | cmple t g a => exact (execCmple_kept t g a s).ok
  | sel t g a => exact (execSel_kept t g a s).ok
  | cvt t g a => exact (execCvt_kept t g a s).ok
  | redadd t g a => exact (execRedadd_kept t g a s).ok
  | redmax t g a => exact (execRedmax_kept t g a s).ok
  | vbcast t g a => exact (execVbcast_kept t g a s).ok
  | vext t g a => exact (execVext_kept t g a s).ok
  | vins t g a => exact (execVins_kept t g a s).ok
  | pand t g a => exact (execPand_kept t g a s).ok
  | por t g a => exact (execPor_kept t g a s).ok
  | pxor t g a => exact (execPxor_kept t g a s).ok
  | pnot t g a => exact (execPnot_kept t g a s).ok
  | pfroms t g a => exact (execPfroms_kept t g a s).ok
  | sfromp t g a => exact (execSfromp_kept t g a s).ok
  | ld t g a ecc => exact (execLd_kept t g a ecc s).ok
  | st t g a ecc => exact execSt_ok t g a ecc s
  | put t g a => exact (execPut_kept t g a s).ok
  | get t g a => exact (execGet_kept t g a s).ok
  | pops t g a => exact (execPops_kept t g a s).ok
  | popv t g a => exact (execPopv_kept t g a s).ok
  | popd t g a => exact execPopd_ok t g a s
  | skip t g a => exact (execSkip_kept t g a s).ok
  | pushs t g a => exact (execPushs_kept t g a s).ok
  | pushv t g a => exact (execPushv_kept t g a s).ok
  | pushd t g a ecc => exact (execPushd_kept t g a ecc s).ok
  | qcnt t g a => exact (execQcnt_kept t g a s).ok
  | mldw t g a => exact (execMldw_kept t g a s).ok
  | mma t g a => exact (execMma_kept t g a s).ok
  | mmag t g a => exact (execMmag_kept t g a s).ok
  | mmas t g a => exact (execMmas_kept t g a s).ok
  | mza t g a => exact (execMza_kept t g a s).ok
  | mwra t g a => exact (execMwra_kept t g a s).ok
  | msta t g a => exact (execMsta_kept t g a s).ok
  | mrda t g a => exact (execMrda_kept t g a s).ok
  | matrixOpStart t n => exact (execMatrixOpStart_kept t n s).ok
  | matrixRow t ix ecc => exact execMatrixRow_ok s t ix ecc
  | mmagRow t => exact (execMmagRow_kept t s).ok
  | matrixOpComplete t => exact (execMatrixOpComplete_kept t s).ok
  | mmasRowPush t => exact (execMmasRowPush_kept t s).ok
  | nop t g a => exact (execNop_kept t g a s).ok
  | tend t g a => exact (execTend_kept t g a s).ok
  | tyield t g a => exact (execTyield_kept t g a s).ok
  | loop t g a => exact (execLoop_kept t g a s).ok
  | lend t g a => exact (execLend_kept t g a s).ok
  | jmp t g a => exact (execJmp_kept t g a s).ok
  | rdid t g a => exact (execRdid_kept t g a s).ok
  | rdcyc t g a => exact (execRdcyc_kept t g a s).ok
  | haddr t g a => exact (execHaddr_kept t g a s).ok
  | hgen t g a => exact (execHgen_kept t g a s).ok
  | sstart t g a => exact (execSstart_kept t g a s).ok
  | sstop t g a => exact (execSstop_kept t g a s).ok
  | sstat t g a => exact (execSstat_kept t g a s).ok
  | row t g a => exact (execRow_kept t g a s).ok
  | rowOpComplete t ix corr badSrc => exact execRowOpComplete_ok s t ix corr badSrc
  | deskRequestGrant t reqs ecc => exact execDeskRequestGrant_ok s t reqs ecc
  | benchRequestGrant t reqs ecc => exact execBenchRequestGrant_ok s t reqs ecc
  | deskScrub t ecc => exact (execDeskScrub_kept t ecc s).ok
  | benchRefreshStep t => exact (execBenchRefreshStep_kept t s).ok
  | refreshIntervalHalve p temp => exact (execRefreshIntervalHalve_kept p temp s).ok
  | refreshIntervalRestore p temp => exact (execRefreshIntervalRestore_kept p temp s).ok
  | benchRowReplacement t row lost => exact execBenchRowReplacement_ok s t row lost
  | edgePatrolScrub ces ues => exact (execEdgePatrolScrub_kept ces ues s).ok
  | peptEntryWrite f n v => exact (execPeptEntryWrite_kept f n v s).ok
  | pageIn f n v => exact (execPageIn_kept f n v s).ok
  | edgeWindowWrite n v => exact (execEdgeWindowWrite_kept n v s).ok
  | meshEpochTick p => exact (execMeshEpochTick_kept p s).ok
  | bankSettlingEnd p => exact (execBankSettlingEnd_kept p s).ok
  | slotTableWrite t b o ix v => exact (execSlotTableWrite_kept t b o ix v s).ok
  | qbindWrite t k v => exact (execQbindWrite_kept t k v s).ok
  | circuitFlitInject t k slot bf16 => exact (execCircuitFlitInject_kept t k slot bf16 s).ok
  | circuitFlitForward ix => exact (execCircuitFlitForward_kept ix s).ok
  | circuitFlitDeliver ix => exact (execCircuitFlitDeliver_kept ix s).ok
  | creditReturn t k => exact (execCreditReturn_kept t k s).ok
  | packetHop ix dir => exact (execPacketHop_kept ix dir s).ok
  | packetEscape ix => exact (execPacketEscape_kept ix s).ok
  | write ix ecc => exact execWrite_ok s ix ecc
  | read ix ecc => exact (execRead_kept s ix ecc).ok
  | resp ix => exact (execResp_kept ix s).ok
  | packetQpush ix => exact (execPacketQpush_kept ix s).ok
  | mwrite ix ecc => exact execMwrite_ok s ix ecc
  | detourTableLoaded tree => exact (execDetourTableLoaded_kept tree s).ok
  | stallDeclare n at_ => exact (execStallDeclare_kept n at_ s).ok
  | spillRefill t k => exact (execSpillRefill_kept t k s).ok
  | spanFlitReceive p crcOk seq ack pkt => exact (execSpanFlitReceive_kept p crcOk seq ack pkt s).ok
  | spanReplayTimeout p => exact (execSpanReplayTimeout_kept p s).ok
  | spanLinkDown p => exact (execSpanLinkDown_kept p s).ok
  | spanLinkUp p lanes peer => exact (execSpanLinkUp_kept p lanes peer s).ok
  | spanNodeWrite f v => exact (execSpanNodeWrite_kept f v s).ok
  | streamCmdStart t d => exact (execStreamCmdStart_kept t d s).ok
  | streamCmdStop t d => exact (execStreamCmdStop_kept t d s).ok
  | streamIndexPop t d => exact (execStreamIndexPop_kept t d s).ok
  | streamTransferIssue t d ecc at_ => exact (execStreamTransferIssue_kept t d ecc at_ s).ok
  | streamTransferComplete t d ix ecc => exact execStreamTransferComplete_ok s t d ix ecc
  | streamRingNotify t d => exact (execStreamRingNotify_kept t d s).ok
  | streamRingCredit t d => exact (execStreamRingCredit_kept t d s).ok
  | streamHaltPost t d at_ => exact (execStreamHaltPost_kept t d at_ s).ok
  | haltPop f n => exact (execHaltPop_kept f n s).ok
  | pstrResume f n v at_ => exact (execPstrResume_kept f n v at_ s).ok
  | streamResume t d at_ => exact (execStreamResume_kept t d at_ s).ok
  | streamHaltTimeout t d at_ => exact (execStreamHaltTimeout_kept t d at_ s).ok
  | pqTailWrite f n j v => exact (execPqTailWrite_kept f n j v s).ok
  | pqQcfgWrite f n j v => exact (execPqQcfgWrite_kept f n j v s).ok
  | hostDmaDescriptorStart n j w0 w1 w2 w3 hostData hostErr ecc => exact execHostDmaDescriptorStart_ok s n j w0 w1 w2 w3 hostData hostErr ecc
  | hostDmaNotify n j ix => exact (execHostDmaNotify_kept n j ix s).ok
  | hostDmaWriteback n j => exact (execHostDmaWriteback_kept n j s).ok
  | dilate f n => exact (execDilate_kept f n s).ok
  | init f n => exact (execInit_kept f n s).ok
  | run f n => exact (execRun_kept f n s).ok
  | repair f n => exact (execRepair_kept f n s).ok
  | extract f n => exact (execExtract_kept f n s).ok
  | check f n => exact (execCheck_kept f n s).ok
  | abort f n => exact (execAbort_kept f n s).ok
  | sweepMessagePop t => exact execSweepMessagePop_ok s t
  | sweepRound t => exact execSweepRound_ok s t
  | sweepCommandEnd n => exact execSweepCommandEnd_ok s n
  | imgGo f => exact execImgGo_ok s f
  | imgAbort f => exact execImgAbort_ok s f
  | imgPrologueChecked p len started => exact execImgPrologueChecked_ok s p len started
  | imgShardArrive ix data len ok stored => exact execImgShardArrive_ok s ix data len ok stored
  | nvmeReadTimeout ix => exact (execNvmeReadTimeout_kept ix s).ok
  | nvmeConnectFail => exact (execNvmeConnectFail_kept s).ok
  | imgLoadDone => exact execImgLoadDone_ok s
  | imgResendRequest m ix => exact (execImgResendRequest_kept m ix s).ok
  | imgPeerReport m ok => exact (execImgPeerReport_kept m ok s).ok
  | ptpMessageReceive port head offset state rate at_ => exact (execPtpMessageReceive_kept port head offset state rate at_ s).ok
  | ptpHoldoverEntry at_ => exact (execPtpHoldoverEntry_kept at_ s).ok
  | timebaseEdge edges stable at_ => exact (execTimebaseEdge_kept edges stable at_ s).ok
  | indexPulse z stable at_ => exact (execIndexPulse_kept z stable at_ s).ok
  | historySample at_ => exact (execHistorySample_kept at_ s).ok
  | encoderLoss b at_ => exact (execEncoderLoss_kept b at_ s).ok
  | coastExpiry b at_ => exact (execCoastExpiry_kept b at_ s).ok
  | timetableService n at_ => exact (execTimetableService_kept n at_ s).ok
  | triggerPulseStart n e item at_ => exact (execTriggerPulseStart_kept n e item at_ s).ok
  | triggerPulseEnd o at_ => exact (execTriggerPulseEnd_kept o at_ s).ok
  | rearm f n v => exact (execRearm_kept f n v s).ok
  | queryTime f v => exact (execQueryTime_kept f v s).ok
  | adjust f b v => exact (execAdjust_kept f b v s).ok
  | ethFrameReceive p bytes k fcsOk fecFixed fecBad => exact (execEthFrameReceive_kept p bytes k fcsOk fecFixed fecBad s).ok
  | ethLinkChange p up lanes => exact (execEthLinkChange_kept p up lanes s).ok
  | prtModeWrite f p v => exact (execPrtModeWrite_kept f p v s).ok
  | ingressPacket p d from_ at_ => exact execIngressPacket_ok s p d from_ at_
  | ledgerSubmit ix ecc => exact (execLedgerSubmit_kept ix ecc s).ok
  | ledgerAccept n at_ => exact (execLedgerAccept_kept n at_ s).ok
  | partnerSilent e at_ => exact (execPartnerSilent_kept s e at_).ok
  | frameTimeout i at_ => exact (execFrameTimeout_kept s i at_).ok
  | ldpSend e at_ => exact (execLdpSend_kept e at_ s).ok
  | ldpAck e port srcIp srcUdp dstUdp len data => exact (execLdpAck_kept e port srcIp srcUdp dstUdp len data s).ok
  | ldpRetransmitTimeout e seq at_ => exact (execLdpRetransmitTimeout_kept e seq at_ s).ok
  | shaperRefill at_ => exact (execShaperRefill_kept at_ s).ok
  | shaperRateWrite f e v => exact (execShaperRateWrite_kept f e v s).ok
  | shaperBurstWrite f e v => exact (execShaperBurstWrite_kept f e v s).ok
  | forgive f v => exact (execForgive_kept f v s).ok
  | ledgerPoolWrite f v => exact (execLedgerPoolWrite_kept f v s).ok
  | ledgerCapacityWrite f n v => exact (execLedgerCapacityWrite_kept f n v s).ok
  | supplyLow mv at_ => exact (execSupplyLow_kept mv at_ s).ok
  | supplyLowEnd mv at_ => exact (execSupplyLowEnd_kept mv at_ s).ok
  | powerFail mv at_ => exact execPowerFail_ok s mv at_
  | overvolt mv at_ => exact (execOvervolt_kept mv at_ s).ok
  | overvoltEnd mv at_ => exact (execOvervoltEnd_kept mv at_ s).ok
  | overvoltIsolate mv at_ => exact execOvervoltIsolate_ok s mv at_
  | supplyRestored mv at_ => exact (execSupplyRestored_kept mv at_ s).ok
  | droopStepUp p mv at_ => exact (execDroopStepUp_kept p mv at_ s).ok
  | droopStepDown p mv at_ => exact (execDroopStepDown_kept p mv at_ s).ok
  | plainDroop p at_ => exact (execPlainDroop_kept p at_ s).ok
  | pwrCtrlWrite f v => exact (execPwrCtrlWrite_kept f v s).ok
  | armEvaluate energy est at_ => exact (execArmEvaluate_kept energy est at_ s).ok
  | packCapacityMeasure cap at_ => exact (execPackCapacityMeasure_kept cap at_ s).ok
  | packFault => exact execPackFault_ok s
  | packLatchOpen => exact execPackLatchOpen_ok s
  | keepRecount n => exact (execKeepRecount_kept s n).ok
  | backupFreezeComplete at_ => exact (execBackupFreezeComplete_kept s at_).ok
  | backupHeld at_ => exact (execBackupHeld_kept s at_).ok
  | backupOpenRecord at_ => exact execBackupOpenRecord_ok s at_
  | backupWriteComplete fails at_ => exact (execBackupWriteComplete_kept fails at_ s).ok
  | backupCommit energy at_ => exact execBackupCommit_ok s energy at_
  | packEnergyExhausted at_ => exact execPackEnergyExhausted_ok s at_
  | restorePhaseComplete phase n lost rebuilt at_ => exact execRestorePhaseComplete_ok s phase n lost rebuilt at_
  | restoreExit energy at_ => exact execRestoreExit_ok s energy at_
  | chstRelease f v => exact (execChstRelease_kept f v s).ok
  | chestUtailWrite f v => exact (execChestUtailWrite_kept f v s).ok
  | chestUcfgWrite f v => exact (execChestUcfgWrite_kept f v s).ok
  | chestErase w0 w1 w2 w3 pass => exact (execChestErase_kept w0 w1 w2 w3 pass s).ok
  | chestProgram w0 w1 w2 w3 data hostErr pass => exact (execChestProgram_kept w0 w1 w2 w3 data hostErr pass s).ok
  | chestRead w0 w1 w2 w3 step corrected bits_ hostErr => exact (execChestRead_kept w0 w1 w2 w3 step corrected bits_ hostErr s).ok
  | chestInfo w0 w1 w2 w3 hostErr => exact (execChestInfo_kept w0 w1 w2 w3 hostErr s).ok
  | chestWriteback => exact (execChestWriteback_kept s).ok
  | chestBackgroundEraseComplete image k fails stripes => exact (execChestBackgroundEraseComplete_kept image k fails stripes s).ok
  | chestRefreshRewrite steps corrected => exact (execChestRefreshRewrite_kept steps corrected s).ok
  | chestZoneWrite f v clash => exact (execChestZoneWrite_kept f v clash s).ok
  | fwUpdate f => exact (execFwUpdate_kept f s).ok
  | fwUpdateStepComplete pro len ok => exact (execFwUpdateStepComplete_kept pro len ok s).ok
  | fwRestart f => exact (execFwRestart_kept f s).ok
  | fwTrialConfirm at_ => exact (execFwTrialConfirm_kept at_ s).ok
  | keeperWatchdogExpiry at_ => exact execKeeperWatchdogExpiry_ok s at_
  | keeperLockstepError at_ => exact execKeeperLockstepError_ok s at_
  | keeperUp ok0 ok1 unwrap copyA copyB at_ => exact (execKeeperUp_kept ok0 ok1 unwrap copyA copyB at_ s).ok
  | faultClear f page => exact (execFaultClear_kept f page s).ok
  | faultReactWrite f page v => exact (execFaultReactWrite_kept f page v s).ok
  | faultOverrideWrite f v => exact (execFaultOverrideWrite_kept f v s).ok
  | partitionRecovery n at_ => exact (execPartitionRecovery_kept n at_ s).ok
  | stickyClear f n => exact (execStickyClear_kept f n s).ok
  | haltedClear f => exact (execHaltedClear_kept f s).ok
  | coldStart mv rtc at_ => exact (execColdStart_kept mv rtc at_ s).ok
  | controlBlockUp r => exact (execControlBlockUp_kept r s).ok
  | plainGroupPowerUp g fails at_ => exact (execPlainGroupPowerUp_kept s g fails at_).ok
  | passTrainingComplete at_ => exact (execPassTrainingComplete_kept s at_).ok
  | edgeTrainingComplete fails at_ => exact (execEdgeTrainingComplete_kept fails at_ s).ok
  | kFieldsLoaded at_ => exact (execKFieldsLoaded_kept s at_).ok
  | moduleReady rtc at_ => exact execModuleReady_ok s rtc at_
  | idleHoldRequest f => exact (execIdleHoldRequest_kept f s).ok
  | benchRetainRequest f key => exact (execBenchRetainRequest_kept f key s).ok
  | runRequest f at_ => exact (execRunRequest_kept f at_ s).ok
  | benchRetainEntered at_ => exact execBenchRetainEntered_ok s at_
  | idleHoldExitComplete at_ => exact execIdleHoldExitComplete_ok s at_
  | doeDiscovery index => exact (execDoeDiscovery_kept index s).ok
  | getVersion => exact (execGetVersion_kept s).ok
  | getCapabilities => exact (execGetCapabilities_kept s).ok
  | negotiateAlgorithms p384 sha384 => exact (execNegotiateAlgorithms_kept p384 sha384 s).ok
  | getDigests => exact (execGetDigests_kept s).ok
  | getCertificate slot off len => exact (execGetCertificate_kept slot off len s).ok
  | spdmChallenge slot transcript => exact (execSpdmChallenge_kept slot transcript s).ok
  | getMeasurements index signed transcript => exact (execGetMeasurements_kept index signed transcript s).ok
  | spdmUnsupportedRequest => exact (execSpdmUnsupportedRequest_kept s).ok
  | rekey f v => exact (execRekey_kept f v s).ok
  | rekeyComplete at_ => exact (execRekeyComplete_kept at_ s).ok
  | imgkeyProgram f slot => exact (execImgkeyProgram_kept f slot s).ok
  | imgkeyRevoke f slot key => exact (execImgkeyRevoke_kept f slot key s).ok
  | jtagChallenge f at_ => exact (execJtagChallenge_kept f at_ s).ok
  | jtagVerify f scope at_ => exact (execJtagVerify_kept f scope at_ s).ok
  | jtagRelock f => exact (execJtagRelock_kept f s).ok
  | jtagNonceExpiry at_ => exact (execJtagNonceExpiry_kept at_ s).ok
  | rxFaultDetect ix vid vcm at_ => exact (execRxFaultDetect_kept ix vid vcm at_ s).ok
  | rxFaultClear ix vid vcm at_ => exact (execRxFaultClear_kept ix vid vcm at_ s).ok
  | thermalWarn p temp at_ => exact (execThermalWarn_kept p temp at_ s).ok
  | thermalCrit p temp at_ => exact (execThermalCrit_kept p temp at_ s).ok
  | thermalHardwareTrip p temp at_ => exact (execThermalHardwareTrip_kept p temp at_ s).ok
  | coolantFlow flow inlet outlet drop at_ => exact (execCoolantFlow_kept flow inlet outlet drop at_ s).ok
  | coolantTemp flow inlet outlet drop at_ => exact (execCoolantTemp_kept flow inlet outlet drop at_ s).ok
  | thermalFaultClear p temp flow inlet outlet drop at_ => exact (execThermalFaultClear_kept p temp flow inlet outlet drop at_ s).ok
  | smbusStatus => exact (execSmbusStatus_kept s).ok
  | smbusIdHash => exact (execSmbusIdHash_kept s).ok
  | smbusSupply => exact (execSmbusSupply_kept s).ok
  | smbusTemps => exact (execSmbusTemps_kept s).ok
  | smbusCoolant => exact (execSmbusCoolant_kept s).ok
  | smbusFault => exact (execSmbusFault_kept s).ok
  | smbusAlertResponse adr => exact (execSmbusAlertResponse_kept adr s).ok
  | smbusUnknownCommand code => exact (execSmbusUnknownCommand_kept code s).ok
  | supplyDipEnd lowest mv at_ => exact (execSupplyDipEnd_kept lowest mv at_ s).ok
  | packLatchClose => exact (execPackLatchClose_kept s).ok
  | vioChange present => exact (execVioChange_kept present s).ok
  | jtagTapInstruction ix trst => exact (execJtagTapInstruction_kept ix trst s).ok
  | pcieError => exact (execPcieError_kept s).ok
  | channelFail c => exact (execChannelFail_kept c s).ok
  | managementResetComplete => exact (execManagementResetComplete_kept s).ok

/-- Settles O2: every arm of the dispatch ends in a next state. -/
theorem execAnswersNext : Obligations.ExecAnswersNext := fun i s =>
  let ⟨t, ht, _⟩ := exec_ok i s
  ⟨t, ht⟩

/-- Settles O3: each command keeps the canonical form, and a tick leaves memory alone. -/
theorem memoryStaysCanonical : Obligations.MemoryStaysCanonical := by
  intro s t h hst
  unfold step at hst
  split at hst
  · next c rest _ =>
    obtain ⟨u, hu, hok⟩ := exec_ok c { s with pending := rest }
    rw [hu] at hst
    cases hst
    exact hok h
  · cases hst
    exact h.of_mem s.tick_mem

end Sys2Proof.Machine

/-! PROOF. Register fields and bytes as stores, the state at reset, the tick, and the checks of an access. -/

namespace Sys2Proof.Machine

/-! ### Register fields and bytes -/

theorem State.onlyRegs_wf (s : State) (k : Fk) (v : Nat) : OnlyRegs s (s.wf k v) [k] :=
  ⟨rfl, fun _ hj => s.rf_wf_ne v fun e => hj k List.mem_cons_self e.symm⟩

theorem State.rdMem_wrMem (s : State) (k n v : Nat) : (s.wrMem k n v).rdMem k n = v % 256 ^ n := by
  suffices h : ∀ m j, j + m = n → (s.wrMem k n v).rdMem (k + j) m = v / 256 ^ j % 256 ^ m by
    simpa using h n 0 (by omega)
  intro m
  induction m with
  | zero => intro j _; simp [State.rdMem, Nat.mod_one]
  | succ m ih =>
    intro j hj
    have hb : ((s.wrMem k n v).byte (k + j)).toNat = v / 256 ^ j % 256 := by
      rw [State.wrMem_byte, if_pos (by omega), BitVec.toNat_ofNat]
      congr 2
      rw [Nat.add_sub_cancel_left]
    rw [State.rdMem, hb, Nat.add_assoc, ih (j + 1) (by omega), pow_succ, Nat.pow_succ', Nat.mod_mul,
      Nat.div_div_eq_div_mul]

theorem State.bytesKeptBut_wrMem (s : State) (k n v : Nat) : BytesKeptBut s (s.wrMem k n v) k n := fun a ha => by
  rw [State.wrMem_byte, if_neg ha]

theorem State.tile_setTile (s : State) (t u : Nat) (x : Tile) : (s.setTile t x).tile u = if u = t then x else s.tile u := by
  unfold State.setTile State.tile
  exact sget_sset ..

theorem Tile.sreg_wsreg (x : Tile) (r q : Nat) (v : W32) (hr : r ≠ 0) :
    (x.wsreg r v).sreg q = if q = r then v else x.sreg q := by
  unfold Tile.wsreg Tile.sreg
  rw [if_neg hr]
  by_cases hq : q = r
  · simp [hq, hr]
  · simp only [sget_sset_ne _ _ _ hq, if_neg hq]

/-- Settles O5. -/
theorem storesAreStores : Obligations.StoresAreStores :=
  ⟨fun s k v => s.rf_wf_self k v, State.onlyRegs_wf, State.rdMem_wrMem, State.bytesKeptBut_wrMem, State.tile_setTile,
    Tile.sreg_zero, Tile.wsreg_zero, fun _ _ => rfl, Tile.wpred_zero, Tile.sreg_wsreg⟩

/-- Settles O4: nothing stands in the state without power, so that every field reads its Reset column. -/
theorem resetState : Obligations.ResetState := by
  exact ⟨memOk_reset, rfl, fun _ => rfl, fun _ => rfl, (by decide : ∀ p, p < 64 → keyReset (PLN_STATE_STATE p).key = 4),
    (by decide : ∀ n, n < 16 → keyReset (PART_STATE_STATE n).key = psEMPTY), rfl, rfl, rfl⟩

/-! ### The tick -/

theorem foldl_keeps_of {α σ β : Type} {f : σ → α → σ} (view : σ → β) {l : List α}
    (hf : ∀ p, ∀ x ∈ l, view (f p x) = view p) (p : σ) : view (l.foldl f p) = view p := by
  induction l generalizing p with
  | nil => rfl
  | cons x l ih => rw [List.foldl_cons, ih fun p y hy => hf p y (List.mem_cons_of_mem _ hy), hf p x List.mem_cons_self]

/-- What a tick leaves: whatever view of the state its steps for one plain and for one idle tile leave, and the times do. -/
theorem State.tick_keeps {β : Type} (view : State → β) (s : State) (htime : ∀ a b, view { s with time := a, clockAt := b } = view s)
    (hmesh : ∀ u p n v, view (u.meshTo p n v) = view u) (hstretch : ∀ u p, view (u.stretchTo p) = view u)
    (hidle : ∀ u t n, view (u.bump (TILE_IDLE_CYCLES_COUNT t) n) = view u) : view s.tick = view s := by
  unfold State.tick
  split
  · rfl
  · extract_lets n s0 m s1
    have h0 : view s0 = view s := htime _ _
    have h1 : view s1 = view s := (foldl_keeps view (fun u p => (hstretch _ p).trans (hmesh u p _ _)) _ s0).trans h0
    split
    · exact h0
    · exact (foldl_keeps view (fun u t => hidle u t _) _ s1).trans h1

theorem State.tick_time (s : State) : s.tick.time = if s.keeper.phase = 0 then s.time else s.time + 320 := by
  unfold State.tick
  split
  · rfl
  · extract_lets n s0 m s1
    have h1 : s1.time = s.time + 320 := (foldl_keeps State.time (fun u p => by
      unfold State.stretchTo
      split <;> rfl) _ s0).trans rfl
    split
    · rfl
    · exact (foldl_keeps State.time (fun u t => u.bump_time _ _) _ s1).trans h1

theorem State.tick_rf (s : State) (j : Fk) (hround : ∀ p, j.key ≠ (MESH_ROUND_COUNT p).key)
    (hgate : ∀ p, j.key ≠ (MESH_GATE_WAITS_COUNT p).key) (hstretch : ∀ p, j.key ≠ (DRP_STRETCH_US_TIME p).key)
    (hidle : ∀ t, j.key ≠ (TILE_IDLE_CYCLES_COUNT t).key) : s.tick.rf j = s.rf j := by
  refine State.tick_keeps (State.rf · j) s (fun _ _ => rfl) (fun u p n v => ?_) (fun u p => ?_) fun u t n =>
    u.rf_wf_ne _ (hidle t)
  · exact (State.rf_wf_ne _ _ (hgate p)).trans (u.rf_wf_ne _ (hround p))
  · unfold State.stretchTo
    split
    · rfl
    · exact u.rf_wf_ne _ (hstretch p)

/-- Settles O1: with no command waiting a step is a tick, which leaves every view that its steps leave. -/
theorem stepTakesFront : Obligations.StepTakesFront := by
  refine ⟨fun _ _ _ => rfl, fun s hp => ?_⟩
  have kept {β : Type} (view : State → β) (htime : ∀ a b, view { s with time := a, clockAt := b } = view s)
      (hfld : ∀ u : State, ∀ m, view { u with fld := m } = view u)
      (hpl : ∀ u : State, ∀ m, view { u with plains := m } = view u) : view s.tick = view s := by
    refine State.tick_keeps view s htime (fun u p n v => ?_) (fun u p => ?_) fun u t n => hfld u _
    · exact (hpl _ _).trans ((hfld _ _).trans (hfld u _))
    · unfold State.stretchTo
      split
      · rfl
      · exact (hpl _ _).trans (hfld u _)
  refine ⟨?_, fun h => ?_, fun h => ?_, fun a => ?_, ?_, ?_, ?_, fun n _ => ?_, fun p _ => ?_⟩
  · unfold step
    rw [hp]
  · unfold State.tick
    rw [if_pos h]
  · rw [State.tick_time, if_neg h]
  · rw [State.byte, s.tick_mem, State.byte]
  · exact (kept State.pending (fun _ _ => rfl) (fun _ _ => rfl) fun _ _ => rfl).trans hp
  · exact kept State.out (fun _ _ => rfl) (fun _ _ => rfl) fun _ _ => rfl
  · exact kept State.tiles (fun _ _ => rfl) (fun _ _ => rfl) fun _ _ => rfl
  · refine s.tick_rf (PART_STATE_STATE n) (fun p => ?_) (fun p => ?_) (fun p => ?_) fun t => ?_
    all_goals
      simp only [Fk.key, PART_STATE_STATE, MESH_ROUND_COUNT, MESH_GATE_WAITS_COUNT, DRP_STRETCH_US_TIME,
        TILE_IDLE_CYCLES_COUNT, partPage, plainPage, tilePage]
      omega
  · refine s.tick_rf (PLN_STATE_STATE p) (fun p => ?_) (fun p => ?_) (fun p => ?_) fun t => ?_
    all_goals
      simp only [Fk.key, PLN_STATE_STATE, MESH_ROUND_COUNT, MESH_GATE_WAITS_COUNT, DRP_STRETCH_US_TIME,
        TILE_IDLE_CYCLES_COUNT, plainPage, tilePage]
      omega

/-! ### Checks of an access -/

/-- A broken check with the lowest code of its list decides the fault. -/
theorem lowest_of_head (c : Nat) (l : List (Bool × Nat)) (hc : c ≠ 0) (h : ∀ p ∈ l, c ≤ p.2) : lowest ((true, c) :: l) = c := by
  suffices hl : ∀ l : List (Bool × Nat), (∀ p ∈ l, c ≤ p.2) →
      l.foldl (fun m p => if p.1 && (m == 0 || decide (p.2 < m)) then p.2 else m) c = c from hl l h
  intro l h
  induction l with
  | nil => rfl
  | cons p l ih =>
    have hp := h p List.mem_cons_self
    rw [List.foldl_cons, if_neg (by simp [hc, hp])]
    exact ih fun q hq => h q (List.mem_cons_of_mem _ hq)

theorem lowest_false (c : Nat) (l : List (Bool × Nat)) : lowest ((false, c) :: l) = lowest l := rfl

/-- Settles O21: the address is checked first, and has the lowest code; the check of edge memory has the highest. -/
theorem accessChecks : Obligations.AccessChecks := by
  refine ⟨fun s t a hs hm => ?_, fun s t a h hs hr hm => ⟨?_, ?_⟩, fun s t a h hs hr hp hm hi => ?_, fun s t a hs hr => ?_⟩
  · rw [State.lsPlace, if_pos hs]
    dsimp only
    rw [bne_iff_ne.mpr hm]
    exact lowest_of_head _ _ (by decide) (by simp)
  · rw [State.lsPlace, if_neg (by simp [hs]), hr]
    dsimp only
    rw [bne_iff_ne.mpr hm]
    exact lowest_of_head _ _ (by decide) (by simp)
  · rw [State.gpPlace, if_pos hs, hr]
    dsimp only
    rw [bne_iff_ne.mpr hm]
    exact lowest_of_head _ _ (by decide) (by simp)
  · rw [State.lsPlace, if_neg hs, hr]
    simp only [hp, hm, hi, bne_self_eq_false, Bool.false_and, Bool.not_true, beq_self_eq_true, lowest_false]
    rfl
  · rw [State.lsPlace, if_neg hs, hr]
    rfl

end Sys2Proof.Machine

/-! PROOF. What the end of an instruction touches: the flags, the program counter and the buffer's order of use; and what a
task's end leaves. -/

namespace Sys2Proof.Machine

section

variable {s : State} {t k : Nat}

/-! ### Flags -/

/-- A view that the writes of the four number flags leave is left by the setting of any of them. -/
theorem State.setFlags_keeps {β : Type} (view : State → β) (f : NFlags)
    (h : ∀ u : State, ∀ j ∈ [TILE_FLAGS_INVALID t, TILE_FLAGS_OVERFLOW t, TILE_FLAGS_SATURATE t, TILE_FLAGS_UNDERFLOW t],
      view (u.wf j 1) = view u) : view (s.setFlags t f) = view s := by
  have step (u : State) (b : Bool) (j : Fk)
      (hj : j ∈ [TILE_FLAGS_INVALID t, TILE_FLAGS_OVERFLOW t, TILE_FLAGS_SATURATE t, TILE_FLAGS_UNDERFLOW t]) :
      view (if b then u.wf j 1 else u) = view u := by
    cases b
    · rfl
    · exact h u j hj
  unfold State.setFlags
  rw [step _ _ _ (by simp), step _ _ _ (by simp), step _ _ _ (by simp), step _ _ _ (by simp)]

@[simp] theorem State.setFlags_tiles (f : NFlags) : (s.setFlags t f).tiles = s.tiles :=
  State.setFlags_keeps State.tiles f fun _ _ _ => rfl

@[simp] theorem State.setFlags_tile (f : NFlags) (u : Nat) : (s.setFlags t f).tile u = s.tile u :=
  State.setFlags_keeps (State.tile · u) f fun _ _ _ => rfl

theorem State.setFlags_rf_ne (f : NFlags) {j : Fk}
    (h : ∀ i ∈ [TILE_FLAGS_INVALID t, TILE_FLAGS_OVERFLOW t, TILE_FLAGS_SATURATE t, TILE_FLAGS_UNDERFLOW t], i.key ≠ j.key) :
    (s.setFlags t f).rf j = s.rf j :=
  State.setFlags_keeps (State.rf · j) f fun u i hi => u.rf_wf_ne 1 (h i hi).symm

@[simp] theorem State.setFlags_pc (f : NFlags) :
    (s.setFlags t f).rf (TILE_TASK_STATE_PC t k) = s.rf (TILE_TASK_STATE_PC t k) := by
  refine State.setFlags_rf_ne f fun i hi => ?_
  simp only [List.mem_cons, List.not_mem_nil, or_false] at hi
  obtain rfl | rfl | rfl | rfl := hi
  all_goals
    simp only [Fk.key, TILE_TASK_STATE_PC, TILE_FLAGS_INVALID, TILE_FLAGS_OVERFLOW, TILE_FLAGS_SATURATE,
      TILE_FLAGS_UNDERFLOW]
    omega

/-! ### Only register fields and tiles -/

/-- Nothing changed but register fields and tiles. -/
def OnlyCore (s u : State) : Prop := u = { s with fld := u.fld, tiles := u.tiles }

theorem OnlyCore.refl (s : State) : OnlyCore s s := rfl

theorem OnlyCore.wf {u : State} (h : OnlyCore s u) (j : Fk) (v : Nat) : OnlyCore s (u.wf j v) := by
  unfold OnlyCore at h ⊢
  rw [h]
  rfl

theorem OnlyCore.updTile {u : State} (h : OnlyCore s u) (i : Nat) (f : Tile → Tile) : OnlyCore s (u.updTile i f) := by
  unfold OnlyCore at h ⊢
  rw [h]
  rfl

theorem OnlyCore.ite {c : Prop} [Decidable c] {u v : State} (hu : OnlyCore s u) (hv : OnlyCore s v) :
    OnlyCore s (if c then u else v) := by
  split
  · exact hu
  · exact hv

theorem OnlyCore.setFlags {u : State} (h : OnlyCore s u) (i : Nat) (f : NFlags) : OnlyCore s (u.setFlags i f) := by
  have h1 := OnlyCore.ite (c := f.inv = true) (h.wf (TILE_FLAGS_INVALID i) 1) h
  have h2 := OnlyCore.ite (c := f.ov = true) (h1.wf (TILE_FLAGS_OVERFLOW i) 1) h1
  have h3 := OnlyCore.ite (c := f.sat = true) (h2.wf (TILE_FLAGS_SATURATE i) 1) h2
  exact OnlyCore.ite (c := f.un = true) (h3.wf (TILE_FLAGS_UNDERFLOW i) 1) h3

theorem OnlyCore.retire {u : State} (h : OnlyCore s u) (i j : Nat) : OnlyCore s (u.retire i j) := (h.updTile _ _).wf _ _

theorem OnlyCore.bytesKept {u : State} (h : OnlyCore s u) : BytesKept s u := fun a => by
  unfold OnlyCore at h
  rw [h]
  rfl

/-! ### The program counter -/

theorem State.setPc_tile (pc u : Nat) : (s.setPc t k pc).tile u =
    if u = t then (s.tile t).useGroup (s.rf (TILE_TASK_STATE_PC t k) / 4) else s.tile u := by
  unfold State.setPc
  rw [State.wf_tile, State.tile_updTile]

theorem State.retire_tile (u : Nat) : (s.retire t k).tile u =
    if u = t then (s.tile t).useGroup (s.rf (TILE_TASK_STATE_PC t k) / 4) else s.tile u :=
  State.setPc_tile _ u

@[simp] theorem State.retire_tile_self :
    (s.retire t k).tile t = (s.tile t).useGroup (s.rf (TILE_TASK_STATE_PC t k) / 4) := by
  rw [State.retire_tile, if_pos rfl]

theorem State.retire_tile_ne {u : Nat} (h : u ≠ t) : (s.retire t k).tile u = s.tile u := by
  rw [State.retire_tile, if_neg h]

theorem State.retire_pc (h : s.rf (TILE_TASK_STATE_PC t k) ≤ 6143) :
    (s.retire t k).rf (TILE_TASK_STATE_PC t k) = s.rf (TILE_TASK_STATE_PC t k) + 1 :=
  (State.rf_wf_self _ _ _).trans (Nat.mod_eq_of_lt (Nat.lt_of_le_of_lt (Nat.succ_le_succ h) (by norm_num [TILE_TASK_STATE_PC])))

theorem State.retire_rf_ne {j : Fk} (h : (TILE_TASK_STATE_PC t k).key ≠ j.key) : (s.retire t k).rf j = s.rf j :=
  State.rf_wf_ne _ _ h.symm

@[simp] theorem Tile.useGroup_vreg (x : Tile) (g q : Nat) : (x.useGroup g).vreg q = x.vreg q := rfl
@[simp] theorem Tile.useGroup_sreg (x : Tile) (g q : Nat) : (x.useGroup g).sreg q = x.sreg q := rfl
@[simp] theorem Tile.useGroup_sregs (x : Tile) (g : Nat) : (x.useGroup g).sregs = x.sregs := rfl
@[simp] theorem Tile.useGroup_pred (x : Tile) (g q r : Nat) : (x.useGroup g).pred q r = x.pred q r := rfl

/-! ### Registers of a tile -/

theorem Tile.vreg_wvreg (x : Tile) (r q : Nat) (v : Vec) : (x.wvreg r v).vreg q = if q = r then v else x.vreg q := by
  unfold Tile.wvreg Tile.vreg
  exact sget_sset ..

@[simp] theorem Tile.wvreg_sregs (x : Tile) (r : Nat) (v : Vec) : (x.wvreg r v).sregs = x.sregs := rfl

@[simp] theorem Tile.wsreg_vregs (x : Tile) (r : Nat) (v : W32) : (x.wsreg r v).vregs = x.vregs := by
  unfold Tile.wsreg
  split <;> rfl

theorem Tile.wsreg_sreg_ne (x : Tile) {r q : Nat} (v : W32) (h : q ≠ r) : (x.wsreg r v).sreg q = x.sreg q := by
  unfold Tile.wsreg
  split
  · rfl
  · unfold Tile.sreg
    simp only [sget_sset_ne _ _ _ h]

end

end Sys2Proof.Machine

/-! PROOF. The elementwise instructions of format F: elements of a vector as bit fields, and what each form writes. -/

namespace Sys2Proof.Machine

/-! ### Elements as bit fields -/

theorem testBit_elGet (v w e i : Nat) : (elGet v w e).testBit i = (decide (i < w) && v.testBit (e * w + i)) := by
  rw [elGet, bits, Nat.testBit_mod_two_pow, Nat.testBit_div_two_pow, Nat.add_comm i]

/-- An element replaced: the bits below it, its own and those above it. -/
theorem elSet_eq (v w e x : Nat) :
    elSet v w e x = 2 ^ (e * w) * (2 ^ w * (v / 2 ^ (e * w) / 2 ^ w) + x % 2 ^ w) + v % 2 ^ (e * w) := by
  have hlow := Nat.div_add_mod v (2 ^ (e * w))
  have hhigh := Nat.div_add_mod (v / 2 ^ (e * w)) (2 ^ w)
  rw [elSet, elGet, bits]
  generalize v / 2 ^ (e * w) = q at *
  generalize q / 2 ^ w = h at *
  generalize q % 2 ^ w = m at *
  generalize x % 2 ^ w = y at *
  have hv : v - m * 2 ^ (e * w) = 2 ^ (e * w) * (2 ^ w * h) + v % 2 ^ (e * w) := by
    rw [← hhigh, Nat.mul_add] at hlow
    rw [Nat.mul_comm m]
    omega
  rw [hv, Nat.mul_add, Nat.mul_comm y]
  omega

theorem testBit_elSet (v w e x j : Nat) :
    (elSet v w e x).testBit j = if e * w ≤ j ∧ j < e * w + w then x.testBit (j - e * w) else v.testBit j := by
  rw [elSet_eq, Nat.testBit_two_pow_mul_add _ (Nat.mod_lt _ (Nat.two_pow_pos _))]
  by_cases hlow : j < e * w
  · rw [if_pos hlow, if_neg (by omega), Nat.testBit_mod_two_pow, decide_eq_true hlow, Bool.true_and]
  · rw [if_neg hlow, Nat.testBit_two_pow_mul_add _ (Nat.mod_lt _ (Nat.two_pow_pos _))]
    by_cases hin : j - e * w < w
    · rw [if_pos hin, if_pos (by omega), Nat.testBit_mod_two_pow, decide_eq_true hin, Bool.true_and]
    · rw [if_neg hin, if_neg (by omega), Nat.testBit_div_two_pow, Nat.testBit_div_two_pow]
      congr 1
      omega

/-- The bit ranges of two elements are apart. -/
theorem element_apart {w e n i : Nat} (he : e ≠ n) (hi : i < w) : ¬(n * w ≤ e * w + i ∧ e * w + i < n * w + w) := by
  intro ⟨h1, h2⟩
  obtain hlt | hgt := Nat.lt_or_gt_of_ne he
  · have := Nat.mul_le_mul_right w (Nat.succ_le_of_lt hlt)
    rw [Nat.succ_mul] at this
    omega
  · have := Nat.mul_le_mul_right w (Nat.succ_le_of_lt hgt)
    rw [Nat.succ_mul] at this
    omega

theorem elGet_elSet (v w e n x : Nat) : elGet (elSet v w n x) w e = if e = n then x % 2 ^ w else elGet v w e := by
  refine Nat.eq_of_testBit_eq fun i => ?_
  rw [testBit_elGet, testBit_elSet]
  by_cases hi : i < w
  · by_cases he : e = n
    · rw [if_pos he, he, if_pos (by omega), Nat.testBit_mod_two_pow, Nat.add_sub_cancel_left]
    · rw [if_neg he, if_neg (element_apart he hi), testBit_elGet]
  · rw [decide_eq_false hi, Bool.false_and]
    split
    · rw [Nat.testBit_mod_two_pow, decide_eq_false hi, Bool.false_and]
    · rw [testBit_elGet, decide_eq_false hi, Bool.false_and]

/-- A register of `m` bits holds every element that lies in it whole. -/
theorem elGet_mod_two_pow {w e m : Nat} (v : Nat) (h : (e + 1) * w ≤ m) : elGet (v % 2 ^ m) w e = elGet v w e := by
  refine Nat.eq_of_testBit_eq fun i => ?_
  rw [testBit_elGet, testBit_elGet, Nat.testBit_mod_two_pow]
  by_cases hi : i < w
  · rw [Nat.add_mul, Nat.one_mul] at h
    rw [decide_eq_true (show e * w + i < m by omega), Bool.true_and]
  · rw [decide_eq_false hi, Bool.false_and, Bool.false_and]

theorem elGet_ofNat {w e : Nat} (v : Nat) (h : e < 256 / w) : elGet (BitVec.ofNat 256 v).toNat w e = elGet v w e := by
  rw [BitVec.toNat_ofNat]
  exact elGet_mod_two_pow v ((Nat.mul_le_mul_right w h).trans (Nat.div_mul_le_self 256 w))

/-! ### Vectors under a guard -/

/-- The guarded elements of the first `n` take their results, and no other element changes. -/
theorem elGet_vecMap (g w old : Nat) (f : Nat → Nat × NFlags) (n e : Nat) : elGet (vecMap g w old f n).1 w e =
    if e < n ∧ g.testBit (e * w / 8) = true then (f e).1 % 2 ^ w else elGet old w e := by
  induction n with
  | zero => rw [if_neg (by omega)]; rfl
  | succ n ih =>
    rw [vecMap]
    by_cases hg : g.testBit (n * w / 8) = true
    · rw [if_pos hg, elGet_elSet, ih]
      by_cases he : e = n
      · rw [if_pos he, if_pos ⟨by omega, he ▸ hg⟩, he]
      · simp only [if_neg he, show e < n + 1 ↔ e < n by omega]
    · rw [if_neg hg, ih]
      by_cases he : e = n
      · rw [if_neg (by omega), if_neg (by rw [he]; exact fun h => hg h.2)]
      · simp only [show e < n + 1 ↔ e < n by omega]

/-! ### The instructions -/

section

variable {s : State} {t k : Nat} {g : Guard} {a : FArgs}

/-- Every row's command is the elementwise operation of its opcode. -/
theorem exec_fRow {r : FRow} (hr : r ∈ fRows) (t : Nat) (g : Guard) (a : FArgs) (s : State) :
    exec (r.ins t g a) s = .next (s.fArith t g r.sp a r.el) := by
  fin_cases hr <;> rfl

/-- The result of element `e` of an elementwise instruction. -/
def Tile.fElem (x : Tile) (a : FArgs) (el : Nat → Nat → Nat → Nat → Nat × NFlags) (e : Nat) : Nat × NFlags :=
  el a.t.toNat (x.fSrc a a.ra.toNat e) (x.fSrcB a e) (x.fSrc a a.rc.toNat e)

theorem fArith_ready (h : CoreReady s t k) {sp : FSpec} (hd : fDecodes sp a = true)
    (el : Nat → Nat → Nat → Nat → Nat × NFlags) :
    s.fArith t g sp a el = s.conclude t k (s.fWrite t k g a ((s.tile t).fElem a el)) := by
  rw [State.fArith, hd, issue_ready h]
  rfl

theorem Tile.fSrc_scalar (x : Tile) (hk : a.kind = 0) (r e : Nat) : x.fSrc a r e = (x.sreg r).toNat := by
  rw [Tile.fSrc, if_neg (by simp [hk])]

theorem Tile.fSrc_vector (x : Tile) (hk : a.kind = 1) (r e : Nat) :
    x.fSrc a r e = elGet (x.vreg r).toNat (tyBits a.t.toNat) e := by
  rw [Tile.fSrc, if_pos hk]

theorem fWrite_scalar_on (hk : a.kind = 0) (hg : s.guardOn t k g) (f : Nat → Nat × NFlags) :
    s.conclude t k (s.fWrite t k g a f) = ((s.updTile t fun x =>
      x.wsreg a.rd.toNat (BitVec.ofNat 32 (f 0).1)).setFlags t (f 0).2).retire t k := by
  rw [State.guardOn] at hg
  rw [State.fWrite, if_neg (by simp [hk]), if_pos hg]
  rfl

theorem fWrite_scalar_off (hk : a.kind = 0) (hg : ¬ s.guardOn t k g) (f : Nat → Nat × NFlags) :
    s.conclude t k (s.fWrite t k g a f) = s.retire t k := by
  rw [State.guardOn] at hg
  rw [State.fWrite, if_neg (by simp [hk]), if_neg hg]
  rfl

/-- The vector that a guarded vector operation writes. -/
def State.fVector (s : State) (t k : Nat) (g : Guard) (a : FArgs) (f : Nat → Nat × NFlags) : Nat × NFlags :=
  vecMap ((s.tile t).guard k g) (tyBits a.t.toNat) ((s.tile t).vreg a.rd.toNat).toNat f (256 / tyBits a.t.toNat)

theorem fWrite_vector (hk : a.kind = 1) (f : Nat → Nat × NFlags) :
    s.conclude t k (s.fWrite t k g a f) = ((s.updTile t fun x =>
      x.wvreg a.rd.toNat (BitVec.ofNat 256 (s.fVector t k g a f).1)).setFlags t (s.fVector t k g a f).2).retire t k := by
  rw [State.fWrite, if_pos hk]
  rfl

theorem kind_cases (a : FArgs) : a.kind = 0 ∨ a.kind = 1 := by
  have := a.kind.isLt
  simp only [← BitVec.toNat_inj, BitVec.ofNat_eq_ofNat, BitVec.toNat_ofNat]
  omega

/-- The elements of the vector written: the result where the guard is true, the old element elsewhere. -/
theorem elGet_fVector (f : Nat → Nat × NFlags) {e : Nat} (he : e < 256 / tyBits a.t.toNat) :
    elGet (BitVec.ofNat 256 (s.fVector t k g a f).1).toNat (tyBits a.t.toNat) e =
      if ((s.tile t).guard k g).testBit (e * tyBits a.t.toNat / 8) = true then (f e).1 % 2 ^ tyBits a.t.toNat
      else elGet ((s.tile t).vreg a.rd.toNat).toNat (tyBits a.t.toNat) e := by
  rw [elGet_ofNat _ he, State.fVector, elGet_vecMap]
  simp only [he, true_and]

end

/-- Settles O11: the scalar form writes one register and the flags, and with a false guard nothing. -/
theorem scalarArithmetic : Obligations.ScalarArithmetic := by
  intro r hr s t k g a h hd hk
  have hb (x : Tile) : x.fSrcB a 0 = if a.i = 1 then a.imm.toNat % 2 ^ tyBits a.t.toNat else (x.sreg a.rb.toNat).toNat := by
    rw [Tile.fSrcB, x.fSrc_scalar hk]
  have helem (x : Tile) : x.fElem a r.el 0 = r.el a.t.toNat (x.sreg a.ra.toNat).toNat
      (if a.i = 1 then a.imm.toNat % 2 ^ tyBits a.t.toNat else (x.sreg a.rb.toNat).toNat) (x.sreg a.rc.toNat).toNat := by
    rw [Tile.fElem, hb, x.fSrc_scalar hk, x.fSrc_scalar hk]
  refine ⟨fun hg => ?_, fun hg => ?_⟩
  · rw [exec_fRow hr, fArith_ready h hd, fWrite_scalar_on hk hg, helem]
  · rw [exec_fRow hr, fArith_ready h hd, fWrite_scalar_off hk hg]

/-- Settles O12: the vector form writes one register, element by element. -/
theorem vectorArithmetic : Obligations.VectorArithmetic := by
  intro r hr s t k g a h hd hk
  refine ⟨_, by rw [exec_fRow hr, fArith_ready h hd, fWrite_vector hk], ?_⟩
  obtain ⟨-, -, -, hpc, -⟩ := h
  refine ⟨fun e he => ?_, ?_, fun q hq => ?_, ?_⟩
  · have helem : (s.tile t).fElem a r.el e = r.el a.t.toNat (elGet ((s.tile t).vreg a.ra.toNat).toNat (tyBits a.t.toNat) e)
        (if a.i = 1 then a.imm.toNat % 2 ^ tyBits a.t.toNat
          else elGet ((s.tile t).vreg a.rb.toNat).toNat (tyBits a.t.toNat) e)
        (elGet ((s.tile t).vreg a.rc.toNat).toNat (tyBits a.t.toNat) e) := by
      rw [Tile.fElem, Tile.fSrcB, Tile.fSrc_vector _ hk, Tile.fSrc_vector _ hk, Tile.fSrc_vector _ hk]
    rw [State.retire_tile_self, Tile.useGroup_vreg, State.setFlags_tile, State.tile_updTile_self, Tile.vreg_wvreg, if_pos rfl,
      elGet_fVector _ he, helem]
  · rw [State.retire_pc (by simpa using hpc), State.setFlags_pc, State.updTile_rf]
  · rw [State.retire_tile_self, Tile.useGroup_vreg, State.setFlags_tile, State.tile_updTile_self, Tile.vreg_wvreg, if_neg hq]
  · rw [State.retire_tile_self, Tile.useGroup_sregs, State.setFlags_tile, State.tile_updTile_self, Tile.wvreg_sregs]

/-! ### The frame of an elementwise instruction -/

section

variable {s u : State} {t k : Nat} {a : FArgs}

/-- The four number flags of a tile (R102, R113). -/
def flagFields (t : Nat) : List Fk :=
  [TILE_FLAGS_INVALID t, TILE_FLAGS_OVERFLOW t, TILE_FLAGS_SATURATE t, TILE_FLAGS_UNDERFLOW t]

theorem flagFields_key_ne_pc : ∀ i ∈ flagFields t, i.key ≠ (TILE_TASK_STATE_PC t k).key := by
  intro i hi
  simp only [flagFields, List.mem_cons, List.not_mem_nil, or_false] at hi
  obtain rfl | rfl | rfl | rfl := hi
  all_goals
    simp only [Fk.key, TILE_TASK_STATE_PC, TILE_FLAGS_INVALID, TILE_FLAGS_OVERFLOW, TILE_FLAGS_SATURATE,
      TILE_FLAGS_UNDERFLOW]
    omega

/-- What the body of an elementwise instruction may do: write the flags, and registers of its tile of which RD is the only
scalar one. -/
structure FBody (s u : State) (t rd : Nat) : Prop where
  core : OnlyCore s u
  regs : RegsKept s u (flagFields t)
  others : OtherTilesKept s u t
  tile : u.tile t = { s.tile t with sregs := (u.tile t).sregs, vregs := (u.tile t).vregs }
  sreg : ∀ q, q ≠ rd → (u.tile t).sreg q = (s.tile t).sreg q

theorem FBody.refl (s : State) (t rd : Nat) : FBody s s t rd := ⟨rfl, fun _ _ => rfl, fun _ _ => rfl, rfl, fun _ _ => rfl⟩

theorem FBody.written {rd : Nat} {f : Tile → Tile} (fl : NFlags)
    (hf : f (s.tile t) = { s.tile t with sregs := (f (s.tile t)).sregs, vregs := (f (s.tile t)).vregs })
    (hs : ∀ q, q ≠ rd → (f (s.tile t)).sreg q = (s.tile t).sreg q) : FBody s ((s.updTile t f).setFlags t fl) t rd := by
  refine ⟨((OnlyCore.refl s).updTile t f).setFlags t fl, fun j hj => State.setFlags_rf_ne fl hj, fun v hv => ?_, ?_, ?_⟩
  · rw [State.setFlags_tile, State.tile_updTile, if_neg hv]
  · rw [State.setFlags_tile, State.tile_updTile_self]
    exact hf
  · rw [State.setFlags_tile, State.tile_updTile_self]
    exact hs

/-- After such a body the instruction's end moves the program counter and the buffer's order of use alone. -/
theorem FBody.retire {rd : Nat} (h : FBody s u t rd) :
    (u.retire t k = { s with fld := (u.retire t k).fld, tiles := (u.retire t k).tiles } ∧
      RegsKept s (u.retire t k) (fFields t k) ∧ BytesKept s (u.retire t k) ∧ OtherTilesKept s (u.retire t k) t ∧
      (u.retire t k).tile t = { (s.tile t).useGroup (s.rf (TILE_TASK_STATE_PC t k) / 4) with
        sregs := ((u.retire t k).tile t).sregs, vregs := ((u.retire t k).tile t).vregs } ∧
      (∀ q, q ≠ rd → ((u.retire t k).tile t).sreg q = (s.tile t).sreg q)) := by
  have hpc : u.rf (TILE_TASK_STATE_PC t k) = s.rf (TILE_TASK_STATE_PC t k) := h.regs _ flagFields_key_ne_pc
  refine ⟨h.core.retire t k, fun j hj => ?_, (h.core.retire t k).bytesKept, fun v hv => ?_, ?_, fun q hq => ?_⟩
  · rw [State.retire_rf_ne (hj _ List.mem_cons_self)]
    exact h.regs j fun i hi => hj i (List.mem_cons_of_mem _ hi)
  · rw [State.retire_tile_ne hv, h.others v hv]
  · rw [State.retire_tile_self, hpc, h.tile]
    rfl
  · rw [State.retire_tile_self, Tile.useGroup_sreg, h.sreg q hq]

end

/-- Settles O13: each of the three ways that the instruction ends has a body of that kind. -/
theorem arithmeticFrame : Obligations.ArithmeticFrame := by
  intro r hr s s' t k g a h hd he
  rw [exec_fRow hr, fArith_ready h hd] at he
  cases he
  obtain hk | hk := kind_cases a
  · by_cases hg : s.guardOn t k g
    · rw [fWrite_scalar_on hk hg]
      refine (FBody.written _ ?_ fun q hq => Tile.wsreg_sreg_ne _ _ hq).retire
      unfold Tile.wsreg
      split <;> rfl
    · rw [fWrite_scalar_off hk hg]
      exact (FBody.refl s t _).retire
  · rw [fWrite_vector hk]
    exact (FBody.written _ rfl fun _ _ => rfl).retire

end Sys2Proof.Machine

/-! PROOF. Compares, predicate instructions, and the instructions that select, convert, reduce and move elements. -/

namespace Sys2Proof.Machine

/-! ### Types that decode -/

/-- The elements of every type that a format F word other than CVT may name are 8, 16 or 32 bits. -/
theorem tyBits_of_typeOk_any {vec : Bool} {ty : Nat} (h : typeOk .any vec ty = true) :
    tyBits ty = 8 ∨ tyBits ty = 16 ∨ tyBits ty = 32 := by
  have hty : ty ≤ 5 ∨ (8 ≤ ty ∧ ty ≤ 10) := by
    cases vec <;> simp [typeOk] at h <;> omega
  obtain hty | hty := hty
  · interval_cases ty <;> decide
  · obtain ⟨h8, h10⟩ := hty
    interval_cases ty <;> decide

theorem typeOk_of_fDecodes {sp : FSpec} {a : FArgs} (h : fDecodes sp a = true) :
    typeOk sp.cls (a.kind == 1) a.t.toNat = true := by
  simp only [fDecodes, Bool.and_eq_true] at h
  exact h.1.1.1.2

theorem tyBits_of_fDecodes {sp : FSpec} {a : FArgs} (h : fDecodes sp a = true) (hc : sp.cls = .any) :
    tyBits a.t.toNat = 8 ∨ tyBits a.t.toNat = 16 ∨ tyBits a.t.toNat = 32 :=
  tyBits_of_typeOk_any (hc ▸ typeOk_of_fDecodes h)

/-! ### Predicates as bit fields -/

/-- Bit `j` lies in element `e`'s bytes. -/
theorem testBit_predMap_of_lt (g w old : Nat) (f : Nat → Bool) {n e j : Nat} (hw : 0 < w / 8) (hdvd : 8 ∣ w)
    (hlo : e * w / 8 ≤ j) (hhi : j < (e + 1) * w / 8) : (predMap g w old f n).testBit j =
      if e < n ∧ g.testBit (e * w / 8) = true then f e else old.testBit j := by
  obtain ⟨b, rfl⟩ := hdvd
  rw [Nat.mul_div_cancel_left _ (by decide)] at hw
  have hat (i : Nat) : i * (8 * b) / 8 = i * b := by
    rw [Nat.mul_left_comm, Nat.mul_div_cancel_left _ (by decide)]
  rw [hat] at hlo hhi ⊢
  obtain ⟨i, rfl⟩ := Nat.exists_eq_add_of_le hlo
  have hi : i < b := by
    rw [Nat.add_mul, Nat.one_mul] at hhi
    omega
  induction n with
  | zero => rw [if_neg (by omega)]; rfl
  | succ n ih =>
    rw [predMap, hat, Nat.mul_div_cancel_left _ (by decide)]
    by_cases he : e = n
    · subst he
      by_cases hg : g.testBit (e * b) = true
      · rw [if_pos hg, testBit_elSet, if_pos (by omega), Nat.add_sub_cancel_left]
        simp only [Nat.lt_succ_self, hg, and_self, if_true]
        cases f e
        · exact Nat.zero_testBit i
        · simp only [if_true, Nat.testBit_two_pow_sub_one, hi, decide_true]
      · rw [if_neg hg, ih, if_neg (by omega), if_neg (fun h => hg h.2)]
    · have hlt : (e < n + 1 ∧ g.testBit (e * b) = true) ↔ (e < n ∧ g.testBit (e * b) = true) := by
        rw [show e < n + 1 ↔ e < n by omega]
      simp only [hlt]
      split
      · rw [testBit_elSet, if_neg (element_apart he hi), ih]
      · exact ih

/-! ### The instructions -/

section

variable {s : State} {t k : Nat} {g : Guard} {a : FArgs}

@[simp] theorem Tile.pred_wpred (x : Tile) (k : Nat) {r : Nat} (v : W32) (hr : r ≠ 0) : (x.wpred k r v).pred k r = v := by
  rw [Tile.wpred, if_neg hr, Tile.pred, if_neg hr, Tile.setTask, Tile.task, sget_sset_self, sget_sset_self]

theorem exec_cmpRow {c : (Nat → Guard → FArgs → Instr) × (Nat → Nat → Nat → Bool)} (hc : c ∈ cmpRows) (t : Nat) (g : Guard)
    (a : FArgs) (s : State) : exec (c.1 t g a) s = .next (s.fCompare t g a c.2) := by
  fin_cases hc <;> rfl

theorem exec_predRow {c : (Nat → Guard → FArgs → Instr) × FSpec × (W32 → W32 → W32)} (hc : c ∈ predRows) (t : Nat)
    (g : Guard) (a : FArgs) (s : State) : exec (c.1 t g a) s = .next (s.fPred t g c.2.1 a c.2.2) := by
  fin_cases hc <;> rfl

/-- The comparison of element `e`. -/
def Tile.fTest (x : Tile) (a : FArgs) (el : Nat → Nat → Nat → Bool) (e : Nat) : Bool :=
  el a.t.toNat (x.fSrc a a.ra.toNat e) (x.fSrcB a e)

theorem fCompare_scalar_on (h : CoreReady s t k) (hd : fDecodes fsCmp a = true) (hk : a.kind = 0) (hg : s.guardOn t k g)
    (el : Nat → Nat → Nat → Bool) : s.fCompare t g a el = (s.updTile t fun x =>
      x.wpred k a.rd.toNat (if (s.tile t).fTest a el 0 then BitVec.allOnes 32 else 0)).retire t k := by
  rw [State.guardOn] at hg
  rw [State.fCompare, hd, issue_ready h]
  dsimp only
  rw [if_neg (by simp [hk]), if_pos hg]
  rfl

/-- The predicate that a guarded vector compare writes. -/
def State.fMask (s : State) (t k : Nat) (g : Guard) (a : FArgs) (el : Nat → Nat → Nat → Bool) : Nat :=
  predMap ((s.tile t).guard k g) (tyBits a.t.toNat) ((s.tile t).pred k a.rd.toNat).toNat ((s.tile t).fTest a el)
    (256 / tyBits a.t.toNat)

theorem fCompare_vector (h : CoreReady s t k) (hd : fDecodes fsCmp a = true) (hk : a.kind = 1)
    (el : Nat → Nat → Nat → Bool) : s.fCompare t g a el = (s.updTile t fun x =>
      x.wpred k a.rd.toNat (BitVec.ofNat 32 (s.fMask t k g a el))).retire t k := by
  rw [State.fCompare, hd, issue_ready h]
  dsimp only
  rw [if_pos hk]
  rfl

end

/-- Settles O15. -/
theorem predicates : Obligations.Predicates := by
  intro s t k g a h
  refine ⟨fun c hc hd hk hg => ?_, fun c hc hd hk hrd => ?_, fun c hc hd hg => ?_, fun hd hg => ?_, fun hd hg => ?_⟩
  · rw [exec_cmpRow hc, fCompare_scalar_on h hd hk hg, Tile.fTest, Tile.fSrcB, Tile.fSrc_scalar _ hk, Tile.fSrc_scalar _ hk]
    rfl
  · refine ⟨_, by rw [exec_cmpRow hc, fCompare_vector h hd hk], fun e he j hlo hhi => ?_⟩
    have hw := tyBits_of_fDecodes hd rfl
    have hj : j < 32 := by
      obtain hw | hw | hw := hw <;> rw [hw] at he hhi <;> omega
    have hrd' : a.rd.toNat ≠ 0 := fun h0 => hrd (BitVec.eq_of_toNat_eq (by simpa using h0))
    have htest : (s.tile t).fTest a c.2 e = c.2 a.t.toNat (elGet ((s.tile t).vreg a.ra.toNat).toNat (tyBits a.t.toNat) e)
        (if a.i = 1 then a.imm.toNat % 2 ^ tyBits a.t.toNat
          else elGet ((s.tile t).vreg a.rb.toNat).toNat (tyBits a.t.toNat) e) := by
      rw [Tile.fTest, Tile.fSrcB, Tile.fSrc_vector _ hk, Tile.fSrc_vector _ hk]
    rw [State.retire_tile_self, Tile.useGroup_pred, State.tile_updTile_self, Tile.pred_wpred _ _ _ hrd', BitVec.toNat_ofNat,
      Nat.testBit_mod_two_pow, decide_eq_true hj, Bool.true_and, State.fMask,
      testBit_predMap_of_lt _ _ _ _ (by omega) (by omega) hlo hhi, htest]
    simp only [he, true_and]
  · rw [exec_predRow hc, State.fPred, hd, issueG_ready h hg]
    rfl
  · rw [show exec (.pfroms t g a) s = execPfroms t g a s from rfl, execPfroms, hd, issueG_ready h hg]
    rfl
  · rw [show exec (.sfromp t g a) s = execSfromp t g a s from rfl, execSfromp, hd, issueG_ready h hg]
    rfl

/-! ### Selecting, converting, reducing and moving elements -/

section

variable {s : State} {t k : Nat} {g : Guard} {a : FArgs}

theorem State.setFlags_none : s.setFlags t {} = s := rfl

theorem exec_sel_scalar (h : CoreReady s t k) (hg : s.guardOn t k g) (hd : fDecodes fsSel a = true) (hk : a.kind = 0) :
    exec (.sel t g a) s = .next ((s.updTile t fun y => y.wsreg a.rd.toNat
      (if ((s.tile t).pred k a.rc.toNat).toNat.testBit 0 then (s.tile t).sreg a.ra.toNat
        else (s.tile t).sreg a.rb.toNat)).retire t k) := by
  rw [show exec (.sel t g a) s = execSel t g a s from rfl, execSel, hd, issue_ready h]
  dsimp only
  have hbit (p : Nat) : (if a.kind = 1 then p else 0) = 0 := if_neg (by simp [hk])
  rw [fWrite_scalar_on hk hg, State.setFlags_none, hbit, Tile.fSrc_scalar _ hk, Tile.fSrc_scalar _ hk,
    ← apply_ite BitVec.toNat, BitVec.ofNat_toNat, BitVec.setWidth_eq]

theorem exec_cvt_scalar (h : CoreReady s t k) (hg : s.guardOn t k g) (hd : fDecodes fsCvt a = true) (hk : a.kind = 0) :
    exec (.cvt t g a) s = .next (((s.updTile t fun y => y.wsreg a.rd.toNat (BitVec.ofNat 32
      (cvtElem a.ts.toNat a.t.toNat a.scale.toInt (((s.tile t).sreg a.ra.toNat).toNat % 2 ^ tyBits a.ts.toNat)).1)).setFlags t
      (cvtElem a.ts.toNat a.t.toNat a.scale.toInt
        (((s.tile t).sreg a.ra.toNat).toNat % 2 ^ tyBits a.ts.toNat)).2).retire t k) := by
  rw [State.guardOn] at hg
  rw [show exec (.cvt t g a) s = execCvt t g a s from rfl, execCvt, hd, issue_ready h]
  dsimp only
  rw [if_neg (by simp [hk]), if_pos hg]
  rfl

theorem exec_vbcast_ready (h : CoreReady s t k) (hd : fDecodes fsBcast a = true) :
    exec (.vbcast t g a) s = .next ((s.updTile t fun y => y.wvreg a.rd.toNat (BitVec.ofNat 256
      (s.fVector t k g a fun _ => (((s.tile t).sreg a.ra.toNat).toNat, {})).1)).retire t k) := by
  rw [show exec (.vbcast t g a) s = execVbcast t g a s from rfl, execVbcast, hd, issue_ready h]
  rfl

theorem exec_vins_ready (h : CoreReady s t k) (hd : fDecodes fsVins a = true)
    (hg : ((s.tile t).guard k g).testBit (a.imm.toNat * tyBits a.t.toNat / 8) = true) :
    exec (.vins t g a) s = .next ((s.updTile t fun y => y.wvreg a.rd.toNat (BitVec.ofNat 256
      (elSet ((s.tile t).vreg a.rd.toNat).toNat (tyBits a.t.toNat) a.imm.toNat
        ((s.tile t).sreg a.ra.toNat).toNat))).retire t k) := by
  rw [show exec (.vins t g a) s = execVins t g a s from rfl, execVins, hd, issue_ready h]
  dsimp only
  rw [if_pos hg]
  rfl

end

/-- Settles O16. -/
theorem selectConvertReduce : Obligations.SelectConvertReduce := by
  intro s t k g a h hg
  refine ⟨exec_sel_scalar h hg, exec_cvt_scalar h hg, fun hd => ⟨?_, ?_⟩, fun hd => ?_, fun hd => ?_, fun hd hbit => ?_⟩
  · rw [show exec (.redadd t g a) s = execRedadd t g a s from rfl, execRedadd, hd, issueG_ready h hg]
    rfl
  · rw [show exec (.redmax t g a) s = execRedmax t g a s from rfl, execRedmax, hd, issueG_ready h hg]
    rfl
  · refine ⟨_, exec_vbcast_ready h hd, fun e he hbit => ?_⟩
    rw [State.retire_tile_self, Tile.useGroup_vreg, State.tile_updTile_self, Tile.vreg_wvreg, if_pos rfl, elGet_fVector _ he,
      if_pos hbit]
  · rw [show exec (.vext t g a) s = execVext t g a s from rfl, execVext, hd, issueG_ready h hg]
    rfl
  · refine ⟨_, exec_vins_ready h hd hbit, fun e he => ?_⟩
    rw [State.retire_tile_self, Tile.useGroup_vreg, State.tile_updTile_self, Tile.vreg_wvreg, if_pos rfl, elGet_ofNat _ he,
      elGet_elSet]

end Sys2Proof.Machine

/-! PROOF. When a tile's tasks may fire, and what a task's end leaves. -/

namespace Sys2Proof.Machine

section

variable {s u : State} {t k : Nat}

/-! ### Conditions that no register of a tile page is part of -/

/-- Every register below the tile pages reads as before. -/
def ModuleRegsKept (s u : State) : Prop := ∀ i : Fk, i.key < tilePage 0 * 64 → u.rf i = s.rf i

theorem ModuleRegsKept.refl (s : State) : ModuleRegsKept s s := fun _ _ => rfl

theorem ModuleRegsKept.wf (h : ModuleRegsKept s u) {j : Fk} (hj : tilePage 0 * 64 ≤ j.key) (v : Nat) :
    ModuleRegsKept s (u.wf j v) := fun i hi => by
  rw [State.rf_wf_ne _ _ (by omega), h i hi]

theorem ModuleRegsKept.updTile (h : ModuleRegsKept s u) (i : Nat) (f : Tile → Tile) : ModuleRegsKept s (u.updTile i f) := h

theorem plainOf_lt (ht : t < 262144) : plainOf t < 64 := by
  unfold plainOf tileY tileX
  omega

theorem ModuleRegsKept.geomHas (h : ModuleRegsKept s u) {n : Nat} (hn : n < 16) (p : Nat) :
    u.geomHas n p = s.geomHas n p := by
  unfold State.geomHas
  rw [h (PART_GEOM_X0 n), h (PART_GEOM_Y0 n), h (PART_GEOM_W n), h (PART_GEOM_H n)]
  all_goals
    simp only [Fk.key, PART_GEOM_X0, PART_GEOM_Y0, PART_GEOM_W, PART_GEOM_H, partPage, tilePage]
    omega

theorem ModuleRegsKept.plainPart (h : ModuleRegsKept s u) (p : Nat) : u.plainPart p = s.plainPart p := by
  unfold State.plainPart
  refine List.find?_congr fun n hn => ?_
  exact h.geomHas (List.mem_range.mp hn) p

theorem State.lt_of_plainPart {p n : Nat} (h : s.plainPart p = some n) : n < 16 :=
  List.mem_range.mp (List.mem_of_find?_eq_some h)

theorem ModuleRegsKept.pst (h : ModuleRegsKept s u) {n : Nat} (hn : n < 16) : u.pst n = s.pst n := by
  refine h _ ?_
  simp only [Fk.key, PART_STATE_STATE, partPage, tilePage]
  omega

theorem ModuleRegsKept.tileLive (h : ModuleRegsKept s u) (ht : t < 262144) : u.tileLive t = s.tileLive t := by
  have hp := plainOf_lt ht
  have hy : localY t < 64 := Nat.mod_lt _ (by decide)
  unfold State.tileLive State.tileOn State.plnState State.fenced State.gated State.frozen State.rb
  rw [h (PLN_STATE_STATE _), h (PLN_FENCED _ _), h PWR_STATUS_STATE (by decide), h MOD_STATUS_BACKUP_ACTIVE (by decide)]
  all_goals
    simp only [Fk.key, PLN_STATE_STATE, PLN_FENCED, plainPage, tilePage]
    omega

theorem ModuleRegsKept.mayFire (h : ModuleRegsKept s u) (ht : t < 262144)
    (hrun : u.rf (TILE_CTRL_RUN t) = s.rf (TILE_CTRL_RUN t)) : u.mayFire t = s.mayFire t := by
  unfold State.mayFire State.tilePart State.rb
  rw [hrun, h.tileLive ht, h.plainPart]
  cases hn : s.plainPart (plainOf t) with
  | none => rfl
  | some n =>
    dsimp only
    rw [State.tasksFire, State.tasksFire, h.pst (State.lt_of_plainPart hn)]

theorem tilePage_le_taskState (t k : Nat) : tilePage 0 * 64 ≤ (TILE_TASK_STATE_STATE t k).key := by
  simp only [Fk.key, TILE_TASK_STATE_STATE, tilePage]
  omega

theorem run_ne_taskState (t k : Nat) : (TILE_CTRL_RUN t).key ≠ (TILE_TASK_STATE_STATE t k).key := by
  simp only [Fk.key, TILE_CTRL_RUN, TILE_TASK_STATE_STATE]
  omega

/-! ### The end of a task -/

/-- The state in which a task that leaves the core is (R92). -/
def Task.leaves (x : Task) (st : Nat) : Nat := if x.disablePending then (if x.reenable then 1 else 0) else st

/-- A task that leaves the core, before WAITING tasks are looked at. -/
def State.offCore (s : State) (t k st : Nat) (mid : Bool) : State :=
  let x := (s.tile t).task k
  ((s.wf (TILE_TASK_STATE_STATE t k) (x.leaves st)).updTile t fun y =>
    y.setTask k { x with mid := mid && !x.disablePending, disablePending := false, reenable := false }).deselect t k

theorem State.leaveTask_eq (st : Nat) (mid : Bool) : s.leaveTask t k st mid = (s.offCore t k st mid).promote t := rfl

theorem State.offCore_mayFire (ht : t < 262144) (st : Nat) (mid : Bool) : (s.offCore t k st mid).mayFire t = s.mayFire t :=
  ModuleRegsKept.mayFire
    ((((ModuleRegsKept.refl s).wf (tilePage_le_taskState t k) _).updTile t _).updTile t _) ht
    (State.rf_wf_ne _ _ (run_ne_taskState t k))

theorem State.promote_of_not_mayFire (h : s.mayFire t = false) : s.promote t = s := by
  rw [State.promote, if_neg (by simp [h])]

theorem State.leaveTask_of_not_mayFire (ht : t < 262144) (h : s.mayFire t = false) (st : Nat) (mid : Bool) :
    s.leaveTask t k st mid = s.offCore t k st mid := by
  rw [State.leaveTask_eq, State.promote_of_not_mayFire ((State.offCore_mayFire ht st mid).trans h)]

theorem State.offCore_taskSt (st : Nat) (mid : Bool) :
    (s.offCore t k st mid).taskSt t k = ((s.tile t).task k).leaves st % 8 := s.rf_wf_self _ _

theorem State.offCore_cur (st : Nat) (mid : Bool) : ((s.offCore t k st mid).tile t).cur = none := by
  rw [State.offCore, State.deselect, State.tile_updTile_self]

theorem State.offCore_last (st : Nat) (mid : Bool) : ((s.offCore t k st mid).tile t).last = k := by
  rw [State.offCore, State.deselect, State.tile_updTile_self]

theorem State.offCore_otherTilesKept (st : Nat) (mid : Bool) : OtherTilesKept s (s.offCore t k st mid) t := fun v hv => by
  rw [State.offCore, State.deselect, State.tile_updTile, if_neg hv, State.tile_updTile, if_neg hv, State.wf_tile]

end

/-- Settles O18. -/
theorem tendEndsFiring : Obligations.TendEndsFiring := by
  intro s t k g a h hd hfire
  refine ⟨_, exec_tend_ready h hd, ?_⟩
  obtain ⟨ht, -⟩ := h
  rw [State.leaveTask_of_not_mayFire ht hfire]
  refine ⟨State.offCore_cur 1 false, State.offCore_last 1 false, fun hp => ?_, fun hp hr => ?_, fun _ => rfl,
    State.offCore_otherTilesKept 1 false⟩
  · rw [State.offCore_taskSt, Task.leaves, hp]
    rfl
  · rw [State.offCore_taskSt, Task.leaves, hp, hr]
    rfl

end Sys2Proof.Machine

/-! PROOF. LD and ST on a ready core, and the bytes that a store with its error bits puts into memory. -/

namespace Sys2Proof.Machine

/-! ### Bytes of a store -/

section

variable {s u : State}

theorem BytesKeptBut.refl (s : State) (k n : Nat) : BytesKeptBut s s k n := fun _ _ => rfl

theorem BytesKeptBut.of_mem {v : State} {k n : Nat} (h : BytesKeptBut s u k n) (hm : v.mem = u.mem) :
    BytesKeptBut s v k n := fun a ha => by
  rw [← h a ha, State.byte, hm, State.byte]

theorem BytesKeptBut.wrMem {k n lo m : Nat} (h : BytesKeptBut s u k n) (hlo : k ≤ lo) (hhi : lo + m ≤ k + n) (v : Nat) :
    BytesKeptBut s (u.wrMem lo m v) k n := fun a ha => by
  rw [State.wrMem_byte, if_neg (by omega), h a ha]

/-- One word of a store with the outcome of its error bits (R131). -/
def State.storeWord (k n v : Nat) (e : Ecc) (p : State × Ecc) (w : Nat) : State × Ecc :=
  let lo := max k (8 * w)
  let hi := min (k + n) (8 * w + 8)
  let part := bits v (8 * (lo - k)) (8 * (hi - lo))
  if hi - lo = 8 then (p.1.wrMem lo 8 part, p.2)
  else match p.1.eccOf (8 * w) 8 e with
    | .bad => (p.1.noteEcc (8 * w) 8 .bad, .bad)
    | r => (p.1.wrMem lo (hi - lo) part, eccJoin p.2 r)

theorem State.storeEcc_eq (s : State) (k n v : Nat) (e : Ecc) :
    s.storeEcc k n v e = (wordsOf k n).foldl (State.storeWord k n v e) (s, .clean) := rfl

theorem BytesKeptBut.storeWord {k n : Nat} {p : State × Ecc} (h : BytesKeptBut s p.1 k n) (v : Nat) (e : Ecc) {w : Nat} :
    BytesKeptBut s (State.storeWord k n v e p w).1 k n := by
  have hpart : BytesKeptBut s (p.1.wrMem (max k (8 * w)) (min (k + n) (8 * w + 8) - max k (8 * w))
      (bits v (8 * (max k (8 * w) - k)) (8 * (min (k + n) (8 * w + 8) - max k (8 * w))))) k n := by
    by_cases hle : max k (8 * w) ≤ min (k + n) (8 * w + 8)
    · exact h.wrMem (le_max_left _ _) (by omega) _
    · rw [Nat.sub_eq_zero_of_le (by omega)]
      intro a ha
      rw [State.wrMem_byte, if_neg (by omega), h a ha]
  unfold State.storeWord
  dsimp only
  split
  case isTrue hfull => rw [hfull] at hpart ⊢; exact hpart
  case isFalse =>
    split
    · exact h.of_mem (State.noteEcc_mem _ _ _ _)
    · exact hpart

theorem State.storeEcc_bytesKeptBut (s : State) (k n v : Nat) (e : Ecc) : BytesKeptBut s (s.storeEcc k n v e).1 k n := by
  rw [State.storeEcc_eq]
  suffices h : ∀ (l : List Nat) (p : State × Ecc), BytesKeptBut s p.1 k n →
      BytesKeptBut s (l.foldl (State.storeWord k n v e) p).1 k n from h _ _ (BytesKeptBut.refl s k n)
  intro l
  induction l with
  | nil => exact fun _ h => h
  | cons w l ih => exact fun p h => ih _ (h.storeWord v e)

/-! ### Words without errors -/

theorem wordsOf_word (w : Nat) : wordsOf (8 * w) 8 = [w] := by
  unfold wordsOf
  rw [Nat.mul_mod_right, Nat.mul_div_cancel_left _ (by decide)]
  rfl

theorem State.hasBad_word (s : State) (w : Nat) : s.hasBad (8 * w) 8 = (sget? s.eccBad w).isSome := by
  rw [State.hasBad, wordsOf_word]
  simp

/-- A word marked in neither of the kept pairs is not marked after a write. -/
theorem sget?_filter_of_none {α : Type} (m : SMap α) (f : Nat × α → Bool) {k : Nat} (h : sget? m k = none) :
    sget? (m.filter f) k = none := by
  induction m with
  | nil => rfl
  | cons p m ih =>
    rw [sget?] at h
    split at h
    · cases h
    · rw [List.filter_cons]
      split
      · rw [sget?, if_neg (by assumption), ih h]
      · exact ih h

/-- The words from `k / 8` that hold the `n` bytes from `k` carry no error. -/
def State.WordsClean (s : State) (k n : Nat) : Prop := ∀ w ∈ wordsOf k n, s.hasBad (8 * w) 8 = false

theorem State.wordsClean_of_hasBad {k n : Nat} (h : s.hasBad k n = false) : s.WordsClean k n := fun w hw => by
  rw [State.hasBad, List.any_eq_false] at h
  rw [State.hasBad_word, ← Bool.not_eq_true]
  exact h w hw

theorem State.WordsClean.wrMem {k n : Nat} (h : s.WordsClean k n) (lo m v : Nat) : (s.wrMem lo m v).WordsClean k n := by
  intro w hw
  have hword := h w hw
  rw [State.hasBad_word] at hword ⊢
  rw [Option.isSome_eq_false_iff, Option.isNone_iff_eq_none] at hword ⊢
  exact sget?_filter_of_none _ _ hword

/-- A byte of a part of a number is that byte of the number. -/
theorem byte_of_bits (v lo n a : Nat) (h : a < n) :
    BitVec.ofNat 8 (bits v (8 * lo) (8 * n) / 256 ^ a) = BitVec.ofNat 8 (v / 256 ^ (lo + a)) := by
  refine BitVec.eq_of_toNat_eq ?_
  rw [BitVec.toNat_ofNat, BitVec.toNat_ofNat, bits]
  refine Nat.eq_of_testBit_eq fun i => ?_
  rw [show (256 : Nat) = 2 ^ 8 from rfl, ← pow_mul, ← pow_mul]
  simp only [Nat.testBit_mod_two_pow, Nat.testBit_div_two_pow]
  by_cases hi : i < 8
  · rw [decide_eq_true (show i + 8 * a < 8 * n by omega), Bool.true_and,
      show i + 8 * a + 8 * lo = i + 8 * (lo + a) by omega]
  · rw [decide_eq_false hi, Bool.false_and, Bool.false_and]

/-- The store of a word without error is the bytes of the store that lie in it. -/
theorem State.storeWord_clean {k n v w : Nat} {p : State × Ecc} (hbad : p.1.hasBad (8 * w) 8 = false) (hp : p.2 = .clean) :
    ∃ part, State.storeWord k n v .clean p w =
        (p.1.wrMem (max k (8 * w)) (min (k + n) (8 * w + 8) - max k (8 * w)) part, .clean) ∧
      part = bits v (8 * (max k (8 * w) - k)) (8 * (min (k + n) (8 * w + 8) - max k (8 * w))) := by
  refine ⟨_, ?_, rfl⟩
  unfold State.storeWord
  dsimp only
  split
  case isTrue hfull => rw [hfull, hp]
  case isFalse =>
    rw [State.eccOf, hbad, if_neg (by decide), hp]
    rfl

/-- What a store of words without error comes to, word after word. -/
structure StoredUpTo (s u : State) (k n v i : Nat) : Prop where
  clean : u.WordsClean k n
  bytes : ∀ a, u.byte a = if k ≤ a ∧ a < min (k + n) (8 * (k / 8 + i)) then BitVec.ofNat 8 (v / 256 ^ (a - k)) else s.byte a

theorem StoredUpTo.next {k n v i : Nat} {p : State × Ecc} (h : StoredUpTo s p.1 k n v i) (hp : p.2 = .clean)
    (hi : k / 8 + i ∈ wordsOf k n) : StoredUpTo s (State.storeWord k n v .clean p (k / 8 + i)).1 k n v (i + 1) ∧
      (State.storeWord k n v .clean p (k / 8 + i)).2 = .clean := by
  obtain ⟨part, hword, hpart⟩ := State.storeWord_clean (k := k) (n := n) (v := v) (h.clean _ hi) hp
  rw [hword]
  refine ⟨⟨h.clean.wrMem _ _ _, fun a => ?_⟩, rfl⟩
  dsimp only
  rw [State.wrMem_byte]
  by_cases hin : max k (8 * (k / 8 + i)) ≤ a ∧
      a < max k (8 * (k / 8 + i)) + (min (k + n) (8 * (k / 8 + i) + 8) - max k (8 * (k / 8 + i)))
  · rw [if_pos hin, if_pos (by omega), hpart, byte_of_bits _ _ _ _ (by omega)]
    congr 3
    omega
  · rw [if_neg hin, h.bytes]
    by_cases hbefore : k ≤ a ∧ a < min (k + n) (8 * (k / 8 + i))
    · rw [if_pos hbefore, if_pos (by omega)]
    · rw [if_neg hbefore, if_neg (by omega)]

theorem State.storeEcc_clean {k n : Nat} (h : s.hasBad k n = false) (v : Nat) :
    StoredUpTo s (s.storeEcc k n v .clean).1 k n v ((k % 8 + n + 7) / 8) ∧ (s.storeEcc k n v .clean).2 = .clean := by
  rw [State.storeEcc_eq, wordsOf, List.foldl_map]
  suffices hstep : ∀ i, i ≤ (k % 8 + n + 7) / 8 →
      StoredUpTo s ((List.range i).foldl (fun p j => State.storeWord k n v .clean p (k / 8 + j)) (s, .clean)).1 k n v i ∧
      ((List.range i).foldl (fun p j => State.storeWord k n v .clean p (k / 8 + j)) (s, .clean)).2 = .clean from
    hstep _ le_rfl
  intro i
  induction i with
  | zero => exact fun _ => ⟨⟨State.wordsClean_of_hasBad h, fun a => by rw [if_neg (by omega)]; rfl⟩, rfl⟩
  | succ i ih =>
    intro hi
    obtain ⟨hs, hc⟩ := ih (by omega)
    rw [List.range_succ, List.foldl_append]
    exact hs.next hc (List.mem_map.mpr ⟨i, List.mem_range.mpr (by omega), rfl⟩)

/-- A store of words without error is a plain write. -/
theorem State.storeEcc_clean_byte {k n : Nat} (h : s.hasBad k n = false) (v a : Nat) :
    (s.storeEcc k n v .clean).1.byte a = (s.wrMem k n v).byte a := by
  obtain ⟨⟨-, hb⟩, -⟩ := State.storeEcc_clean h v
  rw [hb, State.wrMem_byte]
  congr 1
  have := Nat.div_add_mod k 8
  rw [eq_iff_iff]
  omega

theorem State.storeEcc_clean_rdMem {k n : Nat} (h : s.hasBad k n = false) (v : Nat) :
    (s.storeEcc k n v .clean).1.rdMem k n = v % 256 ^ n := by
  rw [State.rdMem_congr fun a _ _ => State.storeEcc_clean_byte h v a, State.rdMem_wrMem]

theorem State.storeEcc_rf (s : State) (k n v : Nat) (e : Ecc) (j : Fk) : (s.storeEcc k n v e).1.rf j = s.rf j := by
  rw [State.storeEcc_eq]
  refine foldl_keeps (fun p : State × Ecc => p.1.rf j) (fun p w => ?_) _ _
  unfold State.storeWord State.noteEcc
  dsimp only
  split
  · rfl
  · split
    · split <;> rfl
    · rfl

end

/-! ### LD and ST -/

section

variable {s : State} {t k : Nat} {g : Guard} {a : MArgs} {e : Ecc}

theorem conclude_done (u : State) : s.conclude t k (.done u) = u.retire t k := rfl

theorem exec_ld_ready (h : CoreReady s t k) (hd : lsDecodes a = true) (hg : s.guardOn t k g) :
    exec (.ld t g a e) s = .next (s.conclude t k (checked (s.lsPlace t a).2 (s.ldBody t (s.lsPlace t a).1 a e))) := by
  rw [show exec (.ld t g a e) s = execLd t g a e s from rfl, execLd, hd, issueG_ready h hg]

theorem exec_st_ready (h : CoreReady s t k) (hd : lsDecodes a = true) (hg : s.guardOn t k g) :
    exec (.st t g a e) s = .next (s.conclude t k (checked (s.lsPlace t a).2 (s.stBody t (s.lsPlace t a).1 a e))) := by
  rw [show exec (.st t g a e) s = execSt t g a e s from rfl, execSt, hd, issueG_ready h hg]

theorem Tile.benchHeld_of_area (x : Tile) {ea : Nat} (h : areaOf ea ≠ .bench) (n : Nat) : x.benchHeld ea n = false := by
  rw [Tile.benchHeld, beq_eq_false_iff_ne.mpr h, Bool.false_and]

theorem ldBody_held {ea : Nat} (h : (s.tile t).benchHeld ea (szBytes a.sz.toNat) = true) : s.ldBody t ea a e = .wait := by
  rw [State.ldBody]
  dsimp only
  rw [if_pos h]

theorem stBody_held {ea : Nat} (h : (s.tile t).benchHeld ea (szBytes a.sz.toNat) = true) : s.stBody t ea a e = .wait := by
  rw [State.stBody]
  rw [if_pos h]

theorem ldBody_bad {ea : Nat} (hh : (s.tile t).benchHeld ea (szBytes a.sz.toNat) = false)
    (ha : areaOf ea = .desk ∨ areaOf ea = .bench) (hb : s.eccOf (tkey t ea) (szBytes a.sz.toNat) e = .bad) :
    s.ldBody t ea a e = .faultIn ((s.noteEcc (tkey t ea) (szBytes a.sz.toNat) .bad).noteRows t ea (szBytes a.sz.toNat))
      (ueCode ea) := by
  rw [State.ldBody]
  dsimp only
  rw [if_neg (by simp [hh]), hb]
  obtain ha | ha := ha <;> rw [ha]

theorem ldBody_memory {ea : Nat} (hh : (s.tile t).benchHeld ea (szBytes a.sz.toNat) = false)
    (ha : areaOf ea = .desk ∨ areaOf ea = .bench) (hb : s.eccOf (tkey t ea) (szBytes a.sz.toNat) e ≠ .bad) :
    s.ldBody t ea a e = .done (((s.openRowOf t ea).updTile t fun x =>
      x.ldWrite a (s.rdMem (tkey t ea) (szBytes a.sz.toNat))).raiseEcc t ea (szBytes a.sz.toNat)
        (s.eccOf (tkey t ea) (szBytes a.sz.toNat) e)) := by
  rw [State.ldBody]
  dsimp only
  rw [if_neg (by simp [hh])]
  generalize s.eccOf (tkey t ea) (szBytes a.sz.toNat) e = c at hb ⊢
  cases c with
  | bad => exact absurd rfl hb
  | clean => obtain ha | ha := ha <;> rw [ha]
  | corrected => obtain ha | ha := ha <;> rw [ha]

theorem ldBody_local {ea : Nat} (ha : areaOf ea = .shelf ∨ areaOf ea = .page) :
    s.ldBody t ea a e = .done ((s.localClear t ea (szBytes a.sz.toNat)).updTile t fun x =>
      x.ldWrite a (s.localRead t ea (szBytes a.sz.toNat))) := by
  rw [State.ldBody]
  dsimp only
  rw [Tile.benchHeld_of_area _ (by obtain ha | ha := ha <;> simp [ha]), if_neg (by decide)]
  obtain ha | ha := ha <;> rw [ha]

theorem stBody_memory {ea : Nat} (hh : (s.tile t).benchHeld ea (szBytes a.sz.toNat) = false)
    (ha : areaOf ea = .desk ∨ areaOf ea = .bench) :
    s.stBody t ea a e =
      .done ((s.openRowOf t ea).tileStore t ea (szBytes a.sz.toNat) ((s.tile t).stValue a) e) := by
  rw [State.stBody]
  rw [if_neg (by simp [hh])]
  obtain ha | ha := ha <;> rw [ha]

theorem stBody_local {ea : Nat} (ha : areaOf ea = .shelf ∨ areaOf ea = .page) :
    s.stBody t ea a e = .done (s.localWrite t ea (szBytes a.sz.toNat) ((s.tile t).stValue a)) := by
  rw [State.stBody]
  rw [Tile.benchHeld_of_area _ (by obtain ha | ha := ha <;> simp [ha]), if_neg (by decide)]
  obtain ha | ha := ha <;> rw [ha]

/-- A store to desk or bench touches no byte outside its own. -/
theorem State.tileStore_bytesKeptBut (s : State) (t ea n v : Nat) (e : Ecc) :
    BytesKeptBut s (s.tileStore t ea n v e) (tkey t ea) n := by
  rw [State.tileStore]
  exact (s.storeEcc_bytesKeptBut _ _ _ _).of_mem (State.raiseEcc_mem _ _ _ _ _)

theorem State.raiseEcc_clean (s : State) (t ea n : Nat) : s.raiseEcc t ea n .clean = s := rfl

/-- A store of words without error raises nothing. -/
theorem State.tileStore_clean {ea n : Nat} (h : s.hasBad (tkey t ea) n = false) (v : Nat) :
    s.tileStore t ea n v .clean = (s.storeEcc (tkey t ea) n v .clean).1 := by
  rw [State.tileStore, (State.storeEcc_clean h v).2, State.raiseEcc_clean]

theorem State.openRowOf_byte (s : State) (t ea b : Nat) : (s.openRowOf t ea).byte b = s.byte b := by
  rw [State.byte, State.openRowOf_mem, State.byte]

theorem State.openRowOf_rf (s : State) (t ea : Nat) (j : Fk) : (s.openRowOf t ea).rf j = s.rf j := by
  unfold State.openRowOf
  split <;> rfl

theorem State.openRowOf_hasBad (s : State) (t ea b n : Nat) : (s.openRowOf t ea).hasBad b n = s.hasBad b n := by
  unfold State.openRowOf
  split <;> rfl

theorem State.retire_byte (s : State) (t k b : Nat) : (s.retire t k).byte b = s.byte b := rfl

theorem State.retire_rdMem (s : State) (t k b n : Nat) : (s.retire t k).rdMem b n = s.rdMem b n :=
  State.rdMem_congr fun _ _ _ => rfl

end

/-- Settles O19. -/
theorem loadResult : Obligations.LoadResult := by
  intro s t k g a e h hd hg
  refine ⟨fun hp => ?_, fun hp hh => ?_, fun hp hh ha => ⟨fun hb => ?_, fun hb => ?_⟩, fun hp ha => ?_⟩
  · rw [exec_ld_ready h hd hg, checked_broken _ hp]
    rfl
  · rw [exec_ld_ready h hd hg, checked_ok _ hp, ldBody_held hh]
    rfl
  · rw [exec_ld_ready h hd hg, checked_ok _ hp, ldBody_bad hh ha hb]
    rfl
  · rw [exec_ld_ready h hd hg, checked_ok _ hp, ldBody_memory hh ha hb]
    rfl
  · rw [exec_ld_ready h hd hg, checked_ok _ hp, ldBody_local ha]
    rfl

/-- Settles O20. -/
theorem storeResult : Obligations.StoreResult := by
  intro s t k g a e h hd hg
  refine ⟨fun hp => ?_, fun hp hh => ?_, fun hp hh ha => ?_, fun hp ha => ?_⟩
  · rw [exec_st_ready h hd hg, checked_broken _ hp]
    rfl
  · rw [exec_st_ready h hd hg, checked_ok _ hp, stBody_held hh]
    rfl
  · refine ⟨_, by rw [exec_st_ready h hd hg, checked_ok _ hp, stBody_memory hh ha, conclude_done], ?_, ?_⟩
    · intro b hb
      rw [State.retire_byte, State.tileStore_bytesKeptBut _ t _ _ _ e b hb, State.openRowOf_byte]
    · rintro rfl hbad
      obtain ⟨-, -, -, hpc, -⟩ := h
      rw [← s.openRowOf_hasBad t (s.lsPlace t a).1] at hbad
      rw [State.tileStore_clean hbad]
      have hrf := (State.storeEcc_rf (s.openRowOf t (s.lsPlace t a).1) (tkey t (s.lsPlace t a).1) (szBytes a.sz.toNat)
        ((s.tile t).stValue a) .clean (TILE_TASK_STATE_PC t k)).trans (s.openRowOf_rf t _ _)
      refine ⟨by rw [State.retire_rdMem, State.storeEcc_clean_rdMem hbad], ?_⟩
      rw [State.retire_pc (hrf.trans_le hpc), hrf]
  · exact ⟨_, by rw [exec_st_ready h hd hg, checked_ok _ hp, stBody_local ha, conclude_done], rfl⟩

end Sys2Proof.Machine

/-! PROOF. Blocking, and the packet, queue and system instructions on a ready core. -/

namespace Sys2Proof.Machine

section

variable {s : State} {t k : Nat} {g : Guard}

/-! ### Checks -/

/-- No check of the list is broken. -/
theorem lowest_of_none {l : List (Bool × Nat)} (h : ∀ p ∈ l, p.1 = false) : lowest l = 0 := by
  unfold lowest
  suffices hfold : ∀ m, l.foldl (fun m p => if p.1 && (m == 0 || decide (p.2 < m)) then p.2 else m) m = m from hfold 0
  induction l with
  | nil => exact fun _ => rfl
  | cons p l ih =>
    intro m
    rw [List.foldl_cons, h p List.mem_cons_self, Bool.false_and, if_neg (by decide)]
    exact ih (fun q hq => h q (List.mem_cons_of_mem _ hq)) m

theorem conclude_checked_broken {l : List (Bool × Nat)} (h : lowest l ≠ 0) (body : Issue) :
    s.conclude t k (checked l body) = s.taskFault t k (lowest l) := by
  rw [checked_broken _ h]
  rfl

/-! ### Blocking -/

/-- A view that neither the state of a task nor the tasks' own records are part of is left by looking at WAITING tasks. -/
theorem State.promote_keeps {β : Type} (view : State → β)
    (hwf : ∀ u : State, ∀ k v, view (u.wf (TILE_TASK_STATE_STATE t k) v) = view u)
    (htasks : ∀ u : State, ∀ f : Tile → Tile, (∀ x, ∃ m, f x = { x with tasks := m }) → view (u.updTile t f) = view u) :
    view (s.promote t) = view s := by
  unfold State.promote
  split
  · refine foldl_keeps view (fun u k => ?_) _ s
    split
    · refine (htasks _ _ fun x => ?_).trans (hwf u k 2)
      split
      · exact ⟨x.tasks, rfl⟩
      · exact ⟨_, rfl⟩
    · rfl
  · rfl

theorem State.promote_rf {j : Fk} (h : ∀ k, (TILE_TASK_STATE_STATE t k).key ≠ j.key) : (s.promote t).rf j = s.rf j :=
  State.promote_keeps (State.rf · j) (fun u k v => u.rf_wf_ne v (h k).symm) fun _ _ _ => rfl

theorem State.promote_mq : ((s.promote t).tile t).mq = (s.tile t).mq := by
  refine State.promote_keeps (fun u => (u.tile t).mq) (fun _ _ _ => rfl) fun u f hf => ?_
  obtain ⟨m, hm⟩ := hf (u.tile t)
  rw [State.tile_updTile_self, hm]

theorem waitOn_ne_taskState (t k j : Nat) : (TILE_TASK_STATE_STATE t j).key ≠ (TILE_TASK_STATE_WAIT_ON t k).key := by
  simp only [Fk.key, TILE_TASK_STATE_STATE, TILE_TASK_STATE_WAIT_ON]
  omega

/-- A blocked task waits on what its instruction names. -/
theorem conclude_block_waitOn {w : Nat} (hw : w < 32) :
    (s.conclude t k (.block w)).rf (TILE_TASK_STATE_WAIT_ON t k) = w := by
  rw [State.conclude, State.leaveTask_eq, State.promote_rf fun j => waitOn_ne_taskState t k j]
  refine (State.rf_wf_ne _ _ (waitOn_ne_taskState t k k).symm).trans ?_
  rw [State.updTile_rf, State.rf_wf_self, Nat.mod_eq_of_lt hw]
  exact Nat.mod_eq_of_lt hw

theorem conclude_block_mq (w : Nat) : ((s.conclude t k (.block w)).tile t).mq = (s.tile t).mq := by
  rw [State.conclude, State.leaveTask_eq, State.promote_mq, State.offCore, State.deselect, State.tile_updTile_self,
    State.tile_updTile_self]
  dsimp only
  rw [State.wf_tile, State.tile_updTile_self, State.wf_tile, State.bump_tile]
  rfl

/-! ### PUT and GET -/

section

variable {a : MArgs}

theorem exec_put_ready (h : CoreReady s t k) (hd : putDecodes a = true) (hg : s.guardOn t k g) :
    exec (.put t g a) s = .next (s.conclude t k (checked (s.gpPlace t a).2
      (if isDoorbell s (s.gpPlace t a).1 && s.storesWait t k then .wait
        else s.gpBody t (s.gpPlace t a).1 (s.corePacket t (s.gpPlace t a).1 0 (szBytes a.sz.toNat) 0
          ((s.tile t).stValue a))))) := by
  rw [show exec (.put t g a) s = execPut t g a s from rfl, execPut, hd, issueG_ready h hg]

theorem exec_get_ready (h : CoreReady s t k) (hd : getDecodes a = true) (hg : s.guardOn t k g) :
    exec (.get t g a) s = .next (s.conclude t k (checked
      ((!(((s.tile t).task k).inMask.testBit a.q.toNat), 0x1003) :: (s.gpPlace t a).2)
      (s.gpBody t (s.gpPlace t a).1 (s.corePacket t (s.gpPlace t a).1 1 (szBytes a.sz.toNat) a.q.toNat 0)))) := by
  rw [show exec (.get t g a) s = execGet t g a s from rfl, execGet, hd, issueG_ready h hg]

theorem gpBody_sent {ea : Nat} (p : Packet) (h : (s.edgeCheck t ea).1 = true) :
    s.gpBody t ea p = .done ((s.edgeCheck t ea).2.2.send { p with pa := (s.edgeCheck t ea).2.1 }) := by
  rw [State.gpBody, if_pos h]

theorem gpBody_refused {ea : Nat} (p : Packet) (h : (s.edgeCheck t ea).1 = false) :
    s.gpBody t ea p = .faultIn (s.edgeCheck t ea).2.2 0x1008 := by
  rw [State.gpBody, if_neg (by simp [h])]

/-- The checks of an address come after the check of the reply queue. -/
theorem gpPlace_codes (s : State) (t : Nat) (a : MArgs) : ∀ p ∈ (s.gpPlace t a).2, 0x1003 ≤ p.2 := by
  rw [State.gpPlace]
  split
  · split <;> simp
  · simp

end

/-- Settles O22. -/
theorem putGet : Obligations.PutGet := by
  intro s t k g a h hg
  refine ⟨fun hd hp => ?_, fun hd hp hh => ?_, fun hd hp hh he => ?_, fun hd hp hh he => ?_, fun hd hq => ?_,
    fun hd hq hp he => ?_⟩
  · rw [exec_put_ready h hd hg, conclude_checked_broken hp]
  · rw [exec_put_ready h hd hg, checked_ok _ hp, if_pos hh]
    rfl
  · rw [exec_put_ready h hd hg, checked_ok _ hp, if_neg hh, gpBody_sent _ he, conclude_done]
  · rw [exec_put_ready h hd hg, checked_ok _ hp, if_neg hh, gpBody_refused _ he]
    rfl
  · rw [exec_get_ready h hd hg, hq, Bool.not_false, conclude_checked_broken, lowest_of_head _ _ (by decide) (gpPlace_codes s t a)]
    rw [lowest_of_head _ _ (by decide) (gpPlace_codes s t a)]
    decide
  · rw [exec_get_ready h hd hg, hq, Bool.not_true, checked_ok _ ((lowest_false _ _).trans hp), gpBody_sent _ he, conclude_done]

/-! ### Queues -/

section

variable {a : QArgs} {q : Nat} {l : List (Bool × Nat)}

theorem pop_head {e : Entry} (hq : ((s.tile t).task k).inMask.testBit q = true) (hl : lowest l = 0) (he : s.headIn t q = some e)
    (f : State → Entry → State) : s.pop t k q l f = .done ((f s e).popIn t q) := by
  rw [State.pop, hq, Bool.not_true, checked_ok _ ((lowest_false _ _).trans hl), he]

theorem pop_empty (hq : ((s.tile t).task k).inMask.testBit q = true) (hl : lowest l = 0) (he : s.headIn t q = none)
    (f : State → Entry → State) : s.pop t k q l f = .block q := by
  rw [State.pop, hq, Bool.not_true, checked_ok _ ((lowest_false _ _).trans hl), he]

theorem push_room (hq : ((s.tile t).task k).outMask.testBit q = true) (hl : lowest l = 0) (hr : s.outRoom t q ≠ 0) (e : Issue) :
    s.push t k q l e = e := by
  rw [State.push, hq, Bool.not_true, checked_ok _ ((lowest_false _ _).trans hl), if_neg hr]

theorem push_full (hq : ((s.tile t).task k).outMask.testBit q = true) (hl : lowest l = 0) (hr : s.outRoom t q = 0) (e : Issue) :
    s.push t k q l e = .block (8 + q) := by
  rw [State.push, hq, Bool.not_true, checked_ok _ ((lowest_false _ _).trans hl), if_pos hr]

theorem deskChecks_ok {ea : Nat} (ha : ea % 64 = 0) (hr : ea + 64 ≤ 0xC000) : lowest (deskChecks ea) = 0 := by
  refine lowest_of_none fun p hp => ?_
  simp only [deskChecks, List.mem_cons, List.not_mem_nil, or_false] at hp
  obtain rfl | rfl := hp
  · simp [ha]
  · simpa using hr

theorem exec_pops_ready (h : CoreReady s t k) (hd : qsDecodes a = true) (hg : s.guardOn t k g) :
    exec (.pops t g a) s = .next (s.conclude t k (s.pop t k a.qn.toNat [] fun s e =>
      s.updTile t fun x => x.wsreg a.r.toNat (BitVec.ofNat 32 e.toNat))) := by
  rw [show exec (.pops t g a) s = execPops t g a s from rfl, execPops, hd, issueG_ready h hg]

theorem exec_skip_ready (h : CoreReady s t k) (hd : skipDecodes a = true) (hg : s.guardOn t k g) :
    exec (.skip t g a) s = .next (s.conclude t k (s.pop t k a.qn.toNat [] fun s _ => s)) := by
  rw [show exec (.skip t g a) s = execSkip t g a s from rfl, execSkip, hd, issueG_ready h hg]

theorem exec_pushs_ready (h : CoreReady s t k) (hd : qsDecodes a = true) (hg : s.guardOn t k g) :
    exec (.pushs t g a) s = .next (s.conclude t k (s.push t k a.qn.toNat []
      (.done (s.pushOut t a.qn.toNat (BitVec.ofNat 512 ((s.tile t).sreg a.r.toNat).toNat))))) := by
  rw [show exec (.pushs t g a) s = execPushs t g a s from rfl, execPushs, hd, issueG_ready h hg]

end

/-- Settles O23. -/
theorem queuePops : Obligations.QueuePops := by
  intro s t k g a h hg
  refine ⟨fun e hq he => ⟨fun hd => ?_, fun hd => ?_, fun hd => ?_, fun hd ha hr => ?_⟩, fun hq he hd => ?_, fun hq hd => ?_⟩
  · rw [exec_pops_ready h hd hg, pop_head hq rfl he, conclude_done]
  · rw [show exec (.popv t g a) s = execPopv t g a s from rfl, execPopv, hd, issueG_ready h hg, pop_head hq rfl he, conclude_done]
  · rw [exec_skip_ready h hd hg, pop_head hq rfl he, conclude_done]
  · rw [show exec (.popd t g a) s = execPopd t g a s from rfl, execPopd, hd, issueG_ready h hg,
      pop_head hq (deskChecks_ok ha hr) he, conclude_done]
  · refine ⟨_, exec_pops_ready h hd hg, ?_⟩
    rw [pop_empty hq rfl he]
    exact conclude_block_waitOn (Nat.lt_trans a.qn.isLt (by decide))
  · rw [exec_skip_ready h hd hg, State.pop, hq]
    rfl

/-- Settles O24. -/
theorem queuePushes : Obligations.QueuePushes := by
  intro s t k g a h hg
  refine ⟨fun hq hr => ⟨fun hd => ?_, fun hd => ?_, fun hd ha hea hb => ?_⟩, fun hd => ?_, fun hq hr hd => ?_⟩
  · rw [exec_pushs_ready h hd hg, push_room hq rfl hr, conclude_done]
  · rw [show exec (.pushv t g a) s = execPushv t g a s from rfl, execPushv, hd, issueG_ready h hg, push_room hq rfl hr,
      conclude_done]
  · rw [show exec (.pushd t g a .clean) s = execPushd t g a .clean s from rfl, execPushd, hd, issueG_ready h hg,
      push_room hq (deskChecks_ok ha hea) hr, State.eccOf, hb, if_neg (by decide)]
    dsimp only
    rw [State.raiseEcc_clean, conclude_done]
  · rw [show exec (.qcnt t g a) s = execQcnt t g a s from rfl, execQcnt, hd, issueG_ready h hg, conclude_done]
  · refine ⟨_, exec_pushs_ready h hd hg, ?_⟩
    rw [push_full hq rfl hr]
    have hn := a.qn.isLt
    exact conclude_block_waitOn (by omega)

/-! ### System instructions -/

/-- The checks of a row operation whose rows lie in the bench. -/
theorem rowChecks_eq (c : Bool) (b : Bool) (hb : b = false) :
    lowest [(b, 0x1005), (c, 0x1009)] = if c then 0x1009 else 0 := by
  subst hb
  cases c <;> rfl

/-- Settles O25. -/
theorem systemInstructions : Obligations.SystemInstructions := by
  intro s t k g a h hg
  refine ⟨fun hd => ?_, fun hd => ?_, fun e hd he ho => ?_, fun e hd he ho => ?_, fun e hd he => ?_, fun hd hi hok => ?_,
    fun hd hi => ?_, fun hd => ?_, fun hd => ?_, fun hd hr hp => ?_, fun hd hr hp => ?_⟩
  · rw [show exec (.rdid t g a) s = execRdid t g a s from rfl, execRdid, hd, issueG_ready h hg, conclude_done]
  · rw [show exec (.rdcyc t g a) s = execRdcyc t g a s from rfl, execRdcyc, hd, issueG_ready h hg, conclude_done]
    rfl
  · rw [show exec (.haddr t g a) s = execHaddr t g a s from rfl, execHaddr, hd, issueG_ready h hg, he]
    dsimp only
    rw [if_pos ho, conclude_done]
  · rw [show exec (.haddr t g a) s = execHaddr t g a s from rfl, execHaddr, hd, issueG_ready h hg, he]
    dsimp only
    rw [if_neg (Nat.not_lt.mpr ho)]
    rfl
  · rw [show exec (.hgen t g a) s = execHgen t g a s from rfl, execHgen, hd, issueG_ready h hg, he, conclude_done]
  · rw [show exec (.sstart t g a) s = execSstart t g a s from rfl, execSstart, hd, issueG_ready h hg]
    dsimp only
    rw [hi, hok, Bool.not_true, if_neg (by decide), if_neg (by decide), conclude_done]
  · rw [show exec (.sstart t g a) s = execSstart t g a s from rfl, execSstart, hd, issueG_ready h hg]
    dsimp only
    rw [hi, Bool.not_false, if_pos rfl]
    rfl
  · rw [show exec (.sstop t g a) s = execSstop t g a s from rfl, execSstop, hd, issueG_ready h hg, conclude_done]
  · rw [show exec (.sstat t g a) s = execSstat t g a s from rfl, execSstat, hd, issueG_ready h hg, conclude_done]
  · rw [show exec (.row t g a) s = execRow t g a s from rfl, execRow, hd, issueG_ready h hg]
    dsimp only
    rw [checked_ok _ (by rw [rowChecks_eq _ _ hr, hp]; rfl), conclude_done]
  · rw [show exec (.row t g a) s = execRow t g a s from rfl, execRow, hd, issueG_ready h hg]
    dsimp only
    rw [conclude_checked_broken (by rw [rowChecks_eq _ _ hr, hp]; decide), rowChecks_eq _ _ hr, hp]
    rfl

end

end Sys2Proof.Machine

/-! PROOF. The matrix instructions at issue: past their checks they join the issue queue, or block while it is full. -/

namespace Sys2Proof.Machine

section

variable {s : State} {t k : Nat} {g : Guard} {a : XArgs}

/-! ### The issue queue -/

/-- The tile's issue queue with one more operation, and the next instruction. -/
def State.mqJoin (s : State) (t k : Nat) (m : MOp) : State :=
  (s.updTile t fun x => { x with mq := x.mq ++ [{ m with pc := s.rf (TILE_TASK_STATE_PC t k) }] }).retire t k

theorem mqPush_room {m : MOp} (h : (s.tile t).mq.length < 8) (hm : m.task = k) :
    s.conclude t k (s.mqPush t m) = s.mqJoin t k m := by
  subst hm
  rw [State.mqPush, if_neg (Nat.not_le.mpr h), conclude_done]
  rfl

theorem mqPush_full {m : MOp} (h : 8 ≤ (s.tile t).mq.length) : s.mqPush t m = .block 16 := by
  rw [State.mqPush, if_pos h]

theorem mqPush_checked {l : List (Bool × Nat)} {m : MOp} (h : (s.tile t).mq.length < 8) (hm : m.task = k)
    (hl : ∀ p ∈ l, p.1 = false) : s.conclude t k (checked l (s.mqPush t m)) = s.mqJoin t k m := by
  rw [checked_ok _ (lowest_of_none hl), mqPush_room h hm]

/-! ### Operand checks -/

theorem deskRange_ok {ea al n : Nat} (h : ea % al = 0 ∧ ea + n ≤ 0xC000) : ∀ p ∈ deskRange ea al n, p.1 = false := by
  intro p hp
  simp only [deskRange, List.mem_cons, List.not_mem_nil, or_false] at hp
  obtain rfl | rfl := hp
  · simp [h.1]
  · simpa using h.2

theorem inDecl_ok {q : Nat} (h : ((s.tile t).task k).inMask.testBit q = true) : (s.inDecl t k q).1 = false := by
  rw [State.inDecl, h]
  rfl

theorem outDecl_ok {q : Nat} (h : ((s.tile t).task k).outMask.testBit q = true) : (s.outDecl t k q).1 = false := by
  rw [State.outDecl, h]
  rfl

/-- The source of a matrix operation, a declared queue or a range of the desk, passes its check. -/
theorem sourceChecks_ok {dq : BitVec 1} {q : Bool × Nat} {ea al n : Nat}
    (h : if dq = 1 then q.1 = false else ea % al = 0 ∧ ea + n ≤ 0xC000) :
    ∀ p ∈ (if (dq == 1) = true then [q] else deskRange ea al n), p.1 = false := by
  by_cases hq : dq = 1
  · rw [if_pos hq] at h
    rw [if_pos (beq_iff_eq.mpr hq)]
    intro p hp
    rw [List.mem_singleton.mp hp, h]
  · rw [if_neg hq] at h
    rw [if_neg (by simpa using hq)]
    exact deskRange_ok h

/-- A check that stands only under a condition. -/
theorem optionalCheck_ok {b : Bool} {c : Bool × Nat} (h : b = true → c.1 = false) :
    ∀ p ∈ (if b = true then [c] else []), p.1 = false := by
  intro p hp
  split at hp
  case isTrue hb => rw [List.mem_singleton.mp hp, h hb]
  case isFalse => exact absurd hp List.not_mem_nil

theorem formats_ok {fa fb : Nat} (h : fmtPairOk fa fb = true) {l : List (Bool × Nat)} (hl : ∀ p ∈ l, p.1 = false) :
    ∀ p ∈ (!fmtPairOk fa fb, 0x1002) :: l, p.1 = false := by
  intro p hp
  obtain rfl | hp := List.mem_cons.mp hp
  · simp [h]
  · exact hl p hp

theorem append_ok {l m : List (Bool × Nat)} (hl : ∀ p ∈ l, p.1 = false) (hm : ∀ p ∈ m, p.1 = false) :
    ∀ p ∈ l ++ m, p.1 = false := fun p hp => (List.mem_append.mp hp).elim (hl p) (hm p)

/-! ### The instructions -/

theorem exec_mza_ready (h : CoreReady s t k) (hd : mzaDecodes a = true) (hg : s.guardOn t k g) :
    exec (.mza t g a) s = .next (s.conclude t k (s.mqPush t ((s.tile t).mop k .mza a))) := by
  rw [show exec (.mza t g a) s = execMza t g a s from rfl, execMza, hd, issueG_ready h hg]

theorem exec_mldw_joins (h : CoreReady s t k) (hg : s.guardOn t k g) (hmq : (s.tile t).mq.length < 8)
    (hd : mldwDecodes a = true) (hsrc : if a.dq = 1 then ((s.tile t).task k).inMask.testBit a.qa.toNat = true
      else ((s.tile t).sreg a.rb.toNat).toNat % 64 = 0 ∧ ((s.tile t).sreg a.rb.toNat).toNat + 512 ≤ 0xC000) :
    exec (.mldw t g a) s = .next (s.mqJoin t k ((s.tile t).mop k .mldw a)) := by
  rw [show exec (.mldw t g a) s = execMldw t g a s from rfl, execMldw, hd, issueG_ready h hg]
  refine congrArg Host.Outcome.next (mqPush_checked hmq rfl (sourceChecks_ok ?_))
  split at hsrc
  case isTrue hq => rw [if_pos hq]; exact inDecl_ok hsrc
  case isFalse hq => rw [if_neg hq]; exact hsrc

theorem exec_mma_joins (h : CoreReady s t k) (hg : s.guardOn t k g) (hmq : (s.tile t).mq.length < 8)
    (hd : mmaDecodes a = true) (hf : fmtPairOk a.fa.toNat a.fb.toNat = true)
    (hsrc : if a.dq = 1 then ((s.tile t).task k).inMask.testBit a.qa.toNat = true
      else ((s.tile t).sreg a.rb.toNat).toNat % 32 = 0 ∧
        ((s.tile t).sreg a.rb.toNat).toNat + (15 * a.stride.toNat * 32 + 32) ≤ 0xC000) :
    exec (.mma t g a) s = .next (s.mqJoin t k ((s.tile t).mop k .mma a)) := by
  rw [show exec (.mma t g a) s = execMma t g a s from rfl, execMma, hd, issueG_ready h hg]
  refine congrArg Host.Outcome.next (mqPush_checked hmq rfl (formats_ok hf (sourceChecks_ok ?_)))
  split at hsrc
  case isTrue hq => rw [if_pos hq]; exact inDecl_ok hsrc
  case isFalse hq => rw [if_neg hq]; exact hsrc

theorem exec_msta_joins (h : CoreReady s t k) (hg : s.guardOn t k g) (hmq : (s.tile t).mq.length < 8)
    (hd : mstaDecodes a = true) (hdst : if a.dq = 1 then ((s.tile t).task k).outMask.testBit a.qo.toNat = true
      else ((s.tile t).sreg a.rb.toNat).toNat % 64 = 0 ∧
        ((s.tile t).sreg a.rb.toNat).toNat + 16 * mstaRow a.t.toNat ≤ 0xC000) :
    exec (.msta t g a) s = .next (s.mqJoin t k ((s.tile t).mop k .msta a)) := by
  rw [show exec (.msta t g a) s = execMsta t g a s from rfl, execMsta, hd, issueG_ready h hg]
  refine congrArg Host.Outcome.next (mqPush_checked hmq rfl (sourceChecks_ok ?_))
  split at hdst
  case isTrue hq => rw [if_pos hq]; exact outDecl_ok hdst
  case isFalse hq => rw [if_neg hq]; exact hdst

theorem exec_mmag_joins (h : CoreReady s t k) (hg : s.guardOn t k g) (hmq : (s.tile t).mq.length < 8)
    (hd : mmagDecodes a ((s.gang t).testBit 11) = true) (hf : fmtPairOk a.fa.toNat a.fb.toNat = true)
    (hin : ((s.tile t).task k).inMask.testBit (bits (s.gang t) 0 3) = true)
    (haout : (s.gang t).testBit 3 = true → ((s.tile t).task k).outMask.testBit (bits (s.gang t) 4 3) = true)
    (hpin : (s.gang t).testBit 7 = true → ((s.tile t).task k).inMask.testBit (bits (s.gang t) 8 3) = true)
    (hpout : (s.gang t).testBit 11 = false → ((s.tile t).task k).outMask.testBit (bits (s.gang t) 12 3) = true) :
    exec (.mmag t g a) s = .next (s.mqJoin t k { (s.tile t).mop k .mmag a with bind := s.gang t }) := by
  rw [show exec (.mmag t g a) s = execMmag t g a s from rfl, execMmag, hd, issueG_ready h hg]
  refine congrArg Host.Outcome.next (mqPush_checked hmq rfl (append_ok (append_ok (append_ok (formats_ok hf ?_) ?_) ?_) ?_))
  · intro p hp
    rw [List.mem_singleton.mp hp, inDecl_ok hin]
  · exact optionalCheck_ok fun hb => outDecl_ok (haout hb)
  · exact optionalCheck_ok fun hb => inDecl_ok (hpin hb)
  · intro p hp
    split at hp
    case isTrue => exact absurd hp List.not_mem_nil
    case isFalse hb => rw [List.mem_singleton.mp hp, outDecl_ok (hpout (by simpa using hb))]

theorem exec_mmas_joins (h : CoreReady s t k) (hg : s.guardOn t k g) (hmq : (s.tile t).mq.length < 8)
    (hd : mmasDecodes a = true) (hf : fmtPairOk a.fa.toNat a.fb.toNat = true)
    (hsrc : if a.dq = 1 then ((s.tile t).task k).inMask.testBit a.qa.toNat = true
      else ((s.tile t).sreg a.rb.toNat).toNat % 64 = 0 ∧ ((s.tile t).sreg a.rb.toNat).toNat + 64 ≤ 0xC000)
    (hspb : a.spb = 1 → ((s.tile t).task k).outMask.testBit a.qo.toNat = true ∧
      ∃ e, s.resolve t (s.rf (TILE_SPARSE_B_H t)) = some e ∧ e.place ≠ 3) :
    exec (.mmas t g a) s = .next (s.mqJoin t k
      { (s.tile t).mop k .mmas a with
          bind := s.regWord (tilePage t + 0xE00)
          bBase := tkey t (((s.resolve t (s.rf (TILE_SPARSE_B_H t))).map (·.base)).getD 0)
          bLen := ((s.resolve t (s.rf (TILE_SPARSE_B_H t))).map (·.len)).getD 0
          bWide := ((s.resolve t (s.rf (TILE_SPARSE_B_H t))).map (·.wide)).getD false }) := by
  rw [show exec (.mmas t g a) s = execMmas t g a s from rfl, execMmas, hd, issueG_ready h hg]
  refine congrArg Host.Outcome.next (mqPush_checked hmq rfl (append_ok (formats_ok hf (sourceChecks_ok ?_)) fun p hp => ?_))
  · split at hsrc
    case isTrue hq => rw [if_pos hq]; exact inDecl_ok hsrc
    case isFalse hq => rw [if_neg hq]; exact hsrc
  · split at hp
    case isTrue hb =>
      obtain ⟨hout, e, he, hplace⟩ := hspb (beq_iff_eq.mp hb)
      rw [he] at hp
      simp only [List.mem_cons, List.not_mem_nil, or_false] at hp
      obtain rfl | rfl | rfl := hp
      · exact outDecl_ok hout
      · rfl
      · simpa using hplace
    case isFalse => exact absurd hp List.not_mem_nil

end

/-- Settles O26. -/
theorem matrixIssue : Obligations.MatrixIssue := by
  intro s t k g a h hg
  refine ⟨fun hmq => ⟨exec_mldw_joins h hg hmq, exec_mma_joins h hg hmq, fun hd => ?_, fun hd => ?_, exec_msta_joins h hg hmq,
    exec_mmag_joins h hg hmq, exec_mmas_joins h hg hmq⟩, fun hmq hd => ?_, fun hd hp => ?_⟩
  · exact (exec_mza_ready h hd hg).trans (congrArg Host.Outcome.next (mqPush_room hmq rfl))
  · rw [show exec (.mwra t g a) s = execMwra t g a s from rfl, execMwra, hd, issueG_ready h hg]
    exact congrArg Host.Outcome.next (mqPush_room hmq rfl)
  · refine ⟨_, exec_mza_ready h hd hg, ?_⟩
    rw [mqPush_full hmq]
    exact ⟨conclude_block_waitOn (by decide), conclude_block_mq 16⟩
  · rw [show exec (.mrda t g a) s = execMrda t g a s from rfl, execMrda, hd, issueG_ready h hg, hp, if_neg (by decide),
      conclude_done]

end Sys2Proof.Machine

/-! PROOF. The steps of the matrix unit: its queue, its accumulators, and one step of each kind of operation. -/

namespace Sys2Proof.Machine

/-! ### Lists and tables -/

theorem modifyAt_eq_modify {α : Type} (l : List α) (i : Nat) (f : α → α) : modifyAt l i f = l.modify i f := by
  unfold modifyAt
  split
  case h_1 x hx =>
    obtain ⟨hi, rfl⟩ := List.getElem?_eq_some_iff.mp hx
    rw [List.modify_eq_take_cons_drop hi]
  case h_2 hx => rw [List.modify_eq_self (List.getElem?_eq_none_iff.mp hx)]

theorem getElem?_modifyAt {α : Type} (l : List α) (i : Nat) (f : α → α) : (modifyAt l i f)[i]? = l[i]?.map f := by
  rw [modifyAt_eq_modify, List.getElem?_modify]
  simp

theorem sget?_sclear {α : Type} (m : SMap α) (a b k : Nat) :
    sget? (sclear m a b) k = if a ≤ k ∧ k < b then none else sget? m k := by
  unfold sclear
  induction m with
  | nil => simp
  | cons e m ih =>
    obtain ⟨j, v⟩ := e
    rw [List.filter_cons]
    by_cases hj : j < a ∨ b ≤ j
    · rw [if_pos (by simpa using hj), sget?, sget?, ih]
      by_cases hk : j = k
      · rw [if_pos hk, if_neg (by omega), if_pos hk]
      · rw [if_neg hk, if_neg hk]
    · rw [if_neg (by simpa using hj), ih, sget?]
      by_cases hk : j = k
      · rw [if_pos (by omega), if_pos (by omega)]
      · rw [if_neg hk]

theorem sget_sclear {α : Type} (d : α) (m : SMap α) (a b k : Nat) :
    sget d (sclear m a b) k = if a ≤ k ∧ k < b then d else sget d m k := by
  unfold sget
  rw [sget?_sclear]
  split <;> rfl

/-! ### Accumulators -/

theorem Tile.accEl_setAccRow (x : Tile) (a r v j : Nat) (hj : j < 16) :
    (x.setAccRow a r v).accEl a r j = BitVec.ofNat 32 (v / 2 ^ (32 * j)) := by
  unfold Tile.setAccRow
  suffices h : ∀ m, m ≤ 16 → j < m → ((List.range m).foldl (fun x n =>
      x.setAccEl a r n (BitVec.ofNat 32 (v / 2 ^ (32 * n)))) x).accEl a r j = BitVec.ofNat 32 (v / 2 ^ (32 * j)) from
    h 16 le_rfl hj
  intro m
  induction m with
  | zero => intro _ h; omega
  | succ m ih =>
    intro hm hlt
    rw [List.range_succ, List.foldl_append, List.foldl_cons, List.foldl_nil]
    unfold Tile.setAccEl Tile.accEl
    rw [sget_sset]
    by_cases he : j = m
    · rw [if_pos (by omega), he]
    · rw [if_neg (by omega)]
      exact ih (by omega) (by omega)

theorem Tile.setAccRow_only (x : Tile) (a r v : Nat) : ∃ m, x.setAccRow a r v = { x with acc := m } := by
  unfold Tile.setAccRow
  generalize List.range 16 = l
  suffices h : ∀ y : Tile, (∃ m, y = { x with acc := m }) →
      ∃ m, l.foldl (fun x n => x.setAccEl a r n (BitVec.ofNat 32 (v / 2 ^ (32 * n)))) y = { x with acc := m } from
    h x ⟨x.acc, rfl⟩
  induction l with
  | nil => exact fun y hy => hy
  | cons n l ih =>
    rintro y ⟨m, rfl⟩
    exact ih _ ⟨_, rfl⟩

theorem Tile.setAccRow_inQ (x : Tile) (a r v k : Nat) : (x.setAccRow a r v).inQ k = x.inQ k := by
  obtain ⟨m, hm⟩ := x.setAccRow_only a r v
  rw [hm]
  rfl

theorem Tile.setAccRow_mq (x : Tile) (a r v : Nat) : (x.setAccRow a r v).mq = x.mq := by
  obtain ⟨m, hm⟩ := x.setAccRow_only a r v
  rw [hm]

/-! ### The issue queue of a tile -/

section

variable {s : State} {t i : Nat} {m : MOp}

theorem State.updMop_tile (f : MOp → MOp) : (s.updMop t i f).tile t = { s.tile t with mq := modifyAt (s.tile t).mq i f } := by
  rw [State.updMop, State.tile_updTile_self]

theorem State.updMop_getElem? (f : MOp → MOp) : ((s.updMop t i f).tile t).mq[i]? = (s.tile t).mq[i]?.map f := by
  rw [State.updMop_tile, getElem?_modifyAt]

@[simp] theorem State.updMop_accEl (f : MOp → MOp) (a r n : Nat) :
    ((s.updMop t i f).tile t).accEl a r n = (s.tile t).accEl a r n := by
  rw [State.updMop_tile]
  rfl

theorem State.updMop_inQ (f : MOp → MOp) (k : Nat) : ((s.updMop t i f).tile t).inQ k = (s.tile t).inQ k := by
  rw [State.updMop_tile]
  rfl

@[simp] theorem State.stepMop_accEl (n a r j : Nat) : ((s.stepMop t i n).tile t).accEl a r j = (s.tile t).accEl a r j :=
  State.updMop_accEl _ _ _ _

/-- One step of a started operation of each kind. -/
def State.mopRow (s : State) (t i : Nat) (m : MOp) (e : Ecc) : MKind → State
  | .mldw => s.mldwRow t i m e
  | .mma => s.mmaRow t i m e
  | .mmag => s
  | .mmas => s.mmasRow t i m e
  | .mza => (s.updTile t fun x => { x with acc := sclear x.acc (m.acc * 256) ((m.acc + 1) * 256) }).stepMop t i 1
  | .mwra => (s.updTile t fun x => x.setAccRow m.acc m.row m.data.toNat).stepMop t i 1
  | .msta => s.mstaRowOut t i m

theorem exec_matrixRow_eq (hm : (s.tile t).mq[i]? = some m) (hl : s.tileLive t = true) (hs : m.started = true)
    (hf : m.finished = false) {kd : MKind} (hk : m.kind = kd) (e : Ecc) :
    exec (.matrixRow t i e) s = .next (s.mopRow t i m e kd) := by
  subst hk
  rw [show exec (.matrixRow t i e) s = execMatrixRow t i e s from rfl, execMatrixRow, hm]
  dsimp only
  rw [if_neg (by simp [hl, hs, hf])]
  cases m.kind <;> rfl

/-- An operation starts. -/
theorem exec_matrixOpStart_starts (hm : (s.tile t).mq[i]? = some m) (hl : s.tileLive t = true) (hs : m.started = false)
    (hb : (((s.tile t).mq.take i).filter (!·.finished)).all (fun p => p.kind.path != m.kind.path && !p.conflicts m) = true) :
    exec (.matrixOpStart t i) s = .next (s.updMop t i fun m => { m with started := true }) := by
  have hany : ((((s.tile t).mq.take i).filter (!·.finished)).any
      fun p => p.kind.path == m.kind.path || p.conflicts m) = false := by
    rw [List.any_eq_false]
    intro p hp
    have hp' := List.all_eq_true.mp hb p hp
    rw [Bool.and_eq_true, bne_iff_ne, Bool.not_eq_true'] at hp'
    rw [Bool.or_eq_true, beq_iff_eq, hp'.2]
    exact fun h => h.elim hp'.1 Bool.false_ne_true
  rw [show exec (.matrixOpStart t i) s = execMatrixOpStart t i s from rfl, execMatrixOpStart, hm]
  dsimp only
  rw [hs, hl, hany, if_neg (by decide)]
  rfl

/-- A row of MSTA to the desk writes that row's bytes. -/
theorem mstaRowOut_bytesKeptBut (hq : m.dq = false) :
    BytesKeptBut s (s.mstaRowOut t i m) (tkey t (m.base + m.done * mstaRow m.ty)) (mstaRow m.ty) := by
  rw [State.mstaRowOut]
  dsimp only
  rw [hq, if_neg (by decide)]
  exact (s.bytesKeptBut_wrMem _ _ _).of_mem ((State.stepMop_mem _ _ _ _).trans (State.setFlags_mem _ _ _))

theorem mmasRow_collects (hd : m.done = 0) (hq : m.dq = true) {d : Entry} (he : s.headIn t m.qa = some d)
    (hn : m.buf.length + 1 < groupBytes m (((m.buf ++ [d]).headD 0).toNat) / 64) (e : Ecc) :
    s.mmasRow t i m e = (s.popIn t m.qa).updMop t i fun m' => { m' with buf := m.buf ++ [d] } := by
  rw [State.mmasRow, if_neg (by omega), if_pos hq, he]
  dsimp only
  rw [if_pos (by rwa [List.length_append, List.length_singleton])]

/-- The finished operation at the head of the queue leaves it. -/
theorem exec_matrixOpComplete_eq (hm : (s.tile t).mq[0]? = some m) (hf : m.finished = true) :
    exec (.matrixOpComplete t) s = .next (if m.kind = .mmas then
        (s.updTile t fun x => { x with mq := (s.tile t).mq.drop 1 }).bump (TILE_SP_OPS_COUNT t)
      else s.updTile t fun x => { x with mq := (s.tile t).mq.drop 1 }) := by
  rw [show exec (.matrixOpComplete t) s = execMatrixOpComplete t s from rfl, execMatrixOpComplete]
  cases hq : (s.tile t).mq with
  | nil => rw [hq] at hm; cases hm
  | cons p rest =>
    rw [hq] at hm
    cases hm
    dsimp only
    rw [if_pos hf]
    rfl

/-! ### One row of MMAG -/

theorem State.popIn_inQ (k : Nat) : ((s.popIn t k).tile t).inQ k = ((s.tile t).inQ k).tail := by
  unfold State.popIn Tile.inQ
  dsimp only
  rw [State.tile_updTile_self]
  dsimp only
  rw [sget_sset_self]
  split <;> rfl

theorem State.popIn_mq (k : Nat) : ((s.popIn t k).tile t).mq = (s.tile t).mq := by
  unfold State.popIn
  dsimp only
  rw [State.tile_updTile_self]
  dsimp only
  split <;> rfl

/-- What a row of MMAG does to its tile's queues: the head of AIN leaves, and the operation holds it and has one row more
done. -/
structure RowTaken (s u : State) (t i q : Nat) (m : MOp) (d : Entry) : Prop where
  inQ : (u.tile t).inQ q = ((s.tile t).inQ q).tail
  op : ∃ m', (u.tile t).mq[i]? = some m' ∧ m'.done = m.done + 1 ∧ m'.held = some d

theorem mmagRow_taken (hm : (s.tile t).mq[i]? = some m) (hpin : m.bind.testBit 7 = false) (haout : m.bind.testBit 3 = false)
    (hacc : m.bind.testBit 11 = true) (hheld : m.held = none) {d : Entry} (he : s.headIn t (bits m.bind 0 3) = some d) :
    RowTaken s (s.mmagRow t i m) t i (bits m.bind 0 3) m d := by
  rw [State.mmagRow]
  simp only [hpin, haout, hacc, hheld, he, Option.isNone_none, Bool.and_false, Bool.false_eq_true, if_false, if_true,
    List.append_nil, List.all_nil, Bool.not_true]
  generalize List.foldl _ _ (List.range 16) = q
  rw [State.stepMop]
  refine ⟨?_, { m with held := some d, done := m.done + 1, finished := decide (16 ≤ m.done + 1) }, ?_, rfl, rfl⟩
  · rw [State.updMop_inQ, State.updMop_inQ, State.bump_tile, State.setFlags_tile, State.tile_updTile_self,
      Tile.setAccRow_inQ, State.popIn_inQ]
  · rw [State.updMop_getElem?, State.updMop_getElem?, State.bump_tile, State.setFlags_tile, State.tile_updTile_self,
      Tile.setAccRow_mq, State.popIn_mq, hm]
    rfl

end

/-- Settles O27. -/
theorem matrixSteps : Obligations.MatrixSteps := by
  intro s t i m e hm hl
  refine ⟨fun hs hb => ⟨_, exec_matrixOpStart_starts hm hl hs hb, ?_, fun _ => rfl, fun _ _ => rfl, fun u hu => ?_⟩,
    fun hs hf => ⟨fun hk => ?_, fun hk => ?_, fun hk => ?_, fun hk hq d hd => ?_, fun hk hq hh d hd => ?_,
      fun hk hq d hd => ?_, fun hk hq => ?_, fun hk h0 hq d hd hn => ?_⟩,
    fun hi hf hk => ?_, fun hi hf hk => ?_, fun hi hpin haout hacc hh d hd => ?_, fun hi hr d rest ho => ?_⟩
  · rw [State.updMop_getElem?, hm]
    rfl
  · rw [State.updMop, State.tile_updTile, if_neg hu]
  · refine ⟨_, exec_matrixRow_eq hm hl hs hf hk e, fun r n hr hn => ?_, fun b r n hb hr hn => ?_, fun _ => rfl⟩
    · rw [State.mopRow, State.stepMop_accEl, State.tile_updTile_self]
      exact (sget_sclear _ _ _ _ _).trans (if_pos (by omega))
    · rw [State.mopRow, State.stepMop_accEl, State.tile_updTile_self]
      exact (sget_sclear _ _ _ _ _).trans (if_neg (by omega))
  · refine ⟨_, exec_matrixRow_eq hm hl hs hf hk e, fun n hn => ?_, fun _ => rfl⟩
    rw [State.mopRow, State.stepMop_accEl, State.tile_updTile_self, Tile.accEl_setAccRow _ _ _ _ _ hn]
  · rw [exec_matrixRow_eq hm hl hs hf hk, State.mopRow]
  · rw [exec_matrixRow_eq hm hl hs hf hk, State.mopRow]
    rw [State.mldwRow, if_pos hq, hd]
  · rw [exec_matrixRow_eq hm hl hs hf hk, State.mopRow]
    rw [State.mmaRow, if_pos hq, hh]
    dsimp only
    rw [hd]
  · rw [exec_matrixRow_eq hm hl hs hf hk, State.mopRow]
    rw [State.mmaRow, if_pos hq, hd]
  · refine ⟨_, exec_matrixRow_eq hm hl hs hf hk e, mstaRowOut_bytesKeptBut hq⟩
  · rw [exec_matrixRow_eq hm hl hs hf hk]
    exact congrArg Host.Outcome.next (mmasRow_collects h0 hq hd hn e)
  · rw [exec_matrixOpComplete_eq (hi ▸ hm) hf, if_neg hk]
  · rw [exec_matrixOpComplete_eq (hi ▸ hm) hf, if_pos hk]
  · obtain ⟨hq, m', hop, hdone, hheld⟩ := mmagRow_taken hm hpin haout hacc hh hd
    refine ⟨s.mmagRow t i m, ?_, hq, by rw [hop, ← hdone]; rfl, by rw [hop, ← hheld]; rfl, fun a => ?_⟩
    · rw [show exec (.mmagRow t) s = execMmagRow t s from rfl, execMmagRow, hi]
      dsimp only
      rw [hm]
      dsimp only
      rw [if_pos hl]
    · rw [State.byte, State.mmagRow_mem, State.byte]
  · rw [show exec (.mmasRowPush t) s = execMmasRowPush t s from rfl, execMmasRowPush, hi]
    dsimp only
    rw [hm]
    dsimp only
    rw [ho]
    dsimp only
    rw [if_neg (by simp [hl, hr])]

end Sys2Proof.Machine

/-! PROOF. The order in which READY tasks are taken, dispatch, fetch, and writes of ENABLE and RUN. -/

namespace Sys2Proof.Machine

/-! ### The order of selection (R89) -/

theorem getElem_taskOrder (last i : Nat) (h : i < ((List.range 16).map fun i => (last + 1 + i) % 16).length) :
    ((List.range 16).map fun i => (last + 1 + i) % 16)[i] = (last + 1 + i) % 16 := by
  rw [List.getElem_map, List.getElem_range]

theorem nextTask_some {last k : Nat} {ok : Nat → Bool} (h : nextTask last ok = some k) : ok k = true ∧ k < 16 ∧
    ∀ j, j < 16 → ok j = true → (k + 15 - last % 16) % 16 ≤ (j + 15 - last % 16) % 16 := by
  unfold nextTask at h
  obtain ⟨hok, i, hi, hk, hbefore⟩ := List.find?_eq_some_iff_getElem.mp h
  rw [getElem_taskOrder] at hk
  have hi16 : i < 16 := by simpa using hi
  refine ⟨hok, by omega, fun j hj hjok => ?_⟩
  by_contra hlt
  have hb := hbefore ((j + 15 - last % 16) % 16) (by omega)
  rw [getElem_taskOrder, show (last + 1 + (j + 15 - last % 16) % 16) % 16 = j by omega, hjok] at hb
  exact Bool.false_ne_true hb

theorem nextTask_ne_none {last j : Nat} {ok : Nat → Bool} (hj : j < 16) (h : ok j = true) : nextTask last ok ≠ none := by
  intro hn
  refine List.find?_eq_none.mp hn j (List.mem_map.mpr ⟨(j + 15 - last % 16) % 16, List.mem_range.mpr (by omega), by omega⟩) h

section

variable {s : State} {t k : Nat}

theorem selectTask_ready (h : s.selectTask t = some k) : s.taskSt t k = 2 ∧
    ((∃ j, j < 16 ∧ s.taskSt t j = 2 ∧ ((s.tile t).task j).urgent = true) → ((s.tile t).task k).urgent = true) := by
  rw [State.selectTask] at h
  split at h
  case h_1 q hq =>
    cases h
    obtain ⟨hok, -⟩ := nextTask_some hq
    rw [Bool.and_eq_true, beq_iff_eq] at hok
    exact ⟨hok.1, fun _ => hok.2⟩
  case h_2 hq =>
    obtain ⟨hok, -⟩ := nextTask_some h
    refine ⟨beq_iff_eq.mp hok, fun ⟨j, hj, hst, hu⟩ => absurd hq (nextTask_ne_none hj ?_)⟩
    rw [Bool.and_eq_true, beq_iff_eq]
    exact ⟨hst, hu⟩

/-! ### A selected task runs -/

theorem State.promote_otherTilesKept : OtherTilesKept s (s.promote t) t := fun v hv =>
  State.promote_keeps (State.tile · v) (fun _ _ _ => rfl) fun u f _ => by rw [State.tile_updTile, if_neg hv]

theorem pc_ne_taskState (t k j : Nat) : (TILE_TASK_STATE_STATE t j).key ≠ (TILE_TASK_STATE_PC t k).key := by
  simp only [Fk.key, TILE_TASK_STATE_STATE, TILE_TASK_STATE_PC]
  omega

theorem firesCount_ne_taskState (t j : Nat) : (TILE_TASK_STATE_STATE t j).key ≠ (TILE_FIRES_COUNT t).key := by
  simp only [Fk.key, TILE_TASK_STATE_STATE, TILE_FIRES_COUNT]
  omega

theorem firesCount_ne_pc (t j : Nat) : (TILE_TASK_STATE_PC t j).key ≠ (TILE_FIRES_COUNT t).key := by
  simp only [Fk.key, TILE_TASK_STATE_PC, TILE_FIRES_COUNT]
  omega

theorem fires_ne_taskState (t k j : Nat) : (TILE_TASK_STATE_FIRES t k).key ≠ (TILE_TASK_STATE_STATE t j).key := by
  simp only [Fk.key, TILE_TASK_STATE_STATE, TILE_TASK_STATE_FIRES]
  omega

theorem fires_ne_pc (t k j : Nat) : (TILE_TASK_STATE_FIRES t k).key ≠ (TILE_TASK_STATE_PC t j).key := by
  simp only [Fk.key, TILE_TASK_STATE_PC, TILE_TASK_STATE_FIRES]
  omega

theorem fires_ne_firesCount (t k : Nat) : (TILE_TASK_STATE_FIRES t k).key ≠ (TILE_FIRES_COUNT t).key := by
  simp only [Fk.key, TILE_FIRES_COUNT, TILE_TASK_STATE_FIRES]
  omega

/-- A new firing, before the partition's watch starts again. -/
def State.newFiring (s : State) (t k : Nat) : State :=
  let s1 := (s.wf (TILE_TASK_STATE_STATE t k) 3).updTile t fun y => { y with cur := some k, ibuf := [] }
  ((s1.wf (TILE_TASK_STATE_PC t k) ((s.tile t).task k).entry).bump (TILE_FIRES_COUNT t)).bump (TILE_TASK_STATE_FIRES t k)

/-- A view that the partitions' own records are not part of is that of the new firing, where one starts. -/
theorem State.runTask_view {β : Type} (view : State → β) (hpart : ∀ u n f, view (State.updPart u n f) = view u)
    (h : ((s.tile t).task k).mid = false) : view (s.runTask t k) = view (s.newFiring t k) := by
  rw [State.runTask, h, if_neg (by decide)]
  dsimp only
  split
  · exact hpart _ _ _
  · rfl

/-- A firing that goes on. -/
theorem State.runTask_resumed (h : ((s.tile t).task k).mid = true) : s.runTask t k =
    ((s.wf (TILE_TASK_STATE_STATE t k) 3).updTile t fun y => { y with cur := some k, ibuf := [] }).updTile t fun y =>
      y.setTask k { (s.tile t).task k with mid := false } := by
  rw [State.runTask, if_pos h]

theorem State.newFiring_tile (v : Nat) : (s.newFiring t k).tile v =
    if v = t then { s.tile t with cur := some k, ibuf := [] } else s.tile v := by
  rw [State.newFiring, State.bump_tile, State.bump_tile, State.wf_tile, State.tile_updTile, State.wf_tile, State.wf_tile]

theorem State.newFiring_taskSt : (s.newFiring t k).taskSt t k = 3 := by
  rw [State.newFiring, State.taskSt, State.bump, State.rf_wf_ne _ _ (fires_ne_taskState t k k).symm, State.bump,
    State.rf_wf_ne _ _ (firesCount_ne_taskState t k), State.rf_wf_ne _ _ (pc_ne_taskState t k k), State.updTile_rf,
    State.rf_wf_self]
  rfl

theorem State.newFiring_pc (h : ((s.tile t).task k).entry < 2 ^ 13) :
    (s.newFiring t k).rf (TILE_TASK_STATE_PC t k) = ((s.tile t).task k).entry := by
  rw [State.newFiring, State.bump, State.rf_wf_ne _ _ (fires_ne_pc t k k).symm, State.bump,
    State.rf_wf_ne _ _ (firesCount_ne_pc t k), State.rf_wf_self]
  exact Nat.mod_eq_of_lt h

theorem State.newFiring_firesCount : (s.newFiring t k).rf (TILE_FIRES_COUNT t) = (s.rf (TILE_FIRES_COUNT t) + 1) % 2 ^ 32 := by
  rw [State.newFiring, State.bump, State.rf_wf_ne _ _ (fires_ne_firesCount t k).symm, State.bump, State.rf_wf_self,
    State.rf_wf_ne _ _ (firesCount_ne_pc t k).symm, State.updTile_rf, State.rf_wf_ne _ _ (firesCount_ne_taskState t k).symm]
  rfl

/-- What a selected task's running leaves and sets, at a new firing and within one. -/
structure TaskRuns (s u : State) (t k : Nat) : Prop where
  cur : (u.tile t).cur = some k
  state : u.taskSt t k = 3
  ibuf : (u.tile t).ibuf = []
  others : OtherTilesKept s u t
  fired : ((s.tile t).task k).mid = false → ((s.tile t).task k).entry < 2 ^ 13 →
    u.rf (TILE_TASK_STATE_PC t k) = ((s.tile t).task k).entry ∧
    u.rf (TILE_FIRES_COUNT t) = (s.rf (TILE_FIRES_COUNT t) + 1) % 2 ^ 32
  resumed : ((s.tile t).task k).mid = true → u.rf (TILE_TASK_STATE_PC t k) = s.rf (TILE_TASK_STATE_PC t k)

theorem runTask_runs : TaskRuns s (s.runTask t k) t k := by
  cases hm : ((s.tile t).task k).mid with
  | false =>
    have htile (v : Nat) : (s.runTask t k).tile v = (s.newFiring t k).tile v :=
      State.runTask_view (State.tile · v) (fun _ _ _ => rfl) hm
    have hrf (j : Fk) : (s.runTask t k).rf j = (s.newFiring t k).rf j :=
      State.runTask_view (State.rf · j) (fun _ _ _ => rfl) hm
    refine ⟨?_, (hrf _).trans State.newFiring_taskSt, ?_, fun v hv => ?_, fun _ he => ⟨?_, ?_⟩, fun h => ?_⟩
    · rw [htile, State.newFiring_tile, if_pos rfl]
    · rw [htile, State.newFiring_tile, if_pos rfl]
    · rw [htile, State.newFiring_tile, if_neg hv]
    · rw [hrf, State.newFiring_pc he]
    · rw [hrf, State.newFiring_firesCount]
    · rw [hm] at h
      cases h
  | true =>
    rw [State.runTask_resumed hm]
    refine ⟨?_, ?_, ?_, fun v hv => ?_, fun h => ?_, fun _ => ?_⟩
    · rw [State.tile_updTile_self, State.tile_updTile_self]
      rfl
    · rw [State.taskSt, State.updTile_rf, State.updTile_rf, State.rf_wf_self]
      rfl
    · rw [State.tile_updTile_self, State.tile_updTile_self]
      rfl
    · rw [State.tile_updTile, if_neg hv, State.tile_updTile, if_neg hv, State.wf_tile]
    · rw [hm] at h
      cases h
    · rw [State.updTile_rf, State.updTile_rf, State.rf_wf_ne _ _ (pc_ne_taskState t k k).symm]

theorem exec_taskDispatch_runs (hf : s.mayFire t = true) (hc : (s.tile t).cur = none)
    (hs : (s.promote t).selectTask t = some k) : exec (.taskDispatch t) s = .next ((s.promote t).runTask t k) := by
  rw [show exec (.taskDispatch t) s = execTaskDispatch t s from rfl, execTaskDispatch, hf, hc, Option.isNone_none,
    if_pos (by decide)]
  dsimp only
  rw [hs]

/-! ### Instruction fetch -/

theorem noteEcc_clean (s : State) (k n : Nat) : s.noteEcc k n .clean = s := by
  rw [State.noteEcc, if_neg (by simp)]

theorem forEach_same {l : List Nat} {f : State → Nat → State} (h : ∀ u, ∀ i ∈ l, f u i = u) (u : State) : u.forEach l f = u :=
  foldl_keeps_of (fun u : State => u) h u

theorem getD_clean {i : Nat} (h : i < 4) : [Ecc.clean, .clean, .clean, .clean].getD i .clean = .clean := by
  interval_cases i <;> rfl

theorem exec_instructionFetch_demand {g : Nat} (h : CoreReady s t k) (hg : g = s.rf (TILE_TASK_STATE_PC t k) / 4)
    (hb : (s.tile t).ibuf.any (·.g == g) = false) (hw : ∀ i, i < 4 → s.hasBad (tkey t (32 * g + 8 * i)) 8 = false) :
    exec (.instructionFetch t g [.clean, .clean, .clean, .clean]) s =
      .next (s.updTile t fun x => { x with
        ibuf := { g := g, words := s.rdMem (tkey t (32 * g)) 32, marks := 0 } :: x.ibuf.take 15 }) := by
  obtain ⟨-, -, hr, hpc, -⟩ := h
  have hword : ∀ i ∈ List.range 4,
      s.eccOf (tkey t (32 * g + 8 * i)) 8 ([Ecc.clean, .clean, .clean, .clean].getD i .clean) = .clean := by
    intro i hi
    rw [State.eccOf, hw i (List.mem_range.mp hi), if_neg Bool.false_ne_true, getD_clean (List.mem_range.mp hi)]
  have hmarks : ((List.range 4).map fun i => b2n (s.eccOf (tkey t (32 * g + 8 * i)) 8
      ([Ecc.clean, .clean, .clean, .clean].getD i .clean) == .bad) * 2 ^ i).sum = 0 := by
    rw [List.sum_eq_zero]
    intro x hx
    obtain ⟨i, hi, rfl⟩ := List.mem_map.mp hx
    rw [hword i hi]
    exact Nat.zero_mul _
  have hlt : decide (1536 ≤ g) = false := decide_eq_false (by omega)
  rw [show exec (.instructionFetch t g [.clean, .clean, .clean, .clean]) s =
    execInstructionFetch t g [.clean, .clean, .clean, .clean] s from rfl, execInstructionFetch]
  split
  case h_1 hn =>
    rw [hr] at hn
    cases hn
  case h_2 k' hk =>
    rw [hr] at hk
    cases hk
    extract_lets x cur held demand ahead word marks e s1
    have hheld : held = false := hb
    have hdemand : demand = true := beq_iff_eq.mpr hg
    have hm : marks = 0 := hmarks
    rw [hheld, hdemand, hlt, Bool.true_or, Bool.not_true, Bool.or_false, Bool.or_false, if_neg Bool.false_ne_true]
    refine congrArg Host.Outcome.next ((forEach_same (fun u i hi => ?_) _).trans ?_)
    · rw [show word i = .clean from hword i hi]
      exact noteEcc_clean u _ _
    · unfold s1 e
      rw [hm]
      simp only [hdemand, if_true]

/-! ### ENABLE and RUN -/

theorem taskCfgEnable_ne_taskState (t k j : Nat) : (TILE_TASK_STATE_STATE t j).key ≠ (TILE_TASK_CFG_ENABLE t k).key := by
  simp only [Fk.key, TILE_TASK_STATE_STATE, TILE_TASK_CFG_ENABLE]
  omega

theorem State.taskEnable_rf_enable (en : Bool) : (s.taskEnable t k en).rf (TILE_TASK_CFG_ENABLE t k) = b2n en := by
  have hset : (s.wf (TILE_TASK_CFG_ENABLE t k) (b2n en)).rf (TILE_TASK_CFG_ENABLE t k) = b2n en := by
    rw [State.rf_wf_self]
    cases en <;> rfl
  have hne := (taskCfgEnable_ne_taskState t k k).symm
  rw [State.taskEnable]
  split
  · split
    · split <;> exact hset
    · split
      · rw [State.promote_rf (taskCfgEnable_ne_taskState t k), State.updTile_rf, State.rf_wf_ne _ _ hne]
        exact hset
      · exact hset
  · split
    · exact hset
    · rw [State.updTile_rf, State.rf_wf_ne _ _ hne]
      exact hset

theorem State.taskEnable_off_idle (h : s.taskSt t k ≠ 3) : (s.taskEnable t k false).taskSt t k = 0 := by
  rw [State.taskEnable, if_neg (by decide), if_neg h, State.taskSt, State.updTile_rf, State.rf_wf_self]
  rfl

theorem State.taskEnable_off_running (h : s.taskSt t k = 3) : (s.taskEnable t k false).taskSt t k = 3 ∧
    (((s.taskEnable t k false).tile t).task k).disablePending = true := by
  rw [State.taskEnable, if_neg (by decide), if_pos h]
  refine ⟨?_, ?_⟩
  · rw [State.taskSt, State.updTile_rf, State.rf_wf_ne _ _ (taskCfgEnable_ne_taskState t k k)]
    exact h
  · rw [State.tile_updTile_self, Tile.setTask, Tile.task, sget_sset_self]

end

/-- Settles O28. -/
theorem tasks : Obligations.Tasks := by
  refine ⟨fun s t k _ _ hf hc hs => ?_, fun _ _ _ h => nextTask_some h, fun _ _ _ h => selectTask_ready h,
    fun s t k hst hc hl => ?_, fun _ _ _ _ h hg hb hw => exec_instructionFetch_demand h hg hb hw,
    fun s t k en _ _ hr => ?_, fun s t _ hr => ?_⟩
  · obtain ⟨hcur, hstate, hibuf, hothers, hfired, hresumed⟩ := runTask_runs (s := s.promote t) (t := t) (k := k)
    have hpc := State.promote_rf (s := s) (pc_ne_taskState t k)
    have hcount := State.promote_rf (s := s) (firesCount_ne_taskState t)
    refine ⟨_, exec_taskDispatch_runs hf hc hs, hcur, hstate, hibuf, fun a => ?_, fun v hv => ?_, fun hm he => ?_, fun hm => ?_⟩
    · rw [State.byte, State.runTask_mem, State.promote_mem, State.byte]
    · exact (hothers v hv).trans (State.promote_otherTilesKept v hv)
    · rw [← hcount]
      exact hfired hm he
    · exact (hresumed hm).trans hpc
  · rw [show exec (.taskUnblock t k) s = execTaskUnblock t k s from rfl, execTaskUnblock, if_pos ⟨hst, hc, hl⟩]
  · refine ⟨s.taskEnable t k en, ?_, State.taskEnable_rf_enable en, fun a => ?_, fun he h => ?_, fun he h => ?_⟩
    · rw [show exec (.taskEnableWrite t k en) s = execTaskEnableWrite t k en s from rfl, execTaskEnableWrite, if_pos hr]
    · rw [State.byte, State.taskEnable_mem, State.byte]
    · subst he
      exact State.taskEnable_off_idle h
    · subst he
      exact State.taskEnable_off_running h
  · rw [show exec (.tileRunWrite t false) s = execTileRunWrite t false s from rfl, execTileRunWrite, if_pos hr, State.tileRun]
    rfl

end Sys2Proof.Machine

/-! PROOF. Slot tables, queue bindings and stream commands. -/

namespace Sys2Proof.Machine

section

variable {s : State} {t k d : Nat}

/-! ### Lists of writes -/

/-- A field that a list of writes names, always with one value, reads that value after them. -/
theorem State.rf_wfs_mem {l : List (Fk × Nat)} {k : Fk} {v : Nat} (hk : ∃ q ∈ l, q.1.key = k.key)
    (hv : ∀ q ∈ l, q.1.key = k.key → q.2 % 2 ^ q.1.w = v) : (s.wfs l).rf k = v := by
  induction l generalizing s with
  | nil =>
    obtain ⟨q, hq, -⟩ := hk
    cases hq
  | cons p l ih =>
    change ((s.wf p.1 p.2).wfs l).rf k = v
    by_cases hl : ∃ q ∈ l, q.1.key = k.key
    · exact ih hl fun q hq => hv q (List.mem_cons_of_mem _ hq)
    · push Not at hl
      rw [State.rf_wfs_ne _ _ _ fun q hq => (hl q hq).symm]
      obtain ⟨q, hq, hqk⟩ := hk
      obtain rfl | hq := List.mem_cons.mp hq
      · rw [State.rf_wf, if_pos hqk.symm, hv _ List.mem_cons_self hqk]
      · exact absurd hqk (hl q hq)

theorem State.onlyRegs_wfs (l : List (Fk × Nat)) : OnlyRegs s (s.wfs l) (l.map (·.1)) := by
  refine ⟨s.wfs_only l, fun j hj => s.rf_wfs_ne l j fun p hp => ?_⟩
  exact (hj p.1 (List.mem_map.mpr ⟨p, hp, rfl⟩)).symm

/-! ### Words written whole -/

theorem bits_full {w : Nat} (hw : w ≤ 64) : bits (2 ^ 64 - 1) 0 w = 2 ^ w - 1 := by
  rw [bits, pow_zero, Nat.div_one]
  refine Nat.eq_of_testBit_eq fun i => ?_
  rw [Nat.testBit_mod_two_pow, Nat.testBit_two_pow_sub_one, Nat.testBit_two_pow_sub_one]
  by_cases hi : i < w
  · simp [hi, show i < 64 by omega]
  · simp [hi]

/-- A field at the bottom of its word, written with the whole word, takes the word's bits. -/
theorem merge_full (old v : Nat) {w : Nat} (hw : w ≤ 64) :
    (old &&& (bits (2 ^ 64 - 1) 0 w ^^^ (2 ^ w - 1))) ||| (bits v 0 w &&& bits (2 ^ 64 - 1) 0 w) = bits v 0 w := by
  rw [bits_full hw, Nat.xor_self, Nat.and_zero, Nat.zero_or, Nat.and_two_pow_sub_one_eq_mod, bits, Nat.mod_mod]

/-- A word written whole, with its reserved bits zero. -/
theorem slotWord (old : Nat) (v : BitVec 64) :
    (((old &&& ((2 ^ 64 - 1) ^^^ (2 ^ 64 - 1))) ||| (v.toNat &&& (2 ^ 64 - 1))) &&& 0x00FF00FF00FF00FF) =
      v.toNat &&& 0x00FF00FF00FF00FF := by
  rw [Nat.xor_self, Nat.and_zero, Nat.zero_or, Nat.and_two_pow_sub_one_eq_mod, Nat.mod_eq_of_lt v.isLt]

theorem slotWord_lt (v : Nat) : v &&& 0x00FF00FF00FF00FF < 2 ^ 64 := lt_of_le_of_lt Nat.and_le_right (by decide)

/-! ### Queue bindings -/

/-- A binding whose KIND differs is refused in a running tile and for a queue that holds an entry. -/
theorem qbind_refused (v : BitVec 64) (hr : s.rb (TILE_CTRL_RUN t) = true ∨ (s.tile t).holds k = true)
    (hv : bits v.toNat 0 2 ≠ s.rf (TILE_QBIND_KIND t k)) :
    s.qbind t k v.toNat (2 ^ 64 - 1) = s.wf (TILE_QBIND_REFUSED t k) 1 := by
  have hbusy : (s.rb (TILE_CTRL_RUN t) || (s.tile t).holds k) = true := by
    rw [Bool.or_eq_true]
    exact hr
  unfold State.qbind
  extract_lets merge kind depth ign base pack s1 same meets
  have hkind : kind = bits v.toNat 0 2 := merge_full (w := 2) _ _ (by decide)
  have hsame : same = false := by
    unfold same
    rw [hkind, beq_eq_false_iff_ne.mpr hv, Bool.false_and, Bool.false_and, Bool.false_and, Bool.false_and]
  rw [hsame, if_neg Bool.false_ne_true, hbusy, Bool.true_or, if_pos rfl]

/-! ### Streams -/

theorem setStream_rf (x : Stream) (j : Fk) : (s.setStream t d x).rf j = s.rf j := rfl

theorem streamCmdStart_starts (hi : s.streamIdle t d = true) (ho : s.streamOk t d = true) :
    s.streamCmdStart t d = s.streamStart t d := by
  rw [State.streamCmdStart, hi, ho, if_pos (by decide)]

theorem streamCmdStart_refused (h : s.streamIdle t d = false ∨ s.streamOk t d = false) :
    s.streamCmdStart t d = s.wf (TILE_STREAM_STATE_HOST_REFUSED t d) 1 := by
  rw [State.streamCmdStart, if_neg (by rw [Bool.and_eq_true]; rintro ⟨hi, ho⟩; simp [hi, ho] at h)]

theorem streamSt_streamStart : (s.streamStart t d).streamSt t d = 1 := by
  rw [State.streamSt, State.streamStart, setStream_rf]
  refine State.rf_wfs_mem ⟨_, List.mem_cons_self, rfl⟩ ?_
  simp only [List.mem_cons, List.not_mem_nil, or_false, forall_eq_or_imp, forall_eq, Fk.key, TILE_STREAM_STATE_STATE,
    TILE_STREAM_STATE_REASON, TILE_STREAM_STATE_GEN_STALE, TILE_STREAM_STATE_CFG_REFUSED, TILE_STREAM_STATE_HOST_REFUSED,
    TILE_POS_ITEM, TILE_POS_UNITS_DONE]
  omega

theorem posItem_streamStart : (s.streamStart t d).rf (TILE_POS_ITEM t d) = 0 := by
  rw [State.streamStart, setStream_rf]
  refine State.rf_wfs_mem ⟨(TILE_POS_ITEM t d, 0), by simp, rfl⟩ ?_
  simp only [List.mem_cons, List.not_mem_nil, or_false, forall_eq_or_imp, forall_eq, Fk.key, TILE_STREAM_STATE_STATE,
    TILE_STREAM_STATE_REASON, TILE_STREAM_STATE_GEN_STALE, TILE_STREAM_STATE_CFG_REFUSED, TILE_STREAM_STATE_HOST_REFUSED,
    TILE_POS_ITEM, TILE_POS_UNITS_DONE]
  omega

theorem hostRefused_streamStart : (s.streamStart t d).rf (TILE_STREAM_STATE_HOST_REFUSED t d) = 0 := by
  rw [State.streamStart, setStream_rf]
  refine State.rf_wfs_mem ⟨(TILE_STREAM_STATE_HOST_REFUSED t d, 0), by simp, rfl⟩ ?_
  simp only [List.mem_cons, List.not_mem_nil, or_false, forall_eq_or_imp, forall_eq, Fk.key, TILE_STREAM_STATE_STATE,
    TILE_STREAM_STATE_REASON, TILE_STREAM_STATE_GEN_STALE, TILE_STREAM_STATE_CFG_REFUSED, TILE_STREAM_STATE_HOST_REFUSED,
    TILE_POS_ITEM, TILE_POS_UNITS_DONE]
  omega

/-- A running stream with a transfer under way stops when that has landed. -/
theorem streamStop_stopping (hs : s.streamSt t d = 1) (hx : ((s.tile t).stream d).xfers.all (·.landed) = false) :
    s.streamStop t d = s.wf (TILE_STREAM_STATE_STATE t d) 2 := by
  rw [State.streamStop, hs, if_pos (.inl rfl), if_neg (by decide), State.streamSettle, State.wf_tile, hx, if_neg (by simp)]

end

/-- Settles O29. -/
theorem tileConfiguration : Obligations.TileConfiguration := by
  intro s t _ hr
  have hstart (d : Nat) : exec (.streamCmdStart t d) s = .next (s.streamCmdStart t d) := by
    rw [show exec (.streamCmdStart t d) s = execStreamCmdStart t d s from rfl, execStreamCmdStart, if_pos hr]
  have hslot (b o i : Nat) (v : BitVec 64) :
      exec (.slotTableWrite t b o i v) s = .next (s.slotWrite t b o i v.toNat (2 ^ 64 - 1)) := by
    rw [show exec (.slotTableWrite t b o i v) s = execSlotTableWrite t b o i v s from rfl, execSlotTableWrite, if_pos hr]
  refine ⟨fun b o i v hb => ?_, fun b o i v _ _ _ hb => ⟨_, hslot b o i v, ?_⟩, fun k v _ hbusy hv => ?_, fun d hi ho => ?_,
    fun d h => ?_, fun d hs hx => ⟨s.wf (TILE_STREAM_STATE_STATE t d) 2, ?_, ?_, s.onlyRegs_wf _ _⟩, fun d _ hi ho => ⟨_, hstart d, ?_⟩⟩
  · rw [hslot, State.slotWrite, if_pos hb]
  · rw [State.slotWrite, if_neg hb]
    refine ⟨?_, State.onlyRegs_wf s _ _⟩
    rw [State.rf_wf_self, slotWord]
    exact Nat.mod_eq_of_lt (slotWord_lt _)
  · rw [show exec (.qbindWrite t k v) s = execQbindWrite t k v s from rfl, execQbindWrite, if_pos hr, qbind_refused v hbusy hv]
  · rw [hstart, streamCmdStart_starts hi ho]
  · rw [hstart, streamCmdStart_refused h]
  · rw [show exec (.streamCmdStop t d) s = execStreamCmdStop t d s from rfl, execStreamCmdStop, if_pos hr,
      streamStop_stopping hs hx]
  · rw [State.streamSt, State.rf_wf_self]
    rfl
  · rw [streamCmdStart_starts hi ho]
    exact ⟨streamSt_streamStart, posItem_streamStart, hostRefused_streamStart⟩

end Sys2Proof.Machine

/-! PROOF. Grants of desk and bench, scrub, refresh, and row operations. -/

namespace Sys2Proof.Machine

section

variable {s : State} {t : Nat} {r : Req} {x : Tile}

/-! ### A request that waits alone -/

theorem letIn_alone {ok : Req → Bool} (hok : ok r = true) (hage : r.age = 0) : letIn ok [] [r] = [r] := by
  have hr : { r with age := 0 } = r := by rw [← hage]
  rw [letIn, List.foldl_cons, List.foldl_nil, hok, Bool.not_true, List.any_nil, Bool.and_false, Bool.or_false,
    if_neg Bool.false_ne_true, hr, List.nil_append]

theorem presented_alone (r : Req) (who : Nat) : presented [r] who = if r.who = who then some r else none := by
  rw [presented, List.find?_cons, List.find?_nil]
  by_cases h : r.who = who
  · rw [if_pos h, beq_iff_eq.mpr h]
  · rw [if_neg h, beq_eq_false_iff_ne.mpr h]

/-- What the desk's arbiter has granted so far in its cycle. -/
abbrev DeskGrants : Type := List Req × SMap Nat × Nat

/-- One requester's turn in one tier of a desk cycle. -/
def deskTurn (x : Tile) (wait : List Req) (tier : Nat) (acc : DeskGrants) (who : Nat) : DeskGrants :=
  match presented wait who with
  | none => acc
  | some r =>
    let b := banksOf r.addr r.len
    if deskTier x r = tier ∧ acc.2.2 &&& b = 0 ∧ !acc.1.any (·.who == who) ∧
        (who = 0 ∨ !Req.rmw r ∨ b &&& coreNeeds wait = 0) then
      (acc.1 ++ [r], sset 0 acc.2.1 tier who, acc.2.2 ||| b)
    else acc

theorem deskCycle_eq (x : Tile) (wait : List Req) (rr : SMap Nat) (busy : Nat) : deskCycle x wait rr busy =
    (List.range 7).foldl (fun acc i => (roundRobin (sget 0 rr (i + 1))).foldl (deskTurn x wait (i + 1)) acc) ([], rr, busy) :=
  rfl

/-- Once granted, the request that waits alone is the one granted. -/
theorem deskTurn_granted {acc : DeskGrants} (h : acc.1 = [r]) (tier who : Nat) : (deskTurn x [r] tier acc who).1 = [r] := by
  unfold deskTurn
  rw [presented_alone]
  by_cases hw : r.who = who
  · rw [if_pos hw]
    dsimp only
    rw [if_neg]
    · exact h
    · rw [h, List.any_cons, beq_iff_eq.mpr hw]
      simp
  · rw [if_neg hw]
    exact h

/-- In another tier, or at another requester's turn, nothing is granted. -/
theorem deskTurn_other {acc : DeskGrants} {tier who : Nat} (h : deskTier x r ≠ tier ∨ r.who ≠ who) :
    deskTurn x [r] tier acc who = acc := by
  unfold deskTurn
  rw [presented_alone]
  by_cases hw : r.who = who
  · rw [if_pos hw]
    dsimp only
    rw [if_neg fun hc => h.elim (fun ht => ht hc.1) fun hn => hn hw]
  · rw [if_neg hw]

theorem deskTurn_takes (rr : SMap Nat) (hw : Req.rmw r = false) :
    (deskTurn x [r] (deskTier x r) ([], rr, 0) r.who).1 = [r] := by
  unfold deskTurn
  rw [presented_alone, if_pos rfl]
  dsimp only
  rw [if_pos ⟨rfl, Nat.zero_and _, rfl, .inr (.inl (by rw [hw]; rfl))⟩, List.nil_append]

theorem deskTurns_granted {acc : DeskGrants} (h : acc.1 = [r]) (tier : Nat) (l : List Nat) :
    (l.foldl (deskTurn x [r] tier) acc).1 = [r] := by
  induction l generalizing acc with
  | nil => exact h
  | cons who l ih => exact ih (deskTurn_granted h tier who)

theorem deskTurns_other {acc : DeskGrants} {tier : Nat} (h : deskTier x r ≠ tier) (l : List Nat) :
    l.foldl (deskTurn x [r] tier) acc = acc :=
  foldl_keeps (fun acc => acc) (fun _ _ => deskTurn_other (.inl h)) l acc

theorem deskTurns_takes (rr : SMap Nat) (hw : Req.rmw r = false) {l : List Nat} (hl : r.who ∈ l) :
    (l.foldl (deskTurn x [r] (deskTier x r)) ([], rr, 0)).1 = [r] := by
  induction l with
  | nil => cases hl
  | cons who l ih =>
    rw [List.foldl_cons]
    by_cases hwho : r.who = who
    · rw [← hwho]
      exact deskTurns_granted (deskTurn_takes rr hw) _ l
    · rw [deskTurn_other (.inr hwho)]
      exact ih ((List.mem_cons.mp hl).resolve_left hwho)

theorem mem_roundRobin {who last : Nat} (h : who < 20) : who ∈ roundRobin last :=
  List.mem_map.mpr ⟨(who + 39 - (last + 1 + 19) % 20) % 20, List.mem_range.mpr (by omega), by omega⟩

/-- A request that waits alone on free banks, and is no read-modify-write, is granted in its tier. -/
theorem deskCycle_alone (rr : SMap Nat) (hw : Req.rmw r = false) (hwho : r.who < 20) (h0 : deskTier x r ≠ 0)
    (h7 : deskTier x r ≤ 7) : (deskCycle x [r] rr 0).1 = [r] := by
  rw [deskCycle_eq]
  suffices h : ∀ m, m ≤ 7 → if deskTier x r ≤ m then
      ((List.range m).foldl (fun acc i => (roundRobin (sget 0 rr (i + 1))).foldl (deskTurn x [r] (i + 1)) acc)
        ([], rr, 0)).1 = [r]
      else (List.range m).foldl (fun acc i => (roundRobin (sget 0 rr (i + 1))).foldl (deskTurn x [r] (i + 1)) acc)
        ([], rr, 0) = ([], rr, 0) by
    have := h 7 le_rfl
    rwa [if_pos h7] at this
  intro m
  induction m with
  | zero =>
    intro _
    rw [if_neg (by omega)]
    rfl
  | succ m ih =>
    intro hm
    have ih := ih (by omega)
    rw [List.range_succ, List.foldl_append, List.foldl_cons, List.foldl_nil]
    by_cases hlt : deskTier x r ≤ m
    · rw [if_pos hlt] at ih
      rw [if_pos (by omega)]
      exact deskTurns_granted ih _ _
    · rw [if_neg hlt] at ih
      rw [ih]
      by_cases heq : deskTier x r = m + 1
      · rw [if_pos (by omega), ← heq]
        exact deskTurns_takes rr hw (mem_roundRobin hwho)
      · rw [if_neg (by omega)]
        exact deskTurns_other heq _

theorem deskTier_le (x : Tile) (r : Req) : deskTier x r ≤ 7 := by
  unfold deskTier
  split_ifs <;> decide

/-! ### Granted accesses -/

theorem Req.rmw_aligned (hl : r.len = 8) (ha : r.addr % 8 = 0) : Req.rmw r = false := by
  rw [Req.rmw, hl, ha]
  exact Bool.and_false _

theorem areaOf_desk {a : Nat} (h : a + 8 ≤ 0xC000) : areaOf a = .desk := if_pos (by omega)

theorem eccFor_nil (who : Nat) : eccFor [] who = .clean := rfl

/-- A granted read of words without error puts their data out. -/
theorem grantAccess_read (hw : r.write = false) (hb : s.hasBad (tkey t r.addr) r.len = false) :
    s.grantAccess t r .clean =
      (s.openRowOf t r.addr).emit (.grant t r.who (s.rdMem (tkey t r.addr) r.len) false) := by
  rw [State.grantAccess, if_neg (by simp [hw]), State.eccOf, hb, if_neg Bool.false_ne_true]
  dsimp only
  rw [if_neg (by decide), noteEcc_clean, State.raiseEcc_clean]

theorem grantAccess_write (hw : r.write = true) (e : Ecc) :
    s.grantAccess t r e = s.tileStore t r.addr r.len r.data e := by
  rw [State.grantAccess, if_pos hw]

/-- The tile after a desk cycle that granted the request waiting alone. -/
def State.deskServed (s : State) (t : Nat) (r : Req) : State :=
  s.updTile t fun y => { y with
    deskWait := []
    rrDesk := (deskCycle (s.tile t) [r] (s.tile t).rrDesk 0).2.1
    busyBanks := 0 }

theorem exec_deskRequestGrant_alone (hq : (s.tile t).deskWait = []) (hbusy : (s.tile t).busyBanks = 0) (hage : r.age = 0)
    (htier : deskTier (s.tile t) r ≠ 0) (hlive : s.reqLive t r.who = true) (hclk : s.memClocked t = true) (hlen : r.len = 8)
    (hal : r.addr % 8 = 0) (hin : r.addr + 8 ≤ 0xC000) (hwho : r.who < 20) :
    exec (.deskRequestGrant t [r] []) s = .next ((s.deskServed t r).grantAccess t r .clean) := by
  have hc := deskCycle_alone (x := s.tile t) (s.tile t).rrDesk (Req.rmw_aligned hlen hal) hwho htier (deskTier_le _ _)
  have hwait : letIn (fun r : Req => deskTier (s.tile t) r != 0 && s.reqLive t r.who && decide (1 ≤ r.len) &&
      decide (r.len ≤ 64) && decide (r.addr + r.len ≤ 0xC000)) [] [r] = [r] := by
    refine letIn_alone ?_ hage
    rw [hlive, hlen, bne_iff_ne.mpr htier]
    simpa using hin
  have hfilter : ([r].filter fun r => s.reqLive t r.who) = [r] := by
    rw [List.filter_cons, if_pos hlive, List.filter_nil]
  rw [show exec (.deskRequestGrant t [r] []) s = execDeskRequestGrant t [r] [] s from rfl, execDeskRequestGrant]
  rw [hq, hbusy, hwait, hfilter, hc, if_pos hclk, List.foldl_cons, List.foldl_nil, List.foldl_cons, List.foldl_nil,
    List.erase_cons_head, List.filter_cons, Req.rmw_aligned hlen hal, if_neg Bool.false_ne_true]
  rfl

/-! ### The bench -/

/-- What a tier of the bench finds where one request waits. -/
theorem benchTier_find (hwho : r.who < 20) (hheld : x.benchHeld r.addr r.len = false) (i : Nat) :
    ((roundRobin (sget 0 x.rrBench (i + 1))).filterMap (presented [r])).find? (fun r =>
      benchTier x r == i + 1 && (decide (18 ≤ r.who) || !x.benchHeld r.addr r.len)) =
      if benchTier x r = i + 1 then some r else none := by
  have hall : ∀ q ∈ (roundRobin (sget 0 x.rrBench (i + 1))).filterMap (presented [r]), q = r := by
    intro q hq
    obtain ⟨who, -, hp⟩ := List.mem_filterMap.mp hq
    rw [presented_alone] at hp
    split at hp
    · exact (Option.some.inj hp).symm
    · cases hp
  have hmem : r ∈ (roundRobin (sget 0 x.rrBench (i + 1))).filterMap (presented [r]) :=
    List.mem_filterMap.mpr ⟨r.who, mem_roundRobin hwho, by rw [presented_alone, if_pos rfl]⟩
  split
  case isTrue ht =>
    have hok : (benchTier x r == i + 1 && (decide (18 ≤ r.who) || !x.benchHeld r.addr r.len)) = true := by
      rw [beq_iff_eq.mpr ht, hheld, Bool.not_false, Bool.or_true, Bool.and_true]
    cases hq : ((roundRobin (sget 0 x.rrBench (i + 1))).filterMap (presented [r])).find? (fun r =>
      benchTier x r == i + 1 && (decide (18 ≤ r.who) || !x.benchHeld r.addr r.len)) with
    | none => exact absurd hok (List.find?_eq_none.mp hq r hmem)
    | some q => rw [hall q (List.mem_of_find?_eq_some hq)]
  case isFalse ht =>
    refine List.find?_eq_none.mpr fun q hq => ?_
    rw [hall q hq, beq_eq_false_iff_ne.mpr ht, Bool.false_and]
    exact Bool.false_ne_true

theorem benchTier_le (x : Tile) (r : Req) : benchTier x r ≤ 7 := by
  unfold benchTier
  split_ifs <;> decide

theorem benchPick_alone (hwho : r.who < 20) (hheld : x.benchHeld r.addr r.len = false) (h0 : benchTier x r ≠ 0) :
    benchPick x [r] = some (benchTier x r, r) := by
  have h7 := benchTier_le x r
  unfold benchPick
  simp only [benchTier_find hwho hheld]
  generalize benchTier x r = tier at h0 h7 ⊢
  interval_cases tier
  · exact absurd rfl h0
  all_goals rfl

theorem areaOf_bench_word {a : Nat} (h : areaOf a = .bench) (hal : a % 8 = 0) : areaOf (a + 7) = .bench := by
  unfold areaOf at h ⊢
  split_ifs at h with h1 h2 h3 h4
  rw [if_neg (by omega), if_neg (by omega), if_neg (by omega), if_pos (by omega)]

/-- The tile after a bench grant to the request waiting alone. -/
def State.benchServed (s : State) (t : Nat) (r : Req) : State :=
  s.updTile t fun y => { y with benchWait := [], rrBench := sset 0 y.rrBench (benchTier (s.tile t) r) r.who }

theorem exec_benchRequestGrant_alone (hq : (s.tile t).benchWait = []) (hage : r.age = 0) (htier : benchTier (s.tile t) r ≠ 0)
    (hlive : s.reqLive t r.who = true) (hwho : r.who < 18) (hlen : r.len = 8) (hal : r.addr % 8 = 0)
    (harea : areaOf r.addr = .bench) (hheld : (s.tile t).benchHeld r.addr 8 = false) :
    exec (.benchRequestGrant t [r] []) s = .next ((s.benchServed t r).grantAccess t r .clean) := by
  have hpick := benchPick_alone (x := s.tile t) (r := r) (by omega) (by rw [hlen]; exact hheld) htier
  have hwait : letIn (fun r : Req => benchTier (s.tile t) r != 0 && s.reqLive t r.who && decide (1 ≤ r.len) &&
      decide (r.len ≤ 64) && areaOf r.addr == .bench && areaOf (r.addr + r.len - 1) == .bench) [] [r] = [r] := by
    refine letIn_alone ?_ hage
    rw [hlive, hlen, bne_iff_ne.mpr htier, harea, show r.addr + 8 - 1 = r.addr + 7 from rfl, areaOf_bench_word harea hal]
    rfl
  have hfilter : ([r].filter fun r => s.reqLive t r.who) = [r] := by
    rw [List.filter_cons, if_pos hlive, List.filter_nil]
  rw [show exec (.benchRequestGrant t [r] []) s = execBenchRequestGrant t [r] [] s from rfl, execBenchRequestGrant]
  rw [hq, hwait, hfilter, hpick]
  dsimp only
  rw [if_neg (by omega), List.erase_cons_head]
  rfl

/-! ### Row operations -/

theorem two_pow_rowBits : 2 ^ rowBits = 256 ^ 2048 := by
  rw [show (256 : Nat) = 2 ^ 8 from rfl, ← pow_mul]
  exact congrArg (fun n => 2 ^ n) (show rowBits = 8 * 2048 from rfl)

/-- The result of a row operation fits a row. -/
theorem RowOp.result_lt (o : RowOp) {a b c : Nat} (ha : a < 256 ^ 2048) (hb : b < 256 ^ 2048) (hc : c < 256 ^ 2048) :
    o.result a b c < 256 ^ 2048 := by
  rw [← two_pow_rowBits] at ha hb hc ⊢
  have hfull : 2 ^ rowBits - 1 < 2 ^ rowBits := Nat.sub_lt (Nat.two_pow_pos _) Nat.one_pos
  unfold RowOp.result
  split
  · exact ha
  · split
    · exact hfull
    · exact Nat.two_pow_pos _
  · exact Nat.and_lt_two_pow _ hb
  · exact Nat.or_lt_two_pow ha hb
  · exact Nat.xor_lt_two_pow ha hb
  · exact Nat.xor_lt_two_pow ha hfull
  · exact Nat.or_lt_two_pow (Nat.or_lt_two_pow (Nat.and_lt_two_pow _ hb) (Nat.and_lt_two_pow _ hc)) (Nat.and_lt_two_pow _ hc)

/-- The bench after the oldest row operation is done, before its result is written. -/
def State.rowOpTaken (s : State) (t : Nat) (o : RowOp) : State :=
  s.updTile t fun x => { x with
    rowOps := eraseAt x.rowOps 0, openRow := x.openRow.filter fun e => !o.rows.any fun r => r / 512 == e.1 / 2 }

theorem exec_rowOpComplete_clean {o : RowOp} {rest : List RowOp} (hq : (s.tile t).rowOps = o :: rest)
    (hv : ∀ r ∈ o.verified, s.hasBad (rowKey t r) 2048 = false) (hop : o.op ≠ 0) :
    exec (.rowOpComplete t 0 false none) s = .next ((s.rowOpTaken t o).wrMem (rowKey t o.dst) 2048
      (o.result (s.rdMem (rowKey t o.a) 2048) (s.rdMem (rowKey t o.b) 2048) (s.rdMem (rowKey t o.c) 2048))) := by
  have hbad : (o.verified.find? fun r => s.hasBad (rowKey t r) 2048 || (none : Option Nat) == some r) = none := by
    refine List.find?_eq_none.mpr fun r hr => ?_
    rw [hv r hr]
    exact Bool.false_ne_true
  rw [show exec (.rowOpComplete t 0 false none) s = execRowOpComplete t 0 false none s from rfl, execRowOpComplete]
  rw [show (s.tile t).rowOps[0]? = some o by rw [hq]; rfl]
  dsimp only
  rw [List.take_zero, List.any_nil, if_neg Bool.false_ne_true, hbad]
  dsimp only
  rw [Bool.false_and, if_neg Bool.false_ne_true, if_neg fun h => hop h.1]
  rfl

end

/-- Settles O30. -/
theorem deskAndBench : Obligations.DeskAndBench := by
  refine ⟨fun s t r hq hbusy hage htier hlive hclk hlen hal hin hb hwho => ⟨fun hw => ?_, fun hw => ?_⟩,
    fun s t r hq hage htier hlive hwho hw hlen hal harea hheld hb => ?_, fun s t hb => ?_, fun s t => rfl,
    fun s p c hs => ⟨fun hc => ?_, fun hc t0 => ?_⟩, fun s t o rest hq hv hop => ?_⟩
  · refine ⟨_, exec_deskRequestGrant_alone hq hbusy hage htier hlive hclk hlen hal hin hwho, ?_⟩
    rw [grantAccess_read hw (by rw [hlen]; exact hb), State.openRowOf, areaOf_desk hin, if_neg (by decide), hlen]
    refine ⟨?_, fun _ => rfl, fun _ _ => rfl, ?_⟩
    · rw [State.emit, State.deskServed, State.rdMem_congr fun a _ _ => s.updTile_byte t _ a]
      rfl
    · rw [State.emit_tile, State.deskServed, State.tile_updTile_self]
  · refine ⟨_, exec_deskRequestGrant_alone hq hbusy hage htier hlive hclk hlen hal hin hwho, ?_⟩
    have hb' : (s.deskServed t r).hasBad (tkey t r.addr) 8 = false := hb
    rw [grantAccess_write hw, hlen, State.tileStore_clean hb']
    refine ⟨State.storeEcc_clean_rdMem hb' _, fun a ha => ?_, fun j _ => State.storeEcc_rf _ _ _ _ _ j⟩
    exact State.storeEcc_bytesKeptBut _ _ _ _ _ a ha
  · refine ⟨_, exec_benchRequestGrant_alone hq hage htier hlive hwho hlen hal harea hheld, ?_⟩
    rw [grantAccess_read hw (by rw [hlen]; exact hb), hlen]
    refine ⟨?_, fun a => ?_, fun j _ => ?_⟩
    · rw [State.emit, State.openRowOf, if_pos harea, State.benchServed, State.rdMem_congr fun a _ _ => s.updTile_byte t _ a]
      rfl
    · rw [State.emit_byte, State.openRowOf_byte]
      rfl
    · rw [State.emit_rf, State.openRowOf_rf]
      rfl
  · rw [show exec (.deskScrub t .clean) s = execDeskScrub t .clean s from rfl, execDeskScrub]
    rw [noteEcc_clean, State.eccOf, hb, if_neg Bool.false_ne_true, State.raiseEcc_clean]
  · refine ⟨s.tempRead p c, ?_, ?_, fun a => ?_⟩
    · rw [show exec (.refreshIntervalHalve p c) s = execRefreshIntervalHalve p c s from rfl, execRefreshIntervalHalve,
        if_pos ⟨hs, hc⟩]
    · rw [State.tempRead, State.plain_updPlain_self, if_pos hc]
    · rw [State.byte, State.tempRead_mem, State.byte]
  · have hplain : (s.tempRead p c).plain p = { s.plain p with
        coolFrom := some ((s.plain p).coolFrom.getD s.time)
        fastRefresh := (s.plain p).fastRefresh && decide (s.time < (s.plain p).coolFrom.getD s.time + 1000000000) } := by
      rw [State.tempRead, State.plain_updPlain_self, if_neg (by omega), if_neg (by omega)]
      rfl
    refine ⟨s.tempRead p c, ?_, fun a => ?_, fun h => ?_, fun h => ?_⟩
    · rw [show exec (.refreshIntervalRestore p c) s = execRefreshIntervalRestore p c s from rfl, execRefreshIntervalRestore,
        if_pos ⟨hs, hc⟩]
    · rw [State.byte, State.tempRead_mem, State.byte]
    · rw [hplain, h]
      rfl
    · rw [hplain, h]
      exact ⟨rfl, rfl⟩
  · refine ⟨_, exec_rowOpComplete_clean hq hv hop, ?_, ?_, ?_, fun j _ => ?_⟩
    · rw [State.wrMem_tile, State.rowOpTaken, State.tile_updTile_self, hq]
      rfl
    · rw [State.rdMem_wrMem, Nat.mod_eq_of_lt (RowOp.result_lt o (s.rdMem_lt _ _) (s.rdMem_lt _ _) (s.rdMem_lt _ _))]
    · intro a ha
      rw [State.wrMem_byte, if_neg ha, State.rowOpTaken, State.updTile_byte]
    · rw [State.wrMem_rf, State.rowOpTaken, State.updTile_rf]

end Sys2Proof.Machine

/-! PROOF. Edge memory: page-table writes, PAGE_IN, windows, patrol scrub, translation. -/

namespace Sys2Proof.Machine

section
variable {s : State} {n : Nat}

/-- A whole-word write of an entry whose list of changes has room sets the shadow. -/
theorem peptEntryWrite_room (v : BitVec 64) (h : s.peptChanges n < 4096) :
    s.peptEntryWrite n v.toNat (2 ^ 64 - 1) = s.wsh (peptEntry n (s.rf (PEPT_SEL_VPN n))) (v.toNat &&& peptMask) := by
  have hword : ((s.sh (peptEntry n (s.rf (PEPT_SEL_VPN n))) &&& ((2 ^ 64 - 1) ^^^ (2 ^ 64 - 1))) |||
      (v.toNat &&& (2 ^ 64 - 1))) = v.toNat := by
    rw [Nat.xor_self, Nat.and_zero, Nat.zero_or, Nat.and_two_pow_sub_one_eq_mod, Nat.mod_eq_of_lt v.isLt]
  rw [State.peptEntryWrite, if_pos (.inr (.inr h)), hword]

/-- PAGE_IN of a valid page that is not resident, unchanged in its shadow, into a free place of the window. -/
theorem pageIn_taken {v : Nat} (hv : (s.rf (peptEntry n (bits v 0 19))).testBit 0 = true)
    (hr : (s.rf (peptEntry n (bits v 0 19))).testBit 1 = false) (hw : s.inWindow n (bits v 20 18) = true)
    (hp : s.inPool (bits v 20 18) = false) (hs : s.sh (peptEntry n (bits v 0 19)) = s.rf (peptEntry n (bits v 0 19)))
    (ha : s.rb (PSTR_CTRL_AUTO_RESUME n) = false) :
    s.pageIn n v = s.wboth (peptEntry n (bits v 0 19))
      ((s.rf (peptEntry n (bits v 0 19)) &&& 0xFFFFFFFFC0000FFF) ||| 2 ||| bits v 20 18 * 2 ^ 12) := by
  rw [State.pageIn, if_neg (by simp [hv, hr, hw, hp, hs]), ha, if_neg Bool.false_ne_true]

theorem pageIn_resident {v : Nat} (hr : (s.rf (peptEntry n (bits v 0 19))).testBit 1 = true) :
    s.pageIn n v = s.wf (PEPT_STATUS_PAGE_IN_REFUSED n) 1 := by
  rw [State.pageIn, if_pos (by simp [hr])]

theorem edgeWindow_refused {v : Nat} (h : s.quietPart n = false ∨ bits v 18 18 < bits v 0 18 ∨ 147423 < bits v 18 18) :
    s.edgeWindow n v = s.wf EDGE_STATUS_WIN_REFUSED 1 := by
  rw [State.edgeWindow, if_pos (by simpa [or_assoc] using h)]

/-- The fields that a window write sets, with their values. -/
def windowFields (n v : Nat) : List (Fk × Nat) :=
  [(EDGE_WIN_BASE n, bits v 0 18), (EDGE_WIN_LIMIT n, bits v 18 18), (EDGE_WIN_EN n, bits v 36 1)]

theorem edgeWindow_taken {v : Nat} (hq : s.quietPart n = true) (hb : bits v 0 18 ≤ bits v 18 18) (hl : bits v 18 18 ≤ 147423) :
    s.edgeWindow n v = (s.wfs (windowFields n v)).updPart n fun p => { p with tcache := [] } := by
  rw [State.edgeWindow, if_neg (by simp [hq]; omega), windowFields]

/-- A field of the window reads what the write gives it: the three lie side by side in one word. -/
theorem rf_windowFields {v x : Nat} {k : Fk} (hk : (k, x) ∈ windowFields n v) : (s.wfs (windowFields n v)).rf k = x := by
  refine State.rf_wfs_mem ⟨_, hk, rfl⟩ ?_
  have hlt : bits v 0 18 < 2 ^ 18 ∧ bits v 18 18 < 2 ^ 18 ∧ bits v 36 1 < 2 ^ 1 :=
    ⟨Nat.mod_lt _ (by decide), Nat.mod_lt _ (by decide), Nat.mod_lt _ (by decide)⟩
  simp only [windowFields, List.mem_cons, List.not_mem_nil, or_false, Prod.mk.injEq] at hk ⊢
  rcases hk with ⟨rfl, rfl⟩ | ⟨rfl, rfl⟩ | ⟨rfl, rfl⟩ <;>
    simp [Fk.key, EDGE_WIN_BASE, EDGE_WIN_LIMIT, EDGE_WIN_EN] <;> omega

/-- A resident page of the window, outside the ledger pool, translates to its physical page. -/
theorem xlate_hit {va : Nat} (hva : va < 2 ^ 40) (hv : (s.rf (peptEntry n (va / 2 ^ 21))).testBit 0 = true)
    (hr : (s.rf (peptEntry n (va / 2 ^ 21))).testBit 1 = true)
    (hw : s.inWindow n (bits (s.rf (peptEntry n (va / 2 ^ 21))) 12 18) = true)
    (hp : s.inPool (bits (s.rf (peptEntry n (va / 2 ^ 21))) 12 18) = false) :
    s.xlate n va = .hit (bits (s.rf (peptEntry n (va / 2 ^ 21))) 12 18 * 2 ^ 21 + va % 2 ^ 21) := by
  rw [State.xlate, if_neg (by omega)]
  dsimp only
  rw [hv, hr, hw, hp]
  rfl

end

/-- Settles O31. -/
theorem edgeMemory : Obligations.EdgeMemory := by
  have hin (s : State) (f n : Nat) (v : BitVec 64) (hw : s.writes f n = true) (hr : s.pageReady (partPage n 7) = true) :
      exec (.pageIn f n v) s = .next (s.pageIn n v.toNat) := by
    rw [show exec (.pageIn f n v) s = execPageIn f n v s from rfl, execPageIn, hw, hr]
    rfl
  have hwin (s : State) (n : Nat) (v : BitVec 64) (hn : n < 16) (hw : s.pf0Writes 0 = true) (hr : s.pageReady pgEDGE = true) :
      exec (.edgeWindowWrite n v) s = .next (s.edgeWindow n v.toNat) := by
    rw [show exec (.edgeWindowWrite n v) s = execEdgeWindowWrite n v s from rfl, execEdgeWindowWrite, if_pos ⟨hn, hw, hr⟩]
  refine ⟨fun s f n v hw hr hc => ?_, fun s f n v hw hr => ⟨fun hv hres hwnd hp hs ha => ?_, fun hres => ?_⟩,
    fun s n v hn hw hr => ⟨fun hq hb hl => ⟨_, hwin s n v hn hw hr, ?_⟩, fun h => ?_⟩, fun s ces => rfl,
    fun s n va hva hv hr hw hp => xlate_hit hva hv hr hw hp⟩
  · rw [show exec (.peptEntryWrite f n v) s = execPeptEntryWrite f n v s from rfl, execPeptEntryWrite, hw, hr,
      Bool.and_self, if_pos rfl, peptEntryWrite_room v hc]
  · rw [hin s f n v hw hr, pageIn_taken hv hres hwnd hp hs ha]
  · rw [hin s f n v hw hr, pageIn_resident hres]
  · rw [edgeWindow_taken hq hb hl]
    simp only [State.updPart_rf, State.part_updPart_self]
    refine ⟨rf_windowFields (by simp [windowFields]), rf_windowFields (by simp [windowFields]),
      rf_windowFields (by simp [windowFields]), trivial, fun k hk => ?_, fun a => ?_⟩
    · rw [State.updPart_rf, (s.onlyRegs_wfs (windowFields n v.toNat)).2 k hk]
    · rw [State.updPart_byte, State.byte, State.byte, State.wfs_mem]
  · rw [hwin s n v hn hw hr, edgeWindow_refused h]

end Sys2Proof.Machine

/-! PROOF. The circuit plane: injection, forwarding, delivery, credits, the epoch tick. -/

namespace Sys2Proof.Machine

/-! ### Injection -/

section
variable {s : State} {t k : Nat}

/-- Without packing a slot carries the head of the source queue, whole. -/
theorem slotLoad_unpacked (e : Entry × EType) (l : List (Entry × EType)) : slotLoad 0 1 64 (e :: l) = [(e.1, 64, 0, 0)] := by
  have hp : (if e.2 = .partialRow then (e.1, 64, 0, if 0 = 1 then 2 else 0) else packEntry 0 (e.2 == .bf16) e.1) =
      ((e.1, 64, 0, 0) : Entry × Nat × Nat × Nat) := by
    split <;> rfl
  rw [slotLoad, hp]
  rfl

theorem State.popOut_of_not_mayFire (ht : t < 262144) (h : s.mayFire t = false) (n : Nat) :
    s.popOut t k n = s.updTile t fun x => { x with outq := sset [] x.outq k ((x.outE k).drop n) } := by
  rw [State.popOut, State.promote_of_not_mayFire]
  rwa [ModuleRegsKept.mayFire (((ModuleRegsKept.refl s).updTile t _)) ht rfl]

/-- The state after queue `k` of tile `t` gave one entry, unpacked, for the flits `fl`. -/
def State.injected (s : State) (t k : Nat) (fl : List Flit) : State :=
  let s1 := (s.popOut t k 1).wf (TILE_QCRED_CREDITS t k) (s.rf (TILE_QCRED_CREDITS t k) - 1)
  let s2 := (s1.sat (TILE_QPACK_SAT t k) 0).sat (TILE_QPACK_RAW t k) 0
  ({ s2 with flits := s2.flits ++ fl } : State).bump (MESH_CIRC_FLITS_COUNT (plainOf t)) fl.length

theorem exec_inject {o u slot : Nat} {e : OEnt} {rest : List OEnt} (hslot : slot < 32) (hlive : s.routerLive t = true)
    (hkind : s.rf (TILE_QBIND_KIND t (8 + k)) = 1) (hpack : s.rf (TILE_QBIND_PACK t (8 + k)) = 0)
    (hcred : 0 < s.rf (TILE_QCRED_CREDITS t k)) (hset : s.settling (plainOf t) = false) (hw : s.withheld t k = false)
    (hq : (s.tile t).outE k = e :: rest)
    (houts : (s.outputsOf t (s.rf (MESH_BANK_LIVE (plainOf t))) 8 slot).filter (fun o =>
      decide (o < 8) && bits (s.slotEntry t (s.rf (MESH_BANK_LIVE (plainOf t))) o slot) 5 3 == k) = [o])
    (hu : neighbour t o = some u) :
    exec (.circuitFlitInject t k slot false) s = .next (s.injected t k
      [{ at_ := u, inp := oppInput o, slot := slot, par := s.parity (plainOf t), entries := [e]
         origin := { src := t, srcQ := k, sinks := (s.routeOf t k).2 } }]) := by
  have hn : min (if (0 : Nat) = 1 then 2 else if (0 : Nat) = 2 then 4 else 1) (s.rf (TILE_QCRED_CREDITS t k)) = 1 := by
    rw [if_neg (by decide), if_neg (by decide)]
    exact Nat.min_eq_left hcred
  rw [show exec (.circuitFlitInject t k slot false) s = execCircuitFlitInject t k slot false s from rfl,
    execCircuitFlitInject, houts, hpack, hn, hq, List.map_cons, slotLoad_unpacked, hkind, hlive, hset, hw,
    if_neg (by simp [hslot]), State.injected]
  simp [hu]

theorem State.injected_tile (fl : List Flit) (u : Nat) : (s.injected t k fl).tile u = (s.popOut t k 1).tile u := rfl

theorem State.injected_outE (ht : t < 262144) (hf : s.mayFire t = false) (fl : List Flit) :
    ((s.injected t k fl).tile t).outE k = ((s.tile t).outE k).drop 1 := by
  rw [State.injected_tile, State.popOut_of_not_mayFire ht hf, State.tile_updTile_self, Tile.outE, sget_sset_self]

theorem State.setFlits_rf (s : State) (l : List Flit) (j : Fk) : ({ s with flits := l } : State).rf j = s.rf j := rfl

theorem State.injected_credits (ht : t < 262144) (hf : s.mayFire t = false) (fl : List Flit) :
    (s.injected t k fl).rf (TILE_QCRED_CREDITS t k) = (s.rf (TILE_QCRED_CREDITS t k) - 1) % 128 := by
  have hflits : (TILE_QCRED_CREDITS t k).key ≠ (MESH_CIRC_FLITS_COUNT (plainOf t)).key := by
    simp only [Fk.key, TILE_QCRED_CREDITS, MESH_CIRC_FLITS_COUNT, tilePage, plainPage, plainOf]
    omega
  have hraw : (TILE_QCRED_CREDITS t k).key ≠ (TILE_QPACK_RAW t k).key := by
    simp only [Fk.key, TILE_QCRED_CREDITS, TILE_QPACK_RAW]
    omega
  have hsat : (TILE_QCRED_CREDITS t k).key ≠ (TILE_QPACK_SAT t k).key := by
    simp only [Fk.key, TILE_QCRED_CREDITS, TILE_QPACK_SAT]
    omega
  rw [State.injected, State.popOut_of_not_mayFire ht hf, State.bump, State.rf_wf_ne _ _ hflits, State.setFlits_rf, State.sat,
    State.rf_wf_ne _ _ hraw, State.sat, State.rf_wf_ne _ _ hsat, State.rf_wf_self]
  rfl

theorem State.injected_flits (ht : t < 262144) (hf : s.mayFire t = false) (fl : List Flit) :
    (s.injected t k fl).flits = s.flits ++ fl := by
  rw [State.injected, State.popOut_of_not_mayFire ht hf]
  rfl

theorem State.injected_bytesKept (fl : List Flit) : BytesKept s (s.injected t k fl) := fun a => by
  have hmem : (s.injected t k fl).mem = (s.popOut t k 1).mem := rfl
  rw [State.byte, hmem, State.popOut_mem, State.byte]

theorem State.injected_otherTiles (ht : t < 262144) (hf : s.mayFire t = false) (fl : List Flit) :
    OtherTilesKept s (s.injected t k fl) t := fun u hu => by
  rw [State.injected_tile, State.popOut_of_not_mayFire ht hf, State.tile_updTile, if_neg hu]

end

/-! ### Forwarding, credits -/

section
variable {s : State} {f : Flit} {rest : List Flit}

theorem exec_forward_orphan (hf : s.flits = f :: rest) (hs : f.sink = none) (hl : s.routerLive f.at_ = true)
    (h : s.outputsOf f.at_ (s.bankFor (plainOf f.at_) f.par) f.inp ((f.slot + 1) % 32) = []) :
    exec (.circuitFlitForward 0) s = .next (({ s with flits := rest } : State).orphan f.at_) := by
  rw [show exec (.circuitFlitForward 0) s = execCircuitFlitForward 0 s from rfl, execCircuitFlitForward, hf]
  dsimp only [List.getElem?_cons_zero]
  rw [hs, hl, h]
  rfl

theorem exec_forward_sink (hf : s.flits = f :: rest) (hs : f.sink = none) (hl : s.routerLive f.at_ = true)
    (h : s.outputsOf f.at_ (s.bankFor (plainOf f.at_) f.par) f.inp ((f.slot + 1) % 32) = [8]) :
    exec (.circuitFlitForward 0) s = .next (({ s with flits := rest ++ [{ f with
      slot := (f.slot + 1) % 32
      sink := some (bits (s.slotEntry f.at_ (s.bankFor (plainOf f.at_) f.par) 8 ((f.slot + 1) % 32)) 5 3) }] } : State).bump
        (MESH_CIRC_FLITS_COUNT (plainOf f.at_)) 1) := by
  rw [show exec (.circuitFlitForward 0) s = execCircuitFlitForward 0 s from rfl, execCircuitFlitForward, hf]
  dsimp only [List.getElem?_cons_zero]
  rw [hs, hl, h]
  rfl

theorem exec_creditReturn {t k : Nat} {o : Origin} (hd : s.creditDue t k = some o)
    (hall : (s.routeOf t k).1.all s.routerLive = true) (hw : s.withheld t k = false) :
    exec (.creditReturn t k) s = .next (({ s with
      credits := o.sinks.foldl (fun l q => l.eraseP (creditOf o q)) s.credits } : State).sat (TILE_QCRED_CREDITS t k)) := by
  rw [show exec (.creditReturn t k) s = execCreditReturn t k s from rfl, execCreditReturn, hd]
  dsimp only
  rw [hw, hall]
  rfl

end

/-! ### The epoch tick -/

section
variable {s : State} {p : Nat}

/-- The plains whose sources settle after a switch: those of the partition that holds the plain. -/
def State.settlers (s : State) (p : Nat) : List Nat :=
  match s.plainPart p with
  | some n => s.plainsOf n
  | none => [p]

/-- Round and tick counted, the switch of the plain's banks no longer pending. -/
def State.ticked (s : State) (p : Nat) : State :=
  ((s.bump (MESH_ROUND_COUNT p)).bump (MESH_TICKS_COUNT p)).updPlain p fun q =>
    { q with prevBank := s.rf (MESH_BANK_LIVE p), meshSub := 0, bankPend := false }

/-- The sources of the plains `ps` settle for 48 rounds. -/
def State.settle (s : State) (ps : List Nat) : State :=
  s.forEach ps fun s r => s.updPlain r fun q => { q with settle := s.rf (MESH_ROUND_COUNT r) + 48 }

theorem epochTick_switch (hb : (s.plain p).bankPend = true) (hl : s.rf (MESH_BANK_SEL p) ≠ s.rf (MESH_BANK_LIVE p)) :
    s.epochTick p = ((s.ticked p).wf (MESH_BANK_LIVE p) (s.rf (MESH_BANK_SEL p))).settle (s.settlers p) := by
  rw [State.epochTick, if_pos ⟨hb, hl⟩]
  rfl

theorem epochTick_keep (hb : (s.plain p).bankPend = false) : s.epochTick p = s.ticked p := by
  rw [State.epochTick, if_neg (by simp [hb])]
  rfl

theorem epochTick_same (hl : s.rf (MESH_BANK_SEL p) = s.rf (MESH_BANK_LIVE p)) : s.epochTick p = s.ticked p := by
  rw [State.epochTick, if_neg (by simp [hl])]
  rfl

theorem State.settle_rf (ps : List Nat) (j : Fk) : (s.settle ps).rf j = s.rf j :=
  foldl_keeps (State.rf · j) (fun u r => u.updPlain_rf r _ j) ps s

theorem State.settle_keeper (ps : List Nat) : (s.settle ps).keeper = s.keeper :=
  foldl_keeps State.keeper (fun u r => u.updPlain_keeper r _) ps s

theorem State.settle_byte (ps : List Nat) (a : Nat) : (s.settle ps).byte a = s.byte a :=
  foldl_keeps (State.byte · a) (fun u r => u.updPlain_byte r _ a) ps s

theorem State.settle_bankPend (ps : List Nat) (q : Nat) : ((s.settle ps).plain q).bankPend = (s.plain q).bankPend :=
  foldl_keeps (fun u => (State.plain u q).bankPend) (fun u r => by
    rw [State.plain_updPlain]
    split
    · next h => rw [h]
    · rfl) ps s

theorem State.settle_one : ((s.settle [p]).plain p).settle = s.rf (MESH_ROUND_COUNT p) + 48 := by
  rw [State.settle, State.forEach, List.foldl_cons, List.foldl_nil, State.plain_updPlain_self]

theorem State.ticked_rounds : (s.ticked p).rf (MESH_ROUND_COUNT p) = (s.rf (MESH_ROUND_COUNT p) + 1) % 2 ^ 48 := by
  rw [State.ticked, State.updPlain_rf, State.bump, State.rf_wf_ne, State.bump, State.rf_wf_self]
  · rfl
  · simp only [Fk.key, MESH_ROUND_COUNT, MESH_TICKS_COUNT]
    omega

theorem State.ticked_ticks : (s.ticked p).rf (MESH_TICKS_COUNT p) = (s.rf (MESH_TICKS_COUNT p) + 1) % 2 ^ 32 := by
  rw [State.ticked, State.updPlain_rf, State.bump, State.rf_wf_self, State.bump, State.rf_wf_ne]
  · rfl
  · simp only [Fk.key, MESH_ROUND_COUNT, MESH_TICKS_COUNT]
    omega

theorem State.ticked_rf_ne {j : Fk} (h₁ : j.key ≠ (MESH_ROUND_COUNT p).key) (h₂ : j.key ≠ (MESH_TICKS_COUNT p).key) :
    (s.ticked p).rf j = s.rf j := by
  rw [State.ticked, State.updPlain_rf, State.bump, State.rf_wf_ne _ _ h₂, State.bump, State.rf_wf_ne _ _ h₁]

theorem State.ticked_bankPend : ((s.ticked p).plain p).bankPend = false := by
  rw [State.ticked, State.plain_updPlain_self]

/-- What every tick does: the round and the tick are counted, no switch stays pending, and only the live bank may change. -/
structure Ticks (s u : State) (p : Nat) : Prop where
  keeper : u.keeper = s.keeper
  rounds : u.rf (MESH_ROUND_COUNT p) = (s.rf (MESH_ROUND_COUNT p) + 1) % 2 ^ 48
  ticks : u.rf (MESH_TICKS_COUNT p) = (s.rf (MESH_TICKS_COUNT p) + 1) % 2 ^ 32
  pend : (u.plain p).bankPend = false
  bytes : BytesKept s u
  regs : RegsKept s u [MESH_ROUND_COUNT p, MESH_TICKS_COUNT p, MESH_BANK_LIVE p]

theorem State.ticked_holds : Ticks s (s.ticked p) p where
  keeper := rfl
  rounds := State.ticked_rounds
  ticks := State.ticked_ticks
  pend := State.ticked_bankPend
  bytes _ := rfl
  regs j hj := State.ticked_rf_ne (hj _ (by simp)).symm (hj _ (by simp)).symm

theorem Ticks.wf_live {u : State} (h : Ticks s u p) (v : Nat) : Ticks s (u.wf (MESH_BANK_LIVE p) v) p where
  keeper := h.keeper
  rounds := (State.rf_wf_ne _ _ (by simp only [Fk.key, MESH_ROUND_COUNT, MESH_BANK_LIVE]; omega)).trans h.rounds
  ticks := (State.rf_wf_ne _ _ (by simp only [Fk.key, MESH_TICKS_COUNT, MESH_BANK_LIVE]; omega)).trans h.ticks
  pend := h.pend
  bytes := h.bytes
  regs j hj := (State.rf_wf_ne _ _ (hj _ (by simp)).symm).trans (h.regs j hj)

theorem Ticks.settle {u : State} (h : Ticks s u p) (ps : List Nat) : Ticks s (u.settle ps) p where
  keeper := (State.settle_keeper ps).trans h.keeper
  rounds := (State.settle_rf ps _).trans h.rounds
  ticks := (State.settle_rf ps _).trans h.ticks
  pend := (State.settle_bankPend ps p).trans h.pend
  bytes a := (State.settle_byte ps a).trans (h.bytes a)
  regs j hj := (State.settle_rf ps j).trans (h.regs j hj)

theorem epochTick_ticks : Ticks s (s.epochTick p) p := by
  by_cases h : (s.plain p).bankPend = true ∧ s.rf (MESH_BANK_SEL p) ≠ s.rf (MESH_BANK_LIVE p)
  · rw [epochTick_switch h.1 h.2]
    exact (State.ticked_holds.wf_live _).settle _
  · rw [State.epochTick, if_neg h]
    exact State.ticked_holds

theorem loadTick_of_no_load (h : s.keeper.load = none) : s.loadTick p = s := by
  rw [State.loadTick, h]

theorem exec_epochTick (hp : p < 64) (hst : s.plnState p = 0 ∨ s.plnState p = 2) (hg : s.gated = false)
    (hd : s.tickDue p = true) (hl : s.keeper.load = none) : exec (.meshEpochTick p) s = .next (s.epochTick p) := by
  rw [show exec (.meshEpochTick p) s = execMeshEpochTick p s from rfl, execMeshEpochTick, if_pos ⟨hp, hst, by simp [hg], hd⟩,
    loadTick_of_no_load]
  rw [epochTick_ticks.keeper, hl]

theorem epochTick_settle (hb : (s.plain p).bankPend = true) (hl : s.rf (MESH_BANK_SEL p) ≠ s.rf (MESH_BANK_LIVE p))
    (hn : s.plainPart p = none) :
    ((s.epochTick p).plain p).settle = (s.epochTick p).rf (MESH_ROUND_COUNT p) + 48 := by
  rw [epochTick_switch hb hl, State.settlers, hn, State.settle_one, State.settle_rf]

theorem epochTick_live (hb : (s.plain p).bankPend = true) (hl : s.rf (MESH_BANK_SEL p) ≠ s.rf (MESH_BANK_LIVE p)) :
    (s.epochTick p).rf (MESH_BANK_LIVE p) = s.rf (MESH_BANK_SEL p) % 2 := by
  rw [epochTick_switch hb hl, State.settle_rf, State.rf_wf_self]
  rfl

theorem epochTick_live_kept (hb : (s.plain p).bankPend = false) :
    (s.epochTick p).rf (MESH_BANK_LIVE p) = s.rf (MESH_BANK_LIVE p) := by
  rw [epochTick_keep hb, State.ticked_rf_ne]
  · simp only [Fk.key, MESH_ROUND_COUNT, MESH_BANK_LIVE]
    omega
  · simp only [Fk.key, MESH_TICKS_COUNT, MESH_BANK_LIVE]
    omega

/-- A tick is due after the last round of an epoch. -/
theorem epochTick_round_mod (hd : s.tickDue p = true) : (s.epochTick p).rf (MESH_ROUND_COUNT p) % 256 = 0 := by
  have hr : s.rf (MESH_ROUND_COUNT p) % 256 = 255 := by
    simp only [State.tickDue, Bool.and_eq_true, decide_eq_true_eq] at hd
    exact hd.1.1
  rw [epochTick_ticks.rounds]
  omega

end

/-- Settles O32. -/
theorem circuitPlane : Obligations.CircuitPlane := by
  refine ⟨fun s t k o u slot e rest ht _ hslot hlive hkind hpack hcred hset hw hq hf houts hu =>
      ⟨_, exec_inject hslot hlive hkind hpack hcred hset hw hq houts hu, ?_, State.injected_credits ht hf _,
        State.injected_flits ht hf _, State.injected_bytesKept _, State.injected_otherTiles ht hf _⟩,
    fun s f rest hf hs hl => ⟨fun h => exec_forward_orphan hf hs hl h, fun h => ⟨_, exec_forward_sink hf hs hl h, rfl,
      fun _ => rfl, fun j hj => State.rf_wf_ne _ _ (hj _ (by simp)).symm⟩⟩,
    fun s f rest q hf hs hl hk hr => ?_, fun s t k o hd hall hw => ⟨_, exec_creditReturn hd hall hw, ?_, fun _ => rfl,
      fun j hj => State.rf_wf_ne _ _ (hj _ (by simp)).symm⟩,
    fun s p hp hst hg hd hl => ⟨_, exec_epochTick hp hst hg hd hl, epochTick_ticks.rounds, epochTick_round_mod hd,
      epochTick_ticks.ticks, fun hb hne => ⟨epochTick_live hb hne, epochTick_settle hb hne⟩, epochTick_live_kept,
      epochTick_ticks.pend, epochTick_ticks.bytes, epochTick_ticks.regs⟩,
    fun s p => ⟨fun h => ?_, fun h => ?_⟩⟩
  · rw [State.injected_outE ht hf, hq, List.drop_one, List.tail_cons]
  · rw [show exec (.circuitFlitDeliver 0) s = execCircuitFlitDeliver 0 s from rfl, execCircuitFlitDeliver, hf]
    dsimp only [List.getElem?_cons_zero]
    rw [hs]
    dsimp only
    rw [hl, hk, hr]
    rfl
  · rw [State.sat, State.rf_wf_self]
    show min (s.rf (TILE_QCRED_CREDITS t k) + 1) 127 % 128 = _
    omega
  · rw [show exec (.bankSettlingEnd p) s = execBankSettlingEnd p s from rfl, execBankSettlingEnd, State.settling,
      decide_eq_false (by omega), if_neg Bool.false_ne_true]
  · rw [show exec (.bankSettlingEnd p) s = execBankSettlingEnd p s from rfl, execBankSettlingEnd, State.settling,
      decide_eq_true h, if_pos rfl]

end Sys2Proof.Machine

/-! PROOF. Packet hops, escapes, detour tables, the stall watch, spill. -/

namespace Sys2Proof.Machine

/-! ### Loops that write one field each -/

/-- A view that exactly one kind of step sets, the others keeping it, has the set value after a loop with such a step. -/
theorem foldl_settles {α σ β : Type} {f : σ → α → σ} {l : List α} {a : α} {v : β} {p : σ} (I : σ → Prop) (view : σ → β)
    (hp : I p) (hI : ∀ u, ∀ x ∈ l, I u → I (f u x)) (hset : ∀ u, I u → view (f u a) = v)
    (hkeep : ∀ u, ∀ x ∈ l, I u → x ≠ a → view (f u x) = view u) (ha : a ∈ l) : view (l.foldl f p) = v := by
  suffices h : ∀ (m : List α) (q : σ), m ⊆ l → I q → a ∈ m ∨ view q = v → view (m.foldl f q) = v from
    h l p (List.Subset.refl l) hp (.inl ha)
  intro m
  induction m with
  | nil =>
    intro q _ _ h
    exact h.resolve_left List.not_mem_nil
  | cons x m ih =>
    intro q hm hq h
    have hx : x ∈ l := hm List.mem_cons_self
    refine ih _ (fun y hy => hm (List.mem_cons_of_mem _ hy)) (hI q x hx hq) ?_
    by_cases hxa : x = a
    · exact .inr (hxa ▸ hset q hq)
    · rw [hkeep q x hx hq hxa]
      exact h.imp_left fun h => (List.mem_cons.mp h).resolve_left (Ne.symm hxa)

/-! ### Hops and escapes -/

section
variable {s : State} {k : Packet} {rest : List Packet} {u w d : Nat}

theorem headPacket_zero (h : s.net = k :: rest) : s.headPacket 0 = some k := by
  rw [State.headPacket, h]
  simp

theorem hopTile_open (hn : neighbour u d = some w) (hf : s.plnState (plainOf w) ≠ 3) (ho : s.hopOpen u w d k = true) (i : Nat) :
    s.hopTile i u d false k =
      (s.movePacket i { k with loc := .tile w, inp := oppInput d }).bump (MESH_PKT_FLITS_COUNT (plainOf u)) (packetFlits k) := by
  have hi : s.intoFence w k = false := by simp [State.intoFence, hf]
  rw [State.hopTile, hn]
  dsimp only
  rw [hi, ho, Bool.false_and, Bool.or_false]
  rfl

/-- An ORD packet off the fenced plains takes the X first, then Y path. -/
theorem exec_packetHop_ord (hnet : s.net = k :: rest) (hl : k.loc = .tile u) (hty : k.ty < 4) (hesc : k.esc = false)
    (hord : k.ord = true) (hlive : s.routerLive u = true) (ht : u ≠ (s.target k (tileX u) (tileY u)).1)
    (hc : s.takesCol u (s.target k (tileX u) (tileY u)) k = false) (hxy : xyDir u (s.target k (tileX u) (tileY u)).1 = some d)
    (hn : neighbour u d = some w) (hf : s.plnState (plainOf w) ≠ 3) (ho : s.hopOpen u w d k = true) (dir : Nat) :
    exec (.packetHop 0 dir) s = .next ((s.movePacket 0 { k with loc := .tile w, inp := oppInput d }).bump
      (MESH_PKT_FLITS_COUNT (plainOf u)) (packetFlits k)) := by
  rw [show exec (.packetHop 0 dir) s = execPacketHop 0 dir s from rfl, execPacketHop, headPacket_zero hnet]
  dsimp only
  rw [hl]
  dsimp only
  rw [if_neg (by simp [hlive]; omega), if_pos ht, State.hopFrom, if_neg (by simp [hesc, hc]), if_pos hord, hxy]
  exact congrArg _ (hopTile_open hn hf ho 0)

theorem exec_packetEscape (hnet : s.net = k :: rest) (hl : k.loc = .tile u) (hesc : k.esc = false) (hord : k.ord = false)
    (hty : k.ty ≠ 4) (hlive : s.routerLive u = true) (hu : u ≠ (s.target k (tileX u) (tileY u)).1)
    (hd : ∀ d ∈ minimalDirs u (s.target k (tileX u) (tileY u)).1, s.dirFree u d k = none)
    (hw : k.since + max 1 (s.rf (MESH_CTRL_ESC_WAIT (plainOf u))) ≤ s.meshAt (plainOf u)) :
    exec (.packetEscape 0) s =
      .next (({ s with net := { k with esc := true } :: rest } : State).bump (MESH_ESCAPES_COUNT (plainOf u))) := by
  have hany : (minimalDirs u (s.target k (tileX u) (tileY u)).1).any (fun d => (s.dirFree u d k).isSome) = false :=
    List.any_eq_false.mpr fun d h => by simp [hd d h]
  rw [show exec (.packetEscape 0) s = execPacketEscape 0 s from rfl, execPacketEscape, headPacket_zero hnet]
  dsimp only
  rw [hl]
  dsimp only
  rw [if_neg (by simp [hany, hesc, hord, hlive, hty, hu]; omega), hnet]
  simp [modifyAt, hl]

theorem exec_packetEscape_ord (hnet : s.net = k :: rest) (hl : k.loc = .tile u) (hord : k.ord = true) :
    exec (.packetEscape 0) s = .next s := by
  rw [show exec (.packetEscape 0) s = execPacketEscape 0 s from rfl, execPacketEscape, headPacket_zero hnet]
  dsimp only
  rw [hl]
  dsimp only
  rw [hord, Bool.or_true]
  rfl

end

/-! ### Detour tables -/

section
variable {s : State} {tree : List (Nat × Nat)}

theorem treeParent_lt {p : Nat} {r : Nat × Nat} (h : treeParent tree p = some r) : r.1 < 4 := by
  rw [treeParent, Option.bind_eq_some_iff] at h
  obtain ⟨e, -, he⟩ := h
  split at he
  · next h4 =>
    rw [Option.map_eq_some_iff] at he
    obtain ⟨_, -, rfl⟩ := he
    exact h4
  · cases he

/-- An exit is one of the four edges, the plain itself, or none: it fits its field. -/
theorem treeExit_lt (down : Bool) (p d : Nat) : (treeExit tree down p d).1 < 8 := by
  rw [treeExit]
  split
  · decide
  · split
    · split
      · exact (Nat.mod_lt _ (by decide)).trans (by decide)
      · decide
    · split
      · next r hr =>
        have h4 := treeParent_lt hr
        split
        · decide
        · exact h4.trans (by decide)
      · decide

/-- The entries for plain `d` written in the table of plain `p`. -/
def detourFields (tree : List (Nat × Nat)) (p d : Nat) : List (Fk × Nat) :=
  [(MESH_DETOUR_UP_DIR p d, (treeExit tree false p d).1), (MESH_DETOUR_DOWN_DIR p d, (treeExit tree true p d).1),
   (MESH_DETOUR_UP_IS_DOWN p d, b2n (treeExit tree false p d).2)]

/-- One entry of the table, where the plain is live. -/
def State.detourEntry (tree : List (Nat × Nat)) (p : Nat) (s : State) (d : Nat) : State :=
  if s.plainLive p then s.wfs (detourFields tree p d) else s

/-- The table of one plain, with its valid bit. -/
def State.detourPlain (tree : List (Nat × Nat)) (active : Bool) (s : State) (p : Nat) : State :=
  ((s.forEach (List.range 64) (State.detourEntry tree p)).wf (MESH_STATUS_DETOUR_VALID p) (b2n active)).updPlain p fun q =>
    { q with detourWait := false }

theorem exec_detourLoaded (hk : s.rb MOD_STATUS_KEEPER_UP = true) (ht : s.treeOk tree = true) :
    exec (.detourTableLoaded tree) s =
      .next (s.forEach (List.range 64) (State.detourPlain tree ((List.range 64).any fun p => s.plnState p == 3))) := by
  rw [show exec (.detourTableLoaded tree) s = execDetourTableLoaded tree s from rfl, execDetourTableLoaded, hk, ht]
  rfl

/-- The offset of the entry for plain `d` in the table of plain `p`. -/
def detourOff (p d : Nat) : Nat := plainPage p 1 + 0x400 + 8 * d

theorem detourFields_off {p d : Nat} {q : Fk × Nat} (hq : q ∈ detourFields tree p d) : q.1.off = detourOff p d ∧ q.1.lo < 64 := by
  simp only [detourFields, List.mem_cons, List.not_mem_nil, or_false] at hq
  rcases hq with rfl | rfl | rfl <;>
    simp [detourOff, MESH_DETOUR_UP_DIR, MESH_DETOUR_DOWN_DIR, MESH_DETOUR_UP_IS_DOWN]

theorem key_ne_of_off {i j : Fk} (h : i.off ≠ j.off) (hi : i.lo < 64) (hj : j.lo < 64) : i.key ≠ j.key := by
  simp only [Fk.key]
  omega

/-- A field outside the entries for plain `d` keeps its value. -/
theorem detourEntry_rf_ne {p d : Nat} {j : Fk} (h : j.off ≠ detourOff p d) (hj : j.lo < 64) :
    (s.detourEntry tree p d).rf j = s.rf j := by
  rw [State.detourEntry]
  split
  · refine s.rf_wfs_ne _ _ fun q hq => ?_
    obtain ⟨hoff, hlo⟩ := detourFields_off hq
    exact key_ne_of_off (hoff ▸ h) hj hlo
  · rfl

theorem detourPlain_rf_ne {p : Nat} {active : Bool} {j : Fk} (h : ∀ d, d < 64 → j.off ≠ detourOff p d)
    (hv : j.off ≠ plainPage p 1 + 0x110) (hj : j.lo < 64) : (s.detourPlain tree active p).rf j = s.rf j := by
  rw [State.detourPlain, State.updPlain_rf, State.rf_wf_ne _ _ (key_ne_of_off hv hj (by simp [MESH_STATUS_DETOUR_VALID]))]
  exact foldl_keeps_of (State.rf · j) (fun u d hd => detourEntry_rf_ne (s := u) (h d (List.mem_range.mp hd)) hj) s

theorem detourPlain_plnState {p q : Nat} {active : Bool} : (s.detourPlain tree active p).plnState q = s.plnState q := by
  refine detourPlain_rf_ne (fun d hd => ?_) ?_ (by simp [PLN_STATE_STATE])
  · simp only [PLN_STATE_STATE, detourOff, plainPage]
    omega
  · simp only [PLN_STATE_STATE, plainPage]
    omega

theorem detourEntry_plnState {p q d : Nat} (hd : d < 64) : (s.detourEntry tree p d).plnState q = s.plnState q := by
  refine detourEntry_rf_ne ?_ (by simp [PLN_STATE_STATE])
  simp only [PLN_STATE_STATE, detourOff, plainPage]
  omega

/-- A field of an entry of a live plain reads the exit of the tree. -/
theorem detourPlain_entry {p d : Nat} {active : Bool} {j : Fk} {v : Nat} (hd : d < 64) (hp : s.plainLive p = true)
    (hj : (j, v) ∈ detourFields tree p d) : (s.detourPlain tree active p).rf j = v := by
  obtain ⟨hoff, hlo⟩ := detourFields_off hj
  have hval : ∀ u : State, u.plnState p = s.plnState p → (u.detourEntry tree p d).rf j = v := by
    intro u hu
    rw [State.detourEntry, if_pos (by rw [State.plainLive, hu]; exact hp)]
    refine State.rf_wfs_mem ⟨_, hj, rfl⟩ ?_
    have h1 := treeExit_lt (tree := tree) false p d
    have h2 := treeExit_lt (tree := tree) true p d
    have h3 : b2n (treeExit tree false p d).2 < 2 := by cases (treeExit tree false p d).2 <;> decide
    simp only [detourFields, List.mem_cons, List.not_mem_nil, or_false, Prod.mk.injEq] at hj ⊢
    rcases hj with ⟨rfl, rfl⟩ | ⟨rfl, rfl⟩ | ⟨rfl, rfl⟩ <;>
      simp [Fk.key, MESH_DETOUR_UP_DIR, MESH_DETOUR_DOWN_DIR, MESH_DETOUR_UP_IS_DOWN] <;> omega
  rw [State.detourPlain, State.updPlain_rf, State.rf_wf_ne]
  · refine foldl_settles (fun u => u.plnState p = s.plnState p) (State.rf · j) rfl
      (fun u x hx hu => (detourEntry_plnState (List.mem_range.mp hx)).trans hu) hval (fun u x _ _ hxd => ?_)
      (List.mem_range.mpr hd)
    refine detourEntry_rf_ne ?_ hlo
    rw [hoff, detourOff, detourOff]
    omega
  · refine key_ne_of_off ?_ hlo (by simp [MESH_STATUS_DETOUR_VALID])
    rw [hoff]
    simp only [detourOff, MESH_STATUS_DETOUR_VALID]
    omega

/-- The Keeper's tables of all plains. -/
def State.detours (s : State) (tree : List (Nat × Nat)) (active : Bool) : State :=
  s.forEach (List.range 64) (State.detourPlain tree active)

theorem detours_entry {p d : Nat} {active : Bool} {j : Fk} {v : Nat} (hp : p < 64) (hd : d < 64) (hl : s.plainLive p = true)
    (hj : (j, v) ∈ detourFields tree p d) : (s.detours tree active).rf j = v := by
  obtain ⟨hoff, hlo⟩ := detourFields_off hj
  refine foldl_settles (fun u => u.plnState p = s.plnState p) (State.rf · j) rfl (fun u x _ hu => detourPlain_plnState.trans hu)
    (fun u hu => detourPlain_entry hd (by rw [State.plainLive, hu]; exact hl) hj) (fun u x _ _ hx => ?_) (List.mem_range.mpr hp)
  refine detourPlain_rf_ne (fun e he => ?_) ?_ hlo <;> rw [hoff] <;> simp only [detourOff, plainPage] <;> omega

theorem detours_valid {p : Nat} {active : Bool} (hp : p < 64) :
    (s.detours tree active).rf (MESH_STATUS_DETOUR_VALID p) = b2n active := by
  refine foldl_settles (fun _ => True) (State.rf · (MESH_STATUS_DETOUR_VALID p)) trivial (fun _ _ _ _ => trivial)
    (fun u _ => ?_) (fun u x _ _ hx => ?_) (List.mem_range.mpr hp)
  · rw [State.detourPlain, State.updPlain_rf, State.rf_wf_self]
    cases active <;> rfl
  · refine detourPlain_rf_ne (fun d hd => ?_) ?_ (by simp [MESH_STATUS_DETOUR_VALID]) <;>
      simp only [MESH_STATUS_DETOUR_VALID, detourOff, plainPage] <;> omega

theorem detours_mem (active : Bool) : (s.detours tree active).mem = s.mem := by
  refine State.forEach_mem_of _ _ fun u p => ?_
  rw [State.detourPlain, State.updPlain_mem, State.wf_mem]
  refine State.forEach_mem_of _ _ fun u d => ?_
  rw [State.detourEntry]
  split
  · exact State.wfs_mem _ _
  · rfl

end

/-! ### Spilled entries -/

section
variable {s : State} {t k : Nat}

/-- The spilled entry `e` has come into its queue. -/
def State.refilled (s : State) (t k : Nat) (e : QEnt) (rest : List QEnt) : State :=
  s.updTile t fun x => { x with inq := sset [] x.inq k (x.inQ k ++ [e]), spill := sset [] x.spill k rest }

theorem exec_spillRefill {e : QEnt} {rest : List QEnt} (hq : (s.tile t).spillQ k = e :: rest) (hr : s.inRoom t k ≠ 0) :
    exec (.spillRefill t k) s = .next ((s.refilled t k e rest).promote t) := by
  rw [show exec (.spillRefill t k) s = execSpillRefill t k s from rfl, execSpillRefill, hq]
  dsimp only
  rw [if_neg hr]
  rfl

theorem State.refilled_inQ (e : QEnt) (rest : List QEnt) : ((s.refilled t k e rest).tile t).inQ k = (s.tile t).inQ k ++ [e] := by
  rw [State.refilled, State.tile_updTile_self, Tile.inQ, sget_sset_self]

theorem State.refilled_spillQ (e : QEnt) (rest : List QEnt) : ((s.refilled t k e rest).tile t).spillQ k = rest := by
  rw [State.refilled, State.tile_updTile_self, Tile.spillQ, sget_sset_self]

/-- Outside the tile nothing decides whether its tasks may fire but registers. -/
theorem State.mayFire_updTile (f : Tile → Tile) : (s.updTile t f).mayFire t = s.mayFire t := rfl

end

/-- Settles O33. -/
theorem packetMoves : Obligations.PacketMoves := by
  refine ⟨fun s k rest u w d dir hnet hl hty hesc hord hlive htg hn hf ho => ?_,
    fun s k rest u hnet hl => ⟨fun hesc hord hty hlive htg hw => exec_packetEscape hnet hl hesc hord hty hlive htg.1 htg.2 hw,
      exec_packetEscape_ord hnet hl⟩,
    fun s tree hk ht => ⟨_, exec_detourLoaded hk ht, fun p d hp hd hl => ⟨detours_entry hp hd hl (by simp [detourFields]),
      detours_entry hp hd hl (by simp [detourFields]), detours_entry hp hd hl (by simp [detourFields])⟩,
      fun p hp => detours_valid hp, fun a => ?_⟩,
    fun s n at_ hn hf hq ht => ?_, fun s t k e rest hq hr hm => ⟨s.refilled t k e rest, ?_, State.refilled_inQ e rest,
      State.refilled_spillQ e rest, fun _ => rfl, fun _ _ => rfl⟩⟩
  · obtain ⟨ht, hc, hxy⟩ := htg
    refine ⟨_, exec_packetHop_ord hnet hl hty hesc hord hlive ht hc hxy hn hf ho dir, ?_, fun _ => rfl,
      fun j hj => State.rf_wf_ne _ _ (hj _ (by simp)).symm, rfl⟩
    rw [State.bump_net, State.movePacket, hnet]
    rfl
  · rw [State.byte, ← State.detours, detours_mem, State.byte]
  · rw [show exec (.stallDeclare n at_) s = execStallDeclare n at_ s from rfl, execStallDeclare,
      if_pos ⟨hn, by simp [hf], hq, ht⟩]
  · rw [exec_spillRefill hq hr, State.promote_of_not_mayFire]
    exact (State.mayFire_updTile _).trans hm

end Sys2Proof.Machine

/-! PROOF. Span links: flits, replays, loss and training of a link. -/

namespace Sys2Proof.Machine

section
variable {s : State} {p : Nat}

@[simp] theorem State.send_rf (s : State) (k : Packet) (j : Fk) : (s.send k).rf j = s.rf j := rfl

@[simp] theorem State.span_setSpan (x : Span) : (s.setSpan p x).span p = x := by
  rw [State.span, State.setSpan, sget_sset_self]

theorem ackSpan_rxSeq (x : Span) (ack now : Nat) : (ackSpan x ack now).rxSeq = x.rxSeq := by
  rw [ackSpan]
  split <;> rfl

/-! ### Flits -/

theorem exec_spanFlit_damaged (hp : p < 6) (hup : s.rb (SPN_STATUS_UP p) = true) (seq ack : Nat) :
    exec (.spanFlitReceive p false seq ⟨ack, false⟩ none) s =
      .next ((s.bump (SPN_FLITS_RX_COUNT p)).bump (SPN_CRC_ERRORS_COUNT p)) := by
  rw [show exec (.spanFlitReceive p false seq ⟨ack, false⟩ none) s =
      execSpanFlitReceive p false seq ⟨ack, false⟩ none s from rfl,
    execSpanFlitReceive, if_neg (by simp [hp, hup])]
  rfl

/-- The flit is counted and the acknowledgement that it carries taken. -/
def State.spanAcked (s : State) (p ack : Nat) : State :=
  ((s.bump (SPN_FLITS_RX_COUNT p)).setSpan p (ackSpan (s.span p) ack s.time)).wf (SPN_STATUS_REPLAYING p)
    (if (ackSpan (s.span p) ack s.time).replays = 0 then 0 else s.rf (SPN_STATUS_REPLAYING p))

theorem State.spanAcked_span (ack : Nat) : (s.spanAcked p ack).span p = ackSpan (s.span p) ack s.time := by
  rw [State.spanAcked]
  exact State.span_setSpan _

theorem State.spanAcked_up (ack : Nat) : (s.spanAcked p ack).rb (SPN_STATUS_UP p) = s.rb (SPN_STATUS_UP p) := by
  have h₁ : (SPN_STATUS_UP p).key ≠ (SPN_STATUS_REPLAYING p).key := by
    simp only [Fk.key, SPN_STATUS_UP, SPN_STATUS_REPLAYING]
    omega
  have h₂ : (SPN_STATUS_UP p).key ≠ (SPN_FLITS_RX_COUNT p).key := by
    simp only [Fk.key, SPN_STATUS_UP, SPN_FLITS_RX_COUNT]
    omega
  rw [State.rb, State.rb, State.spanAcked, State.rf_wf_ne _ _ h₁, State.setSpan_rf, State.bump, State.rf_wf_ne _ _ h₂]

theorem State.spanAcked_flits (ack : Nat) :
    (s.spanAcked p ack).rf (SPN_FLITS_RX_COUNT p) = (s.rf (SPN_FLITS_RX_COUNT p) + 1) % 2 ^ 64 := by
  have h : (SPN_FLITS_RX_COUNT p).key ≠ (SPN_STATUS_REPLAYING p).key := by
    simp only [Fk.key, SPN_FLITS_RX_COUNT, SPN_STATUS_REPLAYING]
    omega
  rw [State.spanAcked, State.rf_wf_ne _ _ h, State.setSpan_rf, State.bump, State.rf_wf_self]
  rfl

theorem State.spanAcked_net (ack : Nat) : (s.spanAcked p ack).net = s.net := rfl

theorem State.spanAcked_mem (ack : Nat) : (s.spanAcked p ack).mem = s.mem := rfl

/-- The flit that is expected has been taken, and its packet enters the module at the port. -/
def State.spanTaken (s : State) (p seq ack : Nat) (k : Packet) : State :=
  ((s.spanAcked p ack).setSpan p { ackSpan (s.span p) ack s.time with rxSeq := (seq + 1) % 4096 }).send
    { k with loc := .span p, via := some p, pa := none, inp := 4, full := false }

theorem exec_spanFlit_expected (hp : p < 6) (hup : s.rb (SPN_STATUS_UP p) = true) {seq : Nat} (hs : seq < 4096)
    (hx : seq = (s.span p).rxSeq) (ack : Nat) (k : Packet) :
    exec (.spanFlitReceive p true seq ⟨ack, false⟩ (some k)) s = .next (s.spanTaken p seq ack k) := by
  rw [show exec (.spanFlitReceive p true seq ⟨ack, false⟩ (some k)) s =
      execSpanFlitReceive p true seq ⟨ack, false⟩ (some k) s from rfl,
    execSpanFlitReceive, if_neg (by simp [hp, hup]), if_neg (by decide)]
  dsimp only
  rw [← State.spanAcked, if_neg Bool.false_ne_true, State.spanAcked_up, hup, State.spanAcked_span, if_neg (by decide),
    if_pos (by rw [ackSpan_rxSeq, Nat.mod_eq_of_lt hs, hx]), ackSpan_rxSeq, ← hx, State.spanTaken]

theorem State.spanTaken_rxSeq (seq ack : Nat) (k : Packet) : ((s.spanTaken p seq ack k).span p).rxSeq = (seq + 1) % 4096 :=
  congrArg Span.rxSeq (State.span_setSpan (s := s.spanAcked p ack) _)

theorem State.spanTaken_flits (seq ack : Nat) (k : Packet) :
    (s.spanTaken p seq ack k).rf (SPN_FLITS_RX_COUNT p) = (s.rf (SPN_FLITS_RX_COUNT p) + 1) % 2 ^ 64 := by
  rw [State.spanTaken, State.send_rf, State.setSpan_rf, State.spanAcked_flits]

theorem State.spanTaken_bytesKept (seq ack : Nat) (k : Packet) : BytesKept s (s.spanTaken p seq ack k) := fun a => by
  rw [State.byte, State.spanTaken, State.send_mem, State.setSpan_mem, State.spanAcked_mem, State.byte]

/-! ### Replays -/

/-- A replay is counted and noted, with the time from which progress is waited for. -/
def State.replayNoted (s : State) (p : Nat) : State :=
  ((s.bump (SPN_REPLAYS_COUNT p)).wf (SPN_STATUS_REPLAYING p) 1).setSpan p
    { s.span p with replays := (s.span p).replays + 1, since := s.time }

/-- The unacknowledged flits go out again. -/
def State.resend (s : State) (p rx : Nat) (l : List (Nat × Nat)) : State :=
  l.foldl (fun s e => s.emit (.spanFlit p e.1 ((rx + 4095) % 4096) e.2)) s

theorem State.resend_out (rx : Nat) (l : List (Nat × Nat)) : (s.resend p rx l).out.length = s.out.length + l.length := by
  induction l generalizing s with
  | nil => rfl
  | cons e l ih =>
    refine (ih (s := s.emit _)).trans ?_
    rw [State.emit, List.length_cons, List.length_cons]
    omega

theorem State.resend_keeps {β : Type} (view : State → β) (h : ∀ u o, view (State.emit u o) = view u) (rx : Nat)
    (l : List (Nat × Nat)) : view (s.resend p rx l) = view s := foldl_keeps view (fun u _ => h u _) l s

theorem exec_spanTimeout_early (h : s.time < (s.span p).since + s.rf (SPN_LINK_REPLAY_TO_NS p)) :
    exec (.spanReplayTimeout p) s = .next s := by
  rw [show exec (.spanReplayTimeout p) s = execSpanReplayTimeout p s from rfl, execSpanReplayTimeout, if_neg (by omega)]

theorem exec_spanTimeout (hp : p < 6) (hup : s.rb (SPN_STATUS_UP p) = true)
    (h : (s.span p).since + s.rf (SPN_LINK_REPLAY_TO_NS p) ≤ s.time) :
    exec (.spanReplayTimeout p) s = .next (s.spanReplay p) := by
  rw [show exec (.spanReplayTimeout p) s = execSpanReplayTimeout p s from rfl, execSpanReplayTimeout, if_pos ⟨hp, hup, h⟩]

theorem spanReplay_again (hu : (s.span p).unacked ≠ []) (h : (s.span p).replays + 1 < 8) :
    s.spanReplay p = (s.replayNoted p).resend p (s.span p).rxSeq (s.span p).unacked := by
  rw [State.spanReplay, if_neg (by simpa using hu), if_neg (by omega)]
  rfl

theorem spanReplay_gives_up (hu : (s.span p).unacked ≠ []) (h : 7 ≤ (s.span p).replays) :
    s.spanReplay p = (s.replayNoted p).spanDown p := by
  rw [State.spanReplay, if_neg (by simpa using hu), if_pos (by omega)]
  rfl

theorem exec_spanLinkDown (hp : p < 6) (hup : s.rb (SPN_STATUS_UP p) = true) :
    exec (.spanLinkDown p) s = .next (((s.wfs [(SPN_STATUS_UP p, 0), (SPN_STATUS_LANES p, 0), (SPN_STATUS_REPLAYING p,
      0)]).setSpan p {}).raise 0x4004 (pgSPN p)) := by
  rw [show exec (.spanLinkDown p) s = execSpanLinkDown p s from rfl, execSpanLinkDown, if_pos hp, State.spanDown, if_pos hup]

/-! ### Training and the module number -/

/-- The fields of a link that has trained. -/
def trainedFields (p lanes peer : Nat) : List (Fk × Nat) :=
  [(SPN_STATUS_UP p, 1), (SPN_STATUS_LANES p, lanes), (SPN_STATUS_PEER p, peer), (SPN_STATUS_REPLAYING p, 0)]

theorem exec_spanLinkUp (hp : p < 6) (hr : s.pageReady (pgSPN p) = true) (lanes peer : Nat) :
    exec (.spanLinkUp p lanes peer) s = .next ((s.wfs (trainedFields p lanes peer)).setSpan p {}) := by
  rw [show exec (.spanLinkUp p lanes peer) s = execSpanLinkUp p lanes peer s from rfl, execSpanLinkUp, if_pos ⟨hp, hr⟩]
  rfl

theorem trained_up (lanes peer : Nat) : (s.wfs (trainedFields p lanes peer)).rf (SPN_STATUS_UP p) = 1 := by
  refine State.rf_wfs_mem ⟨(SPN_STATUS_UP p, 1), List.mem_cons_self, rfl⟩ ?_
  simp [trainedFields, Fk.key, SPN_STATUS_UP, SPN_STATUS_LANES, SPN_STATUS_PEER, SPN_STATUS_REPLAYING]

end

/-- Settles O34. -/
theorem spanLinks : Obligations.SpanLinks := by
  refine ⟨fun s p seq ack k hp hup => ⟨exec_spanFlit_damaged hp hup seq ack, fun hs hx =>
      ⟨_, exec_spanFlit_expected hp hup hs hx ack k, rfl, State.spanTaken_rxSeq seq ack k,
        State.spanTaken_flits seq ack k, State.spanTaken_bytesKept seq ack k⟩⟩,
    fun s p hp hup hu => ⟨exec_spanTimeout_early, fun h hn => ⟨_, exec_spanTimeout hp hup h, ?_⟩, fun h hn => ?_⟩,
    fun s p hp hup => exec_spanLinkDown hp hup,
    fun s p lanes peer hp hr => ⟨_, exec_spanLinkUp hp hr lanes peer, ?_, ?_, ?_, ?_, ?_⟩,
    fun s f v hw hr => ⟨fun hq => ?_, fun hq => ?_⟩⟩
  · rw [spanReplay_again hu hn]
    refine ⟨?_, ?_, State.resend_out _ _, fun a => State.resend_keeps (State.byte · a) (fun _ _ => rfl) _ _⟩
    · refine (congrArg Span.replays (State.resend_keeps (State.span · p) (fun _ _ => rfl) _ _)).trans ?_
      rw [State.replayNoted, State.span_setSpan]
    · refine (State.resend_keeps (State.rf · (SPN_STATUS_REPLAYING p)) (fun _ _ => rfl) _ _).trans ?_
      rw [State.replayNoted, State.setSpan_rf, State.rf_wf_self]
      rfl
  · rw [exec_spanTimeout hp hup h, spanReplay_gives_up hu hn]
    rfl
  · rw [State.rb, State.setSpan_rf, trained_up]
    rfl
  · rw [State.span_setSpan]
  · rw [State.span_setSpan]
  · exact fun a => by rw [State.setSpan_byte, State.byte, State.wfs_mem, State.byte]
  · exact fun j hj => (State.setSpan_rf _ _ _ _).trans ((s.onlyRegs_wfs (trainedFields p lanes peer)).2 j hj)
  · rw [show exec (.spanNodeWrite f v) s = execSpanNodeWrite f v s from rfl, execSpanNodeWrite, if_pos ⟨hw, hr, hq⟩]
  · rw [show exec (.spanNodeWrite f v) s = execSpanNodeWrite f v s from rfl, execSpanNodeWrite, if_neg (by simp [hq])]

end Sys2Proof.Machine

/-! PROOF. Packets at their tile: what they store, read and push, and what is refused. -/

namespace Sys2Proof.Machine

/-! ### Reads of several words -/

section
variable {s : State}

theorem State.rdMem_append (s : State) (k a b : Nat) : s.rdMem k (a + b) = s.rdMem k a + s.rdMem (k + a) b * 256 ^ a := by
  induction a generalizing k with
  | zero => simp [State.rdMem]
  | succ a ih =>
    rw [show a + 1 + b = (a + b) + 1 by omega, State.rdMem, State.rdMem, ih, show k + 1 + a = k + (a + 1) by omega, pow_succ]
    ring

/-- What a read of several words adds for one word, with the outcome of its error bits. -/
def State.readWord (k n : Nat) (p : Nat × State × Ecc) (w : Nat) : Nat × State × Ecc :=
  let lo := max k (8 * w)
  let hi := min (k + n) (8 * w + 8)
  if (sget? p.2.1.eccBad w).isSome then
    let d := p.2.1.draw (8 * (hi - lo))
    (p.1 + d.1 * 2 ^ (8 * (lo - k)), d.2, .bad)
  else (p.1 + p.2.1.rdMem lo (hi - lo) * 2 ^ (8 * (lo - k)), p.2)

theorem State.wideRead_eq (s : State) (k n : Nat) (e : Ecc) :
    s.wideRead k n e = (wordsOf k n).foldl (State.readWord k n) (0, s.noteEcc k n e, e) := rfl

/-- The bytes of the read before its `i`-th word. -/
def readUpTo (k n i : Nat) : Nat := min n (8 * (k / 8 + i) - k)

theorem readWord_clean {k n i : Nat} (hi : i < (k % 8 + n + 7) / 8) (h : (sget? s.eccBad (k / 8 + i)).isSome = false) :
    State.readWord k n (s.rdMem k (readUpTo k n i), s, .clean) (k / 8 + i) = (s.rdMem k (readUpTo k n (i + 1)), s, .clean) := by
  have hlo : max k (8 * (k / 8 + i)) = k + readUpTo k n i := by
    simp only [readUpTo]
    omega
  have hlen : min (k + n) (8 * (k / 8 + i) + 8) - (k + readUpTo k n i) = readUpTo k n (i + 1) - readUpTo k n i := by
    simp only [readUpTo]
    omega
  have hsum : readUpTo k n (i + 1) = readUpTo k n i + (readUpTo k n (i + 1) - readUpTo k n i) := by
    simp only [readUpTo]
    omega
  rw [State.readWord]
  dsimp only
  rw [h, if_neg Bool.false_ne_true, hlo, hlen, Nat.add_sub_cancel_left, hsum, State.rdMem_append, Nat.add_sub_cancel_left,
    Nat.pow_mul]

/-- A read of words without error is the bytes in them. -/
theorem State.wideRead_clean {k n : Nat} (h : s.hasBad k n = false) : s.wideRead k n .clean = (s.rdMem k n, s, .clean) := by
  have hword : ∀ i, i < (k % 8 + n + 7) / 8 → (sget? s.eccBad (k / 8 + i)).isSome = false := fun i hi =>
    Bool.not_eq_true _ ▸ List.any_eq_false.mp h _ (List.mem_map.mpr ⟨i, List.mem_range.mpr hi, rfl⟩)
  have hnote : s.noteEcc k n .clean = s := by rw [State.noteEcc, if_neg (by simp)]
  have hall : readUpTo k n ((k % 8 + n + 7) / 8) = n := by
    simp only [readUpTo]
    omega
  rw [State.wideRead_eq, hnote, wordsOf, List.foldl_map]
  suffices hstep : ∀ i, i ≤ (k % 8 + n + 7) / 8 →
      (List.range i).foldl (fun p j => State.readWord k n p (k / 8 + j)) (0, s, .clean) =
        (s.rdMem k (readUpTo k n i), s, .clean) by
    rw [hstep _ le_rfl, hall]
  intro i
  induction i with
  | zero =>
    intro _
    rw [show readUpTo k n 0 = 0 by simp only [readUpTo]; omega]
    rfl
  | succ i ih =>
    intro hi
    rw [List.range_succ, List.foldl_append, ih (by omega)]
    exact readWord_clean hi (hword i hi)

/-! ### Stores of the router -/

theorem State.storeEcc_net (s : State) (k n v : Nat) (e : Ecc) : (s.storeEcc k n v e).1.net = s.net := by
  rw [State.storeEcc_eq]
  refine foldl_keeps (fun p : State × Ecc => p.1.net) (fun p w => ?_) _ _
  unfold State.storeWord State.noteEcc
  dsimp only
  split
  · rfl
  · split
    · dsimp only
      split <;> rfl
    · rfl

/-- A correctable or an uncorrectable error of the desk raises its fault and notes no row. -/
theorem State.raiseEcc_desk {a : Nat} (h : areaOf a = .desk) (t n : Nat) (e : Ecc) : OnlyFault s (s.raiseEcc t a n e) := by
  cases e with
  | clean => exact OnlyFault.refl s
  | corrected =>
    rw [State.raiseEcc, State.noteCe, h, if_neg (by decide)]
    exact State.raise_only _ _ _
  | bad =>
    rw [State.raiseEcc, State.noteRows, h, if_neg (by decide)]
    exact State.raise_only _ _ _

theorem routerWrite_desk {a : Nat} (h : areaOf a = .desk) (t n v : Nat) (e : Ecc) :
    s.routerWrite t a n v e = s.tileStore t a n (v % 2 ^ (8 * n)) e := by
  rw [State.routerWrite, h]
  dsimp only
  rw [State.openRowOf, h, if_neg (by decide)]

theorem State.tileStore_net {a : Nat} (h : areaOf a = .desk) (t n v : Nat) (e : Ecc) : (s.tileStore t a n v e).net = s.net := by
  rw [State.tileStore]
  exact (State.raiseEcc_desk h _ _ _).net.trans (s.storeEcc_net _ _ _ _)

theorem routerRead_desk {a n : Nat} (h : areaOf a = .desk) {t : Nat} (hb : s.hasBad (tkey t a) n = false) :
    s.routerRead t a n .clean = (s.rdMem (tkey t a) n, s, false) := by
  rw [State.routerRead, h]
  dsimp only
  rw [State.openRowOf, h, if_neg (by decide), State.eccOf, hb, if_neg Bool.false_ne_true, State.wideRead_clean hb]
  rfl

end

/-! ### Packets that leave the network -/

section
variable {s : State} {k : Packet} {rest : List Packet} {t : Nat}

/-- The first packet is gone. -/
def State.popNet (s : State) (rest : List Packet) : State := { s with net := rest }

theorem dropPacket_plain (hnet : s.net = k :: rest) (he : k.eng = none) (hd : k.dma = none) :
    s.dropPacket 0 = s.popNet rest := by
  rw [State.dropPacket, hnet]
  dsimp only [List.getElem?_cons_zero]
  rw [he, State.updNotify, hd]
  rfl

theorem refusePacket_plain (hnet : s.net = k :: rest) (he : k.eng = none) (hd : k.dma = none) (hty : k.ty ≠ 1) :
    s.refusePacket 0 t k = (s.popNet rest).raiseTile t 0x1015 := by
  rw [State.refusePacket, if_neg hty, State.updNotify, hd]
  dsimp only
  rw [dropPacket_plain hnet he hd]

theorem State.popNet_mem : (s.popNet rest).mem = s.mem := rfl

theorem send_popNet_net (p : Packet) : ((s.popNet rest).send p).net = rest ++ [{ p with since := s.countAt p.loc }] := by
  rw [State.send]
  cases p.loc <;> rfl

theorem replyTo_loc (k : Packet) (v : Nat) : (replyTo k v).loc = k.loc := by
  cases k
  rfl

theorem send_reply_net (v : Nat) :
    ((s.popNet rest).send (replyTo k v)).net = rest ++ [{ replyTo k v with since := s.countAt k.loc }] := by
  rw [send_popNet_net]
  simp only [replyTo_loc]

theorem send_reply_bytesKept (v : Nat) : BytesKept s ((s.popNet rest).send (replyTo k v)) := fun a => by
  rw [State.byte, State.send_mem, State.popNet_mem, State.byte]

theorem State.popNet_hasBad (a n : Nat) : (s.popNet rest).hasBad a n = s.hasBad a n := rfl

theorem State.popNet_rdMem (a n : Nat) : (s.popNet rest).rdMem a n = s.rdMem a n := State.rdMem_congr fun _ _ _ => rfl

/-- A store of the router in the desk touches its bytes alone. -/
theorem popNet_routerWrite {a : Nat} (h : areaOf a = .desk) (n v : Nat) :
    BytesKeptBut s ((s.popNet rest).routerWrite t a n v .clean) (tkey t a) n ∧
      ((s.popNet rest).routerWrite t a n v .clean).net = rest := by
  rw [routerWrite_desk h]
  exact ⟨fun b hb => (s.popNet rest).tileStore_bytesKeptBut t a n _ .clean b hb, State.tileStore_net h _ _ _ _⟩

variable (hnet : s.net = k :: rest) (hl : k.loc = .tile t) (ha : s.arrived t k = true) (hr : s.routerLive t = true)
  (he : k.eng = none) (hd : k.dma = none)

include hnet hl ha hr he hd

theorem exec_write_tile (hty : k.ty = 0) (hok : packetLocalOk k.dst k.len = true)
    (ho : s.tileOpen t (gLocal k.dst) k.len = true) :
    exec (.write 0 .clean) s = .next ((s.popNet rest).routerWrite t (gLocal k.dst) k.len k.payload .clean) := by
  rw [show exec (.write 0 .clean) s = execWrite 0 .clean s from rfl, execWrite, headPacket_zero hnet]
  dsimp only
  rw [if_neg (by omega), hl]
  dsimp only
  rw [if_neg (by simp [ha, hr]), if_neg (by simp [hty, hok]), if_neg (by simp [ho]), dropPacket_plain hnet he hd]

theorem exec_write_refused (hty : k.ty = 0) (hok : packetLocalOk k.dst k.len = false) :
    exec (.write 0 .clean) s = .next ((s.popNet rest).raiseTile t 0x1015) := by
  rw [show exec (.write 0 .clean) s = execWrite 0 .clean s from rfl, execWrite, headPacket_zero hnet]
  dsimp only
  rw [if_neg (by omega), hl]
  dsimp only
  rw [if_neg (by simp [ha, hr]), if_pos (by simp [hok]), refusePacket_plain hnet he hd (by omega)]

theorem exec_read_tile (hty : k.ty = 1) (hok : packetLocalOk k.dst k.len = true)
    (ho : s.tileOpen t (gLocal k.dst) k.len = true) (hdesk : areaOf (gLocal k.dst) = .desk)
    (hb : s.hasBad (tkey t (gLocal k.dst)) k.len = false) :
    exec (.read 0 .clean) s = .next ((s.popNet rest).send (replyTo k (s.rdMem (tkey t (gLocal k.dst)) k.len))) := by
  rw [show exec (.read 0 .clean) s = execRead 0 .clean s from rfl, execRead, headPacket_zero hnet]
  dsimp only
  rw [if_neg (by omega), hl]
  dsimp only
  rw [if_neg (by simp [ha, hr]), if_neg (by simp [hok]), if_neg (by simp [ho]), routerRead_desk hdesk hb,
    dropPacket_plain hnet he hd, if_neg Bool.false_ne_true]

theorem exec_resp_queue (hty : k.ty = 2) (hq : s.rf (TILE_QBIND_KIND t k.rq) = 2)
    (hroom : s.roomIn t k.rq (ceilDiv k.len 64) = true) (herr : k.err = false) :
    exec (.resp 0) s = .next ((s.popNet rest).pushAll t k.rq (respEntries k)) := by
  rw [show exec (.resp 0) s = execResp 0 s from rfl, execResp, headPacket_zero hnet]
  dsimp only
  rw [if_neg (by omega), hl]
  dsimp only
  rw [if_neg (by simp [ha, hr]), he]
  dsimp only
  rw [if_neg (by simp [hq]), if_neg (by simp [hroom]), dropPacket_plain hnet he hd, herr, if_neg Bool.false_ne_true]

theorem exec_resp_refused (hty : k.ty = 2) (hq : s.rf (TILE_QBIND_KIND t k.rq) ≠ 2) :
    exec (.resp 0) s = .next ((s.popNet rest).raiseTile t 0x1015) := by
  rw [show exec (.resp 0) s = execResp 0 s from rfl, execResp, headPacket_zero hnet]
  dsimp only
  rw [if_neg (by omega), hl]
  dsimp only
  rw [if_neg (by simp [ha, hr]), he]
  dsimp only
  rw [if_pos hq, refusePacket_plain hnet he hd (by omega)]

theorem exec_qpush (hty : k.ty = 3) (hq : s.rf (TILE_QBIND_KIND t k.rq) = 2) (hlen : k.len ≤ 64)
    (hroom : s.roomIn t k.rq 1 = true) : exec (.packetQpush 0) s =
      .next ((s.popNet rest).pushAll t k.rq [BitVec.ofNat 512 (k.payload % 2 ^ (8 * k.len))]) := by
  rw [show exec (.packetQpush 0) s = execPacketQpush 0 s from rfl, execPacketQpush, headPacket_zero hnet]
  dsimp only
  rw [if_neg (by omega), hl]
  dsimp only
  rw [if_neg (by simp [ha, hr]), if_neg (by omega), if_neg (by simp [hroom]), dropPacket_plain hnet he hd]

end

/-! ### Leaves of a multicast -/

section
variable {s u : State} {k : Packet} {rest : List Packet} {t : Nat}

/-- The plains of the partitions are as their geometry says, which lies above the registers of the plains. -/
theorem State.plainPart_congr (h : ∀ j : Fk, plainPage 64 0 * 64 ≤ j.key → u.rf j = s.rf j) (p : Nat) :
    u.plainPart p = s.plainPart p := by
  unfold State.plainPart
  refine List.find?_congr fun n hn => ?_
  have hn' : n < 16 := List.mem_range.mp hn
  unfold State.geomHas
  rw [h (PART_GEOM_X0 n), h (PART_GEOM_Y0 n), h (PART_GEOM_W n), h (PART_GEOM_H n)]
  all_goals
    simp only [Fk.key, PART_GEOM_X0, PART_GEOM_Y0, PART_GEOM_W, PART_GEOM_H, partPage, plainPage]
    omega

theorem State.tilePart_bump_flits {p : Nat} (hp : p < 64) (n : Nat) :
    (s.bump (MESH_PKT_FLITS_COUNT p) n).tilePart t = s.tilePart t := by
  refine State.plainPart_congr (fun j hj => State.rf_wf_ne _ _ ?_) _
  simp only [Fk.key, MESH_PKT_FLITS_COUNT, plainPage] at hj ⊢
  omega

theorem lt_of_arrived (h : s.arrived t k = true) : t < 262144 := by
  have ht : gTile k.dst = t := by
    simp only [State.arrived, Bool.and_eq_true, beq_iff_eq] at h
    exact h.2
  simp only [← ht, gTile, tileAt, bits]
  omega

theorem leafWrite_own (hok : packetLocalOk k.dst k.len = true) (hp : s.tilePart t = some k.part) (e : Ecc) :
    s.leafWrite t k e = s.routerWrite t (gLocal k.dst) k.len k.payload e := by
  rw [State.leafWrite, if_neg (by simp [hok]), if_pos hp]

/-- A leaf without further branches stores its payload. -/
theorem exec_mwrite_leaf (hnet : s.net = k :: rest) (hl : k.loc = .tile t) (ha : s.arrived t k = true) (hr : s.routerLive t = true)
    (he : k.eng = none) (hd : k.dma = none) (hty : k.ty = 4) (hb : s.branches t k.tree = [])
    (hleaf : (s.treeByte t k.tree).testBit 4 = true) (hok : packetLocalOk k.dst k.len = true)
    (ho : s.tileOpen t (gLocal k.dst) k.len = true) (hp : s.tilePart t = some k.part) :
    exec (.mwrite 0 .clean) s = .next (((s.popNet rest).bump (MESH_PKT_FLITS_COUNT (plainOf t)) (0 * packetFlits k)).routerWrite t
      (gLocal k.dst) k.len k.payload .clean) := by
  have hopen : s.branchesOpen t k = true := by rw [State.branchesOpen, hb]; rfl
  have htp : ((s.popNet rest).bump (MESH_PKT_FLITS_COUNT (plainOf t)) (0 * packetFlits k)).tilePart t = some k.part :=
    (State.tilePart_bump_flits (plainOf_lt (lt_of_arrived ha)) _).trans hp
  rw [show exec (.mwrite 0 .clean) s = execMwrite 0 .clean s from rfl, execMwrite, headPacket_zero hnet]
  dsimp only
  rw [if_neg (by omega), hl]
  dsimp only
  rw [if_neg (by simp [hr, hopen, ho]), hleaf, if_pos rfl, hb, dropPacket_plain hnet he hd]
  exact congrArg _ (leafWrite_own hok htp .clean)

theorem popNet_bump_routerWrite {a : Nat} (h : areaOf a = .desk) (j : Fk) (m n v : Nat) :
    BytesKeptBut s (((s.popNet rest).bump j m).routerWrite t a n v .clean) (tkey t a) n ∧
      (((s.popNet rest).bump j m).routerWrite t a n v .clean).net = rest := by
  rw [routerWrite_desk h]
  exact ⟨fun b hb => ((s.popNet rest).bump j m).tileStore_bytesKeptBut t a n _ .clean b hb, State.tileStore_net h _ _ _ _⟩

theorem routerWrite_clean {a n : Nat} (h : areaOf a = .desk) (hb : s.hasBad (tkey t a) n = false) (v : Nat) :
    (s.routerWrite t a n v .clean).rdMem (tkey t a) n = v % 256 ^ n := by
  rw [routerWrite_desk h, State.tileStore_clean hb, State.storeEcc_clean_rdMem hb, pow_mul]
  exact Nat.mod_mod _ _

end

/-- Settles O35. -/
theorem packetsArrive : Obligations.PacketsArrive := by
  intro s k rest t hnet hl ha hr he hd
  refine ⟨fun hty hok ho hdesk => ⟨_, exec_write_tile hnet hl ha hr he hd hty hok ho, (popNet_routerWrite hdesk _ _).2,
      (popNet_routerWrite hdesk _ _).1, fun hb => routerWrite_clean hdesk ((State.popNet_hasBad _ _).trans hb) _⟩,
    exec_write_refused hnet hl ha hr he hd,
    fun hty hok ho hdesk hb => ⟨_, exec_read_tile hnet hl ha hr he hd hty hok ho hdesk hb, send_reply_net _, send_reply_bytesKept _⟩,
    exec_resp_queue hnet hl ha hr he hd, exec_resp_refused hnet hl ha hr he hd, exec_qpush hnet hl ha hr he hd,
    fun hty hb hleaf hok ho hp hdesk => ⟨_, exec_mwrite_leaf hnet hl ha hr he hd hty hb hleaf hok ho hp,
      (popNet_bump_routerWrite hdesk _ _ _ _).2, (popNet_bump_routerWrite hdesk _ _ _ _).1⟩⟩

end Sys2Proof.Machine

/-! PROOF. Halted streams: records, HALT_POP, RESUME, the halt limit. -/

namespace Sys2Proof.Machine

section
variable {s : State} {t d n : Nat}

theorem State.setStream_part (x : Stream) (m : Nat) : (s.setStream t d x).part m = s.part m := rfl

theorem State.setStream_byte (x : Stream) (a : Nat) : (s.setStream t d x).byte a = s.byte a := rfl

theorem State.setStream_stream (x : Stream) : ((s.setStream t d x).tile t).stream d = x := by
  rw [State.setStream, State.tile_updTile_self, Tile.stream, sget_sset_self]

theorem State.irqPart_keeps {β : Type} (view : State → β) (h : ∀ u o, view (State.emit u o) = view u) (v : Nat) :
    view (s.irqPart n v) = view s := by
  rw [State.irqPart]
  split <;> exact h _ _

theorem State.irqPart_out (v : Nat) : (s.irqPart n v).out.length = s.out.length + 1 := by
  rw [State.irqPart]
  split <;> rfl

/-! ### Posting a record -/

/-- The list of halts is `hs`, with the record of the stream among them. -/
def State.posted (s : State) (n t d : Nat) (hs : List Halt) : State :=
  (s.updPart n fun p => { p with halts := hs }).setStream t d
    { (s.tile t).stream d with postWait := false, postFull := false, recheck := true }

/-- The guard of the commands on a halted stream, for a flag of the stream that is set. -/
theorem halted_waits {b : Bool} (hs : s.streamSt t d = 3) (hb : b = true) : ¬(s.streamSt t d ≠ 3 ∨ (!b) = true) := by
  simp [hs, hb]

theorem exec_haltPost_first {at_ : Nat} (hs : (s.at at_).streamSt t d = 3)
    (hw : (((s.at at_).tile t).stream d).postWait = true) (he : ((s.at at_).part ((s.at at_).xpart t)).halts = []) :
    exec (.streamHaltPost t d at_) s = .next (((s.at at_).posted ((s.at at_).xpart t) t d
      [{ vpn := (s.at at_).rf (TILE_HALT_VA_VA t d) / 2 ^ 21, reason := (s.at at_).rf (TILE_STREAM_STATE_REASON t d)
         write := (((s.at at_).tile t).stream d).haltWrite, tile := t, sd := d }]).irqPart ((s.at at_).xpart t) 22) := by
  rw [show exec (.streamHaltPost t d at_) s = execStreamHaltPost t d at_ s from rfl, execStreamHaltPost]
  dsimp only
  rw [if_neg (halted_waits hs hw), he, if_neg (by simp)]
  rfl

theorem exec_haltPost_full {at_ : Nat} (hs : (s.at at_).streamSt t d = 3)
    (hw : (((s.at at_).tile t).stream d).postWait = true)
    (hn : ((s.at at_).part ((s.at at_).xpart t)).halts.any (·.vpn == (s.at at_).rf (TILE_HALT_VA_VA t d) / 2 ^ 21) = false)
    (hl : 128 ≤ ((s.at at_).part ((s.at at_).xpart t)).halts.length)
    (hf : (((s.at at_).tile t).stream d).postFull = false) :
    exec (.streamHaltPost t d at_) s = .next (((s.at at_).wf (PSTR_STATUS_OVERFLOW ((s.at at_).xpart t)) 1).setStream t d
      { ((s.at at_).tile t).stream d with postFull := true }) := by
  rw [show exec (.streamHaltPost t d at_) s = execStreamHaltPost t d at_ s from rfl, execStreamHaltPost]
  dsimp only
  rw [if_neg (halted_waits hs hw), if_neg (fun h => absurd (hf.symm.trans h.1) Bool.false_ne_true), hn, if_neg Bool.false_ne_true, if_pos hl]

/-! ### RESUME -/

theorem pstrResume_recheck (v : Nat) : s.pstrResume n v = s.recheck n fun p => v.testBit 20 || p == bits v 0 19 := by
  rw [State.pstrResume]
  cases v.testBit 20 <;> rfl

theorem State.haltEnd_rf_ne {j : Fk} (h₁ : j.key ≠ (PSTR_HALTED_COUNT (s.xpart t)).key)
    (h₂ : j.key ≠ (PSTR_LONGEST_MICROSECONDS (s.xpart t)).key) : (s.haltEnd t d).rf j = s.rf j := by
  rw [State.haltEnd, State.rf, State.watchSync_fld, ← State.rf, State.rf_wf_ne _ _ h₂, State.rf_wf_ne _ _ h₁]

theorem State.haltEnd_mem' : (s.haltEnd t d).mem = s.mem := by
  rw [State.haltEnd, State.watchSync_mem, State.wf_mem, State.wf_mem]

/-- A stream whose page is there runs again. -/
def State.resumed (s : State) (t d : Nat) : State :=
  (((s.haltEnd t d).wf (TILE_STREAM_STATE_STATE t d) 1).bump (PSTR_RESUMES_COUNT (s.xpart t))).setStream t d
    { (s.tile t).stream d with recheck := false, postWait := false, postFull := false }

theorem exec_streamResume {at_ pa : Nat} (hs : (s.at at_).streamSt t d = 3)
    (hr : (((s.at at_).tile t).stream d).recheck = true)
    (hx : (s.at at_).xlate ((s.at at_).xpart t) ((s.at at_).rf (TILE_HALT_VA_VA t d)) = .hit pa) :
    exec (.streamResume t d at_) s = .next ((s.at at_).resumed t d) := by
  rw [show exec (.streamResume t d at_) s = execStreamResume t d at_ s from rfl, execStreamResume,
    if_neg (halted_waits hs hr), hx]
  rfl

theorem State.resumed_streamSt (hn : s.xpart t < 16) : (s.resumed t d).streamSt t d = 1 := by
  have h : (TILE_STREAM_STATE_STATE t d).key ≠ (PSTR_RESUMES_COUNT (s.xpart t)).key := by
    simp only [Fk.key, TILE_STREAM_STATE_STATE, PSTR_RESUMES_COUNT, tilePage, partPage]
    omega
  rw [State.streamSt, State.resumed, setStream_rf, State.bump, State.rf_wf_ne _ _ h, State.rf_wf_self]
  rfl

theorem State.resumed_count (hn : s.xpart t < 16) :
    (s.resumed t d).rf (PSTR_RESUMES_COUNT (s.xpart t)) = (s.rf (PSTR_RESUMES_COUNT (s.xpart t)) + 1) % 2 ^ 32 := by
  have h : (PSTR_RESUMES_COUNT (s.xpart t)).key ≠ (TILE_STREAM_STATE_STATE t d).key := by
    simp only [Fk.key, TILE_STREAM_STATE_STATE, PSTR_RESUMES_COUNT, tilePage, partPage]
    omega
  rw [State.resumed, setStream_rf, State.bump, State.rf_wf_self, State.rf_wf_ne _ _ h, State.haltEnd_rf_ne]
  · rfl
  · simp only [Fk.key, PSTR_RESUMES_COUNT, PSTR_HALTED_COUNT]
    omega
  · simp only [Fk.key, PSTR_RESUMES_COUNT, PSTR_LONGEST_MICROSECONDS]
    omega

theorem State.resumed_bytesKept : BytesKept s (s.resumed t d) := fun a => by
  rw [State.resumed, State.setStream_byte, State.bump_byte, State.wf_byte, State.byte, State.haltEnd_mem', State.byte]

end

/-- Settles O37. -/
theorem streamHalts : Obligations.StreamHalts := by
  refine ⟨fun s t d at_ hs hw => ⟨fun he => ⟨_, exec_haltPost_first hs hw he, ?_, ?_, fun a => ?_, fun j _ => ?_⟩,
      fun hn hl hf => exec_haltPost_full hs hw hn hl hf⟩,
    fun s f n hr hp => ?_, fun s f n at_ v hw hr => ?_, fun s t d at_ pa _ _ hs hr hx hn =>
      ⟨_, exec_streamResume hs hr hx, State.resumed_streamSt hn, ?_, fun a => ?_, ?_⟩,
    fun s t d at_ hs hl ht ha => ?_, fun s t d at_ hl => ?_⟩
  · refine (congrArg Part.halts (State.irqPart_keeps (State.part · _) (fun _ _ => rfl) _)).trans ?_
    rw [State.posted, State.setStream_part, State.part_updPart_self]
  · exact State.irqPart_out _
  · exact State.irqPart_keeps (State.byte · a) (fun _ _ => rfl) _
  · exact State.irqPart_keeps (State.rf · j) (fun _ _ => rfl) _
  · rw [show exec (.haltPop f n) s = execHaltPop f n s from rfl, execHaltPop, hr, hp]
    rfl
  · rw [show exec (.pstrResume f n v at_) s = execPstrResume f n v at_ s from rfl, execPstrResume]
    rw [hw, hr, Bool.and_self, if_pos rfl, pstrResume_recheck]
  · rw [State.resumed, State.setStream_stream]
  · rw [State.resumed_bytesKept, State.at_byte]
  · rw [State.resumed_count hn, State.at_rf]
  · rw [show exec (.streamHaltTimeout t d at_) s = execStreamHaltTimeout t d at_ s from rfl, execStreamHaltTimeout]
    rw [if_pos ⟨hs, hl, by rw [ht]; decide, ha⟩]
  · rw [show exec (.streamHaltTimeout t d at_) s = execStreamHaltTimeout t d at_ s from rfl, execStreamHaltTimeout]
    rw [if_neg (by simp [hl])]

end Sys2Proof.Machine

/-! PROOF. Host DMA queues: register words, descriptors, write-back, NOTIFY. -/

namespace Sys2Proof.Machine

section
variable {s : State} {n j : Nat}

/-! ### Register words -/

theorem exec_pqTail {f : Nat} {v : BitVec 64} (hw : s.writes f n = true) (hj : j < 16) (hr : s.pageReady (partPage n 1) = true) :
    exec (.pqTailWrite f n j v) s = .next (s.writeWord (partPage n 1 + (0x110 + 0x20 * j)) v.toNat (2 ^ 64 - 1)) := by
  rw [show exec (.pqTailWrite f n j v) s = execPqTailWrite f n j v s from rfl, execPqTailWrite, if_pos ⟨hw, hj, hr⟩,
    State.pqWord, if_neg (by omega), if_neg (by omega)]

/-- The word of QCFG is written, and EN rising restarts the queue. -/
theorem exec_pqQcfg {v : BitVec 64} (hw : s.writes 0 n = true) (hj : j < 16) (hr : s.pageReady (partPage n 1) = true) :
    let s1 := s.writeWord (partPage n 1 + (0x108 + 0x20 * j)) v.toNat (2 ^ 64 - 1)
    exec (.pqQcfgWrite 0 n j v) s = .next (if (!s.rb (PQ_QCFG_EN n j) && s1.rb (PQ_QCFG_EN n j)) = true then
      s1.wfs [(PQ_QHEAD_STOPPED n j, 0), (PQ_QHEAD_LAST_ERR n j, 0)] else s1) := by
  have hq : (0x108 + 0x20 * j - 0x100) / 0x20 = j := by omega
  intro s1
  rw [show exec (.pqQcfgWrite 0 n j v) s = execPqQcfgWrite 0 n j v s from rfl, execPqQcfgWrite, if_pos ⟨hw, hj, hr⟩,
    State.pqWord, if_pos (by omega), hq]
  rfl

/-! ### Descriptors -/

/-- Descriptor `d` joins the queue; an error that stops the queue is noted. -/
def State.dmaStarted (s : State) (n j : Nat) (d : Dma) : State :=
  if dmaStops d.status then (s.setDma n j [d]).wfs [(PQ_QHEAD_STOPPED n j, 1), (PQ_QHEAD_LAST_ERR n j, d.status)]
  else s.setDma n j [d]

theorem exec_dmaStart {w0 w1 w2 w3 : BitVec 64} {data : Nat} {err : Bool} {e : Ecc} (hn : n < 16) (hj : j < 16)
    (hen : s.rb (PQ_QCFG_EN n j) = true) (hst : s.rb (PQ_QHEAD_STOPPED n j) = false)
    (hr : s.pageReady (partPage n 1) = true) (hf : s.frozen = false) (hp : s.rf PWR_STATUS_STATE < 3)
    (hfl : s.dmaOf n j = []) (hdue : s.rf (PQ_QHEAD_HEAD n j) % s.pqSize n j ≠ s.rf (PQ_QTAIL_TAIL n j) % s.pqSize n j)
    (ho : s.dmaOpen w1.toNat (bits w2.toNat 0 32) = true) :
    exec (.hostDmaDescriptorStart n j w0 w1 w2 w3 data err e) s = .next
      ((s.dmaMove n j w0.toNat w1.toNat w2.toNat w3.toNat data err e).2.dmaStarted n j
        { index := s.rf (PQ_QHEAD_HEAD n j) % s.pqSize n j, w3 := w3.toNat, irq := w2.toNat.testBit 33
          status := (s.dmaMove n j w0.toNat w1.toNat w2.toNat w3.toNat data err e).1
          notified := !w2.toNat.testBit 35 || dmaStops (s.dmaMove n j w0.toNat w1.toNat w2.toNat w3.toNat data err e).1 }) := by
  rw [show exec (.hostDmaDescriptorStart n j w0 w1 w2 w3 data err e) s =
      execHostDmaDescriptorStart n j w0 w1 w2 w3 data err e s from rfl, execHostDmaDescriptorStart, hfl]
  dsimp only [List.length_nil, Nat.add_zero]
  rw [if_neg (by simp [hn, hj, hen, hst, hr, hf, hp, hdue, ho])]
  rfl

theorem dmaMove_malformed {w0 w1 w2 w3 : Nat} (h : dmaBad w0 w1 w2 w3 = true) (data : Nat) (err : Bool) (e : Ecc) :
    s.dmaMove n j w0 w1 w2 w3 data err e = (6, s) := by
  rw [State.dmaMove, if_pos h]

/-! ### Write-back -/

theorem State.dmaOf_setDma (l : List Dma) : (s.setDma n j l).dmaOf n j = l := by
  rw [State.dmaOf, State.setDma, State.part_updPart_self, sget_sset_self]

/-- The oldest descriptor has been written back and counted, HEAD stands behind it. -/
def State.dmaDone (s : State) (n j : Nat) (d : Dma) (rest : List Dma) : State :=
  (((s.setDma n j rest).emit (.hostWrite (s.rf (PQ_QBASE_ADDR n j) + 32 * d.index + 24) 8
    (d.w3 - bits d.w3 24 8 * 2 ^ 24 + d.status * 2 ^ 24))).wf (PQ_QHEAD_HEAD n j) ((d.index + 1) % s.pqSize n j)).bump
      (PQ_DONE_COUNT_COUNT n)

/-- The error of a descriptor is counted. -/
def State.dmaErr (s : State) (n st : Nat) : State := if st = 1 then s else s.bump (PQ_ERR_COUNT_COUNT n)

theorem exec_dmaWriteback {d : Dma} {rest : List Dma} (hl : s.dmaOf n j = d :: rest) (hd : d.notified = true)
    (hf : s.frozen = false) (hi : d.irq = false) :
    exec (.hostDmaWriteback n j) s = .next ((s.dmaDone n j d rest).dmaErr n d.status) := by
  rw [show exec (.hostDmaWriteback n j) s = execHostDmaWriteback n j s from rfl, execHostDmaWriteback, hl]
  dsimp only
  rw [if_neg (by simp [hd, hf]), hi, Bool.false_and, if_neg Bool.false_ne_true]
  rfl

theorem State.dmaErr_keeps {β : Type} (view : State → β) (h : ∀ u : State, view (u.bump (PQ_ERR_COUNT_COUNT n)) = view u)
    (st : Nat) : view (s.dmaErr n st) = view s := by
  rw [State.dmaErr]
  split
  · rfl
  · exact h s

theorem dmaDone_head (d : Dma) (rest : List Dma) :
    ((s.dmaDone n j d rest).dmaErr n d.status).rf (PQ_QHEAD_HEAD n j) = (d.index + 1) % s.pqSize n j % 2 ^ 16 := by
  have h₁ : (PQ_QHEAD_HEAD n j).key ≠ (PQ_ERR_COUNT_COUNT n).key := by
    simp only [Fk.key, PQ_QHEAD_HEAD, PQ_ERR_COUNT_COUNT]
    omega
  have h₂ : (PQ_QHEAD_HEAD n j).key ≠ (PQ_DONE_COUNT_COUNT n).key := by
    simp only [Fk.key, PQ_QHEAD_HEAD, PQ_DONE_COUNT_COUNT]
    omega
  refine (State.dmaErr_keeps (State.rf · _) (fun u => u.rf_wf_ne _ h₁) _).trans ?_
  rw [State.dmaDone, State.bump, State.rf_wf_ne _ _ h₂, State.rf_wf_self]
  rfl

theorem dmaDone_count (d : Dma) (rest : List Dma) :
    ((s.dmaDone n j d rest).dmaErr n d.status).rf (PQ_DONE_COUNT_COUNT n) =
      (s.rf (PQ_DONE_COUNT_COUNT n) + 1) % 2 ^ (PQ_DONE_COUNT_COUNT n).w := by
  have h₁ : (PQ_DONE_COUNT_COUNT n).key ≠ (PQ_ERR_COUNT_COUNT n).key := by
    simp only [Fk.key, PQ_DONE_COUNT_COUNT, PQ_ERR_COUNT_COUNT]
    omega
  have h₂ : (PQ_DONE_COUNT_COUNT n).key ≠ (PQ_QHEAD_HEAD n j).key := by
    simp only [Fk.key, PQ_QHEAD_HEAD, PQ_DONE_COUNT_COUNT]
    omega
  refine (State.dmaErr_keeps (State.rf · _) (fun u => u.rf_wf_ne _ h₁) _).trans ?_
  rw [State.dmaDone, State.bump, State.rf_wf_self, State.rf_wf_ne _ _ h₂]
  rfl

end

/-- Settles O38. -/
theorem hostDma : Obligations.HostDma := by
  refine ⟨fun s f n j v hw hj hr => exec_pqTail hw hj hr, fun s n j v hw hj hr => ⟨fun h => ?_, fun hwas hnow => ?_⟩,
    fun s n j w0 w1 w2 w3 data err e hn hj hen hst hr hf hp hfl hdue ho => ⟨fun h => ?_, fun h => ?_⟩,
    fun s n j w0 w1 w2 w3 data err e h => dmaMove_malformed h data err e,
    fun s n j d rest _ _ hl hd hf hi => ⟨_, exec_dmaWriteback hl hd hf hi, ?_, ?_, dmaDone_head d rest,
      dmaDone_count d rest, fun a => State.dmaErr_keeps (State.byte · a) (fun _ => rfl) _⟩,
    fun s n j d hl hd hs hf => ⟨fun hq hp => ?_, fun h => ?_⟩⟩
  · rw [exec_pqQcfg hw hj hr]
    refine congrArg _ (if_neg fun hrise => ?_)
    obtain ⟨hwas, hnow⟩ := Bool.and_eq_true_iff.mp hrise
    obtain h | h := h
    · exact absurd (hwas.symm.trans (congrArg not h)) (by decide)
    · exact absurd (hnow.symm.trans h) (by decide)
  · rw [exec_pqQcfg hw hj hr, hwas, hnow]
    rfl
  · rw [exec_dmaStart hn hj hen hst hr hf hp hfl hdue ho, State.dmaStarted, if_neg (by simp [h])]
  · rw [exec_dmaStart hn hj hen hst hr hf hp hfl hdue ho, State.dmaStarted, if_pos h]
  · exact (State.dmaErr_keeps (State.dmaOf · n j) (fun _ => rfl) _).trans (State.dmaOf_setDma rest)
  · exact State.dmaErr_keeps State.out (fun _ => rfl) _
  · rw [show exec (.hostDmaNotify n j 0) s = execHostDmaNotify n j 0 s from rfl, execHostDmaNotify, hl]
    dsimp only [List.getElem?_cons_zero]
    rw [if_neg (by simp [hd, hs, hf]), if_neg (by simp [hq, hp])]
    rfl
  · rw [show exec (.hostDmaNotify n j 0) s = execHostDmaNotify n j 0 s from rfl, execHostDmaNotify, hl]
    dsimp only [List.getElem?_cons_zero]
    rw [if_neg (by simp [hd, hs, hf]), if_pos h]
    rfl

end Sys2Proof.Machine

/-! PROOF. Sweep commands: the STATE that a command's end sets. -/

namespace Sys2Proof.Machine

section
variable {s : State} {n : Nat} {w : Sweep}

/-- The engines of the partition come to rest. -/
def State.sweepRest (s : State) (n : Nat) : State := (s.ownTiles n).foldl (fun s t => s.setEng t (s.eng t).rest) s

theorem State.sweepRest_rf (j : Fk) : (s.sweepRest n).rf j = s.rf j :=
  foldl_keeps (State.rf · j) (fun u t => State.updTile_rf u t _ j) _ s

/-- The end of a command that is done: its STATE and RESULT. -/
def endFields (n : Nat) (w : Sweep) : List (Fk × Nat) :=
  [(PSW_STATUS_STATE n, endState w), (PSW_STATUS_RESULT n, w.result)]

theorem exec_sweepEnd (hw : (s.part n).sweep = some w) (hd : w.done = true) :
    exec (.sweepCommandEnd n) s = .next ((((s.wfs (endFields n w)).sweepRest n).updPart n fun p =>
      { p with sweep := none }).irqPart n 20) := by
  rw [show exec (.sweepCommandEnd n) s = execSweepCommandEnd n s from rfl, execSweepCommandEnd, hw]
  dsimp only
  rw [State.sweepResult, if_pos hd]
  rfl

/-- STATE takes the end state clipped to its width. -/
theorem sweepEnd_state : ((((s.wfs (endFields n w)).sweepRest n).updPart n fun p =>
    { p with sweep := none }).irqPart n 20).rf (PSW_STATUS_STATE n) = endState w % 16 := by
  refine (State.irqPart_keeps (State.rf · _) (fun _ _ => rfl) _).trans ?_
  rw [State.updPart_rf, State.sweepRest_rf]
  refine State.rf_wfs_mem ⟨(PSW_STATUS_STATE n, endState w), List.mem_cons_self, rfl⟩ ?_
  simp only [endFields, List.mem_cons, List.not_mem_nil, or_false, forall_eq_or_imp, forall_eq, Fk.key, PSW_STATUS_STATE,
    PSW_STATUS_RESULT]
  omega

end

/-- A CHECK that is done and that was written in no STATE there is. -/
def strayCheck : State :=
  State.reset.updPart 0 fun p => { p with sweep := some { op := 6, before := 16, done := true } }

/-- Refutes O39: a finished CHECK sets the STATE in which it was written, and nothing in the statement bounds the number that
the sweep remembers for it: 16 does not fit the field of four bits, which then reads 0. -/
theorem not_sweepCommands : ¬ Obligations.SweepCommands := by
  intro h
  have hw : (strayCheck.part 0).sweep = some { op := 6, before := 16, done := true } := by
    rw [strayCheck, State.part_updPart_self]
  obtain ⟨s', hs', hst, -⟩ := h.2 strayCheck 0 _ (by decide) hw rfl
  rw [exec_sweepEnd hw rfl] at hs'
  cases hs'
  rw [sweepEnd_state] at hst
  exact absurd hst (by decide)

end Sys2Proof.Machine

/-! PROOF. A repair, step by step. -/

namespace Sys2Proof.Machine

/-! ### What the steps leave unchanged -/

section
variable {s : State} {p t : Nat}

theorem BytesKept.of_at {u : State} {now : Nat} (h : BytesKept (s.at now) u) : BytesKept s u := fun a => h a

theorem RegsKept.of_at {u : State} {now : Nat} {l : List Fk} (h : RegsKept (s.at now) u l) : RegsKept s u l :=
  fun j hj => h j hj

theorem State.watchSync_rf (n : Nat) (j : Fk) : (s.watchSync n).rf j = s.rf j := by
  rw [State.rf, State.watchSync_fld, State.rf]

theorem State.watchSync_plain (n q : Nat) : (s.watchSync n).plain q = s.plain q := by
  rw [State.plain, State.watchSync_plains, State.plain]

theorem State.watchSyncAll_keeps {β : Type} (view : State → β) (h : ∀ u n, view (State.watchSync u n) = view u) :
    view s.watchSyncAll = view s := foldl_keeps view h _ s

theorem State.markSlowed_keeps {β : Type} (view : State → β) (h : ∀ u n f, view (State.updPart u n f) = view u) (ps : List Nat) :
    view (s.markSlowed ps) = view s := foldl_keeps view (fun u n => h u n _) ps s

/-! ### The map, the pause, the intent, the copies -/

theorem exec_mapComputed {r : Repair} (hf : s.frozen = false) (hp : p < 64) (ho : s.plnState p ≠ 4)
    (hk : s.rb MOD_STATUS_KEEPER_UP = true) (hr : (s.plain p).repair = some r) (hph : r.phase = 1) (hks : r.kinds ≠ [])
    (hw : (s.plain p).waitFence = []) (hb : s.failingTiles p = []) :
    exec (.respareMapComputed p) s = .next ((s.updPlain p fun q =>
      { q with waitFence := [], repair := some { r with phase := 2 } }).wf (PLN_STATE_REPAIR_PENDING p) 1) := by
  rw [show exec (.respareMapComputed p) s = execRespareMapComputed p s from rfl, execRespareMapComputed, hr, hb, hw]
  dsimp only [Option.getD_some, State.repairJoin]
  rw [if_neg (by simp [hp, hf, ho, hk, hph])]
  simp [hph, hks]

/-- The state of a plain whose pause has begun. -/
def State.paused (s : State) (p now back : Nat) (r : Repair) : State :=
  ((((s.markSlowed (s.plainPart p).toList).setRepair p (some { r with phase := 3, pausedAt := now, back := back })).wf
    (PLN_STATE_STATE p) 1).watchSyncAll).bump (PLN_PAUSE_COUNT_COUNT p)

theorem pauseCount_ne_state (p : Nat) : (PLN_STATE_STATE p).key ≠ (PLN_PAUSE_COUNT_COUNT p).key := by
  simp only [Fk.key, PLN_STATE_STATE, PLN_PAUSE_COUNT_COUNT]
  omega

theorem State.setRepair_rf (o : Option Repair) (j : Fk) : (s.setRepair p o).rf j = s.rf j := rfl

theorem State.markSlowed_rf (ps : List Nat) (j : Fk) : (s.markSlowed ps).rf j = s.rf j :=
  State.markSlowed_keeps (State.rf · j) (fun u n f => u.updPart_rf n f j) ps

theorem State.watchSyncAll_rf (j : Fk) : s.watchSyncAll.rf j = s.rf j :=
  State.watchSyncAll_keeps (State.rf · j) fun _ n => State.watchSync_rf n j

theorem State.paused_plnState {now back : Nat} {r : Repair} : (s.paused p now back r).plnState p = 1 := by
  rw [State.plnState, State.paused, State.bump, State.rf_wf_ne _ _ (pauseCount_ne_state p), State.watchSyncAll_rf,
    State.rf_wf_self]
  rfl

theorem State.paused_count {now back : Nat} {r : Repair} : (s.paused p now back r).rf (PLN_PAUSE_COUNT_COUNT p) =
    (s.rf (PLN_PAUSE_COUNT_COUNT p) + 1) % 2 ^ (PLN_PAUSE_COUNT_COUNT p).w := by
  rw [State.paused, State.bump, State.rf_wf_self, State.watchSyncAll_rf, State.rf_wf_ne _ _ (pauseCount_ne_state p).symm,
    State.setRepair_rf, State.markSlowed_rf]

theorem State.paused_repair {now back : Nat} {r : Repair} : ((s.paused p now back r).plain p).repair =
    some { r with phase := 3, pausedAt := now, back := back } := by
  rw [State.paused, State.bump_plain, State.watchSyncAll_keeps (State.plain · p) fun u n => State.watchSync_plain n p,
    State.wf_plain, State.setRepair, State.plain_updPlain_self]

theorem State.paused_bytesKept {now back : Nat} {r : Repair} : BytesKept s (s.paused p now back r) := fun a => by
  rw [State.paused, State.byte, State.bump_mem, State.watchSyncAll_mem, State.wf_mem, State.setRepair_mem,
    State.markSlowed_mem, State.byte]

theorem State.paused_regsKept {now back : Nat} {r : Repair} :
    RegsKept s (s.paused p now back r) [PLN_STATE_STATE p, PLN_PAUSE_COUNT_COUNT p] := fun j hj => by
  rw [State.paused, State.bump, State.rf_wf_ne _ _ (hj _ (by simp)).symm, State.watchSyncAll_rf,
    State.rf_wf_ne _ _ (hj _ (by simp)).symm, State.setRepair_rf, State.markSlowed_rf]

theorem exec_plainQuiesced {at_ : Nat} {r : Repair} (hf : s.frozen = false) (hr : (s.plain p).repair = some r)
    (hph : r.phase = 2) (hq : (s.at at_).quiesced p = true) (ho : s.plnState p ≠ 4) :
    exec (.plainQuiesced p at_) s = .next ((s.at at_).paused p (max s.time at_) (s.plnState p) r) := by
  rw [show exec (.plainQuiesced p at_) s = execPlainQuiesced p at_ s from rfl, execPlainQuiesced]
  dsimp only
  rw [State.at_plain, hr]
  dsimp only
  refine congrArg _ (if_neg ?_)
  rintro (h | h | h | h)
  · exact h hph
  · exact Bool.false_ne_true (hf.symm.trans h)
  · rw [hq] at h
    exact Bool.false_ne_true h
  · exact ho h

theorem exec_intentProgrammed {r : Repair} (hf : s.frozen = false) (hr : (s.plain p).repair = some r) (hph : r.phase = 3) :
    exec (.respareIntentProgrammed p) s = .next ((s.updPlain p fun q =>
      { q with repair := some { r with phase := 4 }, intent := some r.newMap }).wf (REPR_JOURNAL_INTENT_OPEN p) 1) := by
  rw [show exec (.respareIntentProgrammed p) s = execRespareIntentProgrammed p s from rfl, execRespareIntentProgrammed, hr]
  dsimp only
  rw [if_neg (by simp [hph, hf])]

/-- The guard of the commands that act while the copies run. -/
theorem copying {r : Repair} (h : r.phase = 4 ∨ r.phase = 5) : ¬((!decide (r.phase = 4 ∨ r.phase = 5)) = true) := by
  simp [h]

theorem exec_copyStep {r : Repair} (hf : s.frozen = false) (hr : (s.plain p).repair = some r) (hph : r.phase = 4 ∨ r.phase = 5)
    (hw : r.phase = 4 → (s.plain p).waitFence = []) (hc : r.copies < s.copiesIn p r)
    (hb : ∀ u ∈ s.copyTiles p r r.copies, (s.tile u).routerBad = false) :
    exec (.respareCopyStep p []) s = .next (s.setRepair p (some { r with phase := 5, copies := r.copies + 1 })) := by
  have hlost : s.lostOf (s.copyTiles p r r.copies) [] = [] := by
    rw [State.lostOf, List.flatMap_eq_nil_iff]
    intro u hu
    rw [hb u hu]
    rfl
  rw [show exec (.respareCopyStep p []) s = execRespareCopyStep p [] s from rfl, execRespareCopyStep, hr]
  dsimp only
  rw [if_neg, hlost, List.foldl_nil, List.append_nil]
  rintro (h | h | h | ⟨h, h'⟩)
  · exact copying hph h
  · omega
  · exact Bool.false_ne_true (hf.symm.trans h)
  · rw [hw h] at h'
    exact absurd h' (by decide)

/-! ### Lost ranges -/

theorem exec_refillComplete {s0 : State} {at_ : Nat} {r : Repair} (hf : (s0.at at_).frozen = false)
    (hr : ((s0.at at_).plain p).repair = some r) (hph : r.phase = 4 ∨ r.phase = 5)
    (hw : r.phase = 4 → ((s0.at at_).plain p).waitFence = []) (hc : (s0.at at_).copiesIn p r ≤ r.copies)
    (hb : r.kinds.contains .bench = false ∨ (s0.at at_).failingTiles p = []) :
    exec (.respareRefillComplete p at_) s0 = .next ((r.lost.foldl (fun s l => s.refillOne p l) (s0.at at_)).setRepair p
      (some { r with phase := 6 })) := by
  rw [show exec (.respareRefillComplete p at_) s0 = execRespareRefillComplete p at_ s0 from rfl, execRespareRefillComplete, hr]
  dsimp only
  rw [if_neg]
  rintro (h | h | h | ⟨h, h'⟩ | ⟨h, h'⟩)
  · exact copying hph h
  · omega
  · exact Bool.false_ne_true (hf.symm.trans h)
  · rw [hw h] at h'
    exact absurd h' (by decide)
  · obtain hb | hb := hb
    · exact Bool.false_ne_true (hb.symm.trans h)
    · rw [hb] at h'
      exact absurd h' (by decide)

/-- A row that no image holds joins the run before it, or begins one. -/
def lostRow (l : LostRange) (acc : List LostRange) (r : Nat) : List LostRange :=
  match acc.getLast? with
  | some x => if x.last + 1 = r then acc.dropLast ++ [{ x with last := r }] else acc ++ [{ l with first := r, last := r }]
  | none => [{ l with first := r, last := r }]

theorem partsCover_nil {a b : Nat} (h : a < b) : partsCover [] 1 a b = false := by
  rw [partsCover, decide_eq_false (by omega)]
  rfl

theorem lostRest_rows {l : LostRange} (hd : l.desk = false) :
    lostRest l [] = ((List.range (l.last + 1 - l.first)).map (l.first + ·)).foldl (lostRow l) [] := by
  rw [lostRest, if_neg (by simp [hd])]
  refine congrArg (fun f => List.foldl f _ _) (funext fun acc => funext fun r => ?_)
  rw [show ([] : List (Nat × Nat × Nat)).length + 1 = 1 from rfl, partsCover_nil (by omega), if_neg Bool.false_ne_true]
  rfl

theorem lostRow_run (l : LostRange) (i : Nat) :
    ((List.range (i + 1)).map (l.first + ·)).foldl (lostRow l) [] = [{ l with last := l.first + i }] := by
  induction i with
  | zero => rfl
  | succ i ih =>
    rw [List.range_succ, List.map_append, List.foldl_append, ih, List.map_singleton, List.foldl_cons, List.foldl_nil, lostRow]
    simp only [List.getLast?_singleton, List.dropLast_singleton]
    rw [if_pos (by omega)]
    rfl

/-- Without parts of an image a run of rows is covered nowhere: it is lost whole. -/
theorem lostRest_bench {l : LostRange} (hd : l.desk = false) (hl : l.first ≤ l.last) : lostRest l [] = [l] := by
  obtain ⟨m, hm⟩ := Nat.exists_eq_add_of_le hl
  rw [lostRest_rows hd, show l.last + 1 - l.first = m + 1 by omega, lostRow_run, ← hm]

theorem lostRest_desk {l : LostRange} (hd : l.desk = true) : lostRest l [] = [l] := by
  rw [lostRest, hd, if_pos rfl]
  rfl

/-- A range of which no image is stored is recorded as lost. -/
theorem refillOne_lost {l : LostRange} (hi : s.imageParts l.tile = []) (hl : l.first ≤ l.last) :
    s.refillOne p l = s.recordLost p l := by
  have hrest : lostRest l [] = [l] := by
    cases hd : l.desk with
    | true => exact lostRest_desk hd
    | false => exact lostRest_bench hd hl
  rw [State.refillOne, hi, hrest]
  rfl

theorem bits_whole {d w : Nat} (h : d < 2 ^ w) : bits d 0 w = d := by
  rw [bits, pow_zero, Nat.div_one, Nat.mod_eq_of_lt h]

/-- A desk that the image holds whole is written back, and nothing is recorded. -/
theorem refillOne_desk {l : LostRange} {d : Nat} (hi : s.imageParts l.tile = [(0, 0xC000, d)]) (hd : l.desk = true)
    (hlt : d < 2 ^ (8 * 0xC000)) : s.refillOne p l = s.wrMem (tkey l.tile 0) 0xC000 d := by
  have hrest : lostRest l [(0, 0xC000, d)] = [] := by
    rw [lostRest, if_pos hd, if_pos (by simp [partsCover])]
  have hbytes : lostBytes l = (0, 0xC000) := by rw [lostBytes, if_pos hd]
  have hbits : bits d (8 * (0 - 0)) (8 * (0xC000 - 0)) = d := bits_whole hlt
  rw [State.refillOne, hi, hrest, List.foldl_nil, State.refill, List.foldl_cons, List.foldl_nil, hbytes]
  dsimp only
  rw [Nat.max_self, Nat.zero_add, Nat.min_self, if_pos (by decide), hbits, Nat.sub_zero]

end

/-! ### The resume -/

section
variable {s : State} {p t : Nat}

/-- A tile of a plain of the module is one of its 262,144. -/
theorem lt_of_plainOf (h : plainOf t < 64) : t < 262144 := by
  simp only [plainOf, tileY, tileX] at h
  omega

/-- A register below the pages of the tiles keeps its value while tasks become ready. -/
theorem State.promote_rf_below {j : Fk} (h : j.key < tilePage 0 * 64) : (s.promote t).rf j = s.rf j :=
  State.promote_rf fun k => by
    have := tilePage_le_taskState t k
    omega

theorem State.promote_plain (q : Nat) : (s.promote t).plain q = s.plain q :=
  State.promote_keeps (State.plain · q) (fun _ _ _ => rfl) fun _ _ _ => rfl

theorem State.rephase_keeps {β : Type} (view : State → β)
    (hrounds : ∀ (u : State) l, (∀ q ∈ l, plainPage p 1 ≤ q.1.off ∧ q.1.off < plainPage p 2) → view (u.wfs l) = view u)
    (hsub : ∀ (u : State) m, view (u.updPlain p fun q => { q with meshSub := m }) = view u) : view (s.rephase p) = view s := by
  rw [State.rephase]
  split
  · rw [hsub, hrounds]
    intro q hq
    simp only [List.mem_cons, List.not_mem_nil, or_false] at hq
    rcases hq with rfl | rfl <;> simp [plainPage, MESH_ROUND_COUNT, MESH_TICKS_COUNT]
  · rfl

/-- The registers of a plain that its resume writes. -/
def resumeFields (s : State) (p : Nat) (r : Repair) : List (Fk × Nat) :=
  let us := (s.time - r.pausedAt) / 1000
  [(PLN_STATE_STATE p, r.back), (PLN_STATE_REPAIR_PENDING p, 0), (MESH_BANK_LIVE p, s.meshBank p),
    (PLN_PAUSE_TIME_LAST_US p, us), (PLN_PAUSE_TIME_MAX_US p, max us (s.rf (PLN_PAUSE_TIME_MAX_US p)))]

/-- The new map is that of the plain, which runs on from now. -/
def State.remapped (s : State) (p : Nat) (r : Repair) : State :=
  let moved := (s.tiles.map fun (e : Nat × Tile) => e.1).filter fun t =>
    plainOf t == p && r.newMap.site (localX t) (localY t) != s.siteOf t
  (moved.foldl (fun s t => s.updTile t fun x => { x with failRows := [], ceRows := [] }) s).updPlain p fun q =>
    { q with map := { r.newMap with lanes := q.map.lanes }, resumedAt := s.time, bankPend := false
             prevBank := if s.meshBank p = s.rf (MESH_BANK_LIVE p) then q.prevBank else s.rf (MESH_BANK_LIVE p)
             repair := some { r with phase := 7 } }

/-- The tasks of the tiles of a plain become ready where they can. -/
def State.promoteAll (s : State) (p : Nat) : State :=
  (s.usedTiles.filter fun t => plainOf t == p).foldl State.promote s

theorem plainResume_plain {r : Repair} (ht : r.tiles = []) (hr : r.reset = false) :
    s.plainResume p r = (((s.remapped p r).wfs (resumeFields s p r)).watchSyncAll.rephase p).promoteAll p := by
  unfold State.plainResume
  extract_lets us bank moved s0 map s1 s2 s3 s4
  have h₂ : s2 = (s.remapped p r).wfs (resumeFields s p r) := rfl
  have h₃ : s3 = s2.watchSyncAll.rephase p := by
    change r.tiles.foldl State.restartTile (s2.watchSyncAll.rephase p) = _
    rw [ht, List.foldl_nil]
  have h₄ : s4 = s3 := if_neg (by simp [hr])
  rw [State.promoteAll, h₄, h₃, h₂]

theorem State.promoteAll_keeps {β : Type} (view : State → β) (h : ∀ (u : State) t, view (u.promote t) = view u) :
    view (s.promoteAll p) = view s := foldl_keeps view h _ s

theorem remapped_plain (r : Repair) : ((s.remapped p r).plain p).map = { r.newMap with lanes := (s.plain p).map.lanes } ∧
    ((s.remapped p r).plain p).resumedAt = s.time ∧ ((s.remapped p r).plain p).repair = some { r with phase := 7 } := by
  have hplain : ∀ (l : List Nat) (u : State), (l.foldl (fun s t => s.updTile t fun x =>
      { x with failRows := [], ceRows := [] }) u).plain p = u.plain p := fun l u =>
    foldl_keeps (State.plain · p) (fun u t => u.updTile_plain t _ p) l u
  rw [State.remapped, State.plain_updPlain_self, hplain]
  exact ⟨rfl, rfl, rfl⟩

theorem State.wfs_plain (l : List (Fk × Nat)) (q : Nat) : (s.wfs l).plain q = s.plain q := by
  have h : (s.wfs l).plains = s.plains := (congrArg State.plains (s.wfs_only l) :)
  rw [State.plain, h, State.plain]

theorem State.rephase_updPlain {β : Type} (view : Plain → β) (hview : ∀ (x : Plain) m, view { x with meshSub := m } = view x) :
    view ((s.rephase p).plain p) = view (s.plain p) := by
  refine State.rephase_keeps (fun u => view (u.plain p)) (fun u l _ => ?_) fun u m => ?_
  · rw [State.wfs_plain]
  · rw [State.plain_updPlain_self, hview]

/-- What a resume leaves of the state of the plain and of a register of its first page. -/
theorem resumed_view {β : Type} (view : Plain → β) (hview : ∀ (x : Plain) m, view { x with meshSub := m } = view x) (u : State) :
    view ((((u.watchSyncAll).rephase p).promoteAll p).plain p) = view (u.plain p) := by
  rw [State.promoteAll_keeps (State.plain · p) fun v t => v.promote_plain p, State.rephase_updPlain view hview,
    State.watchSyncAll_keeps (State.plain · p) fun v n => v.watchSync_plain n p]

theorem resumed_rf {j : Fk} (hp : p < 64) (hj : j.off = plainPage p 0 + 0x100) (hlo : j.lo < 64) (u : State) :
    (((u.watchSyncAll).rephase p).promoteAll p).rf j = u.rf j := by
  have hbelow : j.key < tilePage 0 * 64 := by
    simp only [Fk.key, hj, plainPage, tilePage]
    omega
  rw [State.promoteAll_keeps (State.rf · j) fun v t => State.promote_rf_below hbelow,
    State.rephase_keeps (State.rf · j) (fun v l hl => ?_) fun v m => v.updPlain_rf p _ j,
    State.watchSyncAll_keeps (State.rf · j) fun v n => State.watchSync_rf n j]
  refine v.rf_wfs_ne l j fun q hq => ?_
  have := hl q hq
  simp only [Fk.key, hj, plainPage] at this ⊢
  omega

theorem resumeFields_state (r : Repair) (u : State) :
    (u.wfs (resumeFields s p r)).rf (PLN_STATE_STATE p) = r.back % 8 ∧
      (u.wfs (resumeFields s p r)).rf (PLN_STATE_REPAIR_PENDING p) = 0 := by
  constructor
  · refine State.rf_wfs_mem ⟨(PLN_STATE_STATE p, r.back), List.mem_cons_self, rfl⟩ ?_
    simp only [resumeFields, List.mem_cons, List.not_mem_nil, or_false, forall_eq_or_imp, forall_eq, Fk.key, PLN_STATE_STATE,
      PLN_STATE_REPAIR_PENDING, MESH_BANK_LIVE, PLN_PAUSE_TIME_LAST_US, PLN_PAUSE_TIME_MAX_US, plainPage]
    omega
  · refine State.rf_wfs_mem ⟨(PLN_STATE_REPAIR_PENDING p, 0), by simp [resumeFields], rfl⟩ ?_
    simp only [resumeFields, List.mem_cons, List.not_mem_nil, or_false, forall_eq_or_imp, forall_eq, Fk.key, PLN_STATE_STATE,
      PLN_STATE_REPAIR_PENDING, MESH_BANK_LIVE, PLN_PAUSE_TIME_LAST_US, PLN_PAUSE_TIME_MAX_US, plainPage]
    omega

/-- The state after the resume of a plain that nothing waits for. -/
def State.resumedPlain (s : State) (p : Nat) (r : Repair) : State :=
  ((((s.remapped p r).wfs (resumeFields s p r)).watchSyncAll).rephase p).promoteAll p

theorem exec_plainResume {at_ : Nat} {r : Repair} (hf : s.frozen = false) (hr : (s.plain p).repair = some r) (hph : r.phase = 6)
    (hres : r.reset = false) (ht : r.tiles = []) :
    exec (.plainResume p at_) s = .next ((s.at at_).resumedPlain p r) := by
  have hf' : (s.at at_).frozen = false := hf
  rw [show exec (.plainResume p at_) s = execPlainResume p at_ s from rfl, execPlainResume, State.at_plain, hr]
  dsimp only
  rw [if_pos ⟨hph, by rw [hf']; rfl⟩, plainResume_plain ht hres, State.resumedPlain]

theorem resumedPlain_bytesKept {r : Repair} (ht : r.tiles = []) (hres : r.reset = false) :
    BytesKept s (s.resumedPlain p r) := fun a => by
  rw [State.resumedPlain, ← plainResume_plain ht hres, State.byte, State.plainResume_mem, State.byte]

theorem resumedPlain_rf {r : Repair} {j : Fk} (hp : p < 64) (hj : j.off = plainPage p 0 + 0x100) (hlo : j.lo < 64) :
    (s.resumedPlain p r).rf j = ((s.remapped p r).wfs (resumeFields s p r)).rf j := resumed_rf hp hj hlo _

theorem resumedPlain_view {β : Type} (view : Plain → β) (hview : ∀ (x : Plain) m, view { x with meshSub := m } = view x)
    (r : Repair) : view ((s.resumedPlain p r).plain p) = view ((s.remapped p r).plain p) :=
  (resumed_view view hview _).trans (congrArg view (State.wfs_plain _ _))

end

/-! ### Tiles that return, bench rows -/

section
variable {s : State} {t : Nat}

/-- Task `j` of a tile that returns is WAITING or DISABLED, with no firing under way. -/
def State.taskRestarted (t : Nat) (s : State) (j : Nat) : State :=
  (s.wfs [(TILE_TASK_STATE_STATE t j, s.rf (TILE_TASK_CFG_ENABLE t j)), (TILE_TASK_STATE_WAIT_ON t j, 0)]).updTile t
    fun x => x.setTask j { x.task j with mid := false, disablePending := false, reenable := false }

/-- The fence of a tile falls. -/
def State.unfenced (s : State) (t : Nat) : State :=
  if s.fenced t then
    (s.wf (PLN_FENCED (plainOf t) (localY t)) (s.rf (PLN_FENCED (plainOf t) (localY t)) &&&
      (2 ^ localX t ^^^ (2 ^ 64 - 1)))).wf (PLN_STATE_FENCED_TILES (plainOf t)) (s.rf (PLN_STATE_FENCED_TILES (plainOf t)) - 1)
  else s

theorem State.restartTile_eq : s.restartTile t = ((s.unfenced t).forEach (List.range 16) (State.taskRestarted t)).updTile t fun x =>
    { x with cur := none, mq := [], routerBad := false, failRows := [], ceRows := [] } := rfl

theorem State.unfenced_fenced : (s.unfenced t).fenced t = false := by
  rw [State.unfenced]
  by_cases h : s.fenced t = true
  · have hne : (PLN_FENCED (plainOf t) (localY t)).key ≠ (PLN_STATE_FENCED_TILES (plainOf t)).key := by
      simp only [Fk.key, PLN_FENCED, PLN_STATE_FENCED_TILES]
      omega
    have hx : localX t < 64 := Nat.mod_lt _ (by decide)
    rw [if_pos h, State.fenced, State.rf_wf_ne _ _ hne, State.rf_wf_self, Nat.testBit_mod_two_pow, Nat.testBit_and,
      Nat.testBit_xor, Nat.testBit_two_pow_self, Nat.testBit_two_pow_sub_one, decide_eq_true hx]
    simp
  · rw [if_neg h]
    exact Bool.not_eq_true _ ▸ h

theorem State.taskRestarted_fenced (ht : t < 262144) (j : Nat) : (s.taskRestarted t j).fenced t = s.fenced t := by
  rw [State.fenced, State.taskRestarted, State.updTile_rf, State.rf_wfs_ne, State.fenced]
  have := plainOf_lt ht
  have hy : localY t < 64 := Nat.mod_lt _ (by decide)
  simp only [List.mem_cons, List.not_mem_nil, or_false, forall_eq_or_imp, forall_eq, Fk.key, PLN_FENCED, plainPage,
    TILE_TASK_STATE_STATE, TILE_TASK_STATE_WAIT_ON, tilePage]
  omega

theorem restartTile_fenced (ht : t < 262144) : (s.restartTile t).fenced t = false := by
  have htasks : ((s.unfenced t).forEach (List.range 16) (State.taskRestarted t)).fenced t = (s.unfenced t).fenced t :=
    foldl_keeps (State.fenced · t) (fun u j => State.taskRestarted_fenced (s := u) ht j) (List.range 16) (s.unfenced t)
  rw [State.restartTile_eq, State.fenced, State.updTile_rf, ← State.fenced, htasks, State.unfenced_fenced]

theorem restartTile_core : ((s.restartTile t).tile t).cur = none ∧ ((s.restartTile t).tile t).mq = [] := by
  rw [State.restartTile_eq, State.tile_updTile_self]
  exact ⟨rfl, rfl⟩

theorem exec_rowReplacement {row : Nat} {r : Repair} (hf : s.frozen = false) (hr : (s.plain (plainOf t)).repair = some r)
    (hph : r.phase = 4 ∨ r.phase = 5) (hk : r.kinds.contains .bench = true)
    (hrow : (s.tile t).failRows.contains row = true) (he : s.eccBad = []) :
    let s1 := s.updTile t fun x => { x with failRows := x.failRows.erase row, ceRows := x.ceRows.filter fun e => e.1 != row }
    exec (.benchRowReplacement t row []) s = .next (if 8 ≤ (s.redundantUsed t row).2 then s1.fenceTile t else
      (s1.updPlain (plainOf t) fun q =>
        { q with redundant := sset 0 q.redundant (s.redundantUsed t row).1 ((s.redundantUsed t row).2 + 1) }).raise 4
          (plainPage (plainOf t) 2)) := by
  have hbad : (([] : List Nat) ++ (List.range 256).filter fun w => (sget? s.eccBad (rowKey t row / 8 + w)).isSome) = [] := by
    rw [he, List.nil_append, List.filter_eq_nil_iff]
    exact fun w _ => Bool.false_ne_true
  intro s1
  rw [show exec (.benchRowReplacement t row []) s = execBenchRowReplacement t row [] s from rfl, execBenchRowReplacement, hr]
  dsimp only
  rw [if_neg, hbad]
  · rfl
  rintro (h | h | h | h)
  · exact copying hph h
  · rw [hk] at h
    exact absurd h (by decide)
  · exact Bool.false_ne_true (hf.symm.trans h)
  · rw [hrow] at h
    exact absurd h (by decide)

end

/-- Settles O41. -/
theorem repairSequence : Obligations.RepairSequence := by
  refine ⟨fun s p r hf hp ho hk hr hph hks hw hb => exec_mapComputed hf hp ho hk hr hph hks hw hb,
    fun s p at_ r hf hr hph hq ho => ⟨_, exec_plainQuiesced hf hr hph hq ho, State.paused_plnState,
      ?_, State.paused_repair, State.paused_bytesKept.of_at, State.paused_regsKept.of_at⟩,
    fun s p r hf hr hph => exec_intentProgrammed hf hr hph,
    fun s p r hf hr hph hw hc hb => exec_copyStep hf hr hph hw hc hb,
    fun s0 p at_ r hf hr hph hw hc hb => ⟨fun hl => ?_, fun l hl => ?_⟩,
    fun s p l => ⟨refillOne_lost, fun d => refillOne_desk⟩,
    fun s p at_ r hf hp hr hph hres ht => ⟨_, exec_plainResume hf hr hph hres ht, ?_, ?_, ?_, ?_, ?_, ?_⟩,
    fun s t ht => ⟨restartTile_fenced ht, restartTile_core.1, restartTile_core.2, fun a => ?_⟩,
    fun s p r hf hr hph => ?_, fun s t row r hf hr hph hk hrow he => ⟨fun h => ?_, fun h => ?_⟩⟩
  · rw [State.paused_count, State.at_rf]
  · rw [exec_refillComplete hf hr hph hw hc hb, hl, List.foldl_nil]
  · rw [exec_refillComplete hf hr hph hw hc hb, hl, List.foldl_cons, List.foldl_nil]
  · rw [State.plnState, resumedPlain_rf hp rfl (by simp [PLN_STATE_STATE]), (resumeFields_state r _).1]
  · rw [resumedPlain_rf hp rfl (by simp [PLN_STATE_REPAIR_PENDING]), (resumeFields_state r _).2]
  · exact (resumedPlain_view Plain.map (fun _ _ => rfl) r).trans (remapped_plain r).1
  · exact (resumedPlain_view Plain.resumedAt (fun _ _ => rfl) r).trans (remapped_plain r).2.1
  · exact (resumedPlain_view Plain.repair (fun _ _ => rfl) r).trans (remapped_plain r).2.2
  · exact (resumedPlain_bytesKept ht hres).of_at
  · rw [State.byte, State.restartTile_mem, State.byte]
  · rw [show exec (.respareCommitProgrammed p) s = execRespareCommitProgrammed p s from rfl, execRespareCommitProgrammed, hr]
    dsimp only
    rw [if_neg (by simp [hph, hf])]
  · rw [exec_rowReplacement hf hr hph hk hrow he, if_neg (by omega)]
  · rw [exec_rowReplacement hf hr hph hk hrow he, if_pos h]

end Sys2Proof.Machine

/-! PROOF. Repair commands and their answers. -/

namespace Sys2Proof.Machine

section
variable {s : State} {p v x y : Nat}

theorem reprCmd_busy {r : Nat} (h : s.reprBusy p = some r) : s.reprCmd p v = s.reprResult p (bits v 0 4) r := by
  rw [State.reprCmd, h]

theorem repr_on (h : s.plnState p ≠ 4) {bad : Bool} (hb : bad = false) : ¬((bad || s.plnState p == 4) = true) := by
  simp [hb, h]

/-! ### RESPARE, RETIRE_ROW, RETEST -/

theorem reprCmd_site_out (hop : bits v 0 4 = 1 ∨ bits v 0 4 = 3) (hfree : s.reprBusy p = none)
    (h : 65 < bits v 4 7 ∨ 65 < bits v 11 7) : s.reprCmd p v = s.reprResult p (bits v 0 4) 2 := by
  have hbad : (decide (65 < bits v 4 7) || decide (65 < bits v 11 7)) = true := by simpa using h
  obtain hop | hop := hop <;>
  · simp only [State.reprCmd, hop, hfree, hbad]
    exact if_pos rfl

theorem reprCmd_respare (hop : bits v 0 4 = 1) (hx : bits v 4 7 = x) (hy : bits v 11 7 = y) (hfree : s.reprBusy p = none)
    (hon : s.plnState p ≠ 4) (hx' : x ≤ 65) (hy' : y ≤ 65) :
    s.reprCmd p v = if ((s.plain p).map.logical x y).isNone then s.reprResult p 1 2
      else if 2 ≤ ((s.plain p).map.bypOf y).length then s.reprResult p 1 1
      else s.reprStart p 1 (.site x y) ((s.plain p).map.addByp x y) := by
  simp only [State.reprCmd, hop, hx, hy, hfree]
  rw [if_neg (repr_on hon (by simp; omega))]

theorem reprCmd_retireRow (hop : bits v 0 4 = 2) (hy : bits v 11 7 = y) (hfree : s.reprBusy p = none)
    (hon : s.plnState p ≠ 4) (hy' : y ≤ 65) (hm : (s.plain p).map.mapped y = true) :
    s.reprCmd p v = if 2 ≤ (s.plain p).map.retired.length then s.reprResult p 2 1
      else s.reprStart p 2 (.row y) ((s.plain p).map.addRetired y) := by
  simp only [State.reprCmd, hop, hy, hfree]
  rw [if_neg (repr_on hon (by simp; omega)), if_neg (by simp [hm])]

/-- RETEST of a site outside the logical plain takes it out for test. -/
theorem reprCmd_retest (hop : bits v 0 4 = 3) (hx : bits v 4 7 = x) (hy : bits v 11 7 = y) (hfree : s.reprBusy p = none)
    (hon : s.plnState p ≠ 4) (hx' : x ≤ 65) (hy' : y ≤ 65)
    (hout : (s.plain p).map.bypassed y x = true ∨ (s.plain p).map.rowRetired y = true)
    (hl : (s.plain p).map.logical x y = none) :
    s.reprCmd p v = ((s.reprResult p 3 0).wf (REPR_CMD_STATUS_BUSY p) 1).updPlain p fun q => { q with testing := some (x, y) } := by
  simp only [State.reprCmd, hop, hx, hy, hfree, hl, Option.map_none]
  rw [if_neg (repr_on hon (by simp; omega)), if_neg]
  obtain h | h := hout <;> simp [h]

/-! ### Fences -/

theorem reprCmd_computeFence (hfree : s.reprBusy p = none) (hon : s.plnState p ≠ 4) :
    s.reprCmd p 4 = if s.plnLevel p = 3 then s.reprResult p 4 7 else (s.reprResult p 4 0).doFence p 2 := by
  simp only [State.reprCmd, show bits 4 0 4 = 4 from rfl, hfree]
  rw [if_neg (repr_on hon rfl)]

theorem reprCmd_fullFence (hfree : s.reprBusy p = none) (hon : s.plnState p ≠ 4) :
    s.reprCmd p 5 = (s.reprResult p 5 0).doFence p 3 := by
  simp only [State.reprCmd, show bits 5 0 4 = 5 from rfl, hfree]
  rw [if_neg (repr_on hon rfl)]

/-- The partition of a plain, where it has one, is quiet. -/
def State.plainQuiet (s : State) (p : Nat) : Bool :=
  match s.plainPart p with
  | some n => s.quietPart n
  | none => true

theorem reprCmd_unfence (hfree : s.reprBusy p = none) (hon : s.plnState p ≠ 4) :
    s.reprCmd p 6 = if !s.plainQuiet p then s.reprResult p 6 3
      else if !(s.plain p).lostLinks.isEmpty || !s.fencedCleared p then s.reprResult p 6 7
      else ((s.reprResult p 6 0).plainReset p).rephase p := by
  simp only [State.reprCmd, show bits 6 0 4 = 6 from rfl, hfree]
  rw [if_neg (repr_on hon rfl)]
  rfl

theorem plainQuiet_of_all (h : ∀ n, s.plainPart p = some n → s.quietPart n = true) : s.plainQuiet p = true := by
  rw [State.plainQuiet]
  split
  · exact h _ ‹_›
  · rfl

/-! ### LANE_RESPARE -/

theorem reprCmd_laneRespare {edge link dir plane group lane : Nat} (hop : bits v 0 4 = 7) (he : bits v 18 2 = edge)
    (hl : bits v 20 6 = link) (hd : bits v 26 1 = dir) (hp : bits v 27 1 = plane) (hg : bits v 28 4 = group)
    (hla : bits v 32 7 = lane) (hg' : group < 9) (hla' : lane < 68) (hfree : s.reprBusy p = none) (hon : s.plnState p ≠ 4)
    (hc : (s.plain p).map.lanes.contains
      { edge := edge, link := link, dir := dir, plane := plane, group := group, lane := lane } = false) :
    s.reprCmd p v = if 4 ≤ (s.plain p).map.failed edge link dir plane group then s.reprResult p 7 1
      else (s.reprResult p 7 0).replaceLane p
        { edge := edge, link := link, dir := dir, plane := plane, group := group, lane := lane } := by
  simp only [State.reprCmd, hop, he, hl, hd, hp, hg, hla, hfree]
  rw [if_neg (repr_on hon (by simp; omega)), hc, if_neg Bool.false_ne_true]

theorem reprHost_open (hw : s.pf0Writes 0 = true) (hr : s.pageReady (plainPage p 2) = true) (hp : p < 64) (v : Nat) :
    s.reprHost 0 p v = s.reprCmd p v := by
  rw [State.reprHost, if_pos (by simp [hw, hr, hp])]

/-! ### The words of the commands -/

/-- The word of RESPARE and RETEST. -/
def siteWord (op x y : Nat) : Nat := op + x % 128 * 2 ^ 4 + y % 128 * 2 ^ 11

theorem siteWord_op {op : Nat} (h : op < 16) : bits (siteWord op x y) 0 4 = op := by
  simp only [bits, siteWord]
  omega

theorem siteWord_x {op : Nat} (h : op < 16) (hx : x < 128) : bits (siteWord op x y) 4 7 = x := by
  simp only [bits, siteWord]
  omega

theorem siteWord_y {op : Nat} (h : op < 16) (hy : y < 128) : bits (siteWord op x y) 11 7 = y := by
  simp only [bits, siteWord]
  omega

theorem rowWord (y : Nat) : 2 + y % 128 * 2 ^ 11 = siteWord 2 0 y := by
  simp only [siteWord]
  omega

/-- The word of LANE_RESPARE. -/
def laneWord (edge link dir plane group lane : Nat) : Nat :=
  7 + edge % 4 * 2 ^ 18 + link % 64 * 2 ^ 20 + dir % 2 * 2 ^ 26 + plane % 2 * 2 ^ 27 + group % 16 * 2 ^ 28 + lane % 128 * 2 ^ 32

theorem laneWord_bits {edge link dir plane group lane : Nat} (he : edge < 4) (hl : link < 64) (hd : dir < 2) (hp : plane < 2)
    (hg : group < 9) (hla : lane < 68) :
    let v := laneWord edge link dir plane group lane
    bits v 0 4 = 7 ∧ bits v 18 2 = edge ∧ bits v 20 6 = link ∧ bits v 26 1 = dir ∧ bits v 27 1 = plane ∧
      bits v 28 4 = group ∧ bits v 32 7 = lane := by
  simp only [bits, laneWord]
  omega

/-! ### The reset of a plain -/

theorem plainReset_plnState : (s.plainReset p).plnState p = 0 := by
  have hne : (PLN_STATE_STATE p).key ≠ (PLN_STATE_FENCED_TILES p).key := by
    simp only [Fk.key, PLN_STATE_STATE, PLN_STATE_FENCED_TILES]
    omega
  unfold State.plainReset
  extract_lets s1 s2 s3
  have h₃ : s3 = (s2.wf (PLN_STATE_STATE p) 0).wf (PLN_STATE_FENCED_TILES p) 0 := rfl
  clear_value s3
  rw [State.plnState, State.updPlain_rf, State.setFlits_rf, h₃, State.rf_wf_ne _ _ hne, State.rf_wf_self]
  rfl

theorem plainReset_fenced {y : Nat} (hy : y < 64) : (s.plainReset p).rf (PLN_FENCED p y) = 0 := by
  have h₁ : (PLN_FENCED p y).key ≠ (PLN_STATE_FENCED_TILES p).key := by
    simp only [Fk.key, PLN_FENCED, PLN_STATE_FENCED_TILES]
    omega
  have h₂ : (PLN_FENCED p y).key ≠ (PLN_STATE_STATE p).key := by
    simp only [Fk.key, PLN_FENCED, PLN_STATE_STATE]
    omega
  unfold State.plainReset
  extract_lets s1 s2 s3
  have h₃ : s3 = (s2.wf (PLN_STATE_STATE p) 0).wf (PLN_STATE_FENCED_TILES p) 0 := rfl
  clear_value s3
  rw [State.updPlain_rf, State.setFlits_rf, h₃, State.rf_wf_ne _ _ h₁, State.rf_wf_ne _ _ h₂]
  refine foldl_settles (fun _ => True) (State.rf · (PLN_FENCED p y)) trivial (fun _ _ _ _ => trivial) (fun u _ => ?_)
    (fun u x _ _ hx => u.rf_wf_ne _ ?_) (List.mem_range.mpr hy)
  · exact (u.rf_wf_self _ _).trans (Nat.zero_mod _)
  · simp only [Fk.key, PLN_FENCED]
    omega

end

/-- Settles O42. -/
theorem repairCommands : Obligations.RepairCommands := by
  have hsite (s : State) (p x y : Nat) (hp : p < 64) (hw : s.pf0Writes 0 = true) (hr : s.pageReady (plainPage p 2) = true) :
      exec (.respare 0 p x y) s = .next (s.reprCmd p (siteWord 1 x y)) ∧
      exec (.retireRow 0 p y) s = .next (s.reprCmd p (siteWord 2 0 y)) ∧
      exec (.retest 0 p x y) s = .next (s.reprCmd p (siteWord 3 x y)) ∧ exec (.computeFence 0 p) s = .next (s.reprCmd p 4) ∧
      exec (.fullFence 0 p) s = .next (s.reprCmd p 5) ∧ exec (.unfence 0 p) s = .next (s.reprCmd p 6) :=
    ⟨congrArg _ (reprHost_open hw hr hp _), congrArg _ ((reprHost_open hw hr hp _).trans (congrArg _ (rowWord y))),
      congrArg _ (reprHost_open hw hr hp _), congrArg _ (reprHost_open hw hr hp _), congrArg _ (reprHost_open hw hr hp _),
      congrArg _ (reprHost_open hw hr hp _)⟩
  refine ⟨fun s p x y hp hx hy hw hr => ?_, fun s p edge link dir plane group lane hp he hl hd hpl hg hla hw hr hfree hon hc => ?_,
    fun s p c hc => ⟨?_, ?_⟩, fun s p _ => ⟨plainReset_plnState, fun y => plainReset_fenced⟩⟩
  · obtain ⟨hrespare, hrow, hretest, hcompute, hfull, hunfence⟩ := hsite s p x y hp hw hr
    have h₁ : bits (siteWord 1 x y) 0 4 = 1 := siteWord_op (by decide)
    have h₂ : bits (siteWord 2 0 y) 0 4 = 2 := siteWord_op (by decide)
    have h₃ : bits (siteWord 3 x y) 0 4 = 3 := siteWord_op (by decide)
    rw [hrespare, hrow, hretest, hcompute, hfull, hunfence]
    refine ⟨fun r hb => ?_, fun hfree hon => ⟨fun hout => ⟨?_, ?_⟩, fun hx' hy' => ?_, fun hlv => ?_, fun hlv => ?_, ?_,
      fun n hn hq => ?_, fun hq => ⟨fun hlost hcl => ?_, fun hlost => ?_, fun hcl => ?_⟩⟩⟩
    · simp only [reprCmd_busy hb, h₁, h₂, h₃, show bits 4 0 4 = 4 from rfl, show bits 5 0 4 = 5 from rfl,
        show bits 6 0 4 = 6 from rfl, and_self]
    · rw [reprCmd_site_out (.inl h₁) hfree (by rwa [siteWord_x (by decide) hx, siteWord_y (by decide) hy]), h₁]
    · rw [reprCmd_site_out (.inr h₃) hfree (by rwa [siteWord_x (by decide) hx, siteWord_y (by decide) hy]), h₃]
    · rw [reprCmd_respare h₁ (siteWord_x (by decide) hx) (siteWord_y (by decide) hy) hfree hon hx' hy']
      refine ⟨fun hl => ?_, fun hl hb => ?_, fun hl hb => ?_, fun hm hn => ?_, fun hm hn => ?_, fun ho hl => ?_⟩
      · rw [hl, Option.isNone_none, if_pos rfl]
      · rw [if_neg (by simpa using hl), if_pos hb]
      · rw [if_neg (by simpa using hl), if_neg (by omega)]
      · rw [reprCmd_retireRow h₂ (siteWord_y (by decide) hy) hfree hon hy' hm, if_pos hn]
      · rw [reprCmd_retireRow h₂ (siteWord_y (by decide) hy) hfree hon hy' hm, if_neg (by omega)]
      · rw [reprCmd_retest h₃ (siteWord_x (by decide) hx) (siteWord_y (by decide) hy) hfree hon hx' hy' ho hl]
    · rw [reprCmd_computeFence hfree hon, if_neg hlv]
    · rw [reprCmd_computeFence hfree hon, if_pos hlv]
    · rw [reprCmd_fullFence hfree hon]
    · rw [reprCmd_unfence hfree hon, if_pos (by rw [State.plainQuiet, hn]; simp [hq])]
    · rw [reprCmd_unfence hfree hon, if_neg (by simp [plainQuiet_of_all hq]), if_neg (by simp [hlost, hcl])]
    · rw [reprCmd_unfence hfree hon, if_neg (by simp [plainQuiet_of_all hq]), if_pos (by simp [hlost])]
    · rw [reprCmd_unfence hfree hon, if_neg (by simp [plainQuiet_of_all hq]), if_pos (by simp [hcl])]
  · obtain ⟨hop, he', hl', hd', hpl', hg', hla'⟩ := laneWord_bits he hl hd hpl hg hla
    have hexec : exec (.laneRespare 0 p edge link dir plane group lane) s =
        .next (s.reprCmd p (laneWord edge link dir plane group lane)) := congrArg _ (reprHost_open hw hr hp _)
    rw [hexec, reprCmd_laneRespare hop he' hl' hd' hpl' hg' hla' hg hla hfree hon hc]
    exact ⟨fun h => by rw [if_neg (by omega)], fun h => by rw [if_pos h]⟩
  · rw [show exec (.retestComplete p false) s = execRetestComplete p false s from rfl, execRetestComplete, hc]
    rfl
  · rw [show exec (.retestComplete p true) s = execRetestComplete p true s from rfl, execRetestComplete, hc]
    rfl

end Sys2Proof.Machine

/-! PROOF. Pass lanes, their spares and loss, and hardware faults of a tile. -/

namespace Sys2Proof.Machine

theorem acrossEdge_ne {p e q : Nat} (hp : p < 64) (he : e < 4) (h : acrossEdge p e = some q) : q ≠ p := by
  rw [acrossEdge.eq_def] at h
  rcases (by omega : e = 0 ∨ e = 1 ∨ e = 2 ∨ e = 3) with rfl | rfl | rfl | rfl <;> simp at h <;> omega

section
variable {s : State} {p rim : Nat} {l : Lane}

theorem State.updLane_plain (f : Lane → Plain → Plain) (hp : p < 64) (he : l.edge < 4) :
    (s.updLane p l f).plain p = f l (s.plain p) := by
  rw [State.updLane]
  cases h : acrossEdge p l.edge with
  | none => simp
  | some r => simp [State.plain_updPlain, (acrossEdge_ne hp he h).symm]

theorem State.updLane_across (f : Lane → Plain → Plain) {q : Nat} (hp : p < 64) (he : l.edge < 4)
    (hq : acrossEdge p l.edge = some q) : (s.updLane p l f).plain q = f l.mirror (s.plain q) := by
  rw [State.updLane, hq]
  simp [State.plain_updPlain, acrossEdge_ne hp he hq]

theorem State.plain_setPlain_self (x : Plain) : (s.setPlain p x).plain p = x := by
  rw [show s.setPlain p x = s.updPlain p (fun _ => x) from rfl, State.plain_updPlain_self]

theorem State.plain_setPlain_ne (x : Plain) {q : Nat} (h : q ≠ p) : (s.setPlain p x).plain q = s.plain q := by
  rw [show s.setPlain p x = s.updPlain p (fun _ => x) from rfl, State.plain_updPlain, if_neg h]

/-- A lane that counts takes its error; what follows depends on the count and the spares of its group. -/
theorem State.laneDiffers_counts (hm : (s.plain p).map.lanes.contains l = false) (hw : (s.plain p).lanePend.contains l = false) :
    s.laneDiffers p rim l =
      let r := (s.plain p).laneError l s.time
      let s1 := s.setPlain p r.1
      if r.2 < max 1 (s.rf (REPR_CTRL_LANE_ERR_LIMIT p)) then s1
      else if 4 ≤ r.1.groupFailed l then s1.linkLost p l rim
      else s1.updLane p l fun l q => { q with lanePend := q.lanePend ++ [l] } := by
  rw [State.laneDiffers]
  exact if_neg (by rw [hm, hw]; decide)

end

@[simp] theorem Plain.laneError_lanePend (q : Plain) (l : Lane) (now : Nat) : (q.laneError l now).1.lanePend = q.lanePend := rfl

section
variable (s : State) (p edge link dir plane rim at_ : Nat)

theorem exec_passCrcFailure (bad : List (Nat × Nat)) (hp : p < 64) (he : edge < 4) (hl : link < 64) (hd : dir < 2) (hn : plane < 2)
    (hoff : s.plnState p ≠ 4) (hlost : (s.plain p).lostLinks.contains (edge, link, plane) = false) :
    exec (.passCrcFailure p edge link dir plane rim bad at_) s = .next (bad.foldl (fun s b =>
      if b.1 < 9 ∧ b.2 < 68 then
        s.laneDiffers p rim { edge := edge, link := link, dir := dir, plane := plane, group := b.1, lane := b.2 }
      else s) ((s.at at_).bump (REPR_REPLAYS p edge))) := by
  rw [show exec (.passCrcFailure p edge link dir plane rim bad at_) s =
    execPassCrcFailure p edge link dir plane rim bad at_ s from rfl, execPassCrcFailure]
  have hpl : (s.at at_).plain p = s.plain p := by simp
  have hst : (s.at at_).plnState p = s.plnState p := by simp [State.plnState]
  rw [hpl, hst, if_pos ⟨hp, he, hl, hd, hn, hoff, by rw [hlost]; decide⟩]

end

/-- Settles O43. -/
theorem lanesAndHardware : Obligations.LanesAndHardware := by
  unfold Obligations.LanesAndHardware
  refine ⟨fun s p edge link dir plane rim at_ hp he hl hd hn hoff hlost => ⟨?_, fun g l hg hl' => ?_⟩,
    fun s p rim l hp he hm hw => ⟨fun hlow => ?_, fun hhigh hroom => ?_, fun hhigh hnone => ?_⟩,
    fun s p l hl => ⟨fun hauto => ?_, fun hauto => ?_⟩, fun s t unit hu hoff => ⟨fun hne => ?_, fun heq => ?_⟩⟩
  · exact exec_passCrcFailure s p edge link dir plane rim at_ [] hp he hl hd hn hoff hlost
  · rw [exec_passCrcFailure s p edge link dir plane rim at_ [(g, l)] hp he hl hd hn hoff hlost, List.foldl_cons, List.foldl_nil,
      if_pos ⟨hg, hl'⟩]
  · rw [State.laneDiffers_counts hm hw]
    exact if_pos hlow
  · have hwait : s.laneDiffers p rim l = (s.setPlain p ((s.plain p).laneError l s.time).1).updLane p l fun l q =>
        { q with lanePend := q.lanePend ++ [l] } := by
      rw [State.laneDiffers_counts hm hw]
      dsimp only
      rw [if_neg (by omega), if_neg (by omega)]
    rw [hwait]
    refine ⟨?_, fun q hq => ?_⟩
    · rw [State.updLane_plain _ hp he, State.plain_setPlain_self]
      dsimp only
      rw [Plain.laneError_lanePend]
    · rw [State.updLane_across _ hp he hq, State.plain_setPlain_ne _ (acrossEdge_ne hp he hq)]
  · rw [State.laneDiffers_counts hm hw]
    dsimp only
    rw [if_neg (by omega), if_pos hnone]
  · rw [show exec (.laneReplacement p) s = execLaneReplacement p s from rfl, execLaneReplacement, if_pos hauto, hl,
      List.foldl_cons, List.foldl_nil]
  · rw [show exec (.laneReplacement p) s = execLaneReplacement p s from rfl, execLaneReplacement, if_neg (by simp [hauto])]
  · rw [show exec (.hardwareFaultDetect t unit) s = execHardwareFaultDetect t unit s from rfl, execHardwareFaultDetect,
      if_neg (by omega)]
    dsimp only
    rw [if_neg hne]
  · subst heq
    rw [show exec (.hardwareFaultDetect t 2) s = execHardwareFaultDetect t 2 s from rfl, execHardwareFaultDetect,
      if_neg (by omega)]
    dsimp only
    rw [if_pos rfl]

end Sys2Proof.Machine

/-! PROOF. Records are taken, checked, accepted with a number or refused. -/

namespace Sys2Proof.Machine

section
variable {s : State}

theorem State.hasBad_nil (h : s.eccBad = []) (k n : Nat) : s.hasBad k n = false := by
  simp [State.hasBad, h]

theorem State.rf_bump_self (k : Fk) (n : Nat := 1) : (s.bump k n).rf k = (s.rf k + n) % 2 ^ k.w := State.rf_wf_self s k _

theorem State.rf_bump_ne {k j : Fk} (h : j.key ≠ k.key) (n : Nat := 1) : (s.bump k n).rf j = s.rf j := State.rf_wf_ne s _ h

/-! ### A record is put into a slot -/

/-- The record that acceptance makes. -/
def State.ledgerRec (s : State) (n e kind item len payload : Nat) (unarmed : Bool) : Rec :=
  { eses := e, kind := kind, item := item, seq := s.rf LDG_INCARNATION_COUNT * 2 ^ 40 + (s.egre e).count, len := len
    payload := payload, time := s.mtime, unarmed := unarmed
    rel := if (kind == 1 || (s.rf (sesE e 0)).testBit 22 || (s.part n).emitted.contains (item, e)) = true then
      some (s.part n).relNext else none
    born := s.time }

/-- The session counts the record and the partition is `x`. -/
def State.ledgerCounted (s : State) (n e : Nat) (x : Part) : State :=
  (s.setEgr e { s.egre e with count := (s.egre e).count + 1 }).setPart n x

/-- The counters of acceptance, with `high` the new high-water mark. -/
def State.ledgerMarked (s : State) (n high : Nat) : State := (s.bump (PLG_ACCEPTED_COUNT n)).wf (PLG_HIGH_WATER_RECORDS n) high

theorem State.ledgerPut_eq (n e kind item len payload : Nat) (u : Bool) : ∃ x high,
    (s.ledgerPut n e kind item len payload u = (s.ledgerCounted n e x).ledgerMarked n high ∨
      s.ledgerPut n e kind item len payload u = ((s.ledgerCounted n e x).ledgerMarked n high).irqPart n 19) ∧
      x.ledger = (s.part n).ledger ++ [s.ledgerRec n e kind item len payload u] := by
  unfold State.ledgerPut
  extract_lets x p now r s1 occ s2
  split
  · exact ⟨_, _, Or.inr rfl, rfl⟩
  · exact ⟨_, _, Or.inl rfl, rfl⟩

theorem State.ledgerPut_keeps {β : Type} (view : State → β) (hemit : ∀ u o, view (State.emit u o) = view u)
    (n e kind item len payload : Nat) (u : Bool) : ∃ x high,
    x.ledger = (s.part n).ledger ++ [s.ledgerRec n e kind item len payload u] ∧
      view (s.ledgerPut n e kind item len payload u) = view ((s.ledgerCounted n e x).ledgerMarked n high) := by
  obtain ⟨x, high, h | h, hx⟩ := s.ledgerPut_eq n e kind item len payload u
  · exact ⟨x, high, hx, by rw [h]⟩
  · exact ⟨x, high, hx, by rw [h, State.irqPart_keeps view hemit]⟩

section
variable (n e kind item len payload : Nat) (u : Bool)

theorem State.ledgerPut_ledger : ((s.ledgerPut n e kind item len payload u).part n).ledger =
    (s.part n).ledger ++ [s.ledgerRec n e kind item len payload u] := by
  obtain ⟨x, high, hx, h⟩ := s.ledgerPut_keeps (fun t => (t.part n).ledger) (fun _ _ => rfl) n e kind item len payload u
  rw [h, ← hx, State.ledgerMarked, State.wf_part, State.bump_part, State.ledgerCounted, State.part, State.setPart, sget_sset_self]

theorem State.ledgerPut_count : ((s.ledgerPut n e kind item len payload u).egre e).count = (s.egre e).count + 1 := by
  obtain ⟨x, high, -, h⟩ := s.ledgerPut_keeps (fun t => (t.egre e).count) (fun _ _ => rfl) n e kind item len payload u
  rw [h]
  show (sget {} (sset {} s.egr e _) e).count = _
  rw [sget_sset_self]

theorem State.ledgerPut_byte (a : Nat) : (s.ledgerPut n e kind item len payload u).byte a = s.byte a := by
  obtain ⟨x, high, -, h⟩ := s.ledgerPut_keeps (fun t => t.byte a) (fun _ _ => rfl) n e kind item len payload u
  rw [h]
  rfl

theorem State.ledgerCounted_rf (x : Part) (j : Fk) : (s.ledgerCounted n e x).rf j = s.rf j := rfl

theorem State.ledgerPut_accepted : (s.ledgerPut n e kind item len payload u).rf (PLG_ACCEPTED_COUNT n) =
    (s.rf (PLG_ACCEPTED_COUNT n) + 1) % 2 ^ (PLG_ACCEPTED_COUNT n).w := by
  obtain ⟨x, high, -, h⟩ := s.ledgerPut_keeps (fun t => t.rf (PLG_ACCEPTED_COUNT n)) (fun _ _ => rfl) n e kind item len payload u
  rw [h, State.ledgerMarked, State.rf_wf_ne _ _ (by simp only [Fk.key, PLG_ACCEPTED_COUNT, PLG_HIGH_WATER_RECORDS]; omega),
    State.rf_bump_self, State.ledgerCounted_rf]

theorem State.ledgerPut_regsKept :
    RegsKept s (s.ledgerPut n e kind item len payload u) [PLG_ACCEPTED_COUNT n, PLG_HIGH_WATER_RECORDS n] := by
  intro j hj
  have ha := hj _ (List.mem_cons_self ..)
  have hh := hj _ (List.mem_cons_of_mem _ (List.mem_cons_self ..))
  obtain ⟨x, high, -, h⟩ := s.ledgerPut_keeps (fun t => t.rf j) (fun _ _ => rfl) n e kind item len payload u
  rw [h, State.ledgerMarked, State.rf_wf_ne _ _ hh.symm, State.rf_bump_ne ha.symm, State.ledgerCounted_rf]

end

/-! ### The doorbell -/

theorem exec_ledgerSubmit {k : Packet} {rest : List Packet} {y : Nat} (hnet : s.net = k :: rest) (hl : k.loc = .west y)
    (hsp : gSpace k.dst = 2) (hm : gModule k.dst = s.modNum) (hv : k.via = none) (ho : gOff k.dst = 0x3110) (hty : k.ty = 0)
    (hlen : k.len = 8) (hr : s.routerLive (tileAt k.srcX k.srcY) = true) (hf : s.frozen = false)
    (hp : s.pageReady (partPage k.part 3) = true) :
    exec (.ledgerSubmit 0 .clean) s =
      .next ((s.popNet rest).plgSubmit k.part (tileAt k.srcX k.srcY) k.payload .clean) := by
  rw [show exec (.ledgerSubmit 0 .clean) s = execLedgerSubmit 0 .clean s from rfl, execLedgerSubmit, hnet]
  dsimp only [List.getElem?_cons_zero]
  rw [hl]
  dsimp only
  rw [if_pos ⟨hsp, hm, hv, ho, hty, hlen, hr, by simp [hf], hp⟩]
  rfl

/-- The doorbell of a clean record of the desk. -/
theorem plgSubmit_clean {n t v : Nat} (hal : bits v 0 16 % 64 = 0) (hin : bits v 0 16 + 64 * (bits v 16 2 + 1) ≤ 0xC000)
    (he : s.eccBad = []) : s.plgSubmit n t v .clean = s.updPart n fun p => { p with subs := p.subs ++
      [{ tile := t, units := bits v 16 2 + 1, rq := bits v 20 3, reply := v.testBit 23, bad := false
         data := s.rdMem (tkey t (bits v 0 16)) (64 * (bits v 16 2 + 1)) }] } := by
  have hb := State.hasBad_nil he (tkey t (bits v 0 16)) (64 * (bits v 16 2 + 1))
  rw [State.plgSubmit]
  dsimp only
  rw [if_pos ⟨hal, hin⟩, State.eccOf, hb, if_neg Bool.false_ne_true, State.wideRead_clean hb]
  rfl

/-! ### The check of a record -/

/-- The oldest doorbell has been taken. -/
def State.subTaken (s : State) (n now : Nat) (rest : List Sub) : State := (s.at now).updPart n fun p => { p with subs := rest }

section
variable {n now : Nat} {b : Sub} {rest : List Sub}

theorem exec_ledgerAccept (hs : (s.part n).subs = b :: rest) (hf : s.frozen = false) :
    exec (.ledgerAccept n now) s = .next ((s.subTaken n now rest).ledgerCheck n b) := by
  rw [show exec (.ledgerAccept n now) s = execLedgerAccept n now s from rfl, execLedgerAccept,
    show ((s.at now).part n).subs = b :: rest from hs]
  dsimp only
  rw [if_neg (by simp [hf])]
  rfl

theorem subTaken_rf (j : Fk) : (s.subTaken n now rest).rf j = s.rf j := rfl

theorem subTaken_egre (e : Nat) : (s.subTaken n now rest).egre e = s.egre e := rfl

theorem subTaken_part : (s.subTaken n now rest).part n = { s.part n with subs := rest } := by
  rw [State.subTaken, State.part_updPart_self]
  rfl

theorem subTaken_egValid (e : Nat) : (s.subTaken n now rest).egValid e = s.egValid e := by
  rw [State.egValid, subTaken_rf, State.egValid]

theorem subTaken_egPart (e : Nat) : (s.subTaken n now rest).egPart e = s.egPart e := by
  rw [State.egPart, subTaken_rf, State.egPart]

theorem subTaken_ledgerRoom (kind : Nat) : (s.subTaken n now rest).ledgerRoom n kind = s.ledgerRoom n kind := by
  rw [State.ledgerRoom, State.occupancy, subTaken_part, subTaken_rf, subTaken_rf, State.ledgerRoom, State.occupancy]

variable (hrep : b.reply = false)
include hrep

theorem ledgerCheck_malformed (h : b.ok = false) : s.ledgerCheck n b = s.bump (PLG_REFUSED_COUNT n) := by
  rw [State.ledgerCheck, hrep, if_neg Bool.false_ne_true, h]
  rfl

theorem ledgerCheck_session (hok : b.ok = true)
    (h : s.egValid (bits b.data 0 12) = false ∨ s.egPart (bits b.data 0 12) ≠ n) :
    s.ledgerCheck n b = s.bump (PLG_REFUSED_COUNT n) := by
  rw [State.ledgerCheck, hrep, if_neg Bool.false_ne_true, if_neg (by simp [hok]), if_pos (by simpa using h)]

variable (hok : b.ok = true) (hv : s.egValid (bits b.data 0 12) = true) (hpt : s.egPart (bits b.data 0 12) = n)
  (ht : ((s.part n).items.any fun i => i.num == bits b.data 32 32 && i.tainted) = false)
include hok hv hpt ht

theorem ledgerCheck_offer : s.ledgerCheck n b =
    (s.ledgerOffer n (bits b.data 0 12) 0 (bits b.data 32 32) (bits b.data 64 16)
      (bits b.data 128 (8 * bits b.data 64 16))).2 := by
  rw [State.ledgerCheck, hrep, if_neg Bool.false_ne_true, if_neg (by simp [hok]), if_neg (by simp [hv, hpt]), ht]
  rfl

theorem ledgerCheck_full (hroom : s.ledgerRoom n 0 = false) : s.ledgerCheck n b = s.bump (PLG_REFUSED_COUNT n) := by
  rw [ledgerCheck_offer hrep hok hv hpt ht, State.ledgerOffer, if_pos (by simp [hroom])]

theorem ledgerCheck_accepted (hroom : s.ledgerRoom n 0 = true) (ha : s.rb PWR_STATUS_ARMED = true) :
    s.ledgerCheck n b = s.ledgerPut n (bits b.data 0 12) 0 (bits b.data 32 32) (bits b.data 64 16)
      (bits b.data 128 (8 * bits b.data 64 16)) false := by
  rw [ledgerCheck_offer hrep hok hv hpt ht, State.ledgerOffer, if_neg (by simp [hroom]), if_neg (by simp [ha]), ha]
  rfl

end

end

/-- Settles O44. -/
theorem ledgerRecords : Obligations.LedgerRecords := by
  unfold Obligations.LedgerRecords
  refine ⟨?_, ?_⟩
  · intro s k rest y hnet hl hsp hm hv ho hty hlen hr hf hp he t addr units hal hin
    have hrun := exec_ledgerSubmit hnet hl hsp hm hv ho hty hlen hr hf hp
    rw [plgSubmit_clean (s := s.popNet rest) hal hin he, State.popNet_rdMem] at hrun
    refine ⟨_, _, hrun, State.updPart_net .., by rw [State.part_updPart_self]; rfl, rfl, rfl, rfl, ?_, fun _ => rfl, fun _ _ => rfl⟩
    dsimp only [units, addr, t]
  · intro s n now b rest hn hs hf hrep s1 e
    have hrun := exec_ledgerAccept (now := now) hs hf
    refine ⟨fun h => ?_, fun hok hv hpt hroom ht => ?_, fun hok hv hpt hroom ha ht => ?_⟩
    · rw [hrun]
      by_cases hok : b.ok = true
      · rw [ledgerCheck_session hrep hok]
        · rfl
        · rw [subTaken_egValid, subTaken_egPart]
          exact h.resolve_left (by simp [hok])
      · rw [ledgerCheck_malformed hrep (by simpa using hok)]
        rfl
    · rw [hrun, ledgerCheck_full hrep hok ((subTaken_egValid _).trans hv) ((subTaken_egPart _).trans hpt)
        (by rw [subTaken_part]; exact ht) ((subTaken_ledgerRoom 0).trans hroom)]
      rfl
    · have hput := ledgerCheck_accepted (s := s.subTaken n now rest) (n := n) hrep hok ((subTaken_egValid _).trans hv)
        ((subTaken_egPart _).trans hpt) (by rw [subTaken_part]; exact ht) ((subTaken_ledgerRoom 0).trans hroom) ha
      refine ⟨_, _, hrun, by rw [hput, State.ledgerPut_ledger, subTaken_part], rfl, rfl, rfl, rfl, rfl, rfl, rfl, ?_, ?_, ?_, ?_⟩
      · rw [hput, State.ledgerPut_count, subTaken_egre]
      · intro a
        rw [hput, State.ledgerPut_byte]
        rfl
      · rw [hput, State.ledgerPut_accepted, subTaken_rf]
      · intro j hj
        rw [hput, State.ledgerPut_regsKept n _ _ _ _ _ _ j hj, subTaken_rf]

end Sys2Proof.Machine

/-! PROOF. Sending, retransmission and acknowledgement of records; shapers and pool. -/

namespace Sys2Proof.Machine

section
variable {s : State} {e n : Nat}

/-! ### The refill -/

/-- The refill touches buckets and its own time alone. -/
theorem State.refillShapers_keeps {β : Type} (view : State → β) (hegr : ∀ u e f, view (State.updEgr u e f) = view u)
    (hat : ∀ (u : State) a, view { u with shaperAt := a } = view u) : view s.refillShapers = view s := by
  rw [State.refillShapers]
  split
  · rfl
  · rw [State.forEach, foldl_keeps view (fun u i => hegr u i _), hat]

theorem State.refillShapers_rf (j : Fk) : s.refillShapers.rf j = s.rf j :=
  State.refillShapers_keeps (fun u => u.rf j) (fun _ _ _ => rfl) fun _ _ => rfl

theorem State.refillShapers_byte (a : Nat) : s.refillShapers.byte a = s.byte a :=
  State.refillShapers_keeps (fun u => u.byte a) (fun _ _ _ => rfl) fun _ _ => rfl

theorem State.refillShapers_out : s.refillShapers.out = s.out :=
  State.refillShapers_keeps (fun u => u.out) (fun _ _ _ => rfl) fun _ _ => rfl

theorem State.refillShapers_egRate : s.refillShapers.egRate e = s.egRate e := by
  rw [State.egRate, State.refillShapers_rf, State.egRate]

theorem State.refillShapers_egBurst : s.refillShapers.egBurst e = s.egBurst e := by
  rw [State.egBurst, State.refillShapers_rf, State.egBurst]

/-- The refill of a module with one shaped session. -/
theorem refillShapers_one (h : s.shaped = [e]) : s.refillShapers =
    let k := (s.time - s.shaperAt) / 1000
    if k = 0 then s
    else ({ s with shaperAt := s.shaperAt + 1000 * k } : State).updEgr e fun x =>
      { x with tokens := min (x.tokens + (k * (s.egRate e * 65536 / 1000000) : Nat)) (s.egBurst e * 65536 : Nat) } := by
  rw [State.refillShapers, h]
  rfl

/-! ### Sending -/

theorem exec_ldpSend (now : Nat) : exec (.ldpSend e now) s = .next ((s.at now).ldpSend e) := rfl

theorem ldpSend_shut (ho : s.refillShapers.ldpOpen e = false) : s.ldpSend e = s.refillShapers := by
  rw [State.ldpSend,
    if_pos (by simp [ho])]

theorem ldpSend_picked {r : Rec} (ho : s.refillShapers.ldpOpen e = true) (hp : s.refillShapers.ldpPick e = some (n, r)) :
    s.ldpSend e = match s.refillShapers.egMac e with
      | none => s.refillShapers.askHop e
      | some mac => s.refillShapers.ldpOut e mac n r := by
  rw [State.ldpSend,
    if_neg (by simp [ho]), hp]
  cases s.refillShapers.egMac e <;> rfl

/-- One datagram has gone to the next hop `mac`. -/
theorem State.ldpOut_out (mac : Nat) (r : Rec) : (s.ldpOut e mac n r).out =
    Outp.ldp e mac (36 + r.len) (r.datagram (bits (s.rf (sesE e 0)) 32 32) (decide (0 < r.sends) || r.again)) :: s.out := rfl

theorem State.ldpOut_byte (mac : Nat) (r : Rec) (a : Nat) : (s.ldpOut e mac n r).byte a = s.byte a := rfl

theorem State.ldpOut_tokens (mac : Nat) (r : Rec) : ((s.ldpOut e mac n r).egre e).tokens =
    if s.egRate e = 0 then (s.egre e).tokens else (s.egre e).tokens - ((36 + r.len) * 65536 : Nat) := by
  show (sget {} (sset {} s.egr e _) e).tokens = _
  rw [sget_sset_self]
  rfl

theorem State.ldpOut_regsKept (mac : Nat) (r : Rec) : RegsKept s (s.ldpOut e mac n r) [PRT_TX_FRAMES_COUNT (s.egPort e)] :=
  fun _ hj => State.rf_bump_ne (hj _ (List.mem_singleton_self _)).symm

/-! ### Retransmission, acknowledgement, silence -/

theorem exec_ldpRetransmit {now seq : Nat} {r : Rec}
    (hf : (((s.at now).recsOf e).find? fun x => x.2.seq == seq && decide (0 < x.2.sends) && !x.2.again) = some (n, r))
    (hd : r.lastSend + r.rto * 1000 ≤ (s.at now).time) :
    exec (.ldpRetransmitTimeout e seq now) s = .next (((s.at now).updRec n e seq fun r =>
      { r with again := true, rto := min (2 * r.rto) (max r.rto (bits ((s.at now).rf (sesE e 4)) 32 32)) }).ldpSend e) := by
  rw [show exec (.ldpRetransmitTimeout e seq now) s = execLdpRetransmitTimeout e seq now s from rfl, execLdpRetransmitTimeout,
    hf]
  dsimp only
  rw [if_neg (by omega)]

theorem exec_ldpAck {port ip a b len data : Nat} (hf : s.rb MOD_STATUS_BACKUP_ACTIVE = false)
    (hu : s.rb (PRT_STATUS_LINK_UP port) = true) : exec (.ldpAck e port ip a b len data) s = .next
      (if s.ackOk e port ip a b len data = true then
        (List.range (bits data 64 16)).foldl (fun s i => s.ackSeq e (bits data (128 + 64 * i) 64))
          (s.updEgr e fun x => { x with silent := false })
      else s.updEgr e fun x => { x with bads := x.bads + 1 }) := by
  rw [show exec (.ldpAck e port ip a b len data) s = execLdpAck e port ip a b len data s from rfl, execLdpAck,
    if_neg (by simp [hf, hu])]

theorem ackSeq_ledger {seq : Nat} {r : Rec} (h : ((s.recsOf e).find? fun x => x.2.seq == seq) = some (n, r)) :
    ((s.ackSeq e seq).part n).ledger = (s.part n).ledger.filter fun q => !(q.eses == e && q.seq == seq) := by
  rw [State.ackSeq, h]
  dsimp only
  rw [State.updEgr, State.setEgr_part, State.bump_part, State.part_updPart_self]

theorem ackSeq_acked {seq : Nat} {r : Rec} (h : ((s.recsOf e).find? fun x => x.2.seq == seq) = some (n, r)) :
    ((s.ackSeq e seq).egre e).acked = (s.egre e).acked + 1 := by
  rw [State.ackSeq, h]
  show (sget {} (sset {} s.egr e _) e).acked = _
  rw [sget_sset_self]
  rfl

theorem exec_partnerSilent {now : Nat} (hv : (s.at now).egValid e = true) (hl : bits ((s.at now).rf (sesE e 5)) 0 32 ≠ 0)
    (hs : ((s.at now).egre e).silent = false)
    (ho : (((s.at now).recsOf e).any fun x =>
      decide (x.2.born + bits ((s.at now).rf (sesE e 5)) 0 32 * 1000000 < (s.at now).time)) = true) :
    exec (.partnerSilent e now) s =
      .next (((s.at now).updEgr e fun x => { x with silent := true }).raise 0x4006 (partPage ((s.at now).egPart e) 3)) := by
  rw [show exec (.partnerSilent e now) s = execPartnerSilent e now s from rfl, execPartnerSilent,
    if_pos (by rw [hv, hs, ho]; simpa using hl)]

/-! ### Rates, bursts, debts -/

theorem exec_shaperRate {v : BitVec 64} (he : e < 4096) (hw : s.pf0Writes 0 = true) (hr : s.pageReady pgSES = true) :
    exec (.shaperRateWrite 0 e v) s = .next (s.rateWrite e v.toNat) := by
  rw [show exec (.shaperRateWrite 0 e v) s = execShaperRateWrite 0 e v s from rfl, execShaperRateWrite, if_pos ⟨hw, he, hr⟩]

theorem rateWrite_refused {v : Nat} (hv : v % 2 ^ 40 ≠ 0) (hb : s.egBurst e = 0) :
    s.rateWrite e v = s.refillShapers.shaperRefuse e :=
  if_pos ⟨hv, State.refillShapers_egBurst.trans hb⟩

theorem rateWrite_taken {v : Nat} (h : v % 2 ^ 40 = 0 ∨ s.egBurst e ≠ 0) :
    s.rateWrite e v = s.refillShapers.wf (sesE e 6) (v % 2 ^ 40) :=
  if_neg (by rw [State.refillShapers_egBurst]; tauto)

theorem exec_shaperBurst {v : BitVec 64} (he : e < 4096) (hw : s.pf0Writes 0 = true) (hr : s.pageReady pgSES = true) :
    exec (.shaperBurstWrite 0 e v) s = .next (s.burstWrite e v.toNat) := by
  rw [show exec (.shaperBurstWrite 0 e v) s = execShaperBurstWrite 0 e v s from rfl, execShaperBurstWrite, if_pos ⟨hw, he, hr⟩]

theorem burstWrite_refused {v : Nat} (hv : v % 2 ^ 24 = 0) (hb : s.egRate e ≠ 0) :
    s.burstWrite e v = s.refillShapers.shaperRefuse e :=
  if_pos ⟨hv, by rwa [State.refillShapers_egRate]⟩

/-- The burst is `b`, and positive tokens are clipped to it. -/
def State.burstSet (s : State) (e b : Nat) : State :=
  (s.wf (sesE e 7) b).updEgr e fun x => { x with tokens := if 0 < x.tokens then min x.tokens (b * 65536 : Nat) else x.tokens }

theorem burstWrite_taken {v : Nat} (h : v % 2 ^ 24 ≠ 0 ∨ s.egRate e = 0) :
    s.burstWrite e v = s.refillShapers.burstSet e (v % 2 ^ 24) :=
  if_neg (by rw [State.refillShapers_egRate]; tauto)

theorem burstSet_tokens (b : Nat) : ((s.burstSet e b).egre e).tokens =
    if 0 < (s.egre e).tokens then min (s.egre e).tokens (b * 65536 : Nat) else (s.egre e).tokens := by
  show (sget {} (sset {} s.egr e _) e).tokens = _
  rw [sget_sset_self]
  rfl

theorem burstSet_burst {b : Nat} (hb : b < 2 ^ 24) : (s.burstSet e b).rf (sesE e 7) = b := by
  rw [State.burstSet, State.updEgr, State.setEgr_rf, State.rf_wf_self]
  exact Nat.mod_eq_of_lt (hb.trans (by simp [sesE]))

theorem burstSet_regsKept (b : Nat) : RegsKept s (s.burstSet e b) [sesE e 7] :=
  fun _ hj => State.rf_wf_ne _ _ (hj _ (List.mem_singleton_self _)).symm

/-! ### Pool and capacities -/

theorem exec_ledgerPool {v : BitVec 64} (hw : s.pf0Writes 0 = true) (hr : s.pageReady pgLDG = true) (hq : s.allQuiet = true)
    (hp : bits v.toNat 18 8 ≤ 128) (hg : s.givenSlots ≤ bits v.toNat 18 8 * 8192)
    (hk : s.keepMost (bits v.toNat 18 8) 16 s.rf ≤ 48 * 2 ^ 30) :
    exec (.ledgerPoolWrite 0 v) s =
      .next (s.wfs [(LDG_POOL_BASE, bits v.toNat 0 18), (LDG_POOL_PAGES, bits v.toNat 18 8)]) := by
  have hall : ((List.range 16).all fun n => s.rf (PLG_CAPACITY_RECORDS n) == 0 || s.quietPart n) = true :=
    List.all_eq_true.mpr fun n hn => by rw [List.all_eq_true.mp hq n hn, Bool.or_true]
  rw [show exec (.ledgerPoolWrite 0 v) s = execLedgerPoolWrite 0 v s from rfl, execLedgerPoolWrite, if_pos ⟨hw, hr⟩,
    State.poolWrite,
    if_pos ⟨hall, hp, hg, hk⟩]

theorem exec_ledgerCapacity {f : Nat} {v : BitVec 64} (hw : s.writes f n = true) (hr : s.pageReady (partPage n 3) = true) :
    exec (.ledgerCapacityWrite f n v) s = .next (s.capacityWrite n v.toNat) := by
  rw [show exec (.ledgerCapacityWrite f n v) s = execLedgerCapacityWrite f n v s from rfl, execLedgerCapacityWrite,
    if_pos (by simp [hw, hr])]

end

/-- Settles O45. -/
theorem ldpAndShapers : Obligations.LdpAndShapers := by
  unfold Obligations.LdpAndShapers
  refine ⟨fun s e now n r ho hp => ⟨fun mac hm => ?_, fun hm => ?_⟩, fun s e now ho => ?_,
    fun s e seq now n r hf hd => exec_ldpRetransmit hf hd, fun s e port ip a b len data hf hu => ⟨fun hbad => ?_, fun hok h1 => ?_⟩,
    fun s e seq n r hn h => ⟨ackSeq_ledger h, ackSeq_acked h⟩,
    fun s e now hv hl hs ho => exec_partnerSilent hv hl hs ho,
    fun s e now hsh => ?_, fun s e v he hw hr => ⟨fun hv hb => ?_, fun h => ?_, fun hv hb => ?_, fun h => ?_, ?_⟩,
    fun s v hw hr hq hp hg hk => exec_ledgerPool hw hr hq hp hg hk,
    fun s f n v hw hr => ⟨fun hq hroom => ?_, fun hq => ?_⟩⟩
  · have hsend : (s.at now).ldpSend e = (s.at now).refillShapers.ldpOut e mac n r := by rw [ldpSend_picked ho hp, hm]
    have hrf : ∀ j, (s.at now).refillShapers.rf j = s.rf j := fun j => State.refillShapers_rf j
    have hrate : (s.at now).refillShapers.egRate e = s.egRate e := State.refillShapers_egRate
    have hport : (s.at now).refillShapers.egPort e = s.egPort e := by rw [State.egPort, hrf, State.egPort]
    refine ⟨_, exec_ldpSend now, ?_, fun hr => ?_, fun hr => ?_, ?_, ?_⟩ <;> rw [hsend]
    · rw [State.ldpOut_out, hrf, State.refillShapers_out]
      rfl
    · rw [State.ldpOut_tokens, hrate, if_neg hr]
    · rw [State.ldpOut_tokens, hrate, if_pos hr]
    · exact fun a => (State.ldpOut_byte mac r a).trans (State.refillShapers_byte a)
    · intro j hj
      rw [State.ldpOut_regsKept mac r j (by rwa [hport]), hrf]
  · rw [exec_ldpSend, ldpSend_picked ho hp, hm]
  · rw [exec_ldpSend, ldpSend_shut ho]
  · rw [exec_ldpAck hf hu, if_neg (by simp [hbad])]
  · rw [exec_ldpAck hf hu, if_pos hok, h1]
    rfl
  · have hrun : exec (.shaperRefill now) s = .next (s.at now).refillShapers := rfl
    rw [hrun, refillShapers_one (show (s.at now).shaped = [e] from hsh)]
    exact ⟨fun h => by rw [if_pos h], fun h => by rw [if_neg h]; rfl⟩
  · rw [exec_shaperRate he hw hr, rateWrite_refused hv hb]
    rfl
  · rw [exec_shaperRate he hw hr, rateWrite_taken h]
  · rw [exec_shaperBurst he hw hr, burstWrite_refused hv hb]
    rfl
  · refine ⟨_, exec_shaperBurst he hw hr, ?_⟩
    rw [burstWrite_taken h]
    exact ⟨burstSet_burst (Nat.mod_lt _ (by decide)), burstSet_tokens _,
      fun j hj => (burstSet_regsKept _ j hj).trans (State.refillShapers_rf j), State.refillShapers_byte⟩
  · rw [show exec (.forgive 0 v) s = execForgive 0 v s from rfl, execForgive, if_pos ⟨hw, hr⟩]
    rfl
  · rw [exec_ledgerCapacity hw hr, State.capacityWrite]
    exact congrArg _ (if_pos ⟨hq, hroom⟩)
  · rw [exec_ledgerCapacity hw hr, State.capacityWrite]
    exact congrArg _ (if_neg (by simp [hq]))

end Sys2Proof.Machine

/-! PROOF. Staged writes, COMMIT, DISCARD and the apply of a seam group. -/

namespace Sys2Proof.Machine

/-! ### Pages of a partition -/

/-- The kinds of the pages of a partition, in order. -/
def partKind : Nat → Option PageKind
  | 0 => some .part
  | 1 => some .pq
  | 2 => some .ptt
  | 3 => some .plg
  | 4 => some .psw
  | 5 => some .pstl
  | 6 => some .pstr
  | 7 => some .pept
  | 8 => some .pks
  | 9 => some .pflt
  | _ => none

theorem pageAt_partPage {n i rel : Nat} (hn : n < 16) (hi : i < 16) (hr : rel < 0x1000) :
    pageAt (partPage n i + rel) = (partKind i).map fun kd => (kd, n, rel) := by
  have hoff : partPage n i + rel = 0x300000 + n * 0x10000 + i * 0x1000 + rel := rfl
  have hrel : (partPage n i + rel) % 0x1000 = rel := by omega
  have hpart : (partPage n i + rel - 0x300000) / 0x10000 = n := by omega
  have hpage : (partPage n i + rel - 0x300000) / 0x1000 % 16 = i := by omega
  rw [pageAt]
  dsimp only
  rw [if_neg (by omega), if_neg (by omega), if_neg (by omega), if_neg (by omega), if_neg (by omega), if_neg (by omega),
    if_neg (by omega), if_neg (by omega), if_pos (by omega), hpage, hpart, hrel]
  interval_cases i <;> rfl

theorem pageReady_partPage {s : State} {n i rel : Nat} (hn : n < 16) (hi : i < 10) (hr : rel < 0x1000) :
    s.pageReady (partPage n i + rel) = s.rb (hSTATUS_READY (partPage n i)) := by
  have hbase : pageBase (partPage n i + rel) = partPage n i := by
    rw [pageBase, show partPage n i = 0x300000 + n * 0x10000 + i * 0x1000 from rfl]
    omega
  rw [State.pageReady, pageAt_partPage hn (by omega) hr, hbase]
  interval_cases i <;> rfl

theorem pageReady_partPage_base {s : State} {n i : Nat} (hn : n < 16) (hi : i < 10) (hr : s.pageReady (partPage n i) = true) :
    s.rb (hSTATUS_READY (partPage n i)) = true :=
  (pageReady_partPage (rel := 0) hn hi (by decide)).symm.trans hr

section
variable {s : State} {n : Nat}

/-! ### Shadows -/

theorem State.sh_wsh_self (k : Fk) (v : Nat) : (s.wsh k v).sh k = v % 2 ^ k.w := by
  rw [State.sh, State.wsh_rf, State.wsh]
  dsimp only
  split
  · rw [sget?_sins, if_pos rfl]
    rfl
  · exact sget_sset_self (s.rf k) s.shd k.key _

theorem State.sh_wsh_ne {k j : Fk} (v : Nat) (h : j.key ≠ k.key) : (s.wsh k v).sh j = s.sh j := by
  rw [State.sh, State.wsh_rf, State.wsh, State.sh]
  dsimp only
  split
  · rw [sget?_sins, if_neg h]
  · rw [sset]
    split
    · rw [sget?_sdel, if_neg h]
    · rw [sget?_sins, if_neg h]

/-- A staged field of a word written whole. -/
theorem writeField_staged (off v : Nat) {f : RegField} (ha : f.acc = .rws) (hs : f.staged = true) (hw : f.lo + f.w ≤ 64) :
    s.writeField off v whole f = s.wsh ⟨off, f.lo, f.w⟩ (bits v f.lo f.w) := by
  have hones : bits whole f.lo f.w = 2 ^ f.w - 1 := by
    refine Nat.eq_of_testBit_eq fun i => ?_
    rw [bits, whole, Nat.testBit_mod_two_pow, Nat.testBit_div_two_pow, Nat.testBit_two_pow_sub_one, Nat.testBit_two_pow_sub_one]
    by_cases hi : i < f.w
    · simp [hi, show i + f.lo < 64 by omega]
    · simp [hi]
  rw [State.writeField]
  dsimp only
  rw [ha, hs, hones]
  dsimp only
  rw [if_pos rfl, if_pos rfl, Nat.xor_self, Nat.and_zero, Nat.zero_or, Nat.and_two_pow_sub_one_eq_mod, bits, Nat.mod_mod]

/-! ### A staged write of the host -/

theorem exec_stagedFieldWrite {off : Nat} {v : BitVec 64} (ho : off < 0x400000) (hst : stagedAt off = true) (hal : off % 8 = 0)
    (hb : s.barUp 0 = true) (hf : s.frozen = false) :
    exec (.stagedFieldWrite 0 off v) s = .next (s.regWrite .pf0 off v.toNat) := by
  have hspot : spotOf 0 off = .reg off := by rw [spotOf, if_pos rfl, if_pos ho]
  rw [show exec (.stagedFieldWrite 0 off v) s = execStagedFieldWrite 0 off v s from rfl, execStagedFieldWrite, hspot]
  dsimp only
  rw [if_pos hst, State.hostWrite, hspot]
  dsimp only
  rw [if_neg (by simp [hb, hal]), if_neg (by simp [hf])]
  rfl

theorem regWrite_partPage {i rel v : Nat} {kd : PageKind} (hn : n < 16) (hi : i < 10) (hlo : 0x100 ≤ rel) (hhi : rel < 0x1000)
    (hk : partKind i = some kd) (hr : s.pageReady (partPage n i) = true) :
    s.regWrite .pf0 (partPage n i + rel) v = s.blockWrite .pf0 kd n rel v := by
  rw [State.regWrite, pageAt_partPage hn (by omega) hhi, hk]
  dsimp only [Option.map_some]
  rw [if_neg (by omega), if_neg (by rw [pageReady_partPage hn hi hhi, pageReady_partPage_base hn hi hr]; decide)]

/-- A word of the timetable entry that PTT.SEL names. -/
theorem exec_stagedEntry {w : Nat} {v : BitVec 64} (hn : n < 16) (hw : w < 4) (hb : s.barUp 0 = true) (hf : s.frozen = false)
    (hr : s.pageReady (partPage n 2) = true) : exec (.stagedFieldWrite 0 (partPage n 2 + 0x108 + 8 * w) v) s =
      .next (s.wsh (pttWord n (s.rf (PTT_SEL_ENTRY n)) w) (v.toNat &&& pttMask w)) := by
  have hoff : partPage n 2 + 0x108 + 8 * w = partPage n 2 + (0x108 + 8 * w) := Nat.add_assoc ..
  have hpage : partPage n 2 = 0x300000 + n * 0x10000 + 2 * 0x1000 := rfl
  have hst : stagedAt (partPage n 2 + (0x108 + 8 * w)) = true := by
    rw [stagedAt, pageAt_partPage hn (by decide) (by omega), show partKind 2 = some .ptt from rfl, Option.map_some]
    dsimp only
    rw [Bool.or_eq_true, Bool.or_eq_true]
    exact Or.inl (Or.inr (by simp; omega))
  rw [hoff, exec_stagedFieldWrite (by omega) hst (by omega) hb hf,
    regWrite_partPage (kd := .ptt) hn (by decide) (by omega) (by omega) rfl hr, State.blockWrite, State.cfgWord,
    if_neg (by omega), if_neg (by rw [pageReady_partPage hn (by decide) (by omega), pageReady_partPage_base hn (by decide) hr]; decide),
    if_pos (by omega), State.pttEntryWrite, show (0x108 + 8 * w - 0x108) / 8 = w by omega, whole, Nat.xor_self, Nat.and_zero,
    Nat.zero_or, Nat.and_two_pow_sub_one_eq_mod, Nat.mod_eq_of_lt v.isLt]

/-- The four fields of PART.GEOM. -/
def State.geomStaged (s : State) (n v : Nat) : State :=
  (((s.wsh (PART_GEOM_X0 n) (bits v 0 3)).wsh (PART_GEOM_Y0 n) (bits v 4 3)).wsh (PART_GEOM_W n) (bits v 8 4)).wsh
    (PART_GEOM_H n) (bits v 12 4)

theorem fieldsAt_geom (hn : n < 16) : fieldsAt (partPage n 0 + 0x110) =
    [⟨0x110, [], 0, 3, .rws, true, 0⟩, ⟨0x110, [], 4, 3, .rws, true, 0⟩, ⟨0x110, [], 8, 4, .rws, true, 0⟩,
      ⟨0x110, [], 12, 4, .rws, true, 0⟩] := by
  rw [fieldsAt, pageAt_partPage hn (by decide) (by decide)]
  rfl

theorem exec_stagedGeom {v : BitVec 64} (hn : n < 16) (hb : s.barUp 0 = true) (hf : s.frozen = false)
    (hr : s.pageReady (partPage n 0) = true) :
    exec (.stagedFieldWrite 0 (partPage n 0 + 0x110) v) s = .next (s.geomStaged n v.toNat) := by
  have hpage : partPage n 0 = 0x300000 + n * 0x10000 + 0 * 0x1000 := rfl
  have hst : stagedAt (partPage n 0 + 0x110) = true := by
    rw [stagedAt, pageAt_partPage hn (by decide) (by decide), fieldsAt_geom hn]
    rfl
  rw [exec_stagedFieldWrite (by omega) hst (by omega) hb hf,
    regWrite_partPage (kd := .part) hn (by decide) (by decide) (by decide) rfl hr, State.blockWrite, State.partWord,
    if_neg (by decide), if_neg (by decide), State.writeWord, fieldsAt_geom hn, List.foldl_cons, List.foldl_cons, List.foldl_cons,
    List.foldl_cons, List.foldl_nil, writeField_staged _ _ rfl rfl (by decide), writeField_staged _ _ rfl rfl (by decide),
    writeField_staged _ _ rfl rfl (by decide), writeField_staged _ _ rfl rfl (by decide)]
  rfl

theorem geomStaged_sh (v : Nat) : (s.geomStaged n v).sh (PART_GEOM_X0 n) = bits v 0 3 ∧
    (s.geomStaged n v).sh (PART_GEOM_Y0 n) = bits v 4 3 ∧ (s.geomStaged n v).sh (PART_GEOM_W n) = bits v 8 4 ∧
    (s.geomStaged n v).sh (PART_GEOM_H n) = bits v 12 4 := by
  have hx : (PART_GEOM_X0 n).key = (partPage n 0 + 0x110) * 64 := by rw [Fk.key, PART_GEOM_X0, Nat.add_zero]
  have hy : (PART_GEOM_Y0 n).key = (partPage n 0 + 0x110) * 64 + 4 := by rw [Fk.key, PART_GEOM_Y0]
  have hw : (PART_GEOM_W n).key = (partPage n 0 + 0x110) * 64 + 8 := by rw [Fk.key, PART_GEOM_W]
  have hh : (PART_GEOM_H n).key = (partPage n 0 + 0x110) * 64 + 12 := by rw [Fk.key, PART_GEOM_H]
  refine ⟨?_, ?_, ?_, ?_⟩
  · rw [State.geomStaged, State.sh_wsh_ne _ (by omega), State.sh_wsh_ne _ (by omega),
      State.sh_wsh_ne _ (by omega), State.sh_wsh_self]
    exact Nat.mod_mod _ _
  · rw [State.geomStaged, State.sh_wsh_ne _ (by omega), State.sh_wsh_ne _ (by omega),
      State.sh_wsh_self]
    exact Nat.mod_mod _ _
  · rw [State.geomStaged, State.sh_wsh_ne _ (by omega), State.sh_wsh_self]
    exact Nat.mod_mod _ _
  · rw [State.geomStaged, State.sh_wsh_self]
    exact Nat.mod_mod _ _

theorem exec_stagedSession {off : Nat} {v : BitVec 64} (hin : inSessions off = true) (hra : sessionRate off = false)
    (hal : off % 8 = 0) (hb : s.barUp 0 = true) (hf : s.frozen = false) (hr : s.pageReady pgSES = true) :
    exec (.stagedFieldWrite 0 off v) s = .next (s.wsh ⟨off, 0, 64⟩ (v.toNat &&& sessionMask off)) := by
  have hrange : 0x101000 ≤ off ∧ off < 0x181000 := by simpa [inSessions] using hin
  have hpage : pageAt off = none := by
    rw [pageAt]
    dsimp only
    rw [if_neg (by omega), if_neg (by omega), if_neg (by omega), if_neg (by omega), if_neg (by omega), if_neg (by omega),
      if_pos (by omega)]
  have hst : stagedAt off = true := by
    rw [stagedAt, hpage]
    dsimp only
    rw [hin, hra]
    rfl
  rw [exec_stagedFieldWrite (by omega) hst hal hb hf, State.regWrite, hpage]
  dsimp only
  rw [if_pos hin, State.sessionWrite, if_neg (by simp [hr]), if_neg (by simp [hra])]

/-! ### DISCARD -/

/-- Ranges cleared one after another leave nothing of any of them. -/
theorem clearRanges_shd (l : List (Nat × Nat)) : ∀ s : State,
    (l.foldl (fun (s : State) r => { s with shd := sclear s.shd r.1 r.2 }) s).shd =
      s.shd.filter fun x => l.all fun r => decide (x.1 < r.1) || decide (r.2 ≤ x.1) := by
  induction l with
  | nil => intro s; simp
  | cons r l ih =>
    intro s
    rw [List.foldl_cons, ih, sclear, List.filter_filter]
    simp only [List.all_cons, Bool.and_comm]

theorem dropShadows_shadows (pg : Nat) : (s.dropShadows pg).shadows pg = [] := by
  rw [State.shadows, State.dropShadows, clearRanges_shd, List.flatMap_eq_nil_iff]
  intro r hr
  rw [srange, List.filter_filter, List.filter_eq_nil_iff]
  intro x _ hx
  simp only [Bool.and_eq_true, decide_eq_true_eq, List.all_eq_true, Bool.or_eq_true] at hx
  have := hx.2 r hr
  omega

theorem State.dropShadows_rf (pg : Nat) (j : Fk) : (s.dropShadows pg).rf j = s.rf j := by
  rw [State.dropShadows]
  refine foldl_keeps (fun u : State => u.rf j) ?_ _ _
  exact fun _ _ => rfl

theorem State.dropShadows_byte (pg a : Nat) : (s.dropShadows pg).byte a = s.byte a := by
  rw [State.dropShadows]
  refine foldl_keeps (fun u : State => u.byte a) ?_ _ _
  exact fun _ _ => rfl

/-- The page is disarmed and has no shadow of its own. -/
def State.discarded (s : State) (pg : Nat) : State := (s.dropShadows pg).wf (hSTAGE_ARMED pg) 0

theorem discarded_armed (pg : Nat) : (s.discarded pg).armed pg = false := by
  rw [State.armed, State.rb, State.discarded, State.rf_wf_self]
  rfl

/-- GROUP of an unarmed page is written, and PART where the page has it. -/
def State.groupWritten (s : State) (pg v : Nat) : State :=
  let g := s.wf (hSTAGE_GROUP pg) (bits v 0 4)
  match pageAt pg with
  | some (kd, _, _) => if isPartPage kd then g else g.wf (hSTAGE_PART pg) (bits v 4 4)
  | none => g

theorem merge_group (old : Nat) {v lo : Nat} (hlo : lo + 4 ≤ 64) :
    (old &&& (bits (2 ^ 64 - 1) lo 4 ^^^ 15)) ||| bits v lo 4 = bits v lo 4 := by
  have hones : bits (2 ^ 64 - 1) lo 4 = 15 := by
    refine Nat.eq_of_testBit_eq fun i => ?_
    rw [bits, Nat.testBit_mod_two_pow, Nat.testBit_div_two_pow, Nat.testBit_two_pow_sub_one,
      show (15 : Nat) = 2 ^ 4 - 1 from rfl, Nat.testBit_two_pow_sub_one]
    by_cases hi : i < 4
    · simp [hi, show i + lo < 64 by omega]
    · simp [hi]
  rw [hones, Nat.xor_self, Nat.and_zero, Nat.zero_or]

/-- A write of the whole of STAGE_CTRL. -/
theorem stageCtrl_whole (pg : Nat) (v : BitVec 64) : s.stageCtrl pg v.toNat (2 ^ 64 - 1) =
    let s1 := if v.toNat.testBit 9 then s.discard pg else s
    let s2 := if s1.armed pg then s1 else s1.groupWritten pg v.toNat
    if v.toNat.testBit 8 then s2.commit pg else s2 := by
  have hv : v.toNat &&& (2 ^ 64 - 1) = v.toNat := by rw [Nat.and_two_pow_sub_one_eq_mod, Nat.mod_eq_of_lt v.isLt]
  rw [State.stageCtrl, hv]
  simp only [merge_group _ (show 0 + 4 ≤ 64 by decide), merge_group _ (show 4 + 4 ≤ 64 by decide)]
  rfl

/-- What a write of GROUP and PART leaves. -/
theorem groupWritten_keeps {β : Type} (view : State → β) (pg v : Nat)
    (hg : ∀ u x, view (State.wf u (hSTAGE_GROUP pg) x) = view u) (hp : ∀ u x, view (State.wf u (hSTAGE_PART pg) x) = view u) :
    view (s.groupWritten pg v) = view s := by
  rw [State.groupWritten]
  split
  · split
    · rw [hg]
    · rw [hp, hg]
  · rw [hg]

theorem groupWritten_group (pg v : Nat) : (s.groupWritten pg v).rf (hSTAGE_GROUP pg) = bits v 0 4 := by
  have hne : (hSTAGE_GROUP pg).key ≠ (hSTAGE_PART pg).key := by
    simp only [Fk.key, hSTAGE_GROUP, hSTAGE_PART]
    omega
  have hg : (s.wf (hSTAGE_GROUP pg) (bits v 0 4)).rf (hSTAGE_GROUP pg) = bits v 0 4 := by
    rw [State.rf_wf_self]
    exact Nat.mod_mod _ _
  rw [State.groupWritten]
  split
  · split
    · exact hg
    · rw [State.rf_wf_ne _ _ hne, hg]
  · exact hg

theorem groupWritten_armed (pg v : Nat) : (s.groupWritten pg v).armed pg = s.armed pg := by
  refine groupWritten_keeps (fun u => u.armed pg) pg v (fun u x => ?_) fun u x => ?_ <;>
    rw [State.armed, State.rb, State.rf_wf_ne _ _ (by simp only [Fk.key, hSTAGE_GROUP, hSTAGE_PART, hSTAGE_ARMED]; omega)] <;> rfl

theorem groupWritten_part {i v : Nat} (hn : n < 16) (hi : i < 10) :
    s.groupWritten (partPage n i) v = s.wf (hSTAGE_GROUP (partPage n i)) (bits v 0 4) := by
  have hpage := pageAt_partPage (rel := 0) hn (show i < 16 by omega) (by decide)
  rw [Nat.add_zero] at hpage
  rw [State.groupWritten, hpage]
  interval_cases i <;> rfl

theorem exec_discard {f pg : Nat} {v : BitVec 64} (hs : s.stageable f pg = true) (hd : v.toNat.testBit 9 = true)
    (hc : v.toNat.testBit 8 = false) (ha : s.inApply pg = false) :
    exec (.discard f pg v) s = .next ((s.discarded pg).groupWritten pg v.toNat) := by
  have hdis : s.discard pg = s.discarded pg := by
    rw [State.discard, ha]
    rfl
  rw [show exec (.discard f pg v) s = execDiscard f pg v s from rfl, execDiscard, if_pos (by rw [hs, hd]; rfl), stageCtrl_whole]
  dsimp only
  rw [if_pos hd, if_neg (by simp [hc]), hdis, if_neg (by rw [discarded_armed]; decide)]

theorem exec_commit {f pg : Nat} {v : BitVec 64} (hs : s.stageable f pg = true) (hd : v.toNat.testBit 9 = false)
    (hc : v.toNat.testBit 8 = true) : exec (.commit f pg v) s =
      .next ((if s.armed pg then s else s.groupWritten pg v.toNat).commit pg) := by
  rw [show exec (.commit f pg v) s = execCommit f pg v s from rfl, execCommit, if_pos (by rw [hs, hc]; rfl), stageCtrl_whole]
  dsimp only
  rw [if_pos hc, if_neg (show ¬(v.toNat.testBit 9 = true) by simp [hd])]

/-! ### COMMIT -/

theorem State.irqPage_keeps {β : Type} (view : State → β) (h : ∀ u o, view (State.emit u o) = view u) (pg : Nat) :
    view (s.irqPage pg) = view s := by
  rw [State.irqPage]
  split
  · rfl
  · rfl
  · split
    · exact State.irqPart_keeps view h _
    · exact h _ _
  · rfl

theorem State.stageIrq_keeps {β : Type} (view : State → β) (h : ∀ u o, view (State.emit u o) = view u) (pg : Nat) :
    view (s.stageIrq pg) = view s := by
  rw [State.stageIrq]
  split
  · exact State.irqPage_keeps view h pg
  · rfl

theorem stagedPages_aligned {pg : Nat} (h : stagedPages.contains pg = true) : pg % 0x1000 = 0 := by
  have hm : pg ∈ stagedPages := by simpa using h
  simp only [stagedPages, List.mem_append, List.mem_cons, List.not_mem_nil, or_false, List.mem_map, List.mem_flatMap] at hm
  rcases hm with ((rfl | rfl | rfl) | ⟨p, _, rfl⟩) | ⟨n, _, i, _, rfl⟩
  · decide
  · decide
  · decide
  · simp only [plainPage]; omega
  · simp only [partPage]; omega

/-- A refusal disarms the page, sets COMMIT_REFUSED and REASON, and names a duplicate key of the session page. -/
def State.refused (s : State) (pg reason : Nat) : State :=
  (s.wfs [(hSTAGE_ARMED pg, 0), (hST_REFUSED pg, 1), (hST_REASON pg, reason)]).stageIrq pg

theorem refuseCommit_keeps {β : Type} (view : State → β) (pg reason : Nat)
    (h : ∀ u j, view (State.wfs u [(SES_STATUS_DUP_KEY, 1), (SES_STATUS_KEY_SES, j)]) = view u) :
    view (s.refuseCommit pg reason) = view (s.refused pg reason) := by
  rw [State.refuseCommit]
  split
  · split
    · split
      · exact h _ _
      · rfl
    · rfl
  · rfl

theorem refuseCommit_rf {pg : Nat} (hpg : pg % 0x1000 = 0) (reason : Nat) {j : Fk} (hj : j.off = pg + 0x40 ∨ j.off = pg + 0x48)
    (hlo : j.lo < 64) : (s.refuseCommit pg reason).rf j =
      (s.wfs [(hSTAGE_ARMED pg, 0), (hST_REFUSED pg, 1), (hST_REASON pg, reason)]).rf j := by
  have hne : j.key ≠ SES_STATUS_DUP_KEY.key ∧ j.key ≠ SES_STATUS_KEY_SES.key := by
    simp only [Fk.key, SES_STATUS_DUP_KEY, SES_STATUS_KEY_SES]
    omega
  rw [refuseCommit_keeps (fun u => u.rf j) pg reason, State.refused, State.stageIrq_keeps (fun u => u.rf j) fun _ _ => rfl]
  intro u k
  refine State.rf_wfs_ne u _ j fun p hp => ?_
  simp only [List.mem_cons, List.not_mem_nil, or_false] at hp
  rcases hp with rfl | rfl
  · exact hne.1
  · exact hne.2

theorem refuseCommit_result {pg : Nat} (hpg : pg % 0x1000 = 0) (reason : Nat) :
    (s.refuseCommit pg reason).armed pg = false ∧ (s.refuseCommit pg reason).rf (hST_REFUSED pg) = 1 ∧
      (s.refuseCommit pg reason).rf (hST_REASON pg) = reason % 8 ∧ BytesKept s (s.refuseCommit pg reason) := by
  have ha : (hSTAGE_ARMED pg).key = (pg + 0x40) * 64 + 8 := by rw [Fk.key, hSTAGE_ARMED]
  have hr : (hST_REFUSED pg).key = (pg + 0x48) * 64 + 4 := by rw [Fk.key, hST_REFUSED]
  have hw : (hST_REASON pg).key = (pg + 0x48) * 64 + 5 := by rw [Fk.key, hST_REASON]
  refine ⟨?_, ?_, ?_, fun a => ?_⟩
  · rw [State.armed, State.rb, refuseCommit_rf hpg reason (Or.inl rfl) (show 8 < 64 by decide)]
    simp only [State.wfs, List.foldl_cons, List.foldl_nil]
    rw [State.rf_wf_ne _ _ (by omega), State.rf_wf_ne _ _ (by omega), State.rf_wf_self]
    rfl
  · rw [refuseCommit_rf hpg reason (Or.inr rfl) (show 4 < 64 by decide)]
    simp only [State.wfs, List.foldl_cons, List.foldl_nil]
    rw [State.rf_wf_ne _ _ (by omega), State.rf_wf_self]
    rfl
  · rw [refuseCommit_rf hpg reason (Or.inr rfl) (show 5 < 64 by decide)]
    simp only [State.wfs, List.foldl_cons, List.foldl_nil]
    rw [State.rf_wf_self]
    rfl
  · rw [refuseCommit_keeps (fun u => u.byte a) pg reason fun _ _ => rfl, State.refused,
      State.stageIrq_keeps (fun u => u.byte a) fun _ _ => rfl]
    rfl

section
variable {pg : Nat} (hin : s.inApply pg = false)
include hin

theorem commit_refused {c : Nat} (hc : (s.wf (hSTAGE_ARMED pg) 1).commitCheck pg
    ((s.wf (hSTAGE_ARMED pg) 1).geomAfter (s.stagePart pg) (s.rf (hSTAGE_GROUP pg))) = c) (h : c ≠ 0) :
    s.commit pg = s.refuseCommit pg c := by
  rw [State.commit, if_neg (by simp [hin]), State.commitNow, hc]
  cases c with
  | zero => exact absurd rfl h
  | succ c => rfl

variable (hc : (s.wf (hSTAGE_ARMED pg) 1).commitCheck pg
  ((s.wf (hSTAGE_ARMED pg) 1).geomAfter (s.stagePart pg) (s.rf (hSTAGE_GROUP pg))) = 0)
include hc

theorem commit_armed (hq : (s.wf (hSTAGE_ARMED pg) 1).quietPart (s.stagePart pg) = false) :
    s.commit pg = s.wf (hSTAGE_ARMED pg) 1 := by
  rw [State.commit, if_neg (by simp [hin]), State.commitNow, hc,
    if_neg (by simp [hq])]
  rfl

theorem commit_applied (hq : (s.wf (hSTAGE_ARMED pg) 1).quietPart (s.stagePart pg) = true)
    (hg : (((s.wf (hSTAGE_ARMED pg) 1).groupPages (s.stagePart pg) (s.rf (hSTAGE_GROUP pg))).filter
      fun q => !(s.wf (hSTAGE_ARMED pg) 1).inApply q) = [pg]) :
    s.commit pg = (s.wf (hSTAGE_ARMED pg) 1).applyPage pg ((s.wf (hSTAGE_ARMED pg) 1).commitSet pg) := by
  have hcheck : (s.wf (hSTAGE_ARMED pg) 1).groupCheck (s.stagePart pg) (s.rf (hSTAGE_GROUP pg)) =
      (s.wf (hSTAGE_ARMED pg) 1, [(pg, (s.wf (hSTAGE_ARMED pg) 1).commitSet pg)]) := by
    rw [State.groupCheck, hg, List.foldl_cons, List.foldl_nil, hc]
    rfl
  rw [State.commit, if_neg (by simp [hin]), State.commitNow, hc]
  dsimp only
  rw [if_pos hq, hcheck]
  rfl

end

/-! ### Applies -/

theorem sget?_of_risesFrom {sh : SMap Nat} : ∀ {lo key : Nat}, risesFrom lo sh = true → key < lo → sget? sh key = none := by
  induction sh with
  | nil => intro _ _ _ _; rfl
  | cons x m ih =>
    obtain ⟨k, v⟩ := x
    intro lo key hr hk
    rw [risesFrom, Bool.and_eq_true, decide_eq_true_eq] at hr
    rw [sget?, if_neg (by omega)]
    exact ih hr.2 (by omega)

/-- One captured shadow becomes live. -/
theorem goLive_cons (k v : Nat) (m : SMap Nat) : s.goLive ((k, v) :: m) =
    ({ s with fld := sset (keyReset k) s.fld k v
              shd := if sget? s.shd k = some v then sdel s.shd k else s.shd } : State).goLive m := rfl

theorem goLive_rf {k : Fk} (sh : SMap Nat) : ∀ (s : State) (lo : Nat), risesFrom lo sh = true →
    (s.goLive sh).rf k = (sget? sh k.key).getD (s.rf k) := by
  induction sh with
  | nil => intro s lo _; rfl
  | cons x m ih =>
    obtain ⟨key, v⟩ := x
    intro s lo hr
    rw [risesFrom, Bool.and_eq_true, decide_eq_true_eq] at hr
    rw [goLive_cons, ih _ _ hr.2, sget?]
    by_cases hk : key = k.key
    · subst hk
      rw [if_pos rfl, sget?_of_risesFrom hr.2 (Nat.lt_succ_self _)]
      exact sget_sset_self _ s.fld _ v
    · have hne : sget (keyReset k.key) (sset (keyReset key) s.fld key v) k.key = sget (keyReset k.key) s.fld k.key := by
        rw [sget, sset]
        split
        · rw [sget?_sdel, if_neg (Ne.symm hk), sget]
        · rw [sget?_sins, if_neg (Ne.symm hk), sget]
      rw [if_neg hk]
      exact congrArg _ hne

theorem applyPage_rf {pg : Nat} (sh : SMap Nat) {j : Fk} (hj : j.key ≠ (hST_APPLY_COUNT pg).key) :
    (s.applyPage pg sh).rf j =
      (((s.goLive sh).pageApply s pg sh).wfs [(hSTAGE_ARMED pg, 0), (hST_APPLIED pg, 1)]).rf j := by
  rw [State.applyPage, State.stageIrq_keeps (fun u => u.rf j) fun _ _ => rfl, State.rf_bump_ne hj]

theorem applyPage_result (pg : Nat) (sh : SMap Nat) :
    (s.applyPage pg sh).armed pg = false ∧ (s.applyPage pg sh).rf (hST_APPLIED pg) = 1 := by
  have ha : (hSTAGE_ARMED pg).key = (pg + 0x40) * 64 + 8 := by rw [Fk.key, hSTAGE_ARMED]
  have hr : (hST_APPLIED pg).key = (pg + 0x48) * 64 + 3 := by rw [Fk.key, hST_APPLIED]
  have hc : (hST_APPLY_COUNT pg).key = (pg + 0x48) * 64 + 16 := by rw [Fk.key, hST_APPLY_COUNT]
  constructor
  · rw [State.armed, State.rb, applyPage_rf sh (by omega)]
    simp only [State.wfs, List.foldl_cons, List.foldl_nil]
    rw [State.rf_wf_ne _ _ (by omega), State.rf_wf_self]
    rfl
  · rw [applyPage_rf sh (by omega)]
    simp only [State.wfs, List.foldl_cons, List.foldl_nil]
    rw [State.rf_wf_self]
    rfl

theorem exec_seamApplyComplete {g pg : Nat} {sh : SMap Nat} (h : s.applies = [{ part := n, group := g, pages := [(pg, sh)] }]) :
    exec (.seamApplyComplete n g) s = .next (({ s with applies := [] } : State).applyPage pg sh) := by
  rw [show exec (.seamApplyComplete n g) s = execSeamApplyComplete n g s from rfl, execSeamApplyComplete, h,
    List.find?_cons_of_pos (by simp)]
  dsimp only
  rw [List.erase_cons_head]
  rfl

end

/-- Settles O46. -/
theorem staging : Obligations.Staging := by
  unfold Obligations.Staging
  refine ⟨fun s n w v hn hw hb hf hr => exec_stagedEntry hn hw hb hf hr, fun s n v hn hb hf hr => ?_,
    fun s off v hin hra hal hb hf hr => exec_stagedSession hin hra hal hb hf hr,
    fun s f pg v hs hd hc ha => ⟨_, exec_discard hs hd hc ha, ?_, ?_, groupWritten_group pg _, fun a => ?_, fun j hj => ?_⟩,
    fun s f n i v hn hi hs hc hd => ⟨fun ha => ?_, fun ha => ?_⟩,
    fun s pg hpg hin => ⟨fun hc => ?_, fun hc hq => commit_armed hin hc hq, fun hc hq hg => commit_applied hin hc hq hg⟩,
    fun s sh k hr => ⟨fun v hv => ?_, fun hv => ?_⟩,
    fun s n g pg sh h => ⟨exec_seamApplyComplete h, (applyPage_result pg sh).1, (applyPage_result pg sh).2⟩⟩
  · obtain ⟨hx, hy, hw, hh⟩ := geomStaged_sh (s := s) (n := n) v.toNat
    exact ⟨_, exec_stagedGeom hn hb hf hr, hx, hy, hw, hh, fun _ _ => rfl, fun _ => rfl⟩
  · rw [groupWritten_keeps (fun u => u.shadows pg) pg _ (fun _ _ => rfl) fun _ _ => rfl]
    exact dropShadows_shadows pg
  · rw [groupWritten_armed, discarded_armed]
  · rw [groupWritten_keeps (fun u => u.byte a) pg _ (fun _ _ => rfl) fun _ _ => rfl]
    exact State.dropShadows_byte pg a
  · have ha := hj (hSTAGE_ARMED pg) (by simp)
    have hg := hj (hSTAGE_GROUP pg) (by simp)
    have hp := hj (hSTAGE_PART pg) (by simp)
    rw [groupWritten_keeps (fun u => u.rf j) pg _ (fun u x => State.rf_wf_ne u x hg.symm) fun u x => State.rf_wf_ne u x hp.symm,
      State.discarded, State.rf_wf_ne _ _ ha.symm, State.dropShadows_rf]
  · rw [exec_commit hs hd hc, if_neg (by simp [ha]), groupWritten_part hn hi]
  · rw [exec_commit hs hd hc, if_pos ha]
  · rw [commit_refused hin rfl hc]
    exact refuseCommit_result (stagedPages_aligned hpg) _
  · rw [goLive_rf sh s 0 hr, hv]
    rfl
  · rw [goLive_rf sh s 0 hr, hv]
    rfl

end Sys2Proof.Machine

/-! PROOF. Crossings, firings, pulses, job tokens and REARM. -/

namespace Sys2Proof.Machine

/-! ### The order of firings -/

theorem Due.before_iff (a b : Due) : a.before b = true ↔ a.pos < b.pos ∨
    a.pos = b.pos ∧ (b2n a.rel < b2n b.rel ∨ b2n a.rel = b2n b.rel ∧ a.entry < b.entry) := by
  simp only [Due.before, Bool.or_eq_true, Bool.and_eq_true, decide_eq_true_eq, beq_iff_eq, Bool.not_eq_true']
  cases a.rel <;> cases b.rel <;> simp [b2n]

theorem Due.before_irrefl (a : Due) : a.before a = false := by
  rw [Bool.eq_false_iff, ne_eq, Due.before_iff]
  omega

theorem Due.before_asymm {a b : Due} (h : a.before b = true) : b.before a = false := by
  rw [Due.before_iff] at h
  rw [Bool.eq_false_iff, ne_eq, Due.before_iff]
  omega

/-- Whatever stands between two firings in order is out of order with one of them. -/
theorem Due.before_split {a c : Due} (h : a.before c = true) (b : Due) : a.before b = true ∨ b.before c = true := by
  rw [Due.before_iff] at h
  rw [Due.before_iff, Due.before_iff]
  omega

/-- One more firing is looked at. -/
def earlier (b : Option Due) (x : Due) : Option Due :=
  match b with
  | some y => if x.before y then some x else b
  | none => some x

/-- No firing stands before the first of those looked at so far. -/
theorem foldl_earlier (l : List Due) : ∀ (b : Option Due) (d : Due), l.foldl earlier b = some d →
    (d ∈ l ∨ b = some d) ∧ (∀ x ∈ l, x.before d = false) ∧ ∀ y, b = some y → y.before d = false := by
  induction l with
  | nil =>
    intro b d h
    refine ⟨Or.inr h, fun x hx => absurd hx List.not_mem_nil, fun y hy => ?_⟩
    rw [Option.some.inj (hy.symm.trans h)]
    exact d.before_irrefl
  | cons x l ih =>
    intro b d h
    rw [List.foldl_cons] at h
    obtain ⟨hmem, hall, hacc⟩ := ih _ _ h
    cases b with
    | none =>
      have hx := hacc x rfl
      refine ⟨Or.inl ?_, List.forall_mem_cons.mpr ⟨hx, hall⟩, fun y hy => nomatch hy⟩
      exact hmem.elim (List.mem_cons_of_mem x) fun h : some x = some d => Option.some.inj h ▸ List.mem_cons_self
    | some y =>
      by_cases hxy : x.before y = true
      · have hx := hacc x (if_pos hxy)
        have hy : y.before d = false := by
          refine Bool.eq_false_iff.mpr fun hyd => ?_
          rcases Due.before_split hxy d with h | h
          · rw [hx] at h; cases h
          · rw [Due.before_asymm h] at hyd; cases hyd
        refine ⟨Or.inl ?_, List.forall_mem_cons.mpr ⟨hx, hall⟩, fun z hz => Option.some.inj hz ▸ hy⟩
        exact hmem.elim (List.mem_cons_of_mem x) fun h => Option.some.inj ((if_pos hxy).symm.trans h) ▸ List.mem_cons_self
      · have hy := hacc y (if_neg hxy)
        have hx : x.before d = false := by
          refine Bool.eq_false_iff.mpr fun hxd => ?_
          rcases Due.before_split hxd y with h | h
          · exact hxy h
          · rw [hy] at h; cases h
        refine ⟨hmem.imp (List.mem_cons_of_mem x) fun h => (if_neg hxy).symm.trans h,
          List.forall_mem_cons.mpr ⟨hx, hall⟩, fun z hz => Option.some.inj hz ▸ hy⟩

theorem firstDue_first {l : List Due} {d : Due} (h : firstDue l = some d) : d ∈ l ∧ ∀ x ∈ l, x.before d = false := by
  obtain ⟨hmem, hall, -⟩ := foldl_earlier l none d h
  exact ⟨hmem.resolve_right (fun h => nomatch h), hall⟩

section
variable {s : State} {n : Nat}

theorem exec_timetableService {now : Nat} (hs : (s.at now).serves n = true) :
    exec (.timetableService n now) s = .next (State.serve n 64 ((s.at now).noteAll n)) := by
  rw [show exec (.timetableService n now) s = execTimetableService n now s from rfl, execTimetableService]
  exact congrArg _ (if_pos hs)

theorem serve_none {k : Nat} (h : firstDue (s.dues n) = none) : State.serve n (k + 1) s = s := by
  rw [State.serve, h]

theorem serve_some {k : Nat} {d : Due} (h : firstDue (s.dues n) = some d) :
    State.serve n (k + 1) s = State.serve n k (s.fire n d) := by
  rw [State.serve, h]

/-! ### Pulses -/

theorem pulse_dropped {arg : Nat} (h : s.owns n (bits arg 0 3) = false) : s.pulse n arg = s.bump (PTT_TRIG_DROPPED_COUNT n) :=
  if_pos (by rw [h]; rfl)

/-- The output is active, and the pulse is counted. -/
def State.pulsed (s : State) (o ends : Nat) : State :=
  ({ s with outs := sset {} s.outs o { active := true, ends := ends } } : State).bump (TBS_TO_COUNT_PULSES o)

theorem pulse_owned {arg : Nat} (h : s.owns n (bits arg 0 3) = true) : s.pulse n arg =
    let o := bits arg 0 3
    let s1 := s.pulsed o (s.time + bits arg 8 16 * 100)
    if (sget {} s.outs o).active then s1.bump (TBS_TO_COUNT_OVERLAPS o) else s1.emit (.trigger o (s1.toLevel o)) :=
  if_neg (by rw [h]; decide)

theorem pulsed_active (o ends : Nat) : sget {} (s.pulsed o ends).outs o = { active := true, ends := ends } := by
  rw [State.pulsed, State.bump_outs]
  dsimp only
  rw [sget_sset_self]

/-- A pulse keeps what its counters and its edge leave alone. -/
theorem pulse_keeps {β : Type} (view : State → β) (arg : Nat)
    (hout : ∀ (u : State) l, view { u with outs := l } = view u) (hemit : ∀ u o, view (State.emit u o) = view u)
    (hdrop : ∀ u, view (State.bump u (PTT_TRIG_DROPPED_COUNT n)) = view u)
    (hpulse : ∀ u, view (State.bump u (TBS_TO_COUNT_PULSES (bits arg 0 3))) = view u)
    (hover : ∀ u, view (State.bump u (TBS_TO_COUNT_OVERLAPS (bits arg 0 3))) = view u) : view (s.pulse n arg) = view s := by
  by_cases h : s.owns n (bits arg 0 3) = true
  · rw [pulse_owned h]
    dsimp only
    split
    · rw [hover, State.pulsed, hpulse, hout]
    · rw [hemit, State.pulsed, hpulse, hout]
  · rw [pulse_dropped (by simpa using h), hdrop]

theorem pulse_owned_result {arg : Nat} (h : s.owns n (bits arg 0 3) = true) :
    sget {} (s.pulse n arg).outs (bits arg 0 3) = { active := true, ends := s.time + bits arg 8 16 * 100 } ∧
      (s.pulse n arg).rf (TBS_TO_COUNT_PULSES (bits arg 0 3)) = (s.rf (TBS_TO_COUNT_PULSES (bits arg 0 3)) + 1) % 2 ^ 32 ∧
      ((sget {} s.outs (bits arg 0 3)).active = false →
        (s.pulse n arg).out = .trigger (bits arg 0 3) (!s.rb (TBS_TO_CFG_POLARITY (bits arg 0 3))) :: s.out) := by
  have hover : (TBS_TO_COUNT_PULSES (bits arg 0 3)).key ≠ (TBS_TO_COUNT_OVERLAPS (bits arg 0 3)).key := by
    simp only [Fk.key, TBS_TO_COUNT_PULSES, TBS_TO_COUNT_OVERLAPS]
    omega
  have hpol : (TBS_TO_CFG_POLARITY (bits arg 0 3)).key ≠ (TBS_TO_COUNT_PULSES (bits arg 0 3)).key := by
    simp only [Fk.key, TBS_TO_COUNT_PULSES, TBS_TO_CFG_POLARITY]
    omega
  have hcount : (s.pulsed (bits arg 0 3) (s.time + bits arg 8 16 * 100)).rf (TBS_TO_COUNT_PULSES (bits arg 0 3)) =
      (s.rf (TBS_TO_COUNT_PULSES (bits arg 0 3)) + 1) % 2 ^ 32 := State.rf_bump_self _
  rw [pulse_owned h]
  dsimp only
  cases hact : (sget {} s.outs (bits arg 0 3)).active with
  | true =>
    rw [if_pos rfl, State.bump_outs, pulsed_active, State.rf_bump_ne hover, hcount]
    exact ⟨rfl, rfl, fun h => absurd h (by decide)⟩
  | false =>
    rw [if_neg Bool.false_ne_true, State.emit_outs, pulsed_active, State.emit_rf, hcount]
    refine ⟨rfl, rfl, fun _ => ?_⟩
    have hlevel : (s.pulsed (bits arg 0 3) (s.time + bits arg 8 16 * 100)).rb (TBS_TO_CFG_POLARITY (bits arg 0 3)) =
        s.rb (TBS_TO_CFG_POLARITY (bits arg 0 3)) := congrArg (· == 1) (State.rf_bump_ne hpol)
    rw [State.toLevel, pulsed_active, hlevel, Bool.true_bne]
    rfl

/-! ### Firings -/

/-- Noting crossings leaves an entry that is not armed. -/
theorem noteCrossPart_ert {b e : Nat} (h : (s.ert n e).armed = false) : (s.noteCrossPart b n).ert n e = s.ert n e := by
  have hset : ∀ (u : State) (i : Nat) (r : EntryRt), i ≠ e → (u.setErt n i r).ert n e = u.ert n e := by
    intro u i r hi
    rw [State.ert, State.setErt, State.part_updPart_self, sget_sset_ne _ _ _ hi.symm, State.ert]
  have hfold : ∀ (l : List Nat) (f : State → Nat → State) (u : State),
      (∀ v i, (v.ert n e).armed = false → (f v i).ert n e = v.ert n e) → (u.ert n e).armed = false →
        (u.forEach l f).ert n e = u.ert n e := by
    intro l f
    induction l with
    | nil => intro u _ _; rfl
    | cons i l ih =>
      intro u hf hu
      have hi := hf u i hu
      exact (ih (f u i) hf (by rw [hi]; exact hu)).trans hi
  unfold State.noteCrossPart
  extract_lets pos fires s1
  have hs1 : s1.ert n e = s.ert n e := by
    refine hfold _ _ s (fun u i hu => ?_) h
    dsimp only
    by_cases hi : i = e
    · subst hi
      rw [if_pos (by simp [hu])]
    · split
      · rfl
      split
      · exact hset _ _ _ hi
      split
      · rfl
      split
      · exact hset _ _ _ hi
      · exact hset _ _ _ hi
  rw [← hs1, State.ert, State.part_updPart_self, State.ert]

theorem noteCrossPart_keeps {β : Type} (view : State → β) (h : ∀ u f, view (State.updPart u n f) = view u) (b : Nat) :
    view (s.noteCrossPart b n) = view s := by
  rw [State.noteCrossPart]
  dsimp only
  rw [h, State.forEach]
  refine foldl_keeps view (fun u i => ?_) _ _
  split
  · rfl
  split
  · exact h _ _
  split
  · rfl
  split
  · exact h _ _
  · exact h _ _

theorem sweepItems_ert (e : Nat) : (s.sweepItems n).ert n e = s.ert n e := by
  rw [State.ert, State.sweepItems, State.wf_part, State.part_updPart_self, State.ert]

/-- The firing of an absolute TRIGGER that opens no item, up to the end of its pulse. -/
def State.trigFired (s : State) (n : Nat) (d : Due) : State :=
  let s0 := s.countFire n d.entry
  let s1 := if decide (d.cross + 2000 < s.time) then s0.bump (PTT_SLIPS_COUNT n) else s0
  if (s.ert n d.entry).started then s1 else s1.pulse n (s.ptt n d.entry).arg

theorem fire_trigger {d : Due} (hi : d.item = none) (ho : (s.ptt n d.entry).opens = false) (hk : (s.ptt n d.entry).kind = 1) :
    s.fire n d = (((s.trigFired n d).afterFire n d.entry (s.ptt n d.entry)).noteCrossPart (s.ptt n d.entry).tb n).sweepItems n := by
  rw [State.fire, hi]
  dsimp only
  rw [ho, if_neg Bool.false_ne_true, State.fireAct, hk]
  rfl

theorem afterFire_once {e : Nat} {x : PttEntry} (h : x.period = 0) : s.afterFire n e x =
    s.setErt n e { s.ert n e with armed := false, spent := true, crossed := none, started := false } := by
  rw [State.afterFire, if_pos h]

theorem setErt_ert (e : Nat) (r : EntryRt) : (s.setErt n e r).ert n e = r := by
  rw [State.ert, State.setErt, State.part_updPart_self]
  exact sget_sset_self _ _ _ _

/-- What the firing of a one-shot TRIGGER keeps of a view that its end leaves alone. -/
theorem fire_once_keeps {β : Type} (view : State → β) {d : Due} (hi : d.item = none) (ho : (s.ptt n d.entry).opens = false)
    (hk : (s.ptt n d.entry).kind = 1) (hp : (s.ptt n d.entry).period = 0) (hpart : ∀ u f, view (State.updPart u n f) = view u)
    (hopen : ∀ u v, view (State.wf u (PTT_ITEMS_OPEN n) v) = view u) : view (s.fire n d) = view (s.trigFired n d) := by
  rw [fire_trigger hi ho hk, State.sweepItems,
    hopen, hpart, noteCrossPart_keeps view hpart, afterFire_once hp]
  exact hpart _ _

theorem fire_once_ert {d : Due} (hi : d.item = none) (ho : (s.ptt n d.entry).opens = false) (hk : (s.ptt n d.entry).kind = 1)
    (hp : (s.ptt n d.entry).period = 0) :
    ((s.fire n d).ert n d.entry).spent = true ∧ ((s.fire n d).ert n d.entry).armed = false := by
  rw [fire_trigger hi ho hk, sweepItems_ert, afterFire_once hp, noteCrossPart_ert (by rw [setErt_ert]), setErt_ert]
  exact ⟨rfl, rfl⟩

theorem countFire_fires (e : Nat) : (s.countFire n e).rf (PTT_FIRES_COUNT n) = (s.rf (PTT_FIRES_COUNT n) + 1) % 2 ^ 64 := by
  rw [State.countFire, State.setErt, State.updPart_rf, State.rf_wf_ne _ _ (by
    simp only [Fk.key, PTT_FIRES_COUNT, PTT_LAST_FIRE_TIME]; omega), State.rf_bump_self]
  rfl

theorem trigFired_fires (d : Due) : (s.trigFired n d).rf (PTT_FIRES_COUNT n) = (s.rf (PTT_FIRES_COUNT n) + 1) % 2 ^ 64 := by
  have hslip : (PTT_FIRES_COUNT n).key ≠ (PTT_SLIPS_COUNT n).key := by
    simp only [Fk.key, PTT_FIRES_COUNT, PTT_SLIPS_COUNT]
    omega
  have hdrop : (PTT_FIRES_COUNT n).key ≠ (PTT_TRIG_DROPPED_COUNT n).key := by
    simp only [Fk.key, PTT_FIRES_COUNT, PTT_TRIG_DROPPED_COUNT]
    omega
  have hout : ∀ o, o < 8 → (PTT_FIRES_COUNT n).key ≠ (TBS_TO_COUNT_PULSES o).key ∧
      (PTT_FIRES_COUNT n).key ≠ (TBS_TO_COUNT_OVERLAPS o).key := by
    intro o ho
    simp only [Fk.key, PTT_FIRES_COUNT, TBS_TO_COUNT_PULSES, TBS_TO_COUNT_OVERLAPS, partPage]
    omega
  have hbits : bits (s.ptt n d.entry).arg 0 3 < 8 := Nat.mod_lt _ (by decide)
  unfold State.trigFired
  extract_lets s0 s1
  have hs1 : s1.rf (PTT_FIRES_COUNT n) = (s.rf (PTT_FIRES_COUNT n) + 1) % 2 ^ 64 := by
    simp only [s1]
    split
    · rw [State.rf_bump_ne hslip, countFire_fires]
    · rw [countFire_fires]
  split
  · exact hs1
  · rw [pulse_keeps (fun u => u.rf (PTT_FIRES_COUNT n)) _ (fun _ _ => rfl) (fun _ _ => rfl) (fun _ => State.rf_bump_ne hdrop)
      (fun _ => State.rf_bump_ne (hout _ hbits).1) (fun _ => State.rf_bump_ne (hout _ hbits).2), hs1]

theorem trigFired_byte (d : Due) (a : Nat) : (s.trigFired n d).byte a = s.byte a := by
  unfold State.trigFired
  extract_lets s0 s1
  have hs1 : s1.byte a = s.byte a := by
    simp only [s1]
    split <;> rfl
  split
  · exact hs1
  · rw [pulse_keeps (fun u => u.byte a) _ (fun _ _ => rfl) (fun _ _ => rfl) (fun _ => rfl) (fun _ => rfl) (fun _ => rfl), hs1]

/-! ### Jobs -/

theorem fireJob_skipped {e : Nat} {x : PttEntry} {item : Option Nat} {a : Int} {slip : Bool}
    (h : s.pst n = 3 ∨ s.pst n = 4 ∨ s.pst n = 6) : s.fireJob n e x item a slip = s.bump (PTT_JOBS_SKIPPED_COUNT n) :=
  if_pos h

section
variable {e : Nat} {x : PttEntry} {item : Option Nat} {a : Int} {slip : Bool} (h : s.pst n = 2 ∨ s.pst n = 5 ∨ s.pst n = 7)
include h

theorem pst_takes_jobs : ¬(s.pst n = psDRAINING ∨ s.pst n = psDRAINED ∨ s.pst n = psFAULTED) := by
  simp only [psDRAINING, psDRAINED, psFAULTED]
  omega

theorem fireJob_target (hq : s.rf (TILE_QBIND_KIND (s.jobTile n x.arg) (bits x.arg 18 3)) ≠ 2) :
    s.fireJob n e x item a slip = s.raise 0x8005 (partPage n 2) := by
  rw [State.fireJob]
  dsimp only
  rw [if_neg (pst_takes_jobs h), if_pos hq]

theorem fireJob_sent (hq : s.rf (TILE_QBIND_KIND (s.jobTile n x.arg) (bits x.arg 18 3)) = 2) : ∃ k : Packet,
    (s.fireJob n e x item a slip).net = s.net ++ [k] ∧ k.ty = 3 ∧ k.dst = s.tileGlobal (s.jobTile n x.arg) 0 ∧
      k.rq = bits x.arg 18 3 ∧ k.len = 64 ∧ k.part = n := by
  rw [State.fireJob]
  dsimp only
  rw [if_neg (pst_takes_jobs h), if_neg (by simp [hq])]
  cases item <;> exact ⟨_, rfl, rfl, rfl, rfl, rfl, rfl⟩

end

/-! ### Leading edges, ends, REARM -/

section
variable {e now : Nat} (hs : ((s.at now).noteCrossPart (s.ptt n e).tb n).serves n = true) (hon : (s.ptt n e).on = true)
  (hk : (s.ptt n e).kind = 1)
  (ho : ((s.at now).noteCrossPart (s.ptt n e).tb n).owns n (bits (s.ptt n e).arg 0 3) = true)
  (hl : ((s.at now).noteCrossPart (s.ptt n e).tb n).rf (TBS_TB_STATUS_STATE (s.ptt n e).tb) ≠ 3)
include hs hon hk ho hl

theorem exec_pulseStart_absolute (hrel : (s.ptt n e).rel = false)
    (hc : (((s.at now).noteCrossPart (s.ptt n e).tb n).ert n e).crossed ≠ none)
    (hst : (((s.at now).noteCrossPart (s.ptt n e).tb n).ert n e).started = false) :
    exec (.triggerPulseStart n e none now) s = .next ((((s.at now).noteCrossPart (s.ptt n e).tb n).setErt n e
      { ((s.at now).noteCrossPart (s.ptt n e).tb n).ert n e with started := true }).pulse n (s.ptt n e).arg) := by
  rw [show exec (.triggerPulseStart n e none now) s = execTriggerPulseStart n e none now s from rfl, execTriggerPulseStart]
  dsimp only
  rw [if_neg (by simp [hs, hon, hk, ho, hl]), if_neg (by simp [hrel, hst, hc])]

theorem exec_pulseStart_relative {num : Nat} {i : Item} (hrel : (s.ptt n e).rel = true)
    (hi : ((s.at now).noteCrossPart (s.ptt n e).tb n).item n num = some i) (hc : sget? i.crossed e ≠ none)
    (hd : i.done.contains e = false) (hst : i.started.contains e = false) :
    exec (.triggerPulseStart n e (some num) now) s = .next ((((s.at now).noteCrossPart (s.ptt n e).tb n).updItem n num
      fun i => { i with started := e :: i.started }).pulse n (s.ptt n e).arg) := by
  rw [show exec (.triggerPulseStart n e (some num) now) s = execTriggerPulseStart n e (some num) now s from rfl,
    execTriggerPulseStart,
    if_neg (by simp [hs, hon, hk, ho, hl]), hi]
  dsimp only
  rw [hd, hst, if_neg (by simp [hrel, hc])]

end

theorem exec_pulseEnd {o now : Nat} (ha : (sget {} s.outs o).active = true) (he : (sget {} s.outs o).ends ≤ max s.time now) :
    exec (.triggerPulseEnd o now) s = .next (({ s.at now with outs := sset {} s.outs o {} } : State).emit
      (.trigger o (s.rb (TBS_TO_CFG_POLARITY o)))) := by
  rw [show exec (.triggerPulseEnd o now) s = execTriggerPulseEnd o now s from rfl, execTriggerPulseEnd]
  have hdue : ((sget {} (s.at now).outs o).active && decide ((sget {} (s.at now).outs o).ends ≤ (s.at now).time)) = true := by
    rw [State.at_outs, ha, Bool.true_and, decide_eq_true_eq]
    exact he
  dsimp only
  rw [if_pos hdue, State.toLevel]
  dsimp only
  rw [sget_sset_self, Bool.false_bne]
  rfl

theorem exec_rearm {f : Nat} {v : BitVec 64} (hw : s.writes f n = true) (hr : s.pageReady (partPage n 2) = true)
    (ho : (s.ptt n (bits v.toNat 0 10)).on = true) (hrel : (s.ptt n (bits v.toNat 0 10)).rel = false) :
    exec (.rearm f n v) s = .next (s.armEntry n (bits v.toNat 0 10) (s.ptt n (bits v.toNat 0 10)).pos) := by
  rw [show exec (.rearm f n v) s = execRearm f n v s from rfl, execRearm, if_pos (by rw [hw, hr]; rfl), State.rearm]
  exact congrArg _ (if_pos (by rw [ho, hrel]; rfl))

end

/-- Settles O47. -/
theorem timetable : Obligations.Timetable := by
  unfold Obligations.Timetable
  refine ⟨fun s n now hs => ⟨fun h => ?_, fun d h => ?_⟩, fun l d h => firstDue_first h,
    fun s n d hn he hi ho hk hp => ⟨(fire_once_ert hi ho hk hp).1, (fire_once_ert hi ho hk hp).2, ?_, fun a => ?_⟩,
    fun s n arg => ⟨fun h => pulse_dropped h, fun h => pulse_owned_result h⟩,
    fun s n e x item a slip => ⟨fun h => fireJob_skipped h, fun h hq => fireJob_target h hq, fun h hq => fireJob_sent h hq⟩,
    fun s n e now hs hon hk ho hl => ⟨fun hrel hc hst => exec_pulseStart_absolute hs hon hk ho hl hrel hc hst,
      fun num i hrel hi hc hd hst => exec_pulseStart_relative hs hon hk ho hl hrel hi hc hd hst⟩,
    fun s o now ha he => exec_pulseEnd ha he, fun s f n v hw hr ho hrel => exec_rearm hw hr ho hrel⟩
  · rw [exec_timetableService hs, serve_none h]
  · rw [exec_timetableService hs, serve_some h]
  · rw [fire_once_keeps (fun u => u.rf (PTT_FIRES_COUNT n)) hi ho hk hp (fun _ _ => rfl) (fun u v => State.rf_wf_ne u v (by
      simp only [Fk.key, PTT_FIRES_COUNT, PTT_ITEMS_OPEN]; omega)), trigFired_fires]
  · rw [fire_once_keeps (fun u => u.byte a) hi ho hk hp (fun _ _ => rfl) (fun _ _ => rfl), trigFired_byte]

end Sys2Proof.Machine

/-! PROOF. A fault and its reactions leave every field of the pages below IMG but their headers and the page FLT. -/

namespace Sys2Proof.Machine

/-- A field of a page below IMG, other than FLT, outside the page's header. -/
structure LowField (j : Fk) : Prop where
  lo : j.lo < 64
  off : j.off < 0x9000
  body : 0x100 ≤ j.off % 0x1000
  flt : j.off / 0x1000 ≠ 2

/-- A key that a fault may write: of the page IMG or above, of FLT, or in a page's header. -/
def FaultKey (k : Fk) : Prop := k.lo < 64 ∧ (0x9000 ≤ k.off ∨ k.off / 0x1000 = 2 ∨ k.off % 0x1000 < 0x100)

section
variable {s : State} {j : Fk} (hj : LowField j)
include hj

theorem LowField.key_ne {k : Fk} (hk : FaultKey k) : j.key ≠ k.key := by
  obtain ⟨hlo, hoff, hbody, hflt⟩ := hj
  obtain ⟨hklo, hk⟩ := hk
  simp only [Fk.key]
  omega

theorem State.wf_low {k : Fk} (v : Nat) (hk : FaultKey k) : (s.wf k v).rf j = s.rf j := State.rf_wf_ne _ _ (hj.key_ne hk)

theorem State.bump_low {k : Fk} (n : Nat) (hk : FaultKey k) : (s.bump k n).rf j = s.rf j := State.wf_low hj _ hk

theorem State.wfs_low {l : List (Fk × Nat)} (hl : ∀ x ∈ l, FaultKey x.1) : (s.wfs l).rf j = s.rf j :=
  State.rf_wfs_ne s l j fun x hx => hj.key_ne (hl x hx)

end

/-! ### Collectors -/

section
variable {s : State} {j : Fk}

theorem State.setAlert_rf : s.setAlert.rf j = s.rf j := rfl

theorem State.breakLatches_rf (p : Latch → Bool) : (s.breakLatches p).rf j = s.rf j := rfl

theorem State.rf_ite {c : Prop} [Decidable c] {a b : State} {v : Nat} (ha : a.rf j = v) (hb : b.rf j = v) :
    (if c then a else b).rf j = v := by
  split <;> assumption

theorem State.irqPart_rf (n v : Nat) : (s.irqPart n v).rf j = s.rf j := State.irqPart_keeps (State.rf · j) (fun _ _ => rfl) v

theorem State.irqPage_rf (pg : Nat) : (s.irqPage pg).rf j = s.rf j := State.irqPage_keeps (State.rf · j) (fun _ _ => rfl) pg

variable (hj : LowField j)
include hj

theorem State.latchFault_low {pg : Nat} (hpg : pg % 0x1000 = 0) (code src tb r : Nat) :
    (s.latchFault code pg src tb r).rf j = s.rf j := by
  unfold State.latchFault
  split
  · rw [State.wf_low hj _ (by simp only [FaultKey, hMORE_OVERFLOW]; omega), State.sat,
      State.wf_low hj _ (by simp only [FaultKey, hMORE_COUNT]; omega)]
  · extract_lets valid s1 tilePg page
    have hs1 : s1.rf j = s.rf j := State.wfs_low hj fun x hx => by
      simp only [List.mem_cons, List.not_mem_nil, or_false] at hx
      rcases hx with rfl | rfl | rfl | rfl | rfl | rfl | rfl | rfl | rfl <;>
        simp only [FaultKey, hFIRST_CODE, hFIRST_REACT, hFIRST_TIME, hMORE_COUNT, hMORE_OVERFLOW, hMORE_TB, hMORE_POS_VALID,
          hMORE_POS, hSTATUS_FAULT_VALID] <;> omega
    clear_value s1
    split
    · rw [State.setAlert_rf, State.irqPage_rf, State.wfs_low hj, hs1]
      intro x hx
      simp only [List.mem_cons, List.not_mem_nil, or_false] at hx
      rcases hx with rfl | rfl | rfl
      · exact ⟨(by decide : FLT_FIRST_PAGE_OFFSET.lo < 64), Or.inr (Or.inl (by decide : FLT_FIRST_PAGE_OFFSET.off / 0x1000 = 2))⟩
      · exact ⟨(by decide : FLT_FIRST_PAGE_TILE.lo < 64), Or.inr (Or.inl (by decide : FLT_FIRST_PAGE_TILE.off / 0x1000 = 2))⟩
      · exact ⟨(by decide : FLT_FIRST_TIME_NS.lo < 64), Or.inr (Or.inl (by decide : FLT_FIRST_TIME_NS.off / 0x1000 = 2))⟩
    · rw [State.wfs_low hj, hs1]
      intro x hx
      simp only [List.mem_cons, List.not_mem_nil, or_false] at hx
      rcases hx with rfl | rfl <;> simp only [FaultKey, PFLT_FIRST_PAGE_VALUE, PFLT_FIRST_TIME_NS, partPage] <;> omega
    · exact hs1

theorem State.offer_low {pg : Nat} (hpg : pg % 0x1000 = 0) (code src tb r : Nat) : (s.offer code pg src tb r).rf j = s.rf j := by
  rw [State.offer]
  split
  · exact State.bump_low hj _ ⟨by decide, by decide⟩
  · exact State.latchFault_low hj hpg ..

/-! ### Reactions -/

theorem State.setPst_low (n st : Nat) : (s.setPst n st).rf j = s.rf j := by
  rw [State.setPst, State.watchSync_rf, State.wf_low hj _ (by simp only [FaultKey, PART_STATE_DRAIN_DONE, partPage]; omega),
    State.wf_low hj _ (by simp only [FaultKey, PART_STATE_STATE, partPage]; omega)]

theorem State.enterFault_low (n st c : Nat) : (s.enterFault n st c).rf j = s.rf j := by
  rw [State.enterFault, State.irqPart_rf, State.wf_low hj _ (by simp only [FaultKey, PFLT_STATUS_CAUSE, partPage]; omega),
    State.setPst_low hj]

theorem State.reactPause_low (n : Nat) : (s.reactPause n).rf j = s.rf j := by
  rw [State.reactPause]
  split
  · rw [State.enterFault_low hj, State.updPart_rf]
  · rfl

theorem State.reactDegrade_low (n : Nat) : (s.reactDegrade n).rf j = s.rf j := by
  rw [State.reactDegrade]
  split
  · rw [State.enterFault_low hj, State.updPart_rf]
  · rfl

theorem State.reactFence_low (n : Nat) : (s.reactFence n).rf j = s.rf j := by
  rw [State.reactFence]
  split
  · rw [State.enterFault_low hj, State.updPart_rf]
  · rfl

theorem State.haltModule_low : s.haltModule.rf j = s.rf j := by
  rw [State.haltModule, State.forEach, foldl_keeps (State.rf · j), State.irqPage_rf, State.wf_low hj _ ⟨by decide, by decide⟩]
  intro u n
  split
  · rw [State.irqPart_rf, State.wf_low hj _ (by simp only [FaultKey, PFLT_STATUS_STICKY, partPage]; omega),
      State.enterFault_low hj]
  · rfl

omit hj in
theorem State.sweepFenced_rf (n : Nat) (hit : Nat → Bool) : (s.sweepFenced n hit).rf j = s.rf j := by
  rw [State.sweepFenced]
  split
  · exact State.rf_ite rfl rfl
  · rfl

omit hj in
theorem State.taint_rf (n t : Nat) : (s.taint n t).rf j = s.rf j := by
  rw [State.taint, State.updPart_rf]
  refine foldl_keeps (fun p : List Item × State => p.2.rf j) (fun p i => ?_) _ ([], s)
  dsimp only
  split
  · rfl
  split <;> rfl

theorem State.epochTile_low (t : Nat) : (s.epochTile t).rf j = s.rf j := by
  rw [State.epochTile, State.breakLatches_rf, State.bump_low hj _ (by simp only [FaultKey, TILE_EPOCH_EPOCH, tilePage]; omega)]

/-- The fence bit of a tile, the count and the epoch. -/
theorem State.fenceBit_low (p t y v : Nat) :
    (((s.wf (PLN_FENCED p y) v).bump (PLN_STATE_FENCED_TILES p)).epochTile t).rf j = s.rf j := by
  rw [State.epochTile_low hj, State.bump_low hj _ (by simp only [FaultKey, PLN_STATE_FENCED_TILES, plainPage]; omega),
    State.wf_low hj _ (by simp only [FaultKey, PLN_FENCED, plainPage]; omega)]

theorem State.fenceTile_low (t : Nat) : (s.fenceTile t).rf j = s.rf j := by
  unfold State.fenceTile
  split
  · rfl
  extract_lets p k s0 s1 s2
  have h0 : s0.rf j = s.rf j := State.fenceBit_low hj p t (localY t) _
  clear_value s0
  have h1 : s1.rf j = s.rf j := (State.updPlain_rf ..).trans h0
  clear_value s1
  have h2 : s2.rf j = s.rf j := by
    simp only [s2]
    split
    · rw [State.taint_rf, State.sweepFenced_rf, h1]
    · exact h1
  split <;> exact h2

theorem State.suspendRoutes_low (p : Nat) : (s.suspendRoutes p).rf j = s.rf j := by
  have hk : ∀ t k, FaultKey (TILE_QCRED_CREDITS t k) := fun t k => by
    simp only [FaultKey, TILE_QCRED_CREDITS, tilePage]
    omega
  rw [State.suspendRoutes]
  refine foldl_keeps (State.rf · j) (fun u t => ?_) _ _
  rw [State.forEach]
  refine foldl_keeps (State.rf · j) (fun v k => ?_) _ _
  split
  · dsimp only
    split
    · rw [State.updPart_rf, State.wf_low hj _ (hk t k)]
    · exact State.wf_low hj _ (hk t k)
  · rfl

/-! ### A load that a fence ends -/

theorem State.setSel_low (n c : Nat) : (s.setSel n c).rf j = s.rf j := by
  rw [State.setSel]
  dsimp only
  rw [State.wsh_rf, State.wf_low hj _ ⟨by decide, by decide⟩]

theorem State.putCopies_low (n : Nat) (c : Copies) : (s.putCopies n c).rf j = s.rf j := by
  rw [State.putCopies, State.setCold, State.updKeeper_rf, State.setSel_low hj, State.wfs_low hj]
  intro x hx
  simp only [List.mem_cons, List.not_mem_nil, or_false] at hx
  rcases hx with rfl | rfl | rfl | rfl <;>
    simp only [FaultKey, IMG_PCOPY_A_STATE, IMG_PCOPY_B_STATE, IMG_PCOPY_A_SLOT, IMG_PCOPY_B_SLOT] <;> omega

theorem State.imgEnd_low (l : Load) (code : Nat) : (s.imgEnd l code).rf j = s.rf j := by
  unfold State.imgEnd
  extract_lets s1 s2
  have h1 : s1.rf j = s.rf j := State.wfs_low hj fun x hx => by
    simp only [List.mem_cons, List.not_mem_nil, or_false] at hx
    rcases hx with rfl | rfl
    · exact ⟨(by decide : IMG_STATUS_STATE.lo < 64), Or.inl (by decide : 0x9000 ≤ IMG_STATUS_STATE.off)⟩
    · exact ⟨(by decide : IMG_STATUS_RESULT.lo < 64), Or.inl (by decide : 0x9000 ≤ IMG_STATUS_RESULT.off)⟩
  clear_value s1
  have hcopy : FaultKey (copyStateK l.part l.copy) := by
    rw [copyStateK]
    split <;> simp only [FaultKey, IMG_PCOPY_A_STATE, IMG_PCOPY_B_STATE] <;> omega
  have h2 : s2.rf j = s.rf j := State.rf_ite h1 (State.rf_ite ((State.wf_low hj _ hcopy).trans h1)
    (State.rf_ite (((State.setSel_low hj _ _).trans (State.putCopies_low hj _ _)).trans h1)
      (State.rf_ite ((State.putCopies_low hj _ _).trans h1) h1)))
  clear_value s2
  have h3 : (if l.placing then s2.freeSlots else s2.updChest fun x => { x with imgs := sdel x.imgs l.slot }).rf j = s.rf j :=
    State.rf_ite h2 h2
  rw [State.loadReport]
  exact State.rf_ite h3 h3

theorem State.fenceLoad_low (p : Nat) : (s.fenceLoad p).1.rf j = s.rf j := by
  rw [State.fenceLoad]
  split
  · split
    · exact (State.irqPage_rf _).trans (State.imgEnd_low hj _ _)
    · rfl
  · rfl

theorem State.fencePlain_low (p lvl : Nat) : (s.fencePlain p lvl).1.rf j = s.rf j := by
  unfold State.fencePlain
  extract_lets cur s1 s2 s3 r
  have h1 : s1.rf j = s.rf j := by
    simp only [s1]
    split
    · rfl
    · exact State.wf_low hj _ (by simp only [FaultKey, PLN_STATE_STATE, plainPage]; omega)
  clear_value s1
  have h2 : s2.rf j = s.rf j := by
    simp only [s2]
    split
    · rw [State.updPlain_rf, State.suspendRoutes_low hj, h1]
    · exact h1
  clear_value s2
  have h3 : s3.rf j = s.rf j := by
    simp only [s3]
    split
    · rw [State.reactFence_low hj, State.sweepFenced_rf, h2]
    · exact h2
  clear_value s3
  split
  · rfl
  · simp only [r]
    split
    · exact (State.fenceLoad_low hj p).trans h3
    · exact h3

/-! ### Raising -/

omit hj in
/-- The faults that a fence raises lie on whole pages. -/
theorem fenceLoad_pages (p : Nat) : ∀ x ∈ (s.fenceLoad p).2, x.2.1 % 0x1000 = 0 := by
  rw [State.fenceLoad]
  split
  · split
    · intro x hx
      simp only [List.mem_singleton] at hx
      rw [hx]
      show pgIMG % 0x1000 = 0
      decide
    · intro x hx; exact absurd hx List.not_mem_nil
  · intro x hx; exact absurd hx List.not_mem_nil

omit hj in
theorem fencePlain_pages (p lvl : Nat) : ∀ x ∈ (s.fencePlain p lvl).2, x.2.1 % 0x1000 = 0 := by
  unfold State.fencePlain
  extract_lets cur s1 s2 s3 r
  split
  · intro x hx; exact absurd hx List.not_mem_nil
  · intro x hx
    rcases List.mem_cons.mp hx with rfl | hx
    · simp only [plainPage]
      omega
    · simp only [r] at hx
      split at hx
      · exact fenceLoad_pages p x hx
      · exact absurd hx List.not_mem_nil

theorem State.applyReact_low (pg r : Nat) (parts : List Nat) : (s.applyReact pg r parts).1.rf j = s.rf j := by
  unfold State.applyReact
  extract_lets s1 w
  have h1 : s1.rf j = s.rf j := by
    simp only [s1]
    split
    · rw [State.forEach]
      refine foldl_keeps (State.rf · j) (fun u n => ?_) _ _
      exact State.updPart_rf ..
    · rfl
  clear_value s1 w
  split
  · split
    · exact (State.fenceTile_low hj _).trans h1
    · exact h1
  · split
    · exact (State.fencePlain_low hj _ _).trans h1
    · exact h1
  · split
    · exact (State.fencePlain_low hj _ _).trans h1
    · exact h1
  · show (s1.forEach parts State.reactPause).rf j = s.rf j
    rw [State.forEach, foldl_keeps (State.rf · j) fun u n => State.reactPause_low hj n, h1]
  · show (s1.forEach parts State.reactDegrade).rf j = s.rf j
    rw [State.forEach, foldl_keeps (State.rf · j) fun u n => State.reactDegrade_low hj n, h1]
  · dsimp only
    rw [State.haltModule_low hj, h1]
  · exact h1

omit hj in
theorem applyReact_pages (pg r : Nat) (parts : List Nat) : ∀ x ∈ (s.applyReact pg r parts).2, x.2.1 % 0x1000 = 0 := by
  unfold State.applyReact
  extract_lets s1 w
  clear_value s1 w
  have hnil : ∀ x ∈ ([] : List (Nat × Nat × Option Nat)), x.2.1 % 0x1000 = 0 := fun x hx => absurd hx List.not_mem_nil
  split
  · split <;> exact hnil
  · split
    · exact fencePlain_pages _ _
    · exact hnil
  · split
    · exact fencePlain_pages _ _
    · exact hnil
  all_goals exact hnil

theorem State.raise1_low {pg : Nat} (hpg : pg % 0x1000 = 0) (code : Nat) (ppn : Option Nat) :
    (s.raise1 code pg ppn).1.rf j = s.rf j := by
  unfold State.raise1
  extract_lets parts s1 masked r0 r tb s2 s3 s4 s5
  have h1 : s1.rf j = s.rf j := State.bump_low hj _ (by
    have : faultClass code < 16 := Nat.mod_lt _ (by decide)
    simp only [FaultKey, FLT_CLASS_COUNT_COUNT]
    omega)
  have h2 : s2.rf j = s.rf j := (State.offer_low hj hpg ..).trans h1
  clear_value s2
  have h3 : s3.rf j = s.rf j := (foldl_keeps (State.rf · j)
    (fun u n => State.offer_low hj (by simp only [partPage]; omega) ..) _ _).trans h2
  clear_value s3
  have h4 : s4.rf j = s.rf j := by
    simp only [s4]
    split
    · exact h3
    · exact (State.offer_low hj (by decide) ..).trans h3
  clear_value s4
  have h5 : s5.rf j = s.rf j := by
    simp only [s5]
    split
    · exact (State.irqPage_rf _).trans h4
    · exact h4
  exact (State.applyReact_low hj ..).trans h5

theorem State.raiseAll_low (fuel : Nat) : ∀ (s : State) (l : List (Nat × Nat × Option Nat)),
    (∀ x ∈ l, x.2.1 % 0x1000 = 0) → (State.raiseAll fuel s l).rf j = s.rf j := by
  induction fuel with
  | zero => intro s l _; rfl
  | succ fuel ih =>
    intro s l hl
    cases l with
    | nil => rfl
    | cons x l =>
      obtain ⟨hx, hl⟩ := List.forall_mem_cons.mp hl
      refine (ih _ _ fun y hy => ?_).trans (State.raise1_low hj hx x.1 x.2.2)
      rcases List.mem_append.mp hy with hy | hy
      · exact hl y hy
      · exact applyReact_pages _ _ _ y hy

/-- A fault leaves the fields of the lower pages. -/
theorem State.raise_low {pg : Nat} (hpg : pg % 0x1000 = 0) (code : Nat) : (s.raise code pg).rf j = s.rf j :=
  State.raiseAll_low hj 16 s _ fun x hx => by rw [List.mem_singleton.mp hx]; exact hpg

end

end Sys2Proof.Machine

/-! PROOF. Edges, index pulses, samples, loss, PTP, queries and adjustments of timebases. -/

namespace Sys2Proof.Machine

/-- A fold in which one member of the list alone does anything. -/
theorem foldl_once {α σ : Type} {f : σ → α → σ} {u : σ} {b : α} : ∀ {l : List α}, l.Nodup → b ∈ l →
    (∀ x ∈ l, x ≠ b → f u x = u) → (∀ x ∈ l, x ≠ b → f (f u b) x = f u b) → l.foldl f u = f u b
  | [], _, hb, _, _ => absurd hb List.not_mem_nil
  | x :: l, hd, hb, h0, h1 => by
    obtain ⟨hx, hd⟩ := List.nodup_cons.mp hd
    obtain ⟨h0x, h0⟩ := List.forall_mem_cons.mp h0
    obtain ⟨h1x, h1⟩ := List.forall_mem_cons.mp h1
    rw [List.foldl_cons]
    by_cases hxb : x = b
    · subst hxb
      have hrest : ∀ m : List α, (∀ y ∈ m, y ∈ l) → m.foldl f (f u x) = f u x := by
        intro m
        induction m with
        | nil => intro _; rfl
        | cons y m ih =>
          intro hm
          obtain ⟨hy, hm⟩ := List.forall_mem_cons.mp hm
          rw [List.foldl_cons, h1 y hy (fun h => hx (h ▸ hy)), ih hm]
      exact hrest l fun _ hy => hy
    · rw [h0x hxb]
      exact foldl_once hd ((List.mem_cons.mp hb).resolve_left fun h => hxb h.symm) h0 h1

theorem foldl_stays {α σ : Type} {f : σ → α → σ} {u : σ} {l : List α} (h : ∀ x ∈ l, f u x = u) : l.foldl f u = u :=
  List.foldlRecOn l f (motive := (· = u)) rfl fun v hv x hx => by rw [hv, h x hx]

theorem ofSigned_lt (v : Int) (w : Nat) : ofSigned v w < 2 ^ w := by
  have hpos : (0 : Int) < ((2 ^ w : Nat) : Int) := by exact_mod_cast Nat.two_pow_pos w
  have hnn := Int.emod_nonneg v hpos.ne'
  have hlt := Int.emod_lt_of_pos v hpos
  rw [ofSigned]
  omega

section
variable {s : State} {b : Nat}

/-! ### Timebases as a store -/

@[simp] theorem State.tb_setTb_self (x : Tb) : (s.setTb b x).tb b = x := by
  rw [State.tb, State.setTb]
  dsimp only
  rw [sget_sset_self]

theorem State.noteCross_keeps {β : Type} (view : State → β) (h : ∀ u n f, view (State.updPart u n f) = view u) :
    view (s.noteCross b) = view s := by
  rw [State.noteCross, State.forEach]
  exact foldl_keeps view (fun u n => noteCrossPart_keeps view (fun v f => h v n f) b) _ _

/-! ### Edges -/

theorem exec_timebaseEdge_one {stable now : Nat} (hb : b < 8) (hf : s.rb MOD_STATUS_BACKUP_ACTIVE = false) :
    exec (.timebaseEdge [b] stable now) s = .next
      (if s.rf (TBS_TB_CFG_FILTER b) ≤ stable then
        ({ s.at now with levels := s.levels ^^^ 2 ^ b } : State).forEach (List.range 8) fun u c => u.tbEdge [b] c
      else (s.at now).bump (TBS_TB_ERRORS_GLITCHES b)) := by
  have hins : ([b].filter fun i => decide (i < 8)).eraseDups = [b] := by
    rw [List.filter_cons_of_pos (by simpa using hb)]
    rfl
  rw [show exec (.timebaseEdge [b] stable now) s = execTimebaseEdge [b] stable now s from rfl, execTimebaseEdge]
  dsimp only
  rw [if_neg (by simp [hf]), hins]
  by_cases hst : s.rf (TBS_TB_CFG_FILTER b) ≤ stable
  · have hacc : ([b].filter fun i => decide (s.rf (TBS_TB_CFG_FILTER i) ≤ stable)) = [b] := by simp [hst]
    have hrest : ([b].filter fun i => !([b] : List Nat).contains i) = [] := by simp
    rw [hacc, hrest, if_pos hst]
    rfl
  · have hacc : ([b].filter fun i => decide (s.rf (TBS_TB_CFG_FILTER i) ≤ stable)) = [] := by simpa using hst
    have hrest : ([b].filter fun i => !([] : List Nat).contains i) = [b] := by simp
    have hnone : ∀ (u : State) (c : Nat), u.tbEdge [] c = u := fun u c => by
      rw [State.tbEdge]
      exact if_neg (by simp)
    rw [hacc, hrest, if_neg hst, State.forEach, List.foldl_nil]
    have hsame := forEach_same (l := List.range 8) (f := fun u c => u.tbEdge [] c) (fun u c _ => hnone u c)
    exact congrArg _ (hsame _)

/-- The step that an accepted edge of input `b` alone makes in mode 1. -/
def State.quadStep (s : State) (b : Nat) : Int :=
  if (s.levels.testBit b != s.levels.testBit (s.rf (TBS_TB_CFG_SRC_B b))) != s.rb (TBS_TB_CFG_DIR_INV b) then 256 else -256

theorem tbEdge_quad (hm : s.rf (TBS_TB_CFG_MODE b) = 1) (hst : s.rf (TBS_TB_STATUS_STATE b) = 1)
    (hb : s.rf (TBS_TB_CFG_SRC_B b) ≠ b) :
    s.tbEdge [b] b = (s.setTb b { s.tb b with quietFrom := s.time }).tbCount b (s.quadStep b) := by
  have hseen : s.edgeSeen b = s.setTb b { s.tb b with quietFrom := s.time } := by
    rw [State.edgeSeen, if_pos hst]
  have hrf : ∀ j, (s.setTb b { s.tb b with quietFrom := s.time }).rf j = s.rf j := fun _ => rfl
  rw [State.tbEdge, if_pos (by rw [hm]; simp), hseen, State.tbStep, hrf, hm]
  dsimp only
  rw [if_neg (by rw [hrf]; simpa using hb), hrf]
  simp only [List.contains_cons, beq_self_eq_true, Bool.true_or, if_true]
  rfl

theorem posClip_of_range {v : Int} (hlo : -(2 ^ 47) ≤ v) (hhi : v < 2 ^ 47) : posClip v = v := by
  rw [posClip]
  omega

theorem rangeFault_in {raw : Int} (h : posClip raw = raw) : s.rangeFault raw = s := if_pos h

theorem tbCount_keeps {β : Type} (view : State → β) {d : Int} (hr : posClip ((s.tb b).pos + d) = (s.tb b).pos + d)
    (hpart : ∀ u n f, view (State.updPart u n f) = view u) (hset : ∀ u x, view (State.setTb u b x) = view u)
    (hrev : ∀ u v, view (State.wf u (TBS_TB_STATUS_REVERSE b) v) = view u) : view (s.tbCount b d) = view s := by
  rw [State.tbCount, State.noteCross_keeps view hpart, rangeFault_in hr, hrev, hset]

theorem tbCount_pos {d : Int} (hr : posClip ((s.tb b).pos + d) = (s.tb b).pos + d) :
    ((s.tbCount b d).tb b).pos = (s.tb b).pos + d := by
  rw [State.tbCount, State.noteCross_keeps (fun u => (u.tb b).pos) (fun _ _ _ => rfl), rangeFault_in hr]
  refine (congrArg Tb.pos (State.tb_setTb_self (s := s) _)).trans ?_
  exact hr

/-- An edge of one input of a quadrature timebase, while no other timebase counts. -/
theorem edge_quad {now : Nat} (hb : b < 8) (hm : s.rf (TBS_TB_CFG_MODE b) = 1) (hst : s.rf (TBS_TB_STATUS_STATE b) = 1)
    (hsrc : s.rf (TBS_TB_CFG_SRC_B b) ≠ b) (hoth : ∀ m, m < 8 → m ≠ b → s.rf (TBS_TB_CFG_MODE m) = 0)
    (hlo : -(2 ^ 47) + 256 ≤ (s.tb b).pos) (hhi : (s.tb b).pos < 2 ^ 47 - 256) :
    let u : State := { s.at now with levels := s.levels ^^^ 2 ^ b }
    let s' := u.forEach (List.range 8) fun u c => u.tbEdge [b] c
    (s'.tb b).pos = (s.tb b).pos + u.quadStep b ∧ s'.levels = u.levels ∧ BytesKept s s' := by
  intro u s'
  have hstep : u.quadStep b = 256 ∨ u.quadStep b = -256 := by
    rw [State.quadStep]
    split
    · exact Or.inl rfl
    · exact Or.inr rfl
  have hclip : posClip ((s.tb b).pos + u.quadStep b) = (s.tb b).pos + u.quadStep b :=
    posClip_of_range (by omega) (by omega)
  have hedge : u.tbEdge [b] b = (u.setTb b { u.tb b with quietFrom := u.time }).tbCount b (u.quadStep b) := tbEdge_quad hm hst hsrc
  generalize hw : u.setTb b { u.tb b with quietFrom := u.time } = w at hedge
  have hwpos : (w.tb b).pos = (s.tb b).pos := by rw [← hw, State.tb_setTb_self]; rfl
  have hclip' : posClip ((w.tb b).pos + u.quadStep b) = (w.tb b).pos + u.quadStep b := by rw [hwpos]; exact hclip
  have hmode : ∀ m, m ≠ b → (u.tbEdge [b] b).rf (TBS_TB_CFG_MODE m) = s.rf (TBS_TB_CFG_MODE m) := by
    intro m _
    rw [hedge, tbCount_keeps (State.rf · (TBS_TB_CFG_MODE m)) hclip' (fun _ _ _ => rfl) (fun _ _ => rfl) fun v x =>
      State.rf_wf_ne v x (by simp only [Fk.key, TBS_TB_CFG_MODE, TBS_TB_STATUS_REVERSE]; omega), ← hw]
    rfl
  have hidle : ∀ (v : State) (m : Nat), v.rf (TBS_TB_CFG_MODE m) = 0 → v.tbEdge [b] m = v := fun v m h => by
    rw [State.tbEdge]
    exact if_neg (by simp [h])
  have hall : s' = u.tbEdge [b] b := foldl_once List.nodup_range (List.mem_range.mpr hb)
    (fun m hm' hne => hidle u m (hoth m (List.mem_range.mp hm') hne))
    fun m hm' hne => hidle _ m ((hmode m hne).trans (hoth m (List.mem_range.mp hm') hne))
  rw [hall, hedge]
  refine ⟨by rw [tbCount_pos hclip', hwpos], ?_, fun a => ?_⟩
  · rw [tbCount_keeps (fun v => v.levels) hclip' (fun _ _ _ => rfl) (fun _ _ => rfl) fun _ _ => rfl, ← hw]
    rfl
  · rw [tbCount_keeps (fun v => v.byte a) hclip' (fun _ _ _ => rfl) (fun _ _ => rfl) fun _ _ => rfl, ← hw]
    rfl

theorem testBit_flip_self (v : Nat) : (v ^^^ 2 ^ b).testBit b = !v.testBit b := by
  rw [Nat.testBit_xor, Nat.testBit_two_pow_self, Bool.xor_true]

theorem testBit_flip_ne (v : Nat) {i : Nat} (h : i ≠ b) : (v ^^^ 2 ^ b).testBit i = v.testBit i := by
  rw [Nat.testBit_xor, Nat.testBit_two_pow_of_ne h.symm, Bool.xor_false]

/-! ### Quadrature errors, edges seen -/

theorem edgeSeen_running (h : s.rf (TBS_TB_STATUS_STATE b) = 1) : s.edgeSeen b = s.setTb b { s.tb b with quietFrom := s.time } :=
  if_pos h

/-- The timebase runs on from its current position. -/
def State.rerun (s : State) (b : Nat) : State :=
  (s.setTb b { s.tb b with quietFrom := s.time, pos := s.tbPos b, base := s.time, step := 0, gapNs := 0, same := false, trail := [] }).wf
    (TBS_TB_STATUS_STATE b) 1

theorem edgeSeen_again (h : s.rf (TBS_TB_STATUS_STATE b) ≠ 1) : s.edgeSeen b = s.rerun b := if_neg h

theorem rerun_tb : (s.rerun b).tb b = { s.tb b with quietFrom := s.time, pos := s.tbPos b, base := s.time, step := 0, gapNs := 0, same := false, trail := [] } :=
  State.tb_setTb_self _

theorem edgeSeen_quad : ((s.edgeSeen b).tb b).quad = (s.tb b).quad := by
  by_cases h : s.rf (TBS_TB_STATUS_STATE b) = 1
  · rw [edgeSeen_running h, State.tb_setTb_self]
  · rw [edgeSeen_again h, rerun_tb]

theorem edgeSeen_time : (s.edgeSeen b).time = s.time := by
  by_cases h : s.rf (TBS_TB_STATUS_STATE b) = 1
  · rw [edgeSeen_running h]
    rfl
  · rw [edgeSeen_again h]
    rfl

theorem edgeSeen_rf {j : Fk} (hj : j.key ≠ (TBS_TB_STATUS_STATE b).key) : (s.edgeSeen b).rf j = s.rf j := by
  by_cases h : s.rf (TBS_TB_STATUS_STATE b) = 1
  · rw [edgeSeen_running h]
    rfl
  · rw [edgeSeen_again h, State.rerun, State.rf_wf_ne _ _ hj]
    rfl

theorem tbEdge_both (hm : s.rf (TBS_TB_CFG_MODE b) = 1)
    (hq : ((s.tb b).quad.filter fun t => decide (s.time < t + 1000000)).length < 15) :
    s.tbEdge [b, s.rf (TBS_TB_CFG_SRC_B b)] b = ((s.edgeSeen b).bump (TBS_TB_ERRORS_QUAD_ERRORS b)).setTb b
      { (s.edgeSeen b).tb b with quad := s.time :: (s.tb b).quad.filter fun t => decide (s.time < t + 1000000) } := by
  have hmode : (s.edgeSeen b).rf (TBS_TB_CFG_MODE b) = 1 := by
    rw [edgeSeen_rf (by simp only [Fk.key, TBS_TB_CFG_MODE, TBS_TB_STATUS_STATE]; omega), hm]
  have hsrc : (s.edgeSeen b).rf (TBS_TB_CFG_SRC_B b) = s.rf (TBS_TB_CFG_SRC_B b) :=
    edgeSeen_rf (by simp only [Fk.key, TBS_TB_CFG_SRC_B, TBS_TB_STATUS_STATE]; omega)
  rw [State.tbEdge, if_pos (by rw [hm]; simp), State.tbStep, hmode]
  dsimp only
  rw [hsrc, if_pos (by simp), State.quadError, edgeSeen_quad, edgeSeen_time]
  exact if_neg (by rw [List.length_cons]; omega)

/-! ### Index pulses -/

/-- The position of a timebase does not depend on a field that it does not read. -/
theorem State.tbPos_wf {n v : Nat} {k : Fk} (hf : MOD_STATUS_BACKUP_ACTIVE.key ≠ k.key) (hst : (TBS_TB_STATUS_STATE n).key ≠ k.key)
    (hc : (TBS_TB_LOSS_COAST_MS n).key ≠ k.key) (hm : (TBS_TB_CFG_MODE n).key ≠ k.key) (hr : (TBS_TB_RATE_RATE n).key ≠ k.key) :
    (s.wf k v).tbPos n = s.tbPos n := by
  rw [State.tbPos, State.tbRaw, State.frozen, State.rb, State.rf_wf_ne _ _ hf, State.rf_wf_ne _ _ hst, State.rf_wf_ne _ _ hc,
    State.rf_wf_ne _ _ hm, State.rf_wf_ne _ _ hr]
  rfl

/-- The latched index position of timebase `c`. -/
def State.indexed (s : State) (c : Nat) : State :=
  (s.wf (TBS_TB_INDEX_POS c) (ofSigned (s.tbPos c) 48)).wf (TBS_TB_STATUS_INDEX_VALID c) 1

/-- The step of an index pulse of input `z` for timebase `c`. -/
def State.indexStep (z : Nat) (s : State) (c : Nat) : State :=
  let m := s.rf (TBS_TB_CFG_MODE c)
  if (m = 1 ∨ m = 2) ∧ s.rb (TBS_TB_CFG_Z_EN c) ∧ s.rf (TBS_TB_CFG_SRC_Z c) = z then s.indexed c else s

theorem exec_indexPulse {z stable now : Nat} (hz : z < 8) (hf : s.rb MOD_STATUS_BACKUP_ACTIVE = false)
    (hst : s.rf (TBS_TB_CFG_FILTER z) ≤ stable) :
    exec (.indexPulse z stable now) s = .next ((s.at now).forEach (List.range 8) (State.indexStep z)) := by
  rw [show exec (.indexPulse z stable now) s = execIndexPulse z stable now s from rfl, execIndexPulse]
  dsimp only
  rw [if_neg (by simp [hf]; omega), if_neg (by omega)]
  rfl

theorem indexStep_keeps {β : Type} (view : State → β) {z c : Nat} (hpos : ∀ u v, view (State.wf u (TBS_TB_INDEX_POS c) v) = view u)
    (hvalid : ∀ u v, view (State.wf u (TBS_TB_STATUS_INDEX_VALID c) v) = view u) : view (s.indexStep z c) = view s := by
  rw [State.indexStep]
  split
  · rw [State.indexed, hvalid, hpos]
  · rfl

/-- What the latching of timebase `b` reads. -/
def State.indexView (s : State) (b : Nat) : Nat × Nat × Nat × Int :=
  (s.rf (TBS_TB_CFG_MODE b), s.rf (TBS_TB_CFG_Z_EN b), s.rf (TBS_TB_CFG_SRC_Z b), s.tbPos b)

theorem indexStep_view (z c : Nat) : (s.indexStep z c).indexView b = s.indexView b := by
  refine indexStep_keeps (fun u => u.indexView b) (fun u v => ?_) fun u v => ?_ <;>
    rw [State.indexView, State.rf_wf_ne, State.rf_wf_ne, State.rf_wf_ne, State.tbPos_wf, State.indexView] <;>
    simp only [Fk.key, TBS_TB_INDEX_POS, TBS_TB_STATUS_INDEX_VALID, TBS_TB_CFG_MODE, TBS_TB_CFG_Z_EN, TBS_TB_CFG_SRC_Z,
      TBS_TB_STATUS_STATE, TBS_TB_LOSS_COAST_MS, TBS_TB_RATE_RATE, MOD_STATUS_BACKUP_ACTIVE] <;> omega

theorem indexed_pos : (s.indexed b).rf (TBS_TB_INDEX_POS b) = ofSigned (s.tbPos b) 48 := by
  rw [State.indexed, State.rf_wf_ne _ _ (by simp only [Fk.key, TBS_TB_INDEX_POS, TBS_TB_STATUS_INDEX_VALID]; omega),
    State.rf_wf_self]
  exact Nat.mod_eq_of_lt (ofSigned_lt _ 48)

/-- The pulse latches the position of a timebase that names its input. -/
theorem indexPulse_latched {z : Nat} (hb : b < 8) (hm : s.rf (TBS_TB_CFG_MODE b) = 1 ∨ s.rf (TBS_TB_CFG_MODE b) = 2)
    (he : s.rb (TBS_TB_CFG_Z_EN b) = true) (hz : s.rf (TBS_TB_CFG_SRC_Z b) = z) :
    (s.forEach (List.range 8) (State.indexStep z)).rf (TBS_TB_INDEX_POS b) = ofSigned (s.tbPos b) 48 ∧
      (s.forEach (List.range 8) (State.indexStep z)).rf (TBS_TB_STATUS_INDEX_VALID b) = 1 := by
  have hhit : ∀ u : State, u.indexView b = s.indexView b → u.indexStep z b = u.indexed b ∧ u.tbPos b = s.tbPos b := by
    intro u hu
    simp only [State.indexView, Prod.mk.injEq] at hu
    obtain ⟨hum, hue, huz, hup⟩ := hu
    exact ⟨if_pos ⟨hum ▸ hm, by rw [State.rb, hue]; exact he, huz.trans hz⟩, hup⟩
  rw [State.forEach]
  constructor
  · refine foldl_settles (fun u => u.indexView b = s.indexView b) (State.rf · (TBS_TB_INDEX_POS b)) rfl
      (fun u c _ hu => (indexStep_view z c).trans hu) (fun u hu => ?_) (fun u c _ _ hc => ?_) (List.mem_range.mpr hb)
    · obtain ⟨hstep, hpos⟩ := hhit u hu
      rw [hstep, indexed_pos, hpos]
    · refine indexStep_keeps (State.rf · (TBS_TB_INDEX_POS b)) (fun v x => State.rf_wf_ne v x ?_) fun v x => State.rf_wf_ne v x ?_ <;>
        simp only [Fk.key, TBS_TB_INDEX_POS, TBS_TB_STATUS_INDEX_VALID] <;> omega
  · refine foldl_settles (fun u => u.indexView b = s.indexView b) (State.rf · (TBS_TB_STATUS_INDEX_VALID b)) rfl
      (fun u c _ hu => (indexStep_view z c).trans hu) (fun u hu => ?_) (fun u c _ _ hc => ?_) (List.mem_range.mpr hb)
    · rw [(hhit u hu).1]
      exact State.rf_wf_self _ _ _
    · refine indexStep_keeps (State.rf · (TBS_TB_STATUS_INDEX_VALID b)) (fun v x => State.rf_wf_ne v x ?_)
        fun v x => State.rf_wf_ne v x ?_ <;> simp only [Fk.key, TBS_TB_INDEX_POS, TBS_TB_STATUS_INDEX_VALID] <;> omega

/-! ### Samples -/

theorem exec_historySample {now : Nat} (hm : (s.at now).mtime % 10000 = 0) (hf : s.rb MOD_STATUS_BACKUP_ACTIVE = false) :
    exec (.historySample now) s = .next ((s.at now).forEach (List.range 8) State.tbSample) := by
  rw [show exec (.historySample now) s = execHistorySample now s from rfl, execHistorySample,
    if_neg (by simp [hm, hf])]

theorem tbSample_in (hst : s.rf (TBS_TB_STATUS_STATE b) ≠ 0) (hr : posClip (s.tbRaw b) = s.tbRaw b)
    (hq : ∀ n, n < 16 → s.pttFires n = false) :
    let sm : Sample := { time := s.mtime, pos := s.tbPos b, coast := s.rf (TBS_TB_STATUS_STATE b) == 2
                         lost := s.rf (TBS_TB_STATUS_STATE b) == 3, gap := (s.tb b).mark }
    let h := (sm :: (s.tb b).hist).take 1048576
    s.tbSample b = (s.setTb b { s.tb b with hist := h, mark := false }).wf (TBS_TB_VEL_VELOCITY b)
      (ofSigned (velocity (s.rf (TBS_TB_LOSS_VEL_WIN b)) h) 64) := by
  intro sm h
  have hfires : ∀ (u : State) (v : Nat) (n : Nat), (u.wf (TBS_TB_VEL_VELOCITY b) v).pttFires n = u.pttFires n := by
    intro u v n
    have hpst : (u.wf (TBS_TB_VEL_VELOCITY b) v).pst n = u.pst n :=
      State.rf_wf_ne _ _ (by simp only [Fk.key, PART_STATE_STATE, TBS_TB_VEL_VELOCITY, partPage]; omega)
    rw [State.pttFires, hpst, State.pttFires]
  unfold State.tbSample
  rw [if_neg hst]
  dsimp only
  rw [rangeFault_in hr, ite_self, State.forEach]
  refine foldl_stays fun n hn => ?_
  have hn : ((s.setTb b { s.tb b with hist := h, mark := false }).wf (TBS_TB_VEL_VELOCITY b)
      (ofSigned (velocity (s.rf (TBS_TB_LOSS_VEL_WIN b)) h) 64)).pttFires n = false :=
    (hfires _ _ n).trans (hq n (List.mem_range.mp hn))
  rw [State.leadPart]
  exact if_pos (by rw [hn]; rfl)

/-! ### Loss -/

theorem exec_encoderLoss {now : Nat} (hb : b < 8) (hf : s.rb MOD_STATUS_BACKUP_ACTIVE = false)
    (hd : ((s.at now).noteCross b).lossDue b = true) :
    exec (.encoderLoss b now) s = .next (
      let s1 := (s.at now).noteCross b
      let s2 := (s1.irqPage pgTBS).raise 0x8003 pgTBS
      if s2.rf (TBS_TB_LOSS_COAST_MS b) = 0 then s2.tbLost b
      else (s2.setTb b { s2.tb b with pos := s1.tbPos b, base := s1.time, coastVel := s1.tbVel b, step := 0, gapNs := 0
                                      same := false, trail := [] }).wf (TBS_TB_STATUS_STATE b) 2) := by
  rw [show exec (.encoderLoss b now) s = execEncoderLoss b now s from rfl, execEncoderLoss]
  dsimp only
  rw [if_neg (by simp [hf, hd]; omega)]

theorem exec_coastExpiry {now : Nat} (hb : b < 8) (hf : s.rb MOD_STATUS_BACKUP_ACTIVE = false)
    (hst : ((s.at now).noteCross b).rf (TBS_TB_STATUS_STATE b) = 2)
    (ht : (((s.at now).noteCross b).tb b).base + ((s.at now).noteCross b).rf (TBS_TB_LOSS_COAST_MS b) * 1000000 ≤
      ((s.at now).noteCross b).time) : exec (.coastExpiry b now) s = .next (((s.at now).noteCross b).tbLost b) := by
  rw [show exec (.coastExpiry b now) s = execCoastExpiry b now s from rfl, execCoastExpiry]
  exact congrArg _ (if_pos ⟨hb, hst, by simp [hf], ht⟩)

/-- A partition without items closes none. -/
theorem closeItems_none {n cause : Nat} {f : Item → Bool} (h : (s.part n).items = []) :
    s.closeItems n cause f = (s.updPart n fun p => { p with items := [] }).wf (PTT_ITEMS_OPEN n) 0 := by
  rw [State.closeItems]
  simp only [h, List.filter_nil, List.map_nil, State.forEach, List.foldl_nil]
  rfl

theorem closeAll_none {β : Type} (view : State → β) (cause : Nat) (f : State → Nat → Item → Bool)
    (hpart : ∀ u n g, view (State.updPart u n g) = view u) (hopen : ∀ u n v, view (State.wf u (PTT_ITEMS_OPEN n) v) = view u)
    (h : ∀ n, n < 16 → (s.part n).items = []) :
    view (s.forEach (List.range 16) fun u n => u.closeItems n cause (f u n)) = view s := by
  rw [State.forEach]
  refine (List.foldlRecOn (motive := fun u : State => (∀ n, n < 16 → (u.part n).items = []) ∧ view u = view s) _ _
    ⟨h, rfl⟩ ?_).2
  rintro u ⟨hu, hv⟩ n hn
  rw [closeItems_none (hu n (List.mem_range.mp hn))]
  refine ⟨fun m hm => ?_, by rw [hopen, hpart, hv]⟩
  rw [State.wf_part, State.part_updPart]
  split
  · rfl
  · exact hu m hm

/-- The timebase is LOST and holds its position. -/
def State.lostAt (s : State) (b : Nat) : State :=
  (s.setTb b { s.tb b with pos := s.tbPos b, base := s.time, step := 0, gapNs := 0, same := false, trail := [] }).wf
    (TBS_TB_STATUS_STATE b) 3

theorem State.tbLost_eq : s.tbLost b =
    (s.lostAt b).forEach (List.range 16) fun u n => u.closeItems n 3 fun i => (u.ptt n i.anchor).tb == b := rfl

theorem tbLost_result (h : ∀ n, n < 16 → (s.part n).items = []) :
    (s.tbLost b).rf (TBS_TB_STATUS_STATE b) = 3 ∧ ((s.tbLost b).tb b).pos = s.tbPos b := by
  have hopen : ∀ n, (TBS_TB_STATUS_STATE b).key ≠ (PTT_ITEMS_OPEN n).key := fun n => by
    simp only [Fk.key, TBS_TB_STATUS_STATE, PTT_ITEMS_OPEN, partPage]
    omega
  have hitems : ∀ n, n < 16 → ((s.lostAt b).part n).items = [] := h
  rw [State.tbLost_eq]
  constructor
  · rw [closeAll_none (State.rf · (TBS_TB_STATUS_STATE b)) 3 (fun u n i => (u.ptt n i.anchor).tb == b) (fun _ _ _ => rfl)
      (fun u n v => State.rf_wf_ne u v (hopen n)) hitems, State.lostAt, State.rf_wf_self]
    rfl
  · rw [closeAll_none (fun u => (u.tb b).pos) 3 (fun u n i => (u.ptt n i.anchor).tb == b) (fun _ _ _ => rfl)
      (fun _ _ _ => rfl) hitems]
    exact congrArg Tb.pos (State.tb_setTb_self _)

/-! ### PTP -/

/-- The servo's clock after a message: settled, with the offset noted. -/
def State.ptpNoted (s : State) (now : Nat) (offset : Int) : State :=
  ((s.at now).ptpSettle).wf TBS_PTP_STATUS_OFFSET (ofSigned (max (-(2 ^ 31)) (min (2 ^ 31 - 1) offset)) 32)

theorem exec_ptp {port domain state rate now : Nat} {v6 p2p : Bool} {offset : Int} (he : s.rb TBS_PTP_CTRL_EN = true)
    (hp : s.rf TBS_PTP_CTRL_PORT = port) (hd : s.rf TBS_PTP_CTRL_DOMAIN = domain) (h6 : s.rb TBS_PTP_CTRL_IPV6 = v6)
    (h2 : s.rb TBS_PTP_CTRL_P2P = p2p) (hu : s.rb (PRT_STATUS_LINK_UP port) = true) :
    exec (.ptpMessageReceive port ⟨domain, v6, p2p⟩ offset state rate now) s = .next (
      let s3 := (s.ptpNoted now offset).ptpServo state
      if s3.rf TBS_PTP_CTRL_STEP_LIMIT_US * 1000 < offset.natAbs then s3.timeStep (-offset)
      else { s3 with ptpSlew := -offset, ptpRate := min rate 500 }) := by
  rw [show exec (.ptpMessageReceive port ⟨domain, v6, p2p⟩ offset state rate now) s =
    execPtpMessageReceive port ⟨domain, v6, p2p⟩ offset state rate now s from rfl, execPtpMessageReceive]
  exact congrArg _ (if_neg (by simp [he, hp, hd, h6, h2, hu]))

theorem ptpState_keeps {β : Type} (view : State → β) (st : Nat) (hw : ∀ u, view (State.wf u TBS_PTP_STATUS_STATE st) = view u)
    (hemit : ∀ u o, view (State.emit u o) = view u) : view (s.ptpState st) = view s := by
  rw [State.ptpState]
  split
  · rfl
  · rw [State.irqPage_keeps view hemit, hw]

theorem ptpState_state {st : Nat} (h : st < 8) : (s.ptpState st).rf TBS_PTP_STATUS_STATE = st := by
  rw [State.ptpState]
  split
  · assumption
  · rw [State.irqPage_rf, State.rf_wf_self]
    exact Nat.mod_eq_of_lt h

theorem ptpServo_keeps {β : Type} (view : State → β) (st : Nat)
    (hw : ∀ u v, view (State.wf u TBS_PTP_STATUS_STATE v) = view u) (hemit : ∀ u o, view (State.emit u o) = view u)
    (hraise : ∀ u, view (State.raise u 0x8007 pgTBS) = view u) : view (s.ptpServo st) = view s := by
  have hstate : ∀ v, view (s.ptpState v) = view s := fun v => ptpState_keeps view v (fun u => hw u v) hemit
  rw [State.ptpServo]
  split
  · rfl
  split
  · exact hstate _
  split
  · rw [hraise, hstate]
  · rfl

theorem ptpServo_follows {st : Nat} (h1 : 1 ≤ st) (h3 : st ≤ 3) (h : st = 3 ∨ s.rf TBS_PTP_STATUS_STATE < 3) :
    s.ptpServo st = s.ptpState st := by
  rw [State.ptpServo, if_neg (by omega), if_pos h]

theorem ptpServo_holdover {st : Nat} (h3 : st < 3) (h : s.rf TBS_PTP_STATUS_STATE = 4) : s.ptpServo st = s := by
  rw [State.ptpServo]
  split
  · rfl
  · rw [if_neg (by omega), if_neg (by omega)]

theorem pgTBS_aligned : pgTBS % 0x1000 = 0 := by decide

theorem raise_ptp {u : State} (code pg : Nat) : (u.raise code pg).ptpOff = u.ptpOff ∧ (u.raise code pg).ptpLast = u.ptpLast ∧
    (u.raise code pg).ptpSlew = u.ptpSlew := by
  rw [(u.raise_only code pg).eq]
  exact ⟨rfl, rfl, rfl⟩

theorem ptpNoted_rf {now : Nat} {offset : Int} {j : Fk} (hj : j.key ≠ TBS_PTP_STATUS_OFFSET.key) :
    (s.ptpNoted now offset).rf j = s.rf j := State.rf_wf_ne _ _ hj

/-- The limit above which an offset is stepped is the same after the servo. -/
theorem ptpServo_limit {now st : Nat} {offset : Int} :
    ((s.ptpNoted now offset).ptpServo st).rf TBS_PTP_CTRL_STEP_LIMIT_US = s.rf TBS_PTP_CTRL_STEP_LIMIT_US := by
  rw [ptpServo_keeps (State.rf · TBS_PTP_CTRL_STEP_LIMIT_US) st (fun u v => State.rf_wf_ne u v (by decide)) (fun _ _ => rfl)
    fun u => State.raise_low ⟨by decide, by decide, by decide, by decide⟩ pgTBS_aligned _, ptpNoted_rf (by decide)]

theorem ptpServo_clock {now st : Nat} {offset : Int} :
    ((s.ptpNoted now offset).ptpServo st).ptpOff = ((s.at now).ptpSettle).ptpOff ∧
      ((s.ptpNoted now offset).ptpServo st).ptpLast = max s.time now ∧ ((s.ptpNoted now offset).ptpServo st).ptpSlew = 0 ∧
      BytesKept s ((s.ptpNoted now offset).ptpServo st) :=
  ⟨ptpServo_keeps (fun u => u.ptpOff) st (fun _ _ => rfl) (fun _ _ => rfl) fun _ => (raise_ptp _ _).1,
    ptpServo_keeps (fun u => u.ptpLast) st (fun _ _ => rfl) (fun _ _ => rfl) fun _ => (raise_ptp _ _).2.1,
    ptpServo_keeps (fun u => u.ptpSlew) st (fun _ _ => rfl) (fun _ _ => rfl) fun _ => (raise_ptp _ _).2.2,
    fun a => ptpServo_keeps (fun u => u.byte a) st (fun _ _ => rfl) (fun _ _ => rfl) fun u => u.raise_byte _ _ a⟩

theorem ptpServo_regsKept {now st : Nat} {offset : Int} (h1 : 1 ≤ st) (h3 : st ≤ 3)
    (h : st = 3 ∨ s.rf TBS_PTP_STATUS_STATE < 3) :
    ((s.ptpNoted now offset).ptpServo st).rf TBS_PTP_STATUS_STATE = st ∧
      RegsKept s ((s.ptpNoted now offset).ptpServo st) [TBS_PTP_STATUS_OFFSET, TBS_PTP_STATUS_STATE] := by
  rw [ptpServo_follows h1 h3 (by rwa [ptpNoted_rf (by decide)])]
  refine ⟨ptpState_state (by omega), fun j hj => ?_⟩
  have hoff := hj TBS_PTP_STATUS_OFFSET (by simp)
  have hst := hj TBS_PTP_STATUS_STATE (by simp)
  rw [ptpState_keeps (State.rf · j) st (fun u => State.rf_wf_ne u _ hst.symm) fun _ _ => rfl, ptpNoted_rf hoff.symm]

/-! ### Steps of module time -/

/-- Timebase `b` follows module time. -/
def State.tbMoves (s : State) (b : Nat) : Bool := s.rf (TBS_TB_CFG_MODE b) == 5 && s.rf (TBS_TB_STATUS_STATE b) == 1

/-- Timebase `b` after a step of module time; `old` is the state before it. -/
def State.stepTb (old s : State) (b : Nat) : State :=
  let s3 := s.setTb b { s.tb b with mark := true }
  if s3.tbMoves b then (if old.tbPos b < s3.tbPos b then s3.jump b (old.tbPos b) (s3.tbPos b) else s3.noteCross b) else s3

theorem State.timeStep_eq (d : Int) : s.timeStep d =
    let s0 := (s.forEach ((List.range 8).filter s.tbMoves) State.noteCross).ptpSettle
    ((({ s0 with ptpOff := s0.ptpOff + d } : State).bump TBS_STEPS_COUNT).forEach (List.range 8) (State.stepTb s0)) := rfl

/-- No timebase is in mode 5. -/
def State.noFollowers (s : State) : Prop := ∀ b, b < 8 → s.rf (TBS_TB_CFG_MODE b) ≠ 5

theorem tbMoves_none (h : s.noFollowers) (hb : b < 8) : s.tbMoves b = false := by
  rw [State.tbMoves, beq_false_of_ne (h b hb), Bool.false_and]

theorem stepTb_none {old : State} (h : s.noFollowers) (hb : b < 8) : old.stepTb s b = s.setTb b { s.tb b with mark := true } := by
  rw [State.stepTb]
  dsimp only
  rw [if_neg (by rw [tbMoves_none (s := s.setTb b _) h hb]; decide)]

/-- A step of module time that no timebase follows. -/
theorem timeStep_none (h : s.noFollowers) (d : Int) : s.timeStep d =
    (({ s.ptpSettle with ptpOff := s.ptpSettle.ptpOff + d } : State).bump TBS_STEPS_COUNT).forEach (List.range 8)
      (State.stepTb s.ptpSettle) := by
  have hnone : (List.range 8).filter s.tbMoves = [] :=
    List.filter_eq_nil_iff.mpr fun b hb => by rw [tbMoves_none h (List.mem_range.mp hb)]; decide
  rw [State.timeStep_eq, hnone]
  rfl

theorem stepAll_keeps {β : Type} {old : State} (view : State → β) (h : s.noFollowers)
    (hset : ∀ u b x, view (State.setTb u b x) = view u) : view (s.forEach (List.range 8) old.stepTb) = view s := by
  rw [State.forEach]
  refine (List.foldlRecOn (motive := fun u : State => u.noFollowers ∧ view u = view s) _ _ ⟨h, rfl⟩ ?_).2
  rintro u ⟨hu, hv⟩ c hc
  rw [stepTb_none hu (List.mem_range.mp hc)]
  exact ⟨hu, by rw [hset, hv]⟩

theorem stepAll_mark {old : State} (h : s.noFollowers) (hb : b < 8) : ((s.forEach (List.range 8) old.stepTb).tb b).mark = true := by
  rw [State.forEach]
  refine foldl_settles State.noFollowers (fun u => (u.tb b).mark) h (fun u c hc hu => ?_) (fun u hu => ?_)
    (fun u c hc hu hne => ?_) (List.mem_range.mpr hb)
  · rw [stepTb_none hu (List.mem_range.mp hc)]
    exact hu
  · rw [stepTb_none hu hb, State.tb_setTb_self]
  · rw [stepTb_none hu (List.mem_range.mp hc)]
    exact congrArg Tb.mark (sget_sset_ne _ _ _ hne.symm)

/-- Settling twice at one time corrects nothing more. -/
theorem ptpSettle_settled (h : s.ptpSlew = 0) : s.ptpSettle.ptpOff = s.ptpOff := by
  rw [State.ptpSettle]
  dsimp only
  rw [State.ptpCorr, h]
  simp

theorem timeStep_result (h : s.noFollowers) (hs : s.ptpSlew = 0) (d : Int) :
    (s.timeStep d).ptpSlew = 0 ∧ (s.timeStep d).ptpOff = s.ptpOff + d ∧
      (s.timeStep d).rf TBS_STEPS_COUNT = (s.rf TBS_STEPS_COUNT + 1) % 2 ^ TBS_STEPS_COUNT.w ∧
      ∀ b, b < 8 → ((s.timeStep d).tb b).mark = true := by
  have hnone : (({ s.ptpSettle with ptpOff := s.ptpSettle.ptpOff + d } : State).bump TBS_STEPS_COUNT).noFollowers := fun b hb => by
    rw [State.rf_bump_ne (by simp only [Fk.key, TBS_TB_CFG_MODE, TBS_STEPS_COUNT]; omega)]
    exact h b hb
  rw [timeStep_none h]
  refine ⟨?_, ?_, ?_, fun b hb => stepAll_mark hnone hb⟩
  · rw [stepAll_keeps (fun u => u.ptpSlew) hnone fun _ _ _ => rfl]
    rfl
  · rw [stepAll_keeps (fun u => u.ptpOff) hnone fun _ _ _ => rfl, State.bump_ptpOff]
    dsimp only
    rw [ptpSettle_settled hs]
  · rw [stepAll_keeps (State.rf · TBS_STEPS_COUNT) hnone fun _ _ _ => rfl]
    exact State.rf_bump_self _

/-! ### Interpolation -/

/-- The quotient is that of the nearest integer. -/
theorem nearest_div (num : Nat) {den : Nat} (h : 0 < den) :
    2 * (((2 * num + den - 1) / (2 * den) * den : Nat) : Int) - 2 * num ≤ den ∧
      2 * (num : Int) - 2 * ((2 * num + den - 1) / (2 * den) * den : Nat) ≤ den := by
  have hlo := Nat.div_mul_le_self (2 * num + den - 1) (2 * den)
  have hhi := Nat.lt_div_mul_add (a := 2 * num + den - 1) (b := 2 * den) (by omega)
  have hq : (2 * num + den - 1) / (2 * den) * (2 * den) = 2 * ((2 * num + den - 1) / (2 * den) * den) := by ring
  rw [hq] at hlo hhi
  generalize (2 * num + den - 1) / (2 * den) * den = q at *
  omega

theorem interpolate_nearest {x y : Sample} {t : Nat} (hlt : x.time < y.time) :
    2 * ((interpolate x y t - x.pos) * ((y.time - x.time : Nat) : Int) - (y.pos - x.pos) * ((t - x.time : Nat) : Int)).natAbs ≤
      y.time - x.time := by
  obtain ⟨hup, hdown⟩ := nearest_div ((y.pos - x.pos).natAbs * (t - x.time)) (den := y.time - x.time) (by omega)
  rw [interpolate]
  dsimp only
  rw [if_neg (by omega)]
  generalize hq : (2 * ((y.pos - x.pos).natAbs * (t - x.time)) + (y.time - x.time) - 1) / (2 * (y.time - x.time)) = q at *
  generalize y.time - x.time = den at *
  generalize t - x.time = dt at *
  generalize hd : y.pos - x.pos = d at *
  push_cast at hup hdown
  by_cases hneg : d < 0
  · have habs : |d| = -d := abs_of_neg hneg
    rw [if_pos hneg, sub_sub_cancel_left]
    rw [habs] at hup hdown
    have hval : -(q : Int) * den - d * dt = -((q : Int) * den - -d * dt) := by ring
    rw [hval, Int.natAbs_neg]
    generalize (q : Int) * den = a at *
    generalize -d * (dt : Int) = c at *
    omega
  · have habs : |d| = d := abs_of_nonneg (by omega)
    rw [if_neg hneg, add_sub_cancel_left]
    rw [habs] at hup hdown
    generalize (q : Int) * den = a at *
    generalize d * (dt : Int) = c at *
    omega

theorem histAt_beyond {t : Nat} {x : Sample} {l : List Sample} (h : (s.tb b).hist = x :: l) (ht : x.time + 100000 < t) :
    s.histAt b t = (x.pos, 2, s) := by
  rw [State.histAt, h]
  dsimp only
  rw [if_pos (by omega), if_neg (by omega)]

end

/-- Settles O48. -/
theorem timebases : Obligations.Timebases := by
  unfold Obligations.Timebases
  refine ⟨fun s b stable now hb hf => ⟨fun hlt => ?_, fun hge hm hst hsrc hoth hlo hhi => ?_⟩,
    fun s b hm hq => tbEdge_both hm hq, fun s b => ⟨fun h => edgeSeen_running h, fun h => ?_⟩,
    fun s z b stable now hz hb hf hfl hm he hsz => ?_, fun s now hm hf => exec_historySample hm hf,
    fun s b hb hst hr hq => tbSample_in hst hr hq, fun s b now hb hf => ⟨fun hd hc => ?_, fun hd hc => ?_, fun hst ht => ?_⟩,
    fun s b hb h => tbLost_result h,
    fun s port domain state rate now v6 p2p offset he hp hd h6 h2 hu h1 h3 => ⟨fun hle => ?_, fun hlt hno hserv => ?_⟩,
    fun s now h => ?_, fun s v hw hr => ?_, fun x y t _ _ hlt => interpolate_nearest hlt,
    fun s b t x l h ht => histAt_beyond h ht, fun s b v hw hb hr => ?_⟩
  · rw [exec_timebaseEdge_one hb hf, if_neg (by omega)]
  · obtain ⟨hpos, hlev, hbytes⟩ := edge_quad (now := now) hb hm hst hsrc hoth hlo hhi
    refine ⟨_, by rw [exec_timebaseEdge_one hb hf, if_pos hge], hpos.trans ?_, ?_, hbytes⟩
    · have hnew : (s.levels ^^^ 2 ^ b).testBit (s.rf (TBS_TB_CFG_SRC_B b)) = s.levels.testBit (s.rf (TBS_TB_CFG_SRC_B b)) :=
        testBit_flip_ne _ hsrc
      have hold : (s.levels ^^^ 2 ^ b).testBit b = !s.levels.testBit b := testBit_flip_self _
      rw [State.quadStep]
      show (s.tb b).pos + (if ((s.levels ^^^ 2 ^ b).testBit b != (s.levels ^^^ 2 ^ b).testBit (s.rf (TBS_TB_CFG_SRC_B b))) !=
        s.rb (TBS_TB_CFG_DIR_INV b) then 256 else -256) = _
      rw [hold, hnew, Bool.not_bne]
    · rw [hlev]
      exact testBit_flip_self _
  · have htb : ((s.edgeSeen b).tb b).pos = s.tbPos b := by rw [edgeSeen_again h, rerun_tb]
    rw [edgeSeen_again h] at htb ⊢
    exact ⟨State.rf_wf_self _ _ _, htb, fun _ => rfl,
      fun j hj => State.rf_wf_ne _ _ (hj _ (List.mem_singleton_self _)).symm⟩
  · obtain ⟨hpos, hvalid⟩ := indexPulse_latched (s := s.at now) hb hm he hsz
    refine ⟨_, exec_indexPulse hz hf hfl, hpos, hvalid, fun a => ?_⟩
    rw [State.forEach]
    exact foldl_keeps (fun u : State => u.byte a)
      (fun u c => indexStep_keeps (fun v => v.byte a) (fun _ _ => rfl) fun _ _ => rfl) _ (s.at now)
  · rw [exec_encoderLoss hb hf hd]
    exact congrArg _ (if_pos hc)
  · refine ⟨_, exec_encoderLoss hb hf hd, ?_⟩
    dsimp only
    rw [if_neg hc]
    refine ⟨State.rf_wf_self _ _ _, ?_, ?_⟩ <;> rw [State.tb, State.wf_tbs, ← State.tb, State.tb_setTb_self]
  · exact exec_coastExpiry hb hf hst ht
  · obtain ⟨hoff, hlast, -, hbytes⟩ := ptpServo_clock (s := s) (now := now) (st := state) (offset := offset)
    refine ⟨_, exec_ptp he hp hd h6 h2 hu, ?_⟩
    dsimp only
    rw [if_neg (by rw [ptpServo_limit]; omega)]
    exact ⟨rfl, rfl, hoff, hlast, hbytes, fun h => ptpServo_regsKept h1 h3 h, fun hlt h4 => by
      rw [ptpServo_holdover hlt (by rwa [ptpNoted_rf (by decide)])]
      exact (ptpNoted_rf (by decide)).trans h4⟩
  · obtain ⟨hoff, -, hslew, -⟩ := ptpServo_clock (s := s) (now := now) (st := state) (offset := offset)
    obtain ⟨-, hkept⟩ := ptpServo_regsKept (s := s) (now := now) (offset := offset) h1 h3 hserv
    have hfollow : ((s.ptpNoted now offset).ptpServo state).noFollowers := fun b hb => by
      rw [hkept (TBS_TB_CFG_MODE b) fun k hk => ?_]
      · exact hno b hb
      · simp only [List.mem_cons, List.not_mem_nil, or_false] at hk
        rcases hk with rfl | rfl <;> simp only [Fk.key, TBS_PTP_STATUS_OFFSET, TBS_PTP_STATUS_STATE, TBS_TB_CFG_MODE] <;> omega
    have hsteps : ((s.ptpNoted now offset).ptpServo state).rf TBS_STEPS_COUNT = s.rf TBS_STEPS_COUNT := hkept _ fun k hk => by
      simp only [List.mem_cons, List.not_mem_nil, or_false] at hk
      rcases hk with rfl | rfl <;> decide
    obtain ⟨hs0, hoff', hcount, hmark⟩ := timeStep_result hfollow hslew (-offset)
    refine ⟨_, exec_ptp he hp hd h6 h2 hu, ?_⟩
    dsimp only
    rw [if_pos (by rw [ptpServo_limit]; omega)]
    exact ⟨hs0, hoff'.trans (by rw [hoff, Int.sub_eq_add_neg]), hcount.trans (by rw [hsteps]), hmark⟩
  · rw [show exec (.ptpHoldoverEntry now) s = execPtpHoldoverEntry now s from rfl, execPtpHoldoverEntry, if_pos h]
  · rw [show exec (.queryTime 0 v) s = execQueryTime 0 v s from rfl, execQueryTime, if_pos ⟨hw, hr⟩]
    rfl
  · rw [show exec (.adjust 0 b v) s = execAdjust 0 b v s from rfl, execAdjust, if_pos ⟨hw, hb, hr⟩]

end Sys2Proof.Machine

/-! PROOF. Ethernet ports, classification of datagrams, and frames. -/

namespace Sys2Proof.Machine

section
variable {s : State} {p i : Nat}

/-! ### Ports -/

/-- The link, the lanes and the next hops of a port after a change. -/
def State.linked (s : State) (p : Nat) (up : Bool) (lanes : Nat) : State :=
  (if up then s else { s with hops := s.hops.filter fun (h : Nat × Nat) => h.1 % 8 != p } : State).wfs
    [(PRT_STATUS_LINK_UP p, b2n up), (PRT_STATUS_LANES p, lanes &&& modeLanes (s.rf (PRT_CFG_MODE p)))]

theorem exec_ethLinkChange {up : Bool} {lanes : Nat} (hp : p < 8) (hr : s.pageReady (pgPRT p) = true)
    (hm : s.rf (PRT_CFG_MODE p) ≠ 0 ∨ up = false) : exec (.ethLinkChange p up lanes) s = .next (s.linkChange p up lanes) := by
  rw [show exec (.ethLinkChange p up lanes) s = execEthLinkChange p up lanes s from rfl, execEthLinkChange]
  refine congrArg _ (if_neg ?_)
  rintro (h | h | ⟨hu, h⟩)
  · omega
  · rw [hr] at h
    exact absurd h (by decide)
  · rcases hm with hm | hm
    · exact hm h
    · rw [hm] at hu
      exact absurd hu (by decide)

theorem linkChange_same {up : Bool} {lanes : Nat} (h : s.rb (PRT_STATUS_LINK_UP p) = up) :
    s.linkChange p up lanes = s.linked p up lanes := if_pos h

theorem linkChange_change {up : Bool} {lanes : Nat} (h : s.rb (PRT_STATUS_LINK_UP p) ≠ up) :
    s.linkChange p up lanes = (if up then (s.linked p up lanes).irqPage (pgPRT p)
      else ((s.linked p up lanes).irqPage (pgPRT p)).raise 0x4003 (pgPRT p)) := if_neg h

theorem exec_prtMode {v : BitVec 64} (hw : s.pf0Writes 0 = true) (hp : p < 8) (hr : s.pageReady (pgPRT p) = true) :
    exec (.prtModeWrite 0 p v) s = .next ((s.writeWord (pgPRT p + 0x100) v.toNat (2 ^ 64 - 1)).linkChange p false 0) := by
  rw [show exec (.prtModeWrite 0 p v) s = execPrtModeWrite 0 p v s from rfl, execPrtModeWrite, if_pos ⟨hw, hp, hr⟩, State.prtCfg]
  exact congrArg _ (if_neg (by decide))

/-- The FEC counts of a frame. -/
def State.fecCounted (s : State) (p fixed bad : Nat) : State :=
  (s.bump (PRT_FEC_CORRECTED_COUNT p) fixed).bump (PRT_FEC_UNCORRECTED_COUNT p) bad

section
variable {bytes fixed bad : Nat} (hp : p < 8) (hu : s.rb (PRT_STATUS_LINK_UP p) = true)
include hp hu

theorem exec_frame_badFcs (k : EthKind) : exec (.ethFrameReceive p bytes k false fixed bad) s =
    .next ((s.fecCounted p fixed bad).bump (PRT_FCS_ERRORS_COUNT p)) := by
  rw [show exec (.ethFrameReceive p bytes k false fixed bad) s = execEthFrameReceive p bytes k false fixed bad s from rfl,
    execEthFrameReceive, if_neg (by simp [hu]; omega)]
  rfl

variable (hb : bytes ≤ s.rf (PRT_CFG_MTU p))
include hb

theorem exec_frame_arp (a : Nat) : exec (.ethFrameReceive p bytes (.arp a) true fixed bad) s = .next
    (if s.ownIp4 p a then
      (((s.fecCounted p fixed bad).bump (PRT_RX_FRAMES_COUNT p)).bump (PRT_TX_FRAMES_COUNT p)).emit (.ethReply p (.arp a))
    else ((s.fecCounted p fixed bad).bump (PRT_RX_FRAMES_COUNT p)).bump (PRT_UNMATCHED_COUNT p)) := by
  rw [show exec (.ethFrameReceive p bytes (.arp a) true fixed bad) s = execEthFrameReceive p bytes (.arp a) true fixed bad s from
    rfl, execEthFrameReceive, if_neg (by simp [hu]; omega)]
  dsimp only
  rw [if_neg (by decide), if_neg (by omega)]
  rfl

theorem exec_frame_arpReply (a mac : Nat) : exec (.ethFrameReceive p bytes (.arpReply a mac) true fixed bad) s =
    .next { (s.fecCounted p fixed bad).bump (PRT_RX_FRAMES_COUNT p) with hops := sins s.hops (hopKey p false a) mac } := by
  rw [show exec (.ethFrameReceive p bytes (.arpReply a mac) true fixed bad) s =
    execEthFrameReceive p bytes (.arpReply a mac) true fixed bad s from rfl, execEthFrameReceive, if_neg (by simp [hu]; omega)]
  dsimp only
  rw [if_neg (by decide), if_neg (by omega)]
  rfl

end

/-! ### Classification -/

section
variable {d : Dgram} {start now : Nat} (hp : p < 8) (hu : s.rb (PRT_STATUS_LINK_UP p) = true)
  (hf : s.rb MOD_STATUS_BACKUP_ACTIVE = false)
include hp hu hf

theorem exec_ingress_unmatched (h : ((s.at now).sesListed [] 0x101000).find? ((s.at now).matches_ p d) = none) :
    exec (.ingressPacket p d start now) s = .next ((s.at now).bump (PRT_UNMATCHED_COUNT p)) := by
  rw [show exec (.ingressPacket p d start now) s = execIngressPacket p d start now s from rfl, execIngressPacket]
  dsimp only
  rw [if_neg (by simp [hu, hf]; omega), h]

/-- The payload that the session's settings find in a datagram. -/
def State.payloadOf (s : State) (i : Nat) (d : Dgram) : Option Payload :=
  let w6 := s.rf (sesI i 6)
  if bits (s.rf (sesI i 0)) 25 2 = 0 then rtpPayload d (bits w6 0 16) (bits w6 32 4) (bits w6 36 4) else linePayload d (bits w6 0 16)

theorem exec_ingress_matched (h : ((s.at now).sesListed [] 0x101000).find? ((s.at now).matches_ p d) = some i) :
    exec (.ingressPacket p d start now) s = .next (match s.payloadOf i d with
      | none => (s.at now).setIngr i { s.ingr i with badfmt := (s.ingr i).badfmt + 1 }
      | some pl => ((s.at now).setIngr i (((s.at now).ingr i).seen pl.ext)).sessionPacket i pl start) := by
  rw [show exec (.ingressPacket p d start now) s = execIngressPacket p d start now s from rfl, execIngressPacket]
  dsimp only
  rw [if_neg (by simp [hu, hf]; omega), h]
  rfl

end

theorem Ingress.seen_some {x : Ingress} {a : Nat} (h : x.ext = some a) (b : Nat) : x.seen (some b) =
    if (b + 2 ^ 32 - a - 1) % 2 ^ 32 < 2 ^ 31 then { x with ext := some b, lost := x.lost + (b + 2 ^ 32 - a - 1) % 2 ^ 32 }
    else x := by
  obtain ⟨frames, incomplete, dropped, badfmt, ext, lost, last, next, cur, done⟩ := x
  obtain rfl : ext = some a := h
  rfl

/-! ### Sessions as a store -/

theorem State.ingr_setIngr_self (x : Ingress) : (s.setIngr i x).ingr i = x := by
  rw [State.ingr, State.setIngr]
  dsimp only
  rw [sget_sset_self]

theorem ite_view {α β : Type} (view : α → β) {c : Prop} [Decidable c] {a b : α} {v : β} (ha : view a = v) (hb : view b = v) :
    view (if c then a else b) = v := by
  split <;> assumption

theorem lookup_ing (n vpn : Nat) (ok : Bool) : (s.lookup n vpn ok).ing = s.ing := by
  rw [State.lookup]
  dsimp only
  split
  · split
    · rfl
    · split <;> rfl
  · split <;> rfl

theorem translate_ing (n va : Nat) : (s.translate n va).2.ing = s.ing := by
  rw [State.translate]
  split
  · rfl
  all_goals exact lookup_ing n _ _

theorem dmaPieces_ing (n fuel : Nat) : ∀ (s : State) (va len : Nat), (s.dmaPieces n fuel va len).2.ing = s.ing := by
  induction fuel with
  | zero => intro s va len; rfl
  | succ fuel ih =>
    intro s va len
    rw [State.dmaPieces]
    split
    · rfl
    · have ht := translate_ing (s := s) n va
      dsimp only
      split
      · rename_i hx
        rw [hx] at ht
        exact (ih _ _ _).trans ht
      · rename_i hx
        rw [hx] at ht
        exact ht

theorem dmaStore_ing (l : List (Nat × Nat)) : ∀ (s : State) (v : Nat), (s.dmaStore v l).ing = s.ing := by
  induction l with
  | nil => intro s v; rfl
  | cons x l ih =>
    intro s v
    rw [State.dmaStore]
    exact (ih _ _).trans (ite_view State.ing (State.bump_ing ..) rfl)

theorem framePieces_ing (n base : Nat) (l : List (Nat × Nat × Nat)) : ∀ s : State, (s.framePieces n base l).2.ing = s.ing := by
  induction l with
  | nil => intro s; rfl
  | cons x l ih =>
    intro s
    have hd := dmaPieces_ing n (x.2.1 / 2 ^ 21 + 2) s (base + x.1) x.2.1
    rw [State.framePieces]
    split
    · rename_i hx
      rw [hx] at hd
      exact hd
    · rename_i hx
      rw [hx] at hd
      exact (ih _).trans hd

/-! ### Frames -/

/-- The write of a packet keeps the counts of the session that its frame does not concern, and the frame's number and key. -/
theorem frameWrite_result (f : Frame) (pl : Payload) :
    ((s.frameWrite i f pl).1.seq = f.seq ∧ (s.frameWrite i f pl).1.key = f.key) ∧
      ((s.frameWrite i f pl).2.ingr i).frames = (s.ingr i).frames ∧ ((s.frameWrite i f pl).2.ingr i).next = (s.ingr i).next := by
  unfold State.frameWrite
  extract_lets slotBytes slots base drop
  have hdrop : ∀ u : State, u.ing = s.ing → ((drop u).1.seq = f.seq ∧ (drop u).1.key = f.key) ∧
      ((drop u).2.ingr i).frames = (s.ingr i).frames ∧ ((drop u).2.ingr i).next = (s.ingr i).next := by
    intro u hu
    have hui : u.ingr i = s.ingr i := by rw [State.ingr, hu, State.ingr]
    simp only [drop, State.ingr_setIngr_self, hui, and_self]
  have hpieces := framePieces_ing f.part base pl.pieces s
  clear_value drop
  split
  · exact hdrop s rfl
  split
  · rename_i hx
    rw [hx] at hpieces
    exact hdrop _ hpieces
  · rename_i l s1 hx
    rw [hx] at hpieces
    have hing : (l.foldl (fun s q => s.dmaStore q.2 q.1) s1).ing = s.ing :=
      (foldl_keeps (fun u : State => u.ing) (fun u q => dmaStore_ing _ _ _) _ _).trans hpieces
    refine ⟨⟨rfl, rfl⟩, ?_, ?_⟩ <;> simp only [State.ingr, hing]

/-- The frame that the first packet of a session begins. -/
def State.freshFrame (s : State) (i : Nat) (pl : Payload) (start : Nat) : Frame :=
  { seq := (s.ingr i).next, key := pl.key, first := s.mtimeAt start, mode := (s.frameRule i).1, part := (s.frameRule i).2 }

/-- The session has begun that frame. -/
def State.begun (s : State) (i : Nat) (pl : Payload) (start : Nat) : State :=
  s.setIngr i { s.ingr i with next := ((s.ingr i).next + 1) % 2 ^ 32, frames := (s.ingr i).frames + 1
                              cur := some (s.freshFrame i pl start) }

theorem frameOf_none {pl : Payload} {start : Nat} (h : (s.ingr i).cur = none) : s.frameOf i pl start =
    (s.freshFrame i pl start, s.begun i pl start) := by
  rw [State.frameOf, h]
  rfl

/-- A frame notes the packet that has arrived. -/
def Frame.noted (f : Frame) (u : State) (pl : Payload) : Frame :=
  { f with last := u.mtime, seen := u.time, sent := if f.sent.isSome then f.sent else pl.capture }

/-- A packet is dropped where its partition takes no frames, and else written. -/
def State.packetTaken (u : State) (i : Nat) (f : Frame) (pl : Payload) : Frame × State :=
  if u.noFrames i then
    ({ f with dropped := true }, if f.dropped then u else u.setIngr i { u.ingr i with dropped := (u.ingr i).dropped + 1 })
  else u.frameWrite i f pl

theorem sessionPacket_open {pl : Payload} {start : Nat} (hc : (s.ingr i).cur = none) (hl : pl.last = false) :
    s.sessionPacket i pl start =
      let u := s.begun i pl start
      let q := u.packetTaken i ((s.freshFrame i pl start).noted u pl) pl
      q.2.setIngr i { q.2.ingr i with cur := some q.1 } := by
  rw [State.sessionPacket, frameOf_none hc]
  exact if_neg (by simp [hl])

/-- The first packet of a frame, whose session had none. -/
theorem sessionPacket_first {pl : Payload} {start : Nat} (hc : (s.ingr i).cur = none) (hl : pl.last = false) :
    let x := (s.sessionPacket i pl start).ingr i
    x.frames = (s.ingr i).frames + 1 ∧ x.next = ((s.ingr i).next + 1) % 2 ^ 32 ∧
      (∃ f, x.cur = some f ∧ f.seq = (s.ingr i).next ∧ f.key = pl.key) ∧
      (s.noFrames i = true → x.dropped = (s.ingr i).dropped + 1) := by
  intro x
  have hx : x = (s.sessionPacket i pl start).ingr i := rfl
  rw [sessionPacket_open hc hl] at hx
  generalize hu : s.begun i pl start = u at hx
  have huf : (u.ingr i).frames = (s.ingr i).frames + 1 ∧ (u.ingr i).next = ((s.ingr i).next + 1) % 2 ^ 32 ∧
      (u.ingr i).dropped = (s.ingr i).dropped := by
    rw [← hu, State.begun, State.ingr_setIngr_self]
    exact ⟨rfl, rfl, rfl⟩
  have hno : u.noFrames i = s.noFrames i := by
    rw [← hu]
    rfl
  obtain ⟨hframes, hnext, hdropped⟩ := huf
  clear_value x
  subst hx
  clear hu
  dsimp only
  rw [State.ingr_setIngr_self]
  by_cases hn : s.noFrames i = true
  · rw [State.packetTaken, if_pos (hno.trans hn)]
    dsimp only
    rw [if_neg (by simp [Frame.noted, State.freshFrame]), State.ingr_setIngr_self]
    exact ⟨hframes, hnext, ⟨_, rfl, rfl, rfl⟩, fun _ => congrArg (· + 1) hdropped⟩
  · rw [State.packetTaken, if_neg (by rw [hno]; exact hn)]
    obtain ⟨⟨hseq, hkey⟩, hfr, hnx⟩ := frameWrite_result (s := u) (i := i) ((s.freshFrame i pl start).noted u pl) pl
    exact ⟨hfr.trans hframes, hnx.trans hnext, ⟨_, rfl, hseq, hkey⟩, fun h => absurd h hn⟩

/-! ### The end of a frame -/

section
variable {f : Frame} (hc : (s.ingr i).cur = some f) (hd : f.dropped = false)
include hc hd

theorem endFrame_short (h : f.broken = true ∨
    covered f.got (f.got.length + 1) 0 < bits (s.rf (sesI i 6)) 0 16 * bits (s.rf (sesI i 6)) 16 16) :
    s.endFrame i = s.setIngr i { s.ingr i with cur := none, incomplete := (s.ingr i).incomplete + 1 } := by
  rw [State.endFrame, hc]
  dsimp only
  rw [hd, if_neg Bool.false_ne_true]
  exact if_pos (by simpa using h)

theorem endFrame_whole (hb : f.broken = false)
    (h : bits (s.rf (sesI i 6)) 0 16 * bits (s.rf (sesI i 6)) 16 16 ≤ covered f.got (f.got.length + 1) 0) (hm : f.mode ≤ 1)
    (hs : bits (s.rf (sesI i 0)) 27 2 = 0) : s.endFrame i =
      let h := s.histAt (bits (s.rf (sesI i 0)) 22 3) f.first
      h.2.2.setIngr i { s.ingr i with cur := none, last := f.seq
                                      done := { seq := f.seq, pos := h.1, time := f.first, part := f.part } :: (s.ingr i).done } := by
  have hst : s.stamp i f = (f.first, s) := by
    rw [State.stamp, hs]
    rfl
  rw [State.endFrame, hc]
  dsimp only
  rw [hd, if_neg Bool.false_ne_true, if_neg (by simp [hb]; omega), hst]
  dsimp only
  rw [if_neg (by omega), if_pos hm]

end

theorem exec_frameTimeout {now : Nat} {f : Frame} (hc : (s.ingr i).cur = some f) (hf : s.rb MOD_STATUS_BACKUP_ACTIVE = false)
    (ht : f.seen + bits (s.rf (sesI i 7)) 0 32 * 1000 ≤ max s.time now) :
    exec (.frameTimeout i now) s = .next ((s.at now).endFrame i) := by
  rw [show exec (.frameTimeout i now) s = execFrameTimeout i now s from rfl, execFrameTimeout,
    show ((s.at now).ingr i).cur = some f from hc]
  exact congrArg _ (if_pos ⟨ht, by simp [hf]⟩)

end

/-- Settles O49. -/
theorem portsAndSessions : Obligations.PortsAndSessions := by
  unfold Obligations.PortsAndSessions
  refine ⟨fun s p lanes up hp hr hm => ⟨fun h => ?_, fun h hup => ?_, fun h hup => ?_⟩,
    fun s p v hw hp hr => exec_prtMode hw hp hr,
    fun s p bytes a fixed bad hp hu => ⟨exec_frame_badFcs hp hu _, fun hb => ⟨fun ha => ?_, fun ha => ?_,
      fun mac => exec_frame_arpReply hp hu hb a mac⟩⟩,
    fun s p d start now hp hu hf => ⟨fun h => exec_ingress_unmatched hp hu hf h, fun i h => ⟨fun hpay => ?_, fun pl hpay => ?_⟩⟩,
    fun x a b h => ⟨fun hg => (Ingress.seen_some h b).trans (if_pos hg),
      fun hg => (Ingress.seen_some h b).trans (if_neg (by omega))⟩,
    fun s i start pl hc hl => sessionPacket_first hc hl,
    fun s i f hc hd => ⟨fun h => endFrame_short hc hd h, fun hb h hm hs => ?_⟩,
    fun s i now f hc hf ht => exec_frameTimeout hc hf ht⟩
  · rw [exec_ethLinkChange hp hr hm, linkChange_same h]
    rfl
  · subst hup
    rw [exec_ethLinkChange hp hr hm, linkChange_change (by simp [h])]
    rfl
  · subst hup
    rw [exec_ethLinkChange hp hr hm, linkChange_change (by simp [h])]
    rfl
  · rw [exec_frame_arp hp hu hb, if_pos (by rw [State.ownIp4, ha, beq_self_eq_true])]
    rfl
  · rw [exec_frame_arp hp hu hb, if_neg (by rw [State.ownIp4]; simpa using ha)]
    rfl
  · rw [exec_ingress_matched hp hu hf h, show s.payloadOf i d = none from hpay]
  · rw [exec_ingress_matched hp hu hf h, show s.payloadOf i d = some pl from hpay]
  · rw [endFrame_whole hc hd hb h hm hs]
    dsimp only
    rw [State.ingr_setIngr_self]
    exact ⟨rfl, rfl, rfl⟩

end Sys2Proof.Machine

/-! PROOF. Image loads: GO, abort, prologues, shards, completion and peers. -/

namespace Sys2Proof.Machine

section
variable {s : State} {l : Load}

/-! ### What the shared steps of a load leave unchanged -/

theorem BytesKept.of_mem {t : State} (h : t.mem = s.mem) : BytesKept s t := fun a => by rw [State.byte, State.byte, h]

theorem State.rf_wfs_fst {a b : Fk} {x y : Nat} (h : a.key ≠ b.key) : (s.wfs [(a, x), (b, y)]).rf a = x % 2 ^ a.w := by
  simp only [State.wfs, List.foldl_cons, List.foldl_nil]
  rw [State.rf_wf_ne _ _ h, State.rf_wf_self]

theorem State.rf_wfs_snd {a b : Fk} {x y : Nat} : (s.wfs [(a, x), (b, y)]).rf b = y % 2 ^ b.w := by
  simp only [State.wfs, List.foldl_cons, List.foldl_nil]
  rw [State.rf_wf_self]

theorem State.rf_wfs_two_ne {a b j : Fk} {x y : Nat} (ha : j.key ≠ a.key) (hb : j.key ≠ b.key) :
    (s.wfs [(a, x), (b, y)]).rf j = s.rf j := by
  simp only [State.wfs, List.foldl_cons, List.foldl_nil]
  rw [State.rf_wf_ne _ _ hb, State.rf_wf_ne _ _ ha]

theorem State.keeper_wfs (x : List (Fk × Nat)) : (s.wfs x).keeper = s.keeper := by
  rw [State.wfs]
  exact foldl_keeps State.keeper (fun _ _ => State.wf_keeper ..) _ _

/-- What no output command changes, the parts of a load that only put out keep. -/
theorem loadReport_keeps {β : Type} (view : State → β) (hemit : ∀ u o, view (State.emit u o) = view u) (ok : Bool) :
    view (s.loadReport l ok) = view s := by
  rw [State.loadReport]
  exact ite_view view (hemit _ _) rfl

theorem fetch_keeps {β : Type} (view : State → β) (hemit : ∀ u o, view (State.emit u o) = view u) (src off n : Nat) :
    view (s.fetch src off n) = view s := by
  unfold State.fetch
  split
  · exact foldl_keeps view (fun _ _ => hemit _ _) _ _
  · exact hemit _ _
  · rfl

theorem fetchShard_keeps {β : Type} (view : State → β) (hemit : ∀ u o, view (State.emit u o) = view u) (p i : Nat) :
    view (s.fetchShard l p i) = view s := by
  rw [State.fetchShard]
  exact ite_view view (fetch_keeps view hemit _ _ _) rfl

theorem freeSlots_rf (j : Fk) : s.freeSlots.rf j = s.rf j := rfl

theorem freeSlots_load : s.freeSlots.keeper.load = s.keeper.load := rfl

theorem freeSlots_cold : s.freeSlots.keeper.coldSlot =
    s.keeper.coldSlot.filter fun (e : Nat × Nat) => s.slotUsed (e.2 - 1) := rfl

theorem freeSlots_peers : s.freeSlots.keeper.peers = s.keeper.peers := rfl

theorem finishReloads_none (h : s.keeper.reloads = []) : s.finishReloads = s := by
  rw [State.finishReloads, h, List.foldl_nil]

/-! ### Refusals -/

/-- The fields that a refusal writes. -/
theorem imgRefuse_rf (code : Nat) (j : Fk) :
    (s.imgRefuse code).rf j = (s.wfs [(IMG_STATUS_STATE, 4), (IMG_STATUS_RESULT, code)]).rf j := by
  have hkept : ∀ u : State, u.rf j = s.rf j → u.fld = s.fld →
      (u.wfs [(IMG_STATUS_STATE, 4), (IMG_STATUS_RESULT, code)]).rf j =
        (s.wfs [(IMG_STATUS_STATE, 4), (IMG_STATUS_RESULT, code)]).rf j := by
    intro u _ hf
    simp only [State.wfs, List.foldl_cons, List.foldl_nil, State.wf, State.rf, hf]
  rw [State.imgRefuse, State.irqPage_rf]
  split
  · exact hkept _ (loadReport_keeps (State.rf · j) (fun _ _ => rfl) _) (loadReport_keeps State.fld (fun _ _ => rfl) _)
  · rfl

theorem imgRefuse_state (code : Nat) : (s.imgRefuse code).rf IMG_STATUS_STATE = 4 := by
  rw [imgRefuse_rf, State.rf_wfs_fst (by decide)]
  rfl

theorem imgRefuse_result {code : Nat} (h : code < 2 ^ IMG_STATUS_RESULT.w) : (s.imgRefuse code).rf IMG_STATUS_RESULT = code := by
  rw [imgRefuse_rf, State.rf_wfs_snd]
  exact Nat.mod_eq_of_lt h

theorem imgRefuse_load (code : Nat) : (s.imgRefuse code).keeper.load = none := by
  rw [State.imgRefuse, State.irqPage_keeps (fun u => u.keeper.load) (fun _ _ => rfl)]
  refine (congrArg Keeper.load (State.keeper_wfs _)).trans ?_
  split
  · exact loadReport_keeps (fun u => u.keeper.load) (fun _ _ => rfl) _
  · assumption

theorem imgRefuse_bytes (code : Nat) (k : Fk) (v : Nat) : BytesKept s ((s.wf k v).imgRefuse code) := BytesKept.of_mem (by simp)

/-! ### GO and ABORT -/

theorem exec_imgGo (hw : s.pf0Writes 0 = true) (hr : s.pageReady pgIMG = true) : exec (.imgGo 0) s = .next (s.imgCmd 1) :=
  congrArg _ (if_pos ⟨hw, hr⟩)

theorem exec_imgAbort (hw : s.pf0Writes 0 = true) (hr : s.pageReady pgIMG = true) :
    exec (.imgAbort 0) s = .next (s.imgCmd 2) := congrArg _ (if_pos ⟨hw, hr⟩)

theorem imgCmd_go_idle (h : s.keeper.idle = true) :
    s.imgCmd 1 = s.updKeeper fun x => { x with idleExit := true, deferred := x.deferred ++ [(16, 0)] } :=
  if_pos h

theorem imgCmd_go (h : s.keeper.idle = false) (hl : s.keeper.reloads = []) : s.imgCmd 1 = s.imgGo := by
  refine (if_neg (by simp [h])).trans ?_
  rw [finishReloads_none hl]

theorem imgGo_badKind (hl : s.keeper.load = none) (h1 : s.rf IMG_LOAD_KIND ≠ 1) (h2 : s.rf IMG_LOAD_KIND ≠ 2) :
    s.imgGo = (s.wf IMG_STATUS_SHARD 0).imgRefuse 1 := by
  rw [State.imgGo, hl]
  exact if_pos ⟨h1, h2⟩

theorem imgGo_running (hl : s.keeper.load = none) (hk : s.rf IMG_LOAD_KIND = 1) (ha : s.imgArmed (s.rf IMG_LOAD_PART) 0 = false)
    (hp : s.pst (s.rf IMG_LOAD_PART) ≠ 1) : s.imgGo = (s.wf IMG_STATUS_SHARD 0).imgRefuse 8 := by
  have hp' : s.pst (s.rf IMG_LOAD_PART) ≠ psSTOPPED := hp
  rw [State.imgGo, hl]
  simp [hk, ha, hp']

/-- A cold load that has begun, before its source is asked. -/
def State.imgBegun (s : State) (ld : Load) : State :=
  (((s.wf IMG_STATUS_SHARD 0).updKeeper fun x => { x with load := some ld }).updChest fun x =>
    { x with imgs := sins x.imgs ld.slot {} }).wfs [(IMG_STATUS_STATE, 1), (IMG_STATUS_RESULT, 0)]

/-- The cold load that GO begins into a slot. -/
def State.coldLoad (s : State) (k : Nat) : Load :=
  { part := s.rf IMG_LOAD_PART, warm := false, src := s.rf IMG_LOAD_SRC, reader := s.rf IMG_LOAD_READER, copy := 0, slot := k }

theorem imgGo_cold {k : Nat} (hl : s.keeper.load = none) (hk : s.rf IMG_LOAD_KIND = 1)
    (ha : s.imgArmed (s.rf IMG_LOAD_PART) 0 = false) (hp : s.pst (s.rf IMG_LOAD_PART) = 1)
    (hb : s.badReader (s.rf IMG_LOAD_READER) = false)
    (hf : ((List.range 256).find? fun k => (sget? s.chest.imgs k).isNone) = some k) (hrk : s.rb SEC_STATUS_REKEYING = false) :
    s.imgGo = (if s.rf IMG_LOAD_SRC = 1 then (s.imgBegun (s.coldLoad k)).emit (.nvmeConnect (s.imgBegun (s.coldLoad k)).nvmeTarget)
      else s.imgBegun (s.coldLoad k)).fetch (s.rf IMG_LOAD_SRC) 0 0x1000 := by
  have hp' : s.pst (s.rf IMG_LOAD_PART) = psSTOPPED := hp
  rw [State.imgGo, hl, hf]
  simp [hk, ha, hp', hb, hrk, State.imgBegun, State.coldLoad]

theorem imgCmd_abort_waits (h : (s.keeper.deferred.any (·.1 == 16)) = true) :
    s.imgCmd 2 = s.updKeeper fun x => { x with deferred := x.deferred ++ [(16, 2)] } := if_pos h

theorem imgCmd_abort (h : (s.keeper.deferred.any (·.1 == 16)) = false) : s.imgCmd 2 = s.imgAbort 17 :=
  if_neg (by rw [h]; decide)

theorem imgAbort_eq (hl : s.keeper.load = some l) (code : Nat) :
    s.imgAbort code = ((s.imgEnd l code).raise (0xB000 + code) pgIMG).irqPage pgIMG := by rw [State.imgAbort, hl]

theorem imgEnd_unplaced (hp : l.placing = false) (code : Nat) :
    s.imgEnd l code = (((s.updKeeper fun x => { x with load := none }).wfs [(IMG_STATUS_STATE, 4), (IMG_STATUS_RESULT, code)]).updChest
      fun x => { x with imgs := sdel x.imgs l.slot }).loadReport l false := by
  rw [State.imgEnd]
  simp [hp]

end

theorem imageLoads_go (s : State) (hw : s.pf0Writes 0 = true) (hr : s.pageReady pgIMG = true) :
    (s.keeper.idle = true → exec (.imgGo 0) s = .next (s.updKeeper fun x =>
      { x with idleExit := true, deferred := x.deferred ++ [(16, 0)] })) ∧
    (s.keeper.idle = false → s.keeper.load = none → s.keeper.reloads = [] →
      let n := s.rf IMG_LOAD_PART
      (s.rf IMG_LOAD_KIND ≠ 1 → s.rf IMG_LOAD_KIND ≠ 2 → ∃ s', exec (.imgGo 0) s = .next s' ∧ s'.rf IMG_STATUS_STATE = 4 ∧
        s'.rf IMG_STATUS_RESULT = 1 ∧ s'.keeper.load = none ∧ BytesKept s s') ∧
      (s.rf IMG_LOAD_KIND = 1 → s.imgArmed n 0 = false → s.pst n ≠ 1 → ∃ s', exec (.imgGo 0) s = .next s' ∧
        s'.rf IMG_STATUS_STATE = 4 ∧ s'.rf IMG_STATUS_RESULT = 8 ∧ s'.keeper.load = none ∧ BytesKept s s') ∧
      (∀ k, s.rf IMG_LOAD_KIND = 1 → s.imgArmed n 0 = false → s.pst n = 1 → s.badReader (s.rf IMG_LOAD_READER) = false →
        ((List.range 256).find? fun k => (sget? s.chest.imgs k).isNone) = some k → s.rb SEC_STATUS_REKEYING = false →
        ∃ s', exec (.imgGo 0) s = .next s' ∧ s'.rf IMG_STATUS_STATE = 1 ∧ s'.rf IMG_STATUS_RESULT = 0 ∧
          s'.keeper.load = some (s.coldLoad k) ∧ BytesKept s s')) := by
  refine ⟨fun hi => ?_, ?_⟩
  · rw [exec_imgGo hw hr, imgCmd_go_idle hi]
  · intro hi hl hre n
    have hgo : exec (.imgGo 0) s = .next s.imgGo := by rw [exec_imgGo hw hr, imgCmd_go hi hre]
    refine ⟨fun h1 h2 => ?_, fun h1 ha hp => ?_, fun k h1 ha hp hb hf hrk => ?_⟩
    · exact ⟨_, hgo.trans (congrArg _ (imgGo_badKind hl h1 h2)), imgRefuse_state _, imgRefuse_result (by decide),
        imgRefuse_load _, imgRefuse_bytes _ _ _⟩
    · exact ⟨_, hgo.trans (congrArg _ (imgGo_running hl h1 ha hp)), imgRefuse_state _, imgRefuse_result (by decide),
        imgRefuse_load _, imgRefuse_bytes _ _ _⟩
    · have hkeeps : ∀ {β : Type} (view : State → β), (∀ u o, view (State.emit u o) = view u) →
          view s.imgGo = view (s.imgBegun (s.coldLoad k)) := by
        intro β view hemit
        rw [imgGo_cold hl h1 ha hp hb hf hrk]
        exact (fetch_keeps view hemit _ _ _).trans (ite_view view (hemit _ _) rfl)
      refine ⟨_, hgo, ?_, ?_, (hkeeps (fun u => u.keeper.load) fun _ _ => rfl).trans rfl, BytesKept.of_mem ?_⟩
      · refine (hkeeps (State.rf · _) fun _ _ => rfl).trans ?_
        simp only [State.imgBegun, State.wfs, List.foldl_cons, List.foldl_nil]
        rw [State.rf_wf_ne _ _ (by decide), State.rf_wf_self]
        rfl
      · refine (hkeeps (State.rf · _) fun _ _ => rfl).trans ?_
        simp only [State.imgBegun, State.wfs, List.foldl_cons, List.foldl_nil]
        rw [State.rf_wf_self]
        rfl
      · refine (hkeeps State.mem fun _ _ => rfl).trans ?_
        simp [State.imgBegun]

theorem imageLoads_abort (s : State) (hw : s.pf0Writes 0 = true) (hr : s.pageReady pgIMG = true) :
    ((s.keeper.deferred.any (·.1 == 16)) = true → exec (.imgAbort 0) s = .next (s.updKeeper fun x =>
      { x with deferred := x.deferred ++ [(16, 2)] })) ∧
    (∀ l, s.keeper.load = some l → l.placing = false → (s.keeper.deferred.any (·.1 == 16)) = false → exec (.imgAbort 0) s =
      .next (((((s.updKeeper fun x => { x with load := none }).wfs [(IMG_STATUS_STATE, 4), (IMG_STATUS_RESULT, 17)]).updChest fun x =>
        { x with imgs := sdel x.imgs l.slot }).loadReport l false).raise 0xB011 pgIMG |>.irqPage pgIMG)) := by
  refine ⟨fun h => ?_, fun l hl hp h => ?_⟩
  · rw [exec_imgAbort hw hr, imgCmd_abort_waits h]
  · rw [exec_imgAbort hw hr, imgCmd_abort h, imgAbort_eq hl, imgEnd_unplaced hp]

/-! ### Prologues -/

section
variable {s : State} {l : Load} {p len : Nat}

theorem exec_imgPrologue_refused {c : Nat} (hl : s.keeper.load = some l) (hp : l.placing = false)
    (hc : (s.wfs [(IMG_IMAGE_INFO_DEVICE, proDevice p), (IMG_IMAGE_INFO_VERSION, proVersion p)]).imageCheck l p (s.srcHolds l.src) = c)
    (h0 : c ≠ 0) : exec (.imgPrologueChecked p len []) s =
      .next ((s.wfs [(IMG_IMAGE_INFO_DEVICE, proDevice p), (IMG_IMAGE_INFO_VERSION, proVersion p)]).imgRefuse c) := by
  rw [show exec (.imgPrologueChecked p len []) s = execImgPrologueChecked p len [] s from rfl, execImgPrologueChecked, hl]
  refine congrArg _ ((if_neg (by simp [hp])).trans ?_)
  dsimp only
  rw [hc]
  split
  · exact absurd rfl h0
  · rfl

theorem exec_imgPrologue_good (hl : s.keeper.load = some l) (hp : l.placing = false)
    (hc : (s.wfs [(IMG_IMAGE_INFO_DEVICE, proDevice p), (IMG_IMAGE_INFO_VERSION, proVersion p)]).imageCheck l p
      (s.srcHolds l.src) = 0) : exec (.imgPrologueChecked p len []) s =
      .next (if (s.wfs [(IMG_IMAGE_INFO_DEVICE, proDevice p), (IMG_IMAGE_INFO_VERSION, proVersion p)]).imageFree <
          imageBlocks (proTotal p) then
        (s.wfs [(IMG_IMAGE_INFO_DEVICE, proDevice p), (IMG_IMAGE_INFO_VERSION, proVersion p)]).imgRefuse 19
      else (s.wfs [(IMG_IMAGE_INFO_DEVICE, proDevice p), (IMG_IMAGE_INFO_VERSION, proVersion p)]).imgStart l p
        (min len (proLen p)) []) := by
  rw [show exec (.imgPrologueChecked p len []) s = execImgPrologueChecked p len [] s from rfl, execImgPrologueChecked, hl]
  refine congrArg _ ((if_neg (by simp [hp])).trans ?_)
  dsimp only
  split
  · rfl
  case _ hne => exact absurd hc hne

theorem imageCheck_badMagic (src : Option Nat) (h : strAt p 0 8 ≠ 0x0A1A414943524159) : s.imageCheck l p src = 2 := by
  have hc : proCheck p src [(2, 2), (1, 1)] = 2 := if_pos (.inl h)
  rw [State.imageCheck, hc]
  rfl

theorem imageCheck_badVersion (src : Option Nat) (h : strAt p 0 8 = 0x0A1A414943524159)
    (hcrc : crc32c (bytesOf p 0xFC) = strAt p 0xFC 4) (hv : strAt p 0x0A 2 ≠ 0x4B) : s.imageCheck l p src = 3 := by
  have hc : proCheck p src [(2, 2), (1, 1)] = 3 := by
    rw [proCheck, if_neg (by simp [h, hcrc]), if_pos (.inl hv)]
  rw [State.imageCheck, hc]
  rfl

end

theorem imageLoads_prologue (s : State) (l : Load) (p len : Nat) (hl : s.keeper.load = some l) (hp : l.placing = false) :
    let s1 := s.wfs [(IMG_IMAGE_INFO_DEVICE, proDevice p), (IMG_IMAGE_INFO_VERSION, proVersion p)]
    let c := s1.imageCheck l p (s.srcHolds l.src)
    (c ≠ 0 → exec (.imgPrologueChecked p len []) s = .next (s1.imgRefuse c)) ∧
    (c = 0 → imageBlocks (proTotal p) ≤ s1.imageFree → exec (.imgPrologueChecked p len []) s = .next (s1.imgStart l p (min len (proLen p)) [])) ∧
    (c = 0 → s1.imageFree < imageBlocks (proTotal p) → exec (.imgPrologueChecked p len []) s = .next (s1.imgRefuse 19)) ∧
    (s1.imgRefuse c).rf IMG_PROGRESS_DONE = s.rf IMG_PROGRESS_DONE ∧ (s1.imgRefuse c).rf IMG_PLACEMENT_ID = s.rf IMG_PLACEMENT_ID ∧
    (strAt p 0 8 ≠ 0x0A1A414943524159 → c = 2) ∧ (strAt p 0 8 = 0x0A1A414943524159 → crc32c (bytesOf p 0xFC) = strAt p 0xFC 4 →
      strAt p 0x0A 2 ≠ 0x4B → c = 3) := by
  intro s1 c
  refine ⟨fun h0 => exec_imgPrologue_refused hl hp rfl h0, fun h0 hf => ?_, fun h0 hf => ?_, ?_, ?_, fun h => imageCheck_badMagic _ h,
    fun h hcrc hv => imageCheck_badVersion _ h hcrc hv⟩
  · exact (exec_imgPrologue_good hl hp h0).trans (congrArg _ (if_neg (Nat.not_lt.mpr hf)))
  · exact (exec_imgPrologue_good hl hp h0).trans (congrArg _ (if_pos hf))
  · rw [imgRefuse_rf, State.rf_wfs_two_ne (by decide) (by decide), State.rf_wfs_two_ne (by decide) (by decide)]
  · rw [imgRefuse_rf, State.rf_wfs_two_ne (by decide) (by decide), State.rf_wfs_two_ne (by decide) (by decide)]

/-! ### Shards -/

section
variable {s : State} {l : Load} {data len : Nat}

theorem shardBad_again (h : l.tries < s.rf IMG_CTRL_SHARD_RETRY) :
    s.shardBad l = (if l.src = 2 then
        ((s.bump IMG_RETRIES_COUNT).updKeeper fun x => { x with load := some { l with tries := l.tries + 1 } }).emit
          (.resendAsk (s.rf IMG_SPAN_FROM_MODULE) l.got)
      else ((s.bump IMG_RETRIES_COUNT).updKeeper fun x => { x with load := some { l with tries := l.tries + 1 } }).fetchShard l
        (sget {} s.chest.imgs l.slot).pro l.got) := if_pos h

theorem shardBad_last (h : s.rf IMG_CTRL_SHARD_RETRY ≤ l.tries) : s.shardBad l = (s.wf IMG_STATUS_SHARD l.got).imgAbort 11 :=
  if_neg (Nat.not_lt.mpr h)

/-- A shard that fails its fetch is judged bad. -/
theorem exec_imgShard_failed (hl : s.keeper.load = some l) (hp : l.placing = true)
    (hg : l.got < proShards (sget {} s.chest.imgs l.slot).pro) (hh : s.loadHeld l = false) (hf : s.loadFenced l = none) :
    exec (.imgShardArrive l.got data len false true) s = .next (s.shardBad l) := by
  rw [show exec (.imgShardArrive l.got data len false true) s = execImgShardArrive l.got data len false true s from rfl,
    execImgShardArrive, hl]
  dsimp only
  rw [if_neg (by simp [hp, hg, hh]), hf]
  rfl

/-- The state in which the next shard of a load has been stored and sent on to the peers. -/
def State.shardStored (s : State) (l : Load) (data : Nat) : State :=
  let s1 := (s.updChest fun x => { x with imgs := sins x.imgs l.slot { sget {} s.chest.imgs l.slot with
    shards := sins (sget {} s.chest.imgs l.slot).shards l.got data } }).bump IMG_PROGRESS_DONE
  s1.loadPeers.foldl (fun s m => s.emit (.peerShard m l.got)) s1

theorem exec_imgShard_good (hl : s.keeper.load = some l) (hp : l.placing = true)
    (hg : l.got < proShards (sget {} s.chest.imgs l.slot).pro) (hh : s.loadHeld l = false) (hf : s.loadFenced l = none)
    (hlen : len = shardLen (sget {} s.chest.imgs l.slot).pro l.got) (hd : data < 2 ^ (8 * len))
    (hcrc : crc32c (bytesOf data len) = shardCrc (sget {} s.chest.imgs l.slot).pro l.got)
    (hs : proSigned (sget {} s.chest.imgs l.slot).pro = false) :
    exec (.imgShardArrive l.got data len true true) s = .next ((s.shardStored l data).loadStep l
      { sget {} s.chest.imgs l.slot with shards := sins (sget {} s.chest.imgs l.slot).shards l.got data } (l.got + 1)) := by
  rw [show exec (.imgShardArrive l.got data len true true) s = execImgShardArrive l.got data len true true s from rfl,
    execImgShardArrive, hl]
  dsimp only
  rw [if_neg (by simp [hp, hg, hh]), hf]
  dsimp only
  rw [if_neg (by simp [← hlen, hcrc, hs]), if_neg (by simp), Nat.mod_eq_of_lt hd]
  rfl

theorem placeAvail_none (pl : Placer) (img : Stored) (avail : Nat) (crc : Bool) (pos : Nat) (cfg : List Nat) (fuel : Nat) :
    State.placeAvail pl img avail crc fuel s [] pos cfg = (s, [], pos, cfg, 0) := by
  cases fuel <;> rfl

/-- A load with no section left to place, past its next shard of a file of `n`. -/
def Load.pastShard (l : Load) (n : Nat) : Load :=
  { l with got := l.got + 1, tries := 0, conns := 0, secs := [], placed := decide (n ≤ l.got + 1) && true }

theorem loadStep_placed (hs : l.secs = []) (img : Stored) :
    s.loadStep l img (l.got + 1) =
      (s.updKeeper fun x => { x with load := some (l.pastShard (proShards img.pro)) }).fetchShard l img.pro (l.got + 1) := by
  rw [State.loadStep, hs]
  simp only [placeAvail_none]
  rfl

theorem shardStored_keeps {β : Type} (view : State → β) (hemit : ∀ u o, view (State.emit u o) = view u) :
    view (s.shardStored l data) = view ((s.updChest fun x => { x with imgs := sins x.imgs l.slot { sget {} s.chest.imgs l.slot with
      shards := sins (sget {} s.chest.imgs l.slot).shards l.got data } }).bump IMG_PROGRESS_DONE) :=
  foldl_keeps view (fun _ _ => hemit _ _) _ _

end

theorem imageLoads_shard (s : State) (l : Load) (data len : Nat) (hl : s.keeper.load = some l) (hp : l.placing = true)
    (hg : l.got < proShards (sget {} s.chest.imgs l.slot).pro) (hh : s.loadHeld l = false) (hf : s.loadFenced l = none) :
    (l.tries < s.rf IMG_CTRL_SHARD_RETRY →
      let s1 := (s.bump IMG_RETRIES_COUNT).updKeeper fun x => { x with load := some { l with tries := l.tries + 1 } }
      exec (.imgShardArrive l.got data len false true) s = .next (if l.src = 2 then s1.emit (.resendAsk (s.rf IMG_SPAN_FROM_MODULE) l.got)
        else s1.fetchShard l (sget {} s.chest.imgs l.slot).pro l.got)) ∧
    (s.rf IMG_CTRL_SHARD_RETRY ≤ l.tries →
      exec (.imgShardArrive l.got data len false true) s = .next ((s.wf IMG_STATUS_SHARD l.got).imgAbort 11)) ∧
    (len = shardLen (sget {} s.chest.imgs l.slot).pro l.got → data < 2 ^ (8 * len) → l.secs = [] →
      crc32c (bytesOf data len) = shardCrc (sget {} s.chest.imgs l.slot).pro l.got →
      proSigned (sget {} s.chest.imgs l.slot).pro = false →
      ∃ s' l', exec (.imgShardArrive l.got data len true true) s = .next s' ∧ s'.keeper.load = some l' ∧ l'.got = l.got + 1 ∧
        l'.tries = 0 ∧ sget? (sget {} s'.chest.imgs l.slot).shards l.got = some data ∧
        s'.rf IMG_PROGRESS_DONE = (s.rf IMG_PROGRESS_DONE + 1) % 2 ^ (IMG_PROGRESS_DONE).w) := by
  refine ⟨fun ht => ?_, fun ht => ?_, fun hlen hd hsec hcrc hs => ?_⟩
  · exact (exec_imgShard_failed hl hp hg hh hf).trans (congrArg _ (shardBad_again ht))
  · exact (exec_imgShard_failed hl hp hg hh hf).trans (congrArg _ (shardBad_last ht))
  · have he := exec_imgShard_good hl hp hg hh hf hlen hd hcrc hs
    rw [loadStep_placed hsec] at he
    refine ⟨_, l.pastShard _, he, fetchShard_keeps (fun u => u.keeper.load) (fun _ _ => rfl) _ _, rfl, rfl, ?_, ?_⟩
    · rw [fetchShard_keeps State.chest (fun _ _ => rfl), State.updKeeper_chest, shardStored_keeps State.chest fun _ _ => rfl,
        State.bump, State.wf_chest]
      dsimp only [State.updChest]
      rw [sget_sins, if_pos rfl, sget?_sins, if_pos rfl]
    · rw [fetchShard_keeps (State.rf · _) (fun _ _ => rfl), State.updKeeper_rf, shardStored_keeps (State.rf · _) fun _ _ => rfl,
        State.rf_bump_self, State.updChest_rf]

theorem imageLoads_nvme (s : State) (l : Load) (hl : s.keeper.load = some l) (hsrc : l.src = 1) :
    (l.placing = true → l.got < proShards (sget {} s.chest.imgs l.slot).pro → l.tries < s.rf IMG_CTRL_SHARD_RETRY →
      exec (.nvmeReadTimeout l.got) s = .next (((s.bump IMG_RETRIES_COUNT).updKeeper fun x =>
        { x with load := some { l with tries := l.tries + 1 } }).fetchShard l (sget {} s.chest.imgs l.slot).pro l.got)) ∧
    (l.conns < 2 → exec .nvmeConnectFail s =
      .next ((s.updKeeper fun x => { x with load := some { l with conns := l.conns + 1 } }).emit (.nvmeConnect s.nvmeTarget))) ∧
    (2 ≤ l.conns → exec .nvmeConnectFail s = .next (s.imgAbort 18)) := by
  have hconn : exec .nvmeConnectFail s = .next (if l.conns < 2 then
      (s.updKeeper fun x => { x with load := some { l with conns := l.conns + 1 } }).emit (.nvmeConnect s.nvmeTarget)
    else s.imgAbort 18) := by
    rw [show exec .nvmeConnectFail s = execNvmeConnectFail s from rfl, execNvmeConnectFail, hl]
    exact congrArg _ (if_neg (by simp [hsrc]))
  refine ⟨fun hp hg ht => ?_, fun h => ?_, fun h => ?_⟩
  · rw [show exec (.nvmeReadTimeout l.got) s = execNvmeReadTimeout l.got s from rfl, execNvmeReadTimeout, hl]
    refine congrArg _ ((if_pos ⟨hp, hsrc, rfl, hg⟩).trans ?_)
    rw [shardBad_again ht, if_neg (by simp [hsrc])]
  · rw [hconn, if_pos h]
  · rw [hconn, if_neg (Nat.not_lt.mpr h)]

/-! ### Completion -/

section
variable {s : State} {l : Load}

/-- The load's slot is complete. -/
def State.slotWhole (s : State) (l : Load) : State :=
  let img := sget {} s.chest.imgs l.slot
  s.updChest fun x => { x with imgs := sins x.imgs l.slot { img with complete := true } }

/-- The load's slot is complete and its copy BUILT or live. -/
def State.copyReady (s : State) (l : Load) : State :=
  if l.warm then (s.slotWhole l).wfs [(copyStateK l.part l.copy, 2), (copySlotK l.part l.copy, l.slot)]
  else (s.slotWhole l).coldDone l

/-- The prologues that measurements name, after the load. -/
def Keeper.loaded (x : Keeper) (l : Load) (img : Stored) : Keeper :=
  { x with load := none
           coldPro := if l.warm then x.coldPro else sins x.coldPro l.part (img.plen + 2 ^ 32 * img.pro)
           copyPro := sins x.copyPro (2 * l.part + l.copy) (img.plen + 2 ^ 32 * img.pro) }

/-- The copy is ready, the measurements and STATUS say so. -/
def State.loadEnded (s : State) (l : Load) : State :=
  ((s.copyReady l).setMeas fun x => x.loaded l (sget {} s.chest.imgs l.slot)).wfs [(IMG_STATUS_STATE, 3), (IMG_STATUS_RESULT, 0)]

theorem exec_imgLoadDone (hl : s.keeper.load = some l) (hp : l.placing = true) (hd : l.placed = true) (hz : s.allZeroed l = true)
    (hh : s.loadHeld l = false) (hf : s.loadFenced l = none) :
    exec .imgLoadDone s = .next (((s.loadEnded l).freeSlots.loadReport l true).irqPage pgIMG) := by
  rw [show exec .imgLoadDone s = execImgLoadDone s from rfl, execImgLoadDone, hl]
  dsimp only
  rw [if_neg (by simp [hp, hd, hz, hh]), hf]
  rfl

theorem exec_imgLoadDone_unplaced (hl : s.keeper.load = some l) (h : l.placed = false ∨ s.allZeroed l = false) :
    exec .imgLoadDone s = .next s := by
  rw [show exec .imgLoadDone s = execImgLoadDone s from rfl, execImgLoadDone, hl]
  refine congrArg _ (if_pos ?_)
  rcases h with h | h <;> simp [h]

/-- What no output changes is, after the last steps, as it is when the slots have been freed. -/
theorem loadReported_keeps {β : Type} (view : State → β) (hemit : ∀ u o, view (State.emit u o) = view u) (u : State) :
    view ((u.freeSlots.loadReport l true).irqPage pgIMG) = view u.freeSlots :=
  (State.irqPage_keeps view hemit _).trans (loadReport_keeps view hemit _)

theorem setMeas_rf_ne (f : Keeper → Keeper) {j : Fk} (h : j.key ≠ SEC_MEAS_SEQ_COUNT.key) : (s.setMeas f).rf j = s.rf j := by
  rw [State.setMeas, State.measChange, State.irqPage_rf, State.bump, State.rf_wf_ne _ _ h]
  rfl

theorem setMeas_keeper (f : Keeper → Keeper) : (s.setMeas f).keeper = f s.keeper := by
  rw [State.setMeas, State.measChange, State.irqPage_keeps State.keeper fun _ _ => rfl]
  rfl

/-- Fields of the copies, which neither the measurements nor STATUS share a word with. -/
theorem loadEnded_rf_copy {j : Fk} (h : pgIMG + 0x280 ≤ j.off) : (s.loadEnded l).rf j = (s.copyReady l).rf j := by
  have hne : ∀ k : Fk, k.off < pgIMG + 0x280 ∧ k.lo < 64 → j.key ≠ k.key := by
    rintro k ⟨hoff, hlo⟩
    rw [Fk.key, Fk.key]
    omega
  rw [State.loadEnded, State.rf_wfs_two_ne (hne _ (by decide)) (hne _ (by decide)), setMeas_rf_ne _ (hne _ (by decide))]

theorem copyState_eq (n c : Nat) : s.copyState n c = s.rf (copyStateK n c) := by
  rw [State.copyState, copyStateK, apply_ite s.rf]

theorem copyState_off (n c : Nat) : pgIMG + 0x280 ≤ (copyStateK n c).off := by
  rw [copyStateK]
  split <;> exact Nat.le_add_right _ _

theorem copyStateK_key_ne (n c : Nat) : (copyStateK n c).key ≠ (copySlotK n c).key := by
  simp only [copyStateK, copySlotK, Fk.key]
  split <;> simp only [IMG_PCOPY_A_STATE, IMG_PCOPY_A_SLOT, IMG_PCOPY_B_STATE, IMG_PCOPY_B_SLOT] <;> omega

theorem copyStateK_w (n c : Nat) : (copyStateK n c).w = 3 := by
  rw [copyStateK]
  split <;> rfl

theorem copyReady_warm (h : l.warm = true) : (s.copyReady l).rf (copyStateK l.part l.copy) = 2 := by
  rw [State.copyReady]
  refine (congrArg (State.rf · _) (if_pos h)).trans ?_
  rw [State.rf_wfs_fst (copyStateK_key_ne _ _), copyStateK_w]
  rfl

theorem copyReady_cold (h : l.warm = false) : (s.copyReady l).rf (IMG_PCOPY_A_STATE l.part) = 3 ∧
    (s.copyReady l).rf (IMG_PCOPY_A_SLOT l.part) = l.slot % 256 ∧
    sget? (s.copyReady l).keeper.coldSlot l.part = some (l.slot + 1) := by
  have hready : s.copyReady l = (s.slotWhole l).coldDone l := if_neg (by simp [h])
  have hne : (IMG_PCOPY_A_STATE l.part).key ≠ (IMG_PCOPY_A_SLOT l.part).key := copyStateK_key_ne l.part 0
  rw [hready, State.coldDone, State.setCold]
  refine ⟨(State.rf_wfs_fst hne).trans rfl, State.rf_wfs_snd.trans rfl, ?_⟩
  exact (sget?_sins ..).trans (if_pos rfl)

theorem loadEnded_keeper : (s.loadEnded l).keeper = (s.copyReady l).keeper.loaded l (sget {} s.chest.imgs l.slot) := by
  rw [State.loadEnded, State.keeper_wfs, setMeas_keeper]

/-- Freeing keeps the entry of a slot that is used. -/
theorem sget?_filter_of {α : Type} {q : Nat × α → Bool} {k : Nat} {v : α} (hq : q (k, v) = true) :
    ∀ m : SMap α, sget? m k = some v → sget? (m.filter q) k = some v
  | [], h => nomatch h
  | (j, x) :: m, h => by
    by_cases hj : j = k
    · subst hj
      obtain rfl : x = v := by simpa [sget?] using h
      rw [List.filter_cons_of_pos hq]
      exact if_pos rfl
    · have hm : sget? m k = some v := by simpa [sget?, hj] using h
      rw [List.filter_cons]
      split
      · simpa [sget?, hj] using sget?_filter_of hq m hm
      · exact sget?_filter_of hq m hm

theorem slotUsed_live {n k : Nat} (hn : n < 16) (hst : s.rf (IMG_PCOPY_A_STATE n) = 3) (hk : s.rf (IMG_PCOPY_A_SLOT n) = k) :
    s.slotUsed k = true := by
  have hany : (List.range 16).any (fun n => (List.range 2).any fun c =>
      (s.copyState n c == 2 || s.copyState n c == 3) && s.copySlot n c == k) = true :=
    List.any_eq_true.mpr ⟨n, List.mem_range.mpr hn, List.any_eq_true.mpr ⟨0, by decide, by
      simp [State.copyState, State.copySlot, hst, hk]⟩⟩
  rw [State.slotUsed, hany]
  rfl

theorem copyReady_mem : (s.copyReady l).mem = s.mem := by
  rw [State.copyReady]
  exact ite_view State.mem (State.wfs_mem ..) (State.coldDone_mem ..)

theorem loadEnded_mem : (s.loadEnded l).mem = s.mem := by
  rw [State.loadEnded, State.wfs_mem, State.setMeas_mem, copyReady_mem]

end

theorem imageLoads_done (s : State) (l : Load) (hl : s.keeper.load = some l) (hp : l.placing = true) (hd : l.placed = true)
    (hz : s.allZeroed l = true) (hpart : l.part < 16) (hslot : l.slot < 256) (hh : s.loadHeld l = false)
    (hf : s.loadFenced l = none) :
    ∃ s', exec .imgLoadDone s = .next s' ∧ s'.rf IMG_STATUS_STATE = 3 ∧ s'.rf IMG_STATUS_RESULT = 0 ∧ s'.keeper.load = none ∧
      (l.warm = true → s'.copyState l.part l.copy = 2 ∧ BytesKept s s') ∧
      (l.warm = false → s'.copyState l.part 0 = 3 ∧ sget? s'.keeper.coldSlot l.part = some (l.slot + 1)) := by
  have hrf : ∀ j, (((s.loadEnded l).freeSlots.loadReport l true).irqPage pgIMG).rf j = (s.loadEnded l).rf j :=
    fun j => (loadReported_keeps (State.rf · j) (fun _ _ => rfl) _).trans (freeSlots_rf j)
  refine ⟨_, exec_imgLoadDone hl hp hd hz hh hf, ?_, ?_, ?_, fun hw => ⟨?_, BytesKept.of_mem ?_⟩, fun hw => ⟨?_, ?_⟩⟩
  · rw [hrf, State.loadEnded, State.rf_wfs_fst (by decide)]
    rfl
  · rw [hrf, State.loadEnded, State.rf_wfs_snd]
    rfl
  · rw [loadReported_keeps State.keeper (fun _ _ => rfl), freeSlots_load, loadEnded_keeper]
    rfl
  · rw [copyState_eq, hrf, loadEnded_rf_copy (copyState_off ..), copyReady_warm hw]
  · rw [loadReported_keeps State.mem (fun _ _ => rfl), State.freeSlots_mem, loadEnded_mem]
  · obtain ⟨hst, -, -⟩ := copyReady_cold (s := s) hw
    rw [copyState_eq, hrf, loadEnded_rf_copy (copyState_off ..)]
    exact hst
  · obtain ⟨hst, hk, hc⟩ := copyReady_cold (s := s) hw
    have hle : ∀ d, pgIMG + 0x280 ≤ 0x9000 + 0x280 + d := fun d => Nat.le_add_right _ _
    have hused : (s.loadEnded l).slotUsed l.slot = true := slotUsed_live hpart
      ((loadEnded_rf_copy (hle _)).trans hst) ((loadEnded_rf_copy (hle _)).trans (hk.trans (Nat.mod_eq_of_lt hslot)))
    have hq : (s.loadEnded l).slotUsed (l.slot + 1 - 1) = true := by rw [Nat.add_sub_cancel, hused]
    have hcold : sget? (s.loadEnded l).keeper.coldSlot l.part = some (l.slot + 1) := by rw [loadEnded_keeper]; exact hc
    rw [loadReported_keeps State.keeper fun _ _ => rfl, freeSlots_cold]
    exact sget?_filter_of hq _ hcold

/-! ### Peers -/

section
variable {s : State} {m i k : Nat}

theorem exec_imgPeerReport (ok : Bool) (hk : s.peerOf m = some k) : exec (.imgPeerReport m ok) s =
    .next (let left := s.keeper.peers.erase (m, k)
      let s1 := s.updKeeper fun x => { x with
        peers := left
        resends := if left.any (·.2 == k) then x.resends else x.resends.filter fun (e : Nat × Nat) => e.1 / 2 ^ 64 != k }
      (if k ≠ s.keeper.peerSlot then s1
       else if ok then s1.bump IMG_PEERS_PEERS_DONE else s1.bump IMG_PEERS_PEERS_FAILED).freeSlots) := by
  rw [show exec (.imgPeerReport m ok) s = execImgPeerReport m ok s from rfl, execImgPeerReport, hk]

theorem exec_imgPeerReport_last (ok : Bool) (hk : s.peerOf m = some k) (hp : s.keeper.peers = [(m, k)]) (hr : s.keeper.resends = []) :
    exec (.imgPeerReport m ok) s = .next (let s1 := s.updKeeper fun x => { x with peers := [] }
      (if k ≠ s.keeper.peerSlot then s1
       else if ok then s1.bump IMG_PEERS_PEERS_DONE else s1.bump IMG_PEERS_PEERS_FAILED).freeSlots) := by
  have hleft : s.keeper.peers.erase (m, k) = [] := by rw [hp, List.erase_cons_head]
  have hupd : (s.updKeeper fun x => { x with
      peers := s.keeper.peers.erase (m, k)
      resends := if (s.keeper.peers.erase (m, k)).any (·.2 == k) then x.resends
        else x.resends.filter fun (e : Nat × Nat) => e.1 / 2 ^ 64 != k }) = s.updKeeper fun x => { x with peers := [] } := by
    rw [hleft, State.updKeeper, State.updKeeper, List.any_nil, if_neg Bool.false_ne_true, hr, List.filter_nil, ← hr]
  rw [exec_imgPeerReport ok hk]
  dsimp only
  rw [hupd]

end

theorem imageLoads_peers (s : State) (m i k : Nat) (hk : s.peerOf m = some k) :
    let key := (k * 2 ^ 32 + m) * 2 ^ 32 + i
    ((sget? (sget {} s.chest.imgs k).shards i).isSome = true → sget 0 s.keeper.resends key < s.rf IMG_CTRL_SHARD_RETRY →
      exec (.imgResendRequest m i) s = .next (((s.updKeeper fun x =>
        { x with resends := sins x.resends key (sget 0 x.resends key + 1) }).bump IMG_RETRIES_COUNT).emit (.peerShard m i))) ∧
    (s.keeper.peers = [(m, k)] → s.keeper.resends = [] →
      let s1 := s.updKeeper fun x => { x with peers := [] }
      (k = s.keeper.peerSlot →
        exec (.imgPeerReport m true) s = .next (s1.bump IMG_PEERS_PEERS_DONE).freeSlots ∧
        exec (.imgPeerReport m false) s = .next (s1.bump IMG_PEERS_PEERS_FAILED).freeSlots) ∧
      (∀ ok, k ≠ s.keeper.peerSlot → exec (.imgPeerReport m ok) s = .next s1.freeSlots)) ∧
    (∀ ok, ∃ s', exec (.imgPeerReport m ok) s = .next s' ∧ s'.keeper.peers = s.keeper.peers.erase (m, k) ∧ BytesKept s s') := by
  refine ⟨fun hs ht => ?_, fun hp hr => ⟨fun h => ⟨?_, ?_⟩, fun ok h => ?_⟩, fun ok => ?_⟩
  · rw [show exec (.imgResendRequest m i) s = execImgResendRequest m i s from rfl, execImgResendRequest, hk]
    exact congrArg _ (if_pos ⟨hs, ht⟩)
  · rw [exec_imgPeerReport_last true hk hp hr]
    exact congrArg (fun u => Host.Outcome.next (State.freeSlots u)) (if_neg (by simp [h]))
  · rw [exec_imgPeerReport_last false hk hp hr]
    exact congrArg (fun u => Host.Outcome.next (State.freeSlots u)) (if_neg (by simp [h]))
  · rw [exec_imgPeerReport_last ok hk hp hr]
    exact congrArg (fun u => Host.Outcome.next (State.freeSlots u)) (if_pos h)
  · refine ⟨_, exec_imgPeerReport ok hk, ?_, BytesKept.of_mem ?_⟩
    · rw [freeSlots_peers]
      exact ite_view (fun u : State => u.keeper.peers) rfl (ite_view (fun u : State => u.keeper.peers) rfl rfl)
    · rw [State.freeSlots_mem]
      exact ite_view State.mem rfl (ite_view State.mem rfl rfl)

/-- Settles O50. -/
theorem imageLoads : Obligations.ImageLoads := by
  refine ⟨fun s hw hr => ?_, imageLoads_prologue, imageLoads_shard, imageLoads_nvme,
    fun s l hl hp hd hz hpart _ hslot hh hf => imageLoads_done s l hl hp hd hz hpart hslot hh hf,
    fun s l hl _ h => exec_imgLoadDone_unplaced hl h, imageLoads_peers⟩
  obtain ⟨hidle, hgo⟩ := imageLoads_go s hw hr
  obtain ⟨hwait, habort⟩ := imageLoads_abort s hw hr
  exact ⟨hidle, hgo, hwait, habort⟩

end Sys2Proof.Machine

/-! PROOF. Partition commands, drains, partition resets and management resets. -/

namespace Sys2Proof.Machine

section
variable {s : State} {f n : Nat}

/-! ### The state of a partition -/

theorem setPst_rf_ne (st : Nat) {j : Fk} (h1 : j.key ≠ (PART_STATE_STATE n).key) (h2 : j.key ≠ (PART_STATE_DRAIN_DONE n).key) :
    (s.setPst n st).rf j = s.rf j := by
  rw [State.setPst, State.watchSync_rf, State.rf_wf_ne _ _ h2, State.rf_wf_ne _ _ h1]

theorem setPst_pst (st : Nat) : (s.setPst n st).pst n = st % 16 := by
  rw [State.pst, State.setPst, State.watchSync_rf,
    State.rf_wf_ne _ _ (by simp only [Fk.key, PART_STATE_STATE, PART_STATE_DRAIN_DONE]; omega), State.rf_wf_self]
  rfl

theorem plainsOf_setPst (st m : Nat) : (s.setPst n st).plainsOf m = s.plainsOf m := by
  have hrf : ∀ lo w, lo < 64 → (s.setPst n st).rf ⟨partPage m 0 + 0x110, lo, w⟩ = s.rf ⟨partPage m 0 + 0x110, lo, w⟩ := by
    intro lo w hlo
    refine setPst_rf_ne st ?_ ?_ <;> simp only [Fk.key, PART_STATE_STATE, PART_STATE_DRAIN_DONE, partPage] <;> omega
  have hx : (s.setPst n st).rf (PART_GEOM_X0 m) = s.rf (PART_GEOM_X0 m) := hrf _ _ (by decide)
  have hy : (s.setPst n st).rf (PART_GEOM_Y0 m) = s.rf (PART_GEOM_Y0 m) := hrf _ _ (by decide)
  have hw : (s.setPst n st).rf (PART_GEOM_W m) = s.rf (PART_GEOM_W m) := hrf _ _ (by decide)
  have hh : (s.setPst n st).rf (PART_GEOM_H m) = s.rf (PART_GEOM_H m) := hrf _ _ (by decide)
  have hgeom : (s.setPst n st).geomHas m = s.geomHas m := funext fun p => by simp only [State.geomHas, hx, hy, hw, hh]
  rw [State.plainsOf, State.plainsOf, hgeom]

/-! ### Commands -/

theorem partHost_taken (c : Nat) (hw : s.writes f n = true) (hr : s.pageReady (partPage n 0) = true) :
    s.partHost f n c = s.partCmd n c := by
  rw [State.partHost, hw, hr]
  rfl

theorem partCmd_now {c : Nat} (hi : s.keeper.idle = false) (hc : c ≠ 6) : s.partCmd n c = s.cmdNow n c := by
  rw [State.partCmd, if_neg (by simp [State.cmdWaits, hi]), if_neg hc]

theorem partHost_now {c : Nat} (hw : s.writes f n = true) (hr : s.pageReady (partPage n 0) = true) (hi : s.keeper.idle = false)
    (hc : c ≠ 6) : s.partHost f n c = s.cmdNow n c := (partHost_taken c hw hr).trans (partCmd_now hi hc)

theorem partHost_waits {c : Nat} (hw : s.writes f n = true) (hr : s.pageReady (partPage n 0) = true)
    (h : (s.keeper.idle = true ∧ (c = 1 ∨ c = 4)) ∨ s.cmdWaits n = true) :
    s.partHost f n c = s.updKeeper fun x => { x with idleExit := true, deferred := x.deferred ++ [(n, c)] } :=
  (partHost_taken c hw hr).trans (if_pos h)

end

/-- The commands of Table CS-12 outside IDLE-HOLD. -/
theorem partitions_now (s : State) (f n : Nat) (hw : s.writes f n = true) (hr : s.pageReady (partPage n 0) = true)
    (hi : s.keeper.idle = false) :
    (s.pst n = 1 → s.hasImage n = true → s.coldLoading n = false → s.rb FLT_STATUS_HALTED = false →
      exec (.start f n) s = .next ((s.armAll n).runPart n)) ∧
    (s.pst n ≠ 1 ∨ s.hasImage n = false ∨ s.coldLoading n = true ∨ s.rb FLT_STATUS_HALTED = true → exec (.start f n) s =
      .next (s.wfs [(PART_STATE_CMD_REJECTED n, 1), (PART_STATE_LAST_CMD n, 1)])) ∧
    (s.pst n = 5 ∨ s.pst n = 4 → exec (.stop f n) s = .next ((s.setPst n 1).closeItems n 4 fun _ => true)) ∧
    (s.pst n ≠ 5 → s.pst n ≠ 4 → exec (.stop f n) s =
      .next (s.wfs [(PART_STATE_CMD_REJECTED n, 1), (PART_STATE_LAST_CMD n, 2)])) ∧
    (s.pst n = 2 ∨ s.pst n = 7 ∨ s.pst n = 5 → exec (.drain f n) s =
      .next (((s.updPart n fun p => { p with drainFrom := s.time, drainRaised := false }).setPst n 3).promotePart n)) ∧
    (s.pst n = 5 ∨ s.pst n = 4 → s.rb FLT_STATUS_HALTED = false → exec (.resume f n) s = .next (s.runPart n)) ∧
    (s.pst n ≠ 2 → s.pst n ≠ 7 → s.pst n ≠ 5 → exec (.drain f n) s =
      .next (s.wfs [(PART_STATE_CMD_REJECTED n, 1), (PART_STATE_LAST_CMD n, 3)])) ∧
    ((s.pst n ≠ 5 ∧ s.pst n ≠ 4) ∨ s.rb FLT_STATUS_HALTED = true → exec (.resume f n) s =
      .next (s.wfs [(PART_STATE_CMD_REJECTED n, 1), (PART_STATE_LAST_CMD n, 4)])) ∧
    (s.pst n = 2 ∨ s.pst n = 7 → exec (.pause f n) s = .next (s.setPst n 5)) ∧
    (s.pst n ≠ 2 → s.pst n ≠ 7 → exec (.pause f n) s =
      .next (s.wfs [(PART_STATE_CMD_REJECTED n, 1), (PART_STATE_LAST_CMD n, 5)])) := by
  have hstart : exec (.start f n) s = .next (s.cmdNow n 1) := congrArg _ (partHost_now hw hr hi (by decide))
  have hstop : exec (.stop f n) s = .next (s.cmdNow n 2) := congrArg _ (partHost_now hw hr hi (by decide))
  have hdrain : exec (.drain f n) s = .next (s.cmdNow n 3) := congrArg _ (partHost_now hw hr hi (by decide))
  have hresume : exec (.resume f n) s = .next (s.cmdNow n 4) := congrArg _ (partHost_now hw hr hi (by decide))
  have hpause : exec (.pause f n) s = .next (s.cmdNow n 5) := congrArg _ (partHost_now hw hr hi (by decide))
  refine ⟨fun h1 himg hld hh => ?_, fun h => ?_, fun h => ?_, fun h5 h4 => ?_, fun h => ?_, fun h hh => ?_, fun h2 h7 h5 => ?_,
    fun h => ?_, fun h => ?_, fun h2 h7 => ?_⟩
  · exact hstart.trans (congrArg _ (if_pos ⟨h1, himg, by rw [hld]; rfl, by rw [hh]; rfl⟩))
  · refine hstart.trans (congrArg _ (if_neg ?_))
    rintro ⟨h1, himg, hld, hh⟩
    rcases h with h | h | h | h
    · exact h h1
    · exact absurd (himg.symm.trans h) (by decide)
    · rw [h] at hld
      exact absurd hld (by decide)
    · rw [h] at hh
      exact absurd hh (by decide)
  · exact hstop.trans (congrArg _ (if_pos h))
  · exact hstop.trans (congrArg _ (if_neg (not_or.mpr ⟨h5, h4⟩)))
  · exact hdrain.trans (congrArg _ (if_pos h))
  · exact hresume.trans (congrArg _ (if_pos ⟨h, by rw [hh]; rfl⟩))
  · exact hdrain.trans (congrArg _ (if_neg (not_or.mpr ⟨h2, not_or.mpr ⟨h7, h5⟩⟩)))
  · refine hresume.trans (congrArg _ (if_neg ?_))
    rintro ⟨hst, hh⟩
    rcases h with ⟨h5, h4⟩ | h
    · exact hst.elim h5 h4
    · rw [h] at hh
      exact absurd hh (by decide)
  · exact hpause.trans (congrArg _ (if_pos h))
  · exact hpause.trans (congrArg _ (if_neg (not_or.mpr ⟨h2, h7⟩)))

theorem partitions_idle (s : State) (f n : Nat) (hw : s.writes f n = true) (hr : s.pageReady (partPage n 0) = true)
    (hi : s.keeper.idle = true) :
    exec (.start f n) s = .next (s.updKeeper fun x => { x with idleExit := true, deferred := x.deferred ++ [(n, 1)] }) ∧
    exec (.resume f n) s = .next (s.updKeeper fun x => { x with idleExit := true, deferred := x.deferred ++ [(n, 4)] }) ∧
    (s.cmdWaits n = true → exec (.stop f n) s = .next (s.updKeeper fun x => { x with idleExit := true, deferred := x.deferred ++ [(n, 2)] }) ∧
      exec (.drain f n) s = .next (s.updKeeper fun x => { x with idleExit := true, deferred := x.deferred ++ [(n, 3)] }) ∧
      exec (.pause f n) s = .next (s.updKeeper fun x => { x with idleExit := true, deferred := x.deferred ++ [(n, 5)] })) :=
  ⟨congrArg _ (partHost_waits hw hr (.inl ⟨hi, .inl rfl⟩)), congrArg _ (partHost_waits hw hr (.inl ⟨hi, .inr rfl⟩)),
    fun h => ⟨congrArg _ (partHost_waits hw hr (.inr h)), congrArg _ (partHost_waits hw hr (.inr h)),
      congrArg _ (partHost_waits hw hr (.inr h))⟩⟩

section
variable {s : State} {n : Nat}

/-! ### A partition that runs -/

theorem promotePart_rf {j : Fk} (h : j.key < tilePage 0 * 64) : (s.promotePart n).rf j = s.rf j :=
  foldl_keeps (State.rf · j) (fun _ _ => State.promote_rf_below h) _ s

theorem partStateKey_below (hn : n < 16) : (PART_STATE_STATE n).key < tilePage 0 * 64 := by
  simp only [Fk.key, PART_STATE_STATE, partPage, tilePage]
  omega

theorem partCauseKey_below (hn : n < 16) : (PFLT_STATUS_CAUSE n).key < tilePage 0 * 64 := by
  simp only [Fk.key, PFLT_STATUS_CAUSE, partPage, tilePage]
  omega

theorem partImpaired_degraded : (s.updPart n fun p => { p with degraded := false }).partImpaired n = s.partImpaired n := by
  rw [State.partImpaired, State.part_updPart_self]
  rfl

theorem enterFault_pst (st c : Nat) : (s.enterFault n st c).pst n = st % 16 := by
  rw [State.pst, State.enterFault, State.irqPart_rf, State.rf_wf_ne _ _ ?_]
  · exact setPst_pst st
  · simp only [Fk.key, PART_STATE_STATE, PFLT_STATUS_CAUSE, partPage]
    omega

theorem enterFault_cause (st c : Nat) : (s.enterFault n st c).rf (PFLT_STATUS_CAUSE n) = c % 16 := by
  rw [State.enterFault, State.irqPart_rf, State.rf_wf_self]
  rfl

theorem runPart_running (hn : n < 16) (h : s.partImpaired n = false) : (s.runPart n).pst n = 2 := by
  rw [State.pst, State.runPart, promotePart_rf (partStateKey_below hn), if_neg (by rw [partImpaired_degraded, h]; decide)]
  exact setPst_pst _

theorem runPart_degraded (hn : n < 16) (h : s.partImpaired n = true) :
    (s.runPart n).pst n = 7 ∧ (s.runPart n).rf (PFLT_STATUS_CAUSE n) = 3 := by
  rw [State.pst, State.runPart, promotePart_rf (partStateKey_below hn), promotePart_rf (partCauseKey_below hn),
    if_pos (by rw [partImpaired_degraded, h])]
  exact ⟨enterFault_pst _ _, enterFault_cause _ _⟩

/-! ### Resets -/

/-- The work of a partition, which its reset empties. -/
def Part.work (p : Part) : List Halt × Option Sweep × SMap (List Dma) × List Nat := (p.halts, p.sweep, p.dma, p.recoveries)

theorem suspendRoutes_work (p : Nat) : ((s.suspendRoutes p).part n).work = (s.part n).work := by
  refine foldl_keeps (fun u : State => (u.part n).work) (fun u t => ?_) _ s
  refine foldl_keeps (fun u : State => (u.part n).work) (fun v k => ?_) _ u
  dsimp only
  split
  · split
    · rw [State.part_updPart]
      split
      · next h => rw [h]; rfl
      · rfl
    · rfl
  · rfl

theorem resuspend_work : ((s.resuspend n).part n).work = (s.part n).work := by
  refine (foldl_keeps (fun u : State => (u.part n).work) (fun _ _ => suspendRoutes_work _) _ _).trans ?_
  rw [State.part_updPart_self]
  rfl

theorem partResetGo_work : ((s.partResetGo n).part n).work = ([], none, [], []) := by
  unfold State.partResetGo
  extract_lets used paused s1 s2 s3 s4 s5 s6 s7
  rw [resuspend_work, State.part_updPart_self]
  rfl

theorem partReset_go (hf : s.frozen = false) (hr : s.restoring = false) (hp : s.pst n ≠ 8) :
    s.partReset n false = s.partResetGo n := by
  have hp' : s.pst n ≠ psRESETTING := hp
  rw [State.partReset]
  simp [hf, hr, hp']

theorem partReset_held (hf : s.frozen = true) : s.partReset n false = s.holdReset (.part n false) := by
  rw [State.partReset]
  simp [hf]

theorem exec_partitionReset {f : Nat} (hw : s.reaches f n = true) (hr : s.pageReady (partPage n 0) = true)
    (hc : s.cmdWaits n = false) : exec (.partitionReset f n) s = .next (s.partReset n false) := by
  refine congrArg _ ((if_pos (by rw [hw, hr]; rfl)).trans ?_)
  rw [State.partCmd, if_neg (by simp [hc]), if_pos rfl]

/-- No tile reset waits in a partition whose plains wait for none. -/
theorem waitedReset_fold (l : List Nat) (h : ∀ p ∈ l, (s.plain p).resetWait = false) : l.foldl State.waitedReset s = s := by
  induction l with
  | nil => rfl
  | cons p l ih =>
    have hp : s.waitedReset p = s := if_pos (by rw [h p (.head _)]; rfl)
    rw [List.foldl_cons, hp]
    exact ih fun q hq => h q (.tail _ hq)

theorem exec_partitionResetComplete (hn : n < 16) (hp : s.pst n = 8)
    (hq : ∀ p, p ∈ s.plainsOf n → (s.plain p).repair = none ∧ (s.plain p).resetWait = false) :
    exec (.partitionResetComplete n) s = .next ((s.setPst n (if s.emptyGeom n then 0 else 1)).flrReport n) := by
  have hany : (s.plainsOf n).any (fun p => ((s.plain p).repair.map (·.reset)).getD false && s.plnState p == 1) = false :=
    List.any_eq_false.mpr fun p hm => by simp [(hq p hm).1]
  refine congrArg _ ((if_neg ?_).trans ?_)
  · rw [hany]
    rintro (h | h | h)
    · omega
    · exact h hp
    · exact absurd h (by decide)
  · refine congrArg (State.flrReport · n) (waitedReset_fold _ fun p hm => ?_)
    rw [plainsOf_setPst] at hm
    rw [State.setPst_plain]
    exact (hq p hm).2

end

theorem partitions_run (s : State) (n : Nat) (hn : n < 16) :
    (s.partImpaired n = false → (s.runPart n).pst n = 2 ∧ BytesKept s (s.runPart n)) ∧
    (s.partImpaired n = true → (s.runPart n).pst n = 7 ∧ (s.runPart n).rf (PFLT_STATUS_CAUSE n) = 3) :=
  ⟨fun h => ⟨runPart_running hn h, BytesKept.of_mem (by simp)⟩, fun h => runPart_degraded hn h⟩

theorem partitions_drain (s : State) (n at_ : Nat) (hn : n < 16) (hp : s.pst n = 3) :
    (s.drained n = true → exec (.drainComplete n) s = .next (s.setPst n 4)) ∧
    (s.drained n = false → exec (.drainComplete n) s = .next s) ∧
    ((s.part n).drainRaised = false → (s.part n).drainFrom + s.rf (PART_DRAIN_LIMIT_MICROSECONDS n) * 1000 ≤ max s.time at_ →
      exec (.drainTimeout n at_) s =
        .next (((s.at at_).updPart n fun p => { p with drainRaised := true }).raise 0xB001 (partPage n 0))) := by
  refine ⟨fun h => congrArg _ (if_pos ⟨hn, hp, h⟩), fun h => congrArg _ (if_neg ?_), fun hr ht => congrArg _ (if_pos ?_)⟩
  · rintro ⟨-, -, hd⟩
    exact absurd (hd.symm.trans h) (by decide)
  · refine ⟨hn, hp, ?_, ht⟩
    rw [show ((s.at at_).part n).drainRaised = false from hr]
    rfl

theorem partitions_reset (s : State) (f n : Nat) (hw : s.reaches f n = true) (hr : s.pageReady (partPage n 0) = true)
    (hc : s.cmdWaits n = false) :
    (s.frozen = true → exec (.partitionReset f n) s =
      .next (({ s with heldResets := s.heldResets ++ [.part n false] } : State).wf MOD_STATUS_RESET_HELD 1)) ∧
    (s.frozen = false → s.restoring = false → s.pst n ≠ 8 → exec (.partitionReset f n) s = .next (s.partResetGo n) ∧
      ((s.partResetGo n).part n).halts = [] ∧ ((s.partResetGo n).part n).sweep = none ∧ ((s.partResetGo n).part n).dma = [] ∧
      ((s.partResetGo n).part n).recoveries = []) := by
  refine ⟨fun h => ?_, fun hf hre hp => ⟨?_, ?_⟩⟩
  · rw [exec_partitionReset hw hr hc, partReset_held h]
    rfl
  · rw [exec_partitionReset hw hr hc, partReset_go hf hre hp]
  · have h := partResetGo_work (s := s) (n := n)
    simp only [Part.work, Prod.mk.injEq] at h
    exact h

theorem partitions_resetComplete (s : State) (n : Nat) (hn : n < 16) (hp : s.pst n = 8)
    (hq : ∀ p, p ∈ s.plainsOf n → (s.plain p).repair = none ∧ (s.plain p).resetWait = false) :
    (s.pcie.vfReset.contains (n + 1) = false →
      exec (.partitionResetComplete n) s = .next (s.setPst n (if s.emptyGeom n then 0 else 1))) ∧
    (s.pcie.vfReset.contains (n + 1) = true → ∃ s', exec (.partitionResetComplete n) s = .next s' ∧
      s'.out = .flrDone (n + 1) :: s.out ∧ s'.pst n = (if s.emptyGeom n then 0 else 1) ∧ BytesKept s s') := by
  have he := exec_partitionResetComplete hn hp hq
  refine ⟨fun h => ?_, fun h => ?_⟩
  · refine he.trans (congrArg _ (if_neg ?_))
    rw [State.setPst_pcie, h]
    decide
  · rw [State.flrReport, if_pos (by rw [State.setPst_pcie, h])] at he
    refine ⟨_, he, ?_, ?_, BytesKept.of_mem ?_⟩
    · exact congrArg _ (State.setPst_out ..)
    · refine (setPst_pst (s := s) (n := n) _).trans ?_
      split <;> rfl
    · exact State.setPst_mem ..

theorem partitions_flr (s : State) (k : Nat) (h1 : 1 ≤ k) (h16 : k ≤ 16) (hf : s.fnUp k = true) (hr : s.rb MOD_STATUS_READY = true) :
    exec (.vfFunctionLevelReset k) s =
      .next (if s.cmdWaits (k - 1) then s.updKeeper fun x => { x with deferred := x.deferred ++ [(k - 1, 7)] }
        else s.partReset (k - 1) true) := by
  refine congrArg _ ((if_neg ?_).trans (if_pos (.inl hr)))
  rw [hf]
  simp
  omega

theorem partitions_mgmt (s : State) (hl : s.pcie.l0 = true) (hf : s.frozen = false) (hr : s.restoring = false)
    (hm : s.pcie.mgmtReset = false) (hload : s.keeper.load = none) :
    ∃ s', exec .managementReset s = .next s' ∧ s'.pcie.mgmtReset = true ∧ s'.pf0Epoch = (s.pf0Epoch + 1) % 65536 ∧
      s'.fnUp 0 = false ∧ BytesKept s s' := by
  have hgo : s.mgmtReset = s.mgmtResetGo := by simp [State.mgmtReset, hf, hr, hm]
  have habort : ((s.clearPages (pgHST + 0x100) (pgHST + 0x120)).epochPf0).imgAbort 17 =
      (s.clearPages (pgHST + 0x100) (pgHST + 0x120)).epochPf0 := by
    rw [State.imgAbort]
    split
    · rfl
    · next l h => exact nomatch hload.symm.trans h
  have he : exec .managementReset s = .next s.mgmtResetGo := congrArg _ ((if_pos hl).trans hgo)
  rw [State.mgmtResetGo, habort] at he
  refine ⟨_, he, rfl, rfl, ?_, BytesKept.of_mem rfl⟩
  exact Bool.and_false _

/-- Settles O51. -/
theorem partitions : Obligations.Partitions :=
  ⟨partitions_now, partitions_idle, partitions_run, partitions_drain, partitions_reset, partitions_resetComplete, partitions_flr,
    partitions_mgmt, fun _ => rfl, fun _ _ _ _ _ => rfl⟩

end Sys2Proof.Machine

/-! PROOF. Backup and restore. -/

namespace Sys2Proof.Machine

section
variable {s : State}

/-! ### Fields that the Keeper keeps, and the states with an event -/

theorem State.rf_wk_self (k : Fk) (v : Nat) : (s.wk k v).rf k = v % 2 ^ k.w := (State.rf_wf_self s k v)

theorem State.rf_wk_ne {j k : Fk} (v : Nat) (h : j.key ≠ k.key) : (s.wk k v).rf j = s.rf j := State.rf_wf_ne s v h

theorem State.rf_wks_ne {j : Fk} (l : List (Fk × Nat)) (h : ∀ q ∈ l, j.key ≠ q.1.key) : (s.wks l).rf j = s.rf j := by
  induction l generalizing s with
  | nil => rfl
  | cons q l ih =>
    refine (ih fun r hr => h r (.tail _ hr)).trans ?_
    exact State.rf_wk_ne _ (h q (.head _))

theorem wks_keeps {β : Type} (view : State → β) (hwk : ∀ u k v, view (State.wk u k v) = view u) (l : List (Fk × Nat)) :
    view (s.wks l) = view s := foldl_keeps view (fun _ _ => hwk ..) l s

/-- A view that the write of KEEP.SEQ and its event leave. -/
theorem setSeq_keeps {β : Type} (view : State → β) (hwf : ∀ u v, view (State.wf u KEEP_SEQ_STATE v) = view u)
    (hemit : ∀ u o, view (State.emit u o) = view u) (st : Nat) : view (s.setSeq st) = view s := by
  rw [State.setSeq]
  exact ite_view view rfl ((State.irqPage_keeps view hemit _).trans (hwf _ _))

theorem setSeq_rf_self {st : Nat} (h : st < 8) : (s.setSeq st).rf KEEP_SEQ_STATE = st := by
  rw [State.setSeq]
  split
  · next hs => exact hs
  · rw [State.irqPage_rf, State.rf_wf_self]
    exact Nat.mod_eq_of_lt h

theorem setSeq_rf_ne (st : Nat) {j : Fk} (h : j.key ≠ KEEP_SEQ_STATE.key) : (s.setSeq st).rf j = s.rf j :=
  setSeq_keeps (State.rf · j) (fun _ _ => State.rf_wf_ne _ _ h) (fun _ _ => rfl) st

theorem setSlot_keeps {β : Type} (view : State → β) {k : Nat} (hwk : ∀ u v, view (State.wk u (CHST_BSLOT_STATE k) v) = view u)
    (hemit : ∀ u o, view (State.emit u o) = view u) (st : Nat) : view (s.setSlot k st) = view s := by
  rw [State.setSlot]
  exact ite_view view rfl ((State.irqPage_keeps view hemit _).trans (hwk _ _))

theorem setSlot_rf_self {st : Nat} (h : st < 8) (k : Nat) : (s.setSlot k st).rf (CHST_BSLOT_STATE k) = st := by
  rw [State.setSlot]
  split
  · next hs => exact hs
  · rw [State.irqPage_rf, State.rf_wk_self]
    exact Nat.mod_eq_of_lt h

theorem setSlot_rf_ne {k : Nat} (st : Nat) {j : Fk} (h : j.key ≠ (CHST_BSLOT_STATE k).key) : (s.setSlot k st).rf j = s.rf j :=
  setSlot_keeps (State.rf · j) (fun _ _ => State.rf_wk_ne _ h) (fun _ _ => rfl) st

theorem setArmed_keeps {β : Type} (view : State → β) (hwf : ∀ u v, view (State.wf u PWR_STATUS_ARMED v) = view u)
    (hemit : ∀ u o, view (State.emit u o) = view u) (v : Bool) : view (s.setArmed v) = view s := by
  rw [State.setArmed]
  exact ite_view view rfl ((State.irqPage_keeps view hemit _).trans (hwf _ _))

theorem setArmed_rb (v : Bool) : (s.setArmed v).rb PWR_STATUS_ARMED = v := by
  rw [State.setArmed]
  split
  · next h => exact h.symm
  · rw [State.rb, State.irqPage_rf, State.rf_wf_self]
    cases v <;> rfl

theorem setArmed_rf_ne (v : Bool) {j : Fk} (h : j.key ≠ PWR_STATUS_ARMED.key) : (s.setArmed v).rf j = s.rf j :=
  setArmed_keeps (State.rf · j) (fun _ _ => State.rf_wf_ne _ _ h) (fun _ _ => rfl) v

/-- A view that PWR.STATUS.STATE, its event and ALERT# leave. -/
theorem setPwr_keeps {β : Type} (view : State → β) (hwf : ∀ u v, view (State.wf u PWR_STATUS_STATE v) = view u)
    (hemit : ∀ u o, view (State.emit u o) = view u) (halert : ∀ u, view (State.setAlert u) = view u) : view s.setPwr = view s := by
  rw [State.setPwr]
  exact ite_view view rfl ((halert _).trans ((State.irqPage_keeps view hemit _).trans (hwf _ _)))

theorem setPwr_rf_ne {j : Fk} (h : j.key ≠ PWR_STATUS_STATE.key) : s.setPwr.rf j = s.rf j :=
  setPwr_keeps (State.rf · j) (fun _ _ => State.rf_wf_ne _ _ h) (fun _ _ => rfl) fun _ => rfl

theorem pwrState_lt : s.pwrState < 8 := by
  rw [State.pwrState]
  repeat' split
  all_goals decide

theorem setPwr_rf_self : s.setPwr.rf PWR_STATUS_STATE = s.pwrState := by
  rw [State.setPwr]
  split
  · next h => exact h.symm
  · rw [State.setAlert_rf, State.irqPage_rf, State.rf_wf_self]
    exact Nat.mod_eq_of_lt pwrState_lt

/-! ### Backup -/

/-- The matrix queues of a settled module are dropped before the keep data is captured. -/
def State.settled (s : State) : State :=
  (s.tiles.map fun (e : Nat × Tile) => e.1).foldl (fun s t => s.updTile t fun x => { x with mq := [] }) s

theorem settled_keeps {β : Type} (view : State → β) (h : ∀ u t f, view (State.updTile u t f) = view u) :
    view s.settled = view s := foldl_keeps view (fun _ _ => h ..) _ s

/-- The state after a capture, with the backup in its second phase. -/
def State.backupTaken (s : State) (b : Backup) : State :=
  let c := s.capture (max (s.rf (CHST_BSLOT_SEQ 0)) (s.rf (CHST_BSLOT_SEQ 1)) + 1)
  (c.2.2.updKeeper fun k => { k with backup := some { b with phase := 2, snap := c.1, bytes := c.2.1 } }).setSeq 2

variable {at_ : Nat} {b : Backup}

/-- The time is no part of what a packet's way to its plain's fences reads. -/
theorem pathFenced_at (v : Nat) : ∀ n u, (s.at at_).pathFenced v n u = s.pathFenced v n u
  | 0, _ => rfl
  | n + 1, u => by
    rw [State.pathFenced, State.pathFenced]
    simp only [pathFenced_at v n]
    rfl

theorem takesCol_at (u : Nat) (tg : Nat × Option Loc) (k : Packet) : (s.at at_).takesCol u tg k = s.takesCol u tg k := by
  rw [State.takesCol, pathFenced_at]
  rfl

theorem packetGoes_at (u : Nat) (tg : Nat × Option Loc) (k : Packet) : (s.at at_).packetGoes u tg k = s.packetGoes u tg k := by
  rw [State.packetGoes, takesCol_at]
  rfl

theorem packetInFlight_at (k : Packet) : (s.at at_).packetInFlight k = s.packetInFlight k := by
  unfold State.packetInFlight
  split
  · simp only [packetGoes_at]
    rfl
  · rfl
  · rfl
  · rfl
  · rfl

theorem unsettled_at : (s.at at_).unsettled = s.unsettled := by
  have h : (s.at at_).packetInFlight = s.packetInFlight := funext packetInFlight_at
  rw [State.unsettled, State.unsettled, h]
  rfl

theorem exec_backupFreeze (hb : s.keeper.backup = some b) (hp : b.phase = 1) (hu : s.unsettled = false) :
    exec (.backupFreezeComplete at_) s = .next ((s.at at_).settled.backupTaken b) := by
  have hb' : (s.at at_).keeper.backup = some b := hb
  have hu' : (s.at at_).unsettled = false := unsettled_at.trans hu
  rw [show exec (.backupFreezeComplete at_) s = execBackupFreezeComplete at_ s from rfl, execBackupFreezeComplete, hb']
  exact congrArg _ (if_neg (by simp [hp, hu']))

theorem exec_backupFreeze_waits (hb : s.keeper.backup = some b) (hu : s.unsettled = true) :
    exec (.backupFreezeComplete at_) s = .next (s.at at_) := by
  have hb' : (s.at at_).keeper.backup = some b := hb
  rw [show exec (.backupFreezeComplete at_) s = execBackupFreezeComplete at_ s from rfl, execBackupFreezeComplete, hb']
  exact congrArg _ (if_pos (.inr (unsettled_at.trans hu)))

/-- The PCIe link is down. -/
def State.linkOff (s : State) : State := { s with pcie := { s.pcie with l0 := false } }

/-- Ethernet and span links are down. -/
def State.portsDown (s : State) : State :=
  (s.forEach (List.range 8) fun s p => s.wf (PRT_STATUS_LINK_UP p) 0).forEach (List.range 6) fun s p => s.wf (SPN_STATUS_UP p) 0

/-- The links go down and the module is held up by the pack. -/
def State.heldUp (s : State) (b : Backup) : State :=
  s.linkOff.portsDown.updKeeper fun k => { k with held := true, backup := some { b with phase := 3 } }

theorem forEach_wf_keeps {β : Type} (view : State → β) (k : Nat → Fk) (v : Nat) (l : List Nat)
    (h : ∀ u : State, ∀ p ∈ l, view (u.wf (k p) v) = view u) : view (s.forEach l fun s p => s.wf (k p) v) = view s :=
  foldl_keeps_of view h s

theorem portsDown_keeps {β : Type} (view : State → β) (h : ∀ u k v, view (State.wf u k v) = view u) :
    view s.portsDown = view s :=
  (forEach_wf_keeps view _ _ _ fun _ _ _ => h ..).trans (forEach_wf_keeps view _ _ _ fun _ _ _ => h ..)

theorem portsDown_link {p : Nat} (hp : p < 8) : s.portsDown.rf (PRT_STATUS_LINK_UP p) = 0 := by
  refine (forEach_wf_keeps (State.rf · (PRT_STATUS_LINK_UP p)) _ _ _ fun u q hq => State.rf_wf_ne _ _ ?_).trans ?_
  · have hq6 := List.mem_range.mp hq
    simp only [Fk.key, PRT_STATUS_LINK_UP, SPN_STATUS_UP]
    omega
  · refine foldl_settles (a := p) (v := 0) (fun _ => True) (State.rf · (PRT_STATUS_LINK_UP p)) trivial (fun _ _ _ _ => trivial)
      (fun u _ => (State.rf_wf_self ..).trans (Nat.zero_mod _)) (fun u q hq _ hne => State.rf_wf_ne _ _ ?_) (List.mem_range.mpr hp)
    simp only [Fk.key, PRT_STATUS_LINK_UP]
    omega

theorem exec_backupHeld (hb : s.keeper.backup = some b) (hp : b.phase = 2) :
    exec (.backupHeld at_) s = .next ((s.at at_).heldUp b).setPwr := by
  have hb' : (s.at at_).keeper.backup = some b := hb
  rw [show exec (.backupHeld at_) s = execBackupHeld at_ s from rfl, execBackupHeld, hb']
  exact congrArg _ (if_neg (by simp [hp]))

theorem heldUp_rf (j : Fk) : (s.heldUp b).rf j = s.linkOff.portsDown.rf j := State.updKeeper_rf ..

theorem heldUp_keeper : (s.heldUp b).keeper = { s.keeper with held := true, backup := some { b with phase := 3 } } := by
  have h : s.linkOff.portsDown.keeper = s.linkOff.keeper := portsDown_keeps State.keeper fun _ _ _ => rfl
  rw [State.heldUp, State.updKeeper, h]
  rfl

theorem heldUp_l0 : (s.heldUp b).pcie.l0 = false :=
  congrArg Pcie.l0 (portsDown_keeps (s := s.linkOff) State.pcie fun _ _ _ => rfl)

theorem heldUp_mem : (s.heldUp b).mem = s.mem := by
  rw [State.heldUp, State.updKeeper_mem, portsDown_keeps State.mem fun _ _ _ => State.wf_mem ..]
  rfl

theorem heldUp_pwr : (s.heldUp b).pwrState = 4 := by
  rw [State.pwrState, heldUp_keeper]
  exact if_pos rfl

/-- The record of a backup is opened in a slot. -/
def State.recordOpened (s : State) (b : Backup) (k : Nat) : State :=
  let s1 := (s.setSlot k 2).wk (CHST_BSLOT_SEQ k) b.snap.seq
  let s2 := if s1.rf (CHST_BSLOT_STATE (1 - k)) = 3 then s1.setSlot (1 - k) 4 else s1
  (s2.wk KEEP_RESTORE_PENDING 0).updKeeper fun x => { x with backup := some { b with phase := 4, slot := k } }

theorem exec_backupOpen {k : Nat} (hb : s.keeper.backup = some b) (hp : b.phase = 3) (hk : s.backupSlot b.bytes = some k) :
    exec (.backupOpenRecord at_) s = .next ((s.at at_).recordOpened b k) := by
  have hb' : (s.at at_).keeper.backup = some b := hb
  have hk' : (s.at at_).backupSlot b.bytes = some k := hk
  rw [show exec (.backupOpenRecord at_) s = execBackupOpenRecord at_ s from rfl, execBackupOpenRecord, hb']
  refine congrArg _ ((if_neg (by simp [hp])).trans ?_)
  rw [hk']
  rfl

theorem exec_backupOpen_none (hb : s.keeper.backup = some b) (hp : b.phase = 3) (hk : s.backupSlot b.bytes = none) :
    exec (.backupOpenRecord at_) s = .next (((s.at at_).wk KEEP_BACKUP_RESULT 3).powerOff) := by
  have hb' : (s.at at_).keeper.backup = some b := hb
  have hk' : (s.at at_).backupSlot b.bytes = none := hk
  rw [show exec (.backupOpenRecord at_) s = execBackupOpenRecord at_ s from rfl, execBackupOpenRecord, hb']
  refine congrArg _ ((if_neg (by simp [hp])).trans ?_)
  rw [hk']

theorem recordOpened_slot {k : Nat} (hk : k < 2) : (s.recordOpened b k).rf (CHST_BSLOT_STATE k) = 2 := by
  unfold State.recordOpened
  extract_lets s1 s2
  have hpend : (CHST_BSLOT_STATE k).key ≠ KEEP_RESTORE_PENDING.key := by
    simp only [Fk.key, CHST_BSLOT_STATE, KEEP_RESTORE_PENDING]
    omega
  have hseq : (CHST_BSLOT_STATE k).key ≠ (CHST_BSLOT_SEQ k).key := by
    simp only [Fk.key, CHST_BSLOT_STATE, CHST_BSLOT_SEQ]
    omega
  have hother : (CHST_BSLOT_STATE k).key ≠ (CHST_BSLOT_STATE (1 - k)).key := by
    simp only [Fk.key, CHST_BSLOT_STATE]
    omega
  have h1 : s1.rf (CHST_BSLOT_STATE k) = 2 := (State.rf_wk_ne _ hseq).trans (setSlot_rf_self (by decide) k)
  have h2 : s2.rf (CHST_BSLOT_STATE k) = 2 := State.rf_ite ((setSlot_rf_ne _ hother).trans h1) h1
  rw [State.updKeeper_rf, State.rf_wk_ne _ hpend, h2]

theorem recordOpened_pending {k : Nat} : (s.recordOpened b k).rf KEEP_RESTORE_PENDING = 0 := by
  unfold State.recordOpened
  extract_lets s1 s2
  rw [State.updKeeper_rf, State.rf_wk_self, Nat.zero_mod]

theorem recordOpened_mem {k : Nat} : (s.recordOpened b k).mem = s.mem := by
  unfold State.recordOpened
  extract_lets s1 s2
  have h1 : s1.mem = s.mem := State.setSlot_mem ..
  exact ite_view State.mem ((State.setSlot_mem ..).trans h1) h1

/-- A backup whose record is written. -/
def Backup.written (b : Backup) (rs : List Region) (n : Nat) : Backup :=
  { b with phase := 5, snap := { b.snap with regions := rs }, bytes := n }

theorem exec_backupWrite (hb : s.keeper.backup = some b) (hp : b.phase = 4) :
    exec (.backupWriteComplete 0 at_) s = .next ((((s.at at_).updKeeper fun x =>
        { x with backup := some (b.written (s.fenceRegions b.snap.regions) (s.backupBytes (s.fenceRegions b.snap.regions))) }).wk
      CHST_WEAR_BAD_BLOCKS (s.rf CHST_WEAR_BAD_BLOCKS)).setSeq 3) := by
  have hb' : (s.at at_).keeper.backup = some b := hb
  rw [show exec (.backupWriteComplete 0 at_) s = execBackupWriteComplete 0 at_ s from rfl, execBackupWriteComplete, hb']
  exact congrArg _ (if_neg (by simp [hp]))

/-- The record is in its slot, and its result in the Keeper's registers. -/
def State.recordCommitted (s : State) (b : Backup) (energy : Nat) : State :=
  let s1 := (s.updChest fun c => { c with snaps := sins c.snaps b.slot b.snap }).setSlot b.slot 3
  let s2 := s1.wks [(KEEP_BACKUP_RESULT, 1), (KEEP_BACKUP_BYTES, b.bytes), (KEEP_BACKUP_COST_TIME_US, (s1.time - b.from_) / 1000),
    (KEEP_BACKUP_COST_ENERGY_J, b.energy - energy), (KEEP_RESTORE_PENDING, 1)]
  s2.wf PWR_PACK_ENERGY_J energy

theorem exec_backupCommit {energy : Nat} (hb : s.keeper.backup = some b) (hp : b.phase = 5) :
    exec (.backupCommit energy at_) s = .next (if b.restored then ((s.at at_).recordCommitted b energy).moduleRestart 4
      else ((s.at at_).recordCommitted b energy).powerOff) := by
  have hb' : (s.at at_).keeper.backup = some b := hb
  rw [show exec (.backupCommit energy at_) s = execBackupCommit energy at_ s from rfl, execBackupCommit, hb']
  exact congrArg _ (if_neg (by simp [hp]))

theorem recordCommitted_fields (energy : Nat) : (s.recordCommitted b energy).rf KEEP_BACKUP_RESULT = 1 ∧
    (s.recordCommitted b energy).rf KEEP_RESTORE_PENDING = 1 ∧
    (s.recordCommitted b energy).rf PWR_PACK_ENERGY_J = energy % 2 ^ (PWR_PACK_ENERGY_J).w := by
  unfold State.recordCommitted
  extract_lets s1 s2
  refine ⟨?_, ?_, State.rf_wf_self ..⟩
  · rw [State.rf_wf_ne _ _ (by decide)]
    simp only [s2, State.wks, List.foldl_cons, List.foldl_nil]
    rw [State.rf_wk_ne _ (by decide), State.rf_wk_ne _ (by decide), State.rf_wk_ne _ (by decide), State.rf_wk_ne _ (by decide),
      State.rf_wk_self]
    rfl
  · rw [State.rf_wf_ne _ _ (by decide)]
    simp only [s2, State.wks, List.foldl_cons, List.foldl_nil]
    rw [State.rf_wk_self]
    rfl

theorem recordCommitted_snap (energy : Nat) : sget? (s.recordCommitted b energy).chest.snaps b.slot = some b.snap := by
  unfold State.recordCommitted
  extract_lets s1 s2
  have h1 : s1.chest = (s.updChest fun c => { c with snaps := sins c.snaps b.slot b.snap }).chest :=
    setSlot_keeps State.chest (fun _ _ => rfl) (fun _ _ => rfl) 3
  have h2 : s2.chest = s1.chest := wks_keeps State.chest (fun _ _ _ => rfl) _
  rw [State.wf_chest, h2, h1]
  exact (sget?_sins ..).trans (if_pos rfl)

/-! ### The pack is exhausted -/

theorem journalKeep_torn (c : Bool) : (s.journalKeep c).torn = s.keeper.torn :=
  foldl_keeps Keeper.torn (fun k p => by dsimp only; split <;> rfl) _ _

theorem powerOff_keeper : s.powerOff.keeper.torn = s.keeper.torn ∧ s.powerOff.keeper.phase = 0 ∧ s.powerOff.keeper.backup = none :=
  ⟨journalKeep_torn false, rfl, rfl⟩

end

theorem backup_phases (s : State) (at_ : Nat) (b : Backup) (hb : s.keeper.backup = some b) :
    (b.phase = 1 → s.unsettled = false → ∃ s' b', exec (.backupFreezeComplete at_) s = .next s' ∧ s'.keeper.backup = some b' ∧
      b'.phase = 2 ∧ b'.snap.seq = max (s.rf (CHST_BSLOT_SEQ 0)) (s.rf (CHST_BSLOT_SEQ 1)) + 1 ∧ b'.snap.latches = s.latches ∧
      b'.slot = b.slot ∧ s'.rf KEEP_SEQ_STATE = 2 ∧ BytesKept s s') ∧
    (b.phase = 1 → s.unsettled = true → exec (.backupFreezeComplete at_) s = .next (s.at at_)) ∧
    (b.phase = 2 → ∃ s', exec (.backupHeld at_) s = .next s' ∧ s'.pcie.l0 = false ∧ s'.keeper.held = true ∧
      s'.keeper.backup = some { b with phase := 3 } ∧ s'.rf PWR_STATUS_STATE = 4 ∧
      (∀ p, p < 8 → s'.rf (PRT_STATUS_LINK_UP p) = 0) ∧ BytesKept s s') ∧
    (b.phase = 3 → s.backupSlot b.bytes = none → exec (.backupOpenRecord at_) s =
      .next (((s.at at_).wk KEEP_BACKUP_RESULT 3).powerOff)) ∧
    (∀ k, b.phase = 3 → s.backupSlot b.bytes = some k → k < 2 → ∃ s', exec (.backupOpenRecord at_) s = .next s' ∧
      s'.keeper.backup = some { b with phase := 4, slot := k } ∧ s'.rf (CHST_BSLOT_STATE k) = 2 ∧
      s'.rf KEEP_RESTORE_PENDING = 0 ∧ BytesKept s s') ∧
    (b.phase = 4 → let rs := s.fenceRegions b.snap.regions
      ∃ s', exec (.backupWriteComplete 0 at_) s = .next s' ∧ s'.keeper.backup =
        some { b with phase := 5, snap := { b.snap with regions := rs }, bytes := s.backupBytes rs } ∧
      s'.rf KEEP_SEQ_STATE = 3 ∧ BytesKept s s') ∧
    (∀ e, b.phase = 5 → ∃ s1 : State, s1.rf KEEP_BACKUP_RESULT = 1 ∧ s1.rf KEEP_RESTORE_PENDING = 1 ∧
      sget? s1.chest.snaps b.slot = some b.snap ∧ s1.rf PWR_PACK_ENERGY_J = e % 2 ^ (PWR_PACK_ENERGY_J).w ∧
      exec (.backupCommit e at_) s = .next (if b.restored then s1.moduleRestart 4 else s1.powerOff)) ∧
    exec (.packEnergyExhausted at_) s = .next (s.at at_).tear := by
  refine ⟨fun hp hu => ?_, fun _ hu => exec_backupFreeze_waits hb hu, fun hp => ?_, fun hp hk => exec_backupOpen_none hb hp hk,
    fun k hp hk hk2 => ?_, fun hp => ?_, fun e hp => ?_, ?_⟩
  · refine ⟨_, _, exec_backupFreeze hb hp hu, setSeq_keeps (fun u => u.keeper.backup) (fun _ _ => rfl) (fun _ _ => rfl) _, rfl, ?_, ?_,
      rfl, setSeq_rf_self (by decide), BytesKept.of_mem ?_⟩
    · have h : ∀ j, (s.at at_).settled.rf j = s.rf j := fun j => settled_keeps (State.rf · j) fun _ _ _ => rfl
      rw [← h, ← h]
      rfl
    · exact settled_keeps (s := s.at at_) State.latches fun _ _ _ => rfl
    · rw [State.backupTaken, State.setSeq_mem]
      exact settled_keeps (s := s.at at_) State.mem fun _ _ _ => rfl
  · refine ⟨_, exec_backupHeld hb hp, ?_, ?_, ?_, ?_, fun p hp8 => ?_, BytesKept.of_mem ?_⟩
    · rw [setPwr_keeps State.pcie (fun _ _ => rfl) (fun _ _ => rfl) fun _ => rfl, heldUp_l0]
    · rw [setPwr_keeps (fun u => u.keeper.held) (fun _ _ => rfl) (fun _ _ => rfl) fun _ => rfl, heldUp_keeper]
    · rw [setPwr_keeps (fun u => u.keeper.backup) (fun _ _ => rfl) (fun _ _ => rfl) fun _ => rfl, heldUp_keeper]
    · rw [setPwr_rf_self, heldUp_pwr]
    · have hne : (PRT_STATUS_LINK_UP p).key ≠ PWR_STATUS_STATE.key := by
        simp only [Fk.key, PRT_STATUS_LINK_UP, PWR_STATUS_STATE]
        omega
      rw [setPwr_rf_ne hne, heldUp_rf, portsDown_link hp8]
    · rw [State.setPwr_mem, heldUp_mem]
      rfl
  · exact ⟨_, exec_backupOpen hb hp hk, rfl, recordOpened_slot hk2, recordOpened_pending, BytesKept.of_mem recordOpened_mem⟩
  · exact ⟨_, exec_backupWrite hb hp, setSeq_keeps (fun u => u.keeper.backup) (fun _ _ => rfl) (fun _ _ => rfl) _,
      setSeq_rf_self (by decide), BytesKept.of_mem (State.setSeq_mem ..)⟩
  · obtain ⟨hres, hpend, hen⟩ := recordCommitted_fields (s := s.at at_) (b := b) e
    exact ⟨_, hres, hpend, recordCommitted_snap e, hen, exec_backupCommit hb hp⟩
  · have hb' : (s.at at_).keeper.backup = some b := hb
    exact congrArg _ (if_pos (by rw [hb']; rfl))

theorem backup_torn (s : State) : s.tear.keeper.torn = true ∧ s.tear.keeper.phase = 0 ∧ s.tear.keeper.backup = none := by
  rw [State.tear]
  exact powerOff_keeper

theorem restore_phases (s : State) (r : Restore) (n rebuilt at_ : Nat) (lost : List Nat) (hr : s.keeper.restore = some r) :
    let s1 := (s.at at_).bump KEEP_REBUILT_COUNT rebuilt
    (r.step = 1 → exec (.restorePhaseComplete 2 n [] rebuilt at_) s =
      .next ((s1.putSystem r.snap r.parts).updRestore fun r => { r with step := 2 })) ∧
    (r.step = 1 → lost ≠ [] → exec (.restorePhaseComplete 2 n lost rebuilt at_) s = .next (s1.systemLost r)) ∧
    (r.step = 2 → exec (.restorePhaseComplete 3 n lost rebuilt at_) s =
      .next ((s1.putRegions r.snap lost).updRestore fun r => { r with step := 3 })) ∧
    (r.step = 3 → r.parts.contains n = true → r.loaded.contains n = false → exec (.restorePhaseComplete 4 n [] rebuilt at_) s =
      .next ((s1.putImage n false).updRestore fun r => { r with loaded := r.loaded ++ [n] })) ∧
    (r.loaded.contains n = true → r.kept.contains n = false → exec (.restorePhaseComplete 5 n lost rebuilt at_) s =
      .next ((s1.putHandles r.snap n lost).updRestore fun r => { r with kept := r.kept ++ [n] })) := by
  have hr' : (s.at at_).keeper.restore = some r := hr
  have hexec : ∀ p l, exec (.restorePhaseComplete p n l rebuilt at_) s = execRestorePhaseComplete p n l rebuilt at_ s := fun _ _ => rfl
  intro s1
  refine ⟨fun h => ?_, fun h hl => ?_, fun h => ?_, fun h hp hl => ?_, fun hl hk => ?_⟩
  · rw [hexec, execRestorePhaseComplete, hr']
    exact congrArg _ ((if_neg (by simp [h])).trans (if_neg (by simp)))
  · rw [hexec, execRestorePhaseComplete, hr']
    exact congrArg _ ((if_neg (by simp [h])).trans (if_pos (by simp [hl])))
  · rw [hexec, execRestorePhaseComplete, hr']
    exact congrArg _ (if_neg (by simp [h]))
  · rw [hexec, execRestorePhaseComplete, hr']
    exact congrArg _ (if_neg (by rw [hp, hl]; simp [h]))
  · rw [hexec, execRestorePhaseComplete, hr']
    exact congrArg _ (if_neg (by rw [hl, hk]; simp))

/-- The exit of a restore without partitions. -/
def State.restoreEnded (s : State) : State :=
  ((((s.wks [(KEEP_RESTORE_RESULT, 1), (KEEP_RESTORE_WARM_MASK, 0), (KEEP_RESTORE_COLD_MASK, 0)]).updKeeper fun k =>
    { k with restore := none }).freeSlots).setArmed true).setSeq 0

section
variable {s : State}

theorem restoreEnded_keeps {β : Type} (view : State → β) (hwf : ∀ u k v, view (State.wf u k v) = view u)
    (hemit : ∀ u o, view (State.emit u o) = view u) (hkeeper : ∀ u f, view (State.updKeeper u f) = view u)
    (hfree : ∀ u, view (State.freeSlots u) = view u) : view s.restoreEnded = view s := by
  rw [State.restoreEnded, setSeq_keeps view (fun _ _ => hwf ..) hemit, setArmed_keeps view (fun _ _ => hwf ..) hemit, hfree, hkeeper]
  exact wks_keeps view (fun u k v => (hkeeper _ _).trans (hwf u k v)) _

theorem restoreEnded_restore : s.restoreEnded.keeper.restore = none := by
  rw [State.restoreEnded, setSeq_keeps (fun u => u.keeper.restore) (fun _ _ => rfl) fun _ _ => rfl,
    setArmed_keeps (fun u => u.keeper.restore) (fun _ _ => rfl) fun _ _ => rfl]
  rfl

theorem restoreEnded_result : s.restoreEnded.rf KEEP_RESTORE_RESULT = 1 := by
  rw [State.restoreEnded, setSeq_rf_ne _ (by decide), setArmed_rf_ne _ (by decide), freeSlots_rf, State.updKeeper_rf]
  simp only [State.wks, List.foldl_cons, List.foldl_nil]
  rw [State.rf_wk_ne _ (by decide), State.rf_wk_ne _ (by decide), State.rf_wk_self]
  rfl

theorem restoreEnded_seq : s.restoreEnded.rf KEEP_SEQ_STATE = 0 := by
  rw [State.restoreEnded, setSeq_rf_self (by decide)]

theorem restoreEnded_armed : s.restoreEnded.rb PWR_STATUS_ARMED = true := by
  rw [State.restoreEnded, State.rb, setSeq_rf_ne _ (by decide)]
  exact setArmed_rb true

theorem endHold_none (h : s.heldResets = []) : s.endHold = ({ s with heldResets := [] } : State).wf MOD_STATUS_RESET_HELD 0 := by
  rw [State.endHold, h]
  rfl

theorem endHold_rf (h : s.heldResets = []) {j : Fk} (hj : j.key ≠ MOD_STATUS_RESET_HELD.key) : s.endHold.rf j = s.rf j := by
  rw [endHold_none h, State.rf_wf_ne _ _ hj]
  rfl

theorem endHold_keeper (h : s.heldResets = []) : s.endHold.keeper = s.keeper := by
  rw [endHold_none h]
  rfl

theorem endHold_mem (h : s.heldResets = []) : s.endHold.mem = s.mem := by
  rw [endHold_none h]
  rfl

end

theorem restore_exit (s : State) (r : Restore) (energy at_ : Nat) (hr : s.keeper.restore = some r) :
    let s0 := (s.at at_).wf PWR_PACK_ENERGY_J energy
    (r.parts.all r.kept.contains = false ∨ s0.armable = false → exec (.restoreExit energy at_) s = .next s) ∧
    (r.step = 3 → r.parts = [] → r.cold = [] → s0.armable = true → s.heldResets = [] → ∃ s',
      exec (.restoreExit energy at_) s = .next s' ∧ s'.keeper.restore = none ∧ s'.rf KEEP_RESTORE_RESULT = 1 ∧
      s'.rb PWR_STATUS_ARMED = true ∧ s'.rf KEEP_SEQ_STATE = 0 ∧ BytesKept s s') := by
  intro s0
  have hr' : s0.keeper.restore = some r := hr
  have hexec : exec (.restoreExit energy at_) s = execRestoreExit energy at_ s := rfl
  refine ⟨fun h => ?_, fun hstep hparts hcold harm hheld => ?_⟩
  · rw [hexec, execRestoreExit]
    dsimp only
    rw [hr']
    refine congrArg _ (if_pos ?_)
    rcases h with h | h
    · exact .inr (.inl (by rw [h]; rfl))
    · exact .inr (.inr (by rw [show ((s.at at_).wf PWR_PACK_ENERGY_J energy).armable = false from h]; rfl))
  · have he : exec (.restoreExit energy at_) s = .next s0.restoreEnded.endHold := by
      rw [hexec, execRestoreExit]
      dsimp only
      rw [hr']
      refine congrArg _ ((if_neg ?_).trans ?_)
      · rw [hparts, show ((s.at at_).wf PWR_PACK_ENERGY_J energy).armable = true from harm]
        simp [hstep]
      · rw [hparts, hcold]
        rfl
    have hheld' : s0.restoreEnded.heldResets = [] :=
      (restoreEnded_keeps State.heldResets (fun _ _ _ => rfl) (fun _ _ => rfl) (fun _ _ => rfl) fun _ => rfl).trans hheld
    refine ⟨_, he, ?_, ?_, ?_, ?_, BytesKept.of_mem ?_⟩
    · rw [endHold_keeper hheld', restoreEnded_restore]
    · rw [endHold_rf hheld' (by decide), restoreEnded_result]
    · rw [State.rb, endHold_rf hheld' (by decide)]
      exact restoreEnded_armed
    · rw [endHold_rf hheld' (by decide), restoreEnded_seq]
    · rw [endHold_mem hheld', restoreEnded_keeps State.mem (fun _ _ _ => rfl) (fun _ _ => rfl) (fun _ _ => rfl) fun _ => rfl]
      rfl

/-- Settles O52. -/
theorem backupAndRestore : Obligations.BackupAndRestore :=
  ⟨backup_phases, backup_torn, restore_phases, restore_exit⟩

end Sys2Proof.Machine

/-! PROOF. The supply, droop stretching, SLOW, the pack and arming. -/

namespace Sys2Proof.Machine

section
variable {s : State}

/-! ### SLOW and what follows the input -/

theorem setSlow_wanted (h : s.keeper.low = true ∨ s.keeper.dip = true) : s.setSlow.rb PWR_STATUS_SLOW = true := by
  have hwant : (s.keeper.low || s.keeper.dip || s.rb PWR_CTRL_FORCE_SLOW) = true := by
    rcases h with h | h <;> simp [h]
  unfold State.setSlow
  simp only [hwant, if_true]
  split
  · next hs => exact hs.symm
  · rw [State.rb, setPwr_rf_ne (by decide), State.markSlowed_rf, State.bump, State.rf_wf_ne _ _ (by decide), State.rf_wf_self]
    rfl

/-- SLOW with no condition for it: it ends, where it held. -/
theorem setSlow_ends (hl : s.keeper.low = false) (hd : s.keeper.dip = false) (hf : s.rb PWR_CTRL_FORCE_SLOW = false) :
    s.setSlow = if false = s.rb PWR_STATUS_SLOW then s else (s.wf PWR_STATUS_SLOW 0).setPwr := by
  rw [State.setSlow, hl, hd, hf]
  rfl

theorem setSlow_ended (hl : s.keeper.low = false) (hd : s.keeper.dip = false) (hf : s.rb PWR_CTRL_FORCE_SLOW = false) :
    s.setSlow.rb PWR_STATUS_SLOW = false := by
  rw [setSlow_ends hl hd hf]
  split
  · next h => exact h.symm
  · rw [State.rb, setPwr_rf_ne (by decide), State.rf_wf_self]
    rfl

theorem setSlow_ends_keeps {β : Type} (view : State → β) (hl : s.keeper.low = false) (hd : s.keeper.dip = false)
    (hf : s.rb PWR_CTRL_FORCE_SLOW = false) (hslow : ∀ u v, view (State.wf u PWR_STATUS_SLOW v) = view u)
    (hpwr : ∀ u : State, view u.setPwr = view u) : view s.setSlow = view s := by
  rw [setSlow_ends hl hd hf]
  exact ite_view view rfl ((hpwr _).trans (hslow _ _))

theorem setSupply_rf_ne {j : Fk} (h : j.key ≠ PWR_STATUS_SUPPLY.key) : s.setSupply.rf j = s.rf j := State.rf_wf_ne _ _ h

theorem setCharging_keeps {β : Type} (view : State → β) (h : ∀ v, view (State.wf s PWR_STATUS_CHARGING v) = view s) :
    view s.setCharging = view s := by
  rw [State.setCharging]
  exact ite_view view (h _) (h _)

theorem setCharging_rf_ne {j : Fk} (h : j.key ≠ PWR_STATUS_CHARGING.key) : s.setCharging.rf j = s.rf j :=
  setCharging_keeps (State.rf · j) fun _ => State.rf_wf_ne _ _ h

theorem measure_now (mv : Nat) : (s.measure mv).rf PWR_SUPPLY_MV_NOW = mv % 2 ^ (PWR_SUPPLY_MV_NOW).w := by
  rw [State.measure, State.rf_wf_ne _ _ (by decide), State.rf_wf_self]

theorem measure_rf_ne (mv : Nat) {j : Fk} (h1 : j.key ≠ PWR_SUPPLY_MV_NOW.key) (h2 : j.key ≠ PWR_SUPPLY_MV_MIN.key) :
    (s.measure mv).rf j = s.rf j := by
  rw [State.measure, State.rf_wf_ne _ _ h2, State.rf_wf_ne _ _ h1]

/-! ### Table HU-1 -/

variable {mv at_ : Nat}

/-- The input is back: neither low nor in a dip. -/
def State.inputBack (s : State) : State := s.updKeeper fun k => { k with low := false, dip := false }

theorem onInput_at (h : s.onInput = true) : ¬(!(s.at at_).onInput) = true := by
  rw [show (s.at at_).onInput = s.onInput from rfl, h]
  decide

theorem exec_supplyLow (hi : s.onInput = true) : exec (.supplyLow mv at_) s = .next (if 46000 ≤ mv ∨ s.keeper.low then (s.at at_).measure mv
    else (((((s.at at_).measure mv).updKeeper fun k => { k with low := true }).setSlow).setSupply.setCharging).raise 0xA001 pgPWR) := by
  rw [show exec (.supplyLow mv at_) s = execSupplyLow mv at_ s from rfl, execSupplyLow]
  exact congrArg _ (if_neg (onInput_at hi))

theorem exec_supplyLowEnd (hi : s.onInput = true) : exec (.supplyLowEnd mv at_) s =
    .next (if mv < 47000 ∨ !(s.keeper.low || s.keeper.dip) then (s.at at_).measure mv
      else ((s.at at_).measure mv).inputBack.setSlow.setSupply.setCharging) := by
  rw [show exec (.supplyLowEnd mv at_) s = execSupplyLowEnd mv at_ s from rfl, execSupplyLowEnd]
  exact congrArg _ (if_neg (onInput_at hi))

theorem exec_supplyDipEnd {lo : Nat} (hi : s.onInput = true) : exec (.supplyDipEnd lo mv at_) s =
    .next (if 42000 ≤ lo ∨ mv < 42000 then ((s.at at_).measure lo).measure mv
      else (((((s.at at_).measure lo).measure mv).updKeeper fun k => { k with dip := true }).setSlow).bump PWR_LOW_DIPS_COUNT) := by
  rw [show exec (.supplyDipEnd lo mv at_) s = execSupplyDipEnd lo mv at_ s from rfl, execSupplyDipEnd]
  exact congrArg _ (if_neg (onInput_at hi))

theorem exec_powerFail (hi : s.onInput = true) : exec (.powerFail mv at_) s =
    .next (if 42000 ≤ mv then (s.at at_).measure mv else ((s.at at_).measure mv).powerFail) := by
  rw [show exec (.powerFail mv at_) s = execPowerFail mv at_ s from rfl, execPowerFail]
  exact congrArg _ (if_neg (onInput_at hi))

theorem exec_overvoltIsolate (hi : s.onInput = true) : exec (.overvoltIsolate mv at_) s =
    .next (if mv ≤ 61000 then (s.at at_).measure mv else ((s.at at_).measure mv).powerFail) := by
  rw [show exec (.overvoltIsolate mv at_) s = execOvervoltIsolate mv at_ s from rfl, execOvervoltIsolate]
  exact congrArg _ (if_neg (onInput_at hi))

theorem exec_overvolt (hi : s.onInput = true) : exec (.overvolt mv at_) s =
    .next (if mv ≤ 58000 ∨ s.keeper.overV then (s.at at_).measure mv
      else ((((s.at at_).measure mv).updKeeper fun k => { k with overV := true }).setSupply).raise 0xA002 pgPWR) := by
  rw [show exec (.overvolt mv at_) s = execOvervolt mv at_ s from rfl, execOvervolt]
  exact congrArg _ (if_neg (onInput_at hi))

theorem exec_overvoltEnd (hi : s.onInput = true) : exec (.overvoltEnd mv at_) s =
    .next (if 58000 < mv ∨ !s.keeper.overV then (s.at at_).measure mv
      else (((s.at at_).measure mv).updKeeper fun k => { k with overV := false }).setSupply) := by
  rw [show exec (.overvoltEnd mv at_) s = execOvervoltEnd mv at_ s from rfl, execOvervoltEnd]
  exact congrArg _ (if_neg (onInput_at hi))

theorem exec_supplyRestored {b : Backup} (hb : s.keeper.backup = some b) (hmv : 46000 ≤ mv) : exec (.supplyRestored mv at_) s =
    .next (((s.at at_).measure mv).updKeeper fun k => { k with backup := some { b with restored := true } }) := by
  have hb' : (s.at at_).keeper.backup = some b := hb
  rw [show exec (.supplyRestored mv at_) s = execSupplyRestored mv at_ s from rfl, execSupplyRestored, hb']
  exact congrArg _ (if_neg (Nat.not_lt.mpr hmv))

/-- After a low supply has ended the conditions of Table HU-1 are gone, and only STATUS and the Keeper's ALERT# have moved. -/
theorem inputBack_fields (hf : s.rb PWR_CTRL_FORCE_SLOW = false) :
    s.inputBack.setSlow.setSupply.setCharging.keeper.low = false ∧ s.inputBack.setSlow.setSupply.setCharging.keeper.dip = false ∧
    s.inputBack.setSlow.setSupply.setCharging.rb PWR_STATUS_SLOW = false ∧
    s.inputBack.setSlow.setSupply.setCharging.rf PWR_SUPPLY_MV_NOW = s.rf PWR_SUPPLY_MV_NOW ∧
    s.inputBack.setSlow.setSupply.setCharging.mem = s.mem := by
  have hf' : s.inputBack.rb PWR_CTRL_FORCE_SLOW = false := hf
  have hkeeper : ∀ {β : Type} (view : Keeper → β), (∀ k, view { k with alert := true } = view k) →
      view s.inputBack.setSlow.setSupply.setCharging.keeper = view s.inputBack.keeper := by
    intro β view hv
    rw [setCharging_keeps State.keeper fun _ => State.wf_keeper .., State.setSupply, State.wf_keeper]
    exact setSlow_ends_keeps (fun u => view u.keeper) rfl rfl hf' (fun _ _ => rfl) fun u =>
      setPwr_keeps (fun u => view u.keeper) (fun _ _ => rfl) (fun _ _ => rfl) fun _ => hv _
  refine ⟨hkeeper Keeper.low fun _ => rfl, hkeeper Keeper.dip fun _ => rfl, ?_, ?_, ?_⟩
  · rw [State.rb, setCharging_rf_ne (by decide), setSupply_rf_ne (by decide)]
    exact setSlow_ended rfl rfl hf'
  · rw [setCharging_rf_ne (by decide), setSupply_rf_ne (by decide), setSlow_ends_keeps (State.rf · PWR_SUPPLY_MV_NOW) rfl rfl hf'
      (fun _ _ => State.rf_wf_ne _ _ (by decide)) fun _ => setPwr_rf_ne (by decide)]
    exact State.updKeeper_rf ..
  · simp [State.inputBack]

end

theorem supply_input (s : State) (mv at_ : Nat) (hi : s.onInput = true) :
    (mv < 46000 → s.keeper.low = false → exec (.supplyLow mv at_) s =
      .next ((((((s.at at_).measure mv).updKeeper fun k => { k with low := true }).setSlow).setSupply.setCharging).raise 0xA001 pgPWR)) ∧
    (mv < 46000 → s.keeper.low = true → exec (.supplyLow mv at_) s = .next ((s.at at_).measure mv)) ∧
    (47000 ≤ mv → s.keeper.low = true ∨ s.keeper.dip = true → s.rb PWR_CTRL_FORCE_SLOW = false → ∃ s',
      exec (.supplyLowEnd mv at_) s = .next s' ∧ s'.keeper.low = false ∧ s'.keeper.dip = false ∧ s'.rb PWR_STATUS_SLOW = false ∧ s'.rf PWR_SUPPLY_MV_NOW = mv % 2 ^ (PWR_SUPPLY_MV_NOW).w ∧ BytesKept s s') ∧
    (∀ lo, lo < 42000 → 42000 ≤ mv → exec (.supplyDipEnd lo mv at_) s =
      .next ((((((s.at at_).measure lo).measure mv).updKeeper fun k => { k with dip := true }).setSlow).bump PWR_LOW_DIPS_COUNT)) ∧
    (mv < 42000 → exec (.powerFail mv at_) s = .next ((s.at at_).measure mv).powerFail) ∧
    (61000 < mv → exec (.overvoltIsolate mv at_) s = .next ((s.at at_).measure mv).powerFail) ∧
    (58000 < mv → s.keeper.overV = false → exec (.overvolt mv at_) s =
      .next (((((s.at at_).measure mv).updKeeper fun k => { k with overV := true }).setSupply).raise 0xA002 pgPWR)) ∧
    (mv ≤ 58000 → s.keeper.overV = true → exec (.overvoltEnd mv at_) s =
      .next ((((s.at at_).measure mv).updKeeper fun k => { k with overV := false }).setSupply)) := by
  refine ⟨fun hmv hl => ?_, fun _ hl => ?_, fun hmv hl hf => ?_, fun lo hlo hmv => ?_, fun hmv => ?_, fun hmv => ?_, fun hmv ho => ?_,
    fun hmv ho => ?_⟩
  · rw [exec_supplyLow hi, if_neg]
    simp [hl, hmv]
  · rw [exec_supplyLow hi, if_pos (.inr hl)]
  · have hf' : ((s.at at_).measure mv).rb PWR_CTRL_FORCE_SLOW = false := by
      rw [State.rb, measure_rf_ne _ (by decide) (by decide)]
      exact hf
    obtain ⟨hlow, hdip, hslow, hnow, hmem⟩ := inputBack_fields hf'
    have he := exec_supplyLowEnd (mv := mv) (at_ := at_) hi
    rw [if_neg (by rcases hl with h | h <;> simp [h, hmv])] at he
    refine ⟨_, he, hlow, hdip, hslow, hnow.trans (measure_now mv), BytesKept.of_mem ?_⟩
    rw [hmem, State.measure_mem]
    rfl
  · rw [exec_supplyDipEnd hi, if_neg]
    simp [hlo, hmv]
  · rw [exec_powerFail hi, if_neg (Nat.not_le.mpr hmv)]
  · rw [exec_overvoltIsolate hi, if_neg (Nat.not_le.mpr hmv)]
  · rw [exec_overvolt hi, if_neg]
    simp [ho, hmv]
  · rw [exec_overvoltEnd hi, if_neg]
    simp [ho, hmv]

/-! ### Droop -/

section
variable {s : State} {p mv at_ : Nat}

theorem droopRead_rf_ne {j : Fk} (h1 : j.key ≠ (DRP_STATUS_DROOP_MV p).key) (h2 : j.key ≠ (DRP_PEAK_DROOP_MV p).key) :
    (s.droopRead p mv).rf j = s.rf j := by
  rw [State.droopRead, State.updPlain_rf, State.rf_wfs_two_ne h1 h2]

theorem droopRead_droop : (s.droopRead p mv).rf (DRP_STATUS_DROOP_MV p) = min mv 255 := by
  rw [State.droopRead, State.updPlain_rf,
    State.rf_wfs_fst (by simp only [Fk.key, DRP_STATUS_DROOP_MV, DRP_PEAK_DROOP_MV]; omega)]
  exact Nat.mod_eq_of_lt (Nat.lt_succ_of_le (Nat.min_le_right ..))

theorem stretchTo_rf_ne {j : Fk} (h : j.key ≠ (DRP_STRETCH_US_TIME p).key) : (s.stretchTo p).rf j = s.rf j := by
  rw [State.stretchTo]
  exact State.rf_ite rfl ((State.updPlain_rf ..).trans (State.rf_wf_ne _ _ h))

theorem setStep_step {k : Nat} (hk : k < 8) : (s.setStep p k).rf (DRP_STATUS_STEP p) = k := by
  rw [State.setStep, State.atMax, State.updPlain_rf,
    State.rf_wfs_fst (by simp only [Fk.key, DRP_STATUS_STEP, DRP_PEAK_STEP]; omega)]
  exact Nat.mod_eq_of_lt hk

theorem setStep_rf_ne (k : Nat) {j : Fk} (h1 : j.key ≠ (DRP_STATUS_STEP p).key) (h2 : j.key ≠ (DRP_PEAK_STEP p).key) :
    (s.setStep p k).rf j = s.rf j := by
  rw [State.setStep, State.atMax, State.updPlain_rf, State.rf_wfs_two_ne h1 h2]

/-- A plain one step up from step `k`. -/
def State.stepUp (s : State) (p k : Nat) : State :=
  let s2 := (s.stretchTo p).setStep p (k + 1)
  if k = 0 then
    ((s2.bump (DRP_STRETCHES_COUNT p)).updPlain p fun q => { q with stretchAt := s2.time }).markSlowed (s2.plainPart p).toList
  else s2

theorem stepUp_rf_ne (k : Nat) {j : Fk} (h : j.key ≠ (DRP_STRETCHES_COUNT p).key) :
    (s.stepUp p k).rf j = ((s.stretchTo p).setStep p (k + 1)).rf j := by
  rw [State.stepUp]
  refine State.rf_ite ?_ rfl
  rw [State.markSlowed_rf, State.updPlain_rf, State.bump, State.rf_wf_ne _ _ h]

theorem stepUp_mem (k : Nat) : (s.stepUp p k).mem = s.mem := by
  rw [State.stepUp]
  exact ite_view State.mem (by simp [State.setStep, State.atMax]) (by simp [State.setStep, State.atMax])

theorem plainClocked_at (h : s.plainClocked p = true) : ¬(!(s.at at_).plainClocked p) = true := by
  rw [show (s.at at_).plainClocked p = s.plainClocked p from rfl, h]
  decide

theorem exec_droopStepUp (hc : s.plainClocked p = true) : exec (.droopStepUp p mv at_) s =
    .next (if s.maxStep p ≤ s.rf (DRP_STATUS_STEP p) ∨ mv ≤ s.threshold p (s.rf (DRP_STATUS_STEP p) + 1) then (s.at at_).droopRead p mv
      else ((s.at at_).droopRead p mv).stepUp p (s.rf (DRP_STATUS_STEP p))) := by
  rw [show exec (.droopStepUp p mv at_) s = execDroopStepUp p mv at_ s from rfl, execDroopStepUp]
  exact congrArg _ (if_neg (plainClocked_at hc))

theorem exec_droopStepDown (hc : s.plainClocked p = true) : exec (.droopStepDown p mv at_) s =
    .next (if s.rf (DRP_STATUS_STEP p) = 0 ∨ s.threshold p (s.rf (DRP_STATUS_STEP p)) < mv + 10 ∨
        !(s.at at_).released p (s.rf (DRP_STATUS_STEP p)) then (s.at at_).droopRead p mv
      else (((s.at at_).droopRead p mv).stretchTo p).setStep p (s.rf (DRP_STATUS_STEP p) - 1)) := by
  rw [show exec (.droopStepDown p mv at_) s = execDroopStepDown p mv at_ s from rfl, execDroopStepDown]
  exact congrArg _ (if_neg (plainClocked_at hc))

theorem maxStep_le : s.maxStep p ≤ 4 := by
  rw [State.maxStep]
  split
  · next h => exact h.2
  · exact Nat.le_refl _

end

theorem supply_droop (s : State) (p mv at_ : Nat) (hc : s.plainClocked p = true) :
    let k := s.rf (DRP_STATUS_STEP p)
    (k < s.maxStep p → s.threshold p (k + 1) < mv → ∃ s', exec (.droopStepUp p mv at_) s = .next s' ∧
      s'.rf (DRP_STATUS_STEP p) = k + 1 ∧ s'.rf (DRP_STATUS_DROOP_MV p) = min mv 255 ∧ BytesKept s s') ∧
    (mv ≤ s.threshold p (k + 1) → exec (.droopStepUp p mv at_) s = .next ((s.at at_).droopRead p mv)) ∧
    (k ≠ 0 → k ≤ 4 → mv + 10 ≤ s.threshold p k → (s.at at_).released p k = true → ∃ s', exec (.droopStepDown p mv at_) s = .next s' ∧
      s'.rf (DRP_STATUS_STEP p) = k - 1 ∧ BytesKept s s') ∧
    ((s.at at_).released p k = false → exec (.droopStepDown p mv at_) s = .next ((s.at at_).droopRead p mv)) := by
  intro k
  refine ⟨fun hk ht => ?_, fun ht => ?_, fun h0 h4 ht hr => ?_, fun hr => ?_⟩
  · have he := exec_droopStepUp (mv := mv) (at_ := at_) hc
    rw [if_neg (not_or.mpr ⟨Nat.not_le.mpr hk, Nat.not_le.mpr ht⟩)] at he
    have hmax := maxStep_le (s := s) (p := p)
    refine ⟨_, he, ?_, ?_, BytesKept.of_mem ?_⟩
    · rw [stepUp_rf_ne _ (by simp only [Fk.key, DRP_STATUS_STEP, DRP_STRETCHES_COUNT]; omega), setStep_step (by omega)]
    · rw [stepUp_rf_ne _ (by simp only [Fk.key, DRP_STATUS_DROOP_MV, DRP_STRETCHES_COUNT]; omega),
        setStep_rf_ne _ (by simp only [Fk.key, DRP_STATUS_DROOP_MV, DRP_STATUS_STEP]; omega)
          (by simp only [Fk.key, DRP_STATUS_DROOP_MV, DRP_PEAK_STEP]; omega),
        stretchTo_rf_ne (by simp only [Fk.key, DRP_STATUS_DROOP_MV, DRP_STRETCH_US_TIME]; omega), droopRead_droop]
    · rw [stepUp_mem, State.droopRead_mem]
      rfl
  · rw [exec_droopStepUp hc, if_pos (.inr ht)]
  · have he := exec_droopStepDown (mv := mv) (at_ := at_) hc
    rw [if_neg (by rw [hr]; rintro (h | h | h); exacts [h0 h, absurd ht (Nat.not_le.mpr h), absurd h (by decide)])] at he
    refine ⟨_, he, setStep_step (by omega), BytesKept.of_mem ?_⟩
    simp [State.setStep, State.atMax]
  · rw [exec_droopStepDown hc, if_pos (.inr (.inr (by rw [hr]; rfl)))]

theorem supply_plainDroop (s : State) (p at_ t : Nat) (hp : p < 64) (hm : (s.plain p).maxSince = some t)
    (hr : (s.plain p).droopRaised = false) (hs : s.maxStep p ≤ s.rf (DRP_STATUS_STEP p))
    (ht : t + s.rf (DRP_CTRL_LIMIT_MS p) * 1000000 < max s.time at_) : exec (.plainDroop p at_) s =
      .next (((s.at at_).updPlain p fun q => { q with droopRaised := true }).raise 0xA003 (plainPage p 3)) := by
  have hm' : ((s.at at_).plain p).maxSince = some t := hm
  have hr' : ((s.at at_).plain p).droopRaised = false := hr
  have hs' : (s.at at_).maxStep p ≤ (s.at at_).rf (DRP_STATUS_STEP p) := hs
  have ht' : t + (s.at at_).rf (DRP_CTRL_LIMIT_MS p) * 1000000 < (s.at at_).time := ht
  rw [show exec (.plainDroop p at_) s = execPlainDroop p at_ s from rfl, execPlainDroop, hm']
  refine congrArg _ (if_neg ?_)
  rw [hr']
  rintro (h | h | h | h)
  · omega
  · exact absurd h (by decide)
  · omega
  · omega

theorem supply_plainDroop_early (s : State) (p at_ t : Nat) (hm : (s.plain p).maxSince = some t)
    (ht : max s.time at_ ≤ t + s.rf (DRP_CTRL_LIMIT_MS p) * 1000000) : exec (.plainDroop p at_) s = .next (s.at at_) := by
  have hm' : ((s.at at_).plain p).maxSince = some t := hm
  rw [show exec (.plainDroop p at_) s = execPlainDroop p at_ s from rfl, execPlainDroop, hm']
  exact congrArg _ (if_pos (.inr (.inr (.inr ht))))

/-! ### Arming and the pack -/

section
variable {s : State} {at_ : Nat}

/-- What the evaluation of arming measures. -/
def State.armInputs (s : State) (energy est : Nat) : State := s.wfs [(PWR_PACK_ENERGY_J, energy), (PWR_ARM_TIME_SECONDS, est)]

theorem restoring_congr {u : State} (h : ∀ n, n < 16 → u.pst n = s.pst n) : u.restoring = s.restoring := by
  rw [State.restoring, State.restoring]
  rw [Bool.eq_iff_iff, List.any_eq_true, List.any_eq_true]
  exact exists_congr fun n => and_congr_right fun hn => by rw [h n (List.mem_range.mp hn)]

end

theorem supply_arm (s : State) (energy est at_ : Nat) (hp : s.powered = true) (hk : s.rb MOD_STATUS_KEEPER_UP = true)
    (hf : s.frozen = false) : ∃ s', exec (.armEvaluate energy est at_) s = .next s' ∧
    s'.rb PWR_STATUS_ARMED = (((s.at at_).wfs [(PWR_PACK_ENERGY_J, energy), (PWR_ARM_TIME_SECONDS, est)]).armable && !s.restoring) ∧
    BytesKept s s' := by
  have hcond : ¬(!(s.at at_).powered ∨ !(s.at at_).rb MOD_STATUS_KEEPER_UP ∨ (s.at at_).frozen) := by
    rw [show (s.at at_).powered = true from hp, show (s.at at_).rb MOD_STATUS_KEEPER_UP = true from hk,
      show (s.at at_).frozen = false from hf]
    decide
  have he : exec (.armEvaluate energy est at_) s = .next (((s.at at_).armInputs energy est).setArmed
      (((s.at at_).armInputs energy est).armable && !((s.at at_).armInputs energy est).restoring)).setCharging := by
    rw [show exec (.armEvaluate energy est at_) s = execArmEvaluate energy est at_ s from rfl, execArmEvaluate]
    exact congrArg _ (if_neg hcond)
  refine ⟨_, he, ?_, BytesKept.of_mem ?_⟩
  · have hrest : ((s.at at_).armInputs energy est).restoring = s.restoring := by
      refine restoring_congr fun n hn => ?_
      refine (State.rf_wfs_two_ne ?_ ?_).trans rfl <;> simp only [Fk.key, PART_STATE_STATE, PWR_PACK_ENERGY_J, PWR_ARM_TIME_SECONDS,
        partPage] <;> omega
    rw [State.rb, setCharging_rf_ne (by decide), hrest]
    exact setArmed_rb _
  · rw [State.setCharging_mem, State.setArmed_mem, State.armInputs, State.wfs_mem]
    rfl

theorem supply_capacity (s : State) (cap at_ : Nat) (hp : s.powered = true) (hk : s.rb MOD_STATUS_KEEPER_UP = true) :
    (4200 ≤ cap → exec (.packCapacityMeasure cap at_) s = .next (((s.at at_).wk PWR_PACK_CAPACITY_J cap).setCharging)) ∧
    (cap < 4200 → exec (.packCapacityMeasure cap at_) s =
      .next ((((s.at at_).wk PWR_PACK_CAPACITY_J cap).setCharging).raise 0xA004 pgPWR)) := by
  have he : exec (.packCapacityMeasure cap at_) s = .next (if cap < 4200 then
      (((s.at at_).wk PWR_PACK_CAPACITY_J cap).setCharging).raise 0xA004 pgPWR else ((s.at at_).wk PWR_PACK_CAPACITY_J cap).setCharging) := by
    rw [show exec (.packCapacityMeasure cap at_) s = execPackCapacityMeasure cap at_ s from rfl, execPackCapacityMeasure]
    refine congrArg _ (if_neg ?_)
    rw [show (s.at at_).powered = true from hp, show (s.at at_).rb MOD_STATUS_KEEPER_UP = true from hk]
    decide
  exact ⟨fun h => by rw [he, if_neg (Nat.not_lt.mpr h)], fun h => by rw [he, if_pos h]⟩

theorem supply_pack (s : State) (hp : s.powered = true) :
    exec .packFault s = .next (s.updKeeper fun k => { k with packBad := true }).packFault ∧
    (s.keeper.latchOpen = false → exec .packLatchOpen s = .next (s.updKeeper fun k => { k with latchOpen := true }).packFault) ∧
    exec .packLatchClose s = .next (s.updKeeper fun k => { k with latchOpen := false }).setPackOk := by
  refine ⟨?_, fun h => ?_, ?_⟩
  · rw [show exec .packFault s = execPackFault s from rfl, execPackFault, if_pos hp]
  · rw [show exec .packLatchOpen s = execPackLatchOpen s from rfl, execPackLatchOpen]
    exact congrArg _ (if_pos ⟨hp, by rw [h]; rfl⟩)
  · rw [show exec .packLatchClose s = execPackLatchClose s from rfl, execPackLatchClose]
    exact congrArg _ (if_pos hp)

theorem supply_recount (s : State) (n : Nat) (hn : n < 16) (hr : (s.part n).recount = true) (hk : s.keepables n = []) :
    exec (.keepRecount n) s = .next (s.updPart n fun p => { p with recount := false }) := by
  rw [show exec (.keepRecount n) s = execKeepRecount n s from rfl, execKeepRecount, hk]
  refine congrArg _ ((if_neg ?_).trans rfl)
  rw [hr]
  simp [hn]

/-- Settles O53. -/
theorem supplyAndPack : Obligations.SupplyAndPack :=
  ⟨supply_input, fun _ => setSlow_wanted, fun _ _ _ _ => exec_supplyRestored, supply_droop, supply_plainDroop, supply_plainDroop_early,
    fun _ _ hw hr => congrArg _ (if_pos ⟨hw, hr⟩), supply_arm, supply_capacity, supply_pack, supply_recount⟩

end Sys2Proof.Machine

/-! PROOF. The start sequence, module resets, the link, IDLE-HOLD and BENCH-RETAIN. -/

namespace Sys2Proof.Machine

section
variable {s : State} {pg : Nat}

/-! ### Pages become READY -/

/-- A field of a page's body, past the common header. -/
abbrev BodyKey (k : Fk) : Prop := 0x100 ≤ k.off % 0x1000 ∧ k.lo < 64

theorem ready_ne {k : Fk} (hpg : pg % 0x1000 = 0) (hk : BodyKey k) : (hSTATUS_READY pg).key ≠ k.key := by
  obtain ⟨hoff, hlo⟩ := hk
  simp only [Fk.key, hSTATUS_READY]
  omega

theorem wf_ready {k : Fk} (hpg : pg % 0x1000 = 0) (hk : BodyKey k) (v : Nat) :
    (s.wf k v).rf (hSTATUS_READY pg) = s.rf (hSTATUS_READY pg) := State.rf_wf_ne _ _ (ready_ne hpg hk)

theorem setReady_ready {l : List Nat} (h : pg ∈ l) : (s.setReady l).rf (hSTATUS_READY pg) = 1 := by
  refine foldl_settles (a := pg) (fun _ => True) (State.rf · (hSTATUS_READY pg)) trivial (fun _ _ _ _ => trivial)
    (fun u _ => State.rf_wf_self ..) (fun u q _ _ hne => State.rf_wf_ne _ _ ?_) h
  simp only [Fk.key, hSTATUS_READY]
  omega

theorem setReady_rf_ne (l : List Nat) {j : Fk} (h : j.off % 0x1000 ≠ 0x18 ∧ j.lo < 64) (hl : ∀ q ∈ l, q % 0x1000 = 0) :
    (s.setReady l).rf j = s.rf j := by
  obtain ⟨hoff, hlo⟩ := h
  refine foldl_keeps_of (State.rf · j) (fun u q hq => State.rf_wf_ne _ _ ?_) s
  have hq0 := hl q hq
  simp only [Fk.key, hSTATUS_READY]
  omega

theorem setReady_keeps {β : Type} (view : State → β) (h : ∀ u k v, view (State.wf u k v) = view u) (l : List Nat) :
    view (s.setReady l) = view s := foldl_keeps_of view (fun _ _ _ => h ..) s

/-! ### K fields -/

/-- The kinds of the pages that the control block's start loads. -/
def bootKinds : List PageKind := [.mod, .hst, .pwr, .keep, .chst, .sec, .prt]

/-- The pages that the control block's start loads. -/
def bootPages : List Nat := earlyPages ++ (List.range 8).map pgPRT

theorem kFields_body : bootKinds.all (fun kd => (kFields kd).all fun f => (dimOffsets f.dims).all fun o =>
    decide (0x100 ≤ f.base + o) && decide (f.base + o < 0x1000) && decide (f.lo < 64)) = true := by decide +kernel

theorem bootPages_kinds : bootPages.all (fun pg => (pageAt pg).all (fun x => bootKinds.contains x.1) && pg % 0x1000 == 0) = true := by
  decide +kernel

theorem loadPage_keeps {β : Type} (view : State → β) (h : ∀ u k v, BodyKey k → view (State.wf u k v) = view u)
    (hpg : pg ∈ bootPages) : view (s.loadPage pg) = view s := by
  have hpage := List.all_eq_true.mp bootPages_kinds pg hpg
  rw [Bool.and_eq_true] at hpage
  obtain ⟨hkind, hbase⟩ := hpage
  have hbase' : pg % 0x1000 = 0 := by simpa using hbase
  unfold State.loadPage
  split
  · next kd i r hat =>
    rw [hat] at hkind
    have hkd : kd ∈ bootKinds := by simpa using hkind
    refine foldl_keeps_of view (fun u f hf => ?_) s
    refine foldl_keeps_of view (fun w o ho => h _ _ _ ?_) u
    have hfo := List.all_eq_true.mp (List.all_eq_true.mp (List.all_eq_true.mp kFields_body kd hkd) f hf) o ho
    simp only [Bool.and_eq_true, decide_eq_true_eq] at hfo
    obtain ⟨⟨hlo, hhi⟩, hf64⟩ := hfo
    refine ⟨?_, hf64⟩
    show 0x100 ≤ (pg + f.base + o) % 0x1000
    omega
  · rfl

/-- What a search for a backup leaves. -/
theorem search_keeps {β : Type} (view : State → β) (hwf : ∀ u k v, BodyKey k → view (State.wf u k v) = view u)
    (hemit : ∀ u o, view (State.emit u o) = view u) (hnv : ∀ u (n : Keeper → SMap Nat), view (State.updKeeper u fun x => { x with nv := n x }) = view u)
    (htorn : ∀ u, view (State.updKeeper u fun x => { x with torn := false }) = view u) : view s.search = view s := by
  have hwk : ∀ u k v, BodyKey k → view (State.wk u k v) = view u := fun u k v hk => (hnv _ _).trans (hwf u k v hk)
  unfold State.search
  extract_lets open_ s1
  have h1 : view s1 = view s := by
    refine foldl_keeps_of view (fun u k hk => setSlot_keeps view (fun w v => hwk w _ v ?_) hemit 5) s
    have hk2 : k < 2 := List.mem_range.mp (List.mem_of_mem_filter hk)
    simp only [BodyKey, CHST_BSLOT_STATE]
    omega
  refine (ite_view view ?_ (ite_view view ?_ ?_)).trans h1
  · rw [hwf _ _ _ (by decide), htorn]
    simp only [State.wks, List.foldl_cons, List.foldl_nil]
    rw [hwk _ _ _ (by decide), hwk _ _ _ (by decide), hwk _ _ _ (by decide)]
  · rw [hwf _ _ _ (by decide)]
    simp only [State.wks, List.foldl_cons, List.foldl_nil]
    rw [hwk _ _ _ (by decide), hwk _ _ _ (by decide)]
  · split
    · exact hwf _ _ _ (by decide)
    · rw [hwf _ _ _ (by decide), hwk _ _ _ (by decide)]

theorem setPackOk_keeps {β : Type} (view : State → β) (hwf : ∀ u k v, BodyKey k → view (State.wf u k v) = view u) :
    view s.setPackOk = view s :=
  (setCharging_keeps view fun _ => hwf _ _ _ (by decide)).trans (hwf _ _ _ (by decide))

/-- The control block is up: its pages READY and loaded, before the search. -/
def State.controlUp (s : State) (ok : Bool) : State :=
  bootPages.foldl State.loadPage ((s.setReady earlyPages).updKeeper fun k => { k with phase := 2, seqOk := ok })

theorem exec_controlBlockUp {ok : Bool} {at_ : Nat} (hp : s.keeper.phase = 1) (hk : s.rb MOD_STATUS_KEEPER_UP = true) :
    exec (.controlBlockUp ⟨ok, at_⟩) s = .next ((((s.at at_).controlUp ok).wf CHST_ZONE_USER_BLOCKS
      (((s.at at_).controlUp ok).kept CHST_ZONE_USER_BLOCKS)).setPackOk.search) := by
  have hcond : ¬((s.at at_).keeper.phase ≠ 1 ∨ !(s.at at_).rb MOD_STATUS_KEEPER_UP) := by
    rw [show (s.at at_).keeper.phase = 1 from hp, show (s.at at_).rb MOD_STATUS_KEEPER_UP = true from hk]
    decide
  rw [show exec (.controlBlockUp ⟨ok, at_⟩) s = execControlBlockUp ⟨ok, at_⟩ s from rfl, execControlBlockUp]
  exact congrArg _ (if_neg hcond)

end

theorem start_controlBlock (s : State) (at_ : Nat) (ok : Bool) (hp : s.keeper.phase = 1) (hk : s.rb MOD_STATUS_KEEPER_UP = true) :
    ∃ s', exec (.controlBlockUp ⟨ok, at_⟩) s = .next s' ∧ s'.keeper.phase = 2 ∧ s'.keeper.seqOk = ok ∧ BytesKept s s' ∧
      ∀ pg, earlyPages.contains pg = true → s'.rb (hSTATUS_READY pg) = true := by
  have hload : ∀ {β : Type} (view : State → β), (∀ u k v, BodyKey k → view (State.wf u k v) = view u) →
      view ((s.at at_).controlUp ok) = view (((s.at at_).setReady earlyPages).updKeeper fun k => { k with phase := 2, seqOk := ok }) :=
    fun view h => foldl_keeps_of view (fun u q hq => loadPage_keeps view h hq) _
  have hkeeps : ∀ {β : Type} (view : State → β), (∀ u k v, BodyKey k → view (State.wf u k v) = view u) →
      (∀ u o, view (State.emit u o) = view u) → (∀ u (n : Keeper → SMap Nat), view (State.updKeeper u fun x => { x with nv := n x }) = view u) →
      (∀ u, view (State.updKeeper u fun x => { x with torn := false }) = view u) →
      view ((((s.at at_).controlUp ok).wf CHST_ZONE_USER_BLOCKS
        (((s.at at_).controlUp ok).kept CHST_ZONE_USER_BLOCKS)).setPackOk.search) =
      view (((s.at at_).setReady earlyPages).updKeeper fun k => { k with phase := 2, seqOk := ok }) := by
    intro β view hwf hemit hnv htorn
    rw [search_keeps view hwf hemit hnv htorn, setPackOk_keeps view hwf, hwf _ _ _ (by decide), hload view hwf]
  refine ⟨_, exec_controlBlockUp hp hk, ?_, ?_, BytesKept.of_mem ?_, fun pg hpg => ?_⟩
  · exact hkeeps (fun u => u.keeper.phase) (fun _ _ _ _ => rfl) (fun _ _ => rfl) (fun _ _ => rfl) fun _ => rfl
  · exact hkeeps (fun u => u.keeper.seqOk) (fun _ _ _ _ => rfl) (fun _ _ => rfl) (fun _ _ => rfl) fun _ => rfl
  · rw [hkeeps State.mem (fun _ _ _ _ => rfl) (fun _ _ => rfl) (fun _ _ => rfl) fun _ => rfl, State.updKeeper_mem, State.setReady_mem]
    rfl
  · have hm : pg ∈ earlyPages := List.contains_iff_mem.mp hpg
    have h0 : pg % 0x1000 = 0 := by
      have := List.all_eq_true.mp (by decide : earlyPages.all (fun q => q % 0x1000 == 0) = true) pg hm
      simpa using this
    rw [State.rb, hkeeps (State.rf · (hSTATUS_READY pg)) (fun _ _ v hk => wf_ready h0 hk v) (fun _ _ => rfl) (fun _ _ => rfl) fun _ => rfl,
      State.updKeeper_rf, setReady_ready hm]
    rfl

/-! ### From OFF to RUN -/

section
variable {s : State} {at_ : Nat}

/-- The Keeper starts: its journal is read, and CLEARED sites leave the maps. -/
def State.coldBegun (s : State) (rtc : Nat) : State :=
  let s1 := s.updKeeper fun k => { k with phase := 1, cause := 0, startAt := s.time }
  let s2 : State := { s1 with
    keeper := { s1.keeper with nv := (s.journalKeep true).nv }
    plains := s1.plains.foldl (fun m e => sset {} m e.1 e.2.uncleared) [] }
  { s2 with ptpOff := (rtc : Int) - s.time, ptpSlew := 0, ptpRate := 0 }

theorem exec_coldStart {mv rtc : Nat} (hp : s.keeper.phase = 0) (hmv : 46000 ≤ mv) :
    exec (.coldStart mv rtc at_) s = .next (((s.at at_).coldBegun rtc).measure mv) := by
  have hcond : ¬((s.at at_).powered ∨ mv < 46000) := by
    rw [State.powered, show (s.at at_).keeper.phase = 0 from hp]
    rintro (h | h)
    · exact absurd h (by decide)
    · omega
  rw [show exec (.coldStart mv rtc at_) s = execColdStart mv rtc at_ s from rfl, execColdStart]
  exact congrArg _ (if_neg hcond)

/-- A clock set to a time with no slew under way reads it. -/
theorem mtime_set {rtc : Nat} (ho : s.ptpOff = (rtc : Int) - s.time) (hs : s.ptpSlew = 0) : s.mtime = rtc % 2 ^ 64 := by
  have hc : s.ptpCorr s.time = 0 := by
    rw [State.ptpCorr, hs]
    simp
  have hi : s.mtimeInt s.time = rtc := by
    rw [State.mtimeInt, hc, ho]
    omega
  rw [State.mtime, State.mtimeAt, hi, Int.toNat_natCast]

end

theorem start_cold (s : State) (mv rtc at_ : Nat) (hp : s.keeper.phase = 0) (hmv : 46000 ≤ mv) :
    ∃ s', exec (.coldStart mv rtc at_) s = .next s' ∧
    s'.keeper.phase = 1 ∧ s'.mtime = rtc % 2 ^ 64 ∧ s'.rf PWR_SUPPLY_MV_NOW = mv % 2 ^ (PWR_SUPPLY_MV_NOW).w ∧ BytesKept s s' := by
  refine ⟨_, exec_coldStart hp hmv, ?_, mtime_set ?_ ?_, measure_now mv, BytesKept.of_mem ?_⟩
  · rw [State.measure, State.wf_keeper, State.wf_keeper]
    rfl
  · rw [State.measure, State.wf_ptpOff, State.wf_ptpOff, State.wf_time, State.wf_time]
    rfl
  · rw [State.measure, State.wf_ptpSlew, State.wf_ptpSlew]
    rfl
  · rw [State.measure_mem]
    rfl

/-- The state in which the plains of a group have left OFF. -/
def State.groupUp (s : State) (g : Nat) : State :=
  (s.forEach ((List.range 4).map fun i => 4 * g + i) fun s p => s.wf (PLN_STATE_STATE p) 0).updKeeper fun k =>
    { k with phase := 3, groups := g + 1 }

theorem plainState_ne {p q : Nat} (h : p ≠ q) : (PLN_STATE_STATE p).key ≠ (PLN_STATE_STATE q).key := by
  simp only [Fk.key, PLN_STATE_STATE, plainPage]
  omega

theorem start_plainGroup (s : State) (g at_ : Nat) (hp : s.keeper.phase = 2 ∨ s.keeper.phase = 3) (hb : s.keeper.bench = false)
    (hg : g = s.keeper.groups) (hg16 : g < 16) :
    ∃ s', exec (.plainGroupPowerUp g [] at_) s = .next s' ∧ s'.keeper.phase = 3 ∧ s'.keeper.groups = g + 1 ∧
      (∀ p, 4 * g ≤ p → p < 4 * g + 4 → s'.plnState p = 0) ∧ BytesKept s s' ∧
      RegsKept s s' ((List.range 4).map fun i => PLN_STATE_STATE (4 * g + i)) := by
  have hcond : ¬(!((s.at at_).keeper.phase = 2 ∨ (s.at at_).keeper.phase = 3) ∨ (s.at at_).keeper.bench ∨
      g ≠ (s.at at_).keeper.groups ∨ 16 ≤ g) := by
    rw [show (s.at at_).keeper = s.keeper from rfl, hb, ← hg]
    simp [hp, hg16]
  have he : exec (.plainGroupPowerUp g [] at_) s = .next ((s.at at_).groupUp g) := by
    rw [show exec (.plainGroupPowerUp g [] at_) s = execPlainGroupPowerUp g [] at_ s from rfl, execPlainGroupPowerUp]
    exact congrArg _ (if_neg hcond)
  refine ⟨_, he, rfl, rfl, fun p h0 h4 => ?_, BytesKept.of_mem ?_, fun j hj => ?_⟩
  · rw [State.plnState, State.groupUp, State.updKeeper_rf]
    refine foldl_settles (a := p) (v := 0) (fun _ => True) (State.rf · (PLN_STATE_STATE p)) trivial (fun _ _ _ _ => trivial)
      (fun u _ => State.rf_wf_self ..) (fun u q _ _ hne => State.rf_wf_ne _ _ (plainState_ne (Ne.symm hne))) ?_
    exact List.mem_map.mpr ⟨p - 4 * g, List.mem_range.mpr (by omega), by omega⟩
  · rw [State.groupUp, State.updKeeper_mem, forEach_wf_keeps State.mem _ _ _ fun _ _ _ => State.wf_mem ..]
    rfl
  · rw [State.groupUp, State.updKeeper_rf]
    refine (forEach_wf_keeps (State.rf · j) _ _ _ fun u q hq => State.rf_wf_ne _ _ ?_).trans rfl
    obtain ⟨i, hi, rfl⟩ := List.mem_map.mp hq
    exact (hj _ (List.mem_map.mpr ⟨i, hi, rfl⟩)).symm

theorem start_training (s : State) (at_ : Nat) (hp : s.keeper.phase = 3) (hg : s.keeper.groups = 16) :
    ∃ s', exec (.passTrainingComplete at_) s = .next s' ∧
    s'.keeper.phase = 4 ∧ (∀ p, p < 64 → s'.rf (MESH_ROUND_COUNT p) = 0) ∧ BytesKept s s' := by
  have hcond : ¬((s.at at_).keeper.phase ≠ 3 ∨ (s.at at_).keeper.groups ≠ 16) := by
    rw [show (s.at at_).keeper = s.keeper from rfl, hp, hg]
    decide
  rw [show exec (.passTrainingComplete at_) s = execPassTrainingComplete at_ s from rfl, execPassTrainingComplete]
  refine ⟨_, congrArg _ (if_neg hcond), rfl, fun p hp => ?_, BytesKept.of_mem ?_⟩
  · rw [State.updKeeper_rf]
    refine foldl_settles (a := p) (v := 0) (fun _ => True) (State.rf · (MESH_ROUND_COUNT p)) trivial (fun _ _ _ _ => trivial)
      (fun u _ => ?_) (fun u q _ _ hne => ?_) (List.mem_range.mpr hp)
    · rw [State.updPlain_rf, State.rf_wf_self]
      rfl
    · rw [State.updPlain_rf, State.rf_wf_ne _ _ ?_]
      simp only [Fk.key, MESH_ROUND_COUNT, plainPage]
      omega
  · rw [State.updKeeper_mem]
    exact (foldl_keeps State.mem (fun _ _ => by rw [State.updPlain_mem, State.wf_mem]) _ _).trans rfl

theorem start_edge (s : State) (at_ : Nat) (hp : s.keeper.phase = 4) :
    ∃ s', exec (.edgeTrainingComplete [] at_) s = .next s' ∧ s'.keeper.phase = 5 ∧
    s'.rf EDGE_STATUS_TRAINED = 255 ∧ (∀ pg, rimPages.contains pg = true → s'.rb (hSTATUS_READY pg) = true) ∧ BytesKept s s' := by
  have hcond : ¬((s.at at_).keeper.phase ≠ 4) := not_not.mpr hp
  have he : exec (.edgeTrainingComplete [] at_) s =
      .next ((((s.at at_).setReady rimPages).updKeeper fun k => { k with phase := 5 }).wf EDGE_STATUS_TRAINED 255) := by
    rw [show exec (.edgeTrainingComplete [] at_) s = execEdgeTrainingComplete [] at_ s from rfl, execEdgeTrainingComplete]
    exact congrArg _ (if_neg hcond)
  refine ⟨_, he, ?_, State.rf_wf_self .., fun pg hpg => ?_, BytesKept.of_mem ?_⟩
  · rw [State.wf_keeper]
    rfl
  · have hm : pg ∈ rimPages := List.contains_iff_mem.mp hpg
    have h0 : pg % 0x1000 = 0 := by
      have := List.all_eq_true.mp (by decide : rimPages.all (fun q => q % 0x1000 == 0) = true) pg hm
      simpa using this
    rw [State.rb, wf_ready h0 (by decide), State.updKeeper_rf, setReady_ready hm]
    rfl
  · rw [State.wf_mem, State.updKeeper_mem, State.setReady_mem]
    rfl

theorem start_kFields (s : State) (at_ : Nat) (hp : s.keeper.phase = 5) (hk : s.rb MOD_STATUS_KEEPER_UP = true) :
    ∃ s', exec (.kFieldsLoaded at_) s = .next s' ∧ s'.keeper.phase = 6 ∧ BytesKept s s' := by
  have hcond : ¬((s.at at_).keeper.phase ≠ 5 ∨ !(s.at at_).rb MOD_STATUS_KEEPER_UP) := by
    rw [show (s.at at_).keeper.phase = 5 from hp, show (s.at at_).rb MOD_STATUS_KEEPER_UP = true from hk]
    decide
  have he : exec (.kFieldsLoaded at_) s = .next ((((rimPages ++ latePages).foldl State.loadPage (s.at at_)).updKeeper fun k =>
      { k with phase := 6 }).setCharging) := by
    rw [show exec (.kFieldsLoaded at_) s = execKFieldsLoaded at_ s from rfl, execKFieldsLoaded]
    exact congrArg _ (if_neg hcond)
  refine ⟨_, he, ?_, BytesKept.of_mem ?_⟩
  · rw [setCharging_keeps State.keeper fun _ => State.wf_keeper ..]
    rfl
  · rw [State.setCharging_mem, State.updKeeper_mem]
    exact (foldl_keeps State.mem (fun u q => u.loadPage_mem q) _ _).trans rfl

section
variable {s : State} {rtc at_ t0 : Nat}

/-- The fields that a start ends with. -/
def State.readyFields (s : State) (t0 : Nat) : State :=
  ((s.setReady latePages).wf MOD_STATUS_READY 1).wks [(MOD_LAST_START_CAUSE, s.keeper.cause),
    (MOD_LAST_START_READY_MS, (s.time - s.keeper.startAt) / 1000000), (MOD_LAST_START_L0_MS, (t0 - s.keeper.startAt) / 1000000),
    (LDG_INCARNATION_COUNT, s.rf LDG_INCARNATION_COUNT + 1)]

/-- The resets that the start absorbed are reported. -/
def State.resetsReported (s : State) : State := s.pcie.vfReset.foldl (fun s f => s.emit (.flrDone f)) s

theorem resetsReported_keeps {β : Type} (view : State → β) (hemit : ∀ u o, view (State.emit u o) = view u) :
    view s.resetsReported = view s := foldl_keeps view (fun _ _ => hemit _ _) _ s

/-- The W2 is READY. -/
def State.madeReady (s : State) (t0 : Nat) : State :=
  let s2 := (s.readyFields t0).resetsReported
  ({ s2 with pcie := { s2.pcie with vfReset := [], mgmtReset := false } } : State).updKeeper fun k =>
    { k with phase := 7, benchKept := false, spilled := [] }

theorem madeReady_rf (j : Fk) : (s.madeReady t0).rf j = (s.readyFields t0).rf j := by
  rw [State.madeReady, State.updKeeper_rf]
  exact resetsReported_keeps (State.rf · j) fun _ _ => rfl

theorem madeReady_mem : (s.madeReady t0).mem = s.mem := by
  have h : (s.readyFields t0).resetsReported.mem = s.mem := by
    rw [resetsReported_keeps State.mem fun u o => State.emit_mem u o, State.readyFields,
      wks_keeps State.mem fun u k v => by rw [State.wk, State.updKeeper_mem, State.wf_mem], State.wf_mem, State.setReady_mem]
  rw [State.madeReady, State.updKeeper_mem]
  exact h

theorem latePages_aligned : ∀ q ∈ latePages, q % 0x1000 = 0 := by
  have h : latePages.all (fun q => q % 0x1000 == 0) = true := by decide +kernel
  intro q hq
  simpa using List.all_eq_true.mp h q hq

theorem readyFields_warm : (s.readyFields t0).rf MOD_STATUS_WARM = s.rf MOD_STATUS_WARM := by
  simp only [State.readyFields, State.wks, List.foldl_cons, List.foldl_nil]
  rw [State.rf_wk_ne _ (by decide), State.rf_wk_ne _ (by decide), State.rf_wk_ne _ (by decide), State.rf_wk_ne _ (by decide),
    State.rf_wf_ne _ _ (by decide), setReady_rf_ne _ (by decide) latePages_aligned]

theorem readyFields_ready : (s.readyFields t0).rf MOD_STATUS_READY = 1 := by
  simp only [State.readyFields, State.wks, List.foldl_cons, List.foldl_nil]
  rw [State.rf_wk_ne _ (by decide), State.rf_wk_ne _ (by decide), State.rf_wk_ne _ (by decide), State.rf_wk_ne _ (by decide),
    State.rf_wf_self]
  rfl

theorem readyFields_incarnation : (s.readyFields t0).rf LDG_INCARNATION_COUNT =
    (s.rf LDG_INCARNATION_COUNT + 1) % 2 ^ (LDG_INCARNATION_COUNT).w := State.rf_wk_self ..

theorem readyFields_page {pg : Nat} (h : pg ∈ latePages) : (s.readyFields t0).rf (hSTATUS_READY pg) = 1 := by
  have h0 := latePages_aligned pg h
  simp only [State.readyFields, State.wks, List.foldl_cons, List.foldl_nil]
  rw [State.rf_wk_ne _ (ready_ne h0 (by decide)), State.rf_wk_ne _ (ready_ne h0 (by decide)),
    State.rf_wk_ne _ (ready_ne h0 (by decide)), State.rf_wk_ne _ (ready_ne h0 (by decide)), wf_ready h0 (by decide), setReady_ready h]

theorem exec_moduleReady (hl : s.keeper.l0At = some t0) (hp : s.keeper.phase = 6) (hk : s.rb MOD_STATUS_KEEPER_UP = true)
    (ht : t0 + 1000000000 ≤ max s.time at_) (hb : s.keeper.benchKept = false) (hw : s.rb MOD_STATUS_WARM = false) :
    exec (.moduleReady rtc at_) s = .next ((s.at at_).madeReady t0).freeSlots := by
  have hl' : (s.at at_).keeper.l0At = some t0 := hl
  have hcond : ¬((s.at at_).keeper.phase ≠ 6 ∨ !(s.at at_).rb MOD_STATUS_KEEPER_UP ∨ (s.at at_).time < t0 + 1000000000) := by
    rw [show (s.at at_).keeper.phase = 6 from hp, show (s.at at_).rb MOD_STATUS_KEEPER_UP = true from hk]
    rintro (h | h | h)
    · exact h rfl
    · exact absurd h (by decide)
    · exact absurd ht (Nat.not_le.mpr h)
  have hbench : ¬((s.at at_).keeper.benchKept = true) := by
    rw [show (s.at at_).keeper.benchKept = false from hb]
    decide
  have hwarm : ¬(((s.at at_).madeReady t0).rb MOD_STATUS_WARM = true) := by
    rw [State.rb, madeReady_rf, readyFields_warm, show ((s.at at_).rf MOD_STATUS_WARM == 1) = false from hw]
    decide
  rw [show exec (.moduleReady rtc at_) s = execModuleReady rtc at_ s from rfl, execModuleReady, hl']
  exact congrArg _ ((if_neg hcond).trans ((if_neg hbench).trans (if_neg hwarm)))

theorem exec_moduleReady_early (hl : s.keeper.l0At = some t0) (ht : max s.time at_ < t0 + 1000000000) :
    exec (.moduleReady rtc at_) s = .next (s.at at_) := by
  have hl' : (s.at at_).keeper.l0At = some t0 := hl
  rw [show exec (.moduleReady rtc at_) s = execModuleReady rtc at_ s from rfl, execModuleReady, hl']
  exact congrArg _ (if_pos (.inr (.inr ht)))

end

theorem start_ready (s : State) (rtc at_ t0 : Nat) (hl : s.keeper.l0At = some t0) (hp : s.keeper.phase = 6)
    (hk : s.rb MOD_STATUS_KEEPER_UP = true) :
    (max s.time at_ < t0 + 1000000000 → exec (.moduleReady rtc at_) s = .next (s.at at_)) ∧
    (t0 + 1000000000 ≤ max s.time at_ → s.keeper.benchKept = false → s.rb MOD_STATUS_WARM = false → ∃ s',
      exec (.moduleReady rtc at_) s = .next s' ∧ s'.keeper.phase = 7 ∧ s'.rb MOD_STATUS_READY = true ∧
      s'.rf LDG_INCARNATION_COUNT = (s.rf LDG_INCARNATION_COUNT + 1) % 2 ^ (LDG_INCARNATION_COUNT).w ∧
      (∀ pg, latePages.contains pg = true → s'.rb (hSTATUS_READY pg) = true) ∧ BytesKept s s') := by
  refine ⟨exec_moduleReady_early hl, fun ht hb hw => ⟨_, exec_moduleReady hl hp hk ht hb hw, rfl, ?_, ?_, fun pg hpg => ?_,
    BytesKept.of_mem ?_⟩⟩
  · rw [State.rb, freeSlots_rf, madeReady_rf, readyFields_ready]
    rfl
  · rw [freeSlots_rf, madeReady_rf, readyFields_incarnation]
    rfl
  · rw [State.rb, freeSlots_rf, madeReady_rf, readyFields_page (List.contains_iff_mem.mp hpg)]
    rfl
  · rw [State.freeSlots_mem, madeReady_mem]
    rfl

/-! ### Module resets, PERST# and the link -/

section
variable {s : State} {at_ : Nat}

theorem moduleReset_runs (hf : s.frozen = false) (hp : s.keeper.phase = 7) (he : s.keeper.benchEntry = false)
    (hb : s.keeper.bench = false) (cause : Nat) : s.moduleReset cause = s.moduleRestart cause := by
  rw [State.moduleReset]
  simp [hf, hp, he, hb]

theorem moduleReset_held (hf : s.frozen = true) (cause : Nat) : s.moduleReset cause = s.holdReset (.module cause) := by
  rw [State.moduleReset]
  simp [hf]

theorem exec_moduleResetWrite {v : BitVec 64} (hfn : s.fnUp 0 = true) (hr : s.pageReady pgMOD = true)
    (hgo : v.toNat.testBit 0 = true) (hkey : bits v.toNat 48 16 = 0x4B57) :
    exec (.moduleResetWrite v at_) s = .next ((s.at at_).moduleReset 2) := by
  rw [show exec (.moduleResetWrite v at_) s = execModuleResetWrite v at_ s from rfl, execModuleResetWrite]
  exact congrArg _ (if_pos ⟨hfn, hr, hgo, hkey⟩)

theorem setSlow_keeps {β : Type} (view : State → β) (hwf : ∀ u k v, view (State.wf u k v) = view u)
    (hpart : ∀ u n f, view (State.updPart u n f) = view u) (hpwr : ∀ u : State, view u.setPwr = view u) : view s.setSlow = view s := by
  rw [State.setSlow]
  refine ite_view view rfl (ite_view view ?_ ?_)
  · rw [hpwr, State.markSlowed_keeps view hpart, State.bump, hwf, hwf]
  · rw [hpwr, hwf]

/-- The state that a module reset restarts from. -/
def State.restarted (s : State) (cause : Nat) : State :=
  let s1 := s.blank (s.keeperRestart cause) resetKeeps fun q => (q.kept false).uncleared
  if s.measured then s1.bump SEC_MEAS_SEQ_COUNT else s1

theorem restarted_keeps {β : Type} (view : State → β) (hwf : ∀ u k v, view (State.wf u k v) = view u) (cause : Nat) :
    view (s.restarted cause) = view (s.blank (s.keeperRestart cause) resetKeeps fun q => (q.kept false).uncleared) := by
  rw [State.restarted]
  exact ite_view view (hwf _ _ _) rfl

theorem moduleRestart_keeps {β : Type} (view : State → β) (hwf : ∀ u k v, view (State.wf u k v) = view u)
    (hpart : ∀ u n f, view (State.updPart u n f) = view u) (hemit : ∀ u o, view (State.emit u o) = view u)
    (halert : ∀ u, view (State.setAlert u) = view u) (cause : Nat) :
    view (s.moduleRestart cause) = view (s.blank (s.keeperRestart cause) resetKeeps fun q => (q.kept false).uncleared) := by
  have hpwr : ∀ u : State, view u.setPwr = view u := fun u => setPwr_keeps view (fun _ _ => hwf ..) hemit halert
  have h : s.moduleRestart cause = (s.restarted cause).setSlow.setSupply.setPwr := rfl
  rw [h, hpwr, State.setSupply, hwf, setSlow_keeps view hwf hpart hpwr, restarted_keeps view hwf]

theorem exec_perstAssert (hp : s.pcie.perst = false) : exec (.perstAssert at_) s =
    .next (({ s.at at_ with pcie := { s.pcie with perst := true } } : State).moduleReset 1) := by
  rw [show exec (.perstAssert at_) s = execPerstAssert at_ s from rfl, execPerstAssert]
  refine congrArg _ (if_neg ?_)
  rw [show (s.at at_).pcie = s.pcie from rfl, hp]
  decide

theorem exec_perstRelease (hp : s.pcie.perst = true) : exec (.perstRelease at_) s =
    .next (({ s.at at_ with pcie := { s.pcie with perst := false } } : State).updKeeper fun k => { k with perstAt := max s.time at_ }) := by
  rw [show exec (.perstRelease at_) s = execPerstRelease at_ s from rfl, execPerstRelease]
  exact congrArg _ (if_pos hp)

/-- The link has come up. -/
def State.linkUp (s : State) : State :=
  ({ s with pcie := { s.pcie with l0 := true } } : State).updKeeper fun k => { k with l0At := some s.time }

theorem exec_pcieLinkL0 {speed width : Nat} {flit : Bool} (hp : s.pcie.perst = false) (hl : s.pcie.l0 = false)
    (hk : 2 ≤ s.keeper.phase) (hf : s.frozen = false) (ht : s.keeper.perstAt + 60000000 ≤ max s.time at_) :
    exec (.pcieLinkL0 speed width flit at_) s = .next ((s.at at_).linkUp.wfs
      [(HST_LINK_SPEED, speed), (HST_LINK_WIDTH, width), (HST_LINK_FLIT, b2n flit)]) := by
  rw [show exec (.pcieLinkL0 speed width flit at_) s = execPcieLinkL0 speed width flit at_ s from rfl, execPcieLinkL0]
  refine congrArg _ (if_neg ?_)
  rw [show (s.at at_).pcie = s.pcie from rfl, hp, hl, show (s.at at_).frozen = false from hf]
  rintro (h | h | h | h | h)
  · exact absurd h (by decide)
  · exact absurd h (by decide)
  · exact absurd hk (Nat.not_le.mpr h)
  · exact absurd h (by decide)
  · exact absurd ht (Nat.not_le.mpr h)

end

theorem start_moduleReset (s : State) (v : BitVec 64) (at_ : Nat) (hfn : s.fnUp 0 = true) (hr : s.pageReady pgMOD = true)
    (hgo : v.toNat.testBit 0 = true) (hkey : bits v.toNat 48 16 = 0x4B57) (hp : s.keeper.phase = 7)
    (he : s.keeper.benchEntry = false) (hb : s.keeper.bench = false) :
    (s.frozen = false → exec (.moduleResetWrite v at_) s = .next ((s.at at_).moduleRestart 2)) ∧
    (s.frozen = true → exec (.moduleResetWrite v at_) s = .next ((s.at at_).holdReset (.module 2))) := by
  refine ⟨fun hf => ?_, fun hf => ?_⟩
  · rw [exec_moduleResetWrite hfn hr hgo hkey, moduleReset_runs (s := s.at at_) hf hp he hb]
  · rw [exec_moduleResetWrite hfn hr hgo hkey, moduleReset_held (s := s.at at_) hf]

theorem start_restart (s : State) (cause : Nat) :
    (s.moduleRestart cause).keeper.phase = 1 ∧ (s.moduleRestart cause).keeper.cause = cause ∧
    (s.moduleRestart cause).mem = [] ∧ (s.moduleRestart cause).pcie.l0 = false ∧
    (s.moduleRestart cause).pf0Epoch = (s.pf0Epoch + 1) % 65536 :=
  ⟨moduleRestart_keeps (fun u => u.keeper.phase) (fun _ _ _ => rfl) (fun _ _ _ => rfl) (fun _ _ => rfl) (fun _ => rfl) cause,
    moduleRestart_keeps (fun u => u.keeper.cause) (fun _ _ _ => rfl) (fun _ _ _ => rfl) (fun _ _ => rfl) (fun _ => rfl) cause,
    moduleRestart_keeps State.mem (fun _ _ _ => rfl) (fun _ _ _ => rfl) (fun _ _ => rfl) (fun _ => rfl) cause,
    moduleRestart_keeps (fun u => u.pcie.l0) (fun _ _ _ => rfl) (fun _ _ _ => rfl) (fun _ _ => rfl) (fun _ => rfl) cause,
    moduleRestart_keeps State.pf0Epoch (fun _ _ _ => rfl) (fun _ _ _ => rfl) (fun _ _ => rfl) (fun _ => rfl) cause⟩

theorem start_perst (s : State) (at_ : Nat) (hp : s.pcie.perst = false) (hf : s.frozen = false) (hk : s.keeper.phase = 7)
    (he : s.keeper.benchEntry = false) (hb : s.keeper.bench = false) : exec (.perstAssert at_) s =
      .next (({ s.at at_ with pcie := { s.pcie with perst := true } } : State).moduleRestart 1) := by
  rw [exec_perstAssert hp, moduleReset_runs (s := { s.at at_ with pcie := { s.pcie with perst := true } }) hf hk he hb]

theorem start_link (s : State) (speed width at_ : Nat) (flit : Bool) (hp : s.pcie.perst = false) (hl : s.pcie.l0 = false)
    (hk : 2 ≤ s.keeper.phase) (hf : s.frozen = false) (ht : s.keeper.perstAt + 60000000 ≤ max s.time at_) :
    ∃ s', exec (.pcieLinkL0 speed width flit at_) s = .next s' ∧ s'.pcie.l0 = true ∧
      s'.keeper.l0At = some (max s.time at_) ∧ BytesKept s s' ∧ RegsKept s s' [HST_LINK_SPEED, HST_LINK_WIDTH, HST_LINK_FLIT] := by
  have hpcie : ∀ (u : State) l, (u.wfs l).pcie = u.pcie := fun u l => foldl_keeps State.pcie (fun _ _ => State.wf_pcie ..) l u
  refine ⟨_, exec_pcieLinkL0 hp hl hk hf ht, ?_, ?_, BytesKept.of_mem ?_, fun j hj => ?_⟩
  · rw [hpcie]
    rfl
  · rw [State.keeper_wfs]
    rfl
  · rw [State.wfs_mem]
    rfl
  · exact (State.onlyRegs_wfs _).2 j hj

/-! ### IDLE-HOLD and BENCH-RETAIN -/

section
variable {s : State} {at_ : Nat}

theorem pstateHost_taken {v : Nat} (hw : s.pf0Writes 0 = true) (hr : s.pageReady pgMOD = true) : s.pstateHost 0 v = s.pstateWrite v := by
  rw [State.pstateHost, hw, hr]
  rfl

theorem exec_idleHold (hw : s.pf0Writes 0 = true) (hr : s.pageReady pgMOD = true) : exec (.idleHoldRequest 0) s = .next s.idleRequest :=
  congrArg _ (pstateHost_taken (v := 1) hw hr)

theorem pstateWrite_bench (key : BitVec 16) : s.pstateWrite (2 + key.toNat * 2 ^ 48) = s.benchRequest key.toNat := by
  have hk : key.toNat < 2 ^ 16 := key.isLt
  have h2 : (2 + key.toNat * 2 ^ 48).testBit 2 = false := by
    rw [Nat.testBit_eq_decide_div_mod_eq]
    simp only [decide_eq_false_iff_not]
    omega
  have hlo : bits (2 + key.toNat * 2 ^ 48) 0 2 = 2 := by
    simp only [bits]
    omega
  have hhi : bits (2 + key.toNat * 2 ^ 48) 48 16 = key.toNat := by
    simp only [bits]
    omega
  rw [State.pstateWrite, h2]
  simp only [Bool.false_eq_true, if_false, hlo, hhi]

theorem exec_benchRetain (hw : s.pf0Writes 0 = true) (hr : s.pageReady pgMOD = true) (key : BitVec 16) :
    exec (.benchRetainRequest 0 key) s = .next (s.benchRequest key.toNat) :=
  congrArg _ ((pstateHost_taken hw hr).trans (pstateWrite_bench key))

theorem exec_run (hw : s.pf0Writes 0 = true) (hr : s.pageReady pgMOD = true) :
    exec (.runRequest 0 at_) s = .next (s.at at_).runRequest :=
  congrArg _ (pstateHost_taken (s := s.at at_) (v := 0) hw hr)

/-- IDLE-HOLD is entered. -/
def State.idleHeld (s : State) : State :=
  (s.wf MOD_PSTATE_REQ 1).updKeeper fun k => { k with idle := true, idleExit := !k.deferred.isEmpty }

theorem idleRequest_taken (hq : s.allQuiet = true) (hl : s.keeper.load = none) (hr : s.rb MOD_STATUS_READY = true) :
    s.idleRequest = s.idleHeld.setPwr := by
  rw [State.idleRequest, hq, hl, hr]
  rfl

theorem idleRequest_busy (hq : s.allQuiet = false) : s.idleRequest = s.pstateRefuse 1 := by
  rw [State.idleRequest, hq]
  rfl

theorem idleHeld_pwr (hb : s.keeper.bench = false) (hh : s.keeper.held = false) : s.idleHeld.pwrState = 2 := by
  have hheld : s.idleHeld.keeper.held = false := hh
  have hbench : s.idleHeld.keeper.bench = false := hb
  rw [State.pwrState, hheld, hbench]
  rfl

theorem benchRequest_badKey {key : Nat} (h : key ≠ 0x4252) : s.benchRequest key = s.pstateRefuse 6 := by
  have hk : (key != 0x4252) = true := by simpa using h
  rw [State.benchRequest, hk]
  rfl

theorem benchRequest_taken (hr : s.rb MOD_STATUS_READY = true)
    (hq : ((List.range 16).all fun n => s.pst n == psEMPTY || s.pst n == psSTOPPED) = true) (hl : s.keeper.load = none)
    (ho : ((List.range 16).all fun n => s.occupancy n == 0) = true) (hp : s.rb KEEP_RESTORE_PENDING = false)
    (hu : s.rb CHST_UCFG_EN = false) :
    s.benchRequest 0x4252 = (s.wfs [(MOD_PSTATE_REQ, 2), (MOD_STATUS_READY, 0)]).updKeeper fun k =>
        { k with benchEntry := true, benchReset := none, spilled := s.spillEntries } := by
  have ho' : ((List.range 16).any fun n => s.occupancy n != 0) = false := by
    rw [List.any_eq_false]
    intro n hn
    simpa using List.all_eq_true.mp ho n hn
  rw [State.benchRequest, hr, hq, hl, ho', hp, hu]
  rfl

end

theorem start_power (s : State) (at_ : Nat) (hw : s.pf0Writes 0 = true) (hr : s.pageReady pgMOD = true) :
    (s.allQuiet = true → s.keeper.load = none → s.rb MOD_STATUS_READY = true → s.keeper.bench = false → s.keeper.held = false →
      ∃ s', exec (.idleHoldRequest 0) s = .next s' ∧ s'.keeper.idle = true ∧ s'.rf PWR_STATUS_STATE = 2 ∧ s'.rf MOD_PSTATE_REQ = 1 ∧
        BytesKept s s') ∧
    (s.allQuiet = false → exec (.idleHoldRequest 0) s = .next (s.wfs [(MOD_PSTATE_REFUSED, 1), (MOD_PSTATE_REASON, 1)])) ∧
    (∀ key : BitVec 16, key ≠ 0x4252 → exec (.benchRetainRequest 0 key) s =
      .next (s.wfs [(MOD_PSTATE_REFUSED, 1), (MOD_PSTATE_REASON, 6)])) ∧
    (s.rb MOD_STATUS_READY = true → ((List.range 16).all fun n => s.pst n == 0 || s.pst n == 1) = true → s.keeper.load = none →
      ((List.range 16).all fun n => s.occupancy n == 0) = true → s.rb KEEP_RESTORE_PENDING = false → s.rb CHST_UCFG_EN = false →
      exec (.benchRetainRequest 0 0x4252) s = .next ((s.wfs [(MOD_PSTATE_REQ, 2), (MOD_STATUS_READY, 0)]).updKeeper fun k =>
        { k with benchEntry := true, benchReset := none, spilled := s.spillEntries })) ∧
    (s.keeper.benchEntry = false → s.keeper.bench = false → s.keeper.idle = true → exec (.runRequest 0 at_) s =
      .next (((s.at at_).wf MOD_PSTATE_REQ 0).updKeeper fun k => { k with idleExit := true })) := by
  refine ⟨fun hq hl hrd hb hh => ?_, fun hq => ?_, fun key hk => ?_, fun hrd hq hl ho hp hu => ?_, fun he hb hi => ?_⟩
  · have hex := exec_idleHold hw hr
    rw [idleRequest_taken hq hl hrd] at hex
    refine ⟨_, hex, ?_, ?_, ?_, BytesKept.of_mem ?_⟩
    · rw [setPwr_keeps (fun u => u.keeper.idle) (fun _ _ => rfl) (fun _ _ => rfl) fun _ => rfl]
      rfl
    · rw [setPwr_rf_self, idleHeld_pwr hb hh]
    · rw [setPwr_rf_ne (by decide), State.idleHeld, State.updKeeper_rf, State.rf_wf_self]
      rfl
    · rw [State.setPwr_mem, State.idleHeld, State.updKeeper_mem, State.wf_mem]
  · rw [exec_idleHold hw hr, idleRequest_busy hq]
    rfl
  · have hk' : key.toNat ≠ 0x4252 := fun h => hk (BitVec.eq_of_toNat_eq h)
    rw [exec_benchRetain hw hr, benchRequest_badKey hk']
    rfl
  · rw [exec_benchRetain hw hr]
    exact congrArg _ (benchRequest_taken hrd hq hl ho hp hu)
  · have he' : ¬(((s.at at_).wf MOD_PSTATE_REQ 0).keeper.benchEntry = true) := by
      rw [State.wf_keeper, show (s.at at_).keeper = s.keeper from rfl, he]
      decide
    have hb' : ¬(((s.at at_).wf MOD_PSTATE_REQ 0).keeper.bench = true) := by
      rw [State.wf_keeper, show (s.at at_).keeper = s.keeper from rfl, hb]
      decide
    have hi' : ((s.at at_).wf MOD_PSTATE_REQ 0).keeper.idle = true := by
      rw [State.wf_keeper]
      exact hi
    rw [exec_run hw hr]
    exact congrArg _ ((if_neg he').trans ((if_neg hb').trans (if_pos hi')))

theorem start_idleExit (s : State) (at_ : Nat) (hi : s.keeper.idle = true) (he : s.keeper.idleExit = true) (hd : s.keeper.deferred = []) :
    exec (.idleHoldExitComplete at_) s =
      .next ((s.at at_).updKeeper fun k => { k with idle := false, idleExit := false, deferred := [] }).setPwr := by
  have hcond : ¬(!(s.at at_).keeper.idle ∨ !(s.at at_).keeper.idleExit) := by
    rw [show (s.at at_).keeper = s.keeper from rfl, hi, he]
    decide
  rw [show exec (.idleHoldExitComplete at_) s = execIdleHoldExitComplete at_ s from rfl, execIdleHoldExitComplete]
  refine congrArg _ ((if_neg hcond).trans ?_)
  rw [show (s.at at_).keeper.deferred = [] from hd]
  rfl

section
variable {s : State} {at_ : Nat}

/-- The Keeper in BENCH-RETAIN. -/
def State.benchKeeper (s : State) : Keeper :=
  let k := s.journalKeep false
  { k with benchEntry := false, bench := true, phase := 2, groups := 0, restore := none, load := none, peers := [], reloads := []
           coldSlot := [], coldPro := [], copyPro := [], idle := false, idleExit := false, deferred := [] }

/-- What BENCH-RETAIN leaves of the module. -/
def State.benchLeft (s : State) : State :=
  let b := s.blank s.benchKeeper [] fun q => q.kept false
  { b with
    fld := s.fld.filter fun e => earlyPages.contains (pageBase (e.1 / 64))
    mem := s.mem.filter fun c => benchKey c.1
    eccBad := s.eccBad.filter fun e => benchKey (e.1 * 8)
    tiles := s.retainShelves
    pcie := s.pcie, chest := s.chest }

/-- BENCH-RETAIN, with the measurements changed where one named an image. -/
def State.benchEntered (s : State) : State :=
  (if s.keeper.coldPro.isEmpty && s.keeper.copyPro.isEmpty then s.benchLeft else s.benchLeft.measChange).freeSlots.setPwr

theorem journalKeep_benchReset (c : Bool) : (s.journalKeep c).benchReset = s.keeper.benchReset :=
  foldl_keeps Keeper.benchReset (fun k p => by dsimp only; split <;> rfl) _ _

theorem exec_benchEntered (he : s.keeper.benchEntry = true) (hs : s.keeper.spilled = []) (hr : s.keeper.benchReset = none) :
    exec (.benchRetainEntered at_) s = .next (s.at at_).benchEntered := by
  have he' : ¬((!(s.at at_).keeper.benchEntry) = true) := by
    rw [show (s.at at_).keeper = s.keeper from rfl, he]
    decide
  have hr' : ((s.at at_).journalKeep false).benchReset = none := (journalKeep_benchReset false).trans hr
  rw [show exec (.benchRetainEntered at_) s = execBenchRetainEntered at_ s from rfl, execBenchRetainEntered]
  refine congrArg _ ((if_neg he').trans ?_)
  rw [show (s.at at_).keeper.spilled = [] from hs, List.foldl_nil]
  show (match ((s.at at_).journalKeep false).benchReset with
    | some c => (s.at at_).benchEntered.benchExit c
    | none => (s.at at_).benchEntered) = _
  rw [hr']

theorem measChange_keeps {β : Type} (view : State → β) (hwf : ∀ u v, view (State.wf u SEC_MEAS_SEQ_COUNT v) = view u)
    (hemit : ∀ u o, view (State.emit u o) = view u) : view s.measChange = view s := by
  rw [State.measChange, State.irqPage_keeps view hemit]
  exact hwf _ _

theorem benchEntered_keeps {β : Type} (view : State → β) (hwf : ∀ u k v, view (State.wf u k v) = view u)
    (hemit : ∀ u o, view (State.emit u o) = view u) (halert : ∀ u, view (State.setAlert u) = view u)
    (hfree : ∀ u, view (State.freeSlots u) = view u) : view s.benchEntered = view s.benchLeft := by
  rw [State.benchEntered, setPwr_keeps view (fun _ _ => hwf ..) hemit halert, hfree]
  exact ite_view view rfl (measChange_keeps view (fun _ _ => hwf ..) hemit)

theorem sget?_filter_key {α : Type} (q : Nat → Bool) (k : Nat) :
    ∀ m : SMap α, sget? (m.filter fun e => q e.1) k = if q k then sget? m k else none
  | [] => by simp [sget?]
  | (j, v) :: m => by
    have ih := sget?_filter_key q k m
    rw [List.filter_cons]
    by_cases hj : j = k
    · subst hj
      cases hq : q j
      · simpa [hq] using ih
      · simp [sget?]
    · cases hq : q j
      · simpa [sget?, hj] using ih
      · simpa [sget?, hj] using ih

end

theorem start_benchRetain (s : State) (at_ : Nat) (he : s.keeper.benchEntry = true) (hs : s.keeper.spilled = [])
    (hr : s.keeper.benchReset = none) : ∃ s',
    exec (.benchRetainEntered at_) s = .next s' ∧ s'.keeper.bench = true ∧ s'.keeper.benchEntry = false ∧
    (∀ a, benchKey a = true → s'.byte a = s.byte a) ∧ (∀ a, benchKey a = false → s'.byte a = 0) := by
  have hmem : (s.at at_).benchEntered.mem = s.mem.filter fun c => benchKey c.1 :=
    benchEntered_keeps State.mem (fun _ _ _ => rfl) (fun _ _ => rfl) (fun _ => rfl) fun _ => rfl
  refine ⟨_, exec_benchEntered he hs hr,
    benchEntered_keeps (fun u => u.keeper.bench) (fun _ _ _ => rfl) (fun _ _ => rfl) (fun _ => rfl) fun _ => rfl,
    benchEntered_keeps (fun u => u.keeper.benchEntry) (fun _ _ _ => rfl) (fun _ _ => rfl) (fun _ => rfl) fun _ => rfl,
    fun a ha => ?_, fun a ha => ?_⟩
  · rw [State.byte, hmem, sget, sget?_filter_key, ha]
    rfl
  · rw [State.byte, hmem, sget, sget?_filter_key, ha]
    rfl

/-- Settles O54. -/
theorem startAndPower : Obligations.StartAndPower :=
  ⟨start_cold, start_controlBlock, start_plainGroup, start_training, start_edge, start_kFields, start_ready, start_moduleReset,
    start_restart, start_perst, fun _ _ hp => exec_perstRelease hp, start_link, start_power, start_idleExit, start_benchRetain⟩

end Sys2Proof.Machine

/-! PROOF. The Chest: backup slots, the background erase, the user ring and its zone. -/

namespace Sys2Proof.Machine

section
variable {s : State} {k : Nat}

/-! ### Backup slots -/

theorem bslot_ne {j : Nat} (h : j ≠ k) : (CHST_BSLOT_STATE j).key ≠ (CHST_BSLOT_STATE k).key := by
  simp only [Fk.key, CHST_BSLOT_STATE]
  omega

/-- A committed slot is retired. -/
def State.slotRetired (s : State) (k : Nat) : State := if s.rf (CHST_BSLOT_STATE k) = 3 then s.setSlot k 4 else s

theorem slotRetired_rf_self : (s.slotRetired k).rf (CHST_BSLOT_STATE k) =
    if s.rf (CHST_BSLOT_STATE k) = 3 then 4 else s.rf (CHST_BSLOT_STATE k) := by
  rw [State.slotRetired]
  split
  · exact setSlot_rf_self (by decide) k
  · rfl

theorem slotRetired_rf_ne {j : Nat} (h : j ≠ k) : (s.slotRetired k).rf (CHST_BSLOT_STATE j) = s.rf (CHST_BSLOT_STATE j) := by
  rw [State.slotRetired]
  exact State.rf_ite (setSlot_rf_ne 4 (bslot_ne h)) rfl

theorem slotRetired_mem : (s.slotRetired k).mem = s.mem := by
  rw [State.slotRetired]
  exact ite_view State.mem (State.setSlot_mem ..) rfl

theorem chstRelease_taken {v : Nat} (hgo : v.testBit 0 = true) (hkey : bits v 48 16 = 0x524C) (hr : s.restoring = false)
    (hf : s.frozen = false) : s.chstRelease v = ((s.slotRetired 0).slotRetired 1).wk KEEP_RESTORE_PENDING 0 := by
  rw [State.chstRelease]
  refine (if_neg ?_).trans rfl
  simp [hgo, hkey, hr, hf]

theorem chstRelease_refused {v : Nat} (h : v.testBit 0 = false ∨ bits v 48 16 ≠ 0x524C ∨ s.restoring = true ∨ s.frozen = true) :
    s.chstRelease v = s := by
  rw [State.chstRelease]
  refine if_pos ?_
  rcases h with h | h | h | h
  · exact .inl (by rw [h]; rfl)
  · exact .inr (.inl h)
  · exact .inr (.inr (.inl h))
  · exact .inr (.inr (.inr h))

theorem pf0Writes_live (h : s.pf0Writes 0 = true) : s.frozen = false := by
  simp only [State.pf0Writes, Bool.and_eq_true, Bool.not_eq_true'] at h
  exact h.2

theorem eraseFails_none : s.eraseFails 0 = s.wk CHST_WEAR_BAD_BLOCKS (s.rf CHST_WEAR_BAD_BLOCKS + 0) := rfl

end

theorem chest_release (s : State) (v : BitVec 64) (hw : s.pf0Writes 0 = true) (hp : s.pageReady pgCHST = true)
    (hgo : v.toNat.testBit 0 = true) (hkey : bits v.toNat 48 16 = 0x524C) (hr : s.restoring = false) (hf : s.frozen = false) :
    ∃ s', exec (.chstRelease 0 v) s = .next s' ∧
      s'.rf KEEP_RESTORE_PENDING = 0 ∧ (∀ k, k < 2 → s'.rf (CHST_BSLOT_STATE k) =
        if s.rf (CHST_BSLOT_STATE k) = 3 then 4 else s.rf (CHST_BSLOT_STATE k)) ∧ BytesKept s s' := by
  have he : exec (.chstRelease 0 v) s = .next (((s.slotRetired 0).slotRetired 1).wk KEEP_RESTORE_PENDING 0) :=
    congrArg _ ((if_pos ⟨hw, hp⟩).trans (chstRelease_taken hgo hkey hr hf))
  refine ⟨_, he, State.rf_wk_self .., fun k hk => ?_, BytesKept.of_mem ?_⟩
  · rw [State.rf_wk_ne _ (by simp only [Fk.key, CHST_BSLOT_STATE, KEEP_RESTORE_PENDING]; omega)]
    obtain rfl | rfl : k = 0 ∨ k = 1 := by omega
    · rw [slotRetired_rf_ne (by decide), slotRetired_rf_self]
    · rw [slotRetired_rf_self, slotRetired_rf_ne (by decide)]
  · rw [State.wk_mem, slotRetired_mem, slotRetired_mem]

theorem chest_release_refused (s : State) (f : Nat) (v : BitVec 64)
    (h : v.toNat.testBit 0 = false ∨ bits v.toNat 48 16 ≠ 0x524C ∨ s.restoring = true ∨ s.frozen = true) :
    exec (.chstRelease f v) s = .next s := by
  rw [show exec (.chstRelease f v) s = execChstRelease f v s from rfl, execChstRelease, chstRelease_refused h, ite_self]

/-! ### The background erase -/

theorem chest_erase (s : State) (k : Nat) (hk : s.rb MOD_STATUS_KEEPER_UP = true) (hf : s.frozen = false)
    (hr : s.rb SEC_STATUS_REKEYING = false) :
    (k < 2 → s.rf (CHST_BSLOT_STATE k) = 1 ∨ s.rf (CHST_BSLOT_STATE k) = 4 ∨ s.rf (CHST_BSLOT_STATE k) = 5 → ∃ s',
      exec (.chestBackgroundEraseComplete false k 0 0) s = .next s' ∧ s'.rf (CHST_BSLOT_STATE k) = 0 ∧
      sget? s'.chest.snaps k = none ∧ BytesKept s s') ∧
    (∀ x, sget? s.chest.imgs k = some x → x.freed = true → exec (.chestBackgroundEraseComplete true k 0 0) s =
      .next ((s.updChest fun c => { c with imgs := sdel c.imgs k }).eraseFails 0)) := by
  have hcond : ¬(!s.rb MOD_STATUS_KEEPER_UP ∨ s.frozen ∨ s.rb SEC_STATUS_REKEYING) := by
    rw [hk, hf, hr]
    decide
  refine ⟨fun hk2 hst => ?_, fun x hx hfreed => ?_⟩
  · have he : exec (.chestBackgroundEraseComplete false k 0 0) s = .next ((((s.updChest fun c =>
        { c with snaps := sdel c.snaps k, bwear := sins c.bwear k (sget 0 c.bwear k + 1) }).wearMax
          (sget 0 (sins s.chest.bwear k (sget 0 s.chest.bwear k + 1)) k)).eraseFails 0).setSlot k 0) := by
      rw [show exec (.chestBackgroundEraseComplete false k 0 0) s = execChestBackgroundEraseComplete false k 0 0 s from rfl,
        execChestBackgroundEraseComplete]
      refine congrArg _ ((if_neg hcond).trans ((if_neg (by decide)).trans (if_neg ?_)))
      rintro (h | h)
      · omega
      · rw [decide_eq_true hst] at h
        exact absurd h (by decide)
    refine ⟨_, he, setSlot_rf_self (by decide) k, ?_, BytesKept.of_mem ?_⟩
    · rw [setSlot_keeps State.chest (fun _ _ => rfl) fun _ _ => rfl]
      exact (sget?_sdel ..).trans (if_pos rfl)
    · simp
  · rw [show exec (.chestBackgroundEraseComplete true k 0 0) s = execChestBackgroundEraseComplete true k 0 0 s from rfl,
      execChestBackgroundEraseComplete]
    refine congrArg _ ((if_neg hcond).trans ((if_pos rfl).trans ?_))
    rw [hx]
    exact if_pos hfreed

/-! ### The user ring -/

theorem chest_ringWords (s : State) (v : BitVec 64) (hw : s.pf0Writes 0 = true) (hp : s.pageReady pgCHST = true) :
    exec (.chestUtailWrite 0 v) s = .next (s.writeWord (pgCHST + 0x138) v.toNat (2 ^ 64 - 1)) ∧
    (let s1 := s.writeWord (pgCHST + 0x130) v.toNat (2 ^ 64 - 1)
     (s.rb CHST_UCFG_EN = true ∨ s1.rb CHST_UCFG_EN = false → exec (.chestUcfgWrite 0 v) s = .next s1) ∧
     (s.rb CHST_UCFG_EN = false → s1.rb CHST_UCFG_EN = true → exec (.chestUcfgWrite 0 v) s =
       .next ((s1.wfs [(CHST_UHEAD_STOPPED, 0), (CHST_UHEAD_LAST_ERR, 0)]).updChest fun c =>
         { c with fetch := (s1.rf CHST_UHEAD_HEAD + c.ring.length) % s1.uringSize }))) := by
  have hcfg : exec (.chestUcfgWrite 0 v) s = .next (s.uringWord 0x130 v.toNat (2 ^ 64 - 1)) := congrArg _ (if_pos ⟨hw, hp⟩)
  refine ⟨?_, fun h => ?_, fun h0 h1 => ?_⟩
  · refine (congrArg _ (if_pos ⟨hw, hp⟩)).trans ?_
    rw [State.uringWord, if_neg (by decide)]
    exact congrArg _ (if_neg fun h => absurd h.1 (by decide))
  · rw [hcfg, State.uringWord, if_neg (by decide)]
    refine congrArg _ (if_neg fun hx => ?_)
    obtain ⟨-, hen, hen'⟩ := hx
    rcases h with h | h
    · rw [h] at hen
      exact absurd hen (by decide)
    · exact absurd (hen'.symm.trans h) (by decide)
  · rw [hcfg, State.uringWord, if_neg (by decide)]
    exact congrArg _ (if_pos ⟨rfl, by rw [h0]; rfl, h1⟩)

section
variable {s : State} {op w0 w1 w2 w3 : Nat} {act : State → State × Nat}

theorem udesc_bad (hg : s.uringGo = true) (hb : udescBad w0 w1 w2 w3 = true) : s.udesc op w0 w1 w2 w3 act = s.uringDone w1 12 := by
  rw [State.udesc, hg]
  exact if_pos hb

theorem udesc_performed (hg : s.uringGo = true) (hb : udescBad w0 w1 w2 w3 = false) (hz : bits w1 16 12 < s.rf CHST_ZONE_USER_BLOCKS)
    (hop : bits w1 0 4 = op) : s.udesc op w0 w1 w2 w3 act = (act s).1.uringDone w1 (act s).2 := by
  rw [State.udesc, hg, hb]
  exact (if_neg (not_not.mpr hop)).trans (if_neg (Nat.not_le.mpr hz))

end

theorem chest_descriptors (s : State) (w0 w1 w2 w3 : BitVec 64) (data fixed bits_ : Nat) (step : Option Nat) (err pass : Bool)
    (hg : s.uringGo = true) :
    (udescBad w0.toNat w1.toNat w2.toNat w3.toNat = true → exec (.chestErase w0 w1 w2 w3 pass) s = .next (s.uringDone w1.toNat 12)) ∧
    (udescBad w0.toNat w1.toNat w2.toNat w3.toNat = false → bits w1.toNat 16 12 < s.rf CHST_ZONE_USER_BLOCKS →
      (bits w1.toNat 0 4 = 1 → exec (.chestErase w0 w1 w2 w3 pass) s =
        .next ((s.chestErase w1.toNat pass).1.uringDone w1.toNat (s.chestErase w1.toNat pass).2)) ∧
      (bits w1.toNat 0 4 = 2 → exec (.chestProgram w0 w1 w2 w3 data err pass) s =
        .next ((s.chestProgram w1.toNat data err pass).1.uringDone w1.toNat (s.chestProgram w1.toNat data err pass).2)) ∧
      (bits w1.toNat 0 4 = 3 → exec (.chestRead w0 w1 w2 w3 step fixed bits_ err) s =
        .next ((s.chestRead w0.toNat w1.toNat step fixed bits_ err).1.uringDone w1.toNat
          (s.chestRead w0.toNat w1.toNat step fixed bits_ err).2)) ∧
      (bits w1.toNat 0 4 = 4 → exec (.chestInfo w0 w1 w2 w3 err) s =
        .next ((s.chestInfo w0.toNat w1.toNat err).1.uringDone w1.toNat (s.chestInfo w0.toNat w1.toNat err).2))) := by
  refine ⟨fun hb => ?_, fun hb hz => ⟨fun hop => ?_, fun hop => ?_, fun hop => ?_, fun hop => ?_⟩⟩
  · rw [show exec (.chestErase w0 w1 w2 w3 pass) s = execChestErase w0 w1 w2 w3 pass s from rfl, execChestErase, udesc_bad hg hb]
  · rw [show exec (.chestErase w0 w1 w2 w3 pass) s = execChestErase w0 w1 w2 w3 pass s from rfl, execChestErase,
      udesc_performed hg hb hz hop]
  · rw [show exec (.chestProgram w0 w1 w2 w3 data err pass) s = execChestProgram w0 w1 w2 w3 data err pass s from rfl, execChestProgram,
      udesc_performed hg hb hz hop]
  · rw [show exec (.chestRead w0 w1 w2 w3 step fixed bits_ err) s = execChestRead w0 w1 w2 w3 step fixed bits_ err s from rfl,
      execChestRead, udesc_performed hg hb hz hop]
  · rw [show exec (.chestInfo w0 w1 w2 w3 err) s = execChestInfo w0 w1 w2 w3 err s from rfl, execChestInfo,
      udesc_performed hg hb hz hop]

/-! ### Blocks of the user zone -/

section
variable {s : State} {k w0 w1 data page : Nat} {b : UBlock}

theorem ublock_setUblock : (s.setUblock k b).ublock k = b := sget_sset_self ..

theorem ublock_wk (f : Fk) (v : Nat) : (s.wk f v).ublock k = s.ublock k := rfl

/-- A block that an ERASE has blanked. -/
def UBlock.erased (b : UBlock) (pslc : Bool) : UBlock :=
  { b with wear := b.wear + (if pslc then 1 else 10), pages := [], st := 0, pslc := pslc, next := 0, lost := false }

theorem chestErase_bad (h : (s.ublock (s.ublockKey w1)).st = 2) : s.chestErase w1 true = (s, 5) := if_pos h

theorem chestErase_good (h : (s.ublock (s.ublockKey w1)).st ≠ 2) : s.chestErase w1 true =
    ((s.setUblock (s.ublockKey w1) ((s.ublock (s.ublockKey w1)).erased (w1.testBit 4))).wearMax
      ((s.ublock (s.ublockKey w1)).wear + (if w1.testBit 4 then 1 else 10)), 1) := (if_neg h).trans (if_pos rfl)

theorem chestProgram_bad (h : (s.ublock (s.ublockKey w1)).st = 2) : s.chestProgram w1 data false true = (s, 5) := if_pos h

/-- The pages of a block after a PROGRAM of `n` of them. -/
def programmed (m : SMap Nat) (page n data : Nat) : SMap Nat :=
  (List.range n).foldl (fun m i => sins m (page + i) (bits data (131072 * i) 131072)) m

/-- A PROGRAM that fits its block is judged by the next page alone. -/
theorem chestProgram_fits (hst : (s.ublock (s.ublockKey w1)).st = 0 ∨ (s.ublock (s.ublockKey w1)).st = 1)
    (hp : (s.ublock (s.ublockKey w1)).pslc = w1.testBit 4)
    (h3 : (s.ublock (s.ublockKey w1)).pslc = true ∨ bits w1 32 10 % 3 = 0)
    (hsz : bits w1 32 10 + progPages (w1.testBit 4) ≤ (s.ublock (s.ublockKey w1)).size) :
    s.chestProgram w1 data false true = if bits w1 32 10 < (s.ublock (s.ublockKey w1)).next then (s, 2)
      else (s.setUblock (s.ublockKey w1) { s.ublock (s.ublockKey w1) with
        st := 1, next := bits w1 32 10 + progPages (w1.testBit 4),
        pages := programmed (s.ublock (s.ublockKey w1)).pages (bits w1 32 10) (progPages (w1.testBit 4)) data }, 1) := by
  have hst2 : (s.ublock (s.ublockKey w1)).st ≠ 2 := by omega
  have hst01 : ¬((s.ublock (s.ublockKey w1)).st ≠ 0 ∧ (s.ublock (s.ublockKey w1)).st ≠ 1) := by omega
  have hpage : ¬(((s.ublock (s.ublockKey w1)).pslc != w1.testBit 4) = true ∨ (progPages (w1.testBit 4) = 3 ∧ bits w1 32 10 % 3 ≠ 0)) := by
    rw [hp, bne_self_eq_false]
    rintro (h | ⟨hn, hm⟩)
    · exact absurd h (by decide)
    · rcases h3 with h3 | h3
      · rw [← hp, h3] at hn
        exact absurd hn (by decide)
      · exact hm h3
  rw [State.chestProgram]
  exact (if_neg hst2).trans ((if_neg hst01).trans ((if_neg hpage).trans (if_neg (Nat.not_lt.mpr hsz))))

theorem sget?_programmed (m : SMap Nat) (page data : Nat) {n i : Nat} (hi : i < n) :
    sget? (programmed m page n data) (page + i) = some (bits data (131072 * i) 131072) := by
  refine foldl_settles (a := i) (fun _ => True) (fun m => sget? m (page + i)) trivial (fun _ _ _ _ => trivial)
    (fun u _ => ?_) (fun u j _ _ hne => ?_) (List.mem_range.mpr hi)
  · rw [sget?_sins, if_pos rfl]
  · rw [sget?_sins, if_neg (by omega)]

/-- A READ that the first step of the ladder corrects. -/
theorem chestRead_first {v fixed bits_ : Nat} (hst : (s.ublock (s.ublockKey w1)).st ≠ 3)
    (hp : bits w1 32 10 < (s.ublock (s.ublockKey w1)).size) (hv : sget? (s.ublock (s.ublockKey w1)).pages (bits w1 32 10) = some v) :
    s.chestRead w0 w1 (some 0) fixed bits_ false =
      (((s.bump CHST_RETRIES_COUNT 0).bump CHST_CORRECTED_COUNT fixed).emit (.hostWrite w0 16384 v),
        1 + 0 * 2 ^ 8 + b2n (decide (5 ≤ 0)) * 2 ^ 12 + min bits_ 100 * 2 ^ 16) := by
  rw [State.chestRead]
  refine (if_neg hst).trans ((if_neg (Nat.not_le.mpr hp)).trans ((if_neg (by decide)).trans ?_))
  rw [State.pageData, hv]
  rfl

end

theorem chest_blocks (s : State) (w0 w1 data fixed bits_ : Nat) : let k := s.ublockKey w1
    let b := s.ublock k
    let page := bits w1 32 10
    (b.st ≠ 2 → (s.chestErase w1 true).2 = 1 ∧ ((s.chestErase w1 true).1.ublock k).st = 0 ∧
      ((s.chestErase w1 true).1.ublock k).pages = [] ∧ ((s.chestErase w1 true).1.ublock k).next = 0 ∧
      ((s.chestErase w1 true).1.ublock k).wear = b.wear + (if w1.testBit 4 then 1 else 10)) ∧
    (b.st = 2 → s.chestErase w1 true = (s, 5) ∧ s.chestProgram w1 data false true = (s, 5)) ∧
    (b.st = 0 ∨ b.st = 1 → b.pslc = w1.testBit 4 → b.pslc = true ∨ page % 3 = 0 → page + progPages (w1.testBit 4) ≤ b.size →
      (page < b.next → s.chestProgram w1 data false true = (s, 2)) ∧
      (b.next ≤ page → (s.chestProgram w1 data false true).2 = 1 ∧ ((s.chestProgram w1 data false true).1.ublock k).st = 1 ∧
        ((s.chestProgram w1 data false true).1.ublock k).next = page + progPages (w1.testBit 4) ∧
        ∀ i, i < progPages (w1.testBit 4) → sget? ((s.chestProgram w1 data false true).1.ublock k).pages (page + i) =
          some (bits data (131072 * i) 131072))) ∧
    (∀ v, b.st ≠ 3 → page < b.size → sget? b.pages page = some v →
      (s.chestRead w0 w1 (some 0) fixed bits_ false).1.out = .hostWrite w0 16384 v :: s.out ∧
      (s.chestRead w0 w1 (some 0) fixed bits_ false).2 % 256 = 1) := by
  intro k b page
  refine ⟨fun h => ?_, fun h => ⟨chestErase_bad h, chestProgram_bad h⟩, fun hst hp h3 hsz => ⟨fun hlt => ?_, fun hle => ?_⟩,
    fun v hst hp hv => ?_⟩
  · rw [chestErase_good h]
    dsimp only
    rw [State.wearMax, ublock_wk, ublock_setUblock]
    exact ⟨rfl, rfl, rfl, rfl, rfl⟩
  · rw [chestProgram_fits hst hp h3 hsz, if_pos hlt]
  · rw [chestProgram_fits hst hp h3 hsz, if_neg (Nat.not_lt.mpr hle)]
    dsimp only
    rw [ublock_setUblock]
    exact ⟨rfl, rfl, rfl, fun i hi => sget?_programmed _ _ _ hi⟩
  · rw [chestRead_first hst hp hv]
    refine ⟨rfl, ?_⟩
    rw [show b2n (decide (5 ≤ 0)) = 0 from rfl]
    omega

theorem chest_writeback (s : State) (d : UDesc) (rest : List UDesc) (hr : s.chest.ring = d :: rest)
    (hk : s.rb MOD_STATUS_KEEPER_UP = true) (hl : s.pcie.l0 = true) (hf : s.frozen = false) (h11 : bits d.w3 0 8 ≠ 11)
    (h12 : bits d.w3 0 8 ≠ 12) (h5 : d.w1.testBit 5 = false) : exec .chestWriteback s =
      .next ((((s.updChest fun c => { c with ring := rest }).emit (.hostWrite d.addr 8 d.w3))).wfs
        [(CHST_UHEAD_HEAD, (d.index + 1) % s.uringSize), (CHST_UHEAD_BUSY, b2n !rest.isEmpty)]) := by
  rw [show exec .chestWriteback s = execChestWriteback s from rfl, execChestWriteback, hr]
  refine congrArg _ ((if_neg (by rw [hk, hl, hf]; decide)).trans ?_)
  rw [h5]
  exact (if_neg (by rw [Bool.false_and]; decide)).trans (if_neg (not_or.mpr ⟨h11, h12⟩))

theorem chest_zone (s : State) (v : BitVec 64) (clash : Bool) (hw : s.pf0Writes 0 = true) (hp : s.pageReady pgCHST = true)
    (hr : s.keeper.restore = none) (hl : s.keeper.load = none) :
    (bits v.toNat 0 13 ≤ s.rf CHST_ZONE_USER_BLOCKS → bits v.toNat 0 13 ≤ 4096 → ∃ s', exec (.chestZoneWrite 0 v clash) s = .next s' ∧
      s'.rf CHST_ZONE_USER_BLOCKS = bits v.toNat 0 13 ∧ BytesKept s s' ∧ RegsKept s s' [CHST_ZONE_USER_BLOCKS]) ∧
    (s.rf CHST_ZONE_USER_BLOCKS < bits v.toNat 0 13 → bits v.toNat 0 13 ≤ 4096 → s.chest.imgs ≠ [] →
      exec (.chestZoneWrite 0 v true) s = .next (s.wf CHST_STATUS_ZONE_REFUSED 1)) := by
  have hexec : ∀ c, exec (.chestZoneWrite 0 v c) s = .next (s.zoneWrite v.toNat c) := fun c => congrArg _ (if_pos ⟨hw, hp⟩)
  have hcond : bits v.toNat 0 13 ≤ 4096 → ¬(s.frozen ∨ s.keeper.restore.isSome ∨ s.keeper.load.isSome ∨ 4096 < bits v.toNat 0 13) := by
    intro hu
    rw [pf0Writes_live hw, hr, hl]
    simpa using hu
  refine ⟨fun hle hu => ?_, fun hlt hu hi => ?_⟩
  · have he := hexec clash
    rw [State.zoneWrite] at he
    rw [if_neg (hcond hu), if_neg (fun h => absurd h.1 (Nat.not_lt.mpr hle))] at he
    refine ⟨_, he, ?_, BytesKept.of_mem ?_, fun j hj => ?_⟩
    · refine (State.rf_wk_self (s := s) _ _).trans (Nat.mod_eq_of_lt ?_)
      simp only [bits, CHST_ZONE_USER_BLOCKS]
      omega
    · rw [State.updChest_mem, State.wk_mem]
    · rw [State.updChest_rf, State.rf_wk_ne _ (hj _ (.head _)).symm]
  · rw [hexec, State.zoneWrite]
    refine congrArg _ ((if_neg (hcond hu)).trans (if_pos ⟨hlt, ?_, .inl rfl⟩))
    simpa using hi

/-- Settles O55. -/
theorem chestZones : Obligations.ChestZones :=
  ⟨chest_release, chest_release_refused, chest_erase,
    fun s steps corrected hk h5 h8 => congrArg _ (if_neg (by rw [hk]; simp; omega)),
    fun s c hc hp hd => congrArg _ (if_neg (by rw [hp, hd]; simp; omega)),
    chest_ringWords, chest_descriptors, chest_blocks, chest_writeback, chest_zone⟩

end Sys2Proof.Machine

/-! PROOF. The Keeper's firmware: updates, trials and restarts. -/

namespace Sys2Proof.Machine

section
variable {s : State}

/-! ### FW_STATUS -/

/-- A view that FW_STATUS and its event leave. -/
theorem fwState_keeps {β : Type} (view : State → β) (hst : ∀ u v, view (State.wf u CHST_FW_STATUS_STATE v) = view u)
    (hres : ∀ u v, view (State.wf u CHST_FW_STATUS_RESULT v) = view u) (hemit : ∀ u o, view (State.emit u o) = view u) (st r : Nat) :
    view (s.fwState st r) = view s := by
  rw [State.fwState]
  exact (ite_view view rfl ((State.irqPage_keeps view hemit _).trans (hst _ _))).trans (hres _ _)

theorem fwState_rf_ne (st r : Nat) {j : Fk} (h1 : j.key ≠ CHST_FW_STATUS_STATE.key) (h2 : j.key ≠ CHST_FW_STATUS_RESULT.key) :
    (s.fwState st r).rf j = s.rf j :=
  fwState_keeps (State.rf · j) (fun _ _ => State.rf_wf_ne _ _ h1) (fun _ _ => State.rf_wf_ne _ _ h2) (fun _ _ => rfl) st r

theorem fwState_chest (st r : Nat) : (s.fwState st r).chest = s.chest :=
  fwState_keeps State.chest (fun _ _ => rfl) (fun _ _ => rfl) (fun _ _ => rfl) st r

theorem fwState_state {st : Nat} (h : st < 8) (r : Nat) : (s.fwState st r).rf CHST_FW_STATUS_STATE = st := by
  rw [State.fwState]
  split
  · next hs => exact hs
  · rw [State.irqPage_rf, State.rf_wf_self]
    exact Nat.mod_eq_of_lt h

theorem fwState_result (st r : Nat) : (s.fwState st r).rf CHST_FW_STATUS_RESULT = r % 256 := by
  rw [State.fwState]
  refine State.rf_ite (State.rf_wf_self ..) ?_
  rw [State.irqPage_rf, State.rf_wf_ne _ _ (by decide), State.rf_wf_self]
  rfl

/-- The fields of a firmware slot are no part of FW_STATUS, nor of anything below them. -/
theorem fwSlot_ne {k : Nat} {j : Fk} (hj : j.off < 0x5220 ∧ j.lo < 64) : (CHST_FW_SLOT_STATE k).key ≠ j.key ∧ (CHST_FW_SLOT_TRIAL k).key ≠ j.key := by
  obtain ⟨hoff, hlo⟩ := hj
  simp only [Fk.key, CHST_FW_SLOT_STATE, CHST_FW_SLOT_TRIAL]
  omega

theorem fwState_slot (st r k : Nat) : (s.fwState st r).rf (CHST_FW_SLOT_STATE k) = s.rf (CHST_FW_SLOT_STATE k) :=
  fwState_rf_ne st r (fwSlot_ne (by decide)).1 (fwSlot_ne (by decide)).1

theorem fwState_trial (st r k : Nat) : (s.fwState st r).rf (CHST_FW_SLOT_TRIAL k) = s.rf (CHST_FW_SLOT_TRIAL k) :=
  fwState_rf_ne st r (fwSlot_ne (by decide)).2 (fwSlot_ne (by decide)).2

theorem slotState_ne_trial (j k : Nat) : (CHST_FW_SLOT_STATE j).key ≠ (CHST_FW_SLOT_TRIAL k).key := by
  simp only [Fk.key, CHST_FW_SLOT_STATE, CHST_FW_SLOT_TRIAL]
  omega

theorem slotState_ne_version (j k : Nat) : (CHST_FW_SLOT_STATE j).key ≠ (CHST_FW_SLOT_VERSION k).key := by
  simp only [Fk.key, CHST_FW_SLOT_STATE, CHST_FW_SLOT_VERSION]
  omega

/-! ### FW_CMD -/

theorem fwUpdate_begins (hf : s.frozen = false) (hr : s.keeper.restore = none) (hs : s.chest.fwStep = 0) (ht : s.onTrial = false) :
    s.fwUpdate = (s.updChest fun c => { c with fwStep := 1, fwSlot := 1 - c.fwRun }).fwState 1 0 := by
  rw [State.fwUpdate]
  exact if_neg (by simp [hf, hr, hs, ht])

theorem fwUpdate_busy (hs : s.chest.fwStep ≠ 0) : s.fwUpdate = s.wf CHST_FW_STATUS_RESULT 1 := by
  rw [State.fwUpdate]
  exact (if_pos (.inr (.inr (.inl hs)))).trans (if_neg hs)

theorem fwEnd_rf_below {j : Fk} (hj : j.off < 0x5218 ∧ j.lo < 64) (r : Nat) : (s.fwEnd r).rf j = s.rf j := by
  have hj' : j.off < 0x5220 ∧ j.lo < 64 := ⟨by omega, hj.2⟩
  have hst : j.key ≠ CHST_FW_STATUS_STATE.key ∧ j.key ≠ CHST_FW_STATUS_RESULT.key := by
    simp only [Fk.key, CHST_FW_STATUS_STATE, CHST_FW_STATUS_RESULT]
    omega
  rw [State.fwEnd, fwState_rf_ne _ _ hst.1 hst.2]
  simp only [State.wks, List.foldl_cons, List.foldl_nil]
  rw [State.rf_wk_ne _ (fwSlot_ne hj').2.symm, State.rf_wk_ne _ (fwSlot_ne hj').1.symm, State.updChest_rf]

theorem fwRestart_rf_below {j : Fk} (hj : j.off < 0x5218 ∧ j.lo < 64) : s.fwRestart.rf j = s.rf j := by
  unfold State.fwRestart
  split
  · rw [fwEnd_rf_below hj]
    exact State.rf_ite (State.updChest_rf ..) rfl
  · rfl

theorem keeperDown_fields (wd : Bool) :
    (s.keeperDown wd).rb MOD_STATUS_KEEPER_UP = false ∧ (s.keeperDown wd).rf PWR_STATUS_CHARGING = 0 := by
  have hup : (((s.wf MOD_STATUS_KEEPER_UP 0).updChest fun c => { c with wdog := c.wdog || wd }).fwRestart).rb MOD_STATUS_KEEPER_UP = false := by
    rw [State.rb, fwRestart_rf_below (by decide), State.updChest_rf, State.rf_wf_self]
    rfl
  rw [State.keeperDown]
  refine ⟨?_, ?_⟩
  · rw [State.rb, setCharging_rf_ne (by decide)]
    exact hup
  · rw [State.setCharging, if_pos (by rw [hup]; decide), State.rf_wf_self]
    rfl

/-! ### The steps of an update -/

theorem fwEnd_fields {r : Nat} (hr : r < 256) : (s.fwEnd r).chest.fwStep = 0 ∧ (s.fwEnd r).rf CHST_FW_STATUS_STATE = 6 ∧
    (s.fwEnd r).rf CHST_FW_STATUS_RESULT = r ∧ (s.fwEnd r).rf (CHST_FW_SLOT_STATE s.chest.fwSlot) = 3 := by
  rw [State.fwEnd]
  refine ⟨?_, fwState_state (by decide) r, ?_, ?_⟩
  · rw [fwState_chest, wks_keeps State.chest fun _ _ _ => rfl]
    rfl
  · rw [fwState_result, Nat.mod_eq_of_lt hr]
  · rw [fwState_slot]
    simp only [State.wks, List.foldl_cons, List.foldl_nil]
    rw [State.rf_wk_ne _ (slotState_ne_trial _ _), State.rf_wk_self]
    rfl

/-- The update is at its next step. -/
def State.toStep (s : State) (k : Nat) : State := s.updChest fun c => { c with fwStep := k }

/-- The prologue of a new firmware is taken: the slot is INVALID until the update has filled it. -/
def State.fwTaken (s : State) (pro len : Nat) : State :=
  ((s.updChest fun c => { c with fwStep := 2, fwNew := pro % 2 ^ (8 * min len (proLen pro)) * 2 ^ 32 + min len (proLen pro) }).wks
    [(CHST_FW_SLOT_STATE s.chest.fwSlot, 3), (CHST_FW_SLOT_TRIAL s.chest.fwSlot, 0)]).fwState 2 0

theorem fwStep_live (hk : s.rb MOD_STATUS_KEEPER_UP = true) (hf : s.frozen = false) :
    ¬(!s.rb MOD_STATUS_KEEPER_UP ∨ s.frozen) := by
  rw [hk, hf]
  decide

variable {pro len : Nat} {ok : Bool}

theorem exec_fwStep1 (hk : s.rb MOD_STATUS_KEEPER_UP = true) (hf : s.frozen = false) (hs : s.chest.fwStep = 1) :
    exec (.fwUpdateStepComplete pro len ok) s = .next (if s.fwCheck pro = 0 then s.fwTaken pro len
      else (s.toStep 0).fwState 6 (s.fwCheck pro)) := by
  rw [show exec (.fwUpdateStepComplete pro len ok) s = execFwUpdateStepComplete pro len ok s from rfl, execFwUpdateStepComplete]
  refine congrArg _ ((if_neg (fwStep_live hk hf)).trans ?_)
  rw [hs]
  show (match s.fwCheck pro with
    | 0 => s.fwTaken pro len
    | c => (s.toStep 0).fwState 6 c) = _
  split
  · next h => exact (if_pos h).symm
  · next h => exact (if_neg h).symm

theorem exec_fwStep2 (hk : s.rb MOD_STATUS_KEEPER_UP = true) (hf : s.frozen = false) (hs : s.chest.fwStep = 2) :
    exec (.fwUpdateStepComplete pro len ok) s = .next (if ok then (s.toStep 3).fwState 3 0 else s.fwEnd 32) := by
  rw [show exec (.fwUpdateStepComplete pro len ok) s = execFwUpdateStepComplete pro len ok s from rfl, execFwUpdateStepComplete]
  refine congrArg _ ((if_neg (fwStep_live hk hf)).trans ?_)
  rw [hs]
  rfl

theorem exec_fwStep3 (hk : s.rb MOD_STATUS_KEEPER_UP = true) (hf : s.frozen = false) (hs : s.chest.fwStep = 3) :
    exec (.fwUpdateStepComplete pro len true) s = .next (((s.toStep 4).updChest fun c =>
      { c with fwPro := sins c.fwPro s.chest.fwSlot c.fwNew }).fwState 4 0) := by
  rw [show exec (.fwUpdateStepComplete pro len true) s = execFwUpdateStepComplete pro len true s from rfl, execFwUpdateStepComplete]
  refine congrArg _ ((if_neg (fwStep_live hk hf)).trans ?_)
  rw [hs]
  rfl

theorem exec_fwStep4 (hk : s.rb MOD_STATUS_KEEPER_UP = true) (hf : s.frozen = false) (hs : s.chest.fwStep = 4) :
    exec (.fwUpdateStepComplete pro len true) s = .next (((s.draw 16).2.toStep 5).wks
      [(CHST_FW_SLOT_STATE s.chest.fwSlot, 1), (CHST_FW_SLOT_VERSION s.chest.fwSlot, (s.draw 16).1)]) := by
  rw [show exec (.fwUpdateStepComplete pro len true) s = execFwUpdateStepComplete pro len true s from rfl, execFwUpdateStepComplete]
  refine congrArg _ ((if_neg (fwStep_live hk hf)).trans ?_)
  rw [hs]
  rfl

theorem exec_fwStep5 (hk : s.rb MOD_STATUS_KEEPER_UP = true) (hf : s.frozen = false) (hs : s.chest.fwStep = 5) :
    exec (.fwUpdateStepComplete pro len true) s = .next ((((s.toStep 6).selWrite s.chest.fwSlot true).wk
      (CHST_FW_SLOT_TRIAL s.chest.fwSlot) 1).fwState 5 0) := by
  rw [show exec (.fwUpdateStepComplete pro len true) s = execFwUpdateStepComplete pro len true s from rfl, execFwUpdateStepComplete]
  refine congrArg _ ((if_neg (fwStep_live hk hf)).trans ?_)
  rw [hs]
  rfl

theorem fwTaken_fields : (s.fwTaken pro len).chest.fwStep = 2 ∧ (s.fwTaken pro len).rf CHST_FW_STATUS_STATE = 2 ∧
    (s.fwTaken pro len).rf (CHST_FW_SLOT_STATE s.chest.fwSlot) = 3 := by
  rw [State.fwTaken]
  refine ⟨?_, fwState_state (by decide) 0, ?_⟩
  · rw [fwState_chest, wks_keeps State.chest fun _ _ _ => rfl]
    rfl
  · rw [fwState_slot]
    simp only [State.wks, List.foldl_cons, List.foldl_nil]
    rw [State.rf_wk_ne _ (slotState_ne_trial _ _), State.rf_wk_self]
    rfl

theorem fwTaken_mem : (s.fwTaken pro len).mem = s.mem := by
  rw [State.fwTaken, State.fwState_mem, State.wks_mem, State.updChest_mem]

end

theorem firmware_commands (s : State) (hw : s.pf0Writes 0 = true) (hp : s.pageReady pgCHST = true) :
    (s.chest.fwStep = 0 → s.keeper.restore = none → s.onTrial = false → ∃ s', exec (.fwUpdate 0) s = .next s' ∧ s'.chest.fwStep = 1 ∧
      s'.chest.fwSlot = 1 - s.chest.fwRun ∧ s'.rf CHST_FW_STATUS_STATE = 1 ∧ s'.rf CHST_FW_STATUS_RESULT = 0 ∧ BytesKept s s' ∧
      RegsKept s s' [CHST_FW_STATUS_STATE, CHST_FW_STATUS_RESULT]) ∧
    (s.chest.fwStep ≠ 0 → exec (.fwUpdate 0) s = .next (s.wf CHST_FW_STATUS_RESULT 1)) ∧
    (s.rf CHST_FW_STATUS_STATE = 5 → s.rb MOD_STATUS_KEEPER_UP = true → exec (.fwRestart 0) s = .next (s.keeperDown false)) ∧
    (s.rf CHST_FW_STATUS_STATE ≠ 5 → exec (.fwRestart 0) s = .next s) := by
  have hupd : exec (.fwUpdate 0) s = .next s.fwUpdate := congrArg _ (if_pos ⟨hw, hp⟩)
  have hrst : exec (.fwRestart 0) s = .next s.fwRestartCmd := congrArg _ (if_pos ⟨hw, hp⟩)
  refine ⟨fun h0 hr ht => ?_, fun h => ?_, fun h5 hk => ?_, fun h => ?_⟩
  · rw [fwUpdate_begins (pf0Writes_live hw) hr h0 ht] at hupd
    refine ⟨_, hupd, ?_, ?_, fwState_state (by decide) 0, fwState_result 1 0, BytesKept.of_mem ?_, fun j hj => ?_⟩
    · rw [fwState_chest]
      rfl
    · rw [fwState_chest]
      rfl
    · rw [State.fwState_mem, State.updChest_mem]
    · rw [fwState_rf_ne 1 0 (hj _ (.head _)).symm (hj _ (.tail _ (.head _))).symm, State.updChest_rf]
  · rw [hupd, fwUpdate_busy h]
  · rw [hrst]
    exact congrArg _ (if_pos ⟨h5, hk⟩)
  · rw [hrst]
    exact congrArg _ (if_neg fun hx => h hx.1)

theorem firmware_steps (s : State) (pro len : Nat) (hk : s.rb MOD_STATUS_KEEPER_UP = true) (hf : s.frozen = false) :
    (s.chest.fwStep = 1 → ∃ s', exec (.fwUpdateStepComplete pro len true) s = .next s' ∧ BytesKept s s' ∧
      (s.fwCheck pro = 0 → s'.chest.fwStep = 2 ∧ s'.rf CHST_FW_STATUS_STATE = 2 ∧ s'.rf (CHST_FW_SLOT_STATE s.chest.fwSlot) = 3) ∧
      (s.fwCheck pro ≠ 0 → s'.chest.fwStep = 0 ∧ s'.rf CHST_FW_STATUS_STATE = 6 ∧
        s'.rf CHST_FW_STATUS_RESULT = s.fwCheck pro % 256)) ∧
    (s.chest.fwStep = 2 → ∃ s', exec (.fwUpdateStepComplete pro len true) s = .next s' ∧ s'.chest.fwStep = 3 ∧
      s'.rf CHST_FW_STATUS_STATE = 3 ∧ BytesKept s s') ∧
    (s.chest.fwStep = 2 → ∃ s', exec (.fwUpdateStepComplete pro len false) s = .next s' ∧ s'.chest.fwStep = 0 ∧
      s'.rf CHST_FW_STATUS_STATE = 6 ∧ s'.rf CHST_FW_STATUS_RESULT = 32 ∧ s'.rf (CHST_FW_SLOT_STATE s.chest.fwSlot) = 3 ∧ BytesKept s s') ∧
    (s.chest.fwStep = 3 → ∃ s', exec (.fwUpdateStepComplete pro len true) s = .next s' ∧ s'.chest.fwStep = 4 ∧
      sget? s'.chest.fwPro s.chest.fwSlot = some s.chest.fwNew ∧ s'.rf CHST_FW_STATUS_STATE = 4 ∧ BytesKept s s') ∧
    (s.chest.fwStep = 4 → ∃ s', exec (.fwUpdateStepComplete pro len true) s = .next s' ∧ s'.chest.fwStep = 5 ∧
      s'.rf (CHST_FW_SLOT_STATE s.chest.fwSlot) = 1 ∧ BytesKept s s') ∧
    (s.chest.fwStep = 5 → ∃ s', exec (.fwUpdateStepComplete pro len true) s = .next s' ∧ s'.chest.fwStep = 6 ∧
      s'.rf CHST_FW_STATUS_STATE = 5 ∧ s'.rb (CHST_FW_SLOT_TRIAL s.chest.fwSlot) = true ∧ BytesKept s s') := by
  refine ⟨fun h => ⟨_, exec_fwStep1 hk hf h, BytesKept.of_mem ?_, fun hc => ?_, fun hc => ?_⟩,
    fun h => ⟨_, exec_fwStep2 hk hf h, ?_, fwState_state (by decide) 0, BytesKept.of_mem ?_⟩,
    fun h => ⟨_, exec_fwStep2 hk hf h, ?_⟩,
    fun h => ⟨_, exec_fwStep3 hk hf h, ?_, ?_, fwState_state (by decide) 0, BytesKept.of_mem ?_⟩,
    fun h => ⟨_, exec_fwStep4 hk hf h, ?_, ?_, BytesKept.of_mem ?_⟩,
    fun h => ⟨_, exec_fwStep5 hk hf h, ?_, fwState_state (by decide) 0, ?_, BytesKept.of_mem ?_⟩⟩
  · exact ite_view State.mem fwTaken_mem (State.fwState_mem ..)
  · rw [if_pos hc]
    exact fwTaken_fields
  · rw [if_neg hc, fwState_chest]
    exact ⟨rfl, fwState_state (by decide) _, fwState_result _ _⟩
  · rw [if_pos rfl, fwState_chest]
    rfl
  · exact State.fwState_mem ..
  · obtain ⟨hstep, hst, hres, hslot⟩ := fwEnd_fields (s := s) (r := 32) (by decide)
    exact ⟨hstep, hst, hres, hslot, BytesKept.of_mem (State.fwEnd_mem ..)⟩
  · rw [fwState_chest]
    rfl
  · rw [fwState_chest]
    exact (sget?_sins ..).trans (if_pos rfl)
  · rw [State.fwState_mem, State.updChest_mem]
    rfl
  · rw [wks_keeps State.chest fun _ _ _ => rfl]
    rfl
  · simp only [State.wks, List.foldl_cons, List.foldl_nil]
    rw [State.rf_wk_ne _ (slotState_ne_version _ _), State.rf_wk_self]
    rfl
  · rw [State.wks_mem]
    rfl
  · rw [fwState_chest]
    rfl
  · rw [State.rb, fwState_trial, State.rf_wk_self]
    rfl
  · rw [State.fwState_mem, State.wk_mem, State.selWrite_mem]
    rfl

/-! ### Trials and restarts -/

section
variable {s : State} {at_ : Nat}

/-- The slot that has run for its minute is ACTIVE, and the update that wrote it over. -/
def State.trialConfirmed (s : State) : State :=
  let k := s.chest.fwRun
  let s1 := (s.selWrite k false).wks [(CHST_FW_SLOT_STATE k, 2), (CHST_FW_SLOT_TRIAL k, 0),
    (CHST_FW_SLOT_STATE (1 - k), if s.rf (CHST_FW_SLOT_STATE (1 - k)) = 2 then 1 else s.rf (CHST_FW_SLOT_STATE (1 - k)))]
  s1.toStep 0

theorem exec_fwTrialConfirm (hk : s.rb MOD_STATUS_KEEPER_UP = true) (ht : s.onTrial = true) (hf : s.frozen = false) :
    exec (.fwTrialConfirm at_) s = .next (if max s.time at_ < s.chest.trialFrom + 60000000000 then s.at at_
      else if (s.at at_).trialConfirmed.rf CHST_FW_STATUS_STATE = 5 then (s.at at_).trialConfirmed.fwState 6 0
      else (s.at at_).trialConfirmed) := by
  have hcond : (!(s.at at_).rb MOD_STATUS_KEEPER_UP ∨ !(s.at at_).onTrial ∨ (s.at at_).frozen ∨
      (s.at at_).time < (s.at at_).chest.trialFrom + 60000000000) ↔ max s.time at_ < s.chest.trialFrom + 60000000000 := by
    rw [show (s.at at_).rb MOD_STATUS_KEEPER_UP = true from hk, show (s.at at_).onTrial = true from ht,
      show (s.at at_).frozen = false from hf]
    simp only [Bool.not_true, Bool.false_eq_true, false_or]
    rfl
  rw [show exec (.fwTrialConfirm at_) s = execFwTrialConfirm at_ s from rfl, execFwTrialConfirm]
  exact congrArg _ (if_congr hcond rfl rfl)

theorem trialConfirmed_fields (hk : s.chest.fwRun < 2) :
    s.trialConfirmed.rf (CHST_FW_SLOT_STATE s.chest.fwRun) = 2 ∧ s.trialConfirmed.rf (CHST_FW_SLOT_TRIAL s.chest.fwRun) = 0 := by
  have hother : (CHST_FW_SLOT_STATE s.chest.fwRun).key ≠ (CHST_FW_SLOT_STATE (1 - s.chest.fwRun)).key := by
    simp only [Fk.key, CHST_FW_SLOT_STATE]
    omega
  rw [State.trialConfirmed]
  simp only [State.toStep, State.updChest_rf, State.wks, List.foldl_cons, List.foldl_nil]
  refine ⟨?_, ?_⟩
  · rw [State.rf_wk_ne _ hother, State.rf_wk_ne _ (slotState_ne_trial _ _), State.rf_wk_self]
    rfl
  · rw [State.rf_wk_ne _ (slotState_ne_trial _ _).symm, State.rf_wk_self]
    rfl

theorem exec_keeperStops (hp : s.powered = true) :
    exec (.keeperWatchdogExpiry at_) s =
      .next ((((s.at at_).bump KEEP_WDOG_RESTARTS_COUNT).keeperDown true).raise 0x7001 pgKEEP) ∧
    exec (.keeperLockstepError at_) s = .next (((s.at at_).keeperDown false).raise 0x7002 pgKEEP) := by
  have hcond : ¬((!(s.at at_).powered) = true) := by
    rw [show (s.at at_).powered = true from hp]
    decide
  refine ⟨?_, ?_⟩
  · rw [show exec (.keeperWatchdogExpiry at_) s = execKeeperWatchdogExpiry at_ s from rfl, execKeeperWatchdogExpiry]
    exact congrArg _ (if_neg hcond)
  · rw [show exec (.keeperLockstepError at_) s = execKeeperLockstepError at_ s from rfl, execKeeperLockstepError]
    exact congrArg _ (if_neg hcond)

end

theorem firmware_trial (s : State) (at_ : Nat) (hk : s.rb MOD_STATUS_KEEPER_UP = true) (hrun : s.chest.fwRun < 2)
    (ht : s.onTrial = true) (hf : s.frozen = false) :
    (s.chest.trialFrom + 60000000000 ≤ max s.time at_ → ∃ s', exec (.fwTrialConfirm at_) s = .next s' ∧
      s'.rf (CHST_FW_SLOT_STATE s.chest.fwRun) = 2 ∧ s'.rb (CHST_FW_SLOT_TRIAL s.chest.fwRun) = false ∧ s'.chest.fwStep = 0 ∧
      BytesKept s s') ∧
    (max s.time at_ < s.chest.trialFrom + 60000000000 → exec (.fwTrialConfirm at_) s = .next (s.at at_)) := by
  have he := exec_fwTrialConfirm (at_ := at_) hk ht hf
  refine ⟨fun h => ?_, fun h => he.trans (congrArg _ (if_pos h))⟩
  obtain ⟨hst, htr⟩ : (s.at at_).trialConfirmed.rf (CHST_FW_SLOT_STATE s.chest.fwRun) = 2 ∧
      (s.at at_).trialConfirmed.rf (CHST_FW_SLOT_TRIAL s.chest.fwRun) = 0 := trialConfirmed_fields hrun
  rw [if_neg (Nat.not_lt.mpr h)] at he
  refine ⟨_, he, ?_, ?_, ?_, BytesKept.of_mem ?_⟩
  · exact State.rf_ite ((fwState_slot ..).trans hst) hst
  · rw [State.rb, State.rf_ite ((fwState_trial ..).trans htr) htr]
    rfl
  · refine ite_view (fun u : State => u.chest.fwStep) (congrArg Chest.fwStep (fwState_chest ..)) rfl
  · refine (ite_view State.mem (State.fwState_mem ..) rfl).trans ?_
    rw [State.trialConfirmed, State.toStep, State.updChest_mem, State.wks_mem, State.selWrite_mem]
    rfl

section
variable {s : State} {k : Nat} {x : Sel}

theorem bootSlot_newest {good : Nat → Bool} {j : Nat} (hsel : s.selNewest = some (j, x)) (ht : x.trial = false)
    (hg : good x.slot = true) : s.bootSlot good = (some x.slot, s) := by
  rw [State.bootSlot, hsel]
  simp [ht, hg]

/-- The slot runs as the ACTIVE one. -/
def State.slotBooted (s : State) (k : Nat) : State :=
  ((s.wks [(CHST_FW_SLOT_STATE k, 2), (CHST_FW_SLOT_TRIAL k, 0)]).wk KEEP_FW_SLOT k).updChest fun c =>
    { c with fwRun := k, wdog := false, trialFrom := c.trialFrom }

/-- An update that a restart ends is over. -/
def State.updateOver (s : State) : State := if s.chest.fwStep = 6 ∧ !false then (s.toStep 0).fwState 6 0 else s

theorem fwBoot_active {j : Nat} (hsel : s.selNewest = some (j, x)) (ht : x.trial = false) :
    s.fwBoot k = if s.chest.fwRun = k then (s.slotBooted k).updateOver else (s.slotBooted k).updateOver.measChange := by
  have hb : (x.slot == k && x.trial) = false := by rw [ht, Bool.and_false]
  rw [State.fwBoot, hsel]
  simp only [hb, Bool.false_eq_true, if_false]
  rfl

theorem fwBoot_keeps {β : Type} (view : State → β) {j : Nat} (hsel : s.selNewest = some (j, x)) (ht : x.trial = false)
    (hst : ∀ u v, view (State.wf u CHST_FW_STATUS_STATE v) = view u) (hres : ∀ u v, view (State.wf u CHST_FW_STATUS_RESULT v) = view u)
    (hmeas : ∀ u v, view (State.wf u SEC_MEAS_SEQ_COUNT v) = view u) (hemit : ∀ u o, view (State.emit u o) = view u)
    (hstep : ∀ u n, view (State.toStep u n) = view u) : view (s.fwBoot k) = view (s.slotBooted k) := by
  have hover : view (s.slotBooted k).updateOver = view (s.slotBooted k) := by
    rw [State.updateOver]
    exact ite_view view ((fwState_keeps view hst hres hemit _ _).trans (hstep _ _)) rfl
  rw [fwBoot_active hsel ht]
  exact ite_view view hover ((measChange_keeps view hmeas hemit).trans hover)

theorem fwBoot_rf {j : Nat} (hsel : s.selNewest = some (j, x)) (ht : x.trial = false) {f : Fk}
    (h1 : f.key ≠ CHST_FW_STATUS_STATE.key) (h2 : f.key ≠ CHST_FW_STATUS_RESULT.key) (h3 : f.key ≠ SEC_MEAS_SEQ_COUNT.key) :
    (s.fwBoot k).rf f = (s.slotBooted k).rf f :=
  fwBoot_keeps (State.rf · f) hsel ht (fun _ _ => State.rf_wf_ne _ _ h1) (fun _ _ => State.rf_wf_ne _ _ h2)
    (fun _ _ => State.rf_wf_ne _ _ h3) (fun _ _ => rfl) fun _ _ => State.updChest_rf ..

theorem slotBooted_fields (hk : k < 2) :
    (s.slotBooted k).rf (CHST_FW_SLOT_STATE k) = 2 ∧ (s.slotBooted k).rf KEEP_FW_SLOT = k := by
  rw [State.slotBooted, State.updChest_rf, State.updChest_rf]
  refine ⟨?_, (State.rf_wk_self ..).trans (Nat.mod_eq_of_lt hk)⟩
  simp only [State.wks, List.foldl_cons, List.foldl_nil]
  rw [State.rf_wk_ne _ (fwSlot_ne (by decide)).1, State.rf_wk_ne _ (slotState_ne_trial _ _), State.rf_wk_self]
  rfl

theorem slotBooted_mem : (s.slotBooted k).mem = s.mem := by
  rw [State.slotBooted, State.updChest_mem, State.wk_mem, State.wks_mem]

theorem readJournal_both : s.readJournal true true = s.wks [(CHST_STATUS_JOURNAL_A_OK, 1), (CHST_STATUS_JOURNAL_B_OK, 1)] := rfl

theorem unwrapKey_ok_keeps {β : Type} (view : State → β) (hwk : ∀ u v, view (State.wk u CHST_STATUS_KEY_OK v) = view u)
    (hmeas : ∀ u v, view (State.wf u SEC_MEAS_SEQ_COUNT v) = view u) (hemit : ∀ u o, view (State.emit u o) = view u)
    (hforeign : ∀ u, view (State.updKeeper u fun x => { x with foreign := false }) = view u) : view (s.unwrapKey true) = view s := by
  have h1 : view ((s.updKeeper fun x => { x with foreign := false }).wk CHST_STATUS_KEY_OK 1) = view s := (hwk _ _).trans (hforeign s)
  exact (ite_view view h1 ((measChange_keeps view hmeas hemit).trans h1))

/-- A view of nothing in the user zone's blocks is left by a restart of the ring. -/
theorem restartRing_keeps {β : Type} (view : State → β) (hblock : ∀ u j b, view (State.setUblock u j b) = view u)
    (hdraw : ∀ (u : State) w, view (u.draw w).2 = view u) (hring : ∀ (u : State) (f : Chest → List UDesc),
      view (State.updChest u fun c => { c with ring := f c }) = view u) : view s.restartRing = view s := by
  have hfree : ∀ (u : State) j page n, view (u.freePages j page n) = view u := fun u j page n =>
    foldl_keeps view (fun v i => (hblock _ _ _).trans (hdraw v _)) _ u
  have hstop : ∀ (u : State) d, view (u.stopDesc d) = view u := by
    intro u d
    unfold State.stopDesc
    refine ite_view view rfl ?_
    split
    · exact hblock _ _ _
    · exact hfree _ _ _ _
    · rfl
  exact (hring _ _).trans (foldl_keeps view hstop _ s)

/-- What the Keeper does once it is up: the journal is read, the key unwrapped, the ring restarted. -/
def State.keeperBack (s : State) : State := ((s.readJournal true true).unwrapKey true).restartRing.setCharging

/-- The fields that it writes. -/
def upFields : List Fk :=
  [PWR_STATUS_CHARGING, CHST_STATUS_KEY_OK, CHST_STATUS_JOURNAL_A_OK, CHST_STATUS_JOURNAL_B_OK, SEC_MEAS_SEQ_COUNT]

theorem keeperBack_keeps {β : Type} (view : State → β) (hwf : ∀ u : State, ∀ f ∈ upFields, ∀ v, view (u.wf f v) = view u)
    (hkeeper : ∀ u f, view (State.updKeeper u f) = view u)
    (hemit : ∀ u o, view (State.emit u o) = view u) (hblock : ∀ u j b, view (State.setUblock u j b) = view u)
    (hdraw : ∀ (u : State) w, view (u.draw w).2 = view u) (hring : ∀ (u : State) (f : Chest → List UDesc),
      view (State.updChest u fun c => { c with ring := f c }) = view u) : view s.keeperBack = view s := by
  have hwk : ∀ u : State, ∀ f ∈ upFields, ∀ v, view (u.wk f v) = view u := fun u f hf v => (hkeeper _ _).trans (hwf u f hf v)
  rw [State.keeperBack, setCharging_keeps view fun _ => hwf _ _ (by decide) _, restartRing_keeps view hblock hdraw hring,
    unwrapKey_ok_keeps view (fun _ _ => hwk _ _ (by decide) _) (fun _ _ => hwf _ _ (by decide) _) hemit fun _ => hkeeper _ _,
    readJournal_both]
  simp only [State.wks, List.foldl_cons, List.foldl_nil]
  rw [hwk _ _ (by decide), hwk _ _ (by decide)]

theorem keeperBack_rf {f : Fk} (h : ∀ g ∈ upFields, f.key ≠ g.key) : s.keeperBack.rf f = s.rf f :=
  keeperBack_keeps (State.rf · f) (fun _ g hg _ => State.rf_wf_ne _ _ (h g hg)) (fun _ _ => State.updKeeper_rf ..) (fun _ _ => rfl)
    (fun _ _ _ => State.updChest_rf ..) (fun _ _ => rfl) fun _ _ => State.updChest_rf ..

theorem exec_keeperUp {at_ j : Nat} (hp : s.powered = true) (hk : s.rb MOD_STATUS_KEEPER_UP = false) (hf : s.frozen = false)
    (hsel : s.selNewest = some (j, x)) (ht : x.trial = false) (h3 : s.rf (CHST_FW_SLOT_STATE x.slot) ≠ 3)
    (h0 : s.rf (CHST_FW_SLOT_STATE x.slot) ≠ 0) (hd : s.chest.dead = []) :
    exec (.keeperUp true true true true true at_) s = .next (((s.at at_).fwBoot x.slot).wf MOD_STATUS_KEEPER_UP 1).keeperBack := by
  have hcond : ¬(!(s.at at_).powered ∨ (s.at at_).rb MOD_STATUS_KEEPER_UP ∨ (s.at at_).frozen) := by
    rw [show (s.at at_).powered = true from hp, show (s.at at_).rb MOD_STATUS_KEEPER_UP = false from hk,
      show (s.at at_).frozen = false from hf]
    decide
  have hsel' : (s.at at_).selNewest = some (j, x) := hsel
  have hdead : (((s.at at_).fwBoot x.slot).wf MOD_STATUS_KEEPER_UP 1).chest.dead = [] := by
    rw [State.wf_chest]
    refine (fwBoot_keeps (fun u => u.chest.dead) hsel' ht (fun _ _ => rfl) (fun _ _ => rfl) (fun _ _ => rfl) (fun _ _ => rfl)
      fun _ _ => rfl).trans ?_
    exact hd
  rw [show exec (.keeperUp true true true true true at_) s = execKeeperUp true true true true true at_ s from rfl, execKeeperUp]
  refine congrArg _ ((if_neg hcond).trans ?_)
  rw [bootSlot_newest hsel' ht]
  · dsimp only
    rw [hdead]
    rfl
  · rw [show (s.at at_).rf (CHST_FW_SLOT_STATE x.slot) = s.rf (CHST_FW_SLOT_STATE x.slot) from rfl]
    simp [h3, h0]

end

theorem firmware_up (s : State) (at_ j : Nat) (x : Sel) (hp : s.powered = true) (hk : s.rb MOD_STATUS_KEEPER_UP = false)
    (hf : s.frozen = false) (hsel : s.selNewest = some (j, x)) (ht : x.trial = false) (hx : x.slot < 2)
    (h3 : s.rf (CHST_FW_SLOT_STATE x.slot) ≠ 3) (h0 : s.rf (CHST_FW_SLOT_STATE x.slot) ≠ 0) (hd : s.chest.dead = []) :
    ∃ s', exec (.keeperUp true true true true true at_) s = .next s' ∧
      s'.rb MOD_STATUS_KEEPER_UP = true ∧ s'.rf KEEP_FW_SLOT = x.slot ∧ s'.chest.fwRun = x.slot ∧
      s'.rf (CHST_FW_SLOT_STATE x.slot) = 2 ∧ BytesKept s s' := by
  have hsel' : (s.at at_).selNewest = some (j, x) := hsel
  obtain ⟨hst, hfw⟩ := slotBooted_fields (s := s.at at_) hx
  have hslot : ∀ f : Fk, f.off < 0x5220 ∧ f.lo < 64 → (CHST_FW_SLOT_STATE x.slot).key ≠ f.key := fun f hf => (fwSlot_ne hf).1
  have hup : ∀ g ∈ upFields, (CHST_FW_SLOT_STATE x.slot).key ≠ g.key := by
    simp only [upFields, Fk.key, CHST_FW_SLOT_STATE, PWR_STATUS_CHARGING, CHST_STATUS_KEY_OK, CHST_STATUS_JOURNAL_A_OK,
      CHST_STATUS_JOURNAL_B_OK, SEC_MEAS_SEQ_COUNT, List.forall_mem_cons]
    simp
    omega
  have hmeas : (CHST_FW_SLOT_STATE x.slot).key ≠ SEC_MEAS_SEQ_COUNT.key := hup _ (by decide)
  refine ⟨_, exec_keeperUp hp hk hf hsel ht h3 h0 hd, ?_, ?_, ?_, ?_, BytesKept.of_mem ?_⟩
  · rw [State.rb, keeperBack_rf (by decide), State.rf_wf_self]
    rfl
  · rw [keeperBack_rf (by decide), State.rf_wf_ne _ _ (by decide), fwBoot_rf hsel' ht (by decide) (by decide) (by decide)]
    exact hfw
  · rw [keeperBack_keeps (fun u => u.chest.fwRun) (fun _ _ _ _ => rfl) (fun _ _ => rfl) (fun _ _ => rfl) (fun _ _ _ => rfl)
      (fun _ _ => rfl) fun _ _ => rfl, State.wf_chest]
    exact fwBoot_keeps (fun u => u.chest.fwRun) hsel' ht (fun _ _ => rfl) (fun _ _ => rfl) (fun _ _ => rfl) (fun _ _ => rfl) fun _ _ => rfl
  · rw [keeperBack_rf hup, State.rf_wf_ne _ _ (hslot _ (by decide)), fwBoot_rf hsel' ht (hslot _ (by decide)) (hslot _ (by decide)) hmeas]
    exact hst
  · rw [keeperBack_keeps State.mem (fun _ _ _ _ => rfl) (fun _ _ => rfl) (fun _ _ => rfl) (fun _ _ _ => rfl) (fun _ _ => rfl)
      fun _ _ => rfl, State.wf_mem, State.fwBoot_mem]
    rfl

/-- Settles O56. -/
theorem keeperFirmware : Obligations.KeeperFirmware :=
  ⟨firmware_commands, fun _ wd => keeperDown_fields wd, fun s pro len hk hf _ => firmware_steps s pro len hk hf, firmware_trial,
    fun _ _ hp => exec_keeperStops hp, firmware_up⟩

end Sys2Proof.Machine

/-! PROOF. Fault records, reactions, overrides and recovery: O57. -/

namespace Sys2Proof.Machine

section
variable {s : State} {pg : Nat}

/-! ### Fields written in a list -/

/-- A list of different fields written: each reads as its value, clipped to its width. -/
theorem State.rf_wfs_of_nodup {l : List (Fk × Nat)} (hd : (l.map fun q => q.1.key).Nodup) {k : Fk} {v : Nat} (h : (k, v) ∈ l) :
    (s.wfs l).rf k = v % 2 ^ k.w := by
  refine State.rf_wfs_mem ⟨_, h, rfl⟩ fun q hq hk => ?_
  rw [List.inj_on_of_nodup_map hd hq h hk]

/-! ### Fault records -/

/-- The header's record of a fault and its other fields, as a first fault writes them. -/
def State.latchHeader (s : State) (code pg tb r : Nat) : State :=
  let valid := s.rf (TBS_TB_STATUS_STATE tb) == 1 || s.rf (TBS_TB_STATUS_STATE tb) == 2
  s.wfs [(hFIRST_CODE pg, code), (hFIRST_REACT pg, r), (hFIRST_TIME pg, s.mtime / 256), (hMORE_COUNT pg, 0), (hMORE_OVERFLOW pg, 0),
    (hMORE_TB pg, tb), (hMORE_POS_VALID pg, b2n valid), (hMORE_POS pg, if valid then ofSigned (s.tbPos tb) 48 / 256 else 0),
    (hSTATUS_FAULT_VALID pg, 1)]

/-- A first record changes, beside its header, fields at offset 0x100 and above of the pages FLT and PFLT. -/
theorem latchFault_rf {code src tb r : Nat} (hv : s.rb (hSTATUS_FAULT_VALID pg) = false) {j : Fk} (hlow : j.off % 0x1000 < 0x100)
    (hlo : j.lo < 64) : (s.latchFault code pg src tb r).rf j = (s.latchHeader code pg tb r).rf j := by
  have hne : ∀ k : Fk, 0x100 ≤ k.off % 0x1000 → k.lo < 64 → j.key ≠ k.key := fun k hk hklo => by
    simp only [Fk.key]
    omega
  rw [State.latchFault, if_neg (by rw [hv]; decide)]
  dsimp only
  split
  · rw [State.setAlert, show ∀ (u : State) kp, ({ u with keeper := kp } : State).rf j = u.rf j from fun _ _ => rfl,
      State.irqPage_keeps (State.rf · j) (fun _ _ => rfl),
      State.rf_wfs_ne _ _ j (by
        simp only [List.forall_mem_cons, List.not_mem_nil, false_imp_iff, implies_true, and_true]
        exact ⟨hne _ (by decide) (by decide), hne _ (by decide) (by decide), hne _ (by decide) (by decide)⟩)]
    rfl
  · rename_i n _ _
    rw [State.rf_wfs_two_ne (hne _ (by simp only [PFLT_FIRST_PAGE_VALUE, partPage]; omega) (by simp only [PFLT_FIRST_PAGE_VALUE]; omega))
      (hne _ (by simp only [PFLT_FIRST_TIME_NS, partPage]; omega) (by simp only [PFLT_FIRST_TIME_NS]; omega))]
    rfl
  · rfl

/-- The fields of a page's header that hold its record. -/
def faultFields (pg : Nat) : List Fk :=
  [hFIRST_CODE pg, hFIRST_REACT pg, hFIRST_TIME pg, hMORE_COUNT pg, hMORE_OVERFLOW pg, hMORE_TB pg, hMORE_POS_VALID pg, hMORE_POS pg,
    hSTATUS_FAULT_VALID pg]

theorem faultFields_nodup (pg : Nat) : ((faultFields pg).map Fk.key).Nodup := by
  simp only [faultFields, List.map_cons, List.map_nil, List.nodup_cons, List.mem_cons, List.not_mem_nil, Fk.key, hFIRST_CODE, hFIRST_REACT,
    hFIRST_TIME, hMORE_COUNT, hMORE_OVERFLOW, hMORE_TB, hMORE_POS_VALID, hMORE_POS, hSTATUS_FAULT_VALID, or_false, List.nodup_nil,
    and_true, not_false_eq_true]
  omega

/-- They stand in the words 0x18, 0x20 and 0x28. -/
theorem faultFields_place {k : Fk} (hk : k ∈ faultFields pg) :
    (k.off = pg + 0x18 ∨ k.off = pg + 0x20 ∨ k.off = pg + 0x28) ∧ k.lo < 64 := by
  simp only [faultFields, List.mem_cons, List.not_mem_nil, or_false] at hk
  rcases hk with rfl | rfl | rfl | rfl | rfl | rfl | rfl | rfl | rfl <;> simp [hFIRST_CODE, hFIRST_REACT,
    hFIRST_TIME, hMORE_COUNT, hMORE_OVERFLOW, hMORE_TB, hMORE_POS_VALID, hMORE_POS, hSTATUS_FAULT_VALID]

theorem latchHeader_rf {code tb r v : Nat} {k : Fk}
    (h : (k, v) ∈ [(hFIRST_CODE pg, code), (hFIRST_REACT pg, r), (hFIRST_TIME pg, s.mtime / 256), (hMORE_COUNT pg, 0),
      (hSTATUS_FAULT_VALID pg, 1)]) : (s.latchHeader code pg tb r).rf k = v % 2 ^ k.w := by
  rw [State.latchHeader]
  refine State.rf_wfs_of_nodup ?_ ?_
  · exact faultFields_nodup pg
  simp only [List.mem_cons, List.not_mem_nil, or_false] at h ⊢
  tauto

theorem latchFault_first (hpg : pg % 0x1000 = 0) (code src tb r : Nat) (hv : s.rb (hSTATUS_FAULT_VALID pg) = false) :
    let t := s.latchFault code pg src tb r
    t.rf (hFIRST_CODE pg) = code % 2 ^ 16 ∧ t.rf (hFIRST_REACT pg) = r % 16 ∧ t.rf (hFIRST_TIME pg) = s.mtime / 256 % 2 ^ 44 ∧
      t.rf (hMORE_COUNT pg) = 0 ∧ t.rb (hSTATUS_FAULT_VALID pg) = true ∧ BytesKept s t := by
  have hrf : ∀ {k : Fk} {v : Nat}, (k, v) ∈ [(hFIRST_CODE pg, code), (hFIRST_REACT pg, r), (hFIRST_TIME pg, s.mtime / 256),
      (hMORE_COUNT pg, 0), (hSTATUS_FAULT_VALID pg, 1)] → k ∈ faultFields pg →
      (s.latchFault code pg src tb r).rf k = v % 2 ^ k.w := fun hk hf => by
    obtain ⟨hoff, hlo⟩ := faultFields_place hf
    exact (latchFault_rf hv (by omega) hlo).trans (latchHeader_rf hk)
  have hcode := hrf (k := hFIRST_CODE pg) (v := code) (by simp) (by simp [faultFields])
  have hreact := hrf (k := hFIRST_REACT pg) (v := r) (by simp) (by simp [faultFields])
  have htime := hrf (k := hFIRST_TIME pg) (v := s.mtime / 256) (by simp) (by simp [faultFields])
  have hcount := hrf (k := hMORE_COUNT pg) (v := 0) (by simp) (by simp [faultFields])
  have hvalid := hrf (k := hSTATUS_FAULT_VALID pg) (v := 1) (by simp) (by simp [faultFields])
  refine ⟨hcode, hreact, htime, hcount, ?_, .of_mem (State.latchFault_mem ..)⟩
  rw [State.rb, hvalid]
  rfl

/-- The record and MORE of a page's header cleared. -/
def State.clearHeader (s : State) (pg : Nat) : State :=
  s.wfs [(hFIRST_CODE pg, 0), (hFIRST_REACT pg, 0), (hFIRST_TIME pg, 0), (hMORE_COUNT pg, 0), (hMORE_POS pg, 0), (hMORE_TB pg, 0),
    (hMORE_POS_VALID pg, 0), (hMORE_OVERFLOW pg, 0), (hSTATUS_FAULT_VALID pg, 0)]

theorem clearHeader_rf {k : Fk} (hk : k ∈ faultFields pg) : (s.clearHeader pg).rf k = 0 := by
  refine State.rf_wfs_mem ⟨(k, 0), ?_, rfl⟩ fun q hq _ => ?_
  · simp only [faultFields, List.mem_cons, List.not_mem_nil, or_false, Prod.mk.injEq, and_true] at hk ⊢
    tauto
  · simp only [List.mem_cons, List.not_mem_nil, or_false] at hq
    rcases hq with rfl | rfl | rfl | rfl | rfl | rfl | rfl | rfl | rfl <;> exact Nat.zero_mod _

/-- A CLEAR changes, beside the header, fields at offset 0x100 and above. -/
theorem clearRecord_rf {k : Fk} (hk : k ∈ faultFields pg) (hpg : pg % 0x1000 = 0) : (s.clearRecord pg).rf k = 0 := by
  obtain ⟨hoff, hlo⟩ := faultFields_place hk
  have hne : ∀ j : Fk, 0x100 ≤ j.off % 0x1000 → j.lo < 64 → k.key ≠ j.key := fun j hj hjlo => by
    simp only [Fk.key]
    omega
  have hpflt : ∀ n r, (partPage n 9 + r) % 0x1000 = r % 0x1000 := fun n r => by
    simp only [partPage]
    omega
  refine Eq.trans ?_ (clearHeader_rf (s := s) hk)
  rw [State.clearRecord]
  split
  · refine State.rf_wfs_ne _ _ k ?_
    simp only [List.forall_mem_cons, List.not_mem_nil, false_imp_iff, implies_true, and_true]
    exact ⟨hne _ (by decide) (by decide), hne _ (by decide) (by decide), hne _ (by decide) (by decide)⟩
  · exact State.rf_wfs_two_ne (hne _ (by rw [PFLT_FIRST_PAGE_VALUE, hpflt]; decide) (show 0 < 64 by decide))
      (hne _ (by rw [PFLT_FIRST_TIME_NS, hpflt]; decide) (show 0 < 64 by decide))
  · refine State.rf_wfs_ne _ _ k ?_
    simp only [List.forall_mem_cons, List.not_mem_nil, false_imp_iff, implies_true, and_true]
    exact ⟨hne _ (by decide) (by decide), hne _ (by decide) (by decide), hne _ (by decide) (by decide), hne _ (by decide) (by decide)⟩
  · rfl

/-! ### Writes to a partition's fault page -/

theorem pageBase_aligned {r : Nat} (hpg : pg % 0x1000 = 0) (hr : r < 0x1000) : pageBase (pg + r) = pg := by
  rw [pageBase]
  omega

theorem partPage_aligned (n i : Nat) : partPage n i % 0x1000 = 0 := by
  rw [partPage]
  omega

theorem plainPage_aligned (p i : Nat) : plainPage p i % 0x1000 = 0 := by
  rw [plainPage]
  omega

theorem partKind_fault {i : Nat} (hi : i < 10) (h7 : i ≠ 7) :
    ∃ kd, partKind i = some kd ∧ hasFault kd = true ∧ isPartPage kd = true := by
  have hall : ∀ i, i < 10 → i ≠ 7 → ((partKind i).any fun kd => hasFault kd && isPartPage kd) = true := by decide
  obtain ⟨kd, hkd, h⟩ := (Option.any_eq_true _ _).mp (hall i hi h7)
  obtain ⟨hfault, hpart⟩ := Bool.and_eq_true_iff.mp h
  exact ⟨kd, hkd, hfault, hpart⟩

theorem exec_faultClear {f n i : Nat} (hn : n < 16) (hi : i < 10) (hw : s.writes f n = true) (hr : s.pageReady (partPage n i) = true)
    (h7 : i ≠ 7) : exec (.faultClear f (partPage n i)) s = .next (s.clearRecord (partPage n i)) := by
  obtain ⟨kd, hkd, hfault, hpart⟩ := partKind_fault hi h7
  have hpage : ∀ {r}, r < 0x1000 → pageAt (partPage n i + r) = some (kd, n, r) := fun hr => by
    rw [pageAt_partPage hn (by omega) hr, hkd]
    rfl
  have hbase : ∀ {r}, r < 0x1000 → pageBase (partPage n i + r) = partPage n i := pageBase_aligned (partPage_aligned n i)
  have hmay : s.mayWrite f (partPage n i) = true := by
    have h0 : pageAt (partPage n i) = some (kd, n, 0) := hpage (r := 0) (by decide)
    rw [State.mayWrite, h0]
    split
    · rename_i h
      obtain ⟨rfl, -⟩ := Prod.mk.inj (Option.some.inj h)
      exact absurd hpart (by decide)
    · rename_i h
      cases h
      exact (if_pos hpart).trans hw
    · rename_i h
      cases h
  have hready : s.pageReady (partPage n i + 0x28) = true :=
    (pageReady_partPage hn hi (by decide)).trans (pageReady_partPage_base hn hi hr)
  rw [show exec (.faultClear f (partPage n i)) s = execFaultClear f (partPage n i) s from rfl, execFaultClear, State.faultHost,
    show pageBase (partPage n i) = partPage n i from hbase (r := 0) (by decide), hbase (by decide), hmay, hready]
  refine congrArg Host.Outcome.next ((if_pos rfl).trans ?_)
  rw [State.writeFaultReg, hpage (by decide), hbase (by decide)]
  refine (if_neg (by rw [hfault]; decide)).trans ((if_pos rfl).trans (if_pos (by decide)))

/-! ### Reactions -/

theorem pageAt_plainPage {p r : Nat} (hp : p < 64) (hr : r < 0x1000) : pageAt (plainPage p 0 + r) = some (.pln, p, r) := by
  have hoff : plainPage p 0 + r = 0x200000 + p * 0x4000 + r := by rw [plainPage, Nat.zero_mul, Nat.add_zero]
  have hrel : (0x200000 + p * 0x4000 + r) % 0x1000 = r := by omega
  have hplain : (0x200000 + p * 0x4000 + r - 0x200000) / 0x4000 = p := by omega
  have hpage : (0x200000 + p * 0x4000 + r - 0x200000) / 0x1000 % 4 = 0 := by omega
  rw [hoff, pageAt]
  simp only [hrel, hplain, hpage]
  rw [if_neg (by omega), if_neg (by omega), if_neg (by omega), if_neg (by omega), if_neg (by omega), if_neg (by omega),
    if_neg (by omega), if_pos (by omega)]

/-- A whole word written over another is that word. -/
theorem word_full (old : Nat) (v : BitVec 64) :
    ((old &&& ((2 ^ 64 - 1) ^^^ (2 ^ 64 - 1))) ||| (v.toNat &&& (2 ^ 64 - 1))) = v.toNat := by
  rw [Nat.xor_self, Nat.and_zero, Nat.zero_or, Nat.and_two_pow_sub_one_eq_mod, Nat.mod_eq_of_lt v.isLt]

theorem bits_reactWord {v c : Nat} (hc : c < 12) : bits (v % 2 ^ 48) (4 * c) 4 = bits v (4 * c) 4 := by
  rw [bits, bits, show 48 = 4 * c + (48 - 4 * c) by omega, Nat.pow_add, Nat.mod_mul_right_div_self,
    Nat.mod_mod_of_dvd _ (Nat.pow_dvd_pow 2 (by omega))]

/-- The reactions of a page taken from a FAULT_REACT word. -/
def reactWrites (pg v : Nat) : List (Fk × Nat) := (List.range 12).map fun c => (hREACT pg c, bits v (4 * c) 4)

theorem exec_faultReactWrite {p : Nat} (v : BitVec 64) (hp : p < 64) (hw : s.pf0Writes 0 = true)
    (hr : s.pageReady (plainPage p 0) = true) : exec (.faultReactWrite 0 (plainPage p 0) v) s = .next
      (if reactOk (v.toNat % 2 ^ 48) then s.wfs (reactWrites (plainPage p 0) (v.toNat % 2 ^ 48)) else s.wf FLT_STATUS_REACT_REFUSED 1) := by
  have hpage0 : pageAt (plainPage p 0) = some (.pln, p, 0) := pageAt_plainPage (r := 0) hp (by decide)
  have hpage : pageAt (plainPage p 0 + 0x38) = some (.pln, p, 0x38) := pageAt_plainPage hp (by decide)
  have hbase0 : pageBase (plainPage p 0) = plainPage p 0 := pageBase_aligned (r := 0) (plainPage_aligned p 0) (by decide)
  have hbase : pageBase (plainPage p 0 + 0x38) = plainPage p 0 := pageBase_aligned (plainPage_aligned p 0) (by decide)
  have hmay : s.mayWrite 0 (plainPage p 0) = true := by
    rw [State.mayWrite, hpage0]
    exact hw
  have hready : s.pageReady (plainPage p 0 + 0x38) = true := by
    rw [State.pageReady, hpage0, hbase0] at hr
    rw [State.pageReady, hpage, hbase]
    exact hr
  rw [show exec (.faultReactWrite 0 (plainPage p 0) v) s = execFaultReactWrite 0 (plainPage p 0) v s from rfl, execFaultReactWrite,
    State.faultHost, hbase0, hbase, hmay, hready]
  refine congrArg Host.Outcome.next ((if_pos rfl).trans ?_)
  rw [State.writeFaultReg, hpage, hbase]
  refine (if_neg (by decide)).trans ((if_neg (by decide)).trans ((if_neg (by decide)).trans ((if_pos rfl).trans
    ((if_neg (by decide)).trans ?_))))
  rw [State.writeReact]
  simp only [word_full]
  rw [State.forEach, State.wfs, reactWrites, List.foldl_map]

theorem reactWrites_rf {v c : Nat} (hc : c < 12) : (s.wfs (reactWrites pg (v % 2 ^ 48))).rf (hREACT pg c) = bits v (4 * c) 4 := by
  have hnodup : ((reactWrites pg (v % 2 ^ 48)).map fun q => q.1.key).Nodup := by
    rw [reactWrites, List.map_map]
    refine List.Nodup.map_on (fun x _ y _ h => ?_) List.nodup_range
    simp only [Function.comp, Fk.key, hREACT] at h
    omega
  refine (State.rf_wfs_of_nodup hnodup (List.mem_map.mpr ⟨c, List.mem_range.mpr hc, rfl⟩)).trans ?_
  rw [bits_reactWord hc]
  exact Nat.mod_mod _ _

theorem reactWrites_kept (v : Nat) : RegsKept s (s.wfs (reactWrites pg v)) ((List.range 12).map (hREACT pg)) := fun k hk =>
  State.rf_wfs_ne _ _ k fun q hq => by
    obtain ⟨c, hc, rfl⟩ := List.mem_map.mp hq
    exact fun h => hk _ (List.mem_map.mpr ⟨c, hc, rfl⟩) h.symm

/-! ### Overrides -/

theorem exec_faultOverrideWrite (v : BitVec 64) (hw : s.pf0Writes 0 = true) (hr : s.pageReady pgFLT = true)
    (hc : faultCodes.contains (s.rf FLT_SRC_SEL_CODE) = true) (hen : v.toNat.testBit 4 = true) :
    exec (.faultOverrideWrite 0 v) s = .next (
      if bits v.toNat 0 4 < (reactRange (faultClass (s.rf FLT_SRC_SEL_CODE))).1 ∨
          (reactRange (faultClass (s.rf FLT_SRC_SEL_CODE))).2 < bits v.toNat 0 4 then s.wf FLT_STATUS_OVR_REFUSED 1
      else s.wfs [(ovrREACT (s.rf FLT_SRC_SEL_CODE), bits v.toNat 0 4), (ovrEN (s.rf FLT_SRC_SEL_CODE), 1)]) := by
  have hbit : bits v.toNat 4 1 = 1 := by
    rw [bits, pow_one]
    simpa [Nat.testBit, Nat.shiftRight_eq_div_pow] using hen
  have hmixR : ∀ old, (old &&& (bits (2 ^ 64 - 1) 0 4 ^^^ (2 ^ 4 - 1))) ||| (bits v.toNat 0 4 &&& bits (2 ^ 64 - 1) 0 4) =
      bits v.toNat 0 4 := fun old => merge_full old v.toNat (by decide)
  have hmixE : ∀ old, (old &&& (bits (2 ^ 64 - 1) 4 1 ^^^ (2 ^ 1 - 1))) ||| (bits v.toNat 4 1 &&& bits (2 ^ 64 - 1) 4 1) = 1 := by
    intro old
    rw [hbit, show bits (2 ^ 64 - 1) 4 1 = 1 by decide]
    simp
  rw [show exec (.faultOverrideWrite 0 v) s = execFaultOverrideWrite 0 v s from rfl, execFaultOverrideWrite]
  refine congrArg Host.Outcome.next ((if_pos ⟨hw, hr⟩).trans ?_)
  rw [State.overrideWrite]
  simp only [ovrREACT, ovrEN, hmixR, hmixE, hc, Bool.not_true, Bool.false_eq_true, if_false, true_and]

/-! ### Recovery -/

section
variable {n : Nat}

/-- Running a partition keeps every field below the tile pages but its state and cause. -/
theorem runPart_rf_ne {j : Fk} (hj : j.key < tilePage 0 * 64) (hst : j.key ≠ (PART_STATE_STATE n).key)
    (hdone : j.key ≠ (PART_STATE_DRAIN_DONE n).key) (hcause : j.key ≠ (PFLT_STATUS_CAUSE n).key) : (s.runPart n).rf j = s.rf j := by
  rw [State.runPart, promotePart_rf hj]
  split
  · rw [State.enterFault, State.irqPart_rf, State.rf_wf_ne _ _ hcause, setPst_rf_ne _ hst hdone]
    rfl
  · rw [setPst_rf_ne _ hst hdone]
    rfl

theorem runPart_pst (hn : n < 16) : (s.runPart n).pst n = 2 ∨ (s.runPart n).pst n = 7 := by
  cases h : s.partImpaired n
  · exact .inl (runPart_running hn h)
  · exact .inr (runPart_degraded hn h).1

theorem recoveriesKey_ne (hn : n < 16) : (PFLT_RECOVERIES_COUNT n).key < tilePage 0 * 64 ∧
    (PFLT_RECOVERIES_COUNT n).key ≠ (PART_STATE_STATE n).key ∧ (PFLT_RECOVERIES_COUNT n).key ≠ (PART_STATE_DRAIN_DONE n).key ∧
    (PFLT_RECOVERIES_COUNT n).key ≠ (PFLT_STATUS_CAUSE n).key := by
  simp only [Fk.key, PFLT_RECOVERIES_COUNT, PART_STATE_STATE, PART_STATE_DRAIN_DONE, PFLT_STATUS_CAUSE, partPage, tilePage]
  omega

theorem stickyKey_ne (hn : n < 16) : (PFLT_STATUS_STICKY n).key < tilePage 0 * 64 ∧
    (PFLT_STATUS_STICKY n).key ≠ (PART_STATE_STATE n).key ∧ (PFLT_STATUS_STICKY n).key ≠ (PART_STATE_DRAIN_DONE n).key ∧
    (PFLT_STATUS_STICKY n).key ≠ (PFLT_STATUS_CAUSE n).key := by
  simp only [Fk.key, PFLT_STATUS_STICKY, PART_STATE_STATE, PART_STATE_DRAIN_DONE, PFLT_STATUS_CAUSE, partPage, tilePage]
  omega

theorem exec_partitionRecovery {at_ : Nat} (hn : n < 16) (hf : s.frozen = false) (hst : s.rb (PFLT_STATUS_STICKY n) = false)
    (hr : s.recoverable n = true) (hq : (s.at at_).quietOver n = true) :
    exec (.partitionRecovery n at_) s = .next ((s.at at_).recover n) := by
  rw [show exec (.partitionRecovery n at_) s = execPartitionRecovery n at_ s from rfl, execPartitionRecovery]
  refine congrArg Host.Outcome.next (if_neg ?_)
  rw [show (s.at at_).frozen = false from hf, show (s.at at_).rb (PFLT_STATUS_STICKY n) = false from hst,
    show (s.at at_).recoverable n = true from hr, hq]
  simpa using hn

theorem recover_over (h : s.rf (PFLT_CTRL_RECOVERY_LIMIT n) < (s.recentRecoveries n).length + 1) :
    s.recover n = (s.wf (PFLT_STATUS_STICKY n) 1).irqPart n 1 := by
  rw [State.recover, if_pos h]

theorem recover_within (hn : n < 16) (h : (s.recentRecoveries n).length + 1 ≤ s.rf (PFLT_CTRL_RECOVERY_LIMIT n)) :
    ((s.recover n).pst n = 2 ∨ (s.recover n).pst n = 7) ∧
      (s.recover n).rf (PFLT_RECOVERIES_COUNT n) = (s.rf (PFLT_RECOVERIES_COUNT n) + 1) % 2 ^ (PFLT_RECOVERIES_COUNT n).w := by
  obtain ⟨hbelow, hst, hdone, hcause⟩ := recoveriesKey_ne hn
  rw [State.recover, if_neg (by omega), State.pst, State.irqPart_rf]
  refine ⟨runPart_pst hn, ?_⟩
  rw [State.irqPart_rf, runPart_rf_ne hbelow hst hdone hcause, State.rf_bump_self]
  rfl

theorem watchSync_recoveries : ((s.watchSync n).part n).recoveries = (s.part n).recoveries := by
  rw [State.watchSync]
  split
  · rw [State.part_updPart_self]
  · rw [State.part_updPart_self]
  · rfl

theorem setPst_recoveries (st : Nat) : ((s.setPst n st).part n).recoveries = (s.part n).recoveries := watchSync_recoveries

theorem promotePart_recoveries : ((s.promotePart n).part n).recoveries = (s.part n).recoveries :=
  foldl_keeps (fun u : State => (u.part n).recoveries)
    (fun _ _ => State.promote_keeps (fun u : State => (u.part n).recoveries) (fun _ _ _ => rfl) fun _ _ _ => rfl) _ s

theorem State.wf_recoveries (k : Fk) (v : Nat) : ((s.wf k v).part n).recoveries = (s.part n).recoveries := rfl

theorem enterFault_recoveries (st c : Nat) : ((s.enterFault n st c).part n).recoveries = (s.part n).recoveries := by
  rw [State.enterFault, State.irqPart_keeps (fun u : State => (u.part n).recoveries) (fun _ _ => rfl), State.wf_recoveries,
    setPst_recoveries]

/-- Running a partition keeps its list of recoveries. -/
theorem runPart_recoveries : ((s.runPart n).part n).recoveries = (s.part n).recoveries := by
  have hdeg : ((s.updPart n fun p => { p with degraded := false }).part n).recoveries = (s.part n).recoveries := by
    rw [State.part_updPart_self]
  rw [State.runPart, promotePart_recoveries]
  split
  · rw [enterFault_recoveries, hdeg]
  · rw [setPst_recoveries, hdeg]

theorem exec_stickyClear {f : Nat} (hw : s.writes f n = true) (hr : s.pageReady (partPage n 9) = true) :
    exec (.stickyClear f n) s = .next (s.stickyClear n) := congrArg Host.Outcome.next (if_pos ⟨hw, hr⟩)

theorem stickyClear_halted (h : s.rb FLT_STATUS_HALTED = true) : s.stickyClear n = s := by
  rw [State.stickyClear, if_pos (.inl h)]

/-- The partition no longer sticky, its recoveries forgotten. -/
def State.unstick (s : State) (n : Nat) : State := (s.wf (PFLT_STATUS_STICKY n) 0).updPart n fun p => { p with recoveries := [] }

theorem unstick_sticky : (s.unstick n).rf (PFLT_STATUS_STICKY n) = 0 := by
  rw [State.unstick, State.updPart_rf, State.rf_wf_self]
  exact Nat.zero_mod _

theorem unstick_recoveries : ((s.unstick n).part n).recoveries = [] := by
  rw [State.unstick, State.part_updPart_self]

theorem stickyClear_runs (hh : s.rb FLT_STATUS_HALTED = false) (hs : s.rb (PFLT_STATUS_STICKY n) = true) :
    s.stickyClear n = if (s.unstick n).recoverable n then (s.unstick n).runPart n else s.unstick n := by
  rw [State.stickyClear, if_neg (by rw [hh, hs]; decide), State.unstick]

theorem stickyClear_sticky (hn : n < 16) (hh : s.rb FLT_STATUS_HALTED = false) (hs : s.rb (PFLT_STATUS_STICKY n) = true) :
    (s.stickyClear n).rf (PFLT_STATUS_STICKY n) = 0 ∧ ((s.stickyClear n).part n).recoveries = [] := by
  obtain ⟨hbelow, hst, hdone, hcause⟩ := stickyKey_ne hn
  rw [stickyClear_runs hh hs]
  split
  · rw [runPart_rf_ne hbelow hst hdone hcause, unstick_sticky, runPart_recoveries, unstick_recoveries]
    exact ⟨Eq.refl 0, Eq.refl []⟩
  · rw [unstick_sticky, unstick_recoveries]
    exact ⟨Eq.refl 0, Eq.refl []⟩

end

end

theorem State.writes_lt {s : State} {f n : Nat} (h : s.writes f n = true) : n < 16 := by
  rw [State.writes, State.reaches] at h
  simp only [Bool.and_eq_true, decide_eq_true_eq] at h
  exact h.1.1.1

/-- Settles O57. -/
theorem faultsAndRecovery : Obligations.FaultsAndRecovery := by
  unfold Obligations.FaultsAndRecovery
  refine ⟨fun s code pg src tb r _ hpg => ⟨latchFault_first hpg code src tb r, fun hv => ?_⟩, fun s code pg src tb r hm => ?_,
    fun s code pg parts => le_max_right _ _, fun s f n i hn hi hw hr h7 => ?_, fun s p v hp hw hr => ⟨fun hok => ?_, fun hbad => ?_⟩,
    fun s v hw hr hc => ?_, fun s n at_ hn hf hst hr hq => ⟨fun hover => ?_, fun hwithin => ?_⟩,
    fun s f n hw hr => ⟨fun hh => ?_, fun hh hs => ?_⟩, fun s hw hr => ?_⟩
  · rw [State.latchFault, if_pos hv]
  · rw [State.offer, if_pos hm]
  · have hrf : ∀ {k}, k ∈ faultFields (partPage n i) → (s.clearRecord (partPage n i)).rf k = 0 := fun hk =>
      clearRecord_rf hk (partPage_aligned n i)
    refine ⟨_, exec_faultClear hn hi hw hr h7, ?_, hrf (by simp [faultFields]), hrf (by simp [faultFields]),
      .of_mem (State.clearRecord_mem ..)⟩
    rw [State.rb, hrf (by simp [faultFields])]
    rfl
  · refine ⟨_, (exec_faultReactWrite v hp hw hr).trans (congrArg _ (if_pos hok)), fun c hc => reactWrites_rf hc, .of_mem (State.wfs_mem ..),
      reactWrites_kept _⟩
  · exact (exec_faultReactWrite v hp hw hr).trans (congrArg _ (if_neg (by rw [hbad]; decide)))
  · exact ⟨fun hen hlo hhi => (exec_faultOverrideWrite v hw hr hc hen).trans (congrArg _ (if_neg (by omega))),
      fun hen hout => (exec_faultOverrideWrite v hw hr hc hen).trans (congrArg _ (if_pos hout))⟩
  · exact (exec_partitionRecovery hn hf hst hr hq).trans (congrArg _ (recover_over hover))
  · obtain ⟨hpst, hcount⟩ := recover_within (s := s.at at_) hn hwithin
    exact ⟨_, exec_partitionRecovery hn hf hst hr hq, hpst, hcount, .of_at (.of_mem (State.recover_mem ..))⟩
  · exact (exec_stickyClear hw hr).trans (congrArg _ (stickyClear_halted hh))
  · obtain ⟨hsticky, hrec⟩ := stickyClear_sticky (State.writes_lt hw) hh hs
    exact ⟨_, exec_stickyClear hw hr, by rw [State.rb, hsticky]; rfl, hrec, .of_mem (State.stickyClear_mem ..)⟩
  · exact congrArg Host.Outcome.next (if_pos ⟨hw, hr⟩)

end Sys2Proof.Machine

/-! PROOF. The DOE mailbox and SPDM, re-keying, image keys and the JTAG lock: O58. -/

namespace Sys2Proof.Machine

section
variable {s : State}

/-! ### The mailbox and SPDM -/

theorem spdmAnswer_busy {need : Nat} {act : State → SpdmReply × State} (hup : s.doeUp = true) (hk : s.rb MOD_STATUS_KEEPER_UP = false) :
    s.spdmAnswer need act = s.emit (.doe .busy) := by
  rw [State.spdmAnswer, if_neg (by rw [hup]; decide), if_pos (by rw [hk]; decide)]

theorem spdmAnswer_early {need : Nat} {act : State → SpdmReply × State} (hup : s.doeUp = true) (hk : s.rb MOD_STATUS_KEEPER_UP = true)
    (hn : s.keeper.spdm < need) : s.spdmAnswer need act = s.emit (.doe .unexpected) := by
  rw [State.spdmAnswer, if_neg (by rw [hup]; decide), if_neg (by rw [hk]; decide), if_pos hn]

theorem spdmAnswer_act {need : Nat} {act : State → SpdmReply × State} (hup : s.doeUp = true) (hk : s.rb MOD_STATUS_KEEPER_UP = true)
    (hn : need ≤ s.keeper.spdm) : s.spdmAnswer need act = (act s).2.emit (.doe (act s).1) := by
  rw [State.spdmAnswer, if_neg (by rw [hup]; decide), if_neg (by rw [hk]; decide), if_neg (by omega)]

theorem exec_doeDiscovery {i : Nat} (hup : s.doeUp = true) (hi : i < 2) :
    exec (.doeDiscovery i) s = .next (s.emit (.doe (.discovery i 1 i (1 - i)))) :=
  congrArg Host.Outcome.next ((if_neg (by rw [hup]; decide)).trans (if_pos hi))

theorem exec_getCertificate (off len : Nat) (hup : s.doeUp = true) (hk : s.rb MOD_STATUS_KEEPER_UP = true) (hn : 3 ≤ s.keeper.spdm) :
    exec (.getCertificate 0 off len) s = .next (s.emit (.doe (if off < Config.certLen then
      .certificate off (min len (Config.certLen - off)) (Config.certLen - off - min len (Config.certLen - off))
        (bits Config.certChain (8 * off) (8 * min len (Config.certLen - off))) else .invalid))) := by
  rw [show exec (.getCertificate 0 off len) s = execGetCertificate 0 off len s from rfl, execGetCertificate]
  refine congrArg Host.Outcome.next ((spdmAnswer_act hup hk hn).trans ?_)
  by_cases h : off < Config.certLen
  · have hin : ¬(0 ≠ 0 ∨ Config.certLen ≤ off) := by omega
    simp only [if_pos h, if_neg hin]
  · have hout : 0 ≠ 0 ∨ Config.certLen ≤ off := by omega
    simp only [if_neg h, if_pos hout]

theorem measureIndices_ne {i : Nat} (hi : measureIndices.contains i = true) : i ≠ 0 ∧ i ≠ 0xFF := by
  constructor <;> rintro rfl <;> exact absurd hi (by decide)

theorem exec_getMeasurements {i : Nat} (tr : Nat) (hi : measureIndices.contains i = true) (hup : s.doeUp = true)
    (hk : s.rb MOD_STATUS_KEEPER_UP = true) (hn : 3 ≤ s.keeper.spdm) :
    exec (.getMeasurements i false tr) s = .next (s.emit (.doe (.measurements [(i, s.measurement i)] 0))) := by
  obtain ⟨h0, hFF⟩ := measureIndices_ne hi
  rw [show exec (.getMeasurements i false tr) s = execGetMeasurements i false tr s from rfl, execGetMeasurements]
  refine congrArg Host.Outcome.next ((spdmAnswer_act hup hk hn).trans ?_)
  have hin : ¬(i ≠ 0 ∧ i ≠ 0xFF ∧ (!measureIndices.contains i) = true) := by
    rw [hi]
    exact fun h => absurd h.2.2 (by decide)
  simp only [if_neg hin, if_neg h0, if_neg hFF, List.map_cons, List.map_nil, Bool.false_eq_true, if_false]

/-! ### Re-keying -/

/-- Both backup slots put into a state. -/
def State.slotsSet (s : State) (st : Nat) : State := (s.setSlot 0 st).setSlot 1 st

theorem slotsSet_keeps {β : Type} (view : State → β) (hwk : ∀ u k v, k < 2 → view (State.wk u (CHST_BSLOT_STATE k) v) = view u)
    (hemit : ∀ u o, view (State.emit u o) = view u) (st : Nat) : view (s.slotsSet st) = view s := by
  rw [State.slotsSet, setSlot_keeps view (fun u v => hwk u 1 v (by decide)) hemit, setSlot_keeps view (fun u v => hwk u 0 v (by decide)) hemit]

theorem slotsSet_rf_ne {j : Fk} (h : ∀ k, k < 2 → j.key ≠ (CHST_BSLOT_STATE k).key) (st : Nat) : (s.slotsSet st).rf j = s.rf j :=
  slotsSet_keeps (State.rf · j) (fun _ k _ hk => State.rf_wk_ne _ (h k hk)) (fun _ _ => rfl) st

theorem slotsSet_rf {st k : Nat} (hst : st < 8) (hk : k < 2) : (s.slotsSet st).rf (CHST_BSLOT_STATE k) = st := by
  rw [State.slotsSet]
  interval_cases k
  · rw [setSlot_rf_ne st (by decide), setSlot_rf_self hst]
  · exact setSlot_rf_self hst 1

theorem imgAbort_idle (h : s.keeper.load = none) (c : Nat) : s.imgAbort c = s := by rw [State.imgAbort, h]

/-- What a re-key drops: the snapshots and images, and the Keeper's lists of them. -/
def State.rekeyLists (s : State) : State :=
  (s.updChest fun c => { c with snaps := [], imgs := [] }).updKeeper fun k =>
    { k with foreign := false, coldSlot := [], peers := [], reloads := [] }

/-- The lists dropped and a load that runs aborted. -/
def State.rekeyErased (s : State) : State := (s.rekeyLists.imgAbort 16).updChest fun c => { c with imgs := [] }

theorem rekeyErased_idle (h : s.keeper.load = none) : s.rekeyErased = s.rekeyLists.updChest fun c => { c with imgs := [] } := by
  rw [State.rekeyErased, imgAbort_idle (by rw [State.rekeyLists]; exact h)]

/-- A re-key begun. -/
def State.rekeyBegun (s : State) : State :=
  ((s.rekeyErased.wks [(CHST_STATUS_KEY_OK, 1), (KEEP_RESTORE_PENDING, 0)]).wf SEC_STATUS_REKEYING 1).slotsSet 1

theorem rekeyBegun_rekeying : s.rekeyBegun.rf SEC_STATUS_REKEYING = 1 := by
  rw [State.rekeyBegun, slotsSet_rf_ne (by decide), State.rf_wf_self]
  rfl

theorem rekeyBegun_keyOk : s.rekeyBegun.rf CHST_STATUS_KEY_OK = 1 := by
  rw [State.rekeyBegun, slotsSet_rf_ne (by decide), State.rf_wf_ne _ _ (by decide), State.wks, List.foldl_cons, List.foldl_cons,
    List.foldl_nil, State.rf_wk_ne _ (by decide), State.rf_wk_self]
  rfl

theorem rekeyBegun_pending : s.rekeyBegun.rf KEEP_RESTORE_PENDING = 0 := by
  rw [State.rekeyBegun, slotsSet_rf_ne (by decide), State.rf_wf_ne _ _ (by decide), State.wks, List.foldl_cons, List.foldl_cons,
    List.foldl_nil, State.rf_wk_self]
  rfl

theorem rekeyBegun_chest (hload : s.keeper.load = none) : s.rekeyBegun.chest.snaps = [] ∧ s.rekeyBegun.chest.imgs = [] := by
  have h : s.rekeyBegun.chest = s.rekeyErased.chest := by
    rw [State.rekeyBegun, slotsSet_keeps State.chest (fun _ _ _ _ => rfl) (fun _ _ => rfl), State.wf_chest,
      wks_keeps State.chest (fun _ _ _ => rfl)]
  rw [h, rekeyErased_idle hload]
  exact ⟨rfl, rfl⟩

theorem rekeyBegun_mem (hload : s.keeper.load = none) : s.rekeyBegun.mem = s.mem := by
  rw [State.rekeyBegun, slotsSet_keeps State.mem (fun _ _ _ _ => rfl) (fun _ _ => rfl), State.wf_mem,
    wks_keeps State.mem (fun _ _ _ => rfl), rekeyErased_idle hload]
  rfl

theorem exec_rekey {v : BitVec 64} (hw : s.pf0Writes 0 = true) (hr : s.pageReady pgSEC = true) (h0 : v.toNat.testBit 0 = true)
    (hkey : bits v.toNat 48 16 = 0x524B) (hstill : ((List.range 16).all fun n => s.pst n == 0 || s.pst n == 1) = true)
    (hrest : s.keeper.restore = none) (hre : s.rb SEC_STATUS_REKEYING = false) (hup : s.rb MOD_STATUS_KEEPER_UP = true) :
    exec (.rekey 0 v) s = .next (if s.rb CHST_STATUS_KEY_OK then s.rekeyBegun else s.rekeyBegun.measChange) := by
  rw [show exec (.rekey 0 v) s = execRekey 0 v s from rfl, execRekey]
  refine congrArg Host.Outcome.next ((if_pos ⟨hw, hr⟩).trans ?_)
  rw [State.rekey]
  refine (if_neg ?_).trans rfl
  · rw [h0, hkey, show ((List.range 16).all fun n => s.pst n == psEMPTY || s.pst n == psSTOPPED) = true from hstill,
      pf0Writes_live hw, hrest, hre, hup]
    decide

theorem rekeyComplete_done {at_ : Nat} (hre : s.rb SEC_STATUS_REKEYING = true) (hup : s.rb MOD_STATUS_KEEPER_UP = true)
    (hf : s.frozen = false) : exec (.rekeyComplete at_) s = .next ((((s.at at_).slotsSet 0).wf SEC_STATUS_REKEYING 0).irqPage pgSEC) := by
  rw [show exec (.rekeyComplete at_) s = execRekeyComplete at_ s from rfl, execRekeyComplete]
  refine congrArg Host.Outcome.next (if_neg ?_)
  rw [show (s.at at_).rb SEC_STATUS_REKEYING = true from hre, show (s.at at_).rb MOD_STATUS_KEEPER_UP = true from hup,
    show (s.at at_).frozen = false from hf]
  decide

/-! ### Image keys -/

/-- A slot's two bits replaced in the word of the states. -/
def keyStates (v k st : Nat) : Nat := v - bits v (2 * k) 2 * 4 ^ k + st * 4 ^ k

theorem keyStates_bits {v k st : Nat} (hv : v < 256) (hk : k < 4) (hst : st < 3) : bits (keyStates v k st % 2 ^ 8) (2 * k) 2 = st := by
  have h : ∀ v, v < 256 → ∀ k, k < 4 → ∀ st, st < 3 → bits (keyStates v k st % 2 ^ 8) (2 * k) 2 = st := by decide +kernel
  exact h v hv k hk st hst

theorem setKeyState_states (k st : Nat) :
    (s.setKeyState k st).rf SEC_IMGKEY_STATUS_STATES = keyStates (s.rf SEC_IMGKEY_STATUS_STATES) k st % 2 ^ 8 := by
  rw [State.setKeyState, measChange_keeps (State.rf · SEC_IMGKEY_STATUS_STATES) (fun _ _ => State.rf_wf_ne _ _ (by decide)) (fun _ _ => rfl),
    State.rf_wk_self]
  rfl

theorem setKeyState_imgKeys (k st : Nat) : (s.setKeyState k st).keeper.imgKeys = s.keeper.imgKeys := by
  rw [State.setKeyState, measChange_keeps (fun u : State => u.keeper.imgKeys) (fun _ _ => rfl) (fun _ _ => rfl)]
  rfl

/-- The key that the words X and Y of a slot hold. -/
def State.slotKey (s : State) (k : Nat) : Nat := s.words6 (SEC_IMGKEY_X_X k) + 2 ^ 384 * s.words6 (SEC_IMGKEY_Y_Y k)

theorem exec_imgkeyProgram {k : Nat} (hw : s.pf0Writes 0 = true) (hr : s.pageReady pgSEC = true) (hk : k < 4) :
    exec (.imgkeyProgram 0 k) s = .next (
      if bits (s.rf SEC_IMGKEY_STATUS_STATES) (2 * k) 2 = 0 ∧ Config.onCurve (s.slotKey k) = true then
        (s.updKeeper fun x => { x with imgKeys := sins x.imgKeys k (s.slotKey k) }).setKeyState k 1
      else s.wf SEC_IMGKEY_STATUS_REFUSED 1) := by
  have hslot : bits (1 + k % 4 * 16) 4 2 = k := by interval_cases k <;> rfl
  have hcmd : bits (1 + k % 4 * 16) 0 2 = 1 := by interval_cases k <;> rfl
  rw [show exec (.imgkeyProgram 0 k) s = execImgkeyProgram 0 k s from rfl, execImgkeyProgram]
  refine congrArg Host.Outcome.next ((if_pos ⟨hw, hr⟩).trans ?_)
  rw [State.imgkeyCmd]
  simp only [hslot, hcmd, State.slotKey]
  rfl

theorem exec_imgkeyRevoke {k : Nat} (key : BitVec 16) (hw : s.pf0Writes 0 = true) (hr : s.pageReady pgSEC = true) (hk : k < 4) :
    exec (.imgkeyRevoke 0 k key) s = .next (
      if key.toNat ≠ 0x5256 then s.wf SEC_IMGKEY_STATUS_REFUSED 1
      else if bits (s.rf SEC_IMGKEY_STATUS_STATES) (2 * k) 2 = 2 then s
      else ((s.wk SEC_FUSE_STATE_REVOKED (s.rf SEC_FUSE_STATE_REVOKED ||| 2 ^ k)).updKeeper fun x =>
        { x with imgKeys := sdel x.imgKeys k }).setKeyState k 2) := by
  have hlt := key.isLt
  have hslot : bits (2 + k % 4 * 16 + key.toNat * 2 ^ 48) 4 2 = k := by
    rw [bits]
    omega
  have hcmd : bits (2 + k % 4 * 16 + key.toNat * 2 ^ 48) 0 2 = 2 := by
    rw [bits]
    omega
  have hkey : bits (2 + k % 4 * 16 + key.toNat * 2 ^ 48) 48 16 = key.toNat := by
    rw [bits]
    omega
  rw [show exec (.imgkeyRevoke 0 k key) s = execImgkeyRevoke 0 k key s from rfl, execImgkeyRevoke]
  refine congrArg Host.Outcome.next ((if_pos ⟨hw, hr⟩).trans ?_)
  rw [State.imgkeyCmd]
  simp only [hslot, hcmd, hkey]

/-! ### The JTAG lock -/

theorem jtagState_rf (st : Nat) (h : st < 4) : (s.jtagState st).rf SEC_JTAG_STATE_STATE = st := by
  rw [State.jtagState]
  split
  · next hs => exact hs
  · rw [measChange_keeps (State.rf · SEC_JTAG_STATE_STATE) (fun _ _ => State.rf_wf_ne _ _ (by decide)) (fun _ _ => rfl), State.irqPage_rf,
      State.rf_wf_self]
    exact Nat.mod_eq_of_lt h

theorem jtagState_keeps {β : Type} (view : State → β) (hst : ∀ u v, view (State.wf u SEC_JTAG_STATE_STATE v) = view u)
    (hseq : ∀ u v, view (State.wf u SEC_MEAS_SEQ_COUNT v) = view u) (hemit : ∀ u o, view (State.emit u o) = view u) (st : Nat) :
    view (s.jtagState st) = view s := by
  rw [State.jtagState]
  exact ite_view view rfl ((measChange_keeps view hseq hemit).trans ((State.irqPage_keeps view hemit _).trans (hst _ _)))

theorem jtagState_keeper (st : Nat) : (s.jtagState st).keeper = s.keeper :=
  jtagState_keeps State.keeper (fun _ _ => rfl) (fun _ _ => rfl) (fun _ _ => rfl) st

/-- A new nonce drawn and shown. -/
def State.nonceDrawn (s : State) : State :=
  ((List.range 6).foldl (fun s j => s.wf (SEC_JTAG_NONCE_NONCE j) (bits (s.draw 384).1 (64 * j) 64)) (s.draw 384).2).updKeeper fun k =>
    { k with nonce := some ((s.draw 384).1, s.time) }

theorem jtagChallenge_open (h : s.rb SEC_JTAG_STATE_LOCKOUT = false) :
    (s.jtagChallenge).rf SEC_JTAG_STATE_STATE = 1 ∧
      (s.jtagChallenge).keeper.nonce = some (Config.freeValue s.freeCtr % 2 ^ 384, s.time) := by
  rw [State.jtagChallenge, if_neg (by rw [h]; decide)]
  exact ⟨jtagState_rf 1 (by decide), congrArg Keeper.nonce (jtagState_keeper 1)⟩

/-- A failed VERIFY before the lock's state changes. -/
def State.jtagFailed (s : State) : State :=
  (s.updKeeper fun k => { k with nonce := none }).wfs [(SEC_JTAG_STATE_FAILS, min 3 (s.rf SEC_JTAG_STATE_FAILS + 1)),
    (SEC_JTAG_STATE_LOCKOUT, b2n (s.rb SEC_JTAG_STATE_LOCKOUT || min 3 (s.rf SEC_JTAG_STATE_FAILS + 1) == 3))]

theorem jtagFail_eq : s.jtagFail = if s.rf SEC_JTAG_STATE_STATE = 0 then s.jtagFailed.measChange else s.jtagFailed.jtagState 0 := rfl

theorem jtagFail_keeps {β : Type} (view : State → β) (hst : ∀ u v, view (State.wf u SEC_JTAG_STATE_STATE v) = view u)
    (hseq : ∀ u v, view (State.wf u SEC_MEAS_SEQ_COUNT v) = view u) (hemit : ∀ u o, view (State.emit u o) = view u) :
    view s.jtagFail = view s.jtagFailed := by
  rw [jtagFail_eq]
  exact ite_view view (measChange_keeps view hseq hemit) (jtagState_keeps view hst hseq hemit 0)

theorem jtagFail_state : s.jtagFail.rf SEC_JTAG_STATE_STATE = 0 := by
  rw [jtagFail_eq]
  split
  · next h =>
    rw [measChange_keeps (State.rf · SEC_JTAG_STATE_STATE) (fun _ _ => State.rf_wf_ne _ _ (by decide)) (fun _ _ => rfl),
      State.jtagFailed, State.rf_wfs_two_ne (by decide) (by decide), State.updKeeper_rf, h]
  · exact jtagState_rf 0 (by decide)

theorem jtagFail_fails : s.jtagFail.rf SEC_JTAG_STATE_FAILS = min 3 (s.rf SEC_JTAG_STATE_FAILS + 1) := by
  rw [jtagFail_keeps (State.rf · SEC_JTAG_STATE_FAILS) (fun _ _ => State.rf_wf_ne _ _ (by decide))
    (fun _ _ => State.rf_wf_ne _ _ (by decide)) (fun _ _ => rfl), State.jtagFailed, State.rf_wfs_fst (by decide)]
  exact Nat.mod_eq_of_lt (Nat.lt_of_le_of_lt (Nat.min_le_left _ _) (by decide))

theorem jtagFail_lockout (h : 2 ≤ s.rf SEC_JTAG_STATE_FAILS) : s.jtagFail.rb SEC_JTAG_STATE_LOCKOUT = true := by
  rw [State.rb, jtagFail_keeps (State.rf · SEC_JTAG_STATE_LOCKOUT) (fun _ _ => State.rf_wf_ne _ _ (by decide))
    (fun _ _ => State.rf_wf_ne _ _ (by decide)) (fun _ _ => rfl), State.jtagFailed, State.rf_wfs_snd,
    show min 3 (s.rf SEC_JTAG_STATE_FAILS + 1) = 3 by omega, show (3 == 3) = true from rfl, Bool.or_true]
  rfl

theorem jtagFail_nonce : s.jtagFail.keeper.nonce = none := by
  rw [jtagFail_keeps State.keeper (fun _ _ => rfl) (fun _ _ => rfl) (fun _ _ => rfl)]
  rfl

theorem jtagVerify_dead (scope : Nat) (h : s.liveNonce = none) : s.jtagVerify scope = s.jtagFail := by
  rw [State.jtagVerify, h]

/-- The check of a response against the debug key. -/
def State.jtagSigned (s : State) (v scope : Nat) : Bool :=
  Config.ecdsaOk Config.debugKey (Config.sha384 97 (s.jtagMessage v scope)) (s.words6 SEC_JTAG_RESP_SIG)
    (s.words6 fun j => SEC_JTAG_RESP_SIG (6 + j))

theorem jtagVerify_live {v scope : Nat} (h : s.liveNonce = some v) (h2 : 2 ≤ scope) (hd : s.kept SEC_FUSE_STATE_DEBUG_KEY_SET = 1) :
    s.jtagVerify scope = if s.jtagSigned v scope then (s.updKeeper fun k => { k with nonce := none }).jtagState scope
      else s.jtagFail := by
  rw [State.jtagVerify, h]
  cases hs : s.jtagSigned v scope
  · exact if_neg fun h => absurd (hs.symm.trans h.2.2) (by decide)
  · exact if_pos ⟨h2, hd, hs⟩

theorem jtagVerify_used {v scope : Nat} (h : s.liveNonce = some v) (h2 : 2 ≤ scope) (h4 : scope < 4)
    (hd : s.kept SEC_FUSE_STATE_DEBUG_KEY_SET = 1) :
    (s.jtagVerify scope).keeper.nonce = none ∧ (s.jtagVerify scope).mem = s.mem ∧
      (s.jtagVerify scope).rf SEC_JTAG_STATE_STATE = if s.jtagSigned v scope then scope else 0 := by
  rw [jtagVerify_live h h2 hd]
  split
  · exact ⟨congrArg Keeper.nonce (jtagState_keeper scope), State.jtagState_mem .., jtagState_rf scope h4⟩
  · exact ⟨jtagFail_nonce, State.jtagFail_mem .., jtagFail_state⟩

theorem jtagRelock_locked : s.jtagRelock.rf SEC_JTAG_STATE_STATE = 0 ∧ s.jtagRelock.keeper.nonce = none :=
  ⟨jtagState_rf 0 (by decide), congrArg Keeper.nonce (jtagState_keeper 0)⟩

theorem exec_jtagNonceExpiry {at_ v t0 : Nat} (hn : s.keeper.nonce = some (v, t0)) (ht : t0 + 60000000000 ≤ max s.time at_)
    (hst : s.rf SEC_JTAG_STATE_STATE = 1) : exec (.jtagNonceExpiry at_) s = .next (s.at at_).jtagRelock := by
  have hkeep : (s.at at_).keeper.nonce = some (v, t0) := hn
  have hlive : (s.at at_).liveNonce = none := by
    rw [State.liveNonce, hkeep]
    exact if_neg (Nat.not_lt.mpr ht)
  rw [show exec (.jtagNonceExpiry at_) s = execJtagNonceExpiry at_ s from rfl, execJtagNonceExpiry]
  refine congrArg Host.Outcome.next ((if_neg ?_).trans (if_pos hst))
  rw [hkeep, hlive]
  exact fun h => h.elim (fun h => absurd h Bool.false_ne_true) fun h => absurd h Bool.false_ne_true

end

/-! ### The obligation, part by part -/

section
variable {s : State}

theorem identity_requests (hup : s.doeUp = true) (hk : s.rb MOD_STATUS_KEEPER_UP = true) :
    exec .getVersion s = .next ((s.updKeeper fun k => { k with spdm := 1 }).emit (.doe (.version [0x12, 0x13]))) ∧
      (1 ≤ s.keeper.spdm → exec .getCapabilities s = .next ((s.updKeeper fun k => { k with spdm := 2 }).emit (.doe .capabilities))) ∧
      (2 ≤ s.keeper.spdm → exec (.negotiateAlgorithms true true) s =
        .next ((s.updKeeper fun k => { k with spdm := 3 }).emit (.doe .algorithms))) ∧
      exec .spdmUnsupportedRequest s = .next (s.emit (.doe .unsupported)) ∧
      (s.keeper.spdm < 3 → exec .getDigests s = .next (s.emit (.doe .unexpected))) :=
  ⟨congrArg Host.Outcome.next (spdmAnswer_act hup hk (Nat.zero_le _)), fun h => congrArg Host.Outcome.next (spdmAnswer_act hup hk h),
    fun h => congrArg Host.Outcome.next (spdmAnswer_act hup hk h), congrArg Host.Outcome.next (spdmAnswer_act hup hk (Nat.zero_le _)),
    fun h => congrArg Host.Outcome.next (spdmAnswer_early hup hk h)⟩

theorem identity_rekey (v : BitVec 64) (hw : s.pf0Writes 0 = true) (hr : s.pageReady pgSEC = true) (h0 : v.toNat.testBit 0 = true)
    (hkey : bits v.toNat 48 16 = 0x524B) (hstill : ((List.range 16).all fun n => s.pst n == 0 || s.pst n == 1) = true)
    (hrest : s.keeper.restore = none) (hre : s.rb SEC_STATUS_REKEYING = false) (hup : s.rb MOD_STATUS_KEEPER_UP = true)
    (hload : s.keeper.load = none) : ∃ s', exec (.rekey 0 v) s = .next s' ∧
      s'.rb SEC_STATUS_REKEYING = true ∧ s'.chest.snaps = [] ∧ s'.chest.imgs = [] ∧ s'.rb CHST_STATUS_KEY_OK = true ∧
      s'.rf KEEP_RESTORE_PENDING = 0 ∧ (∀ k, k < 2 → s'.rf (CHST_BSLOT_STATE k) = 1) ∧ BytesKept s s' := by
  have hview : ∀ {β : Type} (view : State → β), (∀ u v, view (State.wf u SEC_MEAS_SEQ_COUNT v) = view u) →
      (∀ u o, view (State.emit u o) = view u) →
      view (if s.rb CHST_STATUS_KEY_OK then s.rekeyBegun else s.rekeyBegun.measChange) = view s.rekeyBegun := fun view hwf hemit =>
    ite_view view rfl (measChange_keeps view hwf hemit)
  have hrf : ∀ j : Fk, j.key ≠ SEC_MEAS_SEQ_COUNT.key →
      (if s.rb CHST_STATUS_KEY_OK then s.rekeyBegun else s.rekeyBegun.measChange).rf j = s.rekeyBegun.rf j := fun j hj =>
    hview (State.rf · j) (fun _ _ => State.rf_wf_ne _ _ hj) (fun _ _ => rfl)
  obtain ⟨hsnaps, himgs⟩ := rekeyBegun_chest hload
  refine ⟨_, exec_rekey hw hr h0 hkey hstill hrest hre hup, ?_, ?_, ?_, ?_, ?_, fun k hk => ?_, .of_mem ?_⟩
  · rw [State.rb, hrf _ (by decide), rekeyBegun_rekeying]
    rfl
  · rw [hview State.chest (fun _ _ => rfl) (fun _ _ => rfl), hsnaps]
  · rw [hview State.chest (fun _ _ => rfl) (fun _ _ => rfl), himgs]
  · rw [State.rb, hrf _ (by decide), rekeyBegun_keyOk]
    rfl
  · rw [hrf _ (by decide), rekeyBegun_pending]
  · rw [hrf _ (by interval_cases k <;> decide), State.rekeyBegun, slotsSet_rf (by decide) hk]
  · rw [hview State.mem (fun _ _ => rfl) (fun _ _ => rfl), rekeyBegun_mem hload]

theorem identity_rekeyComplete (at_ : Nat) (hre : s.rb SEC_STATUS_REKEYING = true) (hup : s.rb MOD_STATUS_KEEPER_UP = true)
    (hf : s.frozen = false) : ∃ s', exec (.rekeyComplete at_) s = .next s' ∧ s'.rb SEC_STATUS_REKEYING = false ∧
      (∀ k, k < 2 → s'.rf (CHST_BSLOT_STATE k) = 0) ∧ BytesKept s s' := by
  refine ⟨_, rekeyComplete_done hre hup hf, ?_, fun k hk => ?_, .of_at (now := at_) (.of_mem ?_)⟩
  · rw [State.rb, State.irqPage_rf, State.rf_wf_self]
    rfl
  · rw [State.irqPage_rf, State.rf_wf_ne _ _ (by interval_cases k <;> decide), slotsSet_rf (by decide) hk]
  · rw [State.irqPage_mem, State.wf_mem, slotsSet_keeps State.mem (fun _ _ _ _ => rfl) (fun _ _ => rfl)]

theorem identity_program {k : Nat} (hw : s.pf0Writes 0 = true) (hr : s.pageReady pgSEC = true) (hk : k < 4)
    (hst : bits (s.rf SEC_IMGKEY_STATUS_STATES) (2 * k) 2 = 0) (hlt : s.rf SEC_IMGKEY_STATUS_STATES < 256) :
    ∃ s', exec (.imgkeyProgram 0 k) s = .next s' ∧ BytesKept s s' ∧
      (Config.onCurve (s.slotKey k) = true → sget? s'.keeper.imgKeys k = some (s.slotKey k) ∧
        bits (s'.rf SEC_IMGKEY_STATUS_STATES) (2 * k) 2 = 1) ∧
      (Config.onCurve (s.slotKey k) = false → s' = s.wf SEC_IMGKEY_STATUS_REFUSED 1) := by
  rw [exec_imgkeyProgram hw hr hk]
  cases hc : Config.onCurve (s.slotKey k)
  · rw [if_neg fun h => absurd h.2 (by decide)]
    exact ⟨_, rfl, .of_mem (State.wf_mem ..), fun h => absurd h (by decide), fun _ => rfl⟩
  · rw [if_pos ⟨hst, rfl⟩]
    refine ⟨_, rfl, .of_mem ((State.setKeyState_mem ..).trans (State.updKeeper_mem ..)), fun _ => ⟨?_, ?_⟩, fun h => absurd h (by decide)⟩
    · rw [setKeyState_imgKeys]
      exact (sget?_sins _ _ _ _).trans (if_pos rfl)
    · rw [setKeyState_states, State.updKeeper_rf, keyStates_bits hlt hk (by decide)]

theorem identity_revoke {k : Nat} (hw : s.pf0Writes 0 = true) (hr : s.pageReady pgSEC = true) (hk : k < 4)
    (hst : bits (s.rf SEC_IMGKEY_STATUS_STATES) (2 * k) 2 ≠ 2) (hlt : s.rf SEC_IMGKEY_STATUS_STATES < 256) :
    ∃ s', exec (.imgkeyRevoke 0 k 0x5256) s = .next s' ∧ sget? s'.keeper.imgKeys k = none ∧
      bits (s'.rf SEC_IMGKEY_STATUS_STATES) (2 * k) 2 = 2 := by
  rw [exec_imgkeyRevoke 0x5256 hw hr hk, if_neg (by decide), if_neg hst]
  refine ⟨_, rfl, ?_, ?_⟩
  · rw [setKeyState_imgKeys]
    exact (sget?_sdel _ _ _).trans (if_pos rfl)
  · rw [setKeyState_states, State.updKeeper_rf, State.rf_wk_ne _ (by decide), keyStates_bits hlt hk (by decide)]

end

/-- Settles O58. -/
theorem identity : Obligations.Identity := by
  unfold Obligations.Identity
  refine ⟨fun s hup => ⟨exec_doeDiscovery hup (by decide), exec_doeDiscovery hup (by decide), fun hk => ⟨?_, ?_⟩, fun hk => ?_⟩,
    fun s v hw hr h0 hkey hstill hrest hre hk hload => identity_rekey v hw hr h0 hkey hstill hrest hre hk hload,
    fun s at_ hre hk hf => identity_rekeyComplete at_ hre hk hf,
    fun s k hw hr hk => ⟨fun hst hlt => identity_program hw hr hk hst hlt, fun hst => ?_,
      fun hst hlt => identity_revoke hw hr hk hst hlt, fun key hkey => ?_⟩,
    fun s at_ hw hr => ⟨fun hl => ?_, fun hl => ?_, fun scope hn => ?_, fun v scope h2 h4 hn hd => ?_, ?_⟩,
    fun s at_ v t0 hn ht hst => ?_⟩
  · exact congrArg Host.Outcome.next (spdmAnswer_busy hup hk)
  · exact congrArg Host.Outcome.next (spdmAnswer_busy hup hk)
  · obtain ⟨hversion, hcap, halg, hunsup, hearly⟩ := identity_requests hup hk
    refine ⟨hversion, hcap, halg, hunsup, hearly, fun h3 => ⟨?_, fun off len => exec_getCertificate off len hup hk h3, fun tr => ?_,
      fun i tr hi => exec_getMeasurements tr hi hup hk h3⟩⟩
    · exact congrArg Host.Outcome.next (spdmAnswer_act hup hk h3)
    · exact congrArg Host.Outcome.next (spdmAnswer_act hup hk h3)
  · rw [exec_imgkeyProgram hw hr hk, if_neg fun h => hst h.1]
  · have hne : key.toNat ≠ 0x5256 := fun h => hkey (BitVec.eq_of_toNat_eq h)
    rw [exec_imgkeyRevoke key hw hr hk, if_pos hne]
  · obtain ⟨hstate, hnonce⟩ := jtagChallenge_open (s := s.at at_) hl
    exact ⟨_, congrArg Host.Outcome.next (if_pos ⟨hw, hr⟩), hstate, hnonce, .of_at (.of_mem (State.jtagChallenge_mem ..))⟩
  · exact congrArg Host.Outcome.next ((if_pos ⟨hw, hr⟩).trans (if_pos hl))
  · refine ⟨_, congrArg Host.Outcome.next ((if_pos ⟨hw, hr⟩).trans (jtagVerify_dead _ hn)), jtagFail_state, jtagFail_fails,
      fun h => jtagFail_lockout h, .of_at (.of_mem (State.jtagFail_mem ..))⟩
  · obtain ⟨hnonce, hmem, hstate⟩ := jtagVerify_used hn h2 h4 hd
    refine ⟨_, congrArg Host.Outcome.next ((if_pos ⟨hw, hr⟩).trans (by rw [Nat.mod_eq_of_lt h4])), hnonce, .of_at (.of_mem hmem), hstate⟩
  · exact ⟨_, congrArg Host.Outcome.next (if_pos ⟨hw, hr⟩), jtagRelock_locked.1, jtagRelock_locked.2, .of_mem (State.jtagRelock_mem ..)⟩
  · exact ⟨_, exec_jtagNonceExpiry hn ht hst, jtagRelock_locked.1, jtagRelock_locked.2, .of_at (.of_mem (State.jtagRelock_mem ..))⟩

end Sys2Proof.Machine

/-! PROOF. Receivers, temperatures and coolant, SMBus, VIO and the TAP: O59. -/

namespace Sys2Proof.Machine

section
variable {s : State}

/-! ### Receivers -/

/-- A condition set, or with `v` 0 cleared, where `b` says so. -/
def State.condSet (s : State) (b : Bool) (k : Fk) (v : Nat) : State := if b then s.wf k v else s

theorem condSet_rf_ne {b : Bool} {k j : Fk} (v : Nat) (h : j.key ≠ k.key) : (s.condSet b k v).rf j = s.rf j := by
  rw [State.condSet]
  exact ite_view (State.rf · j) (State.rf_wf_ne _ _ h) rfl

theorem condSet_mem (b : Bool) (k : Fk) (v : Nat) : (s.condSet b k v).mem = s.mem := by
  rw [State.condSet]
  exact ite_view State.mem rfl rfl

theorem condSet_set {b : Bool} {k : Fk} (hw : k.w = 1) : (s.condSet b k 1).rb k = (s.rb k || b) := by
  cases b
  · exact (Bool.or_false _).symm
  · rw [State.condSet, if_pos rfl, State.rb, State.rf_wf_self, hw, Bool.or_true]
    rfl

theorem condSet_clear {b : Bool} {k : Fk} : (s.condSet (!b) k 0).rb k = (s.rb k && b) := by
  cases b
  · rw [State.condSet, Bool.not_false, if_pos rfl, State.rb, State.rf_wf_self, Nat.zero_mod, Bool.and_false]
    rfl
  · exact (Bool.and_true _).symm

theorem condSet_rf_congr {u : State} {b : Bool} {k : Fk} (v : Nat) (h : u.rf k = s.rf k) :
    (u.condSet b k v).rf k = (s.condSet b k v).rf k := by
  cases b
  · exact h
  · exact (State.rf_wf_self ..).trans (State.rf_wf_self ..).symm

theorem rxKeys_ne (i : Nat) :
    (TBS_TB_RX_OPEN i).key ≠ (TBS_TB_RX_SHORT i).key ∧ (TBS_TB_RX_OPEN i).key ≠ (TBS_TB_RX_CM i).key ∧
      (TBS_TB_RX_SHORT i).key ≠ (TBS_TB_RX_CM i).key := by
  simp only [Fk.key, TBS_TB_RX_OPEN, TBS_TB_RX_SHORT, TBS_TB_RX_CM]
  omega

theorem rxReadings_ne (i : Nat) {j : Fk} (hj : j = TBS_TB_RX_OPEN i ∨ j = TBS_TB_RX_SHORT i ∨ j = TBS_TB_RX_CM i) :
    j.key ≠ (TBS_TB_RX_VID_MV i).key ∧ j.key ≠ (TBS_TB_RX_VCM_MV i).key := by
  rcases hj with rfl | rfl | rfl <;>
    simp only [Fk.key, TBS_TB_RX_OPEN, TBS_TB_RX_SHORT, TBS_TB_RX_CM, TBS_TB_RX_VID_MV, TBS_TB_RX_VCM_MV] <;> omega

/-- The three conditions of an input written where `o`, `h` and `c` say so, after its readings. -/
def State.rxConds (s : State) (i : Nat) (vid vcm : Int) (o h c : Bool) (v : Nat) : State :=
  (((s.rxRead i vid vcm).condSet o (TBS_TB_RX_OPEN i) v).condSet h (TBS_TB_RX_SHORT i) v).condSet c (TBS_TB_RX_CM i) v

section
variable {i v : Nat} {vid vcm : Int} {o h c : Bool}

theorem rxConds_mem : (s.rxConds i vid vcm o h c v).mem = s.mem := by
  rw [State.rxConds, condSet_mem, condSet_mem, condSet_mem, State.rxRead, State.wfs_mem]

theorem rxRead_rf {j : Fk} (hj : j = TBS_TB_RX_OPEN i ∨ j = TBS_TB_RX_SHORT i ∨ j = TBS_TB_RX_CM i) :
    (s.rxRead i vid vcm).rf j = s.rf j := State.rf_wfs_two_ne (rxReadings_ne i hj).1 (rxReadings_ne i hj).2

theorem rxConds_vid : (s.rxConds i vid vcm o h c v).rf (TBS_TB_RX_VID_MV i) = ofSigned vid 16 := by
  rw [State.rxConds, condSet_rf_ne v (rxReadings_ne i (.inr (.inr rfl))).1.symm,
    condSet_rf_ne v (rxReadings_ne i (.inr (.inl rfl))).1.symm, condSet_rf_ne v (rxReadings_ne i (.inl rfl)).1.symm, State.rxRead,
    State.rf_wfs_fst (by simp only [Fk.key, TBS_TB_RX_VID_MV, TBS_TB_RX_VCM_MV]; omega)]
  exact Nat.mod_eq_of_lt (ofSigned_lt vid 16)

/-- Each condition is as its own write leaves it. -/
theorem rxConds_rb :
    (s.rxConds i vid vcm o h c v).rb (TBS_TB_RX_OPEN i) = (s.condSet o (TBS_TB_RX_OPEN i) v).rb (TBS_TB_RX_OPEN i) ∧
      (s.rxConds i vid vcm o h c v).rb (TBS_TB_RX_SHORT i) = (s.condSet h (TBS_TB_RX_SHORT i) v).rb (TBS_TB_RX_SHORT i) ∧
      (s.rxConds i vid vcm o h c v).rb (TBS_TB_RX_CM i) = (s.condSet c (TBS_TB_RX_CM i) v).rb (TBS_TB_RX_CM i) := by
  obtain ⟨hos, hoc, hsc⟩ := rxKeys_ne i
  rw [State.rb, State.rb, State.rb, State.rb, State.rb, State.rb, State.rxConds, condSet_rf_ne v hoc, condSet_rf_ne v hos,
    condSet_rf_congr v (rxRead_rf (.inl rfl)), condSet_rf_ne v hsc,
    condSet_rf_congr v ((condSet_rf_ne v hos.symm).trans (rxRead_rf (.inr (.inl rfl)))),
    condSet_rf_congr v ((condSet_rf_ne v hsc.symm).trans ((condSet_rf_ne v hoc.symm).trans (rxRead_rf (.inr (.inr rfl)))))]
  exact ⟨rfl, rfl, rfl⟩

end

theorem rx_runs {i at_ : Nat} (hi : i < 8) (hp : s.powered = true) (hb : s.keeper.bench = false) :
    ¬(8 ≤ i ∨ (!(s.at at_).powered) = true ∨ (s.at at_).keeper.bench = true) := by
  rw [show (s.at at_).powered = true from hp, show (s.at at_).keeper.bench = false from hb]
  simpa using hi

theorem exec_rxFaultDetect {i at_ : Nat} (vid vcm : Int) (hi : i < 8) (hp : s.powered = true) (hb : s.keeper.bench = false) :
    exec (.rxFaultDetect i vid vcm at_) s =
      .next (((s.at at_).rxConds i vid vcm (rxOpen vid vcm) (rxShort vid vcm) (rxCm vcm) 1).rxSet i) :=
  congrArg Host.Outcome.next (if_neg (rx_runs hi hp hb))

theorem exec_rxFaultClear {i at_ : Nat} (vid vcm : Int) (hi : i < 8) (hp : s.powered = true) (hb : s.keeper.bench = false) :
    exec (.rxFaultClear i vid vcm at_) s =
      .next (((s.at at_).rxConds i vid vcm (!rxOpen vid vcm) (!rxShort vid vcm) (!rxCm vcm) 0).rxSet i) := by
  have hcond : ∀ (u : State) (b : Bool) (k : Fk), u.condSet (!b) k 0 = if b then u else u.wf k 0 := fun u b k => by cases b <;> rfl
  rw [show exec (.rxFaultClear i vid vcm at_) s = execRxFaultClear i vid vcm at_ s from rfl, execRxFaultClear]
  refine congrArg Host.Outcome.next ((if_neg (rx_runs hi hp hb)).trans ?_)
  rw [State.rxConds, hcond, hcond, hcond]

/-! ### Temperatures and coolant -/

theorem tempRead_alarms (p : Nat) (c : Int) :
    ((s.tempRead p c).plain p).warn = (s.plain p).warn ∧ ((s.tempRead p c).plain p).crit = (s.plain p).crit := by
  rw [State.tempRead]
  simp only [State.plain_updPlain_self, State.wfs_plain]
  split
  · exact ⟨rfl, rfl⟩
  · split <;> exact ⟨rfl, rfl⟩

theorem sensed_runs {p at_ : Nat} {lim temp : Int} (hs : s.sensed p = true) (hl : lim ≤ temp) :
    ¬((!(s.at at_).sensed p) = true ∨ temp < lim) := by
  rw [show (s.at at_).sensed p = true from hs]
  simpa using hl

theorem exec_thermalWarn {p at_ : Nat} {temp : Int} (hs : s.sensed p = true) (hl : s.warnC p ≤ temp) :
    exec (.thermalWarn p temp at_) s = .next (if (s.plain p).warn then (s.at at_).tempRead p temp
      else (((s.at at_).tempRead p temp).updPlain p fun q => { q with warn := true }).raise 0x9001 (plainPage p 3)) := by
  rw [show exec (.thermalWarn p temp at_) s = execThermalWarn p temp at_ s from rfl, execThermalWarn]
  refine congrArg Host.Outcome.next ((if_neg (sensed_runs hs (show (s.at at_).warnC p ≤ temp from hl))).trans ?_)
  simp only [(tempRead_alarms p temp).1]
  rfl

theorem critical_at {p at_ : Nat} {temp : Int} (hc : (s.plain p).crit = false) :
    ((s.at at_).tempRead p temp).critical p =
      (((s.at at_).tempRead p temp).updPlain p fun q => { q with crit := true }).raise 0x9002 (plainPage p 3) := by
  rw [State.critical, (tempRead_alarms p temp).2]
  exact if_neg fun h => absurd (hc.symm.trans h) (by decide)

theorem exec_coolantFlow {flow inlet outlet drop at_ : Nat} (hp : s.powered = true) (hl : flow < s.rf PWR_COOLANT_LIMITS_FLOW_MIN)
    (hb : s.keeper.flowBad = false) : exec (.coolantFlow flow inlet outlet drop at_) s =
      .next ((((s.at at_).coolRead flow inlet outlet drop).updKeeper fun k => { k with flowBad := true }).raise 0x9003 pgPWR) := by
  have hk : ((s.at at_).coolRead flow inlet outlet drop).keeper = s.keeper := State.keeper_wfs ..
  rw [show exec (.coolantFlow flow inlet outlet drop at_) s = execCoolantFlow flow inlet outlet drop at_ s from rfl, execCoolantFlow]
  refine congrArg Host.Outcome.next ((if_neg ?_).trans (if_neg ?_))
  · rw [show (s.at at_).powered = true from hp]
    simpa using hl
  · rw [hk, hb]
    decide

theorem exec_coolantTemp {flow inlet outlet drop at_ : Nat} (hp : s.powered = true) (hl : s.rf PWR_COOLANT_LIMITS_INLET_MAX_C < inlet)
    (hb : s.keeper.hotInlet = false) : exec (.coolantTemp flow inlet outlet drop at_) s =
      .next ((((s.at at_).coolRead flow inlet outlet drop).updKeeper fun k => { k with hotInlet := true }).raise 0x9004 pgPWR) := by
  have hk : ((s.at at_).coolRead flow inlet outlet drop).keeper = s.keeper := State.keeper_wfs ..
  rw [show exec (.coolantTemp flow inlet outlet drop at_) s = execCoolantTemp flow inlet outlet drop at_ s from rfl, execCoolantTemp]
  refine congrArg Host.Outcome.next ((if_neg ?_).trans (if_neg ?_))
  · rw [show (s.at at_).powered = true from hp]
    simpa using hl
  · rw [hk, hb]
    decide

/-! ### SMBus -/

theorem smbusReply_up (h : s.smbusUp = true) (len data : Nat) : s.smbusReply len data = s.emit (.smbus len (data % 2 ^ (8 * len))) := by
  rw [State.smbusReply, if_pos h]

/-- The lowest field of equal fields put together. -/
theorem sum_fields_low (f : Nat → Nat) (w n : Nat) : ((List.range (n + 1)).map fun j => f j * 2 ^ (w * j)).sum % 2 ^ w = f 0 % 2 ^ w := by
  induction n with
  | zero => simp
  | succ n ih =>
    rw [List.range_succ, List.map_append, List.sum_append, List.map_singleton, List.sum_singleton, Nat.add_mod, ih,
      show w * (n + 1) = w + w * n by ring, Nat.pow_add, Nat.mul_left_comm, Nat.mul_mod_right, Nat.add_zero, Nat.mod_mod]

/-- An answer's low bits are those of its data. -/
theorem reply_low {data len w : Nat} (h : w ≤ 8 * len) : data % 2 ^ (8 * len) % 2 ^ w = data % 2 ^ w :=
  Nat.mod_mod_of_dvd _ (Nat.pow_dvd_pow 2 h)

theorem connector_smbus (h : s.smbusUp = true) :
    (∃ d, exec .smbusStatus s = .next (s.emit (.smbus 8 d)) ∧ bits d 0 1 = s.rf MOD_STATUS_READY % 2) ∧
    (∃ d, exec .smbusIdHash s = .next (s.emit (.smbus 48 d)) ∧ d % 2 ^ 64 = s.kept (SEC_ID_HASH_HASH 0) % 2 ^ 64) ∧
    (∃ d, exec .smbusSupply s = .next (s.emit (.smbus 8 d)) ∧ d % 2 ^ 16 = s.rf PWR_SUPPLY_MV_NOW % 2 ^ 16) ∧
    (∃ d, exec .smbusTemps s = .next (s.emit (.smbus 64 d)) ∧ d % 2 ^ 8 = s.rf (DRP_TEMP_NOW_C 0) % 2 ^ 8) ∧
    (∃ d, exec .smbusCoolant s = .next (s.emit (.smbus 8 d)) ∧ d % 2 ^ 16 = s.rf PWR_COOLANT_FLOW % 2 ^ 16) ∧
    (∃ d, exec .smbusFault s = .next (s.emit (.smbus 16 d)) ∧ d % 2 ^ 64 = s.readHeader (pgFLT + 0x20) % 2 ^ 64) := by
  refine ⟨⟨_, congrArg Host.Outcome.next (smbusReply_up h _ _), ?_⟩, ⟨_, congrArg Host.Outcome.next (smbusReply_up h _ _), ?_⟩,
    ⟨_, congrArg Host.Outcome.next (smbusReply_up h _ _), ?_⟩, ⟨_, congrArg Host.Outcome.next (smbusReply_up h _ _), ?_⟩,
    ⟨_, congrArg Host.Outcome.next (smbusReply_up h _ _), ?_⟩, ⟨_, congrArg Host.Outcome.next (smbusReply_up h _ _), ?_⟩⟩
  · rw [bits, pow_zero, Nat.div_one, reply_low (by decide)]
    omega
  · rw [reply_low (by decide)]
    exact sum_fields_low (fun j => s.kept (SEC_ID_HASH_HASH j)) 64 5
  · rw [reply_low (by decide)]
    omega
  · rw [reply_low (by decide)]
    exact sum_fields_low (fun p => s.rf (DRP_TEMP_NOW_C p)) 8 63
  · rw [reply_low (by decide)]
    omega
  · rw [reply_low (by decide)]
    exact Nat.add_mul_mod_self_left ..

theorem exec_smbusAlertResponse {adr : Nat} (h : s.smbusUp = true) (ha : adr < 8) :
    exec (.smbusAlertResponse adr) s = .next (if s.keeper.alert then
      (s.updKeeper fun k => { k with alert := false }).emit (.smbusAddr (0x58 + adr)) else s.emit .smbusNack) := by
  rw [show exec (.smbusAlertResponse adr) s = execSmbusAlertResponse adr s from rfl, execSmbusAlertResponse, Nat.mod_eq_of_lt ha]
  exact congrArg Host.Outcome.next (if_neg (by rw [h]; decide))

/-! ### The TAP -/

theorem exec_jtagTapInstruction (i : TapInstr) (hv : s.keeper.vio = true) (hp : s.powered = true) :
    exec (.jtagTapInstruction (some i) true) s = .next (if s.tapTakes i then
      (s.updKeeper fun k => { k with trst := true, tap := i }).emit (.tap i true)
      else (s.updKeeper fun k => { k with trst := true }).emit (.tap i false)) := by
  rw [show exec (.jtagTapInstruction (some i) true) s = execJtagTapInstruction (some i) true s from rfl, execJtagTapInstruction]
  exact congrArg Host.Outcome.next (if_neg (by rw [hv, hp]; decide))

end

/-! ### The obligation, part by part -/

section
variable (s : State)

theorem connector_receivers (i at_ : Nat) (vid vcm : Int) (hi : i < 8) (hp : s.powered = true) (hb : s.keeper.bench = false) :
    (∃ s', exec (.rxFaultDetect i vid vcm at_) s = .next s' ∧ s'.rb (TBS_TB_RX_OPEN i) = (s.rb (TBS_TB_RX_OPEN i) || rxOpen vid vcm) ∧
      s'.rb (TBS_TB_RX_SHORT i) = (s.rb (TBS_TB_RX_SHORT i) || rxShort vid vcm) ∧
      s'.rb (TBS_TB_RX_CM i) = (s.rb (TBS_TB_RX_CM i) || rxCm vcm) ∧ s'.rf (TBS_TB_RX_VID_MV i) = ofSigned vid 16 ∧ BytesKept s s') ∧
    (∃ s', exec (.rxFaultClear i vid vcm at_) s = .next s' ∧ s'.rb (TBS_TB_RX_OPEN i) = (s.rb (TBS_TB_RX_OPEN i) && rxOpen vid vcm) ∧
      s'.rb (TBS_TB_RX_SHORT i) = (s.rb (TBS_TB_RX_SHORT i) && rxShort vid vcm) ∧
      s'.rb (TBS_TB_RX_CM i) = (s.rb (TBS_TB_RX_CM i) && rxCm vcm) ∧ BytesKept s s') := by
  have hset : ∀ (u : State) j, (u.rxSet i).rb j = u.rb j := fun _ _ => rfl
  obtain ⟨hopen, hshort, hcm⟩ := rxConds_rb (s := s.at at_) (i := i) (v := 1) (vid := vid) (vcm := vcm) (o := rxOpen vid vcm)
    (h := rxShort vid vcm) (c := rxCm vcm)
  obtain ⟨hopen', hshort', hcm'⟩ := rxConds_rb (s := s.at at_) (i := i) (v := 0) (vid := vid) (vcm := vcm) (o := !rxOpen vid vcm)
    (h := !rxShort vid vcm) (c := !rxCm vcm)
  refine ⟨⟨_, exec_rxFaultDetect vid vcm hi hp hb, ?_, ?_, ?_, rxConds_vid, .of_at (now := at_) (.of_mem rxConds_mem)⟩,
    ⟨_, exec_rxFaultClear vid vcm hi hp hb, ?_, ?_, ?_, .of_at (now := at_) (.of_mem rxConds_mem)⟩⟩
  · rw [hset, hopen, condSet_set rfl]
    rfl
  · rw [hset, hshort, condSet_set rfl]
    rfl
  · rw [hset, hcm, condSet_set rfl]
    rfl
  · rw [hset, hopen', condSet_clear]
    rfl
  · rw [hset, hshort', condSet_clear]
    rfl
  · rw [hset, hcm', condSet_clear]
    rfl

theorem connector_thermal (p at_ : Nat) (temp : Int) (hs : s.sensed p = true) :
    (s.warnC p ≤ temp → (s.plain p).warn = false → exec (.thermalWarn p temp at_) s =
      .next ((((s.at at_).tempRead p temp).updPlain p fun q => { q with warn := true }).raise 0x9001 (plainPage p 3))) ∧
    (s.warnC p ≤ temp → (s.plain p).warn = true → exec (.thermalWarn p temp at_) s = .next ((s.at at_).tempRead p temp)) ∧
    (s.critC p ≤ temp → (s.plain p).crit = false → exec (.thermalCrit p temp at_) s =
      .next ((((s.at at_).tempRead p temp).updPlain p fun q => { q with crit := true }).raise 0x9002 (plainPage p 3))) ∧
    (115 ≤ temp → exec (.thermalHardwareTrip p temp at_) s =
      .next ((((s.at at_).tempRead p temp).doFence p 3).critical p)) ∧
    exec (.thermalFaultClear (some p) temp 0 0 0 0 at_) s = .next (((s.at at_).tempRead p temp).updPlain p fun q =>
      { q with warn := q.warn && decide (s.warnC p ≤ temp), crit := q.crit && decide (s.critC p ≤ temp) }) := by
  refine ⟨fun hl hw => (exec_thermalWarn hs hl).trans (congrArg _ (if_neg (by rw [hw]; decide))),
    fun hl hw => (exec_thermalWarn hs hl).trans (congrArg _ (if_pos hw)), fun hl hc => ?_, fun hl => ?_, ?_⟩
  · exact congrArg Host.Outcome.next ((if_neg (sensed_runs hs (show (s.at at_).critC p ≤ temp from hl))).trans (critical_at hc))
  · exact congrArg Host.Outcome.next (if_neg (sensed_runs hs hl))
  · exact congrArg Host.Outcome.next (if_neg (by rw [show (s.at at_).sensed p = true from hs]; decide))

theorem connector_coolant (flow inlet outlet drop at_ : Nat) (hp : s.powered = true) :
    let s1 := (s.at at_).coolRead flow inlet outlet drop
    (flow < s.rf PWR_COOLANT_LIMITS_FLOW_MIN → s.keeper.flowBad = false → exec (.coolantFlow flow inlet outlet drop at_) s =
      .next ((s1.updKeeper fun k => { k with flowBad := true }).raise 0x9003 pgPWR)) ∧
    (s.rf PWR_COOLANT_LIMITS_INLET_MAX_C < inlet → s.keeper.hotInlet = false → exec (.coolantTemp flow inlet outlet drop at_) s =
      .next ((s1.updKeeper fun k => { k with hotInlet := true }).raise 0x9004 pgPWR)) ∧
    exec (.thermalFaultClear none 0 flow inlet outlet drop at_) s = .next (s1.updKeeper fun k =>
      { k with
        flowBad := k.flowBad && decide (flow < s.rf PWR_COOLANT_LIMITS_FLOW_MIN)
        hotInlet := k.hotInlet && decide (s.rf PWR_COOLANT_LIMITS_INLET_MAX_C < inlet) }) :=
  ⟨fun hl hb => exec_coolantFlow hp hl hb, fun hl hb => exec_coolantTemp hp hl hb,
    congrArg Host.Outcome.next (if_neg (by rw [show (s.at at_).powered = true from hp]; decide))⟩

end

/-- Settles O59. -/
theorem connector : Obligations.Connector := by
  unfold Obligations.Connector
  refine ⟨connector_receivers, connector_thermal, connector_coolant, fun s h => ?_, fun s => ⟨rfl, rfl⟩,
    fun s i hv hp => ⟨fun ht => ?_, fun ht => ?_⟩, fun s hp => congrArg Host.Outcome.next (if_pos hp)⟩
  · obtain ⟨hstatus, hid, hsupply, htemps, hcool, hfault⟩ := connector_smbus h
    refine ⟨hstatus, hid, hsupply, htemps, hcool, hfault, fun adr ha => ⟨fun hal => ?_, fun hal => ?_⟩, fun code hc => ?_⟩
    · exact (exec_smbusAlertResponse h ha).trans (congrArg _ (if_pos hal))
    · exact (exec_smbusAlertResponse h ha).trans (congrArg _ (if_neg (by rw [hal]; decide)))
    · refine congrArg Host.Outcome.next (if_pos ⟨h, ?_⟩)
      simp only [Bool.not_eq_eq_eq_not, Bool.not_true, decide_eq_false_iff_not]
      omega
  · exact (exec_jtagTapInstruction i hv hp).trans (congrArg _ (if_pos ht))
  · exact (exec_jtagTapInstruction i hv hp).trans (congrArg _ (if_neg (by rw [ht]; decide)))

end Sys2Proof.Machine

/-! PROOF. The register surface, apertures and latches: O60. -/

namespace Sys2Proof.Machine

section
variable {s : State}

/-! ### Register accesses -/

theorem hostWrite_taken {f off o v : Nat} (hspot : spotOf f off = .reg o) (hal : off % 8 = 0) (hup : s.barUp f = true)
    (hf : s.frozen = false) : s.hostWrite f off v = s.regWrite (ownerOf f) o v := by
  rw [State.hostWrite, hspot]
  dsimp only
  rw [if_neg (by simp [hup, hal]), if_neg (by simp [hf])]

theorem hostWrite_held {f off o v : Nat} (hspot : spotOf f off = .reg o) (hf : s.frozen = true) (hh : heldWrite o v = false) :
    s.hostWrite f off v = s := by
  rw [State.hostWrite, hspot]
  dsimp only
  split
  · rfl
  · exact if_pos (by simp [hf, hh])

theorem hostRead_reg {f off o : Nat} (hspot : spotOf f off = .reg o) (hal : off % 8 = 0) (hup : s.barUp f = true) :
    s.hostRead f off = (s.regRead (ownerOf f) o).2.emit (.rdata (s.regRead (ownerOf f) o).1) := by
  rw [State.hostRead, if_neg (by simp [hup, hal]), hspot]

/-- A write to a block register of a page that is READY. -/
theorem regWrite_block {w : Owner} {off v n rel : Nat} {kd : PageKind} (hp : pageAt off = some (kd, n, rel)) (hrel : 0x100 ≤ rel)
    (hr : s.pageReady off = true) : s.regWrite w off v = s.blockWrite w kd n rel v := by
  rw [State.regWrite, hp]
  dsimp only
  rw [if_neg (by omega), if_neg (by rw [hr]; decide)]

theorem spotOf_pf0 {off : Nat} (h : off < 0x400000) : spotOf 0 off = .reg off := (if_pos rfl).trans (if_pos h)

theorem pageReady_sameBase {a b n m ra rb : Nat} {kd : PageKind} (ha : pageAt a = some (kd, n, ra)) (hb : pageAt b = some (kd, m, rb))
    (hkd : kd ≠ .tile) (hbase : pageBase a = pageBase b) : s.pageReady a = s.pageReady b := by
  rw [State.pageReady, State.pageReady, ha, hb, hbase]
  cases kd
  case tile => exact absurd rfl hkd
  all_goals rfl

theorem registerWrite_flt (v : BitVec 64) (hup : s.barUp 0 = true) (hf : s.frozen = false) (hr : s.pageReady pgFLT = true) :
    exec (.registerWrite 0 (pgFLT + 0x100) v) s = .next (s.writeWord (pgFLT + 0x100) v.toNat (2 ^ 64 - 1)) := by
  have hr' : s.pageReady (pgFLT + 0x100) = true :=
    (pageReady_sameBase (a := pgFLT + 0x100) (b := pgFLT) (kd := .flt) (n := 0) (ra := 0x100) (m := 0) (rb := 0) rfl rfl (by decide) rfl).trans hr
  refine congrArg Host.Outcome.next ((hostWrite_taken (spotOf_pf0 (by decide)) (by decide) hup hf).trans ?_)
  rw [regWrite_block (kd := .flt) (n := 0) (rel := 0x100) (by decide) (by decide) hr', State.blockWrite]
  exact if_neg (by decide)

theorem registerWrite_jtagResp {k : Nat} (v : BitVec 64) (hk : k < 6) (hup : s.barUp 0 = true) (hf : s.frozen = false)
    (hr : s.pageReady pgSEC = true) :
    exec (.registerWrite 0 (pgSEC + 0x180 + 8 * k) v) s = .next (s.wf (SEC_JTAG_RESP_SIG k) v.toNat) := by
  have hpage : pageAt (pgSEC + 0x180 + 8 * k) = some (.sec, 0, 0x180 + 8 * k) := by interval_cases k <;> rfl
  have hr' : s.pageReady (pgSEC + 0x180 + 8 * k) = true :=
    (pageReady_sameBase hpage (b := pgSEC) (m := 0) (rb := 0) rfl (by decide) (by interval_cases k <;> rfl)).trans hr
  have hoff : pgSEC + 0x180 + 8 * k < 0x400000 ∧ (pgSEC + 0x180 + 8 * k) % 8 = 0 := by
    rw [show pgSEC = 0x6000 from rfl]
    omega
  refine congrArg Host.Outcome.next ((hostWrite_taken (spotOf_pf0 hoff.1) hoff.2 hup hf).trans ?_)
  rw [regWrite_block hpage (by omega) hr', State.blockWrite, State.secWord, if_neg (by omega), if_pos (by omega),
    show (0x180 + 8 * k - 0x180) / 8 = k by omega]

/-! ### A counter read and cleared -/

theorem pageAt_meshPage {p r : Nat} (hp : p < 64) (hr : r < 0x1000) : pageAt (plainPage p 1 + r) = some (.mesh, p, r) := by
  have hoff : plainPage p 1 + r = 0x200000 + p * 0x4000 + 0x1000 + r := by rw [plainPage, Nat.one_mul]
  have hrel : (0x200000 + p * 0x4000 + 0x1000 + r) % 0x1000 = r := by omega
  have hplain : (0x200000 + p * 0x4000 + 0x1000 + r - 0x200000) / 0x4000 = p := by omega
  have hpage : (0x200000 + p * 0x4000 + 0x1000 + r - 0x200000) / 0x1000 % 4 = 1 := by omega
  rw [hoff, pageAt]
  simp only [hrel, hplain, hpage]
  rw [if_neg (by omega), if_neg (by omega), if_neg (by omega), if_neg (by omega), if_neg (by omega), if_neg (by omega),
    if_neg (by omega), if_pos (by omega)]

/-- The one field of the word of ORPHANS. -/
theorem fieldsAt_orphans {p : Nat} (hp : p < 64) : fieldsAt (MESH_ORPHANS_COUNT p).off = [⟨0x128, [], 0, 32, .rc, false, 0⟩] := by
  rw [fieldsAt, show (MESH_ORPHANS_COUNT p).off = plainPage p 1 + 0x128 from rfl, pageAt_meshPage hp (by decide)]
  rfl

theorem readField_orphans {p : Nat} (hp : p < 64) : s.readField (MESH_ORPHANS_COUNT p).off ⟨0x128, [], 0, 32, .rc, false, 0⟩ =
    if s.rb (hCTRL_CNT_FREEZE (plainPage p 1)) then sget (keyReset (MESH_ORPHANS_COUNT p).key) s.cap (MESH_ORPHANS_COUNT p).key
    else s.rf (MESH_ORPHANS_COUNT p) := by
  have hview : s.view (plainPage p 1 + 0x128) 0 = none := by
    rw [State.view, pageAt_meshPage hp (by decide)]
    rfl
  have hbase : pageBase (plainPage p 1 + 0x128) = plainPage p 1 := pageBase_aligned (plainPage_aligned p 1) (by decide)
  rw [State.readField]
  dsimp only [MESH_ORPHANS_COUNT]
  rw [if_neg (by decide), hview]
  simp only [hbase, decide_true, Bool.true_and, Bool.false_and, Bool.false_eq_true, if_false]

theorem regRead_orphans {p : Nat} (w : Owner) (hp : p < 64) (hr : s.pageReady (plainPage p 1) = true) :
    s.regRead w (MESH_ORPHANS_COUNT p).off = if s.rb (hCTRL_CNT_FREEZE (plainPage p 1)) then
      (sget (keyReset (MESH_ORPHANS_COUNT p).key) s.cap (MESH_ORPHANS_COUNT p).key, s)
      else (s.rf (MESH_ORPHANS_COUNT p), s.wf (MESH_ORPHANS_COUNT p) 0) := by
  have hoff : (MESH_ORPHANS_COUNT p).off = plainPage p 1 + 0x128 := rfl
  have hpage : pageAt (MESH_ORPHANS_COUNT p).off = some (.mesh, p, 0x128) := pageAt_meshPage hp (by decide)
  have hbase : pageBase (MESH_ORPHANS_COUNT p).off = plainPage p 1 := pageBase_aligned (plainPage_aligned p 1) (by decide)
  have hready : s.pageReady (MESH_ORPHANS_COUNT p).off = true :=
    (pageReady_sameBase hpage (pageAt_meshPage (r := 0) hp (by decide)) (by decide)
      (hbase.trans (pageBase_aligned (r := 0) (plainPage_aligned p 1) (by decide)).symm)).trans hr
  have hwin : s.window (MESH_ORPHANS_COUNT p).off = none := by
    rw [State.window, hpage]
  have hrel : ¬((MESH_ORPHANS_COUNT p).off % 0x1000 < 0x100 ∧ (pageAt (MESH_ORPHANS_COUNT p).off).isSome = true) := by
    rw [hoff]
    have := plainPage_aligned p 1
    omega
  have hword : s.regWord (MESH_ORPHANS_COUNT p).off =
      s.readField (MESH_ORPHANS_COUNT p).off ⟨0x128, [], 0, 32, .rc, false, 0⟩ := by
    rw [State.regWord, hready, if_neg (by decide), if_neg hrel, hwin, fieldsAt_orphans hp]
    simp
  have hclear : s.regClear (MESH_ORPHANS_COUNT p).off =
      if s.rb (hCTRL_CNT_FREEZE (plainPage p 1)) then s else s.wf (MESH_ORPHANS_COUNT p) 0 := by
    rw [State.regClear, hready, hbase, fieldsAt_orphans hp, List.foldl_cons, List.foldl_nil, if_pos rfl]
    cases s.rb (hCTRL_CNT_FREEZE (plainPage p 1))
    · exact (if_pos ⟨rfl, rfl⟩).trans (if_neg Bool.false_ne_true).symm
    · exact (if_neg fun h => absurd h.2 (by decide)).trans (if_pos rfl).symm
  rw [State.regRead, hpage]
  dsimp only
  rw [hready, if_neg (by decide), if_neg (by decide), if_neg (by decide), if_neg (by decide), if_neg (by decide), hword, hclear,
    readField_orphans hp]
  split <;> rfl

/-! ### Accesses of other sizes -/

theorem misaligned_runs {f off bytes : Nat} (hup : s.barUp f = true) (h1 : 1 ≤ bytes) (hs : bytes < 8 ∨ (bytes = 8 ∧ off % 8 ≠ 0)) :
    ¬((!s.barUp f || bytes == 0 || decide (8 < bytes) || (bytes == 8 && off % 8 == 0)) = true) := by
  rw [hup]
  simp only [Bool.not_true, Bool.false_or, Bool.or_eq_true, beq_iff_eq, decide_eq_true_eq, Bool.and_eq_true]
  omega

/-- What a misaligned access of a register's word leaves. -/
def State.badAccess (s : State) (f off bytes : Nat) (wr : Bool) : State :=
  (if s.rf HST_BAD_ACCESS_BYTES = 0 then s.wfs [(HST_BAD_ACCESS_OFFSET, off), (HST_BAD_ACCESS_BYTES, bytes),
    (HST_BAD_ACCESS_WRITE, b2n wr), (HST_BAD_ACCESS_FUNC, f)] else s).raise 0x4001 pgHST

theorem exec_misaligned_reg {f off o bytes : Nat} {wr : Bool} (hup : s.barUp f = true) (hspot : spotOf f off = .reg o) (h1 : 1 ≤ bytes)
    (hs : bytes < 8 ∨ (bytes = 8 ∧ off % 8 ≠ 0)) : exec (.misalignedRegisterAccess f off bytes wr) s =
      .next (if inRegisters o then (if wr then s else s.emit (.rdata 0)).badAccess f off bytes wr
        else if wr then s else s.emit (.rdata 0)) := by
  rw [show exec (.misalignedRegisterAccess f off bytes wr) s = execMisalignedRegisterAccess f off bytes wr s from rfl,
    execMisalignedRegisterAccess]
  refine congrArg Host.Outcome.next ((if_neg (misaligned_runs hup h1 hs)).trans ?_)
  rw [hspot, State.badAccess]
  dsimp only
  cases inRegisters o <;> rfl

theorem exec_misaligned_none {f off bytes : Nat} {wr : Bool} (hup : s.barUp f = true) (hspot : spotOf f off = .none) (h1 : 1 ≤ bytes)
    (h8 : bytes < 8) : exec (.misalignedRegisterAccess f off bytes wr) s = .next (if wr then s else s.emit (.rdata 0)) := by
  rw [show exec (.misalignedRegisterAccess f off bytes wr) s = execMisalignedRegisterAccess f off bytes wr s from rfl,
    execMisalignedRegisterAccess]
  refine congrArg Host.Outcome.next ((if_neg (misaligned_runs hup h1 (.inl h8))).trans ?_)
  rw [hspot]

/-! ### PAGE_CTRL -/

/-- The fields that a write of PAGE_CTRL sets. -/
def State.ctrlWritten (s : State) (pg v : Nat) : State :=
  ((((s.countTime pg).wf (hCTRL_SHADOW_VIEW pg) (bits v (hCTRL_SHADOW_VIEW pg).lo 1)).wf (hCTRL_STAGE_IRQ pg)
    (bits v (hCTRL_STAGE_IRQ pg).lo 1)).wf (hCTRL_BLOCK pg) (bits v 32 32)).wf (hCTRL_CNT_FREEZE pg) (b2n (v.testBit 1))

theorem block_full (old v : Nat) :
    (old &&& (bits (2 ^ 64 - 1) 32 32 ^^^ (2 ^ 32 - 1))) ||| (bits v 32 32 &&& bits (2 ^ 64 - 1) 32 32) = bits v 32 32 := by
  rw [show bits (2 ^ 64 - 1) 32 32 = 2 ^ 32 - 1 by decide, Nat.xor_self, Nat.and_zero, Nat.zero_or, Nat.and_two_pow_sub_one_eq_mod, bits,
    Nat.mod_mod]

/-- Beside those fields a write of PAGE_CTRL changes the captured counters alone. -/
theorem writeCtrl_view {β : Type} (view : State → β) (hcap : ∀ (u : State) c, view { u with cap := c } = view u) (pg v : Nat) :
    view (s.writeCtrl pg v (2 ^ 64 - 1)) = view (s.ctrlWritten pg v) := by
  have h1 : (2 ^ 64 - 1).testBit 1 = true := by decide
  have hview : (2 ^ 64 - 1).testBit (hCTRL_SHADOW_VIEW pg).lo = true := by rw [show (hCTRL_SHADOW_VIEW pg).lo = 2 from rfl]; decide
  have hirq : (2 ^ 64 - 1).testBit (hCTRL_STAGE_IRQ pg).lo = true := by rw [show (hCTRL_STAGE_IRQ pg).lo = 3 from rfl]; decide
  rw [State.writeCtrl]
  simp only [List.foldl_cons, List.foldl_nil, hview, hirq, h1, if_true, block_full, Bool.not_true, Bool.false_eq_true, if_false]
  rw [State.ctrlWritten]
  split
  · exact hcap _ _
  · split
    · exact hcap _ _
    · rfl

theorem writeCtrl_freeze (pg v : Nat) : (s.writeCtrl pg v (2 ^ 64 - 1)).rb (hCTRL_CNT_FREEZE pg) = v.testBit 1 := by
  rw [State.rb, writeCtrl_view (State.rf · (hCTRL_CNT_FREEZE pg)) (fun _ _ => rfl), State.ctrlWritten, State.rf_wf_self]
  cases v.testBit 1 <;> rfl

theorem writeCtrl_block (pg v : Nat) : (s.writeCtrl pg v (2 ^ 64 - 1)).rf (hCTRL_BLOCK pg) = bits v 32 32 := by
  rw [writeCtrl_view (State.rf · (hCTRL_BLOCK pg)) (fun _ _ => rfl), State.ctrlWritten,
    State.rf_wf_ne _ _ (by simp only [Fk.key, hCTRL_BLOCK, hCTRL_CNT_FREEZE]; omega), State.rf_wf_self]
  exact Nat.mod_mod _ _

/-- The fields of PAGE_CTRL. -/
def ctrlFields (pg : Nat) : List Fk := [hCTRL_CNT_FREEZE pg, hCTRL_SHADOW_VIEW pg, hCTRL_STAGE_IRQ pg, hCTRL_BLOCK pg]

theorem writeCtrl_kept {pg : Nat} (v : Nat) (hc : s.countTime pg = s) : RegsKept s (s.writeCtrl pg v (2 ^ 64 - 1)) (ctrlFields pg) := by
  intro j hj
  have hne : ∀ k ∈ ctrlFields pg, j.key ≠ k.key := fun k hk => (hj k hk).symm
  rw [writeCtrl_view (State.rf · j) (fun _ _ => rfl), State.ctrlWritten, State.rf_wf_ne _ _ (hne _ (by simp [ctrlFields])),
    State.rf_wf_ne _ _ (hne _ (by simp [ctrlFields])), State.rf_wf_ne _ _ (hne _ (by simp [ctrlFields])),
    State.rf_wf_ne _ _ (hne _ (by simp [ctrlFields])), hc]

theorem exec_cntFreezeWrite {f pg : Nat} (v : BitVec 64) (h : s.mayWrite f (pageBase pg) = true) :
    exec (.cntFreezeWrite f pg v) s = .next (s.writeCtrl (pageBase pg) v.toNat (2 ^ 64 - 1)) := congrArg Host.Outcome.next (if_pos h)

theorem partKind_part {i : Nat} (hi : i < 10) : ∃ kd, partKind i = some kd ∧ isPartPage kd = true := by
  interval_cases i <;> exact ⟨_, rfl, rfl⟩

theorem mayWrite_partPage {f n i : Nat} (hn : n < 16) (hi : i < 10) (hw : s.writes f n = true) : s.mayWrite f (partPage n i) = true := by
  obtain ⟨kd, hkd, hpart⟩ := partKind_part hi
  have h0 : pageAt (partPage n i) = some (kd, n, 0) := by
    refine (pageAt_partPage (rel := 0) hn (by omega) (by decide)).trans ?_
    rw [hkd]
    rfl
  rw [State.mayWrite, h0]
  split
  · rename_i h
    cases h
    exact absurd hpart (by decide)
  · rename_i h
    cases h
    exact (if_pos hpart).trans hw
  · rename_i h
    cases h

theorem countTime_partPage {n i : Nat} (hn : n < 16) (hi : i < 10) : s.countTime (partPage n i) = s := by
  obtain ⟨kd, hkd, hpart⟩ := partKind_part hi
  have h0 : pageAt (partPage n i) = some (kd, n, 0) := by
    refine (pageAt_partPage (rel := 0) hn (by omega) (by decide)).trans ?_
    rw [hkd]
    rfl
  rw [State.countTime, h0]
  split
  · rename_i h
    cases h
    exact absurd hpart (by decide)
  · rfl

/-! ### SR-IOV -/

theorem mem_vfs (n k : Nat) (msix : List Nat) :
    (k ∈ (List.range n).filterMap fun i => if msix.contains (i + 1) then some (i + 1) else none) ↔ 1 ≤ k ∧ k ≤ n ∧ k ∈ msix := by
  rw [List.mem_filterMap]
  constructor
  · rintro ⟨i, hi, h⟩
    obtain ⟨hin, hk⟩ := Option.ite_none_right_eq_some.mp h
    obtain rfl := Option.some.inj hk
    exact ⟨Nat.le_add_left _ _, List.mem_range.mp hi, List.contains_iff_mem.mp hin⟩
  · rintro ⟨h1, hn, hin⟩
    refine ⟨k - 1, List.mem_range.mpr (by omega), ?_⟩
    rw [show k - 1 + 1 = k by omega, if_pos (List.contains_iff_mem.mpr hin)]

/-! ### Apertures -/

theorem neighbour_lt {u d w : Nat} (hu : u < 262144) (h : neighbour u d = some w) : w < 262144 := by
  have hx : tileX u < 512 := Nat.mod_lt _ (by decide)
  have hy : tileY u < 512 := by rw [tileY]; omega
  rw [neighbour] at h
  have hw : ∀ {c : Prop} [Decidable c] {x y : Nat}, (if c then some (tileAt x y) else none) = some w → c ∧ w = y * 512 + x := fun h => by
    obtain ⟨hc, hw⟩ := Option.ite_none_right_eq_some.mp h
    exact ⟨hc, (Option.some.inj hw).symm⟩
  split at h <;> obtain ⟨hc, rfl⟩ := hw h <;> omega

/-- Flits carried between tiles of the module are counted at the plains that they leave, and change nothing else. -/
theorem carryFrom_keeps {β : Type} (view : State → β) {n : Nat}
    (hbump : ∀ (u : State) p, p < 64 → view (u.bump (MESH_PKT_FLITS_COUNT p) n) = view u) (v : Nat) (col : Bool) (fuel : Nat) :
    ∀ (s : State) (u : Nat) (ph : Bool), u < 262144 → view (State.carryFrom n v col fuel s u ph) = view s := by
  induction fuel with
  | zero => exact fun s u ph _ => rfl
  | succ fuel ih =>
    intro s u ph hu
    rw [State.carryFrom]
    split
    · rfl
    · dsimp only
      split
      · split
        · rename_i hw
          exact (ih _ _ _ (neighbour_lt hu hw)).trans (hbump _ _ (plainOf_lt hu))
        · rfl
      · rfl

theorem rimPlain_lt {y p : Nat} (hy : y < 512) (h : s.rimPlain y = some p) : p / 8 < 8 := by
  rw [State.rimPlain] at h
  dsimp only at h
  split at h
  · have := Option.some.inj h
    omega
  · obtain ⟨d, hd, h⟩ := List.exists_of_findSome?_eq_some h
    split at h
    · have := Option.some.inj h
      omega
    · rename_i hnot
      obtain ⟨hc, hp⟩ := Option.ite_none_right_eq_some.mp h
      have := Option.some.inj hp
      omega

theorem rimRow_lt {y : Nat} (hy : y < 512) : s.rimRow y < 512 := by
  rw [State.rimRow]
  split
  · rename_i p hp
    have := rimPlain_lt hy hp
    split
    · exact hy
    · split <;> omega
  · exact hy

theorem bytePow (n : Nat) : 256 ^ n = 2 ^ (8 * n) := (pow_mul 2 8 n).symm

section
variable {t : Nat}

theorem rimTile_lt (ht : t < 262144) : tileAt 0 (s.rimRow (tileY t)) < 262144 := by
  have := rimRow_lt (s := s) (y := tileY t) (by rw [tileY]; omega)
  rw [tileAt]
  omega

theorem carryIn_keeps {β : Type} (view : State → β) (hbump : ∀ (u : State) p, p < 64 → view (u.bump (MESH_PKT_FLITS_COUNT p) 1) = view u)
    (ht : t < 262144) : view (s.carryIn t 1) = view s := by
  rw [State.carryIn]
  exact (carryFrom_keeps view hbump _ _ _ _ _ _ (rimTile_lt ht)).trans (hbump _ _ (plainOf_lt (rimTile_lt ht)))

theorem carryOut_keeps {β : Type} (view : State → β) (hbump : ∀ (u : State) p, p < 64 → view (u.bump (MESH_PKT_FLITS_COUNT p) 1) = view u)
    (ht : t < 262144) : view (s.carryOut t 1) = view s := by
  rw [State.carryOut]
  exact carryFrom_keeps view hbump _ _ _ _ _ _ ht

theorem flitKey_ne {j : Fk} (hj : ∀ k ∈ (List.range 64).map MESH_PKT_FLITS_COUNT, k.key ≠ j.key) (u : State) {p : Nat} (hp : p < 64) :
    (u.bump (MESH_PKT_FLITS_COUNT p) 1).rf j = u.rf j :=
  State.rf_bump_ne (hj _ (List.mem_map.mpr ⟨p, List.mem_range.mpr hp, rfl⟩)).symm 1

theorem hasBad_of_clean {k n : Nat} (h : s.eccBad = []) : s.hasBad k n = false := by
  rw [State.hasBad, h]
  exact List.any_eq_false.mpr fun _ _ => Bool.false_ne_true

variable {b a bytes : Nat} (hup : s.barUp 0 = true) (h1 : 1 ≤ bytes) (h8 : bytes ≤ 8) (hb : apertureHas 0 b = true)
  (hat : s.apertureAt 0 b = some (t, a)) (hg : s.gated = false) (hs : s.plnState (plainOf t) ≠ 4) (hl : localOk a bytes = true)
  (hd : areaOf a = .desk)

include hup h1 h8 hb hat hg hs hl hd

/-- What an aperture access of a desk does past its checks. -/
theorem exec_apertureAccess (write : Option (BitVec 64)) : exec (.apertureAccess 0 b bytes write .clean) s =
    .next (if s.frozen && write.isSome then s
      else if !s.tileOpen t a bytes then s
      else match write with
        | some v => (s.carryIn t 1).routerWrite t a bytes v.toNat .clean
        | none => (((s.carryIn t 1).carryOut t 1).routerRead t a bytes .clean).2.1.emit
          (.rdata ((((s.carryIn t 1).carryOut t 1).routerRead t a bytes .clean).1 % 2 ^ (8 * bytes)))) := by
  have hcond : ¬((!s.barUp 0 || bytes == 0 || decide (8 < bytes) || !apertureHas 0 b) = true) := by
    rw [hup, hb]
    simp only [Bool.not_true, Bool.false_or, Bool.or_false, Bool.or_eq_true, beq_iff_eq, decide_eq_true_eq]
    omega
  have hplace : ¬((s.gated || s.plnState (plainOf t) == 4 || !localOk a bytes || areaOf a == .spill) = true) := by
    rw [hg, hl, hd]
    simpa using hs
  rw [show exec (.apertureAccess 0 b bytes write .clean) s = execApertureAccess 0 b bytes write .clean s from rfl]
  unfold execApertureAccess
  refine congrArg Host.Outcome.next ((if_neg hcond).trans ?_)
  rw [hat]
  exact if_neg hplace

theorem exec_aperture_closed (ho : s.tileOpen t a bytes = false) : exec (.apertureAccess 0 b bytes none .clean) s = .next s := by
  rw [exec_apertureAccess hup h1 h8 hb hat hg hs hl hd none, Option.isSome_none, Bool.and_false, if_neg (by decide),
    if_pos (by rw [ho]; decide)]

theorem exec_aperture_read (ht : t < 262144) (hecc : s.eccBad = []) (ho : s.tileOpen t a bytes = true) :
    ∃ s', exec (.apertureAccess 0 b bytes none .clean) s = .next s' ∧ s'.out = .rdata (s.rdMem (tkey t a) bytes) :: s.out ∧
      BytesKept s s' ∧ RegsKept s s' ((List.range 64).map MESH_PKT_FLITS_COUNT) := by
  have hkeeps : ∀ {β : Type} (view : State → β), (∀ (u : State) p, p < 64 → view (u.bump (MESH_PKT_FLITS_COUNT p) 1) = view u) →
      view ((s.carryIn t 1).carryOut t 1) = view s := fun view hbump =>
    (carryOut_keeps view hbump ht).trans (carryIn_keeps view hbump ht)
  have hmem : ((s.carryIn t 1).carryOut t 1).mem = s.mem := hkeeps State.mem fun _ _ _ => rfl
  have hbad : ((s.carryIn t 1).carryOut t 1).hasBad (tkey t a) bytes = false :=
    hasBad_of_clean ((hkeeps State.eccBad fun _ _ _ => rfl).trans hecc)
  have hread : ((s.carryIn t 1).carryOut t 1).rdMem (tkey t a) bytes = s.rdMem (tkey t a) bytes :=
    State.rdMem_congr fun b _ _ => by rw [State.byte, hmem, State.byte]
  rw [exec_apertureAccess hup h1 h8 hb hat hg hs hl hd none, Option.isSome_none, Bool.and_false, if_neg (by decide),
    if_neg (by rw [ho]; decide), routerRead_desk hd hbad, hread]
  refine ⟨_, rfl, ?_, .of_mem hmem, fun j hj => ?_⟩
  · dsimp only
    rw [Nat.mod_eq_of_lt ((State.rdMem_lt ..).trans_eq (bytePow bytes))]
    exact congrArg _ (hkeeps State.out fun _ _ _ => rfl)
  · exact hkeeps (State.rf · j) fun u p hp => flitKey_ne hj u hp

theorem exec_aperture_write (v : BitVec 64) (ht : t < 262144) (hecc : s.eccBad = []) (ho : s.tileOpen t a bytes = true)
    (hf : s.frozen = false) : ∃ s', exec (.apertureAccess 0 b bytes (some v) .clean) s = .next s' ∧
      s'.rdMem (tkey t a) bytes = v.toNat % 2 ^ (8 * bytes) ∧ BytesKeptBut s s' (tkey t a) bytes ∧
      RegsKept s s' ((List.range 64).map MESH_PKT_FLITS_COUNT) := by
  have hmem : (s.carryIn t 1).mem = s.mem := State.carryIn_mem ..
  have hbad : (s.carryIn t 1).hasBad (tkey t a) bytes = false :=
    hasBad_of_clean ((carryIn_keeps State.eccBad (fun _ _ _ => rfl) ht).trans hecc)
  rw [exec_apertureAccess hup h1 h8 hb hat hg hs hl hd (some v), hf, Bool.false_and, if_neg (by decide), if_neg (by rw [ho]; decide)]
  refine ⟨(s.carryIn t 1).routerWrite t a bytes v.toNat .clean, rfl, ?_, fun c hc => ?_, fun j hj => ?_⟩
  · rw [routerWrite_clean hd hbad, bytePow]
  · rw [routerWrite_desk hd, State.tileStore_bytesKeptBut _ _ _ _ _ _ c hc, State.byte, hmem, State.byte]
  · rw [routerWrite_desk hd, State.tileStore_clean hbad, State.storeEcc_rf]
    exact carryIn_keeps (State.rf · j) (fun u p hp => flitKey_ne hj u hp) ht

end

/-! ### Latches -/

theorem Latch.word_mod (l : Latch) (b0 b1 : Bool) : l.word b0 b1 % 4 = (b2n b0 + b2n b1 * 2) % 4 := by
  rw [Latch.word]
  split
  · rfl
  · split <;> omega

theorem latchOwner_st (w : Owner) : (s.latchOwner w).st = 1 := by cases w <;> rfl

theorem heldBy_of_st {l : Latch} (h : l.st ≠ 1) (w : Owner) : l.heldBy w = false := by
  unfold Latch.heldBy
  rw [beq_eq_false_iff_ne.mpr h, Bool.false_and]

section
variable {w : Owner} {k : Nat} (hr : s.latchReach w k = true)
include hr

theorem exec_latchAcquire : exec (.latchAcquire w k) s = .next ((s.latchRead w k).2.emit (.rdata (s.latchRead w k).1)) :=
  congrArg Host.Outcome.next (if_pos hr)

theorem exec_latchRelease (hd : s.discards w = false) : exec (.latchRelease w k) s = .next (s.latchFree w k) :=
  congrArg Host.Outcome.next (if_pos (by rw [hr, hd]; decide))

theorem exec_latchForce (hd : s.discards w = false) : exec (.latchForce w k) s = .next (s.latchBreak w k) :=
  congrArg Host.Outcome.next (if_pos (by rw [hr, hd]; decide))

end

theorem State.latch_setLatch (k : Nat) (l : Latch) : (s.setLatch k l).latch k = l := sget_sset_self ..

section
variable {w : Owner} {k : Nat} (hg : s.latchGranted w k = true)
include hg

theorem latchRead_granted : s.latchRead w k = if (s.latch k).heldBy w then ((s.latch k).word true false, s)
    else if (s.latch k).st = 1 then ((s.latch k).word false false, s)
    else if (s.latch k).st = 2 then ((s.latchOwner w).word true true, (s.setLatch k (s.latchOwner w)).bump LAT_BROKEN_COUNT)
    else ((s.latchOwner w).word true false, s.setLatch k (s.latchOwner w)) := by
  rw [State.latchRead, if_neg (by rw [hg]; decide)]

theorem latchRead_free (h : (s.latch k).st = 0) :
    s.latchRead w k = ((s.latchOwner w).word true false, s.setLatch k (s.latchOwner w)) := by
  rw [latchRead_granted hg, heldBy_of_st (by omega), if_neg (by decide), if_neg (by omega), if_neg (by omega)]

theorem latchRead_broken (h : (s.latch k).st = 2) :
    s.latchRead w k = ((s.latchOwner w).word true true, (s.setLatch k (s.latchOwner w)).bump LAT_BROKEN_COUNT) := by
  rw [latchRead_granted hg, heldBy_of_st (by omega), if_neg (by decide), if_neg (by omega), if_pos h]

theorem latchRead_other (h : (s.latch k).st = 1) (hh : (s.latch k).heldBy w = false) :
    s.latchRead w k = ((s.latch k).word false false, s) := by
  rw [latchRead_granted hg, hh, if_neg (by decide), if_pos h]

theorem latchFree_held (h : (s.latch k).heldBy w = true) : s.latchFree w k = s.setLatch k {} := by
  rw [State.latchFree, hg, h]
  rfl

end

theorem latchFree_denied {w : Owner} {k : Nat} (h : (s.latch k).heldBy w = false) : s.latchFree w k = s.bump LAT_DENIED_COUNT := by
  rw [State.latchFree, h, Bool.and_false]
  rfl

end

/-! ### The obligation, part by part -/

section
variable (s : State)

theorem surface_registers (f off o : Nat) (v : BitVec 64) (hspot : spotOf f off = .reg o) (hal : off % 8 = 0) :
    (s.barUp f = true → s.frozen = false → exec (.registerWrite f off v) s = .next (s.regWrite (ownerOf f) o v.toNat)) ∧
    (s.frozen = true → heldWrite o v.toNat = false → exec (.registerWrite f off v) s = .next s) ∧
    (s.barUp f = true → exec (.rcRegisterRead f off) s =
      .next ((s.regRead (ownerOf f) o).2.emit (.rdata (s.regRead (ownerOf f) o).1))) :=
  ⟨fun hup hf => congrArg Host.Outcome.next (hostWrite_taken hspot hal hup hf),
    fun hf hh => congrArg Host.Outcome.next (hostWrite_held hspot hf hh), fun hup => congrArg Host.Outcome.next (hostRead_reg hspot hal hup)⟩

theorem surface_orphans (p : Nat) (hp : p < 64) (hup : s.barUp 0 = true) (hr : s.pageReady (plainPage p 1) = true) :
    let k := MESH_ORPHANS_COUNT p
    (s.rb (hCTRL_CNT_FREEZE (plainPage p 1)) = false → exec (.rcRegisterRead 0 k.off) s = .next ((s.wf k 0).emit (.rdata (s.rf k)))) ∧
    (s.rb (hCTRL_CNT_FREEZE (plainPage p 1)) = true →
      exec (.rcRegisterRead 0 k.off) s = .next (s.emit (.rdata (sget (keyReset k.key) s.cap k.key)))) := by
  have hoff : (MESH_ORPHANS_COUNT p).off < 0x400000 ∧ (MESH_ORPHANS_COUNT p).off % 8 = 0 := by
    rw [show (MESH_ORPHANS_COUNT p).off = 0x200000 + p * 0x4000 + 1 * 0x1000 + 0x128 from rfl]
    omega
  have hread : exec (.rcRegisterRead 0 (MESH_ORPHANS_COUNT p).off) s = .next ((s.regRead (ownerOf 0) (MESH_ORPHANS_COUNT p).off).2.emit
      (.rdata (s.regRead (ownerOf 0) (MESH_ORPHANS_COUNT p).off).1)) :=
    congrArg Host.Outcome.next (hostRead_reg (spotOf_pf0 hoff.1) hoff.2 hup)
  refine ⟨fun hfr => ?_, fun hfr => ?_⟩
  · rw [hread, regRead_orphans _ hp hr, if_neg (by rw [hfr]; decide)]
  · rw [hread, regRead_orphans _ hp hr, if_pos hfr]

theorem surface_badAccess (f off o bytes : Nat) (wr : Bool) (hup : s.barUp f = true) (hspot : spotOf f off = .reg o) (h1 : 1 ≤ bytes)
    (hs : bytes < 8 ∨ (bytes = 8 ∧ off % 8 ≠ 0)) :
    let s1 := if wr then s else s.emit (.rdata 0)
    (inRegisters o = true → s.rf HST_BAD_ACCESS_BYTES = 0 → exec (.misalignedRegisterAccess f off bytes wr) s =
      .next ((s1.wfs [(HST_BAD_ACCESS_OFFSET, off), (HST_BAD_ACCESS_BYTES, bytes), (HST_BAD_ACCESS_WRITE, b2n wr),
        (HST_BAD_ACCESS_FUNC, f)]).raise 0x4001 pgHST)) ∧
    (inRegisters o = true → s.rf HST_BAD_ACCESS_BYTES ≠ 0 → exec (.misalignedRegisterAccess f off bytes wr) s =
      .next (s1.raise 0x4001 pgHST)) ∧
    (inRegisters o = false → exec (.misalignedRegisterAccess f off bytes wr) s = .next s1) := by
  have hrf : (if wr then s else s.emit (.rdata 0)).rf HST_BAD_ACCESS_BYTES = s.rf HST_BAD_ACCESS_BYTES :=
    ite_view (State.rf · HST_BAD_ACCESS_BYTES) rfl rfl
  refine ⟨fun hin h0 => ?_, fun hin h0 => ?_, fun hin => ?_⟩
  · rw [exec_misaligned_reg hup hspot h1 hs, if_pos hin, State.badAccess, if_pos (hrf.trans h0)]
  · rw [exec_misaligned_reg hup hspot h1 hs, if_pos hin, State.badAccess, if_neg (by rw [hrf]; exact h0)]
  · rw [exec_misaligned_reg hup hspot h1 hs, if_neg (by rw [hin]; decide)]

theorem surface_cntFreeze (f n i : Nat) (v : BitVec 64) (hn : n < 16) (hi : i < 10) (hw : s.writes f n = true)
    (hv : v.toNat.testBit 1 = true) :
    ∃ s', exec (.cntFreezeWrite f (partPage n i) v) s = .next s' ∧ s'.rb (hCTRL_CNT_FREEZE (partPage n i)) = true ∧
      s'.rf (hCTRL_BLOCK (partPage n i)) = bits v.toNat 32 32 ∧ BytesKept s s' ∧
      RegsKept s s' [hCTRL_CNT_FREEZE (partPage n i), hCTRL_SHADOW_VIEW (partPage n i), hCTRL_STAGE_IRQ (partPage n i),
        hCTRL_BLOCK (partPage n i)] := by
  have hbase : pageBase (partPage n i) = partPage n i := pageBase_aligned (r := 0) (partPage_aligned n i) (by decide)
  refine ⟨_, exec_cntFreezeWrite v (by rw [hbase]; exact mayWrite_partPage hn hi hw), ?_⟩
  rw [hbase]
  exact ⟨(writeCtrl_freeze _ _).trans hv, writeCtrl_block _ _, .of_mem (State.writeCtrl_mem ..),
    writeCtrl_kept _ (countTime_partPage hn hi)⟩

theorem surface_sriov (n k : Nat) (msix : List Nat) (hn : n ≤ 16) (hup : s.fnUp 0 = true) :
    ∃ s', exec (.sriovNumvfsWrite n msix) s = .next s' ∧
      s'.pcie.numVfs = n ∧ (k ∈ s'.pcie.vfMsix ↔ 1 ≤ k ∧ k ≤ n ∧ k ∈ msix) ∧ s'.pcie.l0 = s.pcie.l0 ∧ BytesKept s s' ∧ RegsKept s s' [] :=
  ⟨_, congrArg Host.Outcome.next (if_pos ⟨hn, hup⟩), rfl, mem_vfs n k msix, rfl, fun _ => rfl, fun _ _ => rfl⟩

theorem surface_latches (w : Owner) (k : Nat) (hr : s.latchReach w k = true) (hg : s.latchGranted w k = true) :
    ((s.latch k).st = 0 → ∃ s' d, exec (.latchAcquire w k) s = .next s' ∧ s'.latch k = s.latchOwner w ∧ s'.out = .rdata d :: s.out ∧
      d % 4 = 1 ∧ BytesKept s s' ∧ RegsKept s s' []) ∧
    ((s.latch k).st = 2 → ∃ s' d, exec (.latchAcquire w k) s = .next s' ∧ s'.latch k = s.latchOwner w ∧ s'.out = .rdata d :: s.out ∧
      d % 4 = 3 ∧ BytesKept s s' ∧ RegsKept s s' [LAT_BROKEN_COUNT]) ∧
    ((s.latch k).st = 1 → (s.latch k).heldBy w = false → ∃ d, exec (.latchAcquire w k) s = .next (s.emit (.rdata d)) ∧ d % 4 = 0) ∧
    (s.discards w = false →
      ((s.latch k).heldBy w = true → exec (.latchRelease w k) s = .next (s.setLatch k {})) ∧
      ((s.latch k).heldBy w = false → exec (.latchRelease w k) s = .next (s.bump LAT_DENIED_COUNT))) := by
  refine ⟨fun h => ?_, fun h => ?_, fun h hh => ?_, fun hd => ⟨fun h => ?_, fun h => ?_⟩⟩
  · rw [exec_latchAcquire hr, latchRead_free hg h]
    exact ⟨_, _, rfl, State.latch_setLatch .., rfl, (Latch.word_mod ..).trans rfl, fun _ => rfl, fun _ _ => rfl⟩
  · rw [exec_latchAcquire hr, latchRead_broken hg h]
    exact ⟨_, _, rfl, State.latch_setLatch .., rfl, (Latch.word_mod ..).trans rfl, fun _ => rfl,
      fun j hj => State.rf_bump_ne (hj _ (.head _)).symm 1⟩
  · rw [exec_latchAcquire hr, latchRead_other hg h hh]
    exact ⟨_, rfl, (Latch.word_mod ..).trans rfl⟩
  · rw [exec_latchRelease hr hd, latchFree_held hg h]
  · rw [exec_latchRelease hr hd, latchFree_denied h]

theorem surface_force (w : Owner) (k : Nat) (hr : s.latchReach w k = true) (hd : s.discards w = false) :
    (w = .pf0 → (s.latch k).st = 1 → exec (.latchForce w k) s = .next (s.setLatch k { s.latch k with st := 2 })) ∧
    (w = .pf0 → (s.latch k).st ≠ 1 → exec (.latchForce w k) s = .next s) ∧
    (w ≠ .pf0 → exec (.latchForce w k) s = .next s) := by
  rw [exec_latchForce hr hd, State.latchBreak]
  exact ⟨fun hw h => congrArg _ (if_pos ⟨hw, h⟩), fun _ h => congrArg _ (if_neg fun hc => h hc.2),
    fun hw => congrArg _ (if_neg fun hc => hw hc.1)⟩

end

theorem spotOf_pf0_high {off o : Nat} (h : 0x400000 ≤ off) : spotOf 0 off ≠ .reg o := by
  rw [spotOf, if_pos rfl, if_neg (by omega)]
  split <;> exact fun h => by cases h

/-- Settles O60. -/
theorem surfaceAndLatches : Obligations.SurfaceAndLatches := by
  unfold Obligations.SurfaceAndLatches
  refine ⟨surface_registers, fun s v hup hf hr => registerWrite_flt v hup hf hr, fun s k v hk hup hf hr => ?_, fun s off v h => ?_,
    surface_orphans, surface_badAccess, fun s f off bytes hup hspot h1 h8 => ⟨exec_misaligned_none hup hspot h1 h8,
      exec_misaligned_none hup hspot h1 h8⟩, surface_cntFreeze, fun s f pg v h => exec_cntFreezeWrite v h,
    fun s pg v => ⟨fun h => (writeCtrl_freeze pg v).trans h, fun h => (writeCtrl_freeze pg v).trans h, .of_mem (State.writeCtrl_mem ..)⟩,
    surface_sriov, fun s b t a bytes v hup h1 h8 hb hat ht hg hs hl hd hecc => ⟨fun ho =>
      ⟨exec_aperture_read hup h1 h8 hb hat hg hs hl hd ht hecc ho, fun hf => exec_aperture_write hup h1 h8 hb hat hg hs hl hd v ht hecc ho hf⟩,
      exec_aperture_closed hup h1 h8 hb hat hg hs hl hd⟩, fun s n v => ⟨fun hw hr => ?_, fun hw hr => ?_⟩, surface_latches, surface_force⟩
  · refine ⟨_, registerWrite_jtagResp v hk hup hf hr, (State.rf_wf_self ..).trans (Nat.mod_eq_of_lt v.isLt),
      fun j hj => State.rf_wf_ne _ _ (hj _ (.head _)).symm, .of_mem (State.wf_mem ..)⟩
  · rw [show exec (.registerWrite 0 off v) s = execRegisterWrite 0 off v s from rfl, execRegisterWrite, State.hostWrite]
    split
    · rename_i hspot
      exact absurd hspot (spotOf_pf0_high h)
    · rfl
  · exact congrArg Host.Outcome.next (if_pos ⟨hw, hr⟩)
  · exact congrArg Host.Outcome.next (if_pos ⟨hw, hr⟩)

end Sys2Proof.Machine

/-! PROOF. A round of the sweep engines whose read of INFL raises a fault: O40. -/

namespace Sys2Proof.Machine

/-! ### Costs that are all 0 stay so -/

theorem relax_le (own : Nat) (l : List (Nat × Nat)) : (relax own l).1 ≤ own := by
  have h : ∀ (l : List (Nat × Nat)) (p : Nat × Bool), p.1 ≤ own →
      (l.foldl (fun (p : Nat × Bool) (q : Nat × Nat) => if q.1 = 0xFFFF then p
        else if 65534 < q.1 + q.2 then (min p.1 65534, true) else (min p.1 (q.1 + q.2), p.2)) p).1 ≤ own := by
    intro l
    induction l with
    | nil => exact fun p hp => hp
    | cons q l ih =>
      intro p hp
      refine ih _ ?_
      dsimp only
      split
      · exact hp
      · split <;> exact (Nat.min_le_left _ _).trans hp
  exact h l (own, false) le_rfl

/-- The costs of a tile, each of them 0. -/
def ZeroCosts (c : Array Nat) : Prop := c.size = 16384 ∧ ∀ d k, k < 16384 → c.getD k d = 0

theorem ZeroCosts.set {c : Array Nat} (h : ZeroCosts c) (k : Nat) : ZeroCosts (c.setIfInBounds k 0) := by
  obtain ⟨hsize, hzero⟩ := h
  refine ⟨by rw [Array.size_setIfInBounds, hsize], fun d j hj => ?_⟩
  have hj' : j < c.size := by omega
  have hold := hzero d j hj
  rw [Array.getD_eq_getD_getElem?] at hold ⊢
  rw [Array.getElem?_setIfInBounds]
  split
  · rw [if_pos (by omega)]
    rfl
  · exact hold

theorem costsOf_zero : ZeroCosts (costsOf 0) := by
  have hbits : ∀ k, bits 0 (16 * k) 16 = 0 := fun k => by rw [bits, Nat.zero_div, Nat.zero_mod]
  refine ⟨by rw [costsOf]; simp, fun d k hk => ?_⟩
  rw [costsOf, Array.getD_eq_getD_getElem?, List.getElem?_toArray, List.getElem?_map, List.getElem?_range hk]
  exact hbits k

theorem costPass_zero (fwd : Bool) (ss sd infl h : Nat) (nb : Nat → Bool) {p : Array Nat × Bool} (hp : ZeroCosts p.1) :
    ZeroCosts (costPass fwd ss sd infl h nb p).1 := by
  rw [costPass]
  have horder : ∀ k ∈ (if fwd then List.range 16384 else (List.range 16384).reverse), k < 16384 := fun k hk => by
    split at hk
    · exact List.mem_range.mp hk
    · exact List.mem_range.mp (List.mem_reverse.mp hk)
  dsimp only
  generalize (if fwd then List.range 16384 else (List.range 16384).reverse) = order at horder
  induction order generalizing p with
  | nil => exact hp
  | cons k order ih =>
    refine ih ?_ fun j hj => horder j (.tail _ hj)
    dsimp only
    split
    · exact hp
    · have hown := hp.2 0xFFFF k (horder k (.head _))
      rw [hown, Nat.le_zero.mp (relax_le 0 _)]
      exact hp.set k

theorem costsNum_zero {c : Array Nat} (h : ZeroCosts c) : costsNum c = 0 := by
  rw [costsNum]
  refine List.sum_eq_zero fun x hx => ?_
  obtain ⟨k, hk, rfl⟩ := List.mem_map.mp hx
  rw [h.2 0 k (List.mem_range.mp hk), Nat.zero_mul]

/-! ### A round over costs that are all 0 -/

section
variable {s : State} {n t : Nat}

theorem rowsRead_clean {r k : Nat} (h : s.hasBad (tkey t (s.sweepRow n r)) (2048 * k) = false) :
    s.rowsRead n t r k = (s.rdMem (tkey t (s.sweepRow n r)) (2048 * k), s) := by
  rw [State.rowsRead, State.wideRead_clean h]
  dsimp only
  rw [h, if_neg Bool.false_ne_true, State.raiseEcc_clean]

theorem rowsWrite_setEng (e : SweepEng) (r k v : Nat) : ((s.setEng t e).rowsWrite n t r k v).mem = (s.rowsWrite n t r k v).mem := by
  rw [State.rowsWrite, State.rowsWrite, State.wrMem, State.wrMem, State.sweepRow, State.sweepRow, State.setEng_mem, State.setEng,
    State.updTile_rf]

/-- Where the costs read 0, a round that is not skipped writes 0 into the rows of the costs, wherever they stand once INFL has been
read. -/
theorem costRound_zero (hhalo : s.hasBad (tkey t (s.sweepRow n (4 + (s.eng t).round % 2))) (2048 * 1) = false)
    (hcost : s.hasBad (tkey t (s.sweepRow n 8)) (2048 * 16) = false) (hzero : s.rdMem (tkey t (s.sweepRow n 8)) (2048 * 16) = 0)
    (hchanged : (s.eng t).changed = true) :
    (s.costRound n t).mem = ((s.rowsRead n t 1 1).2.rowsWrite n t 8 16 0).mem := by
  have hskip : s.unchanged n t = false := by rw [State.unchanged, hchanged, Bool.not_true, Bool.false_and]
  rw [State.costRound]
  simp only [rowsRead_clean hhalo, rowsRead_clean hcost, hzero, hskip, Bool.false_eq_true, if_false]
  rw [costsNum_zero (costPass_zero _ _ _ _ _ _ (costPass_zero _ _ _ _ _ _ (p := (costsOf 0, false)) costsOf_zero))]
  refine (ite_view State.mem (State.sweepReport_mem ..) rfl).trans ((State.sendMsg_mem ..).trans ?_)
  split
  · exact (State.wf_mem ..).trans (rowsWrite_setEng ..)
  · exact rowsWrite_setEng ..

theorem engStep_rounds {w : Sweep} (hp : (s.eng t).phase = 3) (hh : s.holdsAll n t 0 (s.eng t).round (fun _ => true) = true) :
    s.engStep n t w = s.costRound n t := by
  rw [State.engStep, hp]
  exact (if_neg (by decide)).trans ((if_neg (by decide)).trans ((if_neg (by decide)).trans ((if_neg (by decide)).trans
    ((if_neg (by decide)).trans ((if_neg (by decide)).trans ((if_pos rfl).trans (if_pos hh)))))))

end

/-! ### The counterexample -/

/-- The load that runs: a warm one, whose plain is the tile's, for a partition number so large that the state of its copy A stands
where the register PSW.LAYOUT of partition 0 does. -/
def strayLoad : Load := { part := 0x5F5D1, warm := true, src := 0, reader := 0, copy := 0, placing := true }

/-- The registers: partition 0 is plain 0, its grid is tile 0, its sweep rows begin at row 100, and a fault of class 1 of the tile full-fences
its plain. -/
def strayRegs : State :=
  State.reset.wfs [(PART_GEOM_W 0, 1), (PART_GEOM_H 0, 1), (PSW_GRID_W 0, 1), (PSW_GRID_H 0, 1), (PLN_STATE_STATE 0, 0),
    (PSW_LAYOUT_BASE_ROW 0, 100), (hREACT (tilePage 0) 1, 5)]

/-- Tile 0 in its rounds; a word of INFL, in row 101, cannot be corrected, and of memory only the first byte of row 12 is not 0. -/
def strayRound : State :=
  { ((strayRegs.updKeeper fun k => { k with load := some strayLoad }).updPart 0 fun p => { p with sweep := some {} }).updTile 0 fun x =>
      { x with sweep := { phase := 3, changed := true } } with
    mem := [(0x40006000, 1)], eccBad := [(0x40032800 / 8, ())] }

/-- The round once the engine has taken in its messages, of which there are none. -/
def strayAbsorbed : State := strayRound.absorb 0 0

theorem strayRound_byte (a : Nat) : strayRound.byte a = if 0x40006000 = a then 1 else 0 := by
  rw [State.byte, strayRound, sget, sget?]
  split <;> rfl

theorem strayAbsorbed_byte (a : Nat) : strayAbsorbed.byte a = if 0x40006000 = a then 1 else 0 := by
  rw [← strayRound_byte, strayAbsorbed, State.absorb, show (strayRound.eng 0).inbox = [] from rfl, List.foldl_nil, State.byte,
    State.setEng_mem, State.byte]

/-- Reading the damaged row raises a fault that full-fences the plain and ends the load, and the end of the load writes 4 into BASE_ROW. -/
theorem strayAbsorbed_base : ((strayAbsorbed.rowsRead 0 0 1 1).2).sweepRow 0 8 = 0x40006000 := by decide +kernel

theorem rdMem_zero {s : State} {k n : Nat} (h : ∀ a, k ≤ a → a < k + n → s.byte a = 0) : s.rdMem k n = 0 := by
  induction n generalizing k with
  | zero => rfl
  | succ n ih =>
    rw [State.rdMem, h k le_rfl (by omega), ih fun a h1 h2 => h a (by omega) (by omega)]
    rfl

theorem strayAbsorbed_rows : tkey 0 (strayAbsorbed.sweepRow 0 8) = 0x40036000 := by decide +kernel

theorem strayAbsorbed_zero : strayAbsorbed.rdMem (tkey 0 (strayAbsorbed.sweepRow 0 8)) (2048 * 16) = 0 := by
  rw [strayAbsorbed_rows]
  refine rdMem_zero fun a h1 _ => ?_
  rw [strayAbsorbed_byte, if_neg (by omega)]

theorem strayAbsorbed_clean :
    strayAbsorbed.hasBad (tkey 0 (strayAbsorbed.sweepRow 0 (4 + (strayAbsorbed.eng 0).round % 2))) (2048 * 1) = false ∧
      strayAbsorbed.hasBad (tkey 0 (strayAbsorbed.sweepRow 0 8)) (2048 * 16) = false := by decide +kernel

/-- The round of the counterexample writes 0 over the first byte of row 12. -/
theorem strayRound_after : (strayAbsorbed.costRound 0 0).byte 0x40006000 = 0 := by
  have hmem := costRound_zero (n := 0) (t := 0) strayAbsorbed_clean.1 strayAbsorbed_clean.2 strayAbsorbed_zero (by decide +kernel)
  rw [State.rowsWrite, strayAbsorbed_base] at hmem
  rw [State.byte, hmem, ← State.byte, State.wrMem_byte, if_pos (by decide +kernel)]
  rfl

theorem exec_strayRound : exec (.sweepRound 0) strayRound = .next (strayAbsorbed.costRound 0 0) := by
  have hpart : strayRound.tilePart 0 = some 0 := by decide +kernel
  have hstopped : strayRound.engStopped 0 = false := by decide +kernel
  have hout : (strayRound.eng 0).outbox = [] := by decide +kernel
  have hsweep : (strayRound.part 0).sweep = some {} := by decide +kernel
  have hidle : (!strayRound.inGrid 0 0 || strayRound.sweepHeld 0 0) = false := by decide +kernel
  have hphase : (strayAbsorbed.eng 0).phase = 3 := by decide +kernel
  have hholds : strayAbsorbed.holdsAll 0 0 0 (strayAbsorbed.eng 0).round (fun _ => true) = true := by decide +kernel
  obtain ⟨hgrid, hheld⟩ := Bool.or_eq_false_iff.mp hidle
  rw [show exec (.sweepRound 0) strayRound = execSweepRound 0 strayRound from rfl, execSweepRound, hpart]
  dsimp only
  rw [hstopped, if_neg (by decide), hsweep, hout, List.length_nil, State.flushOut]
  dsimp only
  rw [hgrid, hheld, hout, if_neg (by decide), show strayRound.absorb 0 0 = strayAbsorbed from rfl, engStep_rounds hphase hholds]

/-- Refutes O40: the statement bounds neither the rows that a round reads to words that can be corrected nor the numbers of a load that
runs. An uncorrectable word of INFL raises a fault; where that full-fences the plain of a warm load for partition 0x5F5D1, the end of the
load writes the copy's state over PSW.LAYOUT of partition 0, and the round writes its costs into rows 12 to 27 instead of 108 to 123. -/
theorem not_sweepEngines : ¬ Obligations.SweepEngines := by
  intro h
  have hround := (h.1 strayRound 0 0 {} (by decide +kernel) (by decide +kernel) rfl (by decide +kernel) (by decide +kernel)
    (by decide +kernel) (by decide +kernel) (by decide +kernel) (by decide +kernel) (by decide +kernel)).2
  obtain ⟨s', hs', -, hkept⟩ := hround (by decide +kernel) (by decide +kernel)
  obtain rfl := Host.Outcome.next.inj (exec_strayRound.symm.trans hs')
  have hbyte := hkept 0x40006000 (by decide +kernel)
  rw [strayRound_after, strayRound_byte, if_pos rfl] at hbyte
  exact absurd hbyte (by decide)

end Sys2Proof.Machine
